-- ==== Sys2Proof/Word.lean ====
section
/-! DEFINITION. The words of the module: bytes, 32-bit registers and signal words, 64-bit times and tallies,
and the plainest reading of a word as a signed number. -/

namespace Sys2Proof

/-- A byte of a fault record, a payload or an image. -/
abbrev Byte := BitVec 8

/-- A 32-bit register or signal-memory word (R6, R276). -/
abbrev Word := BitVec 32

/-- A 64-bit quantity: an FT, a tally, an instruction word. -/
abbrev DWord := BitVec 64

end Sys2Proof
end

