-- ==== Sys2Proof/Syntax.lean ====
section
/-! DEFINITION. The commands of the module, one constructor of `Instr` per row of spec/opcode_table.json, and the data
they carry: the accesses of the host, the frames and messages a rod receives, the readings of its pins, and the
instruction fields of the Reckoner. Every command names the rod it reaches (R19: no element is shared between rods). -/

namespace Sys2Proof

/-- The three rods (R3, R47: codes 0, 1, 2). -/
inductive RodId where
  | x | y | z
deriving DecidableEq, Repr

/-- Axis number 0 to 2. -/
abbrev Axis := Fin 3

/-- Phase U 0, V 1, W 2. -/
abbrev Phase := Fin 3

/-- Access path of a write, coded in LOCK.PATH (Table 2.9). -/
inductive Path where
  | linkX | linkY | linkZ | firmware
deriving DecidableEq, Repr

/-- FlexRay channel. -/
inductive Chan where
  | a | b
deriving DecidableEq, Repr

/-- Three like things, one per rod, per axis or per phase. -/
structure Tri (α : Type) where
  e0 : α
  e1 : α
  e2 : α
deriving DecidableEq, Repr

/-- The epoch that every carry frame carries, with the flag that marks it valid (R478). -/
structure Epoch where
  num   : BitVec 16
  valid : Bool
deriving DecidableEq, Repr

/-- A dq frame (R24, R286, R485): whether its CRC is right as it arrives (CR_CNT, Table 14.8), tick number, epoch, the sets marked
fresh (R287), the residual flags of the sender and the 32 words of its slot. -/
structure DqFrame where
  crcOk : Bool
  tick  : Word
  epoch : Epoch
  fresh : BitVec 3
  resid : BitVec 3
  words : List Word
deriving DecidableEq, Repr

/-- A torque exchange copy of the lead (R289): the words 3, 4 and 8 to 15 of the area, as a list of 16 words. -/
structure TorqueCopy where
  axis  : Axis
  epoch : Epoch
  words : List Word
deriving DecidableEq, Repr

/-- An outer-loop state copy (R291): `complete` is false when only a part has arrived. -/
structure StateCopy where
  axis     : Axis
  epoch    : Epoch
  complete : Bool
  words    : List Word
deriving DecidableEq, Repr

/-- A set-state message (R343), with the FT of the change. (DEDUCED, log entry 25) -/
structure SetState where
  axis  : Axis
  epoch : Epoch
  on    : Bool
  ft    : DWord
deriving DecidableEq, Repr

/-- A set-point copy (R471, R472): header and values. -/
structure SetpointCopy where
  launch : DWord
  handle : BitVec 16
  seq    : BitVec 16
  axis   : Axis
  first  : Nat
  vals   : List Word
deriving DecidableEq, Repr

/-- A judgement message (R482, Table 14.1). -/
structure JudgeMsg where
  judged : RodId
  kind   : Nat
  axis   : Nat
  tick   : Word
deriving DecidableEq, Repr

/-- A time frame (R670), in picoseconds: cluster time (if valid) and FT of the sender at its capture instant, and its FT as the
frame left. -/
structure TimeMsg where
  valid  : Bool
  ts     : Int
  fts    : Int
  fttx   : Int
deriving DecidableEq, Repr

/-- What a time-base frame says (R111): B, the counter byte, and the cycle in which it was received, not wrapped. -/
structure TbFrame where
  base    : Nat
  counter : Nat
  cycle   : Nat
deriving DecidableEq, Repr

/-- Where the own cluster stands at a capture instant (R112): communication cycle (not wrapped), macrotick, microtick. -/
structure ClusterPos where
  cycle     : Nat
  macrotick : Nat
  microtick : Nat
deriving DecidableEq, Repr

/-- A pump phase message of the lead (R376, R379), with what its records show: OSPD of the lead and the cause of a
BRAKE or FAULT phase (R388). -/
structure PumpPhaseMsg where
  axis  : Axis
  epoch : Epoch
  phase : Nat
  tick  : Word
  hoTq  : Word
  ospd  : Word
  cause : Nat
deriving DecidableEq, Repr

/-- LOCK, DIR and REST of one rod's own set (R377). -/
structure PumpStatus where
  axis : Axis
  lock : Bool
  dir  : Bool
  rest : Bool
deriving DecidableEq, Repr

/-- A report of a violated safety function (R552): 1 SLS, 2 SLP, 3 SDI. -/
structure SfMsg where
  axis : Axis
  fn   : Nat
  tick : Word
deriving DecidableEq, Repr

/-- The arguments of CONTRACT_ADMIT (Table 7.1), the endpoints as encoded in Table 7.2. -/
structure ContractArgs where
  kind     : Nat
  cls      : Nat
  period   : Nat
  deadline : Nat
  offset   : Nat
  src      : Tri (BitVec 16)
  dst      : Tri (BitVec 16)
  count    : Nat
deriving DecidableEq, Repr

/-- A contract proposal of an admitting rod (R237 to R239). -/
structure AdmitProposal where
  index : Nat
  gen   : Nat
  queue : Nat
  args  : ContractArgs
deriving DecidableEq, Repr

/-- A partner's answer to a proposal: 0 accepted, otherwise a reason of Table 7.7; its part of the bound; and its destination,
with the buffer chosen for AUTO (R258). -/
structure AdmitAnswer where
  index  : Nat
  reason : Nat
  bound  : Nat
  dst    : BitVec 16
deriving DecidableEq, Repr

/-- A submission descriptor (Table 6.3); `rsv` gathers every bit that must be 0. -/
structure Desc where
  opc    : BitVec 8
  fence  : Bool
  irq    : Bool
  atFt   : Bool
  rod    : BitVec 2
  rsv    : Word
  cid    : BitVec 16
  ft     : DWord
  addr   : DWord
  len    : Word
  devOff : Word
  arg    : List Byte
deriving DecidableEq, Repr

/-- A FlexRay frame as the controller receives it on a channel (R140, R156 to R159, R165, R168, R170, R181). `err` is 0 for a
frame without an error, 1 for a syntax error, 2 for a content error; `preamble`, `sync` and `startup` are the indicators of its
header; `offset` is the start of the TSS minus the action point, in nanoseconds; `idle` says the channel was idle again before the
slot ended. -/
structure FrFrame where
  err      : Fin 3
  null     : Bool
  sync     : Bool
  startup  : Bool
  preamble : Bool
  offset   : Int
  idle     : Bool
  payload  : List Byte
deriving DecidableEq, Repr

/-- A slot at its end (R156 to R160): the slot, the communication cycle (not wrapped), the FT of the slot's action point, and what
came on channel A and on channel B. (DESIGN CHOICE, log entry 69) -/
structure FrSlot where
  slot  : Nat
  cycle : Nat
  ft    : DWord
  a     : Option FrFrame
  b     : Option FrFrame
deriving DecidableEq, Repr

/-- What the controller puts into the header of a frame it sends (R140, R148): the cycle count and the indicators. -/
structure FrHead where
  cycle    : Nat
  null     : Bool
  sync     : Bool
  startup  : Bool
  preamble : Bool
deriving DecidableEq, Repr

/-- An event folded into a tally (Table 15.2). Pair 0: a register-file or control-register write, a store with its byte mask, a
load address, the target of a taken branch, an interrupt accepted. Pairs 1 to 4: a write of v0 to v31 or of an accumulator, a
change of a flag (its bit of COL_FLAGS), a store, an address read (0 signal memory, 1 coefficients, 2 tables, 3 curves), the PC at
HALT, at a stop (code 0) and at an exception. -/
inductive LsEvent where
  | reg (n : Nat) (w : Word)
  | ctrl (n : Nat) (w : Word)
  | store (addr : Nat) (w : Word) (mask : Nat)
  | load (addr : Nat)
  | branch (target : Nat)
  | irq (vector pc : Nat)
  | val (n : Nat) (w : Word)
  | acc (n : Nat) (w : BitVec 72)
  | flag (bit : Nat) (on : Bool)
  | put (word : Nat) (w : Word)
  | access (kind : Nat) (addr : Nat)
  | stop (pc : Nat) (code : Nat)
deriving DecidableEq, Repr

/-- The level a ball is driven to, or high impedance. -/
inductive Ball where
  | highZ
  | low
  | high
deriving DecidableEq, Repr

/-- A serial frame as received (Table 12.3): the position bits as transmitted, the error and warning bits, the CRC,
the stop bit, the lead-in step that the start bit answered (0: none), the line delay in FBK cycles, whether the
acknowledge came, and whether data was high again within RECOV. -/
structure SerialFrame where
  pos     : BitVec 40
  nErr    : Bool
  nWarn   : Bool
  crc     : BitVec 6
  stop    : Bool
  step    : Nat
  delay   : Nat
  ack     : Bool
  idle    : Bool
deriving DecidableEq, Repr

/-- What the ADCs convert at one sampling instant (R282, Table 8.3): the shunt voltage V_CSP − V_CSN in nV per axis and phase
(R336), and the codes of Table 10.1 of the phase voltages, VM, VGD and die temperature. -/
structure AdcWords where
  cur  : Tri (Tri Int)
  volt : Tri (Tri (BitVec 16))
  vm   : BitVec 16
  vgd  : BitVec 16
  temp : BitVec 16
deriving DecidableEq, Repr

/-- The verdicts of the security engine's primitives on an image (Table 19.3 steps 3 to 5). (DESIGN CHOICE, log entry 11) -/
structure Verdict where
  hashOk   : Bool
  ecdsaOk  : Bool
  paramsOk : Bool
  hssOk    : Bool
  /-- the HSS level that failed (record 0x0402) -/
  level    : Byte
deriving DecidableEq, Repr

/-- What a key manifest orders (R618), whose body layout the spec does not give: slots to provision with the 96 bytes of
key hashes of each, slots to revoke, and whether it carries a new password verifier. (DESIGN CHOICE, log entry 11) -/
structure Manifest where
  prov   : BitVec 4
  revoke : BitVec 4
  keys   : List (List Byte)
  newPw  : Bool
deriving DecidableEq, Repr

/-- A witness frame (R509): cycle of reception, PAIR_ID, new active module, new tandem epoch, and whether the
remaining payload bytes are 0. -/
structure WitFrame where
  cycle  : Nat
  pair   : Nat
  active : Nat
  epoch  : BitVec 16
  zero   : Bool
deriving DecidableEq, Repr

/-- A group copy on a tandem lane (R507). -/
structure TandemCopy where
  axis   : Axis
  epoch  : BitVec 16
  state  : List Word
  torque : List Word
deriving DecidableEq, Repr

/-- A join request (Table 14.3 step 2): epoch, PG_CRC of the axis, drive and Reckoner control pages, image versions. -/
structure JoinReq where
  epoch    : BitVec 16
  crcs     : List Word
  versions : List Word
  updated  : Nat
deriving DecidableEq, Repr

/-- One ledger entry as REJOIN copies it (Table 11 of the ledger: R240, R261). -/
structure LedgerEntry where
  admitter  : RodId
  state  : Nat
  handle : BitVec 16
  bound  : Nat
  reason : Nat
  queue  : Nat
  late   : Nat
  order  : Nat
  args   : ContractArgs
deriving DecidableEq, Repr

/-- What the partners send a rejoining rod (Table 14.3 step 3): ledger, outer-loop state regions, torque exchange
areas and pump phases. -/
structure RejoinData where
  ledger : List (Nat × LedgerEntry)
  gens   : List (Nat × Nat)
  state  : Tri (List Word)
  torque : Tri (List Word)
  pump   : Tri Nat
deriving DecidableEq, Repr

/-- A fault record (Table 1.5). -/
structure FaultRec where
  ft    : DWord
  code  : BitVec 16
  page  : BitVec 16
  rod   : Byte
  axis  : Byte
  phase : Byte
  sev   : Byte
  data  : BitVec 128
deriving DecidableEq, Repr

/-- The answer to a host read request (R211, R214): data, or an error of DMA_ERR_n.TYPE. -/
inductive ReadReply where
  | data (addr : DWord) (bytes : List Byte)
  | error (addr : DWord) (type : Nat)
deriving DecidableEq, Repr

/-- Where a read goes: its address, and its size in bytes (R44). -/
structure ReadAt where
  addr  : Nat
  bytes : Nat
deriving DecidableEq, Repr

/-- A duty latch of a rod: by axis, the phases whose duty word reaches the PWM unit in the cycle of the latch itself (R272). -/
structure LatchAt where
  rod  : RodId
  late : Tri (BitVec 3)
deriving DecidableEq, Repr

/-- A capture instant (R114): FT in ns, and the part of the 12.5 ns step that has passed, in ps (R123). -/
structure CaptureAt where
  ft    : DWord
  phase : Nat
deriving DecidableEq, Repr

/-- A time frame, and the FT at which it arrives (R115, R670). -/
structure TimeArrival where
  ft  : DWord
  msg : TimeMsg
deriving DecidableEq, Repr

/-- A host read of a DMA read channel, by its host address (R211, R214). -/
structure HostRead where
  chan : Fin 2
  addr : DWord
deriving DecidableEq, Repr

/-- What the arbiter finds: the requesters that ask, those whose request brings forwarded bulk data, and the beats that the one
granted asks for (R207, R215, R216). -/
structure FabricAsk where
  who   : BitVec 28
  bulk  : BitVec 28
  beats : Fin 17
deriving DecidableEq, Repr

/-- A latch of a REPORT or TRACE contract: its index, and the FT of the latch (R232). -/
structure ReportAt where
  index : Nat
  ft    : DWord
deriving DecidableEq, Repr

/-- A carry link that comes up: the partner, and the round trip measured at alignment, in ps (R670). -/
structure LinkAlign where
  partner : RodId
  trip    : Nat
deriving DecidableEq, Repr

/-- A level of a quadrature line, and the samples for which it has stood (R389). -/
structure LineLevel where
  level : Bool
  held  : Nat
deriving DecidableEq, Repr

/-- A corrected memory error of a rod: in flash, else in SRAM (R77). -/
structure EccAt where
  rod   : RodId
  flash : Bool
deriving DecidableEq, Repr

/-- The commands, one per row of spec/opcode_table.json, in the table's order. -/
inductive Instr where
  -- register pages and staged configuration
  | registerWrite (r : RodId) (path : Path) (addr : Nat) (bytes : Nat) (data : DWord)
  | pairLoRead (r : RodId) (addr : ReadAt)
  | pairHiWrite (r : RodId) (path : Path) (addr : Nat) (data : Word)
  | rcRead (r : RodId) (addr : ReadAt) (events : Word)
  | w1cWrite (r : RodId) (path : Path) (addr : Nat) (data : Word) (events : Word)
  | irqForce (r : RodId) (path : Path) (page : Nat) (data : Word)
  | stgCommit (r : RodId) (path : Path) (page : Nat) (data : Word)
  | stgOpen (r : RodId) (path : Path) (page : Nat) (data : Word)
  | stgMode (r : RodId) (path : Path) (page : Nat) (data : Word)
  | stgFtArm (r : RodId) (path : Path) (page : Nat) (data : Word)
  | mismatchClear (r : RodId) (path : Path) (page : Nat)
  | stagedCommit (r : RodId) (page : Nat)
  | atFtCommit (r : RodId) (page : Nat)
  | noTickCommit (r : RodId) (page : Nat)
  | pageLockRequest (r : RodId) (path : Path) (page : Nat)
  | pageLockRelease (r : RodId) (path : Path) (page : Nat)
  | errcapClear (r : RodId) (path : Path) (page : Nat)
  | flAck (r : RodId) (path : Path) (data : Word)
  | flashRecordAppend (r : RodId)
  | operatingHour (r : RodId)
  -- the tick
  | samplingInstant (r : RodId) (ft : DWord)
  | adcConversion (r : RodId) (words : AdcWords)
  | triggerFire (r : RodId) (col : Fin 4) (trig : Fin 8)
  | blockLimit (r : RodId) (col : Fin 4)
  | setOff (r : RodId) (axis : Axis)
  | dqFrameSend (r : RodId)
  | dqSendDeadline (r : RodId)
  | dqFrameReceive (r : RodId) (src : RodId) (frame : DqFrame)
  | receiveWindowClose (r : RodId)
  | residualWindowEnd (r : RodId) (axis : Axis)
  | dqSilent (r : RodId) (src : RodId)
  | dutyLatch (r : LatchAt)
  | refreshPulse (r : RodId) (axis : Axis) (phase : Phase)
  | injectionDone (r : RodId) (axis : Axis)
  | injStop (r : RodId) (path : Path) (axis : Axis)
  | sfReport (r : RodId) (axis : Axis) (fn : Nat)
  | sfReportMessage (r : RodId) (src : RodId) (msg : SfMsg)
  | sfUnconfirmed (r : RodId) (axis : Axis) (fn : Nat) (reporter : RodId)
  | vehSpeedStale (r : RodId)
  | setStateMessage (r : RodId) (src : RodId) (msg : SetState)
  | torqueCopyReceive (r : RodId) (src : RodId) (msg : TorqueCopy)
  | stateCopyReceive (r : RodId) (src : RodId) (msg : StateCopy)
  | copyMissedNotice (r : RodId) (src : RodId) (axis : Axis)
  | judgementMessage (r : RodId) (src : RodId) (msg : JudgeMsg)
  | withdrawalNotice (r : RodId) (src : RodId) (tick : Word)
  | removal (r : RodId) (target : RodId)
  | removalOrder (r : RodId) (src : RodId)
  -- modes and start-up
  | modeRequest (r : RodId) (path : Path) (data : Word)
  | modeRequestTimeout (r : RodId)
  | modeProposal (r : RodId) (src : RodId) (mode : Nat)
  | modeChange (r : RodId)
  | armRelease (r : RodId) (path : Path) (data : Word)
  | standstillReached (r : RodId) (axis : Axis)
  | auxContact (r : RodId) (closed : Bool)
  | kauxTimeout (r : RodId)
  | osdStepEnd (r : RodId) (nodes : Tri (BitVec 16)) (vm : BitVec 16)
  | prechargeEnd (r : RodId) (low : Tri (BitVec 3))
  | syncTimeout (r : RodId)
  | bootComparatorTest (r : RodId) (failed : Option (Nat × Nat))
  | bootFirmwareVerify (r : RodId) (verdict : Verdict)
  | bootImageVerify (r : RodId) (law : Verdict) (safety : Verdict) (certs : Bool) (selfTest : Bool)
  -- counting frame
  | timeBaseFrame (r : RodId) (frame : FrSlot)
  | timeCapture (r : RodId) (ft : CaptureAt) (pos : ClusterPos)
  | timeFrame (r : RodId) (src : RodId) (msg : TimeArrival)
  | captureWindowClose (r : RodId)
  | lockAcquired (r : RodId)
  | lockedClear (r : RodId)
  | srcExcluded (r : RodId) (cluster : RodId)
  | srcReadmitted (r : RodId) (cluster : RodId)
  | holdExpired (r : RodId)
  | xmodReturn (r : RodId)
  | take (r : RodId) (path : Path)
  -- FlexRay
  | wakeup (r : RodId) (path : Path) (key : Byte)
  | mtsA (r : RodId) (path : Path) (key : Byte)
  | mtsB (r : RodId) (path : Path) (key : Byte)
  | frHalt (r : RodId) (path : Path) (key : Byte)
  | restart (r : RodId) (path : Path) (key : Byte)
  | wudop (r : RodId) (path : Path) (key : Byte)
  | frFrameReceive (r : RodId) (frame : FrSlot)
  | cycleStart (r : RodId) (cycle : Nat)
  | mbReady (r : RodId) (path : Path) (buf : Fin 128)
  | mbHold (r : RodId) (path : Path) (buf : Fin 128) (hold : Bool)
  | coldstartAttempt (r : RodId)
  | coldExhausted (r : RodId)
  | clockCorrection (r : RodId) (rate : Int) (offset : Int) (pairs : Nat) (nodes : Nat)
  | channelSilent (r : RodId) (chan : Chan)
  | clusterLost (r : RodId) (cause : Nat)
  | clusterBack (r : RodId)
  | wakeRx (r : RodId) (chan : Chan) (wudop : Bool)
  | wakeCollision (r : RodId)
  -- host port
  | perstNAssert (r : RodId)
  | linkLoss (r : RodId)
  | hotReset (r : RodId)
  | flr (r : RodId)
  | linkUp (r : RodId) (speed : Fin 4)
  | d3hotEntry (r : RodId)
  | d0Return (r : RodId)
  | sqTailDoorbell (r : RodId) (path : Path) (q : Fin 16) (data : Word)
  | cqHeadDoorbell (r : RodId) (path : Path) (q : Fin 16) (data : Word)
  | descriptorFetch (r : RodId) (q : Fin 16) (bytes : List Byte)
  | atFtCommand (r : RodId) (q : Fin 16) (cid : BitVec 16)
  | completionPost (r : RodId) (q : Fin 16)
  | nop (r : RodId) (q : Fin 16) (cid : BitVec 16)
  | setpoint (r : RodId) (q : Fin 16) (cid : BitVec 16)
  | regWrite (r : RodId) (q : Fin 16) (cid : BitVec 16)
  | regRead (r : RodId) (q : Fin 16) (cid : BitVec 16)
  | memWrite (r : RodId) (q : Fin 16) (cid : BitVec 16)
  | memRead (r : RodId) (q : Fin 16) (cid : BitVec 16)
  | imageStage (r : RodId) (q : Fin 16) (cid : BitVec 16)
  | imageVerify (r : RodId) (q : Fin 16) (cid : BitVec 16) (verdict : Verdict)
  | capture (r : RodId) (q : Fin 16) (cid : BitVec 16)
  | faultExport (r : RodId) (q : Fin 16) (cid : BitVec 16)
  | contractAdmit (r : RodId) (q : Fin 16) (cid : BitVec 16)
  | contractWithdraw (r : RodId) (q : Fin 16) (cid : BitVec 16)
  | attest (r : RodId) (q : Fin 16) (cid : BitVec 16)
  | lockAcq (r : RodId) (q : Fin 16) (cid : BitVec 16)
  | lockRel (r : RodId) (q : Fin 16) (cid : BitVec 16)
  | reportRing (r : RodId) (q : Fin 16) (cid : BitVec 16)
  | dmaReadCompletion (r : RodId) (chan : Fin 2) (reply : ReadReply)
  | dmaCompletionTimeout (r : RodId) (chan : HostRead)
  | forwardMessage (r : RodId) (src : RodId) (q : Fin 16) (desc : Desc) (bytes : List Byte)
  | forwardResult (r : RodId) (src : RodId) (q : Fin 16) (cid : BitVec 16) (status : Byte) (result : DWord)
      (bytes : List Byte)
  | forwardTimeout (r : RodId) (q : Fin 16) (cid : BitVec 16)
  | fabricGrant (r : RodId) (requests : FabricAsk)
  | starvation (r : RodId) (requester : Fin 28)
  | qpClass (r : RodId) (path : Path) (q : Fin 16) (data : Word)
  | rankGrant (r : RodId) (rank : Fin 4)
  | lockTimeout (r : RodId) (rank : Fin 4)
  | relayedRecord (r : RodId) (record : FaultRec)
  | admitProposal (r : RodId) (src : RodId) (msg : AdmitProposal)
  | admitAnswer (r : RodId) (src : RodId) (msg : AdmitAnswer)
  | admitPartnerTimeout (r : RodId) (index : Nat)
  | noticeIntervalEnd (r : RodId)
  | reportLatch (r : RodId) (index : ReportAt)
  | carryLinkDown (r : RodId) (partner : RodId)
  | carryLinkUp (r : RodId) (partner : LinkAlign)
  | setpointCopy (r : RodId) (src : RodId) (copy : SetpointCopy)
  | memoryWindowWrite (r : RodId) (path : Path) (addr : Nat) (bytes : Nat) (data : DWord)
  | coefSync (r : RodId) (path : Path)
  | coefSyncDone (r : RodId)
  | trcCfg (r : RodId) (path : Path) (data : Word)
  | clrMax (r : RodId) (path : Path) (col : Fin 4)
  -- Reckoner instructions: column and bits [55:0] of the instruction word
  | illegalOpcode (r : RodId) (col : Fin 4) (opc : Byte) (f : BitVec 56)
  | ld (r : RodId) (col : Fin 4) (f : BitVec 56)
  | ldx (r : RodId) (col : Fin 4) (f : BitVec 56)
  | st (r : RodId) (col : Fin 4) (f : BitVec 56)
  | stx (r : RodId) (col : Fin 4) (f : BitVec 56)
  | mov (r : RodId) (col : Fin 4) (f : BitVec 56)
  | movi (r : RodId) (col : Fin 4) (f : BitVec 56)
  | nopInstruction (r : RodId) (col : Fin 4) (f : BitVec 56)
  | rid (r : RodId) (col : Fin 4) (f : BitVec 56)
  | adds (r : RodId) (col : Fin 4) (f : BitVec 56)
  | subs (r : RodId) (col : Fin 4) (f : BitVec 56)
  | addw (r : RodId) (col : Fin 4) (f : BitVec 56)
  | subw (r : RodId) (col : Fin 4) (f : BitVec 56)
  | mulw (r : RodId) (col : Fin 4) (f : BitVec 56)
  | negs (r : RodId) (col : Fin 4) (f : BitVec 56)
  | abss (r : RodId) (col : Fin 4) (f : BitVec 56)
  | min (r : RodId) (col : Fin 4) (f : BitVec 56)
  | max (r : RodId) (col : Fin 4) (f : BitVec 56)
  | clmp (r : RodId) (col : Fin 4) (f : BitVec 56)
  | asr (r : RodId) (col : Fin 4) (f : BitVec 56)
  | lsl (r : RodId) (col : Fin 4) (f : BitVec 56)
  | and (r : RodId) (col : Fin 4) (f : BitVec 56)
  | or (r : RodId) (col : Fin 4) (f : BitVec 56)
  | xor (r : RodId) (col : Fin 4) (f : BitVec 56)
  | clra (r : RodId) (col : Fin 4) (f : BitVec 56)
  | lda (r : RodId) (col : Fin 4) (f : BitVec 56)
  | macc (r : RodId) (col : Fin 4) (f : BitVec 56)
  | mscc (r : RodId) (col : Fin 4) (f : BitVec 56)
  | macv (r : RodId) (col : Fin 4) (f : BitVec 56)
  | mscv (r : RodId) (col : Fin 4) (f : BitVec 56)
  | bias (r : RodId) (col : Fin 4) (f : BitVec 56)
  | ext (r : RodId) (col : Fin 4) (f : BitVec 56)
  | sincos (r : RodId) (col : Fin 4) (f : BitVec 56)
  | tli (r : RodId) (col : Fin 4) (f : BitVec 56)
  | clu (r : RodId) (col : Fin 4) (f : BitVec 56)
  | limc (r : RodId) (col : Fin 4) (f : BitVec 56)
  | blt (r : RodId) (col : Fin 4) (f : BitVec 56)
  | bge (r : RodId) (col : Fin 4) (f : BitVec 56)
  | beq (r : RodId) (col : Fin 4) (f : BitVec 56)
  | bne (r : RodId) (col : Fin 4) (f : BitVec 56)
  | jmp (r : RodId) (col : Fin 4) (f : BitVec 56)
  | repeatN (r : RodId) (col : Fin 4) (f : BitVec 56)
  | clrf (r : RodId) (col : Fin 4) (f : BitVec 56)
  | halt (r : RodId) (col : Fin 4) (f : BitVec 56)
  -- pump axes
  | pumpPhaseMessage (r : RodId) (src : RodId) (msg : PumpPhaseMsg)
  | pumpStatusReport (r : RodId) (src : RodId) (msg : PumpStatus)
  | observerLock (r : RodId) (axis : Axis)
  | obsLost (r : RodId) (axis : Axis) (cause : Nat)
  | catchNoLock (r : RodId) (axis : Axis)
  | restConfirmed (r : RodId) (axis : Axis)
  | brkTmoExpiry (r : RodId) (axis : Axis)
  | alignTExpiry (r : RodId) (axis : Axis)
  | rampHoldTimeout (r : RodId) (axis : Axis)
  | retryCountReset (r : RodId) (axis : Axis)
  | retry (r : RodId) (path : Path) (axis : Axis)
  -- position feedback
  | quadratureTransition (r : RodId) (axis : Axis) (a : LineLevel) (b : LineLevel) (sample : Nat)
  | leakLimit (r : RodId) (axis : Axis)
  | indexEvent (r : RodId) (axis : Axis)
  | lineFault (r : RodId) (axis : Axis) (line : Fin 3)
  | spdTmo (r : RodId) (axis : Axis)
  | leadInStepTimeout (r : RodId) (axis : Axis) (step : Nat)
  | serialTransferEnd (r : RodId) (axis : Axis) (frame : SerialFrame)
  | serFault (r : RodId) (axis : Axis)
  | trackFault (r : RodId) (axis : Axis)
  | rearm (r : RodId) (path : Path) (axis : Axis)
  -- gate drive and motor supply
  | desaturation (r : RodId) (axis : Axis) (phase : Phase)
  | overcurrent (r : RodId) (axis : Axis) (phase : Phase)
  | dieOvertemp (r : RodId) (temp : BitVec 16)
  | bootUv (r : RodId) (axis : Axis) (phase : Phase) (on : Bool)
  | vgdUv (r : RodId) (vgd : BitVec 16)
  | gatePlaus (r : RodId) (axis : Axis) (phase : Phase) (high : Bool) (cmdOn : Bool)
  | eEnded (r : RodId) (axis : Axis) (phase : Phase)
  | tClr (r : RodId) (path : Path) (axis : Axis) (data : Word)
  | tClrPulseEnd (r : RodId) (axis : Axis) (present : Tri Nat)
  | disChange (r : RodId) (asserted : Bool)
  | ascChange (r : RodId) (axis : Axis) (asserted : Bool)
  | fenceLatch (r : RodId)
  | fenceClr (r : RodId) (path : Path) (data : Word) (coilMa : Nat)
  | chopperOn (r : RodId) (vm : BitVec 16)
  | chopperOff (r : RodId) (onTime : Nat)
  | chopperFail (r : RodId) (cause : Nat)
  | supplyOv2 (r : RodId) (vm : BitVec 16)
  | vmUndervolt (r : RodId) (vm : BitVec 16)
  | vmUvClear (r : RodId)
  | dieTempWarn (r : RodId) (temp : BitVec 16)
  | drvDiag (r : RodId) (path : Path) (axis : Axis) (data : Word)
  | diagOnTime (r : RodId) (axis : Axis) (sw : Fin 6)
  -- rod redundancy and tandem pairs
  | rejoinConsent (r : RodId) (path : Path) (data : Word)
  | rejoinEntry (r : RodId) (selfTest : Bool)
  | joinRequest (r : RodId) (src : RodId) (req : JoinReq)
  | rejoinData (r : RodId) (src : RodId) (data : RejoinData)
  | rejoinTimeout (r : RodId)
  | tandemCopyReceive (r : RodId) (lane : RodId) (copy : TandemCopy)
  | witnessFrame (r : RodId) (holder : RodId) (frame : WitFrame)
  | witnessDecision (r : RodId) (axis : Axis)
  | tandemCopyLost (r : RodId) (axis : Axis)
  | tandemLaneChange (r : RodId) (lane : RodId) (up : Bool)
  | uidExchange (r : RodId) (src : RodId) (uid : BitVec 128)
  -- lockstep
  | lockstepWindowEnd (r : RodId) (pair : Fin 5) (core : List (Nat × List LsEvent)) (diff : DWord)
  | comparatorTest (r : RodId) (core : List (Nat × List LsEvent)) (diff : DWord)
  | pairSplit (r : RodId) (purpose : Nat)
  | pairRejoin (r : RodId)
  | pairRestart (r : RodId)
  | xtest (r : RodId) (path : Path) (data : Word)
  | xtestDone (r : RodId) (failed : Option (Nat × Nat)) (us : Nat)
  -- machine safety functions
  | sealRead (r : RodId) (straps : Byte)
  | sealResend (r : RodId)
  | sealMessage (r : RodId) (src : RodId) (byte : Byte)
  | contactorOpen (r : RodId)
  | contactorWelded (r : RodId) (ms : Nat)
  | contactorTestDue (r : RodId)
  -- clocks
  | settleDelayEnd (r : RodId)
  | crystalProven (r : RodId)
  | pllLock (r : RodId)
  | xtalFail (r : RodId) (cause : Nat)
  | pllAFail (r : RodId) (cause : Nat) (domain : Nat)
  | pllBFail (r : RodId) (cause : Nat) (domain : Nat)
  | rcFail (r : RodId)
  | rcDetectorClear (r : RodId)
  | refclkLost (r : RodId) (cause : Nat)
  | carryClockLost (r : RodId) (partner : RodId)
  | tandemClockLost (r : RodId) (cause : Nat)
  | sourceBack (r : RodId) (domain : Nat) (partner : RodId)
  | clkMeasSel (r : RodId) (path : Path) (data : Word)
  | measDone (r : RodId) (khz : Nat)
  | ckoCfg (r : RodId) (path : Path) (data : Word)
  -- power
  | pwrHost (r : RodId) (path : Path) (data : Word)
  | domainPowerUp (r : RodId) (dom : Fin 6)
  | domainPowerDown (r : RodId) (dom : Fin 6)
  | coreSwitchOpen (r : RodId)
  | domainFail (r : RodId) (dom : Fin 6)
  | supplyFail (r : RodId) (rail : Nat)
  | powerOnResetRelease (r : RodId) (xsd : BitVec 2)
  | wakeEvent (r : RodId) (sources : BitVec 10)
  | wake (r : RodId)
  | reset (r : RodId)
  | vaonLoss (r : RodId)
  -- security
  | close (r : RodId) (path : Path) (key : Byte)
  | openL1 (r : RodId) (path : Path) (key : Byte)
  | passwordCheckDone (r : RodId) (ok : Bool)
  | lockoutEnd (r : RodId)
  | accessIdleTimeout (r : RodId)
  | challenge (r : RodId) (path : Path) (key : Byte) (random : BitVec 256)
  | challengeExpiry (r : RodId)
  | respond (r : RodId) (path : Path) (key : Byte) (verdict : Verdict)
  | applyManifest (r : RodId) (path : Path) (key : Byte) (verdict : Verdict) (man : Manifest)
  | setPassword (r : RodId) (path : Path) (key : Byte)
  | updReq (r : RodId) (path : Path) (data : Word)
  | updateComplete (r : RodId) (verdict : Verdict)
  | bypass (r : RodId)
  | idcode (r : RodId)
  | samplePreload (r : RodId)
  | extest (r : RodId)
  | wakePortStop (r : RodId)
  | discardedCommandByte (r : RodId) (byte : Byte)
  | correctedMemoryError (r : EccAt)
deriving DecidableEq, Repr

end Sys2Proof
end

