-- ==== Sys2Proof/Config.lean ====
section
/-! DEFINITION. What an implementation fixes and the spec leaves to the part or the stepping, and the free values: the
constants have no body, so nothing proved about the model rests on a number chosen here. -/

namespace Sys2Proof

/-- Whether the part is graded H (ID_PART.GRADE 0x48) or M (0x4D); the same for the three rods (R667, R72).
(DESIGN CHOICE, log entry 6) -/
opaque Config.gradeH : Bool

/-- ID_ROM.VERSION, fixed per stepping (R72). (DESIGN CHOICE, log entry 6) -/
opaque Config.romVersion : BitVec 16

/-- The motor supply voltage in mV at full scale of the VM sense word, under the divider the board designer chooses
(R370, R453). (DESIGN CHOICE, log entry 6) -/
opaque Config.vmFullMv (r : RodId) : Nat

/-- The UID programmed in a rod's OTP (R617), and the UID of each rod in the module certificate (R623). -/
opaque Config.uid (r : RodId) : BitVec 128

opaque Config.certUid (r : RodId) : BitVec 128

/-- The module serial number (R72), as four words. -/
opaque Config.msn (i : Nat) : Word

/-- The certificate k of a rod with its HSS signature: 0 rod, 1 module, 2 device CA (R622 to R624). -/
opaque Config.cert (r : RodId) (k : Nat) : List Byte

/-- The SHA-384 digest of a body, and the signatures of an attestation report (R626): the primitives of the security
engine are not computed here. -/
opaque Config.sha384 (body : List Byte) : List Byte

opaque Config.attestSign (r : RodId) (index : Nat) (report : List Byte) : List Byte

/-- The logic-die temperature code that DIAG_TJ shows, by the millisecond of FT (Table 2.19): a sensor's reading. -/
opaque Config.logicTemp (r : RodId) (ms : Nat) : BitVec 16

/-- Vendor and device, subsystem and revision codes of configuration space (R186): the spec gives none. -/
opaque Config.pciId : Word

opaque Config.pciSubId : Word

opaque Config.pciRev : Byte

/-- The device code that IDCODE shifts out, and the length of the boundary register (R660). -/
opaque Config.idcode (r : RodId) : Word

opaque Config.scanBits : Nat

/-- The time in ps that the cut-through of a relayed frame takes (R481, R670), at most 0.8 µs. (DESIGN CHOICE, log entry 67) -/
opaque Config.relayPs (r : RodId) : Fin 800001

/-- The payload preamble indicator of the frames that a transmit buffer sends: the spec supports it and names no field for it
(R140). (DESIGN CHOICE, log entry 69) -/
opaque Config.preamble (r : RodId) (buf : Nat) : Bool

/-- The fixed folding of the events of one cycle into the input word of a tally (R527). (DESIGN CHOICE, log entry 60) -/
opaque Config.lsFold (events : List LsEvent) : DWord

/-- The n-th value that the spec leaves open in a rod, for draw number n. (DESIGN CHOICE, log entry 7) -/
opaque Config.free (r : RodId) (n : Nat) : DWord

end Sys2Proof
end

