-- ==== Sys2Proof/Machine/Bits.lean ====
section
/-! DEFINITION. The plain helpers the model's operations are written with: bit fields of words, sparse tables in one
canonical form, three-fold tables, byte strings, the CRC-32 of R68, and the roundings of the number formats. -/

namespace Sys2Proof

/-! ### Bit fields -/

/-- Bits `[lo + w - 1 : lo]` of a number. -/
def natBits (x lo w : Nat) : Nat := x / 2 ^ lo % 2 ^ w

/-- Bits `[lo + w - 1 : lo]` of a word. -/
def wBits (x : Word) (lo w : Nat) : Nat := natBits x.toNat lo w

/-- The mask of bits `[lo + w - 1 : lo]`. -/
def wMask (lo w : Nat) : Word := BitVec.ofNat 32 (2 ^ w - 1) <<< lo

/-- A word with bits `[lo + w - 1 : lo]` replaced by the low `w` bits of `v`. -/
def wPut (x : Word) (lo w v : Nat) : Word :=
  (x &&& ~~~(wMask lo w)) ||| (BitVec.ofNat 32 (v % 2 ^ w) <<< lo)

/-- Bit `i` of a word. -/
def wBit (x : Word) (i : Nat) : Bool := x.getLsbD i

/-- A number of one bit. -/
def b2n (b : Bool) : Nat := if b then 1 else 0

/-- The signed value of the low `w` bits of `v`. -/
def sext (w v : Nat) : Int :=
  let x := v % 2 ^ w
  if x < 2 ^ (w - 1) then (x : Int) else (x : Int) - 2 ^ w

/-- The low 32 bits of an integer, as a word. -/
def wOfInt (i : Int) : Word := BitVec.ofInt 32 i

/-- The low `w` bits of an integer, as a number (two's complement). -/
def natOfInt (w : Nat) (i : Int) : Nat := (i % (2 ^ w : Int)).toNat

/-- An integer held to the range `lo` to `hi`. -/
def clampI (lo hi x : Int) : Int := if x < lo then lo else if hi < x then hi else x

/-- Saturation to the signed 32-bit range. -/
def satW (x : Int) : Int := clampI (-2147483648) 2147483647 x

/-- A count that saturates at `top`. -/
def satN (top x : Nat) : Nat := if x ≤ top then x else top

/-- The quotient of two integers rounded to the nearest, halves away from zero (`b > 0`). -/
def divRoundAway (a b : Int) : Int :=
  if 0 ≤ a then (2 * a + b) / (2 * b) else -((2 * (-a) + b) / (2 * b))

/-- The quotient of two integers rounded to the nearest, halves upward (`b > 0`). -/
def divRoundUp (a b : Int) : Int := (2 * a + b) / (2 * b)

/-- The quotient of two integers rounded to the nearest, halves to even (`b > 0`). -/
def divRoundEven (a b : Int) : Int :=
  let q := a / b
  let r := a - q * b
  if 2 * r < b then q else if b < 2 * r then q + 1 else if q % 2 = 0 then q else q + 1

/-- The quotient of two integers rounded toward zero. -/
def divTrunc (a b : Int) : Int := Int.tdiv a b

/-- The greatest `r ≤ hi` with `r * r ≤ n`, found bit by bit from bit `k` down. -/
def isqrtAux (n : Nat) : Nat → Nat → Nat
  | 0, r => r
  | k + 1, r => if (r + 2 ^ k) * (r + 2 ^ k) ≤ n then isqrtAux n k (r + 2 ^ k) else isqrtAux n k r

/-- 2π × 10³³, rounded to the nearest integer; the precision every use of π in the model has. -/
def twoPi : Int := 6283185307179586476925286766559006

/-- The scale of `twoPi`. -/
def twoPiScale : Int := 1000000000000000000000000000000000

/-- The integer square root, rounded down (`n < 2 ^ 128`). -/
def isqrt (n : Nat) : Nat := isqrtAux n 64 0

/-! ### Sparse tables

A table keyed by `Nat`, as pairs with strictly rising keys in which no entry equals what an unlisted key reads as. -/

/-- A sparse table. -/
abbrev Sparse (α : Type) := List (Nat × α)

/-- The entry of key `k`; `d` where it is not listed. (DESIGN CHOICE, log entry 5) -/
def Sparse.get {α : Type} (d : α) : Sparse α → Nat → α
  | [], _ => d
  | (j, v) :: t, k => if k = j then v else Sparse.get d t k

/-- Whether key `k` is listed. -/
def Sparse.has {α : Type} : Sparse α → Nat → Bool
  | [], _ => false
  | (j, _) :: t, k => if k = j then true else Sparse.has t k

/-- Lists `v` at key `k`. -/
def Sparse.put {α : Type} : Sparse α → Nat → α → Sparse α
  | [], k, v => [(k, v)]
  | (j, u) :: t, k, v =>
    if k = j then (k, v) :: t else if k < j then (k, v) :: (j, u) :: t else (j, u) :: Sparse.put t k v

/-- Unlists key `k`. -/
def Sparse.del {α : Type} : Sparse α → Nat → Sparse α
  | [], _ => []
  | (j, u) :: t, k => if k = j then Sparse.del t k else (j, u) :: Sparse.del t k

/-- Writes `v` at key `k`, where an unlisted `k` reads as `d`. -/
def Sparse.set {α : Type} [DecidableEq α] (d : α) (m : Sparse α) (k : Nat) (v : α) : Sparse α :=
  if v = d then Sparse.del m k else Sparse.put m k v

/-- Every key of the list is above `k`. -/
def Sparse.above {α : Type} (k : Nat) : Sparse α → Bool
  | [] => true
  | (j, _) :: t => k < j && Sparse.above k t

/-- The canonical form, for a table whose unlisted keys read as `d`: keys strictly rising, no default listed. -/
def Sparse.wf {α : Type} [DecidableEq α] (d : Nat → α) : Sparse α → Bool
  | [] => true
  | (j, v) :: t => v ≠ d j && Sparse.above j t && Sparse.wf d t

/-- The keys strictly rise. -/
def Sparse.rising {α : Type} : Sparse α → Bool
  | [] => true
  | (j, _) :: t => Sparse.above j t && Sparse.rising t

/-! ### Three-fold tables -/

/-- The entry of index 0, 1 or 2. -/
def Tri.get {α : Type} (t : Tri α) (i : Fin 3) : α :=
  if i = 0 then t.e0 else if i = 1 then t.e1 else t.e2

/-- The table with the entry of one index replaced. -/
def Tri.set {α : Type} (t : Tri α) (i : Fin 3) (v : α) : Tri α :=
  if i = 0 then { t with e0 := v } else if i = 1 then { t with e1 := v } else { t with e2 := v }

/-- Every entry changed. -/
def Tri.map {α β : Type} (f : α → β) (t : Tri α) : Tri β := ⟨f t.e0, f t.e1, f t.e2⟩

/-- Three like entries. -/
def Tri.rep {α : Type} (v : α) : Tri α := ⟨v, v, v⟩

/-- The entries as a list. -/
def Tri.list {α : Type} (t : Tri α) : List α := [t.e0, t.e1, t.e2]

/-- The code of a rod (R47): X 0, Y 1, Z 2. -/
def RodId.code : RodId → Nat
  | .x => 0
  | .y => 1
  | .z => 2

/-- The index of a rod in a three-fold table. -/
def RodId.idx : RodId → Fin 3
  | .x => 0
  | .y => 1
  | .z => 2

/-- The rod of a code. -/
def RodId.ofCode (n : Nat) : RodId := if n % 3 = 0 then .x else if n % 3 = 1 then .y else .z

/-- The other two rods. -/
def RodId.partners : RodId → List RodId
  | .x => [.y, .z]
  | .y => [.x, .z]
  | .z => [.x, .y]

/-- The rod that is neither of the two. -/
def RodId.third : RodId → RodId → RodId
  | .x, .y => .z
  | .y, .x => .z
  | .x, .z => .y
  | .z, .x => .y
  | .y, .z => .x
  | .z, .y => .x
  | r, _ => r

/-- The three rods. -/
def allRods : List RodId := [.x, .y, .z]

/-- The three axes. -/
def allAxes : List Axis := [0, 1, 2]

/-- The three phases. -/
def allPhases : List Phase := [0, 1, 2]

/-- The code of an access path (Table 2.9). -/
def Path.code : Path → Nat
  | .linkX => 1
  | .linkY => 2
  | .linkZ => 3
  | .firmware => 4

/-! ### Bytes -/

/-- The `n` little-endian bytes of a number. -/
def leBytes : Nat → Nat → List Byte
  | 0, _ => []
  | n + 1, v => BitVec.ofNat 8 v :: leBytes n (v / 256)

/-- The number that bytes spell, little-endian. -/
def leNat : List Byte → Nat
  | [] => 0
  | b :: t => b.toNat + 256 * leNat t

/-- The words that bytes spell, four bytes a word, little-endian (R6); the last may be short. -/
def leWords : Nat → List Byte → List Word
  | 0, _ => []
  | n + 1, bs => BitVec.ofNat 32 (leNat (bs.take 4)) :: leWords n (bs.drop 4)

/-- `n` little-endian bytes at offset `i` of a byte string; what is past its end counts as 0. -/
def leAt (bs : List Byte) (i n : Nat) : Nat := leNat ((bs.drop i).take n)

/-- The 16 data bytes of a fault record, from (byte offset, size, value) entries; bytes not named are 0. -/
def recData : List (Nat × Nat × Nat) → BitVec 128
  | [] => 0
  | (off, size, v) :: t => recData t ||| (BitVec.ofNat 128 (v % 2 ^ (8 * size)) <<< (8 * off))

/-- One bit of the reflected CRC-32. -/
def crc32Bits : Nat → Word → Word
  | 0, c => c
  | n + 1, c => crc32Bits n (if c.getLsbD 0 then (c >>> 1) ^^^ 0xEDB88320#32 else c >>> 1)

/-- The CRC-32 of IEEE 802.3 over bytes, before the final exclusive-OR. -/
def crc32Go : Word → List Byte → Word
  | c, [] => c
  | c, b :: t => crc32Go (crc32Bits 8 (c ^^^ b.setWidth 32)) t

/-- The CRC-32 of IEEE 802.3 (R68). -/
def crc32 (bs : List Byte) : Word := crc32Go 0xFFFFFFFF#32 bs ^^^ 0xFFFFFFFF#32

/-- The little-endian bytes of words. -/
def wordBytes (ws : List Word) : List Byte := ws.flatMap fun w => leBytes 4 w.toNat

end Sys2Proof
end

