-- ==== Sys2Proof/Machine/Flds.lean ====
section
/-! DEFINITION. The names of the registers (`Rg`, a BAR0 offset) and of their fields (`Fl`: page, offset, lowest
bit, width), as the register tables of the spec give them, in the manual's spelling. A register or page that
exists in several instances takes the instance index as an argument (R3). -/

namespace Sys2Proof.Machine

/-- A field of a register: the page index, the offset in the page, the lowest bit and the width. -/
structure Fld where
  page : Nat
  off  : Nat
  lo   : Nat
  w    : Nat
deriving DecidableEq, Repr

/-- The BAR0 offset of the register that holds the field (R41). -/
def Fld.addr (f : Fld) : Nat := f.page * 0x1000 + f.off

namespace Rg

def PG_ID (p : Nat) : Nat := p * 0x1000 + 0x0
def PG_CAPS (p : Nat) : Nat := p * 0x1000 + 0x4
def PG_CTRL (p : Nat) : Nat := p * 0x1000 + 0x8
def PG_STAT (p : Nat) : Nat := p * 0x1000 + 0xC
def IRQ_RAW (p : Nat) : Nat := p * 0x1000 + 0x10
def IRQ_EN (p : Nat) : Nat := p * 0x1000 + 0x14
def IRQ_PEND (p : Nat) : Nat := p * 0x1000 + 0x18
def IRQ_FORCE (p : Nat) : Nat := p * 0x1000 + 0x1C
def STG_CTRL (p : Nat) : Nat := p * 0x1000 + 0x20
def STG_STAT (p : Nat) : Nat := p * 0x1000 + 0x24
def STG_FT_LO (p : Nat) : Nat := p * 0x1000 + 0x28
def STG_FT_HI (p : Nat) : Nat := p * 0x1000 + 0x2C
def LOCK (p : Nat) : Nat := p * 0x1000 + 0x30
def ERRCAP_0 (p : Nat) : Nat := p * 0x1000 + 0x34
def ERRCAP_1 (p : Nat) : Nat := p * 0x1000 + 0x38
def PG_CRC (p : Nat) : Nat := p * 0x1000 + 0x3C
def ID_PART : Nat := 0x40
def ID_STEP : Nat := 0x44
def ID_ROM : Nat := 0x48
def ID_OPH : Nat := 0x4C
def ID_UID (i : Nat) : Nat := 0x0 * 0x1000 + (0x50 + 0x4 * i)
def ID_MSN (i : Nat) : Nat := 0x0 * 0x1000 + (0x60 + 0x4 * i)
def FL_SEQ : Nat := 0xD0040
def FL_ACK : Nat := 0xD0044
def FL_UNACK : Nat := 0xD0048
def FL_FLASH : Nat := 0xD004C
def DIAG_TJ : Nat := 0xD0050
def DIAG_ECC : Nat := 0xD0054
def SYS_MODE : Nat := 0x1040
def MODE_REQ : Nat := 0x1044
def REQ_STAT : Nat := 0x1048
def ROD_STATE : Nat := 0x104C
def ARM_STAT : Nat := 0x1050
def ARM_CFG : Nat := 0x1054
def ARM_RELEASE : Nat := 0x1058
def STILL_SPD (i : Nat) : Nat := 0x1 * 0x1000 + (0x60 + 0x4 * i)
def START_TIME : Nat := 0x106C
def FT_LO : Nat := 0x40040
def FT_HI : Nat := 0x40044
def FT_STAT : Nat := 0x40048
def REMAINDER : Nat := 0x4004C
def RATE_CORR : Nat := 0x40050
def CT_ERR (i : Nat) : Nat := 0x40 * 0x1000 + (0x54 + 0x4 * i)
def TB_CFG : Nat := 0x40060
def CL_DELAY : Nat := 0x40064
def DISC_CFG : Nat := 0x40068
def HOLD_CFG : Nat := 0x4006C
def SNAP_CTRL : Nat := 0x40070
def SNAP_FT_LO : Nat := 0x40074
def SNAP_FT_HI : Nat := 0x40078
def TICK_FT_LO : Nat := 0x40080
def TICK_FT_HI : Nat := 0x40084
def FR_CMD : Nat := 0x30040
def FR_STAT : Nat := 0x30044
def FR_MODE : Nat := 0x30048
def FR_TIMING : Nat := 0x3004C
def FR_STATIC : Nat := 0x30050
def FR_DYN : Nat := 0x30054
def FR_TAIL : Nat := 0x30058
def FR_CSYNC_0 : Nat := 0x3005C
def FR_CSYNC_1 : Nat := 0x30060
def FR_START : Nat := 0x30064
def FR_LOSS : Nat := 0x30068
def FR_CORR : Nat := 0x3006C
def FR_CNT : Nat := 0x30070
def FR_SYNC : Nat := 0x30074
def FR_SBV : Nat := 0x30078
def FR_ERR : Nat := 0x3007C
def FR_COLD : Nat := 0x30080
def MB_CFG (b : Nat) : Nat := (0x31 + b / 9) * 0x1000 + (0x40 + 0x1C0 * (b % 9) + 0x0)
def MB_STAT (b : Nat) : Nat := (0x31 + b / 9) * 0x1000 + (0x40 + 0x1C0 * (b % 9) + 0x4)
def MB_FT_LO (b : Nat) : Nat := (0x31 + b / 9) * 0x1000 + (0x40 + 0x1C0 * (b % 9) + 0x8)
def MB_FT_HI (b : Nat) : Nat := (0x31 + b / 9) * 0x1000 + (0x40 + 0x1C0 * (b % 9) + 0xC)
def MB_CTRL (b : Nat) : Nat := (0x31 + b / 9) * 0x1000 + (0x40 + 0x1C0 * (b % 9) + 0x10)
def MB_DATA (b i : Nat) : Nat := (0x31 + b / 9) * 0x1000 + (0x40 + 0x1C0 * (b % 9) + 0x40 + 0x4 * i)
def QP_CTRL (n : Nat) : Nat := (0x10 + n) * 0x1000 + 0x40
def QP_CLASS (n : Nat) : Nat := (0x10 + n) * 0x1000 + 0x44
def SQ_BASE_LO (n : Nat) : Nat := (0x10 + n) * 0x1000 + 0x48
def SQ_BASE_HI (n : Nat) : Nat := (0x10 + n) * 0x1000 + 0x4C
def CQ_BASE_LO (n : Nat) : Nat := (0x10 + n) * 0x1000 + 0x50
def CQ_BASE_HI (n : Nat) : Nat := (0x10 + n) * 0x1000 + 0x54
def QP_SIZE (n : Nat) : Nat := (0x10 + n) * 0x1000 + 0x58
def SQ_TAIL (n : Nat) : Nat := (0x10 + n) * 0x1000 + 0x5C
def SQ_HEAD (n : Nat) : Nat := (0x10 + n) * 0x1000 + 0x60
def CQ_HEAD (n : Nat) : Nat := (0x10 + n) * 0x1000 + 0x64
def CQ_TAIL (n : Nat) : Nat := (0x10 + n) * 0x1000 + 0x68
def QP_STAT (n : Nat) : Nat := (0x10 + n) * 0x1000 + 0x6C
def QP_LOCKS (n : Nat) : Nat := (0x10 + n) * 0x1000 + 0x70
def DMA_CTRL (i : Nat) : Nat := 0x20 * 0x1000 + (0x40 + 0x10 * i)
def DMA_STAT (i : Nat) : Nat := 0x20 * 0x1000 + (0x44 + 0x10 * i)
def DMA_BYTES (i : Nat) : Nat := 0x20 * 0x1000 + (0x48 + 0x10 * i)
def DMA_ERR (i : Nat) : Nat := 0x20 * 0x1000 + (0x4C + 0x10 * i)
def STARVE : Nat := 0x21040
def RES_HOLD : Nat := 0x21044
def RES_CFG : Nat := 0x21048
def FWD_CFG : Nat := 0x2104C
def FWD_STAT : Nat := 0x21050
def FAULT_IRQ : Nat := 0x21054
def LINK_STAT : Nat := 0x21058
def CT_CFG : Nat := 0x50040
def CT_HOST_LAT : Nat := 0x50044
def CT_STAT : Nat := 0x50048
def LEADS : Nat := 0x5004C
def CT_SEL : Nat := 0x50050
def CT_EVT_IDX : Nat := 0x50054
def CLASS_BOUND_1 : Nat := 0x50058
def CLASS_BOUND_2 : Nat := 0x5005C
def CLASS_BOUND_3 : Nat := 0x50060
def CT_ENT (i : Nat) : Nat := 0x50 * 0x1000 + (0x80 + 0x4 * i)
def CT_EVT (i : Nat) : Nat := 0x50 * 0x1000 + (0x200 + 0x8 * i)
def CT_EVT_FT (i : Nat) : Nat := 0x50 * 0x1000 + (0x204 + 0x8 * i)
def RK_STAT : Nat := 0x60040
def RK_IMG : Nat := 0x60044
def RK_TICK : Nat := 0x60048
def RK_PT : Nat := 0x6004C
def TBL_CFG (i : Nat) : Nat := 0x60 * 0x1000 + (0x50 + 0x4 * i)
def COEF_CFG : Nat := 0x6005C
def COEF_CMD : Nat := 0x60060
def COEF_STAT : Nat := 0x60064
def COEF_CRC : Nat := 0x60068
def POLICY (i : Nat) : Nat := 0x60 * 0x1000 + (0x70 + 0x4 * i)
def OVR_CNT : Nat := 0x6007C
def FRIC_CRC (i : Nat) : Nat := 0x60 * 0x1000 + (0x80 + 0x4 * i)
def COG_CRC (i : Nat) : Nat := 0x60 * 0x1000 + (0x8C + 0x4 * i)
def CRV_CRC (i : Nat) : Nat := 0x60 * 0x1000 + (0x98 + 0x4 * i)
def TRC_CFG : Nat := 0x600C0
def TRC_STAT : Nat := 0x600C4
def TRC_WP : Nat := 0x600C8
def TRC_SEL (i : Nat) : Nat := 0x60 * 0x1000 + (0x100 + 0x4 * i)
def COL_STAT (n : Nat) : Nat := (0x61 + n) * 0x1000 + 0x40
def COL_FLAGS (n : Nat) : Nat := (0x61 + n) * 0x1000 + 0x44
def COL_CMD (n : Nat) : Nat := (0x61 + n) * 0x1000 + 0x48
def TRIG_CFG (n i : Nat) : Nat := (0x61 + n) * 0x1000 + (0x50 + 0x8 * i)
def TRIG_LIM (n i : Nat) : Nat := (0x61 + n) * 0x1000 + (0x54 + 0x8 * i)
def TRIG_USE (n i : Nat) : Nat := (0x61 + n) * 0x1000 + (0x90 + 0x4 * i)
def AX_CFG (n : Nat) : Nat := (0x70 + n) * 0x1000 + 0x40
def AX_ILIM (n i : Nat) : Nat := (0x70 + n) * 0x1000 + (0x44 + 0x4 * i)
def AX_LIMP (n : Nat) : Nat := (0x70 + n) * 0x1000 + 0x50
def AX_SHARE (n : Nat) : Nat := (0x70 + n) * 0x1000 + 0x54
def AX_TQ (n : Nat) : Nat := (0x70 + n) * 0x1000 + 0x58
def AX_SHORT (n : Nat) : Nat := (0x70 + n) * 0x1000 + 0x5C
def INJ_CFG (n : Nat) : Nat := (0x70 + n) * 0x1000 + 0x60
def INJ_AMP (n : Nat) : Nat := (0x70 + n) * 0x1000 + 0x64
def INJ_F0 (n : Nat) : Nat := (0x70 + n) * 0x1000 + 0x68
def INJ_F1 (n : Nat) : Nat := (0x70 + n) * 0x1000 + 0x6C
def INJ_LEN (n : Nat) : Nat := (0x70 + n) * 0x1000 + 0x70
def INJ_CMD (n : Nat) : Nat := (0x70 + n) * 0x1000 + 0x74
def INJ_STAT (n : Nat) : Nat := (0x70 + n) * 0x1000 + 0x78
def INJ_CNT (n : Nat) : Nat := (0x70 + n) * 0x1000 + 0x7C
def INJ_VAL (n : Nat) : Nat := (0x70 + n) * 0x1000 + 0x80
def PMP_CURVE (n : Nat) : Nat := (0x70 + n) * 0x1000 + 0xA0
def PMP_HO (n : Nat) : Nat := (0x70 + n) * 0x1000 + 0xA4
def PMP_START (n : Nat) : Nat := (0x70 + n) * 0x1000 + 0xA8
def PMP_RAMP (n : Nat) : Nat := (0x70 + n) * 0x1000 + 0xAC
def OBS_R (n : Nat) : Nat := (0x70 + n) * 0x1000 + 0xB0
def OBS_L (n : Nat) : Nat := (0x70 + n) * 0x1000 + 0xB4
def OBS_PSI (n : Nat) : Nat := (0x70 + n) * 0x1000 + 0xB8
def OBS_CFG (n : Nat) : Nat := (0x70 + n) * 0x1000 + 0xBC
def PMP_SCALE (n : Nat) : Nat := (0x70 + n) * 0x1000 + 0xC0
def PMP_DISP (n i : Nat) : Nat := (0x70 + n) * 0x1000 + (0xC4 + 0x4 * i)
def PMP_STAT (n : Nat) : Nat := (0x70 + n) * 0x1000 + 0xD0
def PMP_OBS (n : Nat) : Nat := (0x70 + n) * 0x1000 + 0xD4
def PMP_CMD (n : Nat) : Nat := (0x70 + n) * 0x1000 + 0xD8
def PMP_CNT (n : Nat) : Nat := (0x70 + n) * 0x1000 + 0xDC
def FB_CFG (n : Nat) : Nat := (0x80 + n) * 0x1000 + 0x40
def QD_CFG (n : Nat) : Nat := (0x80 + n) * 0x1000 + 0x44
def IDX_VAL (n : Nat) : Nat := (0x80 + n) * 0x1000 + 0x48
def IDX_TOL (n : Nat) : Nat := (0x80 + n) * 0x1000 + 0x4C
def CNT_MIN (n : Nat) : Nat := (0x80 + n) * 0x1000 + 0x50
def CNT_MAX (n : Nat) : Nat := (0x80 + n) * 0x1000 + 0x54
def SPD_FS (n : Nat) : Nat := (0x80 + n) * 0x1000 + 0x58
def SPD_TMO (n : Nat) : Nat := (0x80 + n) * 0x1000 + 0x5C
def SER_CFG (n : Nat) : Nat := (0x80 + n) * 0x1000 + 0x60
def SER_TIM (n : Nat) : Nat := (0x80 + n) * 0x1000 + 0x64
def SER_ZERO (n : Nat) : Nat := (0x80 + n) * 0x1000 + 0x68
def TRK_CFG (n : Nat) : Nat := (0x80 + n) * 0x1000 + 0x6C
def FB_STAT (n : Nat) : Nat := (0x80 + n) * 0x1000 + 0x80
def FB_CNT (n : Nat) : Nat := (0x80 + n) * 0x1000 + 0x84
def FB_SPD (n : Nat) : Nat := (0x80 + n) * 0x1000 + 0x88
def SER_LO (n : Nat) : Nat := (0x80 + n) * 0x1000 + 0x8C
def SER_HI (n : Nat) : Nat := (0x80 + n) * 0x1000 + 0x90
def SER_DLY (n : Nat) : Nat := (0x80 + n) * 0x1000 + 0x94
def IDX_CNT (n : Nat) : Nat := (0x80 + n) * 0x1000 + 0x98
def ERR_CNT (n : Nat) : Nat := (0x80 + n) * 0x1000 + 0x9C
def FB_CMD (n : Nat) : Nat := (0x80 + n) * 0x1000 + 0xA0
def DRV_PWM (n : Nat) : Nat := (0x90 + n) * 0x1000 + 0x40
def DRV_DUTY (n : Nat) : Nat := (0x90 + n) * 0x1000 + 0x44
def DRV_PROF_ON (n : Nat) : Nat := (0x90 + n) * 0x1000 + 0x48
def DRV_PROF_OFF (n : Nat) : Nat := (0x90 + n) * 0x1000 + 0x4C
def DRV_PROT (n : Nat) : Nat := (0x90 + n) * 0x1000 + 0x50
def DRV_DIAG (n : Nat) : Nat := (0x90 + n) * 0x1000 + 0x54
def DRV_CMD (n : Nat) : Nat := (0x90 + n) * 0x1000 + 0x58
def DRV_STAT (n : Nat) : Nat := (0x90 + n) * 0x1000 + 0x5C
def DRV_CAUSE (n : Nat) : Nat := (0x90 + n) * 0x1000 + 0x60
def DRV_OSD (n : Nat) : Nat := (0x90 + n) * 0x1000 + 0x64
def DRV_CNT (n : Nat) : Nat := (0x90 + n) * 0x1000 + 0x68
def SUP_OV : Nat := 0x93040
def SUP_UV : Nat := 0x93044
def CHP_CFG : Nat := 0x93048
def SUP_TEMP : Nat := 0x9304C
def SUP_CMD : Nat := 0x93050
def SUP_STAT : Nat := 0x93054
def CHP_TIME : Nat := 0x93058
def CR_STAT : Nat := 0xA0040
def CR_EPOCH : Nat := 0xA0044
def CR_JUDGE : Nat := 0xA0048
def FENCE_STAT : Nat := 0xA004C
def RJ_CMD : Nat := 0xA0050
def RJ_STAT : Nat := 0xA0054
def AGR_CNT : Nat := 0xA0058
def CR_CNT : Nat := 0xA005C
def CR_RES_CFG (i : Nat) : Nat := 0xA0 * 0x1000 + (0x60 + 0x4 * i)
def TQ_STEP (i : Nat) : Nat := 0xA0 * 0x1000 + (0x70 + 0x4 * i)
def RES_VAL (i : Nat) : Nat := 0xA0 * 0x1000 + (0x80 + 0x4 * i)
def RES_K (i : Nat) : Nat := 0xA0 * 0x1000 + (0x100 + 0x4 * i)
def TD_CFG : Nat := 0xA1040
def TD_WIT : Nat := 0xA1044
def TD_STAT : Nat := 0xA1048
def TD_AGE : Nat := 0xA104C
def TD_CNT : Nat := 0xA1050
def LS_STAT : Nat := 0xB0040
def LS_CFG : Nat := 0xB0044
def LS_CMD : Nat := 0xB0048
def LS_SEL : Nat := 0xB004C
def LS_TALLY_LO : Nat := 0xB0050
def LS_TALLY_HI : Nat := 0xB0054
def LS_WIN : Nat := 0xB0058
def LS_CNT : Nat := 0xB005C
def LS_LAST : Nat := 0xB0060
def SF_SEAL : Nat := 0xC0040
def SF_PROF : Nat := 0xC0044
def SF_ID : Nat := 0xC0048
def SF_CRC : Nat := 0xC004C
def SF_STAT (i : Nat) : Nat := 0xC0 * 0x1000 + (0x50 + 0x10 * i)
def SF_SLS (i : Nat) : Nat := 0xC0 * 0x1000 + (0x54 + 0x10 * i)
def SF_SLP (i : Nat) : Nat := 0xC0 * 0x1000 + (0x58 + 0x10 * i)
def SF_SDI (i : Nat) : Nat := 0xC0 * 0x1000 + (0x5C + 0x10 * i)
def K_CFG : Nat := 0xC1040
def K_STAT : Nat := 0xC1044
def K_CNT : Nat := 0xC1048
def K_OPEN_T : Nat := 0xC104C
def CLK_STAT : Nat := 0x2040
def CLK_SRC : Nat := 0x2044
def CLK_MON : Nat := 0x2048
def CLK_XSD : Nat := 0x204C
def CLK_MEAS_SEL : Nat := 0x2050
def CLK_MEAS : Nat := 0x2054
def CKO_CFG : Nat := 0x2058
def CLK_CNT : Nat := 0x205C
def PWR_STAT : Nat := 0x3040
def PWR_VOTES : Nat := 0x3044
def PWR_HOST : Nat := 0x3048
def PWR_CFG : Nat := 0x304C
def LAST_WAKE : Nat := 0x3050
def PWR_EVT : Nat := 0x3054
def SEC_STAT : Nat := 0x4040
def SEC_CMD : Nat := 0x4044
def SEC_LOCK : Nat := 0x4048
def UPD_REQ : Nat := 0x404C
def UPD_STAT : Nat := 0x4050
def IMG_FW : Nat := 0x4054
def IMG_CL : Nat := 0x4058
def IMG_SP : Nat := 0x405C
def HSS_IDX : Nat := 0x4060
def KEY_STAT : Nat := 0x4064
def RB_SEL : Nat := 0x4068
def RB_SHOW : Nat := 0x406C
def CERT_SEL : Nat := 0x4070
def CERT_LEN : Nat := 0x4074
def SEC_PW (i : Nat) : Nat := 0x4 * 0x1000 + (0x80 + 0x4 * i)
def SEC_CHAL (i : Nat) : Nat := 0x4 * 0x1000 + (0xC0 + 0x4 * i)
def CERT_WIN (i : Nat) : Nat := 0x4 * 0x1000 + (0x800 + 0x4 * i)

end Rg

namespace Fl

def PG_ID_PAGE_IDX (p : Nat) : Fld := ⟨p, 0x0, 20, 12⟩
def PG_ID_FMT (p : Nat) : Fld := ⟨p, 0x0, 16, 4⟩
def PG_ID_ROD (p : Nat) : Fld := ⟨p, 0x0, 8, 2⟩
def PG_ID_INST (p : Nat) : Fld := ⟨p, 0x0, 0, 8⟩
def PG_CAPS_STAGED (p : Nat) : Fld := ⟨p, 0x4, 31, 1⟩
def PG_CAPS_VECTOR (p : Nat) : Fld := ⟨p, 0x4, 16, 8⟩
def PG_CAPS_GROUPS (p : Nat) : Fld := ⟨p, 0x4, 8, 6⟩
def PG_CAPS_DOMAIN (p : Nat) : Fld := ⟨p, 0x4, 0, 4⟩
def PG_CTRL_MSG_OFF (p : Nat) : Fld := ⟨p, 0x8, 8, 1⟩
def PG_CTRL_ERR_LOG (p : Nat) : Fld := ⟨p, 0x8, 0, 1⟩
def PG_STAT_CLK_OK (p : Nat) : Fld := ⟨p, 0xC, 31, 1⟩
def PG_STAT_PWR_OK (p : Nat) : Fld := ⟨p, 0xC, 30, 1⟩
def PG_STAT_LOCKED (p : Nat) : Fld := ⟨p, 0xC, 29, 1⟩
def PG_STAT_ERR (p : Nat) : Fld := ⟨p, 0xC, 28, 1⟩
def PG_STAT_IRQ (p : Nat) : Fld := ⟨p, 0xC, 0, 1⟩
def IRQ_RAW_ERR (p : Nat) : Fld := ⟨p, 0x10, 31, 1⟩
def IRQ_RAW_STG (p : Nat) : Fld := ⟨p, 0x10, 30, 1⟩
def IRQ_RAW_SRC (p : Nat) : Fld := ⟨p, 0x10, 0, 30⟩
def IRQ_EN_EN (p : Nat) : Fld := ⟨p, 0x14, 0, 32⟩
def IRQ_PEND_PEND (p : Nat) : Fld := ⟨p, 0x18, 0, 32⟩
def IRQ_FORCE_FORCE (p : Nat) : Fld := ⟨p, 0x1C, 0, 32⟩
def LOCK_HELD (p : Nat) : Fld := ⟨p, 0x30, 31, 1⟩
def LOCK_PATH (p : Nat) : Fld := ⟨p, 0x30, 16, 3⟩
def LOCK_REQ (p : Nat) : Fld := ⟨p, 0x30, 0, 1⟩
def ERRCAP_0_VALID (p : Nat) : Fld := ⟨p, 0x34, 31, 1⟩
def ERRCAP_0_OVERFLOW (p : Nat) : Fld := ⟨p, 0x34, 30, 1⟩
def ERRCAP_0_TYPE (p : Nat) : Fld := ⟨p, 0x34, 24, 4⟩
def ERRCAP_0_PATH (p : Nat) : Fld := ⟨p, 0x34, 20, 3⟩
def ERRCAP_0_OFFSET (p : Nat) : Fld := ⟨p, 0x34, 0, 12⟩
def ERRCAP_1_DATA (p : Nat) : Fld := ⟨p, 0x38, 0, 32⟩
def STG_CTRL_OPEN (p : Nat) : Fld := ⟨p, 0x20, 31, 1⟩
def STG_CTRL_VIEW (p : Nat) : Fld := ⟨p, 0x20, 8, 1⟩
def STG_CTRL_MODE (p : Nat) : Fld := ⟨p, 0x20, 4, 2⟩
def STG_CTRL_COMMIT (p : Nat) : Fld := ⟨p, 0x20, 0, 1⟩
def STG_STAT_MISMATCH (p : Nat) : Fld := ⟨p, 0x24, 31, 1⟩
def STG_STAT_DONE (p : Nat) : Fld := ⟨p, 0x24, 30, 1⟩
def STG_STAT_DIRTY (p : Nat) : Fld := ⟨p, 0x24, 29, 1⟩
def STG_STAT_ARMED (p : Nat) : Fld := ⟨p, 0x24, 28, 1⟩
def STG_STAT_CODE (p : Nat) : Fld := ⟨p, 0x24, 16, 8⟩
def STG_STAT_GROUP (p : Nat) : Fld := ⟨p, 0x24, 8, 8⟩
def STG_STAT_SEQ (p : Nat) : Fld := ⟨p, 0x24, 0, 8⟩
def ID_PART_PART : Fld := ⟨0x0, 0x40, 16, 16⟩
def ID_PART_GRADE : Fld := ⟨0x0, 0x40, 0, 8⟩
def ID_STEP_LETTER : Fld := ⟨0x0, 0x44, 8, 8⟩
def ID_STEP_NUMBER : Fld := ⟨0x0, 0x44, 0, 8⟩
def ID_ROM_VERSION : Fld := ⟨0x0, 0x48, 0, 16⟩
def ID_OPH_HOURS : Fld := ⟨0x0, 0x4C, 0, 32⟩
def ID_UID_UID (i : Nat) : Fld := ⟨0x0, (0x50 + 0x4 * i), 0, 32⟩
def ID_MSN_MSN (i : Nat) : Fld := ⟨0x0, (0x60 + 0x4 * i), 0, 32⟩
def FL_SEQ_SEQ : Fld := ⟨0xD0, 0x40, 0, 32⟩
def FL_ACK_ACK : Fld := ⟨0xD0, 0x44, 0, 32⟩
def FL_UNACK_ANY : Fld := ⟨0xD0, 0x48, 31, 1⟩
def FL_UNACK_LOST : Fld := ⟨0xD0, 0x48, 30, 1⟩
def FL_UNACK_MAXSEV : Fld := ⟨0xD0, 0x48, 24, 3⟩
def FL_UNACK_COUNT : Fld := ⟨0xD0, 0x48, 0, 16⟩
def FL_FLASH_N : Fld := ⟨0xD0, 0x4C, 0, 7⟩
def DIAG_TJ_T : Fld := ⟨0xD0, 0x50, 0, 16⟩
def DIAG_ECC_SRAM : Fld := ⟨0xD0, 0x54, 16, 16⟩
def DIAG_ECC_FLASH : Fld := ⟨0xD0, 0x54, 0, 16⟩
def SYS_MODE_SEQ : Fld := ⟨0x1, 0x40, 24, 8⟩
def SYS_MODE_VOTERS : Fld := ⟨0x1, 0x40, 16, 3⟩
def SYS_MODE_PREV : Fld := ⟨0x1, 0x40, 8, 3⟩
def SYS_MODE_MODE : Fld := ⟨0x1, 0x40, 0, 3⟩
def MODE_REQ_GO : Fld := ⟨0x1, 0x44, 31, 1⟩
def MODE_REQ_KEY : Fld := ⟨0x1, 0x44, 8, 8⟩
def MODE_REQ_TARGET : Fld := ⟨0x1, 0x44, 0, 3⟩
def REQ_STAT_DONE : Fld := ⟨0x1, 0x48, 31, 1⟩
def REQ_STAT_REFUSED : Fld := ⟨0x1, 0x48, 30, 1⟩
def REQ_STAT_PENDING : Fld := ⟨0x1, 0x48, 29, 1⟩
def REQ_STAT_REASON : Fld := ⟨0x1, 0x48, 16, 8⟩
def REQ_STAT_TARGET : Fld := ⟨0x1, 0x48, 0, 3⟩
def ROD_STATE_ROD_Z : Fld := ⟨0x1, 0x4C, 8, 4⟩
def ROD_STATE_ROD_Y : Fld := ⟨0x1, 0x4C, 4, 4⟩
def ROD_STATE_ROD_X : Fld := ⟨0x1, 0x4C, 0, 4⟩
def ARM_STAT_RUN : Fld := ⟨0x1, 0x50, 31, 1⟩
def ARM_STAT_FAIL : Fld := ⟨0x1, 0x50, 30, 1⟩
def ARM_STAT_WAIT_AXES : Fld := ⟨0x1, 0x50, 24, 3⟩
def ARM_STAT_STEP : Fld := ⟨0x1, 0x50, 16, 4⟩
def ARM_STAT_FCODE : Fld := ⟨0x1, 0x50, 0, 16⟩
def ARM_CFG_KAUX_TMO : Fld := ⟨0x1, 0x54, 16, 6⟩
def ARM_CFG_AXES : Fld := ⟨0x1, 0x54, 0, 3⟩
def ARM_RELEASE_REL : Fld := ⟨0x1, 0x58, 0, 3⟩
def STILL_SPD_THRESH (i : Nat) : Fld := ⟨0x1, (0x60 + 0x4 * i), 0, 16⟩
def START_TIME_BOOT_TIME : Fld := ⟨0x1, 0x6C, 16, 16⟩
def START_TIME_ARM_TIME : Fld := ⟨0x1, 0x6C, 0, 16⟩
def FT_STAT_VALID : Fld := ⟨0x40, 0x48, 31, 1⟩
def FT_STAT_LOCKED : Fld := ⟨0x40, 0x48, 30, 1⟩
def FT_STAT_HOLD : Fld := ⟨0x40, 0x48, 29, 1⟩
def FT_STAT_XMOD_OK : Fld := ⟨0x40, 0x48, 28, 1⟩
def FT_STAT_SRC_USED : Fld := ⟨0x40, 0x48, 16, 3⟩
def FT_STAT_OUTLIER : Fld := ⟨0x40, 0x48, 8, 3⟩
def FT_STAT_SRC_MODE : Fld := ⟨0x40, 0x48, 0, 2⟩
def REMAINDER_E : Fld := ⟨0x40, 0x4C, 0, 32⟩
def RATE_CORR_RATE : Fld := ⟨0x40, 0x50, 0, 32⟩
def CT_ERR_ERR (i : Nat) : Fld := ⟨0x40, (0x54 + 0x4 * i), 0, 32⟩
def TB_CFG_TB_CH : Fld := ⟨0x40, 0x60, 12, 1⟩
def TB_CFG_TB_SLOT : Fld := ⟨0x40, 0x60, 0, 11⟩
def CL_DELAY_DELAY : Fld := ⟨0x40, 0x64, 0, 10⟩
def DISC_CFG_SLEW_MAX : Fld := ⟨0x40, 0x68, 16, 9⟩
def DISC_CFG_OUT_LIM : Fld := ⟨0x40, 0x68, 0, 16⟩
def HOLD_CFG_LOSS_LIM : Fld := ⟨0x40, 0x6C, 16, 16⟩
def HOLD_CFG_HOLD_LIM : Fld := ⟨0x40, 0x6C, 0, 16⟩
def SNAP_CTRL_TAKE : Fld := ⟨0x40, 0x70, 0, 1⟩
def SNAP_FT_LO_FT : Fld := ⟨0x40, 0x74, 0, 32⟩
def SNAP_FT_HI_FT : Fld := ⟨0x40, 0x78, 0, 32⟩
def TICK_FT_LO_FT : Fld := ⟨0x40, 0x80, 0, 32⟩
def TICK_FT_HI_FT : Fld := ⟨0x40, 0x84, 0, 32⟩
def FR_CMD_KEY : Fld := ⟨0x30, 0x40, 8, 8⟩
def FR_CMD_CMD : Fld := ⟨0x30, 0x40, 0, 4⟩
def FR_STAT_LOST : Fld := ⟨0x30, 0x44, 31, 1⟩
def FR_STAT_CMD_REFUSED : Fld := ⟨0x30, 0x44, 29, 1⟩
def FR_STAT_LEADER : Fld := ⟨0x30, 0x44, 28, 1⟩
def FR_STAT_CH_B_OK : Fld := ⟨0x30, 0x44, 25, 1⟩
def FR_STAT_CH_A_OK : Fld := ⟨0x30, 0x44, 24, 1⟩
def FR_STAT_WAKE_RX_B : Fld := ⟨0x30, 0x44, 21, 1⟩
def FR_STAT_WAKE_RX_A : Fld := ⟨0x30, 0x44, 20, 1⟩
def FR_STAT_POC : Fld := ⟨0x30, 0x44, 0, 4⟩
def FR_MODE_KEY_SLOT : Fld := ⟨0x30, 0x48, 16, 11⟩
def FR_MODE_TXEN_LOW : Fld := ⟨0x30, 0x48, 12, 1⟩
def FR_MODE_SYNC : Fld := ⟨0x30, 0x48, 9, 1⟩
def FR_MODE_COLDSTART : Fld := ⟨0x30, 0x48, 8, 1⟩
def FR_MODE_CH_USE : Fld := ⟨0x30, 0x48, 4, 2⟩
def FR_MODE_BITRATE : Fld := ⟨0x30, 0x48, 0, 2⟩
def FR_TIMING_MT : Fld := ⟨0x30, 0x4C, 16, 3⟩
def FR_TIMING_MACRO_PER_CYCLE : Fld := ⟨0x30, 0x4C, 0, 14⟩
def FR_STATIC_PL_STATIC : Fld := ⟨0x30, 0x50, 25, 7⟩
def FR_STATIC_SLOT_LEN : Fld := ⟨0x30, 0x50, 15, 10⟩
def FR_STATIC_N_STATIC : Fld := ⟨0x30, 0x50, 0, 10⟩
def FR_DYN_MINI_APO : Fld := ⟨0x30, 0x54, 24, 5⟩
def FR_DYN_MINI_LEN : Fld := ⟨0x30, 0x54, 16, 6⟩
def FR_DYN_N_MINI : Fld := ⟨0x30, 0x54, 0, 13⟩
def FR_TAIL_APO : Fld := ⟨0x30, 0x58, 26, 6⟩
def FR_TAIL_NIT : Fld := ⟨0x30, 0x58, 16, 10⟩
def FR_TAIL_SYM_WIN : Fld := ⟨0x30, 0x58, 0, 8⟩
def FR_CSYNC_0_RATE_OUT : Fld := ⟨0x30, 0x5C, 16, 11⟩
def FR_CSYNC_0_OFFS_OUT : Fld := ⟨0x30, 0x5C, 0, 14⟩
def FR_CSYNC_1_HALT_CLK : Fld := ⟨0x30, 0x60, 24, 1⟩
def FR_CSYNC_1_SYNC_MAX : Fld := ⟨0x30, 0x60, 16, 5⟩
def FR_CSYNC_1_P2A : Fld := ⟨0x30, 0x60, 8, 5⟩
def FR_CSYNC_1_FATAL : Fld := ⟨0x30, 0x60, 4, 4⟩
def FR_CSYNC_1_PASSIVE : Fld := ⟨0x30, 0x60, 0, 4⟩
def FR_START_WUP_REP : Fld := ⟨0x30, 0x64, 16, 6⟩
def FR_START_WAKE_CH : Fld := ⟨0x30, 0x64, 8, 1⟩
def FR_START_COLD_ATT : Fld := ⟨0x30, 0x64, 0, 5⟩
def FR_LOSS_LOSS_CYC : Fld := ⟨0x30, 0x68, 0, 4⟩
def FR_CORR_RATE : Fld := ⟨0x30, 0x6C, 16, 16⟩
def FR_CORR_OFFSET : Fld := ⟨0x30, 0x6C, 0, 16⟩
def FR_CNT_MT : Fld := ⟨0x30, 0x70, 16, 14⟩
def FR_CNT_CYCLE : Fld := ⟨0x30, 0x70, 0, 6⟩
def FR_SYNC_NOCORR : Fld := ⟨0x30, 0x74, 24, 4⟩
def FR_SYNC_SYNC_N : Fld := ⟨0x30, 0x74, 8, 5⟩
def FR_SYNC_RATE_LIM : Fld := ⟨0x30, 0x74, 1, 1⟩
def FR_SYNC_OFFS_LIM : Fld := ⟨0x30, 0x74, 0, 1⟩
def FR_SBV_SBV_B : Fld := ⟨0x30, 0x78, 16, 16⟩
def FR_SBV_SBV_A : Fld := ⟨0x30, 0x78, 0, 16⟩
def FR_ERR_CONTENT_B : Fld := ⟨0x30, 0x7C, 24, 8⟩
def FR_ERR_CONTENT_A : Fld := ⟨0x30, 0x7C, 16, 8⟩
def FR_ERR_SYNTAX_B : Fld := ⟨0x30, 0x7C, 8, 8⟩
def FR_ERR_SYNTAX_A : Fld := ⟨0x30, 0x7C, 0, 8⟩
def FR_COLD_COLL : Fld := ⟨0x30, 0x80, 24, 8⟩
def FR_COLD_ATT_LEFT : Fld := ⟨0x30, 0x80, 16, 5⟩
def FR_COLD_OTHER_KEY : Fld := ⟨0x30, 0x80, 0, 11⟩
def MB_CFG_EN (b : Nat) : Fld := ⟨(0x31 + b / 9), (0x40 + 0x1C0 * (b % 9) + 0x0), 31, 1⟩
def MB_CFG_DIR (b : Nat) : Fld := ⟨(0x31 + b / 9), (0x40 + 0x1C0 * (b % 9) + 0x0), 30, 1⟩
def MB_CFG_CH (b : Nat) : Fld := ⟨(0x31 + b / 9), (0x40 + 0x1C0 * (b % 9) + 0x0), 28, 2⟩
def MB_CFG_ONESHOT (b : Nat) : Fld := ⟨(0x31 + b / 9), (0x40 + 0x1C0 * (b % 9) + 0x0), 27, 1⟩
def MB_CFG_REP (b : Nat) : Fld := ⟨(0x31 + b / 9), (0x40 + 0x1C0 * (b % 9) + 0x0), 24, 3⟩
def MB_CFG_BASE (b : Nat) : Fld := ⟨(0x31 + b / 9), (0x40 + 0x1C0 * (b % 9) + 0x0), 18, 6⟩
def MB_CFG_PL (b : Nat) : Fld := ⟨(0x31 + b / 9), (0x40 + 0x1C0 * (b % 9) + 0x0), 11, 7⟩
def MB_CFG_SLOT (b : Nat) : Fld := ⟨(0x31 + b / 9), (0x40 + 0x1C0 * (b % 9) + 0x0), 0, 11⟩
def MB_STAT_NEW (b : Nat) : Fld := ⟨(0x31 + b / 9), (0x40 + 0x1C0 * (b % 9) + 0x4), 31, 1⟩
def MB_STAT_NULL (b : Nat) : Fld := ⟨(0x31 + b / 9), (0x40 + 0x1C0 * (b % 9) + 0x4), 29, 1⟩
def MB_STAT_DIFF (b : Nat) : Fld := ⟨(0x31 + b / 9), (0x40 + 0x1C0 * (b % 9) + 0x4), 28, 1⟩
def MB_STAT_PASSIVE (b : Nat) : Fld := ⟨(0x31 + b / 9), (0x40 + 0x1C0 * (b % 9) + 0x4), 27, 1⟩
def MB_STAT_RX_CH (b : Nat) : Fld := ⟨(0x31 + b / 9), (0x40 + 0x1C0 * (b % 9) + 0x4), 24, 2⟩
def MB_STAT_LOST (b : Nat) : Fld := ⟨(0x31 + b / 9), (0x40 + 0x1C0 * (b % 9) + 0x4), 16, 8⟩
def MB_STAT_CYCLE (b : Nat) : Fld := ⟨(0x31 + b / 9), (0x40 + 0x1C0 * (b % 9) + 0x4), 8, 6⟩
def MB_STAT_RX_PL (b : Nat) : Fld := ⟨(0x31 + b / 9), (0x40 + 0x1C0 * (b % 9) + 0x4), 0, 7⟩
def MB_CTRL_HOLD (b : Nat) : Fld := ⟨(0x31 + b / 9), (0x40 + 0x1C0 * (b % 9) + 0x10), 1, 1⟩
def MB_CTRL_READY (b : Nat) : Fld := ⟨(0x31 + b / 9), (0x40 + 0x1C0 * (b % 9) + 0x10), 0, 1⟩
def QP_CTRL_EN (n : Nat) : Fld := ⟨(0x10 + n), 0x40, 31, 1⟩
def QP_CTRL_WR_CH (n : Nat) : Fld := ⟨(0x10 + n), 0x40, 8, 1⟩
def QP_CTRL_RD_CH (n : Nat) : Fld := ⟨(0x10 + n), 0x40, 4, 1⟩
def QP_CLASS_URGENT (n : Nat) : Fld := ⟨(0x10 + n), 0x44, 0, 1⟩
def SQ_BASE_LO_ADDR (n : Nat) : Fld := ⟨(0x10 + n), 0x48, 0, 32⟩
def CQ_BASE_LO_ADDR (n : Nat) : Fld := ⟨(0x10 + n), 0x50, 0, 32⟩
def SQ_BASE_HI_ADDR (n : Nat) : Fld := ⟨(0x10 + n), 0x4C, 0, 32⟩
def CQ_BASE_HI_ADDR (n : Nat) : Fld := ⟨(0x10 + n), 0x54, 0, 32⟩
def QP_SIZE_CQ_LEN (n : Nat) : Fld := ⟨(0x10 + n), 0x58, 16, 13⟩
def QP_SIZE_SQ_LEN (n : Nat) : Fld := ⟨(0x10 + n), 0x58, 0, 13⟩
def SQ_TAIL_TAIL (n : Nat) : Fld := ⟨(0x10 + n), 0x5C, 0, 12⟩
def SQ_HEAD_HEAD (n : Nat) : Fld := ⟨(0x10 + n), 0x60, 0, 12⟩
def CQ_HEAD_HEAD (n : Nat) : Fld := ⟨(0x10 + n), 0x64, 0, 12⟩
def CQ_TAIL_TAIL (n : Nat) : Fld := ⟨(0x10 + n), 0x68, 0, 12⟩
def QP_STAT_RUN (n : Nat) : Fld := ⟨(0x10 + n), 0x6C, 31, 1⟩
def QP_STAT_CQ_OVF (n : Nat) : Fld := ⟨(0x10 + n), 0x6C, 30, 1⟩
def QP_STAT_SQ_ERR (n : Nat) : Fld := ⟨(0x10 + n), 0x6C, 29, 1⟩
def QP_STAT_CQ_WAIT (n : Nat) : Fld := ⟨(0x10 + n), 0x6C, 28, 1⟩
def QP_STAT_INFLIGHT (n : Nat) : Fld := ⟨(0x10 + n), 0x6C, 0, 4⟩
def QP_LOCKS_HELD (n : Nat) : Fld := ⟨(0x10 + n), 0x70, 0, 4⟩
def DMA_CTRL_RD_OUT (i : Nat) : Fld := ⟨0x20, (0x40 + 0x10 * i), 16, 6⟩
def DMA_CTRL_BURST (i : Nat) : Fld := ⟨0x20, (0x40 + 0x10 * i), 0, 5⟩
def DMA_STAT_BUSY (i : Nat) : Fld := ⟨0x20, (0x44 + 0x10 * i), 31, 1⟩
def DMA_STAT_QP (i : Nat) : Fld := ⟨0x20, (0x44 + 0x10 * i), 24, 4⟩
def DMA_STAT_CID (i : Nat) : Fld := ⟨0x20, (0x44 + 0x10 * i), 0, 16⟩
def DMA_BYTES_BYTES (i : Nat) : Fld := ⟨0x20, (0x48 + 0x10 * i), 0, 32⟩
def DMA_ERR_VALID (i : Nat) : Fld := ⟨0x20, (0x4C + 0x10 * i), 31, 1⟩
def DMA_ERR_TYPE (i : Nat) : Fld := ⟨0x20, (0x4C + 0x10 * i), 24, 3⟩
def DMA_ERR_QP (i : Nat) : Fld := ⟨0x20, (0x4C + 0x10 * i), 16, 4⟩
def DMA_ERR_CID (i : Nat) : Fld := ⟨0x20, (0x4C + 0x10 * i), 0, 16⟩
def STARVE_REQ : Fld := ⟨0x21, 0x40, 0, 28⟩
def RES_HOLD_RANK_4 : Fld := ⟨0x21, 0x44, 24, 8⟩
def RES_HOLD_RANK_3 : Fld := ⟨0x21, 0x44, 16, 8⟩
def RES_HOLD_RANK_2 : Fld := ⟨0x21, 0x44, 8, 8⟩
def RES_HOLD_RANK_1 : Fld := ⟨0x21, 0x44, 0, 8⟩
def RES_CFG_LOCK_TMO : Fld := ⟨0x21, 0x48, 0, 16⟩
def FWD_CFG_RELAY : Fld := ⟨0x21, 0x4C, 16, 3⟩
def FWD_CFG_FWD_TMO : Fld := ⟨0x21, 0x4C, 0, 16⟩
def FWD_STAT_TMO : Fld := ⟨0x21, 0x50, 31, 1⟩
def FWD_STAT_ROD : Fld := ⟨0x21, 0x50, 16, 2⟩
def FAULT_IRQ_RELAY_EN : Fld := ⟨0x21, 0x54, 8, 5⟩
def FAULT_IRQ_OWN_EN : Fld := ⟨0x21, 0x54, 0, 5⟩
def LINK_STAT_UP : Fld := ⟨0x21, 0x58, 31, 1⟩
def LINK_STAT_SPEED : Fld := ⟨0x21, 0x58, 16, 3⟩
def LINK_STAT_UP_CNT : Fld := ⟨0x21, 0x58, 0, 16⟩
def CT_CFG_PLACEMENT : Fld := ⟨0x50, 0x40, 31, 1⟩
def CT_CFG_POOL_N : Fld := ⟨0x50, 0x40, 8, 7⟩
def CT_CFG_POOL_FIRST : Fld := ⟨0x50, 0x40, 0, 7⟩
def CT_HOST_LAT_HOST_LAT : Fld := ⟨0x50, 0x44, 0, 16⟩
def CT_STAT_NOTICE : Fld := ⟨0x50, 0x48, 31, 1⟩
def CT_STAT_USED : Fld := ⟨0x50, 0x48, 16, 9⟩
def CT_STAT_CAP : Fld := ⟨0x50, 0x48, 8, 6⟩
def CT_STAT_LOAD : Fld := ⟨0x50, 0x48, 0, 6⟩
def LEADS_AXIS_2 : Fld := ⟨0x50, 0x4C, 4, 2⟩
def LEADS_AXIS_1 : Fld := ⟨0x50, 0x4C, 2, 2⟩
def LEADS_AXIS_0 : Fld := ⟨0x50, 0x4C, 0, 2⟩
def CT_SEL_ENTRY : Fld := ⟨0x50, 0x50, 0, 8⟩
def CT_EVT_IDX_NEXT : Fld := ⟨0x50, 0x54, 0, 6⟩
def CT_EVT_FT_FT (i : Nat) : Fld := ⟨0x50, (0x204 + 0x8 * i), 0, 32⟩
def CT_EVT_REASON (i : Nat) : Fld := ⟨0x50, (0x200 + 0x8 * i), 20, 4⟩
def CT_EVT_KIND (i : Nat) : Fld := ⟨0x50, (0x200 + 0x8 * i), 16, 4⟩
def CT_EVT_HANDLE (i : Nat) : Fld := ⟨0x50, (0x200 + 0x8 * i), 0, 16⟩
def RK_STAT_RUN : Fld := ⟨0x60, 0x40, 31, 1⟩
def RK_STAT_IMG_OK : Fld := ⟨0x60, 0x40, 30, 1⟩
def RK_STAT_PLACE_FAIL : Fld := ⟨0x60, 0x40, 29, 1⟩
def RK_STAT_DOUBLE : Fld := ⟨0x60, 0x40, 28, 1⟩
def RK_IMG_VERSION : Fld := ⟨0x60, 0x44, 16, 16⟩
def RK_IMG_LENGTH : Fld := ⟨0x60, 0x44, 0, 14⟩
def RK_TICK_TICK : Fld := ⟨0x60, 0x48, 0, 32⟩
def RK_PT_PC : Fld := ⟨0x60, 0x4C, 0, 16⟩
def TBL_CFG_CRV_BANK (i : Nat) : Fld := ⟨0x60, (0x50 + 0x4 * i), 26, 1⟩
def TBL_CFG_COG_BANK (i : Nat) : Fld := ⟨0x60, (0x50 + 0x4 * i), 25, 1⟩
def TBL_CFG_FRIC_BANK (i : Nat) : Fld := ⟨0x60, (0x50 + 0x4 * i), 24, 1⟩
def TBL_CFG_LEN_LOG2 (i : Nat) : Fld := ⟨0x60, (0x50 + 0x4 * i), 16, 4⟩
def TBL_CFG_BASE (i : Nat) : Fld := ⟨0x60, (0x50 + 0x4 * i), 0, 12⟩
def COEF_CFG_BANK : Fld := ⟨0x60, 0x5C, 0, 1⟩
def COEF_CMD_SYNC : Fld := ⟨0x60, 0x60, 0, 1⟩
def COEF_STAT_SYNC_BUSY : Fld := ⟨0x60, 0x64, 31, 1⟩
def COEF_CRC_CRC : Fld := ⟨0x60, 0x68, 0, 32⟩
def FRIC_CRC_CRC (i : Nat) : Fld := ⟨0x60, (0x80 + 0x4 * i), 0, 32⟩
def COG_CRC_CRC (i : Nat) : Fld := ⟨0x60, (0x8C + 0x4 * i), 0, 32⟩
def CRV_CRC_CRC (i : Nat) : Fld := ⟨0x60, (0x98 + 0x4 * i), 0, 32⟩
def POLICY_DRV_OFF (i : Nat) : Fld := ⟨0x60, (0x70 + 0x4 * i), 8, 1⟩
def POLICY_OVR_LIM (i : Nat) : Fld := ⟨0x60, (0x70 + 0x4 * i), 0, 4⟩
def OVR_CNT_AXIS_2 : Fld := ⟨0x60, 0x7C, 16, 8⟩
def OVR_CNT_AXIS_1 : Fld := ⟨0x60, 0x7C, 8, 8⟩
def OVR_CNT_AXIS_0 : Fld := ⟨0x60, 0x7C, 0, 8⟩
def TRC_CFG_EN : Fld := ⟨0x60, 0xC0, 31, 1⟩
def TRC_CFG_MODE : Fld := ⟨0x60, 0xC0, 28, 1⟩
def TRC_CFG_DEC : Fld := ⟨0x60, 0xC0, 16, 6⟩
def TRC_CFG_N : Fld := ⟨0x60, 0xC0, 0, 4⟩
def TRC_STAT_WRAP : Fld := ⟨0x60, 0xC4, 31, 1⟩
def TRC_STAT_FULL : Fld := ⟨0x60, 0xC4, 30, 1⟩
def TRC_WP_OFFSET : Fld := ⟨0x60, 0xC8, 0, 20⟩
def TRC_SEL_ADDR (i : Nat) : Fld := ⟨0x60, (0x100 + 0x4 * i), 0, 14⟩
def COL_STAT_BUSY (n : Nat) : Fld := ⟨(0x61 + n), 0x40, 31, 1⟩
def COL_STAT_TRIG (n : Nat) : Fld := ⟨(0x61 + n), 0x40, 24, 3⟩
def COL_STAT_PC (n : Nat) : Fld := ⟨(0x61 + n), 0x40, 0, 14⟩
def COL_FLAGS_SAT (n : Nat) : Fld := ⟨(0x61 + n), 0x44, 31, 1⟩
def COL_FLAGS_AOV (n : Nat) : Fld := ⟨(0x61 + n), 0x44, 30, 1⟩
def COL_FLAGS_PROT (n : Nat) : Fld := ⟨(0x61 + n), 0x44, 29, 1⟩
def COL_FLAGS_COLL (n : Nat) : Fld := ⟨(0x61 + n), 0x44, 28, 1⟩
def COL_FLAGS_N (n : Nat) : Fld := ⟨(0x61 + n), 0x44, 1, 1⟩
def COL_FLAGS_Z (n : Nat) : Fld := ⟨(0x61 + n), 0x44, 0, 1⟩
def COL_CMD_CLR_MAX (n : Nat) : Fld := ⟨(0x61 + n), 0x48, 0, 1⟩
def TRIG_CFG_SRC (n i : Nat) : Fld := ⟨(0x61 + n), (0x50 + 0x8 * i), 30, 2⟩
def TRIG_CFG_AXIS (n i : Nat) : Fld := ⟨(0x61 + n), (0x50 + 0x8 * i), 24, 2⟩
def TRIG_CFG_LOOP (n i : Nat) : Fld := ⟨(0x61 + n), (0x50 + 0x8 * i), 16, 8⟩
def TRIG_CFG_ENTRY (n i : Nat) : Fld := ⟨(0x61 + n), (0x50 + 0x8 * i), 0, 14⟩
def TRIG_LIM_START (n i : Nat) : Fld := ⟨(0x61 + n), (0x54 + 0x8 * i), 16, 16⟩
def TRIG_LIM_LIMIT (n i : Nat) : Fld := ⟨(0x61 + n), (0x54 + 0x8 * i), 0, 16⟩
def TRIG_USE_MAX (n i : Nat) : Fld := ⟨(0x61 + n), (0x90 + 0x4 * i), 16, 16⟩
def TRIG_USE_LAST (n i : Nat) : Fld := ⟨(0x61 + n), (0x90 + 0x4 * i), 0, 16⟩
def AX_CFG_LEAD (n : Nat) : Fld := ⟨(0x70 + n), 0x40, 24, 2⟩
def AX_CFG_OUTER_DIV (n : Nat) : Fld := ⟨(0x70 + n), 0x40, 16, 6⟩
def AX_CFG_SETS (n : Nat) : Fld := ⟨(0x70 + n), 0x40, 8, 3⟩
def AX_CFG_GAIN (n : Nat) : Fld := ⟨(0x70 + n), 0x40, 4, 2⟩
def AX_CFG_ROLE (n : Nat) : Fld := ⟨(0x70 + n), 0x40, 0, 2⟩
def AX_ILIM_LIM (n i : Nat) : Fld := ⟨(0x70 + n), (0x44 + 0x4 * i), 0, 16⟩
def AX_LIMP_PCT (n : Nat) : Fld := ⟨(0x70 + n), 0x50, 0, 7⟩
def AX_SHARE_HEALTHY (n : Nat) : Fld := ⟨(0x70 + n), 0x54, 24, 3⟩
def AX_SHARE_N (n : Nat) : Fld := ⟨(0x70 + n), 0x54, 20, 2⟩
def AX_SHARE_SHORT_ON (n : Nat) : Fld := ⟨(0x70 + n), 0x54, 16, 1⟩
def AX_TQ_T (n : Nat) : Fld := ⟨(0x70 + n), 0x58, 0, 32⟩
def AX_SHORT_SHORT (n : Nat) : Fld := ⟨(0x70 + n), 0x5C, 0, 32⟩
def INJ_CFG_EN (n : Nat) : Fld := ⟨(0x70 + n), 0x60, 31, 1⟩
def INJ_CFG_TGT (n : Nat) : Fld := ⟨(0x70 + n), 0x60, 24, 3⟩
def INJ_CFG_WAVE (n : Nat) : Fld := ⟨(0x70 + n), 0x60, 20, 2⟩
def INJ_CFG_PRBS_N (n : Nat) : Fld := ⟨(0x70 + n), 0x60, 16, 4⟩
def INJ_CFG_HOLD (n : Nat) : Fld := ⟨(0x70 + n), 0x60, 8, 8⟩
def INJ_AMP_A (n : Nat) : Fld := ⟨(0x70 + n), 0x64, 0, 32⟩
def INJ_F0_F (n : Nat) : Fld := ⟨(0x70 + n), 0x68, 0, 32⟩
def INJ_F1_F (n : Nat) : Fld := ⟨(0x70 + n), 0x6C, 0, 32⟩
def INJ_LEN_LEN (n : Nat) : Fld := ⟨(0x70 + n), 0x70, 0, 32⟩
def INJ_CMD_STOP (n : Nat) : Fld := ⟨(0x70 + n), 0x74, 0, 1⟩
def INJ_STAT_RUN (n : Nat) : Fld := ⟨(0x70 + n), 0x78, 31, 1⟩
def INJ_STAT_DONE (n : Nat) : Fld := ⟨(0x70 + n), 0x78, 30, 1⟩
def INJ_STAT_ABORT (n : Nat) : Fld := ⟨(0x70 + n), 0x78, 29, 1⟩
def INJ_STAT_CAUSE (n : Nat) : Fld := ⟨(0x70 + n), 0x78, 16, 4⟩
def INJ_CNT_K (n : Nat) : Fld := ⟨(0x70 + n), 0x7C, 0, 32⟩
def INJ_VAL_V (n : Nat) : Fld := ⟨(0x70 + n), 0x80, 0, 32⟩
def PMP_CURVE_IN_ON (n : Nat) : Fld := ⟨(0x70 + n), 0xA0, 16, 16⟩
def PMP_CURVE_HYST (n : Nat) : Fld := ⟨(0x70 + n), 0xA0, 0, 16⟩
def PMP_HO_DROP_PCT (n : Nat) : Fld := ⟨(0x70 + n), 0xA4, 24, 7⟩
def PMP_HO_HO_SPD (n : Nat) : Fld := ⟨(0x70 + n), 0xA4, 0, 24⟩
def PMP_START_RETRY_N (n : Nat) : Fld := ⟨(0x70 + n), 0xA8, 24, 3⟩
def PMP_START_ALIGN_PCT (n : Nat) : Fld := ⟨(0x70 + n), 0xA8, 16, 7⟩
def PMP_START_BRK_TMO (n : Nat) : Fld := ⟨(0x70 + n), 0xA8, 8, 7⟩
def PMP_START_ALIGN_T (n : Nat) : Fld := ⟨(0x70 + n), 0xA8, 0, 6⟩
def PMP_RAMP_RAMP_PCT (n : Nat) : Fld := ⟨(0x70 + n), 0xAC, 16, 7⟩
def PMP_RAMP_RAMP_ACC (n : Nat) : Fld := ⟨(0x70 + n), 0xAC, 0, 16⟩
def OBS_R_R (n : Nat) : Fld := ⟨(0x70 + n), 0xB0, 0, 24⟩
def OBS_L_L (n : Nat) : Fld := ⟨(0x70 + n), 0xB4, 16, 16⟩
def OBS_L_M (n : Nat) : Fld := ⟨(0x70 + n), 0xB4, 0, 16⟩
def OBS_PSI_PP (n : Nat) : Fld := ⟨(0x70 + n), 0xB8, 24, 5⟩
def OBS_PSI_PSI (n : Nat) : Fld := ⟨(0x70 + n), 0xB8, 0, 20⟩
def OBS_CFG_REST_I (n : Nat) : Fld := ⟨(0x70 + n), 0xBC, 16, 8⟩
def OBS_CFG_BW (n : Nat) : Fld := ⟨(0x70 + n), 0xBC, 0, 12⟩
def PMP_SCALE_IFS (n : Nat) : Fld := ⟨(0x70 + n), 0xC0, 16, 16⟩
def PMP_SCALE_VFS (n : Nat) : Fld := ⟨(0x70 + n), 0xC0, 0, 16⟩
def PMP_DISP_DISP (n i : Nat) : Fld := ⟨(0x70 + n), (0xC4 + 0x4 * i), 0, 32⟩
def PMP_STAT_LOCK (n : Nat) : Fld := ⟨(0x70 + n), 0xD0, 31, 1⟩
def PMP_STAT_REQ (n : Nat) : Fld := ⟨(0x70 + n), 0xD0, 30, 1⟩
def PMP_STAT_DIR (n : Nat) : Fld := ⟨(0x70 + n), 0xD0, 29, 1⟩
def PMP_STAT_RETRIES (n : Nat) : Fld := ⟨(0x70 + n), 0xD0, 24, 3⟩
def PMP_STAT_FCAUSE (n : Nat) : Fld := ⟨(0x70 + n), 0xD0, 16, 4⟩
def PMP_STAT_PHASE (n : Nat) : Fld := ⟨(0x70 + n), 0xD0, 0, 3⟩
def PMP_OBS_OSPD (n : Nat) : Fld := ⟨(0x70 + n), 0xD4, 0, 32⟩
def PMP_CMD_RETRY (n : Nat) : Fld := ⟨(0x70 + n), 0xD8, 0, 1⟩
def PMP_CNT_STARTS (n : Nat) : Fld := ⟨(0x70 + n), 0xDC, 16, 16⟩
def PMP_CNT_LOSSES (n : Nat) : Fld := ⟨(0x70 + n), 0xDC, 0, 16⟩
def FB_CFG_DIR_INV (n : Nat) : Fld := ⟨(0x80 + n), 0x40, 31, 1⟩
def FB_CFG_FILT (n : Nat) : Fld := ⟨(0x80 + n), 0x40, 24, 4⟩
def FB_CFG_CPR (n : Nat) : Fld := ⟨(0x80 + n), 0x40, 0, 24⟩
def QD_CFG_IDX_MODE (n : Nat) : Fld := ⟨(0x80 + n), 0x44, 30, 2⟩
def QD_CFG_GATE (n : Nat) : Fld := ⟨(0x80 + n), 0x44, 28, 2⟩
def QD_CFG_MIN_SP (n : Nat) : Fld := ⟨(0x80 + n), 0x44, 16, 11⟩
def QD_CFG_QEN (n : Nat) : Fld := ⟨(0x80 + n), 0x44, 15, 1⟩
def QD_CFG_ERR_LIM (n : Nat) : Fld := ⟨(0x80 + n), 0x44, 0, 8⟩
def IDX_VAL_VAL (n : Nat) : Fld := ⟨(0x80 + n), 0x48, 0, 32⟩
def IDX_TOL_TOL (n : Nat) : Fld := ⟨(0x80 + n), 0x4C, 0, 16⟩
def CNT_MIN_LIM (n : Nat) : Fld := ⟨(0x80 + n), 0x50, 0, 32⟩
def CNT_MAX_LIM (n : Nat) : Fld := ⟨(0x80 + n), 0x54, 0, 32⟩
def SPD_FS_FS (n : Nat) : Fld := ⟨(0x80 + n), 0x58, 0, 28⟩
def SPD_TMO_TMO (n : Nat) : Fld := ⟨(0x80 + n), 0x5C, 0, 20⟩
def SER_CFG_EN (n : Nat) : Fld := ⟨(0x80 + n), 0x60, 31, 1⟩
def SER_CFG_GRAY (n : Nat) : Fld := ⟨(0x80 + n), 0x60, 30, 1⟩
def SER_CFG_SIGNED (n : Nat) : Fld := ⟨(0x80 + n), 0x60, 29, 1⟩
def SER_CFG_CRC_EN (n : Nat) : Fld := ⟨(0x80 + n), 0x60, 28, 1⟩
def SER_CFG_EW_EN (n : Nat) : Fld := ⟨(0x80 + n), 0x60, 27, 1⟩
def SER_CFG_DLEN (n : Nat) : Fld := ⟨(0x80 + n), 0x60, 16, 6⟩
def SER_CFG_ST_BITS (n : Nat) : Fld := ⟨(0x80 + n), 0x60, 8, 6⟩
def SER_CFG_DEC (n : Nat) : Fld := ⟨(0x80 + n), 0x60, 0, 6⟩
def SER_TIM_DIV (n : Nat) : Fld := ⟨(0x80 + n), 0x64, 16, 10⟩
def SER_TIM_START_TMO (n : Nat) : Fld := ⟨(0x80 + n), 0x64, 8, 8⟩
def SER_TIM_RECOV (n : Nat) : Fld := ⟨(0x80 + n), 0x64, 0, 8⟩
def SER_ZERO_ZERO (n : Nat) : Fld := ⟨(0x80 + n), 0x68, 0, 32⟩
def TRK_CFG_TRK_TOL (n : Nat) : Fld := ⟨(0x80 + n), 0x6C, 16, 16⟩
def TRK_CFG_PL_TOL (n : Nat) : Fld := ⟨(0x80 + n), 0x6C, 8, 8⟩
def TRK_CFG_SER_LIM (n : Nat) : Fld := ⟨(0x80 + n), 0x6C, 4, 4⟩
def TRK_CFG_TRK_N (n : Nat) : Fld := ⟨(0x80 + n), 0x6C, 0, 4⟩
def FB_STAT_Q_OK (n : Nat) : Fld := ⟨(0x80 + n), 0x80, 31, 1⟩
def FB_STAT_S_OK (n : Nat) : Fld := ⟨(0x80 + n), 0x80, 30, 1⟩
def FB_STAT_REF_OK (n : Nat) : Fld := ⟨(0x80 + n), 0x80, 29, 1⟩
def FB_STAT_LIMIT (n : Nat) : Fld := ⟨(0x80 + n), 0x80, 28, 1⟩
def FB_STAT_STILL (n : Nat) : Fld := ⟨(0x80 + n), 0x80, 27, 1⟩
def FB_STAT_DIR (n : Nat) : Fld := ⟨(0x80 + n), 0x80, 26, 1⟩
def FB_STAT_WARN (n : Nat) : Fld := ⟨(0x80 + n), 0x80, 25, 1⟩
def FB_STAT_HYST (n : Nat) : Fld := ⟨(0x80 + n), 0x80, 24, 1⟩
def FB_STAT_LEAK (n : Nat) : Fld := ⟨(0x80 + n), 0x80, 16, 8⟩
def FB_STAT_SOURCE (n : Nat) : Fld := ⟨(0x80 + n), 0x80, 8, 2⟩
def FB_STAT_AGE (n : Nat) : Fld := ⟨(0x80 + n), 0x80, 0, 8⟩
def FB_CNT_CNT (n : Nat) : Fld := ⟨(0x80 + n), 0x84, 0, 32⟩
def FB_SPD_SPD (n : Nat) : Fld := ⟨(0x80 + n), 0x88, 0, 32⟩
def SER_LO_POS (n : Nat) : Fld := ⟨(0x80 + n), 0x8C, 0, 32⟩
def SER_HI_POS (n : Nat) : Fld := ⟨(0x80 + n), 0x90, 0, 8⟩
def SER_DLY_D (n : Nat) : Fld := ⟨(0x80 + n), 0x94, 0, 9⟩
def IDX_CNT_CNT (n : Nat) : Fld := ⟨(0x80 + n), 0x98, 0, 32⟩
def ERR_CNT_ILL (n : Nat) : Fld := ⟨(0x80 + n), 0x9C, 24, 8⟩
def ERR_CNT_SPC (n : Nat) : Fld := ⟨(0x80 + n), 0x9C, 16, 8⟩
def ERR_CNT_SER_BAD (n : Nat) : Fld := ⟨(0x80 + n), 0x9C, 8, 8⟩
def FB_CMD_REARM (n : Nat) : Fld := ⟨(0x80 + n), 0xA0, 0, 1⟩
def DRV_PWM_DOUBLE (n : Nat) : Fld := ⟨(0x90 + n), 0x40, 31, 1⟩
def DRV_PWM_PERIOD (n : Nat) : Fld := ⟨(0x90 + n), 0x40, 16, 15⟩
def DRV_PWM_DT (n : Nat) : Fld := ⟨(0x90 + n), 0x40, 0, 9⟩
def DRV_DUTY_REFRESH_N (n : Nat) : Fld := ⟨(0x90 + n), 0x44, 24, 8⟩
def DRV_DUTY_DUTY_MAX (n : Nat) : Fld := ⟨(0x90 + n), 0x44, 0, 17⟩
def DRV_PROF_ON_PRE_T (n : Nat) : Fld := ⟨(0x90 + n), 0x48, 24, 6⟩
def DRV_PROF_OFF_PRE_T (n : Nat) : Fld := ⟨(0x90 + n), 0x4C, 24, 6⟩
def DRV_PROF_ON_SLOPE_I (n : Nat) : Fld := ⟨(0x90 + n), 0x48, 16, 5⟩
def DRV_PROF_OFF_SLOPE_I (n : Nat) : Fld := ⟨(0x90 + n), 0x4C, 16, 5⟩
def DRV_PROF_ON_SLOPE_T (n : Nat) : Fld := ⟨(0x90 + n), 0x48, 0, 8⟩
def DRV_PROF_OFF_SLOPE_T (n : Nat) : Fld := ⟨(0x90 + n), 0x4C, 0, 8⟩
def DRV_PROT_DS_TH (n : Nat) : Fld := ⟨(0x90 + n), 0x50, 24, 4⟩
def DRV_PROT_BLANK (n : Nat) : Fld := ⟨(0x90 + n), 0x50, 16, 5⟩
def DRV_PROT_OC_TH (n : Nat) : Fld := ⟨(0x90 + n), 0x50, 8, 6⟩
def DRV_PROT_OC_FILT (n : Nat) : Fld := ⟨(0x90 + n), 0x50, 0, 4⟩
def DRV_DIAG_EN (n : Nat) : Fld := ⟨(0x90 + n), 0x54, 31, 1⟩
def DRV_DIAG_ON_T (n : Nat) : Fld := ⟨(0x90 + n), 0x54, 16, 8⟩
def DRV_DIAG_GL (n : Nat) : Fld := ⟨(0x90 + n), 0x54, 4, 3⟩
def DRV_DIAG_GH (n : Nat) : Fld := ⟨(0x90 + n), 0x54, 0, 3⟩
def DRV_CMD_KEY (n : Nat) : Fld := ⟨(0x90 + n), 0x58, 8, 8⟩
def DRV_CMD_T_CLR (n : Nat) : Fld := ⟨(0x90 + n), 0x58, 0, 3⟩
def DRV_STAT_FENCE (n : Nat) : Fld := ⟨(0x90 + n), 0x5C, 31, 1⟩
def DRV_STAT_SUP_ASC (n : Nat) : Fld := ⟨(0x90 + n), 0x5C, 30, 1⟩
def DRV_STAT_DIS (n : Nat) : Fld := ⟨(0x90 + n), 0x5C, 29, 1⟩
def DRV_STAT_ASC (n : Nat) : Fld := ⟨(0x90 + n), 0x5C, 28, 1⟩
def DRV_STAT_EN (n : Nat) : Fld := ⟨(0x90 + n), 0x5C, 24, 3⟩
def DRV_STAT_E_ACT (n : Nat) : Fld := ⟨(0x90 + n), 0x5C, 16, 3⟩
def DRV_STAT_T_LATCH (n : Nat) : Fld := ⟨(0x90 + n), 0x5C, 8, 3⟩
def DRV_CAUSE_E_W (n : Nat) : Fld := ⟨(0x90 + n), 0x60, 24, 4⟩
def DRV_CAUSE_E_V (n : Nat) : Fld := ⟨(0x90 + n), 0x60, 20, 4⟩
def DRV_CAUSE_E_U (n : Nat) : Fld := ⟨(0x90 + n), 0x60, 16, 4⟩
def DRV_CAUSE_T_W (n : Nat) : Fld := ⟨(0x90 + n), 0x60, 8, 4⟩
def DRV_CAUSE_T_V (n : Nat) : Fld := ⟨(0x90 + n), 0x60, 4, 4⟩
def DRV_CAUSE_T_U (n : Nat) : Fld := ⟨(0x90 + n), 0x60, 0, 4⟩
def DRV_OSD_DONE (n : Nat) : Fld := ⟨(0x90 + n), 0x64, 31, 1⟩
def DRV_OSD_FAIL (n : Nat) : Fld := ⟨(0x90 + n), 0x64, 30, 1⟩
def DRV_OSD_DEFERRED (n : Nat) : Fld := ⟨(0x90 + n), 0x64, 29, 1⟩
def DRV_OSD_W (n : Nat) : Fld := ⟨(0x90 + n), 0x64, 8, 3⟩
def DRV_OSD_V (n : Nat) : Fld := ⟨(0x90 + n), 0x64, 4, 3⟩
def DRV_OSD_U (n : Nat) : Fld := ⟨(0x90 + n), 0x64, 0, 3⟩
def DRV_CNT_DESAT (n : Nat) : Fld := ⟨(0x90 + n), 0x68, 24, 8⟩
def DRV_CNT_OC (n : Nat) : Fld := ⟨(0x90 + n), 0x68, 16, 8⟩
def DRV_CNT_E (n : Nat) : Fld := ⟨(0x90 + n), 0x68, 8, 8⟩
def DRV_CNT_REFRESH (n : Nat) : Fld := ⟨(0x90 + n), 0x68, 0, 8⟩
def SUP_OV_OV2 : Fld := ⟨0x93, 0x40, 20, 10⟩
def SUP_OV_OV1_ON : Fld := ⟨0x93, 0x40, 10, 10⟩
def SUP_OV_OV1_OFF : Fld := ⟨0x93, 0x40, 0, 10⟩
def SUP_UV_UV : Fld := ⟨0x93, 0x44, 0, 10⟩
def CHP_CFG_EN : Fld := ⟨0x93, 0x48, 31, 1⟩
def CHP_CFG_CHD_TMO : Fld := ⟨0x93, 0x48, 16, 4⟩
def CHP_CFG_MIN_ON : Fld := ⟨0x93, 0x48, 0, 5⟩
def SUP_TEMP_WARN : Fld := ⟨0x93, 0x4C, 0, 8⟩
def SUP_CMD_KEY : Fld := ⟨0x93, 0x50, 8, 8⟩
def SUP_CMD_FENCE_CLR : Fld := ⟨0x93, 0x50, 0, 1⟩
def SUP_STAT_OV1 : Fld := ⟨0x93, 0x54, 31, 1⟩
def SUP_STAT_CHOP_ON : Fld := ⟨0x93, 0x54, 30, 1⟩
def SUP_STAT_OV2 : Fld := ⟨0x93, 0x54, 29, 1⟩
def SUP_STAT_CHOP_FAIL : Fld := ⟨0x93, 0x54, 28, 1⟩
def SUP_STAT_SUP_ASC : Fld := ⟨0x93, 0x54, 27, 1⟩
def SUP_STAT_VGD_OK : Fld := ⟨0x93, 0x54, 26, 1⟩
def SUP_STAT_VM_UV : Fld := ⟨0x93, 0x54, 25, 1⟩
def SUP_STAT_FENCE : Fld := ⟨0x93, 0x54, 24, 1⟩
def SUP_STAT_OVERTEMP : Fld := ⟨0x93, 0x54, 9, 1⟩
def SUP_STAT_TEMP_WARN : Fld := ⟨0x93, 0x54, 8, 1⟩
def CHP_TIME_T : Fld := ⟨0x93, 0x58, 0, 32⟩
def CR_STAT_LINK_1 : Fld := ⟨0xA0, 0x40, 31, 1⟩
def CR_STAT_LINK_2 : Fld := ⟨0xA0, 0x40, 30, 1⟩
def CR_STAT_RELAY : Fld := ⟨0xA0, 0x40, 29, 1⟩
def CR_STAT_SPLIT : Fld := ⟨0xA0, 0x40, 28, 1⟩
def CR_STAT_STALE_DQ : Fld := ⟨0xA0, 0x40, 24, 3⟩
def CR_STAT_LIVE : Fld := ⟨0xA0, 0x40, 16, 3⟩
def CR_EPOCH_EPOCH : Fld := ⟨0xA0, 0x44, 0, 16⟩
def CR_JUDGE_JUDGED : Fld := ⟨0xA0, 0x48, 24, 3⟩
def CR_JUDGE_KIND : Fld := ⟨0xA0, 0x48, 0, 4⟩
def FENCE_STAT_KAUX : Fld := ⟨0xA0, 0x4C, 31, 1⟩
def FENCE_STAT_CLOSED : Fld := ⟨0xA0, 0x4C, 16, 3⟩
def FENCE_STAT_COIL_MA : Fld := ⟨0xA0, 0x4C, 0, 16⟩
def RJ_CMD_ROD : Fld := ⟨0xA0, 0x50, 16, 2⟩
def RJ_CMD_KEY : Fld := ⟨0xA0, 0x50, 8, 8⟩
def RJ_CMD_CONSENT : Fld := ⟨0xA0, 0x50, 0, 1⟩
def RJ_STAT_RUN : Fld := ⟨0xA0, 0x54, 31, 1⟩
def RJ_STAT_FAIL : Fld := ⟨0xA0, 0x54, 30, 1⟩
def RJ_STAT_STEP : Fld := ⟨0xA0, 0x54, 16, 4⟩
def RJ_STAT_FCODE : Fld := ⟨0xA0, 0x54, 0, 16⟩
def AGR_CNT_Z : Fld := ⟨0xA0, 0x58, 16, 8⟩
def AGR_CNT_Y : Fld := ⟨0xA0, 0x58, 8, 8⟩
def AGR_CNT_X : Fld := ⟨0xA0, 0x58, 0, 8⟩
def CR_CNT_CRC_1 : Fld := ⟨0xA0, 0x5C, 24, 8⟩
def CR_CNT_CRC_2 : Fld := ⟨0xA0, 0x5C, 16, 8⟩
def CR_CNT_STALE : Fld := ⟨0xA0, 0x5C, 8, 8⟩
def CR_RES_CFG_EN (i : Nat) : Fld := ⟨0xA0, (0x60 + 0x4 * i), 31, 1⟩
def CR_RES_CFG_RES_N (i : Nat) : Fld := ⟨0xA0, (0x60 + 0x4 * i), 24, 4⟩
def CR_RES_CFG_RES_WIN (i : Nat) : Fld := ⟨0xA0, (0x60 + 0x4 * i), 16, 6⟩
def CR_RES_CFG_RES_TH (i : Nat) : Fld := ⟨0xA0, (0x60 + 0x4 * i), 0, 16⟩
def TQ_STEP_STEP (i : Nat) : Fld := ⟨0xA0, (0x70 + 0x4 * i), 0, 32⟩
def RES_VAL_MEAN (i : Nat) : Fld := ⟨0xA0, (0x80 + 0x4 * i), 0, 16⟩
def RES_K_K (i : Nat) : Fld := ⟨0xA0, (0x100 + 0x4 * i), 0, 32⟩
def TD_CFG_EN : Fld := ⟨0xA1, 0x40, 31, 1⟩
def TD_CFG_GROUP : Fld := ⟨0xA1, 0x40, 24, 3⟩
def TD_CFG_MODULE : Fld := ⟨0xA1, 0x40, 16, 1⟩
def TD_CFG_PAIR_ID : Fld := ⟨0xA1, 0x40, 0, 8⟩
def TD_WIT_CH : Fld := ⟨0xA1, 0x44, 12, 1⟩
def TD_WIT_SLOT : Fld := ⟨0xA1, 0x44, 0, 11⟩
def TD_STAT_ACTIVE : Fld := ⟨0xA1, 0x48, 31, 1⟩
def TD_STAT_COPY_OK : Fld := ⟨0xA1, 0x48, 30, 1⟩
def TD_STAT_LANES : Fld := ⟨0xA1, 0x48, 24, 3⟩
def TD_STAT_EPOCH : Fld := ⟨0xA1, 0x48, 0, 16⟩
def TD_AGE_AGE : Fld := ⟨0xA1, 0x4C, 0, 16⟩
def TD_CNT_DECISIONS : Fld := ⟨0xA1, 0x50, 16, 16⟩
def TD_CNT_MISSED : Fld := ⟨0xA1, 0x50, 0, 16⟩
def LS_STAT_SPLIT : Fld := ⟨0xB0, 0x40, 31, 1⟩
def LS_STAT_REJOINING : Fld := ⟨0xB0, 0x40, 30, 1⟩
def LS_STAT_XTEST_RUN : Fld := ⟨0xB0, 0x40, 29, 1⟩
def LS_STAT_BOOT_OK : Fld := ⟨0xB0, 0x40, 28, 1⟩
def LS_STAT_TESTED : Fld := ⟨0xB0, 0x40, 16, 5⟩
def LS_STAT_NEXT : Fld := ⟨0xB0, 0x40, 0, 3⟩
def LS_CFG_TEST_INT : Fld := ⟨0xB0, 0x44, 0, 16⟩
def LS_CMD_KEY : Fld := ⟨0xB0, 0x48, 8, 8⟩
def LS_CMD_XTEST : Fld := ⟨0xB0, 0x48, 0, 1⟩
def LS_SEL_PAIR : Fld := ⟨0xB0, 0x4C, 0, 3⟩
def LS_TALLY_LO_TALLY : Fld := ⟨0xB0, 0x50, 0, 32⟩
def LS_TALLY_HI_TALLY : Fld := ⟨0xB0, 0x54, 0, 32⟩
def LS_WIN_WIN : Fld := ⟨0xB0, 0x58, 0, 32⟩
def LS_CNT_TESTS : Fld := ⟨0xB0, 0x5C, 16, 16⟩
def LS_CNT_SPLITS : Fld := ⟨0xB0, 0x5C, 0, 16⟩
def LS_LAST_VALID : Fld := ⟨0xB0, 0x60, 31, 1⟩
def LS_LAST_PAIR : Fld := ⟨0xB0, 0x60, 24, 3⟩
def LS_LAST_TEST : Fld := ⟨0xB0, 0x60, 0, 1⟩
def SF_SEAL_SEALED : Fld := ⟨0xC0, 0x40, 24, 8⟩
def SF_SEAL_OWN : Fld := ⟨0xC0, 0x40, 16, 8⟩
def SF_SEAL_PART_1 : Fld := ⟨0xC0, 0x40, 8, 8⟩
def SF_SEAL_PART_2 : Fld := ⟨0xC0, 0x40, 0, 8⟩
def SF_PROF_VERSION : Fld := ⟨0xC0, 0x44, 16, 16⟩
def SF_PROF_VS_STALE : Fld := ⟨0xC0, 0x44, 10, 1⟩
def SF_PROF_REDUCED : Fld := ⟨0xC0, 0x44, 9, 1⟩
def SF_PROF_BOUND : Fld := ⟨0xC0, 0x44, 8, 1⟩
def SF_PROF_INDEX : Fld := ⟨0xC0, 0x44, 0, 4⟩
def SF_ID_ID : Fld := ⟨0xC0, 0x48, 0, 32⟩
def SF_CRC_CRC : Fld := ⟨0xC0, 0x4C, 0, 32⟩
def SF_STAT_SLS_V (i : Nat) : Fld := ⟨0xC0, (0x50 + 0x10 * i), 31, 1⟩
def SF_STAT_SLP_V (i : Nat) : Fld := ⟨0xC0, (0x50 + 0x10 * i), 30, 1⟩
def SF_STAT_SDI_V (i : Nat) : Fld := ⟨0xC0, (0x50 + 0x10 * i), 29, 1⟩
def SF_STAT_OWN (i : Nat) : Fld := ⟨0xC0, (0x50 + 0x10 * i), 24, 3⟩
def SF_STAT_EN (i : Nat) : Fld := ⟨0xC0, (0x50 + 0x10 * i), 16, 3⟩
def SF_STAT_CLAMPS (i : Nat) : Fld := ⟨0xC0, (0x50 + 0x10 * i), 0, 8⟩
def SF_SLS_LIM (i : Nat) : Fld := ⟨0xC0, (0x54 + 0x10 * i), 0, 32⟩
def SF_SLP_HW (i : Nat) : Fld := ⟨0xC0, (0x58 + 0x10 * i), 0, 32⟩
def SF_SDI_REF (i : Nat) : Fld := ⟨0xC0, (0x5C + 0x10 * i), 0, 32⟩
def K_CFG_KOPEN_TMO : Fld := ⟨0xC1, 0x40, 16, 8⟩
def K_CFG_DEBOUNCE : Fld := ⟨0xC1, 0x40, 8, 4⟩
def K_CFG_KTEST_H : Fld := ⟨0xC1, 0x40, 0, 8⟩
def K_STAT_COIL : Fld := ⟨0xC1, 0x44, 31, 1⟩
def K_STAT_AUX : Fld := ⟨0xC1, 0x44, 30, 1⟩
def K_STAT_STUCK_OPEN : Fld := ⟨0xC1, 0x44, 29, 1⟩
def K_STAT_WELDED : Fld := ⟨0xC1, 0x44, 28, 1⟩
def K_STAT_TEST_DUE : Fld := ⟨0xC1, 0x44, 27, 1⟩
def K_CNT_OPENINGS : Fld := ⟨0xC1, 0x48, 16, 16⟩
def K_CNT_HOURS : Fld := ⟨0xC1, 0x48, 0, 16⟩
def K_OPEN_T_T : Fld := ⟨0xC1, 0x4C, 0, 16⟩
def CLK_STAT_XTAL_OK : Fld := ⟨0x2, 0x40, 31, 1⟩
def CLK_STAT_RC_OK : Fld := ⟨0x2, 0x40, 30, 1⟩
def CLK_STAT_PLL_A_LOCK : Fld := ⟨0x2, 0x40, 29, 1⟩
def CLK_STAT_PLL_B_LOCK : Fld := ⟨0x2, 0x40, 28, 1⟩
def CLK_STAT_REF_OK : Fld := ⟨0x2, 0x40, 27, 1⟩
def CLK_STAT_RUN : Fld := ⟨0x2, 0x40, 0, 13⟩
def CLK_SRC_PCI_LOCAL : Fld := ⟨0x2, 0x44, 3, 1⟩
def CLK_SRC_TDM_LOCAL : Fld := ⟨0x2, 0x44, 2, 1⟩
def CLK_SRC_CRY_B_LOCAL : Fld := ⟨0x2, 0x44, 1, 1⟩
def CLK_SRC_CRY_A_LOCAL : Fld := ⟨0x2, 0x44, 0, 1⟩
def CLK_MON_XTAL : Fld := ⟨0x2, 0x48, 31, 1⟩
def CLK_MON_RC : Fld := ⟨0x2, 0x48, 30, 1⟩
def CLK_MON_DOMAIN : Fld := ⟨0x2, 0x48, 0, 13⟩
def CLK_XSD_CODE : Fld := ⟨0x2, 0x4C, 0, 2⟩
def CLK_MEAS_SEL_DOMAIN : Fld := ⟨0x2, 0x50, 0, 4⟩
def CLK_MEAS_VALID : Fld := ⟨0x2, 0x54, 31, 1⟩
def CLK_MEAS_FREQ : Fld := ⟨0x2, 0x54, 0, 24⟩
def CKO_CFG_EN : Fld := ⟨0x2, 0x58, 31, 1⟩
def CKO_CFG_SRC : Fld := ⟨0x2, 0x58, 16, 4⟩
def CKO_CFG_DIV : Fld := ⟨0x2, 0x58, 0, 16⟩
def CLK_CNT_SWITCHES : Fld := ⟨0x2, 0x5C, 16, 16⟩
def CLK_CNT_RESTARTS : Fld := ⟨0x2, 0x5C, 0, 16⟩
def PWR_STAT_DOWN : Fld := ⟨0x3, 0x40, 16, 6⟩
def PWR_STAT_UP : Fld := ⟨0x3, 0x40, 8, 6⟩
def PWR_STAT_PWR_OK : Fld := ⟨0x3, 0x40, 0, 6⟩
def PWR_VOTES_SAFE : Fld := ⟨0x3, 0x44, 24, 6⟩
def PWR_VOTES_PEER : Fld := ⟨0x3, 0x44, 18, 6⟩
def PWR_VOTES_NET : Fld := ⟨0x3, 0x44, 12, 6⟩
def PWR_VOTES_SUP : Fld := ⟨0x3, 0x44, 6, 6⟩
def PWR_VOTES_HOST : Fld := ⟨0x3, 0x44, 0, 6⟩
def PWR_HOST_VOTE : Fld := ⟨0x3, 0x48, 0, 6⟩
def PWR_CFG_PEWAKE_EN : Fld := ⟨0x3, 0x4C, 31, 1⟩
def PWR_CFG_PCI_USED : Fld := ⟨0x3, 0x4C, 24, 1⟩
def PWR_CFG_WAKE_EN : Fld := ⟨0x3, 0x4C, 2, 8⟩
def LAST_WAKE_WAKES : Fld := ⟨0x3, 0x50, 16, 16⟩
def LAST_WAKE_SHUT : Fld := ⟨0x3, 0x50, 8, 4⟩
def LAST_WAKE_SRC : Fld := ⟨0x3, 0x50, 0, 4⟩
def PWR_EVT_VALID : Fld := ⟨0x3, 0x54, 31, 1⟩
def PWR_EVT_DOMAIN : Fld := ⟨0x3, 0x54, 24, 1⟩
def PWR_EVT_DOM_MASK : Fld := ⟨0x3, 0x54, 16, 6⟩
def PWR_EVT_RAIL : Fld := ⟨0x3, 0x54, 0, 3⟩
def SEC_STAT_HSS_WARN : Fld := ⟨0x4, 0x40, 31, 1⟩
def SEC_STAT_HSS_EMPTY : Fld := ⟨0x4, 0x40, 30, 1⟩
def SEC_STAT_PW_SET : Fld := ⟨0x4, 0x40, 29, 1⟩
def SEC_STAT_LOCKOUT : Fld := ⟨0x4, 0x40, 28, 1⟩
def SEC_STAT_CHAL_VALID : Fld := ⟨0x4, 0x40, 27, 1⟩
def SEC_STAT_STAGED_OK : Fld := ⟨0x4, 0x40, 26, 1⟩
def SEC_STAT_STAGED_TYPE : Fld := ⟨0x4, 0x40, 16, 3⟩
def SEC_STAT_FAILS : Fld := ⟨0x4, 0x40, 8, 8⟩
def SEC_STAT_LEVEL : Fld := ⟨0x4, 0x40, 0, 2⟩
def SEC_CMD_KEY : Fld := ⟨0x4, 0x44, 8, 8⟩
def SEC_CMD_CMD : Fld := ⟨0x4, 0x44, 0, 4⟩
def SEC_LOCK_SECONDS : Fld := ⟨0x4, 0x48, 0, 17⟩
def UPD_REQ_GO : Fld := ⟨0x4, 0x4C, 31, 1⟩
def UPD_REQ_KEY : Fld := ⟨0x4, 0x4C, 8, 8⟩
def UPD_REQ_TYPE : Fld := ⟨0x4, 0x4C, 0, 3⟩
def UPD_STAT_DONE : Fld := ⟨0x4, 0x50, 31, 1⟩
def UPD_STAT_FAIL : Fld := ⟨0x4, 0x50, 30, 1⟩
def UPD_STAT_REASON : Fld := ⟨0x4, 0x50, 16, 8⟩
def IMG_FW_VERSION : Fld := ⟨0x4, 0x54, 16, 16⟩
def IMG_CL_VERSION : Fld := ⟨0x4, 0x58, 16, 16⟩
def IMG_SP_VERSION : Fld := ⟨0x4, 0x5C, 16, 16⟩
def IMG_FW_BANK : Fld := ⟨0x4, 0x54, 8, 1⟩
def IMG_CL_BANK : Fld := ⟨0x4, 0x58, 8, 1⟩
def IMG_SP_BANK : Fld := ⟨0x4, 0x5C, 8, 1⟩
def IMG_FW_SLOT : Fld := ⟨0x4, 0x54, 0, 8⟩
def IMG_CL_SLOT : Fld := ⟨0x4, 0x58, 0, 8⟩
def IMG_SP_SLOT : Fld := ⟨0x4, 0x5C, 0, 8⟩
def HSS_IDX_IDX : Fld := ⟨0x4, 0x60, 0, 21⟩
def KEY_STAT_STATE : Fld := ⟨0x4, 0x64, 0, 8⟩
def RB_SEL_IDX : Fld := ⟨0x4, 0x68, 0, 5⟩
def RB_SHOW_VAL : Fld := ⟨0x4, 0x6C, 0, 9⟩
def CERT_SEL_CERT : Fld := ⟨0x4, 0x70, 0, 2⟩
def CERT_LEN_LEN : Fld := ⟨0x4, 0x74, 0, 12⟩
def STG_FT_LO_FT (p : Nat) : Fld := ⟨p, 0x28, 0, 32⟩
def STG_FT_HI_FT (p : Nat) : Fld := ⟨p, 0x2C, 0, 32⟩
def FT_LO_FT : Fld := ⟨0x40, 0x40, 0, 32⟩
def FT_HI_FT : Fld := ⟨0x40, 0x44, 0, 32⟩
def PG_CRC_CRC (p : Nat) : Fld := ⟨p, 0x3C, 0, 32⟩
def MB_FT_LO_FT (b : Nat) : Fld := ⟨(0x31 + b / 9), (0x40 + 0x1C0 * (b % 9) + 0x8), 0, 32⟩
def MB_FT_HI_FT (b : Nat) : Fld := ⟨(0x31 + b / 9), (0x40 + 0x1C0 * (b % 9) + 0xC), 0, 32⟩
def MB_DATA_DATA (b i : Nat) : Fld := ⟨(0x31 + b / 9), (0x40 + 0x1C0 * (b % 9) + 0x40 + 0x4 * i), 0, 32⟩
def CLASS_BOUND_1_B : Fld := ⟨0x50, 0x58, 0, 32⟩
def CLASS_BOUND_2_B : Fld := ⟨0x50, 0x5C, 0, 32⟩
def CLASS_BOUND_3_B : Fld := ⟨0x50, 0x60, 0, 32⟩
def CT_ENT_W (i : Nat) : Fld := ⟨0x50, (0x80 + 0x4 * i), 0, 32⟩
def SEC_PW_B (i : Nat) : Fld := ⟨0x4, (0x80 + 0x4 * i), 0, 32⟩
def SEC_CHAL_B (i : Nat) : Fld := ⟨0x4, (0xC0 + 0x4 * i), 0, 32⟩
def CERT_WIN_B (i : Nat) : Fld := ⟨0x4, (0x800 + 0x4 * i), 0, 32⟩

end Fl

end Sys2Proof.Machine
end

