-- ==== Sys2Proof/Machine/RegRows.lean ====
section
/-! DEFINITION. The register pages of a rod as the spec lays them out: one row per register with its
offset, its reset value and, for each access code of Table 0.3, the bits of the register that carry it.
The rows are the page tables of the chapters (Tables 2.3 to 2.19, 3.6, 3.9, 4.4, 4.5, 5.4 to 5.7, 6.9 to 6.14,
7.9, 7.10, 8.5 to 8.10, 10.11, 10.12, 11.6, 11.7, 12.6, 12.7, 13.6 to 13.9, 14.7 to 14.10, 15.5, 15.6,
16.6 to 16.9, 17.7, 17.8, 18.8, 18.9, 19.7, 19.8). -/

namespace Sys2Proof.Machine

/-- One row of a page table: a register, or `count` registers `stride` bytes apart. A bit in none of the
masks has no name, reads 0 and is not written (R15). -/
structure RegRow where
  off    : Nat
  stride : Nat
  count  : Nat
  reset  : Word
  ro     : Word
  rw     : Word
  rws    : Word
  w1c    : Word
  wo     : Word
  rc     : Word
  rwl    : Word
deriving DecidableEq, Repr

/-- The rows of the common header of every page (spec/02_register_pages.md). -/
def RegRow.headerRows : List RegRow := [
  ⟨0x0, 0x0, 1, 0x0, 0xFFFF03FF, 0x0, 0x0, 0x0, 0x0, 0x0, 0x0⟩,
  ⟨0x4, 0x0, 1, 0x0, 0x80FF3F0F, 0x0, 0x0, 0x0, 0x0, 0x0, 0x0⟩,
  ⟨0x8, 0x0, 1, 0x0, 0x0, 0x101, 0x0, 0x0, 0x0, 0x0, 0x0⟩,
  ⟨0xC, 0x0, 1, 0x0, 0xF0000001, 0x0, 0x0, 0x0, 0x0, 0x0, 0x0⟩,
  ⟨0x10, 0x0, 1, 0x0, 0x0, 0x0, 0x0, 0xFFFFFFFF, 0x0, 0x0, 0x0⟩,
  ⟨0x14, 0x0, 1, 0x0, 0x0, 0xFFFFFFFF, 0x0, 0x0, 0x0, 0x0, 0x0⟩,
  ⟨0x18, 0x0, 1, 0x0, 0xFFFFFFFF, 0x0, 0x0, 0x0, 0x0, 0x0, 0x0⟩,
  ⟨0x1C, 0x0, 1, 0x0, 0x0, 0x0, 0x0, 0x0, 0xFFFFFFFF, 0x0, 0x0⟩,
  ⟨0x20, 0x0, 1, 0x0, 0x0, 0x80000130, 0x0, 0x0, 0x1, 0x0, 0x0⟩,
  ⟨0x24, 0x0, 1, 0xFF00, 0x30FFFFFF, 0x0, 0x0, 0xC0000000, 0x0, 0x0, 0x0⟩,
  ⟨0x28, 0x0, 1, 0x0, 0x0, 0xFFFFFFFF, 0x0, 0x0, 0x0, 0x0, 0x0⟩,
  ⟨0x2C, 0x0, 1, 0x0, 0x0, 0xFFFFFFFF, 0x0, 0x0, 0x0, 0x0, 0x0⟩,
  ⟨0x30, 0x0, 1, 0x0, 0x80070000, 0x1, 0x0, 0x0, 0x0, 0x0, 0x0⟩,
  ⟨0x34, 0x0, 1, 0x0, 0x4F700FFF, 0x0, 0x0, 0x80000000, 0x0, 0x0, 0x0⟩,
  ⟨0x38, 0x0, 1, 0x0, 0xFFFFFFFF, 0x0, 0x0, 0x0, 0x0, 0x0, 0x0⟩,
  ⟨0x3C, 0x0, 1, 0x0, 0xFFFFFFFF, 0x0, 0x0, 0x0, 0x0, 0x0, 0x0⟩]

/-- The rows of the identity page (spec/02_register_pages.md). -/
def RegRow.identityRows : List RegRow := [
  ⟨0x40, 0x0, 1, 0x0, 0xFFFF00FF, 0x0, 0x0, 0x0, 0x0, 0x0, 0x0⟩,
  ⟨0x44, 0x0, 1, 0x4301, 0xFFFF, 0x0, 0x0, 0x0, 0x0, 0x0, 0x0⟩,
  ⟨0x48, 0x0, 1, 0x0, 0xFFFF, 0x0, 0x0, 0x0, 0x0, 0x0, 0x0⟩,
  ⟨0x4C, 0x0, 1, 0x0, 0xFFFFFFFF, 0x0, 0x0, 0x0, 0x0, 0x0, 0x0⟩,
  ⟨0x50, 0x4, 4, 0x0, 0xFFFFFFFF, 0x0, 0x0, 0x0, 0x0, 0x0, 0x0⟩,
  ⟨0x60, 0x4, 4, 0x0, 0xFFFFFFFF, 0x0, 0x0, 0x0, 0x0, 0x0, 0x0⟩]

/-- The rows of the mode page (spec/03_operating_modes.md). -/
def RegRow.modeRows : List RegRow := [
  ⟨0x40, 0x0, 1, 0x0, 0xFF070707, 0x0, 0x0, 0x0, 0x0, 0x0, 0x0⟩,
  ⟨0x44, 0x0, 1, 0x0, 0x0, 0xFF07, 0x0, 0x0, 0x80000000, 0x0, 0x0⟩,
  ⟨0x48, 0x0, 1, 0x0, 0x20FF0007, 0x0, 0x0, 0xC0000000, 0x0, 0x0, 0x0⟩,
  ⟨0x4C, 0x0, 1, 0x0, 0xFFF, 0x0, 0x0, 0x0, 0x0, 0x0, 0x0⟩,
  ⟨0x50, 0x0, 1, 0x0, 0xC70FFFFF, 0x0, 0x0, 0x0, 0x0, 0x0, 0x0⟩,
  ⟨0x54, 0x0, 1, 0x280007, 0x0, 0x0, 0x3F0007, 0x0, 0x0, 0x0, 0x0⟩,
  ⟨0x58, 0x0, 1, 0x0, 0x0, 0x0, 0x0, 0x0, 0x7, 0x0, 0x0⟩,
  ⟨0x60, 0x4, 3, 0x32, 0x0, 0x0, 0xFFFF, 0x0, 0x0, 0x0, 0x0⟩,
  ⟨0x6C, 0x0, 1, 0x0, 0xFFFFFFFF, 0x0, 0x0, 0x0, 0x0, 0x0, 0x0⟩]

/-- The rows of the clock page (spec/17_clocks.md). -/
def RegRow.clockRows : List RegRow := [
  ⟨0x40, 0x0, 1, 0x40000000, 0xF8001FFF, 0x0, 0x0, 0x0, 0x0, 0x0, 0x0⟩,
  ⟨0x44, 0x0, 1, 0x0, 0xF, 0x0, 0x0, 0x0, 0x0, 0x0, 0x0⟩,
  ⟨0x48, 0x0, 1, 0x0, 0x0, 0x0, 0x0, 0xC0001FFF, 0x0, 0x0, 0x0⟩,
  ⟨0x4C, 0x0, 1, 0x0, 0x3, 0x0, 0x0, 0x0, 0x0, 0x0, 0x0⟩,
  ⟨0x50, 0x0, 1, 0x0, 0x0, 0xF, 0x0, 0x0, 0x0, 0x0, 0x0⟩,
  ⟨0x54, 0x0, 1, 0x0, 0x80FFFFFF, 0x0, 0x0, 0x0, 0x0, 0x0, 0x0⟩,
  ⟨0x58, 0x0, 1, 0x0, 0x0, 0x800FFFFF, 0x0, 0x0, 0x0, 0x0, 0x0⟩,
  ⟨0x5C, 0x0, 1, 0x0, 0xFFFFFFFF, 0x0, 0x0, 0x0, 0x0, 0x0, 0x0⟩]

/-- The rows of the power page (spec/18_power_states.md). -/
def RegRow.powerRows : List RegRow := [
  ⟨0x40, 0x0, 1, 0x0, 0x3F3F3F, 0x0, 0x0, 0x0, 0x0, 0x0, 0x0⟩,
  ⟨0x44, 0x0, 1, 0x0, 0x3FFFFFFF, 0x0, 0x0, 0x0, 0x0, 0x0, 0x0⟩,
  ⟨0x48, 0x0, 1, 0x0, 0x0, 0x3F, 0x0, 0x0, 0x0, 0x0, 0x0⟩,
  ⟨0x4C, 0x0, 1, 0x810003FC, 0x0, 0x810003FC, 0x0, 0x0, 0x0, 0x0, 0x0⟩,
  ⟨0x50, 0x0, 1, 0x1, 0xFFFF0F0F, 0x0, 0x0, 0x0, 0x0, 0x0, 0x0⟩,
  ⟨0x54, 0x0, 1, 0x0, 0x13F0007, 0x0, 0x0, 0x80000000, 0x0, 0x0, 0x0⟩]

/-- The rows of the security page (spec/19_security.md). -/
def RegRow.securityRows : List RegRow := [
  ⟨0x40, 0x0, 1, 0x0, 0xFC07FF03, 0x0, 0x0, 0x0, 0x0, 0x0, 0x0⟩,
  ⟨0x44, 0x0, 1, 0x0, 0x0, 0x0, 0x0, 0x0, 0xFF0F, 0x0, 0x0⟩,
  ⟨0x48, 0x0, 1, 0x0, 0x1FFFF, 0x0, 0x0, 0x0, 0x0, 0x0, 0x0⟩,
  ⟨0x4C, 0x0, 1, 0x0, 0x0, 0x0, 0x0, 0x0, 0x8000FF07, 0x0, 0x0⟩,
  ⟨0x50, 0x0, 1, 0x0, 0xFF0000, 0x0, 0x0, 0xC0000000, 0x0, 0x0, 0x0⟩,
  ⟨0x54, 0x0, 1, 0x0, 0xFFFF01FF, 0x0, 0x0, 0x0, 0x0, 0x0, 0x0⟩,
  ⟨0x58, 0x0, 1, 0x0, 0xFFFF01FF, 0x0, 0x0, 0x0, 0x0, 0x0, 0x0⟩,
  ⟨0x5C, 0x0, 1, 0x0, 0xFFFF01FF, 0x0, 0x0, 0x0, 0x0, 0x0, 0x0⟩,
  ⟨0x60, 0x0, 1, 0x0, 0x1FFFFF, 0x0, 0x0, 0x0, 0x0, 0x0, 0x0⟩,
  ⟨0x64, 0x0, 1, 0x0, 0xFF, 0x0, 0x0, 0x0, 0x0, 0x0, 0x0⟩,
  ⟨0x68, 0x0, 1, 0x0, 0x0, 0x1F, 0x0, 0x0, 0x0, 0x0, 0x0⟩,
  ⟨0x6C, 0x0, 1, 0x0, 0x1FF, 0x0, 0x0, 0x0, 0x0, 0x0, 0x0⟩,
  ⟨0x70, 0x0, 1, 0x0, 0x0, 0x3, 0x0, 0x0, 0x0, 0x0, 0x0⟩,
  ⟨0x74, 0x0, 1, 0x0, 0xFFF, 0x0, 0x0, 0x0, 0x0, 0x0, 0x0⟩,
  ⟨0x80, 0x4, 4, 0x0, 0x0, 0x0, 0x0, 0x0, 0xFFFFFFFF, 0x0, 0x0⟩,
  ⟨0xC0, 0x4, 12, 0x0, 0xFFFFFFFF, 0x0, 0x0, 0x0, 0x0, 0x0, 0x0⟩,
  ⟨0x800, 0x4, 512, 0x0, 0xFFFFFFFF, 0x0, 0x0, 0x0, 0x0, 0x0, 0x0⟩]

/-- The rows of the queue page (spec/06_host_port.md). -/
def RegRow.queueRows : List RegRow := [
  ⟨0x40, 0x0, 1, 0x0, 0x0, 0x0, 0x80000110, 0x0, 0x0, 0x0, 0x0⟩,
  ⟨0x44, 0x0, 1, 0x0, 0x0, 0x1, 0x0, 0x0, 0x0, 0x0, 0x0⟩,
  ⟨0x48, 0x0, 1, 0x0, 0x0, 0x0, 0xFFFFFFFF, 0x0, 0x0, 0x0, 0x0⟩,
  ⟨0x4C, 0x0, 1, 0x0, 0x0, 0x0, 0xFFFFFFFF, 0x0, 0x0, 0x0, 0x0⟩,
  ⟨0x50, 0x0, 1, 0x0, 0x0, 0x0, 0xFFFFFFFF, 0x0, 0x0, 0x0, 0x0⟩,
  ⟨0x54, 0x0, 1, 0x0, 0x0, 0x0, 0xFFFFFFFF, 0x0, 0x0, 0x0, 0x0⟩,
  ⟨0x58, 0x0, 1, 0x200010, 0x0, 0x0, 0x1FFF1FFF, 0x0, 0x0, 0x0, 0x0⟩,
  ⟨0x5C, 0x0, 1, 0x0, 0x0, 0xFFF, 0x0, 0x0, 0x0, 0x0, 0x0⟩,
  ⟨0x60, 0x0, 1, 0x0, 0xFFF, 0x0, 0x0, 0x0, 0x0, 0x0, 0x0⟩,
  ⟨0x64, 0x0, 1, 0x0, 0x0, 0xFFF, 0x0, 0x0, 0x0, 0x0, 0x0⟩,
  ⟨0x68, 0x0, 1, 0x0, 0xFFF, 0x0, 0x0, 0x0, 0x0, 0x0, 0x0⟩,
  ⟨0x6C, 0x0, 1, 0x0, 0x9000000F, 0x0, 0x0, 0x60000000, 0x0, 0x0, 0x0⟩,
  ⟨0x70, 0x0, 1, 0x0, 0xF, 0x0, 0x0, 0x0, 0x0, 0x0, 0x0⟩]

/-- The rows of the dma page (spec/06_host_port.md). -/
def RegRow.dmaRows : List RegRow := [
  ⟨0x40, 0x10, 4, 0x100010, 0x0, 0x3F001F, 0x0, 0x0, 0x0, 0x0, 0x0⟩,
  ⟨0x44, 0x10, 4, 0x0, 0x8F00FFFF, 0x0, 0x0, 0x0, 0x0, 0x0, 0x0⟩,
  ⟨0x48, 0x10, 4, 0x0, 0x0, 0x0, 0x0, 0x0, 0x0, 0xFFFFFFFF, 0x0⟩,
  ⟨0x4C, 0x10, 4, 0x0, 0x70FFFFF, 0x0, 0x0, 0x80000000, 0x0, 0x0, 0x0⟩]

/-- The rows of the fabric page (spec/06_host_port.md). -/
def RegRow.fabricRows : List RegRow := [
  ⟨0x40, 0x0, 1, 0x0, 0x0, 0x0, 0x0, 0xFFFFFFF, 0x0, 0x0, 0x0⟩,
  ⟨0x44, 0x0, 1, 0xFFFFFFFF, 0xFFFFFFFF, 0x0, 0x0, 0x0, 0x0, 0x0, 0x0⟩,
  ⟨0x48, 0x0, 1, 0x64, 0x0, 0xFFFF, 0x0, 0x0, 0x0, 0x0, 0x0⟩,
  ⟨0x4C, 0x0, 1, 0x64, 0x0, 0x7FFFF, 0x0, 0x0, 0x0, 0x0, 0x0⟩,
  ⟨0x50, 0x0, 1, 0x0, 0x30000, 0x0, 0x0, 0x80000000, 0x0, 0x0, 0x0⟩,
  ⟨0x54, 0x0, 1, 0x1C1C, 0x0, 0x1F1F, 0x0, 0x0, 0x0, 0x0, 0x0⟩,
  ⟨0x58, 0x0, 1, 0x0, 0x8007FFFF, 0x0, 0x0, 0x0, 0x0, 0x0, 0x0⟩]

/-- The rows of the flexray page (spec/05_flexray.md). -/
def RegRow.flexrayRows : List RegRow := [
  ⟨0x40, 0x0, 1, 0x0, 0x0, 0x0, 0x0, 0x0, 0xFF0F, 0x0, 0x0⟩,
  ⟨0x44, 0x0, 1, 0x0, 0xB330000F, 0x0, 0x0, 0x0, 0x0, 0x0, 0x0⟩,
  ⟨0x48, 0x0, 1, 0x30, 0x0, 0x0, 0x7FF1333, 0x0, 0x0, 0x0, 0x0⟩,
  ⟨0x4C, 0x0, 1, 0x107D0, 0x0, 0x0, 0x73FFF, 0x0, 0x0, 0x0, 0x0⟩,
  ⟨0x50, 0x0, 1, 0x20190014, 0x0, 0x0, 0xFFFF83FF, 0x0, 0x0, 0x0, 0x0⟩,
  ⟨0x54, 0x0, 1, 0x103012C, 0x0, 0x0, 0x1F3F1FFF, 0x0, 0x0, 0x0, 0x0⟩,
  ⟨0x58, 0x0, 1, 0x8500014, 0x0, 0x0, 0xFFFF00FF, 0x0, 0x0, 0x0, 0x0⟩,
  ⟨0x5C, 0x0, 1, 0x780190, 0x0, 0x0, 0x7FF3FFF, 0x0, 0x0, 0x0, 0x0⟩,
  ⟨0x60, 0x0, 1, 0xF0242, 0x0, 0x0, 0x11F1FFF, 0x0, 0x0, 0x0, 0x0⟩,
  ⟨0x64, 0x0, 1, 0x210008, 0x0, 0x0, 0x3F011F, 0x0, 0x0, 0x0, 0x0⟩,
  ⟨0x68, 0x0, 1, 0x1, 0x0, 0x0, 0xF, 0x0, 0x0, 0x0, 0x0⟩,
  ⟨0x6C, 0x0, 1, 0x0, 0xFFFFFFFF, 0x0, 0x0, 0x0, 0x0, 0x0, 0x0⟩,
  ⟨0x70, 0x0, 1, 0x0, 0x3FFF003F, 0x0, 0x0, 0x0, 0x0, 0x0, 0x0⟩,
  ⟨0x74, 0x0, 1, 0x0, 0xF001F03, 0x0, 0x0, 0x0, 0x0, 0x0, 0x0⟩,
  ⟨0x78, 0x0, 1, 0x0, 0x0, 0x0, 0x0, 0x0, 0x0, 0xFFFFFFFF, 0x0⟩,
  ⟨0x7C, 0x0, 1, 0x0, 0x0, 0x0, 0x0, 0x0, 0x0, 0xFFFFFFFF, 0x0⟩,
  ⟨0x80, 0x0, 1, 0x0, 0xFF1F07FF, 0x0, 0x0, 0x0, 0x0, 0x0, 0x0⟩]

/-- The rows of the buffers page (spec/05_flexray.md). -/
def RegRow.buffersRows : List RegRow := [
  ⟨0x0, 0x0, 1, 0x0, 0x0, 0x0, 0xFFFFFFFF, 0x0, 0x0, 0x0, 0x0⟩,
  ⟨0x4, 0x0, 1, 0x0, 0x3B003F7F, 0x0, 0x0, 0x80000000, 0x0, 0xFF0000, 0x0⟩,
  ⟨0x8, 0x0, 1, 0x0, 0xFFFFFFFF, 0x0, 0x0, 0x0, 0x0, 0x0, 0x0⟩,
  ⟨0xC, 0x0, 1, 0x0, 0xFFFFFFFF, 0x0, 0x0, 0x0, 0x0, 0x0, 0x0⟩,
  ⟨0x10, 0x0, 1, 0x0, 0x0, 0x3, 0x0, 0x0, 0x0, 0x0, 0x0⟩,
  ⟨0x40, 0x4, 64, 0x0, 0x0, 0xFFFFFFFF, 0x0, 0x0, 0x0, 0x0, 0x0⟩]

/-- The rows of the frame page (spec/04_counting_frame.md). -/
def RegRow.frameRows : List RegRow := [
  ⟨0x40, 0x0, 1, 0x0, 0xFFFFFFFF, 0x0, 0x0, 0x0, 0x0, 0x0, 0x0⟩,
  ⟨0x44, 0x0, 1, 0x0, 0xFFFFFFFF, 0x0, 0x0, 0x0, 0x0, 0x0, 0x0⟩,
  ⟨0x48, 0x0, 1, 0x0, 0xF0070703, 0x0, 0x0, 0x0, 0x0, 0x0, 0x0⟩,
  ⟨0x4C, 0x0, 1, 0x0, 0xFFFFFFFF, 0x0, 0x0, 0x0, 0x0, 0x0, 0x0⟩,
  ⟨0x50, 0x0, 1, 0x0, 0xFFFFFFFF, 0x0, 0x0, 0x0, 0x0, 0x0, 0x0⟩,
  ⟨0x54, 0x4, 3, 0x0, 0xFFFFFFFF, 0x0, 0x0, 0x0, 0x0, 0x0, 0x0⟩,
  ⟨0x60, 0x0, 1, 0x1, 0x0, 0x0, 0x17FF, 0x0, 0x0, 0x0, 0x0⟩,
  ⟨0x64, 0x0, 1, 0x0, 0x0, 0x0, 0x3FF, 0x0, 0x0, 0x0, 0x0⟩,
  ⟨0x68, 0x0, 1, 0x6403E8, 0x0, 0x0, 0x1FFFFFF, 0x0, 0x0, 0x0, 0x0⟩,
  ⟨0x6C, 0x0, 1, 0x7D00064, 0x0, 0x0, 0xFFFFFFFF, 0x0, 0x0, 0x0, 0x0⟩,
  ⟨0x70, 0x0, 1, 0x0, 0x0, 0x0, 0x0, 0x0, 0x1, 0x0, 0x0⟩,
  ⟨0x74, 0x0, 1, 0x0, 0xFFFFFFFF, 0x0, 0x0, 0x0, 0x0, 0x0, 0x0⟩,
  ⟨0x78, 0x0, 1, 0x0, 0xFFFFFFFF, 0x0, 0x0, 0x0, 0x0, 0x0, 0x0⟩,
  ⟨0x80, 0x0, 1, 0x0, 0xFFFFFFFF, 0x0, 0x0, 0x0, 0x0, 0x0, 0x0⟩,
  ⟨0x84, 0x0, 1, 0x0, 0xFFFFFFFF, 0x0, 0x0, 0x0, 0x0, 0x0, 0x0⟩]

/-- The rows of the contracts page (spec/07_timing_contracts.md). -/
def RegRow.contractsRows : List RegRow := [
  ⟨0x40, 0x0, 1, 0x0, 0x0, 0x0, 0x80007F7F, 0x0, 0x0, 0x0, 0x0⟩,
  ⟨0x44, 0x0, 1, 0xFA0, 0x0, 0x0, 0xFFFF, 0x0, 0x0, 0x0, 0x0⟩,
  ⟨0x48, 0x0, 1, 0x2000, 0x81FF3F3F, 0x0, 0x0, 0x0, 0x0, 0x0, 0x0⟩,
  ⟨0x4C, 0x0, 1, 0x24, 0x3F, 0x0, 0x0, 0x0, 0x0, 0x0, 0x0⟩,
  ⟨0x50, 0x0, 1, 0x0, 0x0, 0xFF, 0x0, 0x0, 0x0, 0x0, 0x0⟩,
  ⟨0x54, 0x0, 1, 0x0, 0x3F, 0x0, 0x0, 0x0, 0x0, 0x0, 0x0⟩,
  ⟨0x58, 0x0, 1, 0xFFFFFFFF, 0xFFFFFFFF, 0x0, 0x0, 0x0, 0x0, 0x0, 0x0⟩,
  ⟨0x5C, 0x0, 1, 0xFFFFFFFF, 0xFFFFFFFF, 0x0, 0x0, 0x0, 0x0, 0x0, 0x0⟩,
  ⟨0x60, 0x0, 1, 0xFFFFFFFF, 0xFFFFFFFF, 0x0, 0x0, 0x0, 0x0, 0x0, 0x0⟩,
  ⟨0x80, 0x4, 8, 0x0, 0xFFFFFFFF, 0x0, 0x0, 0x0, 0x0, 0x0, 0x0⟩,
  ⟨0x200, 0x8, 64, 0x0, 0xFFFFFF, 0x0, 0x0, 0x0, 0x0, 0x0, 0x0⟩,
  ⟨0x204, 0x8, 64, 0x0, 0xFFFFFFFF, 0x0, 0x0, 0x0, 0x0, 0x0, 0x0⟩]

/-- The rows of the reckoner page (spec/08_reckoner.md). -/
def RegRow.reckonerRows : List RegRow := [
  ⟨0x40, 0x0, 1, 0x0, 0xF0000000, 0x0, 0x0, 0x0, 0x0, 0x0, 0x0⟩,
  ⟨0x44, 0x0, 1, 0x0, 0xFFFF3FFF, 0x0, 0x0, 0x0, 0x0, 0x0, 0x0⟩,
  ⟨0x48, 0x0, 1, 0x0, 0xFFFFFFFF, 0x0, 0x0, 0x0, 0x0, 0x0, 0x0⟩,
  ⟨0x4C, 0x0, 1, 0x0, 0xFFFF, 0x0, 0x0, 0x0, 0x0, 0x0, 0x0⟩,
  ⟨0x50, 0x4, 3, 0xC0000, 0x0, 0x0, 0x70F0FFF, 0x0, 0x0, 0x0, 0x0⟩,
  ⟨0x5C, 0x0, 1, 0x0, 0x0, 0x0, 0x1, 0x0, 0x0, 0x0, 0x0⟩,
  ⟨0x60, 0x0, 1, 0x0, 0x0, 0x0, 0x0, 0x0, 0x1, 0x0, 0x0⟩,
  ⟨0x64, 0x0, 1, 0x0, 0x80000000, 0x0, 0x0, 0x0, 0x0, 0x0, 0x0⟩,
  ⟨0x68, 0x0, 1, 0x0, 0xFFFFFFFF, 0x0, 0x0, 0x0, 0x0, 0x0, 0x0⟩,
  ⟨0x70, 0x4, 3, 0x103, 0x0, 0x0, 0x10F, 0x0, 0x0, 0x0, 0x0⟩,
  ⟨0x7C, 0x0, 1, 0x0, 0xFFFFFF, 0x0, 0x0, 0x0, 0x0, 0x0, 0x0⟩,
  ⟨0x80, 0x4, 3, 0x0, 0xFFFFFFFF, 0x0, 0x0, 0x0, 0x0, 0x0, 0x0⟩,
  ⟨0x8C, 0x4, 3, 0x0, 0xFFFFFFFF, 0x0, 0x0, 0x0, 0x0, 0x0, 0x0⟩,
  ⟨0x98, 0x4, 3, 0x0, 0xFFFFFFFF, 0x0, 0x0, 0x0, 0x0, 0x0, 0x0⟩,
  ⟨0xC0, 0x0, 1, 0x10001, 0x0, 0x903F000F, 0x0, 0x0, 0x0, 0x0, 0x0⟩,
  ⟨0xC4, 0x0, 1, 0x0, 0x0, 0x0, 0x0, 0xC0000000, 0x0, 0x0, 0x0⟩,
  ⟨0xC8, 0x0, 1, 0x0, 0xFFFFF, 0x0, 0x0, 0x0, 0x0, 0x0, 0x0⟩,
  ⟨0x100, 0x4, 16, 0x0, 0x0, 0x3FFF, 0x0, 0x0, 0x0, 0x0, 0x0⟩]

/-- The rows of the column page (spec/08_reckoner.md). -/
def RegRow.columnRows : List RegRow := [
  ⟨0x40, 0x0, 1, 0x0, 0x87003FFF, 0x0, 0x0, 0x0, 0x0, 0x0, 0x0⟩,
  ⟨0x44, 0x0, 1, 0x0, 0x3, 0x0, 0x0, 0xF0000000, 0x0, 0x0, 0x0⟩,
  ⟨0x48, 0x0, 1, 0x0, 0x0, 0x0, 0x0, 0x0, 0x1, 0x0, 0x0⟩,
  ⟨0x50, 0x8, 8, 0x0, 0x0, 0x0, 0xC3FF3FFF, 0x0, 0x0, 0x0, 0x0⟩,
  ⟨0x54, 0x8, 8, 0x1, 0x0, 0x0, 0xFFFFFFFF, 0x0, 0x0, 0x0, 0x0⟩,
  ⟨0x90, 0x4, 8, 0x0, 0xFFFFFFFF, 0x0, 0x0, 0x0, 0x0, 0x0, 0x0⟩]

/-- The rows of the axis page (spec/10_axis_control.md, spec/11_pump_axes.md). -/
def RegRow.axisRows : List RegRow := [
  ⟨0x40, 0x0, 1, 0xA0700, 0x0, 0x0, 0x33F0733, 0x0, 0x0, 0x0, 0x0⟩,
  ⟨0x44, 0x4, 3, 0x0, 0x0, 0x0, 0xFFFF, 0x0, 0x0, 0x0, 0x0⟩,
  ⟨0x50, 0x0, 1, 0x32, 0x0, 0x0, 0x7F, 0x0, 0x0, 0x0, 0x0⟩,
  ⟨0x54, 0x0, 1, 0x0, 0x7310000, 0x0, 0x0, 0x0, 0x0, 0x0, 0x0⟩,
  ⟨0x58, 0x0, 1, 0x0, 0xFFFFFFFF, 0x0, 0x0, 0x0, 0x0, 0x0, 0x0⟩,
  ⟨0x5C, 0x0, 1, 0x0, 0xFFFFFFFF, 0x0, 0x0, 0x0, 0x0, 0x0, 0x0⟩,
  ⟨0x60, 0x0, 1, 0x100, 0x0, 0x0, 0x873FFF00, 0x0, 0x0, 0x0, 0x0⟩,
  ⟨0x64, 0x0, 1, 0x0, 0x0, 0x0, 0xFFFFFFFF, 0x0, 0x0, 0x0, 0x0⟩,
  ⟨0x68, 0x0, 1, 0x0, 0x0, 0x0, 0xFFFFFFFF, 0x0, 0x0, 0x0, 0x0⟩,
  ⟨0x6C, 0x0, 1, 0x0, 0x0, 0x0, 0xFFFFFFFF, 0x0, 0x0, 0x0, 0x0⟩,
  ⟨0x70, 0x0, 1, 0x1, 0x0, 0x0, 0xFFFFFFFF, 0x0, 0x0, 0x0, 0x0⟩,
  ⟨0x74, 0x0, 1, 0x0, 0x0, 0x0, 0x0, 0x0, 0x1, 0x0, 0x0⟩,
  ⟨0x78, 0x0, 1, 0x0, 0x800F0000, 0x0, 0x0, 0x60000000, 0x0, 0x0, 0x0⟩,
  ⟨0x7C, 0x0, 1, 0x0, 0xFFFFFFFF, 0x0, 0x0, 0x0, 0x0, 0x0, 0x0⟩,
  ⟨0x80, 0x0, 1, 0x0, 0xFFFFFFFF, 0x0, 0x0, 0x0, 0x0, 0x0, 0x0⟩,
  ⟨0xA0, 0x0, 1, 0x20000800, 0x0, 0x0, 0xFFFFFFFF, 0x0, 0x0, 0x0, 0x0⟩,
  ⟨0xA4, 0x0, 1, 0x3C007530, 0x0, 0x0, 0x7FFFFFFF, 0x0, 0x0, 0x0, 0x0⟩,
  ⟨0xA8, 0x0, 1, 0x3323214, 0x0, 0x0, 0x77F7F3F, 0x0, 0x0, 0x0, 0x0⟩,
  ⟨0xAC, 0x0, 1, 0x50012C, 0x0, 0x0, 0x7FFFFF, 0x0, 0x0, 0x0, 0x0⟩,
  ⟨0xB0, 0x0, 1, 0x0, 0x0, 0x0, 0xFFFFFF, 0x0, 0x0, 0x0, 0x0⟩,
  ⟨0xB4, 0x0, 1, 0x0, 0x0, 0x0, 0xFFFFFFFF, 0x0, 0x0, 0x0, 0x0⟩,
  ⟨0xB8, 0x0, 1, 0x1000000, 0x0, 0x0, 0x1F0FFFFF, 0x0, 0x0, 0x0, 0x0⟩,
  ⟨0xBC, 0x0, 1, 0xA0064, 0x0, 0x0, 0xFF0FFF, 0x0, 0x0, 0x0, 0x0⟩,
  ⟨0xC0, 0x0, 1, 0x0, 0x0, 0x0, 0xFFFFFFFF, 0x0, 0x0, 0x0, 0x0⟩,
  ⟨0xC4, 0x4, 3, 0x0, 0x0, 0x0, 0xFFFFFFFF, 0x0, 0x0, 0x0, 0x0⟩,
  ⟨0xD0, 0x0, 1, 0x0, 0xE70F0007, 0x0, 0x0, 0x0, 0x0, 0x0, 0x0⟩,
  ⟨0xD4, 0x0, 1, 0x0, 0xFFFFFFFF, 0x0, 0x0, 0x0, 0x0, 0x0, 0x0⟩,
  ⟨0xD8, 0x0, 1, 0x0, 0x0, 0x0, 0x0, 0x0, 0x1, 0x0, 0x0⟩,
  ⟨0xDC, 0x0, 1, 0x0, 0xFFFFFFFF, 0x0, 0x0, 0x0, 0x0, 0x0, 0x0⟩]

/-- The rows of the feedback page (spec/12_position_feedback.md). -/
def RegRow.feedbackRows : List RegRow := [
  ⟨0x40, 0x0, 1, 0x4000, 0x0, 0x0, 0x8FFFFFFF, 0x0, 0x0, 0x0, 0x0⟩,
  ⟨0x44, 0x0, 1, 0x30048010, 0x0, 0x0, 0xF7FF80FF, 0x0, 0x0, 0x0, 0x0⟩,
  ⟨0x48, 0x0, 1, 0x0, 0x0, 0x0, 0xFFFFFFFF, 0x0, 0x0, 0x0, 0x0⟩,
  ⟨0x4C, 0x0, 1, 0x2, 0x0, 0x0, 0xFFFF, 0x0, 0x0, 0x0, 0x0⟩,
  ⟨0x50, 0x0, 1, 0x80000000, 0x0, 0x0, 0xFFFFFFFF, 0x0, 0x0, 0x0, 0x0⟩,
  ⟨0x54, 0x0, 1, 0x7FFFFFFF, 0x0, 0x0, 0xFFFFFFFF, 0x0, 0x0, 0x0, 0x0⟩,
  ⟨0x58, 0x0, 1, 0x1E848, 0x0, 0x0, 0xFFFFFFF, 0x0, 0x0, 0x0, 0x0⟩,
  ⟨0x5C, 0x0, 1, 0x2710, 0x0, 0x0, 0xFFFFF, 0x0, 0x0, 0x0, 0x0⟩,
  ⟨0x60, 0x0, 1, 0x18181001, 0x0, 0x0, 0xF83F3F3F, 0x0, 0x0, 0x0, 0x0⟩,
  ⟨0x64, 0x0, 1, 0xF0414, 0x0, 0x0, 0x3FFFFFF, 0x0, 0x0, 0x0, 0x0⟩,
  ⟨0x68, 0x0, 1, 0x0, 0x0, 0x0, 0xFFFFFFFF, 0x0, 0x0, 0x0, 0x0⟩,
  ⟨0x6C, 0x0, 1, 0x100833, 0x0, 0x0, 0xFFFFFFFF, 0x0, 0x0, 0x0, 0x0⟩,
  ⟨0x80, 0x0, 1, 0x0, 0xEFFF03FF, 0x0, 0x0, 0x10000000, 0x0, 0x0, 0x0⟩,
  ⟨0x84, 0x0, 1, 0x0, 0xFFFFFFFF, 0x0, 0x0, 0x0, 0x0, 0x0, 0x0⟩,
  ⟨0x88, 0x0, 1, 0x0, 0xFFFFFFFF, 0x0, 0x0, 0x0, 0x0, 0x0, 0x0⟩,
  ⟨0x8C, 0x0, 1, 0x0, 0xFFFFFFFF, 0x0, 0x0, 0x0, 0x0, 0x0, 0x0⟩,
  ⟨0x90, 0x0, 1, 0x0, 0xFF, 0x0, 0x0, 0x0, 0x0, 0x0, 0x0⟩,
  ⟨0x94, 0x0, 1, 0x0, 0x1FF, 0x0, 0x0, 0x0, 0x0, 0x0, 0x0⟩,
  ⟨0x98, 0x0, 1, 0x0, 0xFFFFFFFF, 0x0, 0x0, 0x0, 0x0, 0x0, 0x0⟩,
  ⟨0x9C, 0x0, 1, 0x0, 0x0, 0x0, 0x0, 0x0, 0x0, 0xFFFFFF00, 0x0⟩,
  ⟨0xA0, 0x0, 1, 0x0, 0x0, 0x0, 0x0, 0x0, 0x1, 0x0, 0x0⟩]

/-- The rows of the drive page (spec/13_gate_drive.md). -/
def RegRow.driveRows : List RegRow := [
  ⟨0x40, 0x0, 1, 0x1F400028, 0x0, 0x0, 0xFFFF01FF, 0x0, 0x0, 0x0, 0x0⟩,
  ⟨0x44, 0x0, 1, 0x1000F852, 0x0, 0x0, 0xFF01FFFF, 0x0, 0x0, 0x0, 0x0⟩,
  ⟨0x48, 0x0, 1, 0x2080008, 0x0, 0x0, 0x3F1F00FF, 0x0, 0x0, 0x0, 0x0⟩,
  ⟨0x4C, 0x0, 1, 0x10A0008, 0x0, 0x0, 0x3F1F00FF, 0x0, 0x0, 0x0, 0x0⟩,
  ⟨0x50, 0x0, 1, 0x3013F03, 0x0, 0x0, 0xF1F3F0F, 0x0, 0x0, 0x0, 0x0⟩,
  ⟨0x54, 0x0, 1, 0xA0000, 0x0, 0x0, 0x0, 0x0, 0x0, 0x0, 0x80FF0077⟩,
  ⟨0x58, 0x0, 1, 0x0, 0x0, 0x0, 0x0, 0x0, 0xFF07, 0x0, 0x0⟩,
  ⟨0x5C, 0x0, 1, 0x0, 0xF7070700, 0x0, 0x0, 0x0, 0x0, 0x0, 0x0⟩,
  ⟨0x60, 0x0, 1, 0x0, 0xFFF0FFF, 0x0, 0x0, 0x0, 0x0, 0x0, 0x0⟩,
  ⟨0x64, 0x0, 1, 0x0, 0xE0000777, 0x0, 0x0, 0x0, 0x0, 0x0, 0x0⟩,
  ⟨0x68, 0x0, 1, 0x0, 0x0, 0x0, 0x0, 0x0, 0x0, 0xFFFFFFFF, 0x0⟩]

/-- The rows of the supply page (spec/13_gate_drive.md). -/
def RegRow.supplyRows : List RegRow := [
  ⟨0x40, 0x0, 1, 0x3C0D0300, 0x0, 0x0, 0x3FFFFFFF, 0x0, 0x0, 0x0, 0x0⟩,
  ⟨0x44, 0x0, 1, 0xC0, 0x0, 0x0, 0x3FF, 0x0, 0x0, 0x0, 0x0⟩,
  ⟨0x48, 0x0, 1, 0x80040005, 0x0, 0x0, 0x800F001F, 0x0, 0x0, 0x0, 0x0⟩,
  ⟨0x4C, 0x0, 1, 0x8C, 0x0, 0x0, 0xFF, 0x0, 0x0, 0x0, 0x0⟩,
  ⟨0x50, 0x0, 1, 0x0, 0x0, 0x0, 0x0, 0x0, 0xFF01, 0x0, 0x0⟩,
  ⟨0x54, 0x0, 1, 0x0, 0xDF000300, 0x0, 0x0, 0x20000000, 0x0, 0x0, 0x0⟩,
  ⟨0x58, 0x0, 1, 0x0, 0x0, 0x0, 0x0, 0x0, 0x0, 0xFFFFFFFF, 0x0⟩]

/-- The rows of the carry page (spec/14_rod_redundancy.md). -/
def RegRow.carryRows : List RegRow := [
  ⟨0x40, 0x0, 1, 0x0, 0xF0070000, 0x0, 0x0, 0x7000000, 0x0, 0x0, 0x0⟩,
  ⟨0x44, 0x0, 1, 0x0, 0xFFFF, 0x0, 0x0, 0x0, 0x0, 0x0, 0x0⟩,
  ⟨0x48, 0x0, 1, 0x0, 0xF, 0x0, 0x0, 0x7000000, 0x0, 0x0, 0x0⟩,
  ⟨0x4C, 0x0, 1, 0x0, 0x8007FFFF, 0x0, 0x0, 0x0, 0x0, 0x0, 0x0⟩,
  ⟨0x50, 0x0, 1, 0x0, 0x0, 0x0, 0x0, 0x0, 0x3FF01, 0x0, 0x0⟩,
  ⟨0x54, 0x0, 1, 0x0, 0xC00FFFFF, 0x0, 0x0, 0x0, 0x0, 0x0, 0x0⟩,
  ⟨0x58, 0x0, 1, 0x0, 0x0, 0x0, 0x0, 0x0, 0x0, 0xFFFFFF, 0x0⟩,
  ⟨0x5C, 0x0, 1, 0x0, 0x0, 0x0, 0x0, 0x0, 0x0, 0xFFFFFF00, 0x0⟩,
  ⟨0x60, 0x4, 3, 0x2080CCD, 0x0, 0x0, 0x8F3FFFFF, 0x0, 0x0, 0x0, 0x0⟩,
  ⟨0x70, 0x4, 3, 0x20000000, 0x0, 0x0, 0xFFFFFFFF, 0x0, 0x0, 0x0, 0x0⟩,
  ⟨0x80, 0x4, 3, 0x0, 0xFFFF, 0x0, 0x0, 0x0, 0x0, 0x0, 0x0⟩,
  ⟨0x100, 0x4, 24, 0x0, 0x0, 0x0, 0xFFFFFFFF, 0x0, 0x0, 0x0, 0x0⟩]

/-- The rows of the tandem page (spec/14_rod_redundancy.md). -/
def RegRow.tandemRows : List RegRow := [
  ⟨0x40, 0x0, 1, 0x0, 0x0, 0x0, 0x870100FF, 0x0, 0x0, 0x0, 0x0⟩,
  ⟨0x44, 0x0, 1, 0x2, 0x0, 0x0, 0x17FF, 0x0, 0x0, 0x0, 0x0⟩,
  ⟨0x48, 0x0, 1, 0x0, 0xC700FFFF, 0x0, 0x0, 0x0, 0x0, 0x0, 0x0⟩,
  ⟨0x4C, 0x0, 1, 0x0, 0xFFFF, 0x0, 0x0, 0x0, 0x0, 0x0, 0x0⟩,
  ⟨0x50, 0x0, 1, 0x0, 0x0, 0x0, 0x0, 0x0, 0x0, 0xFFFFFFFF, 0x0⟩]

/-- The rows of the lockstep page (spec/15_lockstep.md). -/
def RegRow.lockstepRows : List RegRow := [
  ⟨0x40, 0x0, 1, 0x0, 0xF01F0007, 0x0, 0x0, 0x0, 0x0, 0x0, 0x0⟩,
  ⟨0x44, 0x0, 1, 0x64, 0x0, 0xFFFF, 0x0, 0x0, 0x0, 0x0, 0x0⟩,
  ⟨0x48, 0x0, 1, 0x0, 0x0, 0x0, 0x0, 0x0, 0xFF01, 0x0, 0x0⟩,
  ⟨0x4C, 0x0, 1, 0x0, 0x0, 0x7, 0x0, 0x0, 0x0, 0x0, 0x0⟩,
  ⟨0x50, 0x0, 1, 0x0, 0xFFFFFFFF, 0x0, 0x0, 0x0, 0x0, 0x0, 0x0⟩,
  ⟨0x54, 0x0, 1, 0x0, 0xFFFFFFFF, 0x0, 0x0, 0x0, 0x0, 0x0, 0x0⟩,
  ⟨0x58, 0x0, 1, 0x0, 0xFFFFFFFF, 0x0, 0x0, 0x0, 0x0, 0x0, 0x0⟩,
  ⟨0x5C, 0x0, 1, 0x0, 0xFFFFFFFF, 0x0, 0x0, 0x0, 0x0, 0x0, 0x0⟩,
  ⟨0x60, 0x0, 1, 0x0, 0x87000001, 0x0, 0x0, 0x0, 0x0, 0x0, 0x0⟩]

/-- The rows of the safety page (spec/16_safety_functions.md). -/
def RegRow.safetyRows : List RegRow := [
  ⟨0x40, 0x0, 1, 0x0, 0xFFFFFFFF, 0x0, 0x0, 0x0, 0x0, 0x0, 0x0⟩,
  ⟨0x44, 0x0, 1, 0x0, 0xFFFF070F, 0x0, 0x0, 0x0, 0x0, 0x0, 0x0⟩,
  ⟨0x48, 0x0, 1, 0x0, 0xFFFFFFFF, 0x0, 0x0, 0x0, 0x0, 0x0, 0x0⟩,
  ⟨0x4C, 0x0, 1, 0x0, 0xFFFFFFFF, 0x0, 0x0, 0x0, 0x0, 0x0, 0x0⟩,
  ⟨0x50, 0x10, 3, 0x0, 0x70700FF, 0x0, 0x0, 0xE0000000, 0x0, 0x0, 0x0⟩,
  ⟨0x54, 0x10, 3, 0x0, 0xFFFFFFFF, 0x0, 0x0, 0x0, 0x0, 0x0, 0x0⟩,
  ⟨0x58, 0x10, 3, 0x0, 0xFFFFFFFF, 0x0, 0x0, 0x0, 0x0, 0x0, 0x0⟩,
  ⟨0x5C, 0x10, 3, 0x0, 0xFFFFFFFF, 0x0, 0x0, 0x0, 0x0, 0x0, 0x0⟩]

/-- The rows of the contactor page (spec/16_safety_functions.md). -/
def RegRow.contactorRows : List RegRow := [
  ⟨0x40, 0x0, 1, 0x2805A8, 0x0, 0x0, 0xFF0FFF, 0x0, 0x0, 0x0, 0x0⟩,
  ⟨0x44, 0x0, 1, 0x0, 0xF8000000, 0x0, 0x0, 0x0, 0x0, 0x0, 0x0⟩,
  ⟨0x48, 0x0, 1, 0x0, 0xFFFFFFFF, 0x0, 0x0, 0x0, 0x0, 0x0, 0x0⟩,
  ⟨0x4C, 0x0, 1, 0x0, 0xFFFF, 0x0, 0x0, 0x0, 0x0, 0x0, 0x0⟩]

/-- The rows of the trace page (spec/02_register_pages.md). -/
def RegRow.traceRows : List RegRow := [
  ⟨0x40, 0x0, 1, 0x0, 0xFFFFFFFF, 0x0, 0x0, 0x0, 0x0, 0x0, 0x0⟩,
  ⟨0x44, 0x0, 1, 0x0, 0x0, 0xFFFFFFFF, 0x0, 0x0, 0x0, 0x0, 0x0⟩,
  ⟨0x48, 0x0, 1, 0x0, 0xC700FFFF, 0x0, 0x0, 0x0, 0x0, 0x0, 0x0⟩,
  ⟨0x4C, 0x0, 1, 0x0, 0x7F, 0x0, 0x0, 0x0, 0x0, 0x0, 0x0⟩,
  ⟨0x50, 0x0, 1, 0x0, 0xFFFF, 0x0, 0x0, 0x0, 0x0, 0x0, 0x0⟩,
  ⟨0x54, 0x0, 1, 0x0, 0x0, 0x0, 0x0, 0x0, 0x0, 0xFFFFFFFF, 0x0⟩]

end Sys2Proof.Machine
end

