-- ==== Sys2Proof/Machine/Pages.lean ====
section
/-! DEFINITION. The page plan of BAR0 (R41 to R44, Tables 2.1 and 2.2): what lies at an address, the clock domain and
the power domain of a page, its staging header, its MSI-X vector (Table 6.2), and the reset value of every register. -/

namespace Sys2Proof.Machine

/-- What the plan says of a page: its registers, its first instance, clock-domain code (Table 17.3), power-domain
bit (R668, Table 18.1; `none` for the core), groups (`none` where it is not staged) and vector. -/
structure PageInfo where
  rows   : List RegRow
  first  : Nat
  domain : Nat
  power  : Option Nat
  groups : Option Nat
  vector : Nat
deriving DecidableEq, Repr

/-- The page of an index (Table 2.1), `none` where the plan lists none. -/
def pageInfo (p : Nat) : Option PageInfo :=
  if p = 0x000 then some ⟨RegRow.identityRows, p, 0, none, none, 16⟩
  else if p = 0x001 then some ⟨RegRow.modeRows, p, 0, none, some 0, 17⟩
  else if p = 0x002 then some ⟨RegRow.clockRows, p, 9, none, none, 18⟩
  else if p = 0x003 then some ⟨RegRow.powerRows, p, 9, none, none, 19⟩
  else if p = 0x004 then some ⟨RegRow.securityRows, p, 0, none, none, 20⟩
  else if 0x010 ≤ p ∧ p ≤ 0x01F then some ⟨RegRow.queueRows, 0x010, 6, some 0, some 1, p - 0x010⟩
  else if p = 0x020 then some ⟨RegRow.dmaRows, p, 0, none, none, 21⟩
  else if p = 0x021 then some ⟨RegRow.fabricRows, p, 0, none, none, 22⟩
  else if p = 0x030 then some ⟨RegRow.flexrayRows, p, 2, some 3, some 1, 23⟩
  else if 0x031 ≤ p ∧ p ≤ 0x03F then
    some ⟨RegRow.buffersRows, 0x031, 2, some 3, some (if p = 0x03F then 2 else 9), 24⟩
  else if p = 0x040 then some ⟨RegRow.frameRows, p, 3, some 1, some 2, 25⟩
  else if p = 0x050 then some ⟨RegRow.contractsRows, p, 0, none, some 1, 26⟩
  else if p = 0x060 then some ⟨RegRow.reckonerRows, p, 1, some 2, some 4, 27⟩
  else if 0x061 ≤ p ∧ p ≤ 0x064 then some ⟨RegRow.columnRows, 0x061, 1, some 2, some 8, 28⟩
  else if 0x070 ≤ p ∧ p ≤ 0x072 then some ⟨RegRow.axisRows, 0x070, 1, some 2, some 3, 29 + (p - 0x070)⟩
  else if 0x080 ≤ p ∧ p ≤ 0x082 then some ⟨RegRow.feedbackRows, 0x080, 5, some 4, some 3, 32 + (p - 0x080)⟩
  else if 0x090 ≤ p ∧ p ≤ 0x092 then some ⟨RegRow.driveRows, 0x090, 3, some 1, some 2, 35 + (p - 0x090)⟩
  else if p = 0x093 then some ⟨RegRow.supplyRows, p, 3, some 1, some 2, 38⟩
  else if p = 0x0A0 then some ⟨RegRow.carryRows, p, 0, none, some 3, 39⟩
  else if p = 0x0A1 then some ⟨RegRow.tandemRows, p, 0, none, some 1, 40⟩
  else if p = 0x0B0 then some ⟨RegRow.lockstepRows, p, 0, none, none, 41⟩
  else if p = 0x0C0 then some ⟨RegRow.safetyRows, p, 9, none, none, 42⟩
  else if p = 0x0C1 then some ⟨RegRow.contactorRows, p, 9, none, some 1, 43⟩
  else if p = 0x0D0 then some ⟨RegRow.traceRows, p, 0, none, none, 44⟩
  else none

/-- The pages of a rod, in index order. -/
def allPages : List Nat :=
  [0x000, 0x001, 0x002, 0x003, 0x004] ++ (List.range 16).map (0x010 + ·) ++ [0x020, 0x021] ++
  (List.range 16).map (0x030 + ·) ++ [0x040, 0x050] ++ (List.range 5).map (0x060 + ·) ++
  [0x070, 0x071, 0x072, 0x080, 0x081, 0x082, 0x090, 0x091, 0x092, 0x093, 0x0A0, 0x0A1, 0x0B0, 0x0C0, 0x0C1, 0x0D0]

/-- Whether a row of a page table holds offset `o`. -/
def RegRow.holds (r : RegRow) (o : Nat) : Bool :=
  if r.count = 1 then o == r.off
  else r.off ≤ o && (o - r.off) % r.stride == 0 && (o - r.off) / r.stride < r.count

/-- The row of a list that holds an offset. -/
def findRow : List RegRow → Nat → Option RegRow
  | [], _ => none
  | r :: t, o => if r.holds o then some r else findRow t o

/-- The offset by which a buffer page's table is read: relative to the base of its buffer (Table 5.6). -/
def bufOffset (p o : Nat) : Option Nat :=
  if 0x40 ≤ o ∧ (o - 0x40) / 0x1C0 < 9 ∧ 9 * (p - 0x031) + (o - 0x40) / 0x1C0 < 128 then
    some ((o - 0x40) % 0x1C0)
  else none

/-- The row of the register at a BAR0 address of the register pages. -/
def regRow (a : Nat) : Option RegRow :=
  let p := a / 0x1000
  let o := a % 0x1000
  match pageInfo p with
  | none => none
  | some i =>
    if o < 0x40 then findRow RegRow.headerRows o
    else if i.first = 0x031 then
      match bufOffset p o with
      | none => none
      | some o' => findRow i.rows o'
    else findRow i.rows o

/-- The reset value of the register at a BAR0 address: the value of its table, with what differs per instance:
AX_CFG.LEAD (R30), the read credits of DMA channels 2 and 3 (Table 6.12) and the staging header of a page without
staging (R67). -/
def regReset (a : Nat) : Word :=
  match regRow a with
  | none => 0
  | some r =>
    let p := a / 0x1000
    if a = Rg.STG_STAT p ∧ ((pageInfo p).map (·.groups.isSome)).getD false = false then 0
    else if 0x070 ≤ p ∧ p ≤ 0x072 ∧ a % 0x1000 = 0x40 then r.reset + BitVec.ofNat 32 ((p - 0x070) * 2 ^ 24)
    else if a = Rg.DMA_CTRL 2 ∨ a = Rg.DMA_CTRL 3 then r.reset &&& 0x1F#32
    else r.reset

end Sys2Proof.Machine
end

