-- ==== Sys2Proof/Machine/State.lean ====
section
/-! DEFINITION. The state of the module: three rods (R19: nothing is shared) and the queue of waiting commands. Every
rod holds its registers as one sparse table over BAR0 (unlisted: the reset value of `regReset`), the shadows of its
staged fields, and the state of each block that no register shows. -/

namespace Sys2Proof.Machine

/-- The reasons a step can stop with a fault. No command of this model faults: the block reports its faults itself, by
fault records. The one constructor is raised by no meaning (safe). -/
inductive Fault where
  /-- raised by nothing; safe -/
  | unraised
deriving DecidableEq, Repr

/-- The reasons a command can be refused. -/
inductive Refusal where
  /-- the command has no meaning yet; raised by the arms of `exec` alone; safe -/
  | notModelled (mnemonic : String)
deriving DecidableEq, Repr

/-- What a rod sends out of itself: to its partners over the carry links, over a tandem lane, to its host, on its
FlexRay bus, and what a read access returns. (DESIGN CHOICE, log entry 16) -/
inductive Out where
  /-- MSI-X message on a vector, with the address and the data of its table entry (R52, R186, R190) -/
  | msix (vector : Nat) (addr : Nat) (data : Word)
  /-- data a host read returns -/
  | read (data : Nat)
  /-- Unsupported Request, the answer of the endpoint in D3hot (R189) -/
  | unsupported
  /-- write of bytes to host memory (R197, R209) -/
  | hostWrite (addr : Nat) (bytes : List Byte)
  /-- read request to host memory (R210): channel, address, length -/
  | hostRead (chan : Nat) (addr : Nat) (len : Nat)
  /-- fault record written, as the partners may relay it (R191) -/
  | record (rec : FaultRec)
  /-- dq frame to both partners (R24, R287) -/
  | dq (frame : DqFrame)
  /-- time frame to both partners (R115, R670) -/
  | time (msg : TimeMsg)
  /-- set-state message (R343) -/
  | setState (msg : SetState)
  /-- torque exchange copy (R289) -/
  | torque (msg : TorqueCopy)
  /-- outer-loop state copy (R291) -/
  | stateCopy (msg : StateCopy)
  /-- copy-missed notice (R480) -/
  | copyMissed (axis : Axis)
  /-- judgement (R482) -/
  | judgement (msg : JudgeMsg)
  /-- withdrawal notice (Table 14.1, kind 5) -/
  | withdrawn (tick : Word)
  /-- removal order (R488) -/
  | removalOrder (dst : RodId)
  /-- proposal of a system mode (R81) -/
  | propose (mode : Nat)
  /-- safety function report (R552) -/
  | sfReport (msg : SfMsg)
  /-- byte of the seal straps (R545) -/
  | seal (byte : Byte)
  /-- set-point copy (R471) -/
  | setpoint (copy : SetpointCopy)
  /-- pump phase message (R376) -/
  | pumpPhase (msg : PumpPhaseMsg)
  /-- LOCK, DIR and REST of the own set (R377) -/
  | pumpStatus (msg : PumpStatus)
  /-- contract proposal (R237) -/
  | proposal (msg : AdmitProposal)
  /-- answer to a contract proposal (R238) -/
  | admitAnswer (dst : RodId) (msg : AdmitAnswer)
  /-- withdrawal of a contract (R240) -/
  | contractGone (index : Nat)
  /-- forwarded command with its bulk data (R205, R207) -/
  | forward (dst : RodId) (queue : Nat) (desc : Desc) (bytes : List Byte)
  /-- result of a forwarded command, with the data it read (R205) -/
  | forwardResult (dst : RodId) (queue : Nat) (cid : BitVec 16) (status : Byte) (result : DWord) (bytes : List Byte)
  /-- join request (Table 14.3 step 2) -/
  | join (req : JoinReq)
  /-- join answer: accepted or refused -/
  | joinAnswer (dst : RodId) (ok : Bool)
  /-- copy for a rejoining rod (Table 14.3 step 3) -/
  | rejoinData (dst : RodId) (data : RejoinData)
  /-- tandem group copy on the lane (R507) -/
  | tandem (copy : TandemCopy)
  /-- UID of the module over the tandem lane or the carry links (R665) -/
  | uid (dst : RodId) (uid : BitVec 128)
  /-- FlexRay frame: channel, level of the transmit-enable ball meanwhile, slot, header, payload (R140, R148, R150, R161, R162) -/
  | frame (chan : Chan) (txen : Ball) (slot : Nat) (head : FrHead) (payload : List Byte)
  /-- FlexRay symbol: channel, level of the transmit-enable ball, 0 CAS, 1 MTS, 2 WUP, 3 WUDOP, repetitions (R150, R175, R177) -/
  | symbol (chan : Chan) (txen : Ball) (kind : Nat) (reps : Nat)
  /-- what X_CKO puts out from here on: the source domain, and the cycles of it that each period takes and is high for; none: low
  (R583, R585) -/
  | cko (clock : Option (Nat × Nat × Nat))
  /-- an acknowledgement bit of the wake port: true for ACK (R604) -/
  | wakeAck (ok : Bool)
  /-- the word a debug instruction shifts out (R660) -/
  | tdo (bits : Nat) (w : Nat)
deriving DecidableEq, Repr

/-- One half-bridge of the drive die and of the PWM unit (R424 to R451). -/
structure Hb where
  /-- duty word in force, the word written since the last latch, and the word that reached the PWM unit in the cycle of that latch
  (R27, R28, R272) -/
  duty    : Nat
  written : Option Nat
  late    : Option Nat
  /-- consecutive full-duty periods (R434) -/
  full    : Nat
  /-- class-T latch: 0 none, otherwise the cause of DRV_CAUSE; its condition still present -/
  tCause  : Nat
  tCond   : Bool
  /-- class-E fault in force and its condition still present, one flag per cause 1 to 3 (R446) -/
  eAct    : Tri Bool
  eCond   : Tri Bool
  /-- tick of the last records 0x0B01, 0x0B02 and of 0x0B12 for the low and the high side (R470) -/
  lastDs  : Option Nat
  lastOc  : Option Nat
  lastPl  : Option Nat
  lastPh  : Option Nat
  /-- a clearing pulse of T_CLR runs (R445) -/
  clr     : Bool
  /-- last current word of the phase -/
  cur     : Nat
  /-- the enable input as last driven (R424, R426) -/
  en      : Bool
  /-- FT at which direct diagnostic mode turned the high and the low side on (R451) -/
  hiAt    : Nat
  loAt    : Nat
deriving DecidableEq, Repr

/-- A half-bridge at reset. -/
def Hb.init : Hb :=
  { duty := 0, written := none, late := none, full := 0, tCause := 0, tCond := false, eAct := Tri.rep false, eCond := Tri.rep false,
    lastDs := none, lastOc := none, lastPl := none, lastPh := none, clr := false, cur := 0, en := false, hiAt := 0, loAt := 0 }

/-- The drive die as a whole (R424 to R465): what holds while the pages of the logic die are off. -/
structure Die where
  /-- fence latch, supply active short, chopper failure, VGD undervoltage and overtemperature present -/
  fence    : Bool
  supAsc   : Bool
  chopFail : Bool
  vgdUv    : Bool
  hot      : Bool
  /-- FT of the last chopper activity (record 0x0B30) -/
  lastChop : Option Nat
deriving DecidableEq, Repr

/-- The drive die as it is powered on. -/
def Die.init : Die :=
  { fence := false, supAsc := false, chopFail := false, vgdUv := false, hot := false, lastChop := none }

/-- What the PWM unit has in force where the registers already show a later commit (R62, R128, R435, R436), and where the sampling
instants lie. The instants are given as twice an FT in ns. -/
structure PwmS where
  /-- PERIOD and DOUBLE in force up to `till`; from then on those of the registers, with the first sampling instant at `from_`,
  before which the stretched tick lies -/
  per   : Nat
  dbl   : Bool
  till  : Nat
  from_ : Nat
  /-- the sampling instant before the last one -/
  prev  : Nat
  /-- by axis: DRV_PWM, DRV_PROF_ON, DRV_PROF_OFF and DRV_PROT as of the last valley, DRV_DUTY as of the last latch (R436) -/
  dt    : Tri Word
  on_   : Tri Word
  off   : Tri Word
  prot  : Tri Word
  duty  : Tri Word
deriving DecidableEq, Repr

/-- The PWM unit at reset: the reset values of the drive pages. -/
def PwmS.init : PwmS :=
  { per := 0, dbl := false, till := 0, from_ := 0, prev := 0, dt := Tri.rep (regReset 0x90040)
    on_ := Tri.rep (regReset 0x90048), off := Tri.rep (regReset 0x9004C), prot := Tri.rep (regReset 0x90050)
    duty := Tri.rep (regReset 0x90044) }

/-- The counting frame beyond its page (R111 to R125). Errors and integrator in picoseconds. -/
structure TimeB where
  /-- last time-base frame accepted: B and its communication cycle (R112, R113) -/
  base    : Option (Nat × Nat)
  /-- the B of a discarded frame kept as candidate, and its cycle (R113) -/
  cand    : Option (Nat × Nat)
  /-- a capture awaits the close of its receive window, the FT of its instant, and the cluster errors held for it (R115, R116) -/
  open_   : Bool
  capFt   : Nat
  errs    : Tri (Option Int)
  /-- the partners' time frames of this capture: δ of R670 -/
  offs    : Tri (Option Int)
  /-- cluster in use at the last capture, consecutive outlier captures, excluded, captures toward re-admission -/
  used    : Tri Bool
  outN    : Tri Nat
  excl    : Tri Bool
  backN   : Tri Nat
  /-- captures toward LOCKED, and toward losing it (R124), and toward XMOD_OK (R120) -/
  good    : Nat
  bad     : Nat
  xmod    : Nat
  expired : Bool
  /-- FT at the entry to holdover -/
  holdFt  : Nat
  /-- 64 times the integrator, in ps (R123) -/
  integ64 : Int
  /-- FT at entry to the rod state SYNC -/
  syncFt  : Nat
  /-- the partners whose last time frame came while they took this rod's cluster time (R591) -/
  takes   : Tri Bool
deriving DecidableEq, Repr

/-- The counting frame at reset. (DESIGN CHOICE, log entry 3) -/
def TimeB.init : TimeB :=
  { base := none, cand := none, open_ := false, capFt := 0, errs := Tri.rep none,
    offs := Tri.rep none, used := Tri.rep false, outN := Tri.rep 0, excl := Tri.rep false, backN := Tri.rep 0,
    good := 0, bad := 0, xmod := 0, expired := false, holdFt := 0, integ64 := 0, syncFt := 0,
    takes := Tri.rep false }

/-- Modes, ARMING and the conditions the safety monitor drives (R78 to R106). (DEDUCED, log entry 56) -/
structure ModeS where
  /-- mode proposed by each rod, the own one included, and the FT of the proposal (R81, R88) -/
  props    : Tri (Option (Nat × Nat))
  /-- rods whose contactor is known welded (Table 14.5, outcome K) -/
  weld     : Tri Bool
  /-- mode agreed, the tick boundaries until it takes effect and its voters (R80) -/
  agreed   : Option (Nat × Nat × Nat)
  /-- cause of LIMP, 0 while none is present (Table 14.5) -/
  limp     : Nat
  /-- the host asked for SAFE (R89) -/
  safeReq  : Bool
  /-- axes held in their role safe state (R79, R105, R385, R555) -/
  safeAx   : Tri Bool
  /-- FT of the last mode change, and of entry to ARMING -/
  modeFt   : Nat
  /-- the time since power-on at that change, in steps of 12.5 ns (record 0x0311) -/
  modeUp   : Nat
  armFt    : Nat
  /-- release written in ARM_RELEASE, ticks below the standstill threshold, and axes that recorded their wait (R97, R98) -/
  released : Tri Bool
  still    : Tri Nat
  waited   : Tri Bool
  /-- own contactor commanded on (X_KHS), FT of its last turn-on, park-hold output held (R92, R104, R429) -/
  khs      : Bool
  khsFt    : Nat
  park     : Bool
  /-- DIS and ASC_n of the safety monitor (R428), and the clockless hold of the outputs (R577) -/
  dis      : Bool
  asc      : Tri Bool
  hold     : Bool
  /-- FlexRay balls at high impedance for a self-detected fault (R151) -/
  txOff    : Bool
  /-- supervisor firmware verified, and stopped in BOOT (R84) -/
  fwOk     : Bool
  stuck    : Bool
  /-- off-state diagnostics: set under test (3: none), step of Table 13.4 (0 Look to 4 D), node results so far (R455) -/
  osdSet   : Nat
  osdStep  : Nat
  osdFailC : Bool
  osdDone  : Bool
  /-- PUMP and FEEL axes whose record 0x0132 is written while their safe state lasts (R79) -/
  told     : Tri Bool
  /-- pre-charge in progress and passed (R454) -/
  pre      : Bool
  preOk    : Bool
  /-- fenced in ARMING, and OPERATE not reached since (R96); the partners whose ARM_STAT.FAIL has been seen set (R109) -/
  armFenced : Bool
  failSeen : Tri Bool
deriving DecidableEq, Repr

/-- Modes at reset. (DESIGN CHOICE, log entry 3) -/
def ModeS.init : ModeS :=
  { props := Tri.rep none, weld := Tri.rep false, agreed := none, limp := 0, safeReq := false, safeAx := Tri.rep false,
    modeFt := 0, modeUp := 0, armFt := 0,
    released := Tri.rep false, still := Tri.rep 0, waited := Tri.rep false, khs := false, khsFt := 0, park := false,
    dis := false, asc := Tri.rep false, hold := true, txOff := false, fwOk := false, stuck := false, osdSet := 3, osdStep := 0,
    osdFailC := false, osdDone := false,
    told := Tri.rep false, pre := false, preOk := false, armFenced := false,
    failSeen := Tri.rep false }

/-- The feedback unit of one axis beyond its page (R389 to R419). Times are FBK samples of 6.25 ns. (DEDUCED, log entry 56) -/
structure Fb where
  /-- accepted levels 2 A + B; the last transition was illegal; sample of the last edge; legal transitions counted -/
  st      : Nat
  ill     : Bool
  edge    : Option Nat
  legal   : Nat
  /-- fault cause of the quadrature path (0 none) and its line; the serial path is faulted -/
  qFault  : Nat
  sFault  : Bool
  /-- edges in the run, t_a, t_b and the edges after t_a (R404); |speed| of the last sampling instant in counts per
  sample, as a fraction; speed word of a fall-back -/
  run     : Nat
  ta      : Nat
  tb      : Nat
  n       : Nat
  spNum   : Nat
  spDen   : Nat
  fbSpd   : Int
  /-- the next suppression is a first one (R396); the count awaits the next good serial word (R413) -/
  limArm  : Bool
  wait    : Bool
  /-- the pair (C_ref, P_ref) of R413 -/
  cref    : Int
  pref    : Nat
  /-- a transfer runs: lead-in steps ended without an answer, count, tick and sample at its latch -/
  busy    : Bool
  steps   : Nat
  latCnt  : Int
  latTick : Nat
  latAt   : Nat
  /-- tick of the latch of the word held; consecutive failed transfers and the cause of the last -/
  heldTick : Option Nat
  bad     : Nat
  badWhy  : Nat
  /-- C_ser of the last good word with its sample, and the sign of the last non-zero change (R417) -/
  last    : Option (Int × Nat)
  sign    : Int
  /-- consecutive tracking differences above TRK_TOL -/
  trk     : Nat
  /-- the index reference of IDX_MODE 2 is armed -/
  idxArm  : Bool
  /-- FALLBACK, and the FRESH bit -/
  fallback : Bool
  fresh   : Bool
  /-- ticks of the last records 0x0A01 and 0x0A02 (R423) -/
  lastIll : Option Nat
  lastSpc : Option Nat
deriving DecidableEq, Repr

/-- The feedback unit of an axis at reset. -/
def Fb.init : Fb :=
  { st := 0, ill := false, edge := none, legal := 0, qFault := 0, sFault := false, run := 0, ta := 0, tb := 0, n := 0,
    spNum := 0, spDen := 1, fbSpd := 0, limArm := true, wait := false, cref := 0, pref := 0, busy := false, steps := 0,
    latCnt := 0, latTick := 0, latAt := 0, heldTick := none, bad := 0, badWhy := 0, last := none, sign := 0, trk := 0,
    idxArm := true, fallback := false, fresh := false, lastIll := none, lastSpc := none }

/-- The sequencer and the observer of a pump axis (R368 to R385). Currents, voltages, angles in radians and speeds in
rad/s are whole multiples of 2⁻⁴⁰. (DEDUCED, log entry 56) -/
structure Pmp where
  /-- phase change decided: phase, tick, HO_TQ, OSPD of the lead, cause; and the tick of its decision -/
  next    : Option (Nat × Nat × Word × Word × Nat)
  decided : Nat
  /-- k0, ticks since, θ_ramp; HANDOVER -/
  k0      : Nat
  j       : Nat
  ramp    : Word
  hand    : Bool
  /-- LOCK, DIR and REST last reported, by rod -/
  reps    : Tri (Bool × Bool × Bool)
  rest    : Bool
  /-- ticks of CATCH, and of them those with |e_f| below E_MIN -/
  catchN  : Nat
  lowN    : Nat
  /-- FT at the entry to the phase, since which every healthy rod reports REST, and since which the ramp speed stands at HO_SPD
  (Table 11.3, R383) -/
  at_     : Nat
  restAt  : Option Nat
  fullAt  : Option Nat
  /-- i_prev, e_f, w, θ_pll and eps of the pseudocode -/
  ia      : Int
  ib      : Int
  ea      : Int
  eb      : Int
  w       : Int
  pll     : Int
  eps     : Int
  /-- consecutive ticks of the lock condition and of the causes of Table 11.4 -/
  lockN   : Nat
  c1      : Nat
  c2      : Nat
  c3      : Nat
deriving DecidableEq, Repr

/-- A pump axis at reset. -/
def Pmp.init : Pmp :=
  { next := none, decided := 0, k0 := 0, j := 0, ramp := 0#32, hand := false, reps := Tri.rep (false, false, false),
    rest := false, catchN := 0, lowN := 0, at_ := 0, restAt := none, fullAt := none, ia := 0, ib := 0, ea := 0, eb := 0,
    w := 0, pll := 0, eps := 0, lockN := 0,
    c1 := 0, c2 := 0, c3 := 0 }

/-- The safety monitor beyond its pages (R541 to R560). -/
structure SafS where
  /-- last strap byte read and equal reads in a row; accepted byte; partners' bytes held; a change not yet compared -/
  strap   : Byte
  reads   : Nat
  own     : Option Byte
  bytes   : Tri (Option Byte)
  due     : Bool
  /-- the profile record bound, 296 bytes; empty before binding -/
  prof    : List Byte
  /-- FT of the last launch of input 8 in force -/
  vsFt    : Nat
  /-- by axis and function SLS, SLP, SDI: violating ticks, ticks without the condition, last report of each rod (tick),
  decided -/
  viol    : Tri (Tri Nat)
  absent  : Tri (Tri Nat)
  rep     : Tri (Tri (Tri (Option Nat)))
  dec     : Tri (Tri Bool)
  /-- limited launches by axis, for record 0x0E20 -/
  clamps  : Tri Nat
  /-- the closed contact has been seen since the coil was turned on (R558); FT of the last coil turn-off whose opening
  is not yet timed (R559) -/
  watch   : Bool
  offFt   : Option Nat
deriving DecidableEq, Repr

/-- The safety monitor at reset. -/
def SafS.init : SafS :=
  { strap := 0#8, reads := 0, own := none, bytes := Tri.rep none, due := false, prof := [], vsFt := 0,
    viol := Tri.rep (Tri.rep 0), absent := Tri.rep (Tri.rep 0), rep := Tri.rep (Tri.rep (Tri.rep none)),
    dec := Tri.rep (Tri.rep false), clamps := Tri.rep 0, watch := false, offFt := none }

/-- Redundancy beyond its pages (R471 to R512), by rod where not said otherwise. -/
structure RedS where
  /-- an epoch is held (R479); the latest valid epoch each partner carried -/
  holds   : Bool
  epochs  : Tri (Option Nat)
  /-- own judgements and those heard from the third rod: kind and tick; fence switches opened by a judgement -/
  judged  : Tri (Option (Nat × Nat))
  heard   : Tri (Option (Nat × Nat))
  shut    : Tri Bool
  /-- removals due: tick and kind; rods removed and not yet back; removal orders received -/
  due     : Tri (Option (Nat × Nat))
  out     : Tri Bool
  orders  : Tri Bool
  /-- by axis: a state copy or notice has come in this outer cycle, a copy is expected; implausible copies in a row and
  the last T_AX -/
  copyIn  : Tri Bool
  expect  : Tri Bool
  tqBad   : Tri Nat
  tqLast  : Tri (Option Int)
  /-- consecutive ticks without a dq frame; a dq frame has come since the partner was last removed or away (R26) -/
  missing : Tri Nat
  dqHeard : Tri Bool
  /-- the link to the partner is reported silent (Table 3.3); the transit of the link in ps, as measured at its last alignment
  (R670) -/
  silent  : Tri Bool
  tau     : Tri Nat
  /-- residual by axis: sum of m over the window in units of 2⁻⁸⁶, ticks of it, a stale tick in it, exceeding windows, own
  flag; record 0x0C13 written while the flags stand -/
  rsum    : Tri Int
  rticks  : Tri Nat
  rstale  : Tri Bool
  rcount  : Tri Nat
  flag    : Tri Bool
  amb     : Tri Bool
  /-- residual flags the partners carried, and the slot words of the previous tick -/
  pflag   : Tri Nat
  slots   : Tri (List Word)
  /-- senders and epochs already recorded as stale (R477) -/
  stale   : List (RodId × Nat)
  /-- FT of the loss of the first link, and whether both partners were live with all links up then (R498) -/
  cutFt   : Option Nat
  whole   : Bool
  /-- REJOIN: consents by rod (FT), own entry (FT), data received by partner -/
  consent : Tri (Option Nat)
  rjFt    : Nat
  /-- rods on their way into UPDATE, by rod as seen here, with the tick of their acceptance (R496, R504) -/
  upd     : Tri (Option Nat)
  rjData  : Tri Bool
  /-- record 0x0C14 written while the condition stands (R491) -/
  half    : Bool
  /-- tandem: frames held by holder, decision in force (active, epoch, the cycle it was received in) and the axes that have taken
  it, pending states -/
  wit     : Tri (Option WitFrame)
  tdDec   : Option (Nat × Nat × Nat)
  tdDone  : Tri Bool
  /-- the later tandem epoch of a copy that makes this module the standby one at the next outer-cycle tick (R666) -/
  tdLate  : Option Nat
  tdState : Tri (Option (List Word))
deriving DecidableEq, Repr

/-- Redundancy at reset. -/
def RedS.init : RedS :=
  { holds := false, epochs := Tri.rep none, judged := Tri.rep none, heard := Tri.rep none, shut := Tri.rep false,
    due := Tri.rep none, out := Tri.rep false, orders := Tri.rep false, copyIn := Tri.rep false,
    expect := Tri.rep false, tqBad := Tri.rep 0, tqLast := Tri.rep none, missing := Tri.rep 0, dqHeard := Tri.rep false,
    silent := Tri.rep false, tau := Tri.rep 0, rsum := Tri.rep 0, rticks := Tri.rep 0, rstale := Tri.rep false,
    rcount := Tri.rep 0, flag := Tri.rep false, amb := Tri.rep false,
    pflag := Tri.rep 0, slots := Tri.rep [], stale := [], cutFt := none, whole := false, consent := Tri.rep none,
    rjFt := 0, upd := Tri.rep none, rjData := Tri.rep false, half := false, wit := Tri.rep none, tdDec := none,
    tdDone := Tri.rep false, tdLate := none, tdState := Tri.rep none }

/-- A completion entry but for SQ_HEAD and PHASE (Table 6.4). -/
structure Cpl where
  cid    : Nat
  status : Nat
  kind   : Nat
  result : Nat
  irq    : Bool
deriving DecidableEq, Repr

/-- A command of a queue that is not yet completed (R199). -/
structure Cmd where
  desc   : Desc
  /-- started; its effect has begun (it holds its ranks and its channel) -/
  run    : Bool
  due    : Bool
  /-- bytes or samples done; bytes requested of the host, or written to it by a capture; data returned ahead of their turn by
  offset; data kept for forwarding, or in the staging buffer of a capture (R361) -/
  done   : Nat
  asked  : Nat
  got    : List (Nat × List Byte)
  buf    : List Byte
  /-- ranks the command itself took, as a mask, and the ranks it still waits for -/
  ranks  : Nat
  need   : Nat
  /-- tick number of the first sample of a capture, once begun; it takes no more samples (R361) -/
  from_  : Nat
  ended  : Bool
  /-- FT at which its effect began (R206) -/
  at_    : Nat
deriving DecidableEq, Repr

/-- A queue pair beyond its page (R192 to R203). -/
structure Qp where
  phase  : Bool
  cmds   : List Cmd
  held   : List Cpl
  /-- report ring: address, entries, next entry (Table 6.5) -/
  ring   : Option (Nat × Nat × Nat)
deriving DecidableEq, Repr

/-- A queue pair that is not enabled. -/
def Qp.init : Qp := { phase := true, cmds := [], held := [], ring := none }

/-- What the supervisor takes the ledger lock for: the revocation of contracts, and the proposal of a partner (R220, R222);
nothing any more, where the partner has cancelled its proposal. -/
inductive SupReq where
  | idle
  | degrade
  | proposal (src : RodId) (msg : AdmitProposal)
deriving DecidableEq, Repr

/-- The host port beyond its pages (R186 to R224). -/
structure HpS where
  qs     : Sparse Qp
  /-- the function is in D3hot (R189) -/
  d3     : Bool
  /-- commands that wait for or use each DMA channel, in order: queue and CID (R209) -/
  chans  : Sparse (List (Nat × Nat))
  /-- requests for ranks in order of arrival: rank and holder (R222) -/
  ranks  : List (Nat × Nat)
  /-- FT at which each rank was last taken (R223) -/
  since  : Sparse Nat
  /-- arbiter: requests pending at the last decision, those of the urgent class, and the requester last granted in the
  urgent and in the normal class (R215, R219) -/
  pend   : Nat
  urgent : Nat
  lastU  : Nat
  lastN  : Nat
  /-- the requester granted last, and the beats of its burst (R216) -/
  grant  : Option (Nat × Nat)
  /-- forwarded commands that wait for their FT: originating rod, queue, descriptor, bulk data (R205) -/
  fwd    : List (RodId × Nat × Desc × List Byte)
  /-- results of forwarded commands held back until a bank copy ends: originating rod, queue, CID, RESULT (R201, R296) -/
  owed   : List (RodId × Nat × BitVec 16 × Nat)
  /-- what the supervisor does once it gets the rank it waits for as holder 0x10 (R220, R222) -/
  sup    : List SupReq
  /-- configuration space and the MSI-X table, as written (R186) -/
  cfg    : Sparse Word
  bar2   : Sparse Word
deriving DecidableEq, Repr

/-- The host port at reset. -/
def HpS.init : HpS :=
  { qs := [], d3 := false, chans := [], ranks := [], since := [], pend := 0, urgent := 0, lastU := 27, lastN := 27, grant := none,
    fwd := [], owed := [], sup := [], cfg := [], bar2 := [] }

/-- An admission this rod has proposed and the partners have not all answered (R237). -/
structure Admit where
  index   : Nat
  queue   : Nat
  cid     : Nat
  irq     : Bool
  args    : ContractArgs
  bound   : Nat
  answers : Tri (Option AdmitAnswer)
  /-- the command has ended without it: its queue was disabled (R188) -/
  dead    : Bool
deriving DecidableEq, Repr

/-- A launch awaiting its agreement and its launch time (R471 to R475). -/
structure Launch where
  launch : Nat
  handle : Nat
  /-- the copies by rod, with the FT at which each was in hand -/
  copies : Tri (Option SetpointCopy)
  last   : Nat
  /-- the SETPOINT command that waits for it: queue, CID, whether it sets IRQ -/
  cmd    : Option (Nat × Nat × Bool)
  /-- a forwarded SETPOINT: the originating rod, queue and CID -/
  fwd    : Option (RodId × Nat × Nat)
deriving DecidableEq, Repr

/-- A copy that waits for capacity: the copy, the SETPOINT command or the forwarded one that brought it (R248). -/
structure Deferred where
  copy : SetpointCopy
  cmd  : Option (Nat × Nat × Bool)
  fwd  : Option (RodId × Nat × Nat)
deriving DecidableEq, Repr

/-- Contracts, set-points and reports of a rod (R229 to R261, R471 to R475). -/
structure CtS where
  ledger  : Sparse LedgerEntry
  gens    : Sparse Nat
  order   : Nat
  /-- own admissions awaiting answers; K0 contracts suspended; notice intervals running, oldest first (R249, R250) -/
  admits  : List Admit
  susp    : List Nat
  notices : List (List Nat)
  /-- forwarded bulk is suspended (R250); a cluster or channel is lost: bit 0 cluster, 1 channel A, 2 channel B -/
  bulkOff : Bool
  /-- launches not yet applied or discarded, in order of arrival -/
  wait    : List Launch
  /-- instances since the last record, by contract handle: minority (0x0C01) and late (0x0720) -/
  minor   : Sparse Nat
  lateN   : Sparse Nat
  single  : Bool
  /-- delivered instances by contract index; latches packed of a TRACE: FT of the first, values -/
  seqs    : Sparse Nat
  /-- best-effort values sent in this tick, and the copies that wait for capacity in the next one (R236, R248) -/
  spent   : Nat
  later   : List Deferred
  packs   : Sparse (Nat × List Word)
deriving DecidableEq, Repr

/-- Contracts at reset. -/
def CtS.init : CtS :=
  { ledger := [], gens := [], order := 0, admits := [], susp := [], notices := [], bulkOff := false, wait := [],
    minor := [], lateN := [], single := false, seqs := [], spent := 0, later := [], packs := [] }

/-- The FlexRay controller beyond its pages (R140 to R180). -/
structure FrS where
  /-- MB_CFG of each buffer as it works in the running cycle (R152); data last sent, by buffer; buffers with data -/
  cfg     : Sparse Word
  last    : Sparse (List Word)
  /-- the communication cycle, not wrapped; valid frames seen in it on A and on B; consecutive cycles without one -/
  cyc     : Nat
  seenA   : Bool
  seenB   : Bool
  quietA  : Nat
  quietB  : Nat
  /-- consecutive cycles with valid frames, toward BACK; FT of the loss (R178, R179) -/
  good    : Nat
  lostFt  : Nat
  /-- cycle of the last record 0x0630 per channel, and slot of the last violation (R171) -/
  sbvA    : Option Nat
  sbvB    : Option Nat
  /-- pairs of buffers whose conflict is recorded (R154) -/
  conf    : List (Nat × Nat)
  /-- symbols to send in the symbol window of the next cycle: MTS on A, MTS on B, WUDOP (R177) -/
  mtsA    : Bool
  mtsB    : Bool
  wudop   : Bool
  /-- a wakeup pattern is being sent, until the time `wakeEnd` since power-on (R175); successful double cycles toward normal active
  (R173) -/
  waking  : Bool
  wakeEnd : Nat
  p2a     : Nat
  /-- returned to POC ready by a key slot clash (R168); coldstart attempts in progress and made since RUN -/
  clash   : Bool
  trying  : Bool
  tries   : Nat
  /-- the cycle from which a coldstart node that integrates on another one sends its own startup frames (Table 5.3) -/
  join    : Option Nat
  /-- time since power-on of the start of the running cycle, in steps (FR_CNT.MT) -/
  start   : Nat
  /-- channel-silent records in force: A, B -/
  silA    : Bool
  silB    : Bool
deriving DecidableEq, Repr

/-- The FlexRay controller at reset. -/
def FrS.init : FrS :=
  { cfg := [], last := [], cyc := 0, seenA := false, seenB := false, quietA := 0, quietB := 0, good := 0, lostFt := 0,
    sbvA := none, sbvB := none, conf := [], mtsA := false, mtsB := false, wudop := false, waking := false, wakeEnd := 0, p2a := 0,
    clash := false, trying := false, tries := 0, join := none, start := 0, silA := false, silB := false }

/-- The security engine between resets (R611 to R640). -/
structure SecS where
  /-- staging area; password bytes written, by word; challenge -/
  staged  : List Byte
  pw      : Sparse Word
  chal    : List Word
  /-- a password check runs, and the bytes in check are a password (R631) -/
  check   : Bool
  pwForm  : Bool
  /-- FT of the last RWL write or SEC_CMD, and of the last CHALLENGE (R633, R634) -/
  useFt   : Nat
  chalFt  : Nat
  /-- the update in progress: type, FT of entry; request pending: its type and tick (R636) -/
  upd     : Option (Nat × Nat)
  req     : Option (Nat × Nat)
  /-- partners whose UID is not in the module certificate (R625) -/
  alien   : Tri Bool
deriving DecidableEq, Repr

/-- The security engine at reset. -/
def SecS.init : SecS :=
  { staged := [], pw := [], chal := [], check := false, pwForm := false, useFt := 0, chalFt := 0, upd := none, req := none,
    alien := Tri.rep false }

/-- What OTP and flash hold of the security engine through every reset (R617 to R634): rollback counters, key slots,
slot state, wrap generation, password verifier and failures, attestation index, and whether its refusal is recorded. -/
structure Otp where
  rb      : Sparse Nat
  keys    : Sparse (List Byte)
  slots   : Nat
  wrap    : Nat
  pwSet   : Bool
  fails   : Nat
  hss     : Nat
  empty   : Bool
  lockEnd : Option Nat
  /-- active flash slot of image types 1 to 3 (R616) -/
  bank    : Tri Nat
deriving DecidableEq, Repr

/-- OTP and flash as first powered: nothing provisioned. (DESIGN CHOICE, log entry 4) -/
def Otp.init : Otp :=
  { rb := [], keys := [], slots := 0, wrap := 0, pwSet := false, fails := 0, hss := 0, empty := false, lockEnd := none,
    bank := Tri.rep 0 }

/-- An event register of VAON (R580, R595): record code, two DATA bytes, and the steps of 12.5 ns from the event to the release of
reset, which `run` shows to be still counting. (DEDUCED, log entry 12) -/
structure AonEvt where
  code  : Nat
  b0    : Nat
  b1    : Nat
  steps : Nat
  run   : Bool
deriving DecidableEq, Repr

/-- What VAON holds through every reset: the clock event registers (R580) and the supply event whose record is owed (R595), the
wake port and a held wake source (R600, R603 to R605). -/
structure Aon where
  clkEvts : List AonEvt
  supEvt  : Option AonEvt
  /-- the core switch is open (DORMANT) -/
  coreOff : Bool
  heldSrc : Option Nat
  /-- what step 4 of the bring-up writes to LAST_WAKE: the source of a wake, and the cause of a stop (R607) -/
  nextSrc  : Option Nat
  nextShut : Option Nat
  /-- wake port: pointer, a transfer runs, WK_STAT and LAST_WAKE as they stood when it began, WK_ERR -/
  pointer : Nat
  xfer    : Bool
  wkStat  : Nat
  wkErr   : Nat
  wkLast  : Word
  /-- a wake event was seen and the link is not yet in L0 (R601) -/
  pewake  : Bool
deriving DecidableEq, Repr

/-- AON as VAON rises. -/
def Aon.init : Aon :=
  { clkEvts := [], supEvt := none, coreOff := false, heldSrc := none, nextSrc := none, nextShut := none, pointer := 0,
    xfer := false, wkStat := 0, wkErr := 0, wkLast := 1#32, pewake := true }

/-- The clock unit beyond its page: power-on reset released and crystal started, settle delay ended (R570), a measurement of
CLK_MEAS_SEL running, the record of the bring-up still owed (R607), and the time since power-on, wake or the last reset in steps
of 12.5 ns (R108). (DESIGN CHOICE, log entry 8) -/
structure ClkS where
  started : Bool
  settled : Bool
  meas    : Bool
  owed    : Bool
  up      : Nat
deriving DecidableEq, Repr

/-- The clock unit at reset. -/
def ClkS.init : ClkS := { started := false, settled := false, meas := false, owed := false, up := 0 }

/-- One column of the Reckoner beyond its page (R264, R270, R315, R323): BUSY, TRIG and PC are in COL_STAT. -/
structure Col where
  /-- value registers and accumulators, unlisted 0 -/
  v       : Sparse Word
  acc     : Sparse Int
  /-- RCK cycle of the tick at which the next instruction issues, and cycles used by the block (R269, R313) -/
  cyc     : Nat
  used    : Nat
  /-- REPEAT in progress: address of the body, its length, passes still to come after this one, first pass (R323) -/
  rep     : Option (Nat × Nat × Nat × Bool)
  /-- triggers that wait for the running block, in START order (R270) -/
  waiting : List Nat
  /-- coefficient bank, and table banks per axis, active when the block started (R294) -/
  coefB   : Nat
  tblB    : Tri Nat
  /-- source, axis and tick of the running block, and cycle 0 of that tick in RCK cycles since the rod reset -/
  src     : Nat
  axis    : Nat
  tick    : Nat
  base    : Nat
deriving DecidableEq, Repr

/-- A column with nothing loaded and nothing running. -/
def Col.init : Col :=
  { v := [], acc := [], cyc := 0, used := 0, rep := none, waiting := [], coefB := 0, tblB := Tri.rep 0, src := 0,
    axis := 0, tick := 0, base := 0 }

/-- A tally being formed (R527): the signature over the cycles of the window before `at_`, and the events of that cycle. -/
structure Misr where
  sig : DWord
  at_ : Nat
  evs : List LsEvent
deriving DecidableEq, Repr

/-- A tally at the start of its window. -/
def Misr.init : Misr := { sig := 0#64, at_ := 0, evs := [] }

/-- One copy of a column (R521): its registers and accumulators, COL_STAT and COL_FLAGS, and its tally. -/
structure Copy where
  col   : Col
  stat  : Word
  flags : Word
  sum   : Misr
deriving DecidableEq, Repr

/-- A copy with nothing loaded and nothing running. -/
def Copy.init : Copy := { col := Col.init, stat := 0#32, flags := 0#32, sum := Misr.init }

/-- Lockstep beyond its page (R521 to R537). -/
structure LsS where
  /-- main tally of the last window and its number, by pair; the alternate test pattern is next; FT of the last test window (R532) -/
  tally   : Sparse DWord
  win     : Sparse Nat
  alt     : Bool
  testAt  : Option Nat
  /-- tallies of the columns in the running window, by pair, and the RCK cycle since the rod reset at which that window began -/
  sums    : Sparse Misr
  from_   : Sparse Nat
  /-- the shadow columns, and what is in their delay stages: what the values that the main copy has taken make of the shadow copy,
  with the cycle at which they reach it (R266, R523, R524) -/
  shad    : Sparse Copy
  stage   : Sparse (List (Nat × Copy))
deriving DecidableEq, Repr

/-- Lockstep at reset. -/
def LsS.init : LsS := { tally := [], win := [], alt := false, testAt := none, sums := [], from_ := [], shad := [], stage := [] }

/-- One entry of the loop table of the image in force (Table 9.6). -/
structure Loop where
  id       : Nat
  src      : Nat
  axis     : Nat
  entry    : Nat
  wcet     : Nat
  earliest : Nat
  latest   : Nat
deriving DecidableEq, Repr

/-- A test injection in progress (R353 to R357). -/
structure Inj where
  k     : Nat
  len   : Nat
  phi   : Nat
  inc0  : Nat
  inc1  : Nat
  lfsr  : Nat
  bit   : Bool
  mask  : Nat
  lead  : RodId
  /-- the target, Table 10.7 -/
  tgt   : Nat
  stop  : Bool
  off   : Bool
deriving DecidableEq, Repr

/-- The Reckoner and the axis functions beyond their pages. -/
structure RkS where
  /-- signal memory, program store, coefficients (bank · 4,096 + address), tables and curves
  ((kind · 3 + axis) · 2 + bank) · 4,096 + index, kind 0 friction, 1 cogging, 2 curve), trace buffer by word -/
  sig     : Sparse Word
  prog    : Sparse DWord
  coef    : Sparse DWord
  tbl     : Sparse Word
  trace   : Sparse Word
  /-- signal memory as the last tick left it whose computations had finished when the next one began (R134) -/
  fin     : Sparse Word
  traceRestart : Bool
  /-- the last record ended at the very end of the buffer in MODE STOP (R301) -/
  traceEnd : Bool
  cols    : Sparse Col
  loops   : List Loop
  /-- banks the columns read (R294): coefficients, and per axis FRIC + 2 COG + 4 CRV -/
  actCoef : Nat
  actTbl  : Tri Nat
  /-- host writes to the coefficient window held during a copy, and the bank it copies (R296) -/
  coefQ   : List (Nat × DWord)
  coefSrc : Nat
  /-- cycle 0 of the tick in RCK cycles since the rod reset (R269) -/
  cyc0    : Nat
  /-- triggers fired in this tick, and writes of this tick: word, RCK cycle, column or 4 for the hardware, value before (R283,
  R284) -/
  fired   : List Nat
  wlog    : List (Nat × Nat × Nat × Word)
  /-- pending torque exchange copy per axis, by word 0 to 15, and whether it is whole (R289) -/
  pend    : Tri (Sparse Word)
  ready   : Tri Bool
  /-- the pending copy is the first of a switch-over: the old lead (R493) -/
  swRun   : Tri (Option RodId)
  swCopy  : Tri (Option RodId)
  /-- hidden dq copies of this tick, own frame sent, window closed (R25, R287, R288) -/
  hid     : Tri (Option DqFrame)
  dqSent  : Bool
  dqOpen  : Bool
  /-- an overrun of the axis in this tick (R273) -/
  ovr     : Tri Bool
  /-- SET_ON of the own sets, the value the healthy mask uses, FT of the last change (R343); the same of the sets the partners
  report (by rod, by axis); partners removed from the mask under R26 -/
  setOn   : Tri Bool
  setEff  : Tri Bool
  setFt   : Tri Nat
  pSet    : Tri (Tri Bool)
  pEff    : Tri (Tri Bool)
  pFt     : Tri (Tri Nat)
  dqOut   : Tri Bool
  /-- cause with which each partner's sets last left (R364) -/
  gone    : Tri Nat
  drvFlt  : Tri Bool
  fbkFlt  : Tri Bool
  inj     : Tri (Option Inj)
  /-- ID_REF of the copy in force and POS_REF as launched, as the safety monitor limits it, before an injected value (R354, R358) -/
  idBase  : Tri Word
  posRaw  : Tri Word
  /-- lead in force of each axis (R30, R492) -/
  lead    : Tri RodId
deriving DecidableEq, Repr

/-- The Reckoner at reset (SET_ON 1: R672). (DESIGN CHOICE, log entry 5) -/
def RkS.init : RkS :=
  { sig := [], prog := [], coef := [], tbl := [], trace := [], fin := [], traceRestart := false, traceEnd := false, cols := [],
    loops := [],
    actCoef := 0, actTbl := Tri.rep 0, coefQ := [], coefSrc := 0, cyc0 := 0, fired := [], wlog := [], pend := Tri.rep [],
    ready := Tri.rep false,
    swRun := Tri.rep none, swCopy := Tri.rep none, hid := Tri.rep none, dqSent := false, dqOpen := false,
    ovr := Tri.rep false, setOn := Tri.rep true, setEff := Tri.rep true, setFt := Tri.rep 0,
    pSet := Tri.rep (Tri.rep true), pEff := Tri.rep (Tri.rep true), pFt := Tri.rep (Tri.rep 0), dqOut := Tri.rep false,
    gone := Tri.rep 2, drvFlt := Tri.rep false,
    fbkFlt := Tri.rep false, inj := Tri.rep none, idBase := Tri.rep 0#32,
    posRaw := Tri.rep 0#32, lead := ⟨.x, .y, .z⟩ }

/-- One rod. -/
structure Rod where
  me       : RodId
  /-- FT, as the number of 12.5 ns steps (R9) -/
  ftn      : Nat
  /-- registers by BAR0 offset, shadows written since the last commit or rejection, upper halves captured by a read of
  a lower half (R7), lower halves written and waiting (R8) -/
  regs     : Sparse Word
  shadow   : Sparse Word
  hiCap    : Sparse Word
  loPend   : Sparse Word
  /-- pages with a MANUAL commit requested, and the FT of each armed AT_FT commit (R57, R58) -/
  cmtReq   : List Nat
  armed    : Sparse Nat
  /-- what the rod has sent, oldest first -/
  out      : List Out
  /-- pending bits of the MSI-X vectors (R186) -/
  pba      : DWord
  /-- number of free values drawn (the model's own: see Config.free) -/
  fresh    : Nat
  /-- records of the command in progress, in ascending code order (R39); empty between commands -/
  recBuf   : List FaultRec
  /-- fault log slots (R74), loss of an unacknowledged own record and its highest severity (R76), flash copy and the
  records awaiting it (R39) -/
  log      : Sparse FaultRec
  lost     : Bool
  lostSev  : Nat
  flash    : List FaultRec
  flPend   : List FaultRec
  tb       : TimeB
  md       : ModeS
  aon      : Aon
  ck       : ClkS
  hb       : Tri (Tri Hb)
  die      : Die
  pwm      : PwmS
  fb       : Tri Fb
  pmp      : Tri Pmp
  sf       : SafS
  red      : RedS
  hp       : HpS
  ct       : CtS
  fr       : FrS
  ls       : LsS
  sec      : SecS
  otp      : Otp
  /-- image slots: type 1 to 3 times 2 plus bank to the bytes of the image (R616) -/
  slots    : Sparse (List Byte)
  rk       : RkS
deriving DecidableEq, Repr

/-- A rod at power-on reset. (DESIGN CHOICE, log entries 3, 4) -/
def Rod.init (r : RodId) : Rod :=
  { me := r, ftn := 0, regs := [], shadow := [], hiCap := [], loPend := [], cmtReq := [], armed := [], out := [],
    pba := 0#64, fresh := 0, recBuf := [], log := [], lost := false, lostSev := 0, flash := [], flPend := [], tb := TimeB.init,
    md := ModeS.init, aon := Aon.init, ck := ClkS.init, hb := Tri.rep (Tri.rep Hb.init),
    die := Die.init, pwm := PwmS.init, fb := Tri.rep Fb.init,
    pmp := Tri.rep Pmp.init, sf := SafS.init, red := RedS.init, hp := HpS.init, ct := CtS.init, fr := FrS.init, ls := LsS.init,
    sec := SecS.init, otp := Otp.init,
    slots := [], rk := RkS.init }

/-- The module: its rods and the commands that wait, first in, first out. -/
structure State where
  x       : Rod
  y       : Rod
  z       : Rod
  pending : List Instr
deriving DecidableEq, Repr

/-- The module right after reset: every rod at power-on reset, no command waiting. -/
def State.reset : State :=
  { x := Rod.init .x, y := Rod.init .y, z := Rod.init .z, pending := [] }

end Sys2Proof.Machine
end

