-- ==== Sys2Proof/Machine/Endpoint.lean ====
section
/-! DEFINITION. The PCIe function of a rod (R186, R189, Table 6.1): its configuration space, and the MSI-X table and pending bits of
BAR2. The spec names what the function has and follows the PCIe base specification for where it stands; the places of the capabilities
are the model's. (PRESUMED, log entry 70) -/

namespace Sys2Proof.Machine

/-- Where the model puts BAR2 and configuration space beside the offsets of BAR0 in the address of an access.
(DESIGN CHOICE, log entry 82) -/
def bar2Base : Nat := 0x1000000
def cfgBase : Nat := 0x2000000

/-- A 32-bit register of configuration space: offset, value after reset, bits that a write reaches. -/
structure CfgRow where
  off   : Nat
  reset : Word
  rw    : Word
deriving DecidableEq, Repr

/-- Configuration space as far as Table 6.1 decides it: command, class code and BARs; power management without D1 and D2; PCI
Express with 256-byte payloads, FLR, Gen3 ×1 without ASPM, completion timeout ranges A and B with disable; MSI-X with 64 vectors,
table and pending bits in BAR2; AER without ECRC. Whatever is not listed reads 0: no further BAR, no expansion ROM, Interrupt Pin
0. (PRESUMED, log entry 70) -/
def cfgRows : List CfgRow :=
  [⟨0x04, 0x00100000#32, 0x00000146#32⟩, ⟨0x08, 0x11800000#32, 0#32⟩, ⟨0x0C, 0#32, 0xFF#32⟩,
   ⟨0x10, 0x00000004#32, 0xFF000000#32⟩, ⟨0x14, 0#32, 0xFFFFFFFF#32⟩, ⟨0x18, 0x00000004#32, 0xFFFFE000#32⟩,
   ⟨0x1C, 0#32, 0xFFFFFFFF#32⟩, ⟨0x34, 0x40#32, 0#32⟩, ⟨0x3C, 0#32, 0xFF#32⟩,
   ⟨0x40, 0x00035001#32, 0#32⟩, ⟨0x44, 0#32, 0#32⟩,
   ⟨0x50, 0x00029010#32, 0#32⟩, ⟨0x54, 0x10008021#32, 0#32⟩, ⟨0x58, 0x00002000#32, 0x000071EF#32⟩,
   ⟨0x5C, 0x00000013#32, 0#32⟩, ⟨0x60, 0#32, 0#32⟩, ⟨0x74, 0x00000013#32, 0#32⟩, ⟨0x78, 0#32, 0x1F#32⟩,
   ⟨0x7C, 0x0000000E#32, 0#32⟩, ⟨0x80, 0x00000003#32, 0x0000000F#32⟩,
   ⟨0x90, 0x003F0011#32, 0xC0000000#32⟩, ⟨0x94, 0x00000002#32, 0#32⟩, ⟨0x98, 0x00001002#32, 0#32⟩,
   ⟨0x100, 0x00020001#32, 0#32⟩]

def cfgRow (o : Nat) : CfgRow := (cfgRows.find? fun r => r.off == o).getD ⟨o, 0#32, 0#32⟩

/-- A word of configuration space as written. -/
def Rod.cfg (ρ : Rod) (o : Nat) : Word := Sparse.get (cfgRow o).reset ρ.hp.cfg o

/-- A word of configuration space as read: identity and revision, the power state, and the link as it is trained. -/
def Rod.cfgWord (ρ : Rod) (speed o : Nat) : Word :=
  if o = 0x00 then Config.pciId
  else if o = 0x08 then ρ.cfg o ||| Config.pciRev.setWidth 32
  else if o = 0x2C then Config.pciSubId
  else if o = 0x44 then (if ρ.hp.d3 then 3#32 else 0#32)
  else if o = 0x60 then BitVec.ofNat 32 (2 ^ 16 * (speed % 16) + 2 ^ 20)
  else ρ.cfg o

/-- The largest payload and the largest read request the function uses: the programmed sizes, at most 256 and 512 bytes (Table
6.1). -/
def Rod.maxPayload (ρ : Rod) : Nat := min 256 (128 * 2 ^ wBits (ρ.cfg 0x58) 5 3)
def Rod.maxRead (ρ : Rod) : Nat := min 512 (128 * 2 ^ wBits (ρ.cfg 0x58) 12 3)

/-! ### MSI-X -/

/-- Word `i` of entry `v` of the MSI-X table: address, its upper half, data, and vector control, masked after reset. -/
def bar2Reset (a : Nat) : Word := if a < 0x400 ∧ a % 16 = 12 then 1#32 else 0#32
def Rod.msixW (ρ : Rod) (v i : Nat) : Word := Sparse.get (bar2Reset (16 * v + 4 * i)) ρ.hp.bar2 (16 * v + 4 * i)

/-- Whether MSI-X is enabled, and whether a vector is masked. -/
def Rod.msixOn (ρ : Rod) : Bool := wBit (ρ.cfg 0x90) 31
def Rod.msixMasked (ρ : Rod) (v : Nat) : Bool := wBit (ρ.cfg 0x90) 30 || wBit (ρ.msixW v 3) 0

/-- A message on a vector: sent, or kept pending while it is masked; without MSI-X there is none (R186, R190). -/
def Rod.msix (ρ : Rod) (v : Nat) : Rod :=
  if ρ.msixOn = false then ρ
  else if ρ.msixMasked v then { ρ with pba := ρ.pba ||| BitVec.ofNat 64 (2 ^ v) }
  else { ρ with out := ρ.out ++ [.msix v ((ρ.msixW v 0).toNat + 2 ^ 32 * (ρ.msixW v 1).toNat) (ρ.msixW v 2)] }

/-- The pending messages that are no longer masked go out. -/
def Rod.msixRelease (ρ : Rod) : Rod :=
  (List.range 64).foldl (fun q v =>
    if q.pba.getLsbD v && q.msixOn && !q.msixMasked v then { q with pba := q.pba &&& ~~~BitVec.ofNat 64 (2 ^ v) }.msix v else q) ρ

/-- A 32-bit write of configuration space, by the bytes that `m` enables. -/
def Rod.cfgWrite (ρ : Rod) (o : Nat) (m v : Word) : Rod :=
  let r := cfgRow o
  let w := (ρ.cfg o &&& ~~~(r.rw &&& m)) ||| (v &&& r.rw &&& m)
  { ρ with hp := { ρ.hp with cfg := Sparse.set r.reset ρ.hp.cfg o w } }.msixRelease

/-- A 32-bit write of BAR2: the MSI-X table; the pending bits and what is reserved take no write. -/
def Rod.bar2Write (ρ : Rod) (a : Nat) (v : Word) : Rod :=
  let w := if a % 16 = 12 then v &&& 1#32 else if a % 16 = 0 then v &&& 0xFFFFFFFC#32 else v
  if a < 0x400 then { ρ with hp := { ρ.hp with bar2 := Sparse.set (bar2Reset a) ρ.hp.bar2 a w } }.msixRelease else ρ

/-- A 32-bit read of BAR2. -/
def Rod.bar2Read (ρ : Rod) (a : Nat) : Word :=
  if a < 0x400 then Sparse.get (bar2Reset a) ρ.hp.bar2 a
  else if a = 0x1000 then ρ.pba.setWidth 32 else if a = 0x1004 then (ρ.pba >>> 32).setWidth 32 else 0#32

end Sys2Proof.Machine
end

