-- ==== Sys2Proof/Machine/Ops.lean ====
section
/-! DEFINITION. The named operations over one rod that every block shares: reading and writing registers and fields,
interrupts (R51, R52), captured access errors (R55), fault records (R37, R39, R74 to R77), rod and mode predicates,
free values, and lifting an operation on one rod to the module. -/

namespace Sys2Proof.Machine

/-! ### Registers -/

/-- The stored word of the register at a BAR0 address. -/
def Rod.gw (ρ : Rod) (a : Nat) : Word := Sparse.get (regReset a) ρ.regs a

/-- Stores a word in the register at a BAR0 address. -/
def Rod.pw (ρ : Rod) (a : Nat) (v : Word) : Rod :=
  { ρ with regs := Sparse.set (regReset a) ρ.regs a v }

/-- The value of a field. -/
def Rod.g (ρ : Rod) (f : Fld) : Nat := wBits (ρ.gw f.addr) f.lo f.w

/-- Whether a one-bit field is 1. -/
def Rod.b (ρ : Rod) (f : Fld) : Bool := ρ.g f != 0

/-- Sets a field. (DESIGN CHOICE, log entry 62) -/
def Rod.p (ρ : Rod) (f : Fld) (v : Nat) : Rod := ρ.pw f.addr (wPut (ρ.gw f.addr) f.lo f.w v)

/-- Advances a count that saturates at the top of its field. -/
def Rod.inc (ρ : Rod) (f : Fld) : Rod := ρ.p f (satN (2 ^ f.w - 1) (ρ.g f + 1))

/-- Advances a count modulo the size of its field. -/
def Rod.incMod (ρ : Rod) (f : Fld) : Rod := ρ.p f (ρ.g f + 1)

/-- Sets bit `i` of a field. -/
def Rod.setBit (ρ : Rod) (f : Fld) (i : Nat) : Rod := ρ.p f (ρ.g f ||| 2 ^ i)

/-- Clears bit `i` of a field. -/
def Rod.clrBit (ρ : Rod) (f : Fld) (i : Nat) : Rod := ρ.p f (ρ.g f - (ρ.g f &&& 2 ^ i))

/-- Bit `i` of a field. -/
def Rod.bitOf (ρ : Rod) (f : Fld) (i : Nat) : Bool := (ρ.g f).testBit i

/-- Sends something out of the rod. (DESIGN CHOICE, log entry 16) -/
def Rod.send (ρ : Rod) (o : Out) : Rod := { ρ with out := ρ.out ++ [o] }

/-- Does something under a condition. (DESIGN CHOICE, log entry 15) -/
def Rod.when (ρ : Rod) (c : Bool) (f : Rod → Rod) : Rod := if c then f ρ else ρ

/-- Does something for each element of a list. -/
def Rod.each {α : Type} (ρ : Rod) (l : List α) (f : α → Rod → Rod) : Rod := l.foldl (fun r a => f a r) ρ

/-- FT in ns (R9): 12.5 ns a step, rounded down. -/
def Rod.ft (ρ : Rod) : Nat := 25 * ρ.ftn / 2

/-- The step of R9 at which FT first is `t` or more. (DEDUCED, log entry 18) -/
def ftnOf (t : Nat) : Nat := (2 * t + 24) / 25

/-- FT moves on to `t`, or stays where it already is past it. (DEDUCED, log entry 18) -/
def Rod.atFt (ρ : Rod) (t : Nat) : Rod :=
  { ρ with ftn := max ρ.ftn (ftnOf t), ck := { ρ.ck with up := ρ.ck.up + (ftnOf t - ρ.ftn) } }

/-- Draws a free value of `w` bits. (DESIGN CHOICE, log entry 7) -/
def Rod.free (ρ : Rod) (w : Nat) : Nat × Rod :=
  ((Config.free ρ.me ρ.fresh).toNat % 2 ^ w, { ρ with fresh := ρ.fresh + 1 })

/-! ### Interrupts -/

/-- PG_STAT.IRQ: the OR of all IRQ_PEND bits (R50, R51). -/
def Rod.irqOn (ρ : Rod) (p : Nat) : Bool := ρ.gw (Rg.IRQ_RAW p) &&& ρ.gw (Rg.IRQ_EN p) != 0#32

/-- The MSI-X vector of a page (Table 6.2). -/
def pageVector (p : Nat) : Nat := ((pageInfo p).map (·.vector)).getD 0

/-- Sends the page's MSI-X message unless MSG_OFF is 1 (R49, R52). -/
def Rod.pageMsg (ρ : Rod) (p : Nat) : Rod :=
  if ρ.b (Fl.PG_CTRL_MSG_OFF p) then ρ else ρ.msix (pageVector p)

/-- Sets IRQ_RAW bits of a page by an event; the message goes out when PG_STAT.IRQ rises (R52). -/
def Rod.irqMask (ρ : Rod) (p : Nat) (m : Word) : Rod :=
  let was := ρ.irqOn p
  let ρ' := ρ.pw (Rg.IRQ_RAW p) (ρ.gw (Rg.IRQ_RAW p) ||| m)
  if !was && ρ'.irqOn p then ρ'.pageMsg p else ρ'

/-- Sets one IRQ_RAW bit of a page by an event. -/
def Rod.irq (ρ : Rod) (p i : Nat) : Rod := ρ.irqMask p (BitVec.ofNat 32 (2 ^ i))

/-! ### Fault records -/

/-- Severities of Table 1.5. -/
def sevInfo : Nat := 0
def sevWarn : Nat := 1
def sevDegrade : Nat := 2
def sevWithdraw : Nat := 3
def sevSafe : Nat := 4

/-- Inserts a record behind those before it, but before those of the same FT step with a higher code (R39). -/
def insertRec (r : FaultRec) : List FaultRec → List FaultRec
  | [] => [r]
  | h :: t => if r.ft = h.ft ∧ r.code.toNat < h.code.toNat then r :: h :: t else h :: insertRec r t

/-- Detects a fault: a record with the FT in force, held until the command's records are written. Axis and phase 0xFF
where none applies. (DEDUCED, log entry 43) -/
def Rod.fltAP (ρ : Rod) (code sev page axis phase : Nat) (data : List (Nat × Nat × Nat)) : Rod :=
  let r : FaultRec :=
      { ft := BitVec.ofNat 64 ρ.ft, code := BitVec.ofNat 16 code, page := BitVec.ofNat 16 page,
        rod := BitVec.ofNat 8 ρ.me.code, axis := BitVec.ofNat 8 axis, phase := BitVec.ofNat 8 phase,
        sev := BitVec.ofNat 8 sev, data := recData data }
  { ρ with recBuf := insertRec r ρ.recBuf }

/-- A record to which no axis and no phase applies. -/
def Rod.flt (ρ : Rod) (code sev page : Nat) (data : List (Nat × Nat × Nat)) : Rod :=
  ρ.fltAP code sev page 0xFF 0xFF data

/-- A record of an axis. (DEDUCED, log entry 43) -/
def Rod.fltA (ρ : Rod) (code sev page : Nat) (axis : Axis) (data : List (Nat × Nat × Nat)) : Rod :=
  ρ.fltAP code sev page axis.val 0xFF data

/-- The AXIS byte of a record for an axis number: 0xFF where it names none (Table 1.5). (DEDUCED, log entry 43) -/
def axisByte (n : Nat) : Nat := if n < 3 then n else 0xFF

/-- How many records are not acknowledged, own and relayed (R75). -/
def Rod.outstanding (ρ : Rod) : Nat := (ρ.g Fl.FL_SEQ_SEQ + 2 ^ 32 - ρ.g Fl.FL_ACK_ACK) % 2 ^ 32

/-- The record that the next one overwrites unacknowledged in the SRAM log, if there is one (R76). -/
def Rod.logOver (ρ : Rod) : Option FaultRec :=
  let slot := ρ.g Fl.FL_SEQ_SEQ % 1024
  if ρ.outstanding ≥ 1024 then (ρ.log.find? fun e => e.1 == slot).map (·.2) else none

/-- Whether the next record overwrites an unacknowledged own record. -/
def Rod.logLoses (ρ : Rod) : Bool :=
  match ρ.logOver with
  | some o => o.rod == BitVec.ofNat 8 ρ.me.code
  | none => false

/-- Stores a record at the sequence number `seq`, or before the unacknowledged own records of the same FT step with a higher code,
which move up by one; at most `n` of them (R39, R74). -/
def placeRec (me : RodId) (r : FaultRec) : Nat → Nat → Sparse FaultRec → Sparse FaultRec
  | 0, seq, l => Sparse.put l (seq % 1024) r
  | n + 1, seq, l =>
    match l.find? fun e => e.1 == (seq + 2 ^ 32 - 1) % 1024 with
    | none => Sparse.put l (seq % 1024) r
    | some e =>
      if e.2.rod = BitVec.ofNat 8 me.code ∧ e.2.ft = r.ft ∧ r.code.toNat < e.2.code.toNat then
        placeRec me r n (seq + 2 ^ 32 - 1) (Sparse.put l (seq % 1024) e.2)
      else Sparse.put l (seq % 1024) r

/-- Stores a record in the SRAM log and advances SEQ (R39, R74); the flash queue takes an own record of severity DEGRADE and above
(R39). -/
def Rod.logStore (ρ : Rod) (r : FaultRec) (own : Bool) : Rod :=
  ({ ρ with log := if own then placeRec ρ.me r (min ρ.outstanding 1023) (ρ.g Fl.FL_SEQ_SEQ) ρ.log
                   else Sparse.put ρ.log (ρ.g Fl.FL_SEQ_SEQ % 1024) r
            lost := ρ.lost || ρ.logLoses
            lostSev := if ρ.logLoses then max ρ.lostSev ((ρ.logOver.map (·.sev.toNat)).getD 0) else ρ.lostSev
            flPend := if own && decide (sevDegrade ≤ r.sev.toNat) then insertRec r ρ.flPend else ρ.flPend } : Rod).incMod
    Fl.FL_SEQ_SEQ

/-- The message of a record's severity, where FAULT_IRQ enables it (R77, Table 6.2). -/
def Rod.sevMsg (ρ : Rod) (sev : Nat) (own : Bool) : Rod :=
  ρ.when (ρ.bitOf (if own then Fl.FAULT_IRQ_OWN_EN else Fl.FAULT_IRQ_RELAY_EN) sev)
    (·.msix ((if own then 48 else 53) + sev))

/-- Writes one record to the SRAM log (R74) with the interrupt, message and flash queue that follow (R39, R77, R191).
`own` is false for a relayed record of a partner. -/
def Rod.writeRec (ρ : Rod) (r : FaultRec) (own : Bool) : Rod :=
  ((((ρ.logStore r own).when (ρ.logLoses && !ρ.lost) (·.irq 0x0D0 1)).when own (·.irq 0x0D0 0)).sevMsg r.sev.toNat own).when own
    (·.send (.record r))

/-- Writes the records of the command in progress. -/
def Rod.flush (ρ : Rod) : Rod :=
  ({ ρ with recBuf := [] }).each ρ.recBuf (fun r q => q.writeRec r true)

/-- The own unacknowledged records held in the log (R76). -/
def Rod.unacked (ρ : Rod) : List FaultRec :=
  let n := min ρ.outstanding 1024
  let seq := ρ.g Fl.FL_SEQ_SEQ
  (ρ.log.filter fun e => decide ((seq + 2 ^ 32 - 1 - e.1) % 1024 < n) && e.2.rod == BitVec.ofNat 8 ρ.me.code).map (·.2)

/-- FL_UNACK.ANY, .MAXSEV and .COUNT (R76). -/
def Rod.flAny (ρ : Rod) : Bool := !ρ.unacked.isEmpty || ρ.lost

def Rod.flMaxSev (ρ : Rod) : Nat :=
  (ρ.unacked.map (·.sev.toNat)).foldl max (if ρ.lost then ρ.lostSev else 0)

def Rod.flCount (ρ : Rod) : Nat := satN 0xFFFF ρ.unacked.length

/-! ### Captured access errors -/

/-- Captures an access error in ERRCAP_0 and ERRCAP_1 of a page (R55), with the record of ERR_LOG (R49, Table 2.13).
(DESIGN CHOICE, log entry 64) -/
def Rod.errCap (ρ : Rod) (p type path off : Nat) (data : Word) : Rod :=
  if ρ.b (Fl.ERRCAP_0_VALID p) then ρ.p (Fl.ERRCAP_0_OVERFLOW p) 1
  else
    let ρ1 := (((((ρ.p (Fl.ERRCAP_0_VALID p) 1).p (Fl.ERRCAP_0_OVERFLOW p) 0).p (Fl.ERRCAP_0_TYPE p) type).p
      (Fl.ERRCAP_0_PATH p) path).p (Fl.ERRCAP_0_OFFSET p) off).p (Fl.ERRCAP_1_DATA p) data.toNat
    let ρ2 := ρ1.irq p 31
    ρ2.when (ρ2.b (Fl.PG_CTRL_ERR_LOG p)) fun r =>
      r.flt 0x01F9 sevInfo p [(0, 4, (r.gw (Rg.ERRCAP_0 p)).toNat), (4, 4, data.toNat)]

/-! ### Rod states and modes -/

/-- Codes of Table 3.2. -/
def RS.off : Nat := 0
def RS.boot : Nat := 1
def RS.sync : Nat := 2
def RS.ready : Nat := 3
def RS.active : Nat := 4
def RS.fenced : Nat := 5
def RS.rejoin : Nat := 6
def RS.update : Nat := 7

/-- Codes of Table 3.1. -/
def SM.dormant : Nat := 0
def SM.standby : Nat := 1
def SM.arming : Nat := 2
def SM.operate : Nat := 3
def SM.limp : Nat := 4
def SM.safe : Nat := 5

/-- The entry of ROD_STATE for a rod (R108). -/
def rodStateF (r : RodId) : Fld := ⟨0x001, 0x4C, 4 * r.code, 4⟩

/-- The state of a rod as this rod sees it (R82). -/
def Rod.seen (ρ : Rod) (r : RodId) : Nat := ρ.g (rodStateF r)

/-- The rod's own state. -/
def Rod.state (ρ : Rod) : Nat := ρ.seen ρ.me

/-- The system mode in force. -/
def Rod.mode (ρ : Rod) : Nat := ρ.g Fl.SYS_MODE_MODE

/-- Shows a rod in a state; a change raises ROD_CHG (R109). (DEDUCED, log entry 27) -/
def Rod.setSeen (ρ : Rod) (r : RodId) (st : Nat) : Rod :=
  if ρ.seen r = st then ρ else (ρ.p (rodStateF r) st).irq 0x001 4

/-- Enters a rod state. -/
def Rod.enter (ρ : Rod) (st : Nat) : Rod := ρ.setSeen ρ.me st

/-- Rod states in service: READY, ACTIVE, REJOIN, UPDATE. -/
def RS.serving (st : Nat) : Bool := st == RS.ready || st == RS.active || st == RS.rejoin || st == RS.update

/-- Ticks run in READY, ACTIVE, FENCED, REJOIN and UPDATE (R57, R114, R129). -/
def Rod.ticksRun (ρ : Rod) : Bool := decide (RS.ready ≤ ρ.state)

/-- The first or second partner of a rod (Table 6.7). -/
def linkNo (me r : RodId) : Nat := if me.partners.head? = some r then 0 else 1

/-- Whether the own link to a partner is up (CR_STAT). -/
def Rod.linkUp (ρ : Rod) (r : RodId) : Bool :=
  if linkNo ρ.me r = 0 then ρ.b Fl.CR_STAT_LINK_1 else ρ.b Fl.CR_STAT_LINK_2

/-- Whether a partner can be reached, directly or through the third rod (R481). -/
def Rod.reach (ρ : Rod) (r : RodId) : Bool := r == ρ.me || ρ.b Fl.CR_STAT_LINK_1 || ρ.b Fl.CR_STAT_LINK_2

/-- Whether a rod is live in this view: in service, and reachable. -/
def Rod.live (ρ : Rod) (r : RodId) : Bool := RS.serving (ρ.seen r) && ρ.reach r

/-- The live rods, as a list. -/
def Rod.liveRods (ρ : Rod) : List RodId := allRods.filter ρ.live

/-- A mask with bit `code` of each rod of a list. -/
def rodMask (l : List RodId) : Nat := l.foldl (fun m r => m ||| 2 ^ r.code) 0

/-- X_OK (R92). -/
def Rod.okPin (ρ : Rod) : Bool :=
  RS.serving ρ.state && ρ.mode != SM.safe && ρ.mode != SM.dormant && !ρ.md.hold

/-- X_FAULT_N high (R92). -/
def Rod.faultPin (ρ : Rod) : Bool :=
  RS.serving ρ.state && !(ρ.flAny && decide (sevWithdraw ≤ ρ.flMaxSev)) && !ρ.md.hold

/-- The tick number (Table 8.5). -/
def Rod.tick (ρ : Rod) : Nat := ρ.g Fl.RK_TICK_TICK

/-- The PWM period in force in ns (R126, R437: page 0x090 sets it). -/
def Rod.period (ρ : Rod) : Nat := ρ.g (Fl.DRV_PWM_PERIOD 0) * 25 / 4

/-- Fences the rod without a notice of its own: on orders of both partners, on a later epoch (R488, R497). In ARMING it stays out
until OPERATE is reached (R96). -/
def Rod.fence (ρ : Rod) : Rod :=
  ({ ρ with md := { ρ.md with dis := true, park := false, armFenced := ρ.md.armFenced || ρ.mode == SM.arming } }).enter RS.fenced

/-- Withdraws the rod for a self-detected fault: DIS, FENCED, and the withdrawal notice (Tables 3.3 and 14.1). -/
def Rod.withdraw (ρ : Rod) : Rod :=
  if RS.serving ρ.state then ρ.fence.send (.withdrawn (BitVec.ofNat 32 ρ.tick)) else ρ

/-- Withdraws the rod for a fault of its logic die: its FlexRay balls go to high impedance as well (R151). -/
def Rod.withdrawDie (ρ : Rod) : Rod :=
  if RS.serving ρ.state then ({ ρ with md := { ρ.md with txOff := true } }).withdraw else ρ

/-! ### Lifting to the module -/

/-- The rod of a name. -/
def State.rod (s : State) : RodId → Rod
  | .x => s.x
  | .y => s.y
  | .z => s.z

/-- The module with one rod replaced. -/
def State.putRod (s : State) : RodId → Rod → State
  | .x, ρ => { s with x := ρ }
  | .y, ρ => { s with y := ρ }
  | .z, ρ => { s with z := ρ }

/-- The next state in which one rod has done `f` and written its records. (DESIGN CHOICE, log entry 15) -/
def onRod (s : State) (r : RodId) (f : Rod → Rod) : Host.Outcome State Fault Refusal :=
  .next (s.putRod r (f (s.rod r)).flush)

end Sys2Proof.Machine
end

