-- ==== Sys2Proof/Machine/Reckoner.lean ====
section
/-! DEFINITION. The Reckoner (spec/08_reckoner.md): signal memory and its protection, columns, triggers and blocks,
overruns, coefficient and table banks, the dq slots and the trace buffer. -/

namespace Sys2Proof.Machine

/-! ### Signal memory -/

/-- A word of signal memory. -/
def Rod.sg (ρ : Rod) (w : Nat) : Word := Sparse.get 0#32 ρ.rk.sig (w % 16384)

/-- Writes a word of signal memory. -/
def Rod.sp (ρ : Rod) (w : Nat) (v : Word) : Rod :=
  { ρ with rk := { ρ.rk with sig := Sparse.set 0#32 ρ.rk.sig (w % 16384) v } }

/-- Axis input i of axis n (Table 8.2). -/
def inputW (n i : Nat) : Nat := 0x0080 + 0x40 * n + i

/-- Word w of the dq slot of rod r (Table 8.4). -/
def slotW (r : RodId) (w : Nat) : Nat := 0x0200 + 0x20 * r.code + w

/-- Word w of the torque exchange area of axis n (R344). -/
def torqueW (n w : Nat) : Nat := 0x0280 + 0x10 * n + w

/-- Word w of the outer-loop state region of axis n (Table 8.2). -/
def stateW (n w : Nat) : Nat := 0x0400 + 0x80 * n + w

/-- Whether the rod leads an axis. -/
def Rod.leads (ρ : Rod) (n : Axis) : Bool := ρ.rk.lead.get n == ρ.me

/-- The axis a number names (0 to 2). -/
def axisOf (n : Nat) : Axis := if n % 3 = 0 then 0 else if n % 3 = 1 then 1 else 2

/-- Whether a column may write a word (R280, R281, R290, R344, Table 8.2). -/
def Rod.colMayWrite (ρ : Rod) (w : Nat) (v : Word) : Bool :=
  if 0x0800 ≤ w then true
  else if 0x0140 ≤ w ∧ w ≤ 0x01FF then true
  else if slotW ρ.me 0 ≤ w ∧ w ≤ slotW ρ.me 31 then true
  else if 0x0280 ≤ w ∧ w ≤ 0x02AF then
    ρ.leads (axisOf ((w - 0x280) / 16)) && ((w - 0x280) % 16 == 3 || (w - 0x280) % 16 == 4 || decide (8 ≤ (w - 0x280) % 16))
  else if 0x0300 ≤ w ∧ w ≤ 0x0308 then wBits v 24 8 == 0
  else if 0x0400 ≤ w ∧ w ≤ 0x057F then ρ.leads (axisOf ((w - 0x400) / 0x80))
  else false

/-! ### Half-bridges and duties -/

/-- A half-bridge. -/
def Rod.half (ρ : Rod) (n : Axis) (p : Phase) : Hb := (ρ.hb.get n).get p

/-- Replaces a half-bridge. -/
def Rod.putHalf (ρ : Rod) (n : Axis) (p : Phase) (h : Hb) : Rod :=
  { ρ with hb := ρ.hb.set n ((ρ.hb.get n).set p h) }

/-! ### Columns -/

/-- A column's state. -/
def Rod.col (ρ : Rod) (c : Fin 4) : Col := Sparse.get Col.init ρ.rk.cols c.val

/-- Replaces a column's state. -/
def Rod.putCol (ρ : Rod) (c : Fin 4) (k : Col) : Rod :=
  { ρ with rk := { ρ.rk with cols := Sparse.set Col.init ρ.rk.cols c.val k } }

/-- The page of a column. -/
def colPage (c : Fin 4) : Nat := 0x061 + c.val

def Rod.pcOf (ρ : Rod) (c : Fin 4) : Nat := ρ.g (Fl.COL_STAT_PC c.val)

/-! ### Tallies and shadow columns (R266, R521 to R527) -/

/-- One cycle of a tally: the register shifts with the feedback x^64 + x^4 + x^3 + x + 1 and takes its input word (R527).
(DESIGN CHOICE, log entry 60) -/
def misrStep (s i : DWord) : DWord := ((s <<< 1) ^^^ (if s.msb then 0x1B#64 else 0#64)) ^^^ i

/-- Cycles without an event. -/
def misrIdle : Nat → DWord → DWord
  | 0, s => s
  | n + 1, s => misrIdle n (misrStep s 0#64)

/-- The input word of a cycle: 0 without an event. (DESIGN CHOICE, log entry 60) -/
def lsInput (evs : List LsEvent) : DWord := if evs.isEmpty then 0#64 else Config.lsFold evs

/-- The tally moves on to a later cycle of its window. -/
def Misr.upTo (m : Misr) (n : Nat) : Misr :=
  if n ≤ m.at_ then m
  else if m.evs.isEmpty = true ∧ m.sig = 0#64 then { m with at_ := n }
  else { sig := misrIdle (n - m.at_ - 1) (misrStep m.sig (lsInput m.evs)), at_ := n, evs := [] }

/-- Events of a cycle of the window; a cycle past its end counts as the last one. (DESIGN CHOICE, log entry 60) -/
def Misr.add (m : Misr) (n : Nat) (evs : List LsEvent) : Misr :=
  let m' := m.upTo (min 1023 n)
  { m' with evs := m'.evs ++ evs }

/-- The tally of the whole window (R527, R528). -/
def Misr.total (m : Misr) : DWord := (m.upTo 1024).sig

/-- The cycles an instruction takes (Table 9.2). -/
def instrCycles (opc : Nat) : Nat :=
  if opc = 0x27 then 2 else if opc = 0x30 then 4 else if opc = 0x31 ∨ opc = 0x32 then 3 else if opc = 0x33 then 8
  else if 0x38 ≤ opc ∧ opc ≤ 0x3C then 2 else 1

/-- The cycle a column has reached, in RCK cycles since the rod reset, and the last cycle of the instruction at its PC. -/
def Rod.nowOf (ρ : Rod) (c : Fin 4) : Nat := (ρ.col c).base + (ρ.col c).cyc

def Rod.lastOf (ρ : Rod) (c : Fin 4) : Nat :=
  ρ.nowOf c + (instrCycles ((Sparse.get 0#64 ρ.rk.prog (ρ.pcOf c)).toNat / 2 ^ 56) - 1)

/-- An event of a column in a cycle goes into its tally (R525). -/
def Rod.note (ρ : Rod) (c : Fin 4) (t : Nat) (e : LsEvent) : Rod :=
  let p := c.val + 1
  { ρ with ls := { ρ.ls with
      sums := Sparse.put ρ.ls.sums p ((Sparse.get Misr.init ρ.ls.sums p).add (t - Sparse.get 0 ρ.ls.from_ p) [e]) } }

/-- A column as a copy of a lockstep pair. -/
def Rod.copyOf (ρ : Rod) (c : Fin 4) : Copy :=
  { col := ρ.col c, stat := ρ.gw (Rg.COL_STAT c.val), flags := ρ.gw (Rg.COL_FLAGS c.val),
    sum := Sparse.get Misr.init ρ.ls.sums (c.val + 1) }

/-- What the shadow column comes to with all that its delay stage holds. -/
def Rod.shadowOf (ρ : Rod) (c : Fin 4) : Copy :=
  match (Sparse.get [] ρ.ls.stage c.val).getLast? with
  | some e => e.2
  | none => Sparse.get Copy.init ρ.ls.shad c.val

/-- The four columns. -/
def allCols : List (Fin 4) := [0, 1, 2, 3]

/-- The rod as the shadow columns take it: the values from outside are those the main columns take in this cycle (R523), the
registers, flags and tallies their own. -/
def Rod.shadowView (ρ : Rod) : Rod :=
  ρ.each allCols fun c q =>
    let k := ρ.shadowOf c
    let q1 := ((q.putCol c k.col).pw (Rg.COL_STAT c.val) k.stat).pw (Rg.COL_FLAGS c.val) k.flags
    { q1 with ls := { q1.ls with sums := Sparse.put q1.ls.sums (c.val + 1) k.sum } }

/-- What has been in the delay stage of a column for two cycles reaches its shadow (R523); `k`, where there is one, enters the
stage. -/
def LsS.shift (l : LsS) (c now : Nat) (k : Option (Nat × Copy)) : LsS :=
  let st := Sparse.get [] l.stage c
  { l with
    shad := match (st.filter fun e => decide (e.1 ≤ now)).getLast? with
      | some e => Sparse.put l.shad c e.2
      | none => l.shad
    stage := Sparse.put l.stage c ((st.filter fun e => decide (now < e.1)) ++ k.toList) }

/-- Something that a column does, and its shadow copy two cycles later (R266, R522 to R524): of what the shadow does only its own
registers, flags and tally remain. (DESIGN CHOICE, log entry 60) -/
def Rod.both (ρ : Rod) (c : Fin 4) (g : Rod → Rod) : Rod :=
  let v := ρ.shadowView
  let σ := g v
  let τ := g ρ
  { τ with ls := allCols.foldl (fun l d =>
      if d = c ∨ σ.gw (Rg.COL_FLAGS d.val) ≠ v.gw (Rg.COL_FLAGS d.val) then
        l.shift d.val (ρ.nowOf c) (some (τ.nowOf c + 2, σ.copyOf d))
      else l) τ.ls }

/-- The bits of COL_FLAGS that enter a tally: SAT, AOV, PROT, COLL, N and Z. -/
def flagBits : List Nat := [31, 30, 29, 28, 1, 0]

/-- Writes COL_FLAGS of a column; each change of a flag is an event (R525). -/
def Rod.setFlags (ρ : Rod) (c : Fin 4) (w : Word) : Rod :=
  let old := ρ.gw (Rg.COL_FLAGS c.val)
  let changed := flagBits.filter fun i => wBit old i != wBit w i
  (ρ.each changed fun i q => q.note c (q.lastOf c) (.flag i (wBit w i))).pw (Rg.COL_FLAGS c.val) w

/-- Writes a register; a write of COL_FLAGS from outside reaches both copies of its column. -/
def Rod.putReg (ρ : Rod) (a : Nat) (w : Word) : Rod :=
  match allCols.find? fun c => a == Rg.COL_FLAGS c.val with
  | some c => ρ.both c fun q => q.setFlags c w
  | none => ρ.pw a w

/-- Sets a sticky flag of a column in cycle `t`; its event and record are written when it changes from 0 to 1 (R278, R279, R307). -/
def Rod.stick (ρ : Rod) (c : Fin 4) (t : Nat) (f : Fld) (bit : Nat) (g : Rod → Rod) : Rod :=
  if ρ.b f then ρ else g (((ρ.p f 1).irq (colPage c) bit).note c t (.flag (31 - bit) true))

/-- SAT (R279). -/
def Rod.setSat (ρ : Rod) (c : Fin 4) : Rod :=
  ρ.stick c (ρ.lastOf c) (Fl.COL_FLAGS_SAT c.val) 0 fun q =>
    q.flt 0x0820 sevInfo (colPage c) [(0, 1, c.val), (1, 1, 1), (2, 2, q.pcOf c)]

/-- AOV (R278). -/
def Rod.setAov (ρ : Rod) (c : Fin 4) : Rod :=
  ρ.stick c (ρ.lastOf c) (Fl.COL_FLAGS_AOV c.val) 1 fun q =>
    q.flt 0x0820 sevInfo (colPage c) [(0, 1, c.val), (1, 1, 2), (2, 2, q.pcOf c)]

/-- PROT, with the word address of the write (R280). -/
def Rod.setProt (ρ : Rod) (c : Fin 4) (w : Nat) : Rod :=
  ρ.stick c (ρ.lastOf c) (Fl.COL_FLAGS_PROT c.val) 2 fun q =>
    q.flt 0x0831 sevWarn (colPage c) [(0, 1, c.val), (2, 2, w), (4, 2, q.pcOf c)]

/-- COLL in both columns; the record is written when COLL changes from 0 to 1 (R283). -/
def Rod.setColl (ρ : Rod) (c d : Fin 4) (w : Nat) : Rod :=
  let fresh := !(ρ.b (Fl.COL_FLAGS_COLL c.val) && ρ.b (Fl.COL_FLAGS_COLL d.val))
  let t := ρ.lastOf c
  let ρ1 := (ρ.stick c t (Fl.COL_FLAGS_COLL c.val) 3 id).stick d t (Fl.COL_FLAGS_COLL d.val) 3 id
  ρ1.when fresh (·.flt 0x0830 sevWarn 0x060 [(0, 1, 2 ^ c.val ||| 2 ^ d.val), (2, 2, w)])

/-- What a column reads at a word: a write of another column or of the hardware in the same cycle is not yet seen (R284). -/
def Rod.colRead (ρ : Rod) (c : Fin 4) (w : Nat) : Word :=
  let w := w % 16384
  match ρ.rk.wlog.find? fun e => e.1 == w && e.2.1 == ρ.nowOf c && e.2.2.1 != c.val with
  | some e => e.2.2.2
  | none => ρ.sg w

/-- Stores a word that the column may write: into signal memory, a duty register, or the pending torque copy (R289). -/
def Rod.colStore (ρ : Rod) (w : Nat) (v : Word) : Rod :=
  if 0x0280 ≤ w ∧ w ≤ 0x02AF then
    let n := axisOf ((w - 0x280) / 16)
    { ρ with rk := { ρ.rk with pend := ρ.rk.pend.set n (Sparse.put (ρ.rk.pend.get n) ((w - 0x280) % 16) v) } }
  else if 0x0300 ≤ w ∧ w ≤ 0x0308 then
    let n := axisOf ((w - 0x300) / 3)
    let p := axisOf ((w - 0x300) % 3)
    (ρ.putHalf n p { ρ.half n p with written := some v.toNat }).sp w v
  else ρ.sp w v

/-- A store by a column (R280 to R283, R312): of the columns that write a word in one cycle the highest is kept, in the order in
which they come, and the value before all of them is what R284 reads. (DEDUCED, log entry 19) -/
def Rod.colWrite (ρ0 : Rod) (c : Fin 4) (w : Nat) (v : Word) : Rod :=
  let w := w % 16384
  let ρ := ρ0.note c (ρ0.lastOf c) (.put w v)
  if ρ.colMayWrite w v then
    let cy := ρ.nowOf c
    let same (e : Nat × Nat × Nat × Word) : Bool := e.1 == w && e.2.1 == cy && e.2.2.1 != c.val && decide (e.2.2.1 < 4)
    match ρ.rk.wlog.find? same with
    | some e =>
      let d : Fin 4 := if e.2.2.1 = 0 then 0 else if e.2.2.1 = 1 then 1 else if e.2.2.1 = 2 then 2 else 3
      let ρ1 := ρ.setColl c d w
      if d.val < c.val then
        let ρ2 := ρ1.colStore w v
        { ρ2 with rk := { ρ2.rk with wlog := ρ2.rk.wlog.map fun k => if same k then (w, cy, c.val, k.2.2.2) else k } }
      else ρ1
    | none =>
      let old := ρ.sg w
      let ρ1 := ρ.colStore w v
      { ρ1 with rk := { ρ1.rk with wlog := ρ1.rk.wlog ++ [(w, cy, c.val, old)] } }
  else ρ.setProt c w

/-- LENGTH of the program in force (R304: 0 stands for 16,384 with an image). -/
def Rod.progLen (ρ : Rod) : Nat :=
  if ρ.b Fl.RK_STAT_IMG_OK then (if ρ.g Fl.RK_IMG_LENGTH = 0 then 16384 else ρ.g Fl.RK_IMG_LENGTH) else 0

/-- The rod states in which blocks run and dq frames are sent (R267). (DEDUCED, log entry 22) -/
def Rod.sendsDq (ρ : Rod) : Bool := ρ.state == RS.ready || ρ.state == RS.active || ρ.state == RS.rejoin

/-- Whether an axis waits at step 5 of ARMING (R97, R98). -/
def Rod.waits (ρ : Rod) (n : Axis) : Bool := ρ.bitOf Fl.ARM_STAT_WAIT_AXES n.val

/-- Blocks run only in READY, ACTIVE and REJOIN, with an image loaded (R267, R303). -/
def Rod.runsBlocks (ρ : Rod) : Bool :=
  ρ.sendsDq && ρ.b Fl.RK_STAT_IMG_OK &&
  !ρ.b Fl.RK_STAT_PLACE_FAIL

/-- Pc: the tick period in RCK cycles of 3.125 ns (R268); the period is written in steps of 6.25 ns. (DEDUCED, log entry 19) -/
def Rod.pc (ρ : Rod) : Nat := if ρ.b (Fl.DRV_PWM_DOUBLE 0) then ρ.g (Fl.DRV_PWM_PERIOD 0) else 2 * ρ.g (Fl.DRV_PWM_PERIOD 0)

/-- Twice the tick period Pt in ns (R268): whole, since P is a multiple of 25 ns (R127). -/
def Rod.tick2 (ρ : Rod) : Nat := if ρ.b (Fl.DRV_PWM_DOUBLE 0) then ρ.period else 2 * ρ.period

/-- Whether the period that ran at the last commit of PERIOD and DOUBLE is still in force (R128, R436): the values of the registers
follow it at its end. -/
def Rod.oldPeriod (ρ : Rod) : Bool := decide (25 * ρ.ftn < ρ.pwm.till)

/-- PERIOD and DOUBLE in force. -/
def Rod.perNow (ρ : Rod) : Nat := if ρ.oldPeriod then ρ.pwm.per else ρ.g (Fl.DRV_PWM_PERIOD 0)
def Rod.dblNow (ρ : Rod) : Bool := if ρ.oldPeriod then ρ.pwm.dbl else ρ.b (Fl.DRV_PWM_DOUBLE 0)

/-- Pc, and twice the tick period in ns, in force. -/
def Rod.pcNow (ρ : Rod) : Nat := if ρ.dblNow then ρ.perNow else 2 * ρ.perNow
def Rod.tickNow (ρ : Rod) : Nat := if ρ.dblNow then ρ.perNow * 25 / 4 else 2 * (ρ.perNow * 25 / 4)

/-- Whether `ns` have passed since FT `t`, where ticks run: FT moves with the commands that carry it, so a timer's own command
lies up to a tick after the FT it finds. (DESIGN CHOICE, log entry 74) -/
def Rod.passed (ρ : Rod) (t ns : Nat) : Bool := !ρ.ticksRun || decide (t + ns ≤ ρ.ft + ρ.tickNow / 2)

/-- The first multiple of `m` at or after `t`. -/
def multipleFrom (m t : Nat) : Nat := (t + max 1 m - 1) / max 1 m * max 1 m

/-- Whether FT stands at a sampling instant (R126, R128, R129): a multiple of P, or of P/2 with double update, and not before the
first instant after READY entry or of a new period. (DESIGN CHOICE, log entry 17) -/
def Rod.atInstant (ρ : Rod) : Bool :=
  25 * ρ.ftn % ρ.tickNow == 0 && (ρ.oldPeriod || decide (ρ.pwm.from_ ≤ 25 * ρ.ftn))

/-- Whether FT stands at a valley of the PWM counter (R431): a whole multiple of P. -/
def Rod.atValley (ρ : Rod) : Bool := 25 * ρ.ftn % (2 * (ρ.perNow * 25 / 4)) == 0

/-- The stretched tick after the end of the last period of the old length: pulse 0 on every half-bridge (R128, R435). -/
def Rod.stretched (ρ : Rod) : Bool := ρ.pwm.till != 0 && !ρ.oldPeriod && decide (25 * ρ.ftn < ρ.pwm.from_)

/-- No block is left running or waiting where the rod runs none (R267). (DEDUCED, log entry 19) -/
def Rod.dropBlocks (ρ : Rod) : Rod :=
  ρ.each allCols fun c q =>
    if q.b (Fl.COL_STAT_BUSY c.val) then
      q.both c fun r => (r.p (Fl.COL_STAT_BUSY c.val) 0).putCol c { r.col c with waiting := [], rep := none }
    else q

/-- The ticks start with READY entry: the first falls at the first whole multiple of P at or after it (R129). -/
def Rod.startTicks (ρ : Rod) : Rod :=
  let first := multipleFrom (2 * ρ.period) (25 * ρ.ftn)
  { ρ.dropBlocks with pwm := { ρ.pwm with till := 0, from_ := first, prev := first - ρ.tick2 } }

/-- PERIOD or DOUBLE has been committed; `old` is the rod before it. The period in force runs to its end, and the next sampling
instant after it is the first whole multiple of the new one (R128, R436). Where no tick runs nothing is stretched. -/
def Rod.newPeriod (ρ old : Rod) : Rod :=
  if ρ.ticksRun = false then { ρ with pwm := { ρ.pwm with till := 0 } }
  else
    let p := 2 * (old.perNow * 25 / 4)
    let till := if old.oldPeriod then old.pwm.till else (25 * old.ftn / max 1 p + 1) * p
    { ρ with pwm := { ρ.pwm with per := old.perNow, dbl := old.dblNow, till := till, from_ := multipleFrom (2 * ρ.period) till } }

/-- The drive-page values that take effect at a valley (R436). -/
def Rod.valleyLoad (ρ : Rod) : Rod :=
  let t (f : Nat → Nat) : Tri Word := ⟨ρ.gw (f 0), ρ.gw (f 1), ρ.gw (f 2)⟩
  { ρ with pwm := { ρ.pwm with dt := t Rg.DRV_PWM, on_ := t Rg.DRV_PROF_ON, off := t Rg.DRV_PROF_OFF, prot := t Rg.DRV_PROT } }

/-- The drive-page values in force (R436): DUTY_MAX and REFRESH_N as latched, the dead time and the thresholds as of the last
valley. -/
def Rod.dutyMax (ρ : Rod) (n : Axis) : Nat := wBits (ρ.pwm.duty.get n) 0 17
def Rod.refreshN (ρ : Rod) (n : Axis) : Nat := wBits (ρ.pwm.duty.get n) 24 8
def Rod.deadTime (ρ : Rod) (n : Axis) : Nat := wBits (ρ.pwm.dt.get n) 0 9
def Rod.dsTh (ρ : Rod) (n : Axis) : Nat := wBits (ρ.pwm.prot.get n) 24 4
def Rod.ocTh (ρ : Rod) (n : Axis) : Nat := wBits (ρ.pwm.prot.get n) 8 6

/-- The tick period in ns, rounded down. (DEDUCED, log entry 19) -/
def Rod.tickNs (ρ : Rod) : Nat := ρ.tickNow / 2

/-- The outer-loop divisor of an axis (R29). -/
def Rod.divisor (ρ : Rod) (n : Axis) : Nat :=
  let d := ρ.g (Fl.AX_CFG_OUTER_DIV n.val)
  if d = 0 then 64 else d

/-- Whether the current tick is an outer-cycle tick of an axis (R269). -/
def Rod.outerTick (ρ : Rod) (n : Axis) : Bool := ρ.tick % ρ.divisor n == 0

/-- One overrun counted against an axis, once a tick (R271, R273). -/
def Rod.countOverrun (ρ : Rod) (n : Nat) : Rod :=
  if 3 ≤ n then ρ
  else
    let a := axisOf n
    let f : Fld := ⟨0x060, 0x7C, 8 * a.val, 8⟩
    let ρ1 := ρ.irq 0x060 0
    if ρ1.rk.ovr.get a then ρ1
    else ({ ρ1 with rk := { ρ1.rk with ovr := ρ1.rk.ovr.set a true } }).inc f

/-- Starts a block on a column at a cycle (R269, R270). -/
def Rod.startBlock (ρ : Rod) (c : Fin 4) (t cyc : Nat) : Rod :=
  let k := ρ.col c
  let ρ1 := ρ.putCol c { k with cyc := cyc, used := 0, rep := none, coefB := ρ.rk.actCoef, tblB := ρ.rk.actTbl
                                src := ρ.g (Fl.TRIG_CFG_SRC c.val t), axis := ρ.g (Fl.TRIG_CFG_AXIS c.val t)
                                tick := ρ.tick, base := ρ.rk.cyc0 }
  ((ρ1.p (Fl.COL_STAT_BUSY c.val) 1).p (Fl.COL_STAT_TRIG c.val) t).p (Fl.COL_STAT_PC c.val)
    (ρ.g (Fl.TRIG_CFG_ENTRY c.val t))

/-- Ends the running block with its cycles shown, and starts the trigger that has waited longest in START order
(R270, Table 8.10); the cycles of a block of the previous tick are counted on from that tick's own cycle 0 (R671). -/
def Rod.endBlock (ρ : Rod) (c : Fin 4) : Rod :=
  let k := ρ.col c
  let t := ρ.g (Fl.COL_STAT_TRIG c.val)
  let used := satN 0xFFFF k.used
  let ρ1 := (ρ.p (Fl.COL_STAT_BUSY c.val) 0).p (Fl.TRIG_USE_LAST c.val t) used
  let ρ2 := ρ1.p (Fl.TRIG_USE_MAX c.val t) (max used (ρ1.g (Fl.TRIG_USE_MAX c.val t)))
  match k.waiting with
  | [] => ρ2.putCol c { k with rep := none }
  | w :: ws =>
    let start := ρ2.g (Fl.TRIG_LIM_START c.val w)
    let now := ρ.nowOf c - ρ.rk.cyc0
    (ρ2.putCol c { k with waiting := ws, rep := none }).startBlock c w (max start now)

/-- Inserts a trigger that fires while a block runs, in order of START (R270). -/
def insertTrig (start : Nat → Nat) (t : Nat) : List Nat → List Nat
  | [] => [t]
  | h :: l => if start t < start h then t :: h :: l else h :: insertTrig start t l

/-- Whether the tandem pair makes this module the standby one for an axis (R506 to R510). -/
def Rod.tandemStandby (ρ : Rod) (n : Axis) : Bool :=
  ρ.b Fl.TD_CFG_EN && ρ.bitOf Fl.TD_CFG_GROUP n.val &&
  (match ρ.red.tdDec with
    | some (a, _) => if ρ.red.tdDone.get n then a != ρ.g Fl.TD_CFG_MODULE else !ρ.b Fl.TD_STAT_ACTIVE
    | none => !ρ.b Fl.TD_STAT_ACTIVE)

/-- Whether a trigger fires in this tick (R269): the OUTER trigger of a group axis not in the standby module (R508), nor that of
an axis that waits in ARMING (R99). (DEDUCED, log entry 66) -/
def Rod.trigDue (ρ : Rod) (c t : Nat) : Bool :=
  let src := ρ.g (Fl.TRIG_CFG_SRC c t)
  let n := axisOf (ρ.g (Fl.TRIG_CFG_AXIS c t))
  src == 1 || (src == 3 && ρ.outerTick n) ||
    (src == 2 && ρ.leads n && !ρ.tandemStandby n && !ρ.waits n && (ρ.outerTick n || (ρ.rk.swRun.get n).isSome))

/-- Whether the computations of the tick have finished (R134): each trigger of the tick has fired, and no block runs or waits. -/
def Rod.tickDone (ρ : Rod) : Bool :=
  (List.range 4).all fun c => !ρ.b (Fl.COL_STAT_BUSY c) && (Sparse.get Col.init ρ.rk.cols c).waiting.isEmpty &&
    (List.range 8).all fun t => !(ρ.runsBlocks && ρ.trigDue c t) || ρ.rk.fired.contains (c * 8 + t)

/-- A trigger fires in cycle START of its tick (R269), once a tick. -/
def Rod.triggerFire (ρ : Rod) (c : Fin 4) (t : Fin 8) : Rod :=
  let id := c.val * 8 + t.val
  let src := ρ.g (Fl.TRIG_CFG_SRC c.val t.val)
  let n := axisOf (ρ.g (Fl.TRIG_CFG_AXIS c.val t.val))
  if ρ.runsBlocks && ρ.trigDue c.val t.val && !ρ.rk.fired.contains id then
    let ρ1 := { ρ with rk := { ρ.rk with fired := ρ.rk.fired ++ [id] } }
    let ρ2 := if src = 2 then { ρ1 with rk := { ρ1.rk with swCopy := ρ1.rk.swCopy.set n (ρ1.rk.swRun.get n)
                                                           swRun := ρ1.rk.swRun.set n none } } else ρ1
    ρ2.both c fun q =>
      if q.b (Fl.COL_STAT_BUSY c.val) then
        let k := q.col c
        q.putCol c { k with waiting := insertTrig (fun j => q.g (Fl.TRIG_LIM_START c.val j)) t.val k.waiting }
      else q.startBlock c t.val (q.g (Fl.TRIG_LIM_START c.val t.val))
  else ρ

/-- The words of the torque exchange area that the lead writes (Table 10.4). -/
def copyWords : List Nat := [3, 4, 8, 9, 10, 11, 12, 13, 14, 15]

/-- The words of a list of addresses. -/
def Rod.words (ρ : Rod) (l : List Nat) : List Word := l.map ρ.sg

/-- The lead's OUTER block has halted: torque copy and outer-loop state go to both followers (R289, R291); for a group axis of
the active module also over the tandem lanes (R507). -/
def Rod.sendOuter (ρ : Rod) (n : Axis) : Rod :=
  let ep : Epoch := ⟨BitVec.ofNat 16 (ρ.g Fl.CR_EPOCH_EPOCH), RS.serving ρ.state⟩
  let tq := (List.range 16).map fun w => Sparse.get (ρ.sg (torqueW n.val w)) (ρ.rk.pend.get n) w
  let st := ρ.words ((List.range 128).map (stateW n.val))
  let ρ1 := { ρ with rk := { ρ.rk with ready := ρ.rk.ready.set n true } }
  let ρ2 := (ρ1.send (.torque ⟨n, ep, tq⟩)).send (.stateCopy ⟨n, ep, true, st⟩)
  ρ2.when (ρ.b Fl.TD_CFG_EN && ρ.bitOf Fl.TD_CFG_GROUP n.val && ρ.b Fl.TD_STAT_ACTIVE) fun q =>
    q.send (.tandem ⟨n, BitVec.ofNat 16 (ρ.g Fl.TD_STAT_EPOCH), st, tq.drop 3⟩)

/-- A block halts (R270, R289, R291). -/
def Rod.haltBlock (ρ : Rod) (c : Fin 4) : Rod :=
  let k := ρ.col c
  let n := axisOf k.axis
  let ρ1 := if k.src = 2 ∧ ρ.leads n = true then ρ.sendOuter n else ρ
  ρ1.endBlock c

/-- The OUTER block of an axis is stopped in its lead: no copy is sent, but the copy-missed notice (R291, R480). -/
def Rod.missCopy (ρ : Rod) (k : Col) : Rod :=
  let n := axisOf k.axis
  if k.src = 2 ∧ ρ.leads n = true then
    ((ρ.fltA 0x0860 sevWarn 0x060 n [(0, 1, n.val), (4, 4, ρ.tick)]).irq 0x060 5).send (.copyMissed n)
  else ρ

/-- A block is stopped by an exception (R271, R324). -/
def Rod.exception (ρ : Rod) (c : Fin 4) (code : Nat) : Rod :=
  let k := ρ.col c
  let ρ1 := (ρ.flt 0x0840 sevWarn (colPage c) [(0, 1, c.val), (1, 1, code), (2, 2, ρ.pcOf c)]).irq (colPage c) 4
  (((ρ1.note c (ρ.nowOf c) (.stop (ρ.pcOf c) code)).countOverrun k.axis).missCopy k).endBlock c

/-- START + LIMIT of the running block (R271): the cycle in which it is stopped. -/
def Rod.limitOf (ρ : Rod) (c : Fin 4) : Nat :=
  let t := ρ.g (Fl.COL_STAT_TRIG c.val)
  ρ.g (Fl.TRIG_LIM_START c.val t) + ρ.g (Fl.TRIG_LIM_LIMIT c.val t)

/-- Whether the instruction at the PC would reach its last cycle before the block is stopped (R314, R671). -/
def Rod.fits (ρ : Rod) (c : Fin 4) : Bool :=
  decide ((ρ.col c).cyc + (ρ.lastOf c - ρ.nowOf c) < ρ.limitOf c)

/-- Whether a block runs on a column (R267). -/
def Rod.running (ρ : Rod) (c : Fin 4) : Bool := ρ.b (Fl.COL_STAT_BUSY c.val) && ρ.runsBlocks

/-- A block that has not halted by START + LIMIT is stopped in that cycle (R271, R291, R480), and never earlier (R671): while its
next instruction still ends before that cycle the block runs on. -/
def Rod.blockLimit (ρ : Rod) (c : Fin 4) : Rod :=
  if ρ.running c && !ρ.fits c then
    ρ.both c fun q =>
      let k := q.col c
      let ρ1 := q.fltAP 0x0810 sevWarn (colPage c) (axisByte k.axis) 0xFF
        [(0, 1, c.val), (1, 1, q.g (Fl.COL_STAT_TRIG c.val)), (2, 1, k.axis), (3, 1, 1), (4, 4, q.tick)]
      let ρ2 := (ρ1.countOverrun k.axis).missCopy k
      let ρ3 := ρ2.putCol c { k with cyc := max k.cyc (q.limitOf c) }
      (ρ3.note c (ρ3.nowOf c) (.stop (q.pcOf c) 0)).endBlock c
  else ρ

/-! ### Banks, tables and coefficients -/

/-- The key of a table word: kind 0 friction, 1 cogging, 2 curve. -/
def tblKey (kind axis bank i : Nat) : Nat := ((kind * 3 + axis) * 2 + bank) * 4096 + i

/-- A table word. -/
def Rod.tblW (ρ : Rod) (kind axis bank i : Nat) : Word := Sparse.get 0#32 ρ.rk.tbl (tblKey kind axis bank i)

/-- A coefficient entry of a bank: bits [39:0] in the layout of Table 2.2. -/
def Rod.coefW (ρ : Rod) (bank i : Nat) : DWord := Sparse.get 0#64 ρ.rk.coef (bank * 4096 + i)

/-- Writes a coefficient entry; bits [63:40] read 0. -/
def Rod.putCoef (ρ : Rod) (bank i : Nat) (v : DWord) : Rod :=
  { ρ with rk := { ρ.rk with coef := Sparse.set 0#64 ρ.rk.coef (bank * 4096 + i) (v &&& 0xFFFFFFFFFF#64) } }

/-- The bank of a table in force, from the bits of R294. -/
def bankBit (b kind : Nat) : Nat := b / 2 ^ kind % 2

/-- The banks of TBL_CFG_n and COEF_CFG become active at a tick; each change writes its record (R294, R305). -/
def Rod.swapBanks (ρ : Rod) : Rod :=
  let swap (mem axis : Nat) (q : Rod) : Rod := (q.fltAP 0x0850 sevInfo 0x060 (axisByte axis) 0xFF [(0, 1, mem),
                                                                                                    (1, 1, axis)]).irq 0x060 3
  let ρ1 := if ρ.rk.actCoef = ρ.g Fl.COEF_CFG_BANK then ρ
    else swap 0 0xFF { ρ with rk := { ρ.rk with actCoef := ρ.g Fl.COEF_CFG_BANK } }
  ρ1.each allAxes fun n q =>
    let new := q.g (Fl.TBL_CFG_FRIC_BANK n.val) + 2 * q.g (Fl.TBL_CFG_COG_BANK n.val) + 4 * q.g (Fl.TBL_CFG_CRV_BANK n.val)
    let old := q.rk.actTbl.get n
    let q1 := { q with rk := { q.rk with actTbl := q.rk.actTbl.set n new } }
    q1.each [0, 1, 2] fun k r => if bankBit old k = bankBit new k then r else swap (k + 1) n.val r

/-- COEF_CRC and the table CRCs over the active banks (R297). -/
def Rod.coefCrc (ρ : Rod) : Word :=
  crc32 ((List.range 4096).flatMap fun i => leBytes 8 (ρ.coefW ρ.rk.actCoef i).toNat)

def Rod.tblCrc (ρ : Rod) (kind : Nat) (n : Axis) : Word :=
  crc32 (wordBytes ((List.range (if kind = 2 then 256 else 4096)).map
    (ρ.tblW kind n.val (bankBit (ρ.rk.actTbl.get n) kind))))

/-- A write of COEF_CMD.SYNC starts the copy of the bank active now (R296); one that runs already goes on. (DEDUCED, log entry 19) -/
def Rod.writeCoefCmd (ρ : Rod) (data : Word) : Rod :=
  if wBit data 0 && !ρ.b Fl.COEF_STAT_SYNC_BUSY then
    { ρ with rk := { ρ.rk with coefSrc := ρ.rk.actCoef } }.p Fl.COEF_STAT_SYNC_BUSY 1
  else ρ

/-- The copy of the bank that was active at its start into the other one ends, and the host writes held meanwhile take effect in
order (R296). -/
def Rod.coefSyncDone (ρ : Rod) : Rod :=
  if ρ.b Fl.COEF_STAT_SYNC_BUSY then
    let a := ρ.rk.coefSrc
    let keep := ρ.rk.coef.filter fun e => e.1 / 4096 == a
    let other := keep.map fun e => ((1 - a) * 4096 + e.1 % 4096, e.2)
    let both := if a = 0 then keep ++ other else other ++ keep
    let ρ1 := { ρ with rk := { ρ.rk with coef := both, coefQ := [] } }.p Fl.COEF_STAT_SYNC_BUSY 0
    ρ1.each ρ.rk.coefQ fun e q => q.putCoef (1 - q.rk.actCoef) e.1 e.2
  else ρ

/-- A host write of a coefficient entry goes to the bank that is not active (R293), after a copy in progress (R296). -/
def Rod.hostCoef (ρ : Rod) (i : Nat) (v : DWord) : Rod :=
  if ρ.b Fl.COEF_STAT_SYNC_BUSY then { ρ with rk := { ρ.rk with coefQ := ρ.rk.coefQ ++ [(i, v)] } }
  else ρ.putCoef (1 - ρ.rk.actCoef) i v

/-- A write of COL_CMD.CLR_MAX clears every TRIG_USE_t.MAX (Table 8.10). -/
def Rod.clearMax (ρ : Rod) (c : Fin 4) (data : Word) : Rod :=
  if wBit data 0 then ρ.each (List.range 8) fun t q => q.p (Fl.TRIG_USE_MAX c.val t) 0 else ρ

/-! ### Trace -/

/-- A write of TRC_CFG takes effect at the next record; one that sets EN starts it at offset 0 (R302). -/
def Rod.writeTrcCfg (ρ : Rod) (data : Word) : Rod :=
  let starts := wBit data 31 && !ρ.b Fl.TRC_CFG_EN
  let ρ1 := ρ.pw Rg.TRC_CFG (data &&& 0x903F000F#32)
  if starts then { ρ1 with rk := { ρ1.rk with traceRestart := true } } else ρ1

/-- Writes words of the trace buffer from a byte offset on. -/
def Rod.putTrace (ρ : Rod) : Nat → List Word → Rod
  | _, [] => ρ
  | off, w :: ws =>
    Rod.putTrace { ρ with rk := { ρ.rk with trace := Sparse.set 0#32 ρ.rk.trace (off / 4) w } } (off + 4) ws

/-- One trace record at a sampling instant (R300, R301). -/
def Rod.traceRecord (ρ : Rod) : Rod :=
  let dec := if ρ.g Fl.TRC_CFG_DEC = 0 then 64 else ρ.g Fl.TRC_CFG_DEC
  if ρ.b Fl.TRC_CFG_EN && ρ.tick % dec == 0 then
    let n := ρ.g Fl.TRC_CFG_N + 1
    let len := 4 * (n + 2)
    let words := [BitVec.ofNat 32 ρ.tick, BitVec.ofNat 32 ρ.ft] ++
      (List.range n).map fun j => ρ.sg (ρ.g (Fl.TRC_SEL_ADDR j))
    let wp := if ρ.rk.traceRestart then 0 else ρ.g Fl.TRC_WP_OFFSET
    let full := ρ.b Fl.TRC_CFG_MODE && ((ρ.rk.traceEnd && !ρ.rk.traceRestart) || decide (0x100000 < wp + len))
    if full then
      ((({ ρ with rk := { ρ.rk with traceRestart := false, traceEnd := false } }).p Fl.TRC_STAT_FULL 1).p Fl.TRC_CFG_EN 0).irq 0x060 4
    else
      let wraps := decide (0x100000 < wp + len)
      let ρ1 := { ρ with rk := { ρ.rk with traceRestart := false, traceEnd := false } }
      let ρ2 := if wraps then
          (ρ1.putTrace wp (List.replicate ((0x100000 - wp) / 4) 0xFFFFFFFF#32)).p Fl.TRC_STAT_WRAP 1
        else ρ1
      let at_ := if wraps then 0 else wp
      let ρ3 := ρ2.putTrace at_ words
      if 0x100000 ≤ at_ + len then
        if ρ3.b Fl.TRC_CFG_MODE then { ρ3 with rk := { ρ3.rk with traceEnd := true } }.p Fl.TRC_WP_OFFSET 0
        else (ρ3.p Fl.TRC_WP_OFFSET 0).p Fl.TRC_STAT_WRAP 1
      else ρ3.p Fl.TRC_WP_OFFSET (at_ + len)
  else ρ

/-! ### dq frames -/

/-- The own epoch as frames carry it (R478). -/
def Rod.epoch (ρ : Rod) : Epoch := ⟨BitVec.ofNat 16 (ρ.g Fl.CR_EPOCH_EPOCH), RS.serving ρ.state⟩

/-- The axes whose SEQ word holds the current tick number, as a mask (R287). -/
def Rod.seqMask (ρ : Rod) : Nat :=
  (allAxes.map fun n => if (ρ.sg (slotW ρ.me (12 + n.val))).toNat = ρ.tick then 2 ^ n.val else 0).sum

/-- Sends the own slot with the sets of a mask marked fresh (R24, R287, R485). -/
def Rod.sendDq (ρ : Rod) (fresh resid : Nat) : Rod :=
  let w := slotW ρ.me 15
  let ρ1 := ρ.sp w (BitVec.ofNat 32 fresh)
  ({ ρ1 with rk := { ρ1.rk with dqSent := true } }).send
    (.dq ⟨true, BitVec.ofNat 32 ρ.tick, ρ.epoch, BitVec.ofNat 3 fresh, BitVec.ofNat 3 resid,
      ρ1.words ((List.range 32).map (slotW ρ.me))⟩)

/-- The own slot is sent once all three SEQ words are current (R287); no frame outside R267's states. -/
def Rod.dqFrameSend (ρ : Rod) (resid : Nat) : Rod :=
  if ρ.sendsDq && !ρ.rk.dqSent && ρ.rk.dqOpen && ρ.seqMask == 7 then ρ.sendDq 7 resid else ρ

/-- At 1.40 µs an unsent slot is sent with the late sets marked not fresh (R287, R305). (DEDUCED, log entry 22) -/
def Rod.dqSendDeadline (ρ : Rod) (resid : Nat) : Rod :=
  if ρ.sendsDq && !ρ.rk.dqSent && ρ.rk.dqOpen then
    if ρ.seqMask = 7 then ρ.sendDq 7 resid
    else
      ((ρ.sendDq ρ.seqMask resid).flt 0x0812 sevWarn 0x060 [(0, 1, 7 - ρ.seqMask), (4, 4, ρ.tick)]).irq 0x060 2
  else ρ

end Sys2Proof.Machine
end

