-- ==== Sys2Proof/Machine/Operands.lean ====
section
/-! DEFINITION. The operand forms of the Reckoner's instruction word (Table 9.1, R309, R310), the column's registers and
accumulators, and the cycle in which an instruction issues (R311 to R313, R324). `f` is bits [55:0] of the word. -/

namespace Sys2Proof.Machine

/-- Fields of the instruction word (Table 9.1). -/
def fD (f : BitVec 56) : Nat := natBits f.toNat 51 5
def fA (f : BitVec 56) : Nat := natBits f.toNat 46 5
def fB (f : BitVec 56) : Nat := natBits f.toNat 41 5
def fAcc (f : BitVec 56) : Nat := natBits f.toNat 39 2
def fE (f : BitVec 56) : Nat := natBits f.toNat 33 6
def fK (f : BitVec 56) : Int := sext 5 (natBits f.toNat 28 5)
def fAx (f : BitVec 56) : Nat := natBits f.toNat 26 2
def fTs (f : BitVec 56) : Nat := natBits f.toNat 24 2
def fCnt (f : BitVec 56) : Nat := natBits f.toNat 16 8
def fAddr (f : BitVec 56) : Nat := natBits f.toNat 0 14
def fImm (f : BitVec 56) : Nat := natBits f.toNat 0 32

/-- The bits of each field, for the check of unused fields (R309). -/
def mD : Nat := 0x1F * 2 ^ 51
def mA : Nat := 0x1F * 2 ^ 46
def mB : Nat := 0x1F * 2 ^ 41
def mAcc : Nat := 0x3 * 2 ^ 39
def mE : Nat := 0x3F * 2 ^ 33
def mK : Nat := 0x1F * 2 ^ 28
def mAx : Nat := 0x3 * 2 ^ 26
def mTs : Nat := 0x3 * 2 ^ 24
def mCnt : Nat := 0xFF * 2 ^ 16
def mAddr : Nat := 0x3FFF
def mImm : Nat := 0xFFFFFFFF

/-- The opcodes of Table 9.2. -/
def legalOpc (o : Nat) : Bool :=
  (decide (0x01 ≤ o) && decide (o ≤ 0x08)) || (decide (0x10 ≤ o) && decide (o ≤ 0x1E)) ||
  (decide (0x20 ≤ o) && decide (o ≤ 0x27)) || (decide (0x30 ≤ o) && decide (o ≤ 0x33)) ||
  (decide (0x38 ≤ o) && decide (o ≤ 0x3F))

/-- A value register of a column (R264). -/
def Rod.v (ρ : Rod) (c : Fin 4) (i : Nat) : Word := Sparse.get 0#32 (ρ.col c).v (i % 32)

/-- Writes a value register. -/
def Rod.setV (ρ : Rod) (c : Fin 4) (i : Nat) (w : Word) : Rod :=
  (ρ.putCol c { ρ.col c with v := Sparse.set 0#32 (ρ.col c).v (i % 32) w }).note c (ρ.lastOf c) (.val (i % 32) w)

/-- The signed value of a value register. -/
def Rod.vi (ρ : Rod) (c : Fin 4) (i : Nat) : Int := (ρ.v c i).toInt

/-- An accumulator of a column (R264). -/
def Rod.acc (ρ : Rod) (c : Fin 4) (i : Nat) : Int := Sparse.get 0 (ρ.col c).acc (i % 4)

/-- Writes an accumulator, clamped to 72 bits with AOV (R278). -/
def Rod.setAcc (ρ : Rod) (c : Fin 4) (i : Nat) (x : Int) : Rod :=
  let y := clampI (-(2 ^ 71)) (2 ^ 71 - 1) x
  let ρ1 := (ρ.putCol c { ρ.col c with acc := Sparse.set 0 (ρ.col c).acc (i % 4) y }).note c (ρ.lastOf c) (.acc (i % 4) (BitVec.ofInt 72 y))
  if x = y then ρ1 else ρ1.setAov c

/-- Writes a value register with saturation to 32 bits and SAT (sat32 of R316). -/
def Rod.setSatV (ρ : Rod) (c : Fin 4) (i : Nat) (x : Int) : Rod :=
  let ρ1 := ρ.setV c i (wOfInt (satW x))
  if x = satW x then ρ1 else ρ1.setSat c

/-- The body of REPEAT is being run for the first time (R323). -/
def Rod.inBody (ρ : Rod) (c : Fin 4) : Bool := (ρ.col c).rep.isSome

/-- The address that follows the instruction at the PC: the next one, or the top of a REPEAT body (R323), and the
REPEAT state after it. -/
def nextPc (pc : Nat) : Option (Nat × Nat × Nat × Bool) → Nat × Option (Nat × Nat × Nat × Bool)
  | none => (pc + 1, none)
  | some (start, len, left, first) =>
    if pc + 1 < start + len then (pc + 1, some (start, len, left, first))
    else if left = 0 then (pc + 1, none)
    else (start, some (start, len, left - 1, false))

/-- Moves on past the instruction at the PC, which took `cyc` cycles (R311). -/
def Rod.advance (ρ : Rod) (c : Fin 4) (cyc : Nat) : Rod :=
  let k := ρ.col c
  let (pc, rep) := nextPc (ρ.pcOf c) k.rep
  (ρ.putCol c { k with cyc := k.cyc + cyc, used := k.used + cyc, rep := rep }).p (Fl.COL_STAT_PC c.val) pc

/-- Moves to an address after an instruction that took `cyc` cycles. -/
def Rod.goTo (ρ : Rod) (c : Fin 4) (cyc pc : Nat) : Rod :=
  let k := ρ.col c
  (ρ.putCol c { k with cyc := k.cyc + cyc, used := k.used + cyc }).p (Fl.COL_STAT_PC c.val) pc

/-- What the instruction at the PC of one copy of a column does: a fetch past the program raises exception 0x03, an unused field
that is not 0 exception 0x02; otherwise `m` acts, or raises an exception of its own. An instruction that does not reach its last
cycle does nothing (R314). -/
def Rod.instr (ρ : Rod) (c : Fin 4) (f : BitVec 56) (used : Nat) (m : Rod → Except Nat Rod) : Rod :=
  if ρ.progLen ≤ ρ.pcOf c then ρ.exception c 0x03
  else if f.toNat &&& (2 ^ 56 - 1 - used) ≠ 0 then ρ.exception c 0x02
  else
    match m ρ with
    | .ok ρ' => if ρ.fits c then ρ' else ρ
    | .error code => ρ.exception c code

/-- Whether an instruction word issues on a column: a block runs there, its limit is not passed (R271; in the cycle of the limit
itself an instruction can still raise an exception, R325), and the program holds that very word at the PC, or ends before it. -/
def Rod.issues (ρ : Rod) (c : Fin 4) (opc : Nat) (f : BitVec 56) : Bool :=
  ρ.running c && decide ((ρ.col c).cyc ≤ ρ.limitOf c) &&
    (decide (ρ.progLen ≤ ρ.pcOf c) || (Sparse.get 0#64 ρ.rk.prog (ρ.pcOf c)).toNat == opc * 2 ^ 56 + f.toNat)

/-- An instruction word issues on a column, and two cycles later on its shadow (R266). -/
def Rod.issue (ρ : Rod) (c : Fin 4) (opc : Nat) (f : BitVec 56) (used : Nat)
    (m : Rod → Except Nat Rod) : Rod :=
  if ρ.issues c opc f then ρ.both c fun q => q.instr c f used m else ρ

/-- A plain instruction: it acts on the rod and takes `cyc` cycles. -/
def Rod.plain (ρ : Rod) (c : Fin 4) (opc : Nat) (f : BitVec 56) (used cyc : Nat) (m : Rod → Rod) : Rod :=
  ρ.issue c opc f used fun q => .ok ((m q).advance c cyc)

/-- A column takes the value at an address from outside (Table 15.2): 0 signal memory, 1 coefficients, 2 tables, 3 curves. -/
def Rod.fetches (ρ : Rod) (c : Fin 4) (kind a : Nat) : Rod := ρ.note c (ρ.nowOf c) (.access kind a)

/-- A coefficient: mantissa and shift of the entry at an address of the bank the block runs on (R276, R294). -/
def Rod.coefOf (ρ : Rod) (c : Fin 4) (i : Nat) : Int × Int :=
  let e := (ρ.coefW (ρ.col c).coefB (i % 4096)).toNat
  (sext 32 e, sext 5 (natBits e 32 5))

/-- A product shifted right by 16 − k places, toward minus infinity (R277). -/
def macTerm (p k : Int) : Int := p / 2 ^ (16 - k).toNat

end Sys2Proof.Machine
end

