-- ==== Sys2Proof/Machine/Flags.lean ====
section
/-! DEFINITION. The flag computations of the Reckoner: the extraction with SAT, N and Z (R279, R317), and the special
functions of R318 to R321. -/

namespace Sys2Proof.Machine

/-- acc × 2^−e, rounded half away from zero (R279). -/
def extract (acc : Int) (e : Nat) : Int := divRoundAway acc (2 ^ e)

/-- An extraction into a value register, with SAT, N and Z (R279). -/
def Rod.ext (ρ : Rod) (c : Fin 4) (d : Nat) (acc : Int) (e : Nat) : Rod :=
  let x := extract acc e
  let y := satW x
  let ρ1 := ρ.setSatV c d x
  let w := ((ρ1.gw (Rg.COL_FLAGS c.val)).toNat / 4 * 4) + 2 * b2n (decide (y < 0)) + b2n (y == 0)
  ρ1.setFlags c (BitVec.ofNat 32 w)

/-- π × 2^128, rounded down. -/
def piQ128 : Nat := 1069028584064966747859680373161870783300

/-- Terms of the sine and cosine series at x = y / 2^128: sum of (−1)^i x^(2i+s) / (2i+s)!, term by term. -/
def seriesGo (y2 : Nat) : Nat → Nat → Nat → Bool → Int → Int
  | 0, _, _, _, s => s
  | n + 1, k, t, neg, s =>
    let t' := t * y2 / 2 ^ 128 / ((k + 1) * (k + 2))
    seriesGo y2 n (k + 2) t' (!neg) (if neg then s - t else s + t)

/-- sin(x) and cos(x) in units of 2^−128, for 0 ≤ x ≤ π/4 given in the same units. -/
def sinQ128 (y : Nat) : Int := seriesGo (y * y / 2 ^ 128) 24 1 y false 0

def cosQ128 (y : Nat) : Int := seriesGo (y * y / 2 ^ 128) 24 0 (2 ^ 128) false 0

/-- 2^31 × a value in units of 2^−128, rounded half away from zero and limited to ±(2^31 − 1) (R318). -/
def q31Of (x : Int) : Int := clampI (-2147483647) 2147483647 (divRoundAway x (2 ^ 97))

/-- sin and cos of the angle a / 2^32 of a turn, in units of 2^−128. -/
def sinCosQ128 (a : Nat) : Int × Int :=
  let r := a % 2 ^ 29
  let half := (a / 2 ^ 29) % 8
  let lo (z : Nat) : Nat := 2 * z * piQ128 / 2 ^ 32
  -- within each eighth, the angle from its start or to its end
  let s := sinQ128 (lo r)
  let k := cosQ128 (lo r)
  let s' := sinQ128 (lo (2 ^ 29 - r))
  let k' := cosQ128 (lo (2 ^ 29 - r))
  match half with
  | 0 => (s, k)
  | 1 => (k', s')
  | 2 => (k, -s)
  | 3 => (s', -k')
  | 4 => (-s, -k)
  | 5 => (-k', -s')
  | 6 => (-k, s)
  | _ => (-s', k')

/-- The two words of SINCOS (R318). -/
def sinCos (a : Word) : Word × Word :=
  let (s, k) := sinCosQ128 a.toNat
  (wOfInt (q31Of s), wOfInt (q31Of k))

/-- Interpolation between two table values with a 16-bit fraction (R319). -/
def lerp (t0 t1 : Int) (f : Nat) : Int := t0 + divRoundAway ((t1 - t0) * f) 65536

/-- The two table indices TLI reads (R319). -/
def Rod.tliAddrs (ρ : Rod) (a : Word) (ax : Nat) : Nat × Nat :=
  let n := ρ.g (Fl.TBL_CFG_LEN_LOG2 ax)
  let j := a.toNat / 2 ^ (32 - n)
  (ρ.g (Fl.TBL_CFG_BASE ax) + j, ρ.g (Fl.TBL_CFG_BASE ax) + (j + 1) % 2 ^ n)

/-- The value TLI forms (R319), before saturation. -/
def Rod.tliValue (ρ : Rod) (c : Fin 4) (a : Word) (ax ts : Nat) : Int :=
  let n := ρ.g (Fl.TBL_CFG_LEN_LOG2 ax)
  let base := ρ.g (Fl.TBL_CFG_BASE ax)
  let j := a.toNat / 2 ^ (32 - n)
  let fr := a.toNat % 2 ^ (32 - n) / 2 ^ (16 - n)
  let bank := bankBit ((ρ.col c).tblB.get (axisOf ax)) ts
  let at_ (i : Nat) : Int := (ρ.tblW ts ax bank i).toInt
  lerp (at_ (base + j)) (at_ (base + (j + 1) % 2 ^ n)) fr

/-- The value CLU forms (R320), before saturation. -/
def Rod.cluValue (ρ : Rod) (bank : Nat) (a : Word) (ax : Nat) : Int :=
  let i := wBits a 24 8
  let p (j : Nat) : Int := (ρ.tblW 2 ax bank j).toInt
  if i = 255 then p 255 else lerp (p i) (p (i + 1)) (wBits a 8 16)

/-- The two words LIMC forms from (a, b) and a radius r ≥ 0 (R321). -/
def limc (a b r : Int) : Int × Int :=
  if a * a + b * b ≤ r * r then (a, b)
  else
    let m : Int := isqrt (a * a + b * b).toNat
    let q := min (r * 2 ^ 32 / m) (2 ^ 32 - 1)
    (divRoundAway (a * q) (2 ^ 32), divRoundAway (b * q) (2 ^ 32))

end Sys2Proof.Machine
end

