-- ==== Sys2Proof/Machine/Columns.lean ====
section
/-! DEFINITION. The instructions of the Reckoner (Table 9.2), one meaning each: which rod and column, and bits [55:0] of
the instruction word. -/

namespace Sys2Proof.Machine

/-- A branch (R322): its target must lie above the branch and inside the program whether or not it is taken, and no
branch stands in a REPEAT body (R323). -/
def Rod.branch (q : Rod) (c : Fin 4) (f : BitVec 56) (taken : Bool) : Except Nat Rod :=
  if q.inBody c then .error 0x05
  else if fAddr f ≤ q.pcOf c ∨ q.progLen ≤ fAddr f then .error 0x04
  else .ok (q.goTo c 2 (if taken then fAddr f else q.pcOf c + 1))

/-- An opcode outside Table 9.2 raises exception 0x01 (R316, Table 9.4). -/
def execIllegalOpcode (r : RodId) (c : Fin 4) (opc : Byte) (f : BitVec 56) (s : State) :
    Host.Outcome State Fault Refusal :=
  onRod s r fun ρ =>
    if legalOpc opc.toNat then ρ else ρ.issue c opc.toNat f (2 ^ 56 - 1) fun _ => .error 0x01

/-- LD: v[D] = S[ADDR]. -/
def execLd (r : RodId) (c : Fin 4) (f : BitVec 56) (s : State) : Host.Outcome State Fault Refusal :=
  onRod s r fun ρ => ρ.plain c 0x01 f (mD ||| mAddr) 1 fun q => (q.fetches c 0 (fAddr f)).setV c (fD f) (q.colRead c (fAddr f))

/-- LDX: v[D] = S[(v[A] + ADDR) mod 2^14]. -/
def execLdx (r : RodId) (c : Fin 4) (f : BitVec 56) (s : State) : Host.Outcome State Fault Refusal :=
  onRod s r fun ρ => ρ.plain c 0x02 f (mD ||| mA ||| mAddr) 1 fun q =>
    let a := ((q.v c (fA f)).toNat + fAddr f) % 16384
    (q.fetches c 0 a).setV c (fD f) (q.colRead c a)

/-- ST: S[ADDR] = v[B], under R280 and R281. -/
def execSt (r : RodId) (c : Fin 4) (f : BitVec 56) (s : State) : Host.Outcome State Fault Refusal :=
  onRod s r fun ρ => ρ.plain c 0x03 f (mB ||| mAddr) 1 fun q => q.colWrite c (fAddr f) (q.v c (fB f))

/-- STX: as ST, at (v[A] + ADDR) mod 2^14. -/
def execStx (r : RodId) (c : Fin 4) (f : BitVec 56) (s : State) : Host.Outcome State Fault Refusal :=
  onRod s r fun ρ => ρ.plain c 0x04 f (mA ||| mB ||| mAddr) 1 fun q => q.colWrite c (((q.v c (fA f)).toNat + fAddr f) % 16384) (q.v c (fB f))

/-- MOV: v[D] = v[A]. -/
def execMov (r : RodId) (c : Fin 4) (f : BitVec 56) (s : State) : Host.Outcome State Fault Refusal :=
  onRod s r fun ρ => ρ.plain c 0x05 f (mD ||| mA) 1 fun q => q.setV c (fD f) (q.v c (fA f))

/-- MOVI: v[D] = IMM. -/
def execMovi (r : RodId) (c : Fin 4) (f : BitVec 56) (s : State) : Host.Outcome State Fault Refusal :=
  onRod s r fun ρ => ρ.plain c 0x06 f (mD ||| mImm) 1 fun q => q.setV c (fD f) (BitVec.ofNat 32 (fImm f))

/-- NOP: nothing. -/
def execNopInstruction (r : RodId) (c : Fin 4) (f : BitVec 56) (s : State) : Host.Outcome State Fault Refusal :=
  onRod s r fun ρ => ρ.plain c 0x07 f (0) 1 fun q => q

/-- RID: v[D] = own rod. -/
def execRid (r : RodId) (c : Fin 4) (f : BitVec 56) (s : State) : Host.Outcome State Fault Refusal :=
  onRod s r fun ρ => ρ.plain c 0x08 f (mD) 1 fun q => q.setV c (fD f) (BitVec.ofNat 32 q.me.code)

/-- ADDS: sat32(v[A] + v[B]). -/
def execAdds (r : RodId) (c : Fin 4) (f : BitVec 56) (s : State) : Host.Outcome State Fault Refusal :=
  onRod s r fun ρ => ρ.plain c 0x10 f (mD ||| mA ||| mB) 1 fun q => q.setSatV c (fD f) (q.vi c (fA f) + q.vi c (fB f))

/-- SUBS: sat32(v[A] − v[B]). -/
def execSubs (r : RodId) (c : Fin 4) (f : BitVec 56) (s : State) : Host.Outcome State Fault Refusal :=
  onRod s r fun ρ => ρ.plain c 0x11 f (mD ||| mA ||| mB) 1 fun q => q.setSatV c (fD f) (q.vi c (fA f) - q.vi c (fB f))

/-- ADDW: wrap32(v[A] + v[B]). -/
def execAddw (r : RodId) (c : Fin 4) (f : BitVec 56) (s : State) : Host.Outcome State Fault Refusal :=
  onRod s r fun ρ => ρ.plain c 0x12 f (mD ||| mA ||| mB) 1 fun q => q.setV c (fD f) (q.v c (fA f) + q.v c (fB f))

/-- SUBW: wrap32(v[A] − v[B]). -/
def execSubw (r : RodId) (c : Fin 4) (f : BitVec 56) (s : State) : Host.Outcome State Fault Refusal :=
  onRod s r fun ρ => ρ.plain c 0x13 f (mD ||| mA ||| mB) 1 fun q => q.setV c (fD f) (q.v c (fA f) - q.v c (fB f))

/-- MULW: wrap32(v[A] × v[B]). -/
def execMulw (r : RodId) (c : Fin 4) (f : BitVec 56) (s : State) : Host.Outcome State Fault Refusal :=
  onRod s r fun ρ => ρ.plain c 0x14 f (mD ||| mA ||| mB) 1 fun q => q.setV c (fD f) (q.v c (fA f) * q.v c (fB f))

/-- NEGS: sat32(−v[A]). -/
def execNegs (r : RodId) (c : Fin 4) (f : BitVec 56) (s : State) : Host.Outcome State Fault Refusal :=
  onRod s r fun ρ => ρ.plain c 0x15 f (mD ||| mA) 1 fun q => q.setSatV c (fD f) (-(q.vi c (fA f)))

/-- ABSS: sat32(|v[A]|). -/
def execAbss (r : RodId) (c : Fin 4) (f : BitVec 56) (s : State) : Host.Outcome State Fault Refusal :=
  onRod s r fun ρ => ρ.plain c 0x16 f (mD ||| mA) 1 fun q => q.setSatV c (fD f) ((q.vi c (fA f)).natAbs : Int)

/-- MIN: signed minimum. -/
def execMin (r : RodId) (c : Fin 4) (f : BitVec 56) (s : State) : Host.Outcome State Fault Refusal :=
  onRod s r fun ρ => ρ.plain c 0x17 f (mD ||| mA ||| mB) 1 fun q => q.setV c (fD f) (if q.vi c (fA f) ≤ q.vi c (fB f) then q.v c (fA f) else q.v c (fB f))

/-- MAX: signed maximum. -/
def execMax (r : RodId) (c : Fin 4) (f : BitVec 56) (s : State) : Host.Outcome State Fault Refusal :=
  onRod s r fun ρ => ρ.plain c 0x18 f (mD ||| mA ||| mB) 1 fun q => q.setV c (fD f) (if q.vi c (fA f) ≤ q.vi c (fB f) then q.v c (fB f) else q.v c (fA f))

/-- CLMP: min(max(v[A], −v[B]), v[B]); exception 0x06 if v[B] < 0. -/
def execClmp (r : RodId) (c : Fin 4) (f : BitVec 56) (s : State) : Host.Outcome State Fault Refusal :=
  onRod s r fun ρ => ρ.issue c 0x19 f (mD ||| mA ||| mB) fun q =>
    if q.vi c (fB f) < 0 then .error 0x06
    else .ok ((q.setV c (fD f) (wOfInt (clampI (-(q.vi c (fB f))) (q.vi c (fB f)) (q.vi c (fA f))))).advance c 1)

/-- ASR: floor(v[A] / 2^E), E 0 to 31. -/
def execAsr (r : RodId) (c : Fin 4) (f : BitVec 56) (s : State) : Host.Outcome State Fault Refusal :=
  onRod s r fun ρ => ρ.issue c 0x1A f (mD ||| mA ||| mE) fun q =>
    if 31 < fE f then .error 0x02
    else .ok ((q.setV c (fD f) (wOfInt (q.vi c (fA f) / 2 ^ fE f))).advance c 1)

/-- LSL: wrap32(v[A] × 2^E), E 0 to 31. -/
def execLsl (r : RodId) (c : Fin 4) (f : BitVec 56) (s : State) : Host.Outcome State Fault Refusal :=
  onRod s r fun ρ => ρ.issue c 0x1B f (mD ||| mA ||| mE) fun q =>
    if 31 < fE f then .error 0x02
    else .ok ((q.setV c (fD f) (q.v c (fA f) <<< fE f)).advance c 1)

/-- AND: bitwise AND. -/
def execAnd (r : RodId) (c : Fin 4) (f : BitVec 56) (s : State) : Host.Outcome State Fault Refusal :=
  onRod s r fun ρ => ρ.plain c 0x1C f (mD ||| mA ||| mB) 1 fun q => q.setV c (fD f) (q.v c (fA f) &&& q.v c (fB f))

/-- OR: bitwise OR. -/
def execOr (r : RodId) (c : Fin 4) (f : BitVec 56) (s : State) : Host.Outcome State Fault Refusal :=
  onRod s r fun ρ => ρ.plain c 0x1D f (mD ||| mA ||| mB) 1 fun q => q.setV c (fD f) (q.v c (fA f) ||| q.v c (fB f))

/-- XOR: bitwise exclusive OR. -/
def execXor (r : RodId) (c : Fin 4) (f : BitVec 56) (s : State) : Host.Outcome State Fault Refusal :=
  onRod s r fun ρ => ρ.plain c 0x1E f (mD ||| mA ||| mB) 1 fun q => q.setV c (fD f) (q.v c (fA f) ^^^ q.v c (fB f))

/-- CLRA: acc = 0. -/
def execClra (r : RodId) (c : Fin 4) (f : BitVec 56) (s : State) : Host.Outcome State Fault Refusal :=
  onRod s r fun ρ => ρ.plain c 0x20 f (mAcc) 1 fun q => q.setAcc c (fAcc f) 0

/-- LDA: acc = clamp72(v[A] × 2^E). -/
def execLda (r : RodId) (c : Fin 4) (f : BitVec 56) (s : State) : Host.Outcome State Fault Refusal :=
  onRod s r fun ρ => ρ.plain c 0x21 f (mAcc ||| mA ||| mE) 1 fun q => q.setAcc c (fAcc f) (q.vi c (fA f) * 2 ^ fE f)

/-- MACC: R277 with s = v[A] and coefficient C[ADDR]. -/
def execMacc (r : RodId) (c : Fin 4) (f : BitVec 56) (s : State) : Host.Outcome State Fault Refusal :=
  onRod s r fun ρ => ρ.issue c 0x22 f (mAcc ||| mA ||| mAddr) fun q =>
    if 0xFFF < fAddr f then .error 0x02
    else
      let (m, k) := q.coefOf c (fAddr f)
      .ok (((q.fetches c 1 (fAddr f)).setAcc c (fAcc f) (q.acc c (fAcc f) + macTerm (q.vi c (fA f) * m) k)).advance c 1)

/-- MSCC: as MACC, with the term subtracted. -/
def execMscc (r : RodId) (c : Fin 4) (f : BitVec 56) (s : State) : Host.Outcome State Fault Refusal :=
  onRod s r fun ρ => ρ.issue c 0x23 f (mAcc ||| mA ||| mAddr) fun q =>
    if 0xFFF < fAddr f then .error 0x02
    else
      let (m, k) := q.coefOf c (fAddr f)
      .ok (((q.fetches c 1 (fAddr f)).setAcc c (fAcc f) (q.acc c (fAcc f) - macTerm (q.vi c (fA f) * m) k)).advance c 1)

/-- MACV: v[A] × v[B], shifted right by 16 − K, added. -/
def execMacv (r : RodId) (c : Fin 4) (f : BitVec 56) (s : State) : Host.Outcome State Fault Refusal :=
  onRod s r fun ρ => ρ.plain c 0x24 f (mAcc ||| mA ||| mB ||| mK) 1 fun q => q.setAcc c (fAcc f) (q.acc c (fAcc f) + macTerm (q.vi c (fA f) * q.vi c (fB f)) (fK f))

/-- MSCV: as MACV, with the term subtracted. -/
def execMscv (r : RodId) (c : Fin 4) (f : BitVec 56) (s : State) : Host.Outcome State Fault Refusal :=
  onRod s r fun ρ => ρ.plain c 0x25 f (mAcc ||| mA ||| mB ||| mK) 1 fun q => q.setAcc c (fAcc f) (q.acc c (fAcc f) - macTerm (q.vi c (fA f) * q.vi c (fB f)) (fK f))

/-- BIAS: as MACC with p = m × 2^31. -/
def execBias (r : RodId) (c : Fin 4) (f : BitVec 56) (s : State) : Host.Outcome State Fault Refusal :=
  onRod s r fun ρ => ρ.issue c 0x26 f (mAcc ||| mAddr) fun q =>
    if 0xFFF < fAddr f then .error 0x02
    else
      let (m, k) := q.coefOf c (fAddr f)
      .ok (((q.fetches c 1 (fAddr f)).setAcc c (fAcc f) (q.acc c (fAcc f) + macTerm (m * 2 ^ 31) k)).advance c 1)

/-- EXT: R279. -/
def execExt (r : RodId) (c : Fin 4) (f : BitVec 56) (s : State) : Host.Outcome State Fault Refusal :=
  onRod s r fun ρ => ρ.plain c 0x27 f (mD ||| mAcc ||| mE) 2 fun q => q.ext c (fD f) (q.acc c (fAcc f)) (fE f)

/-- SINCOS: R318. -/
def execSincos (r : RodId) (c : Fin 4) (f : BitVec 56) (s : State) : Host.Outcome State Fault Refusal :=
  onRod s r fun ρ => ρ.issue c 0x30 f (mD ||| mA) fun q =>
    if fD f = 31 then .error 0x02
    else
      let (s, k) := sinCos (q.v c (fA f))
      .ok (((q.setV c (fD f) s).setV c (fD f + 1) k).advance c 4)

/-- TLI: R319. -/
def execTli (r : RodId) (c : Fin 4) (f : BitVec 56) (s : State) : Host.Outcome State Fault Refusal :=
  onRod s r fun ρ => ρ.issue c 0x31 f (mD ||| mA ||| mAx ||| mTs) fun q =>
    if fAx f = 3 ∨ 2 ≤ fTs f then .error 0x02
    else
      let a := q.tliAddrs (q.v c (fA f)) (fAx f)
      .ok ((((q.fetches c 2 a.1).fetches c 2 a.2).setSatV c (fD f) (q.tliValue c (q.v c (fA f)) (fAx f) (fTs f))).advance c 3)

/-- CLU: R320. -/
def execClu (r : RodId) (c : Fin 4) (f : BitVec 56) (s : State) : Host.Outcome State Fault Refusal :=
  onRod s r fun ρ => ρ.issue c 0x32 f (mD ||| mA ||| mAx) fun q =>
    if fAx f = 3 then .error 0x02
    else
      let bank := bankBit ((q.col c).tblB.get (axisOf (fAx f))) 2
      let i := wBits (q.v c (fA f)) 24 8
      let q1 := (q.fetches c 3 i).when (i != 255) (·.fetches c 3 (i + 1))
      .ok ((q1.setSatV c (fD f) (q.cluValue bank (q.v c (fA f)) (fAx f))).advance c 3)

/-- LIMC: R321. -/
def execLimc (r : RodId) (c : Fin 4) (f : BitVec 56) (s : State) : Host.Outcome State Fault Refusal :=
  onRod s r fun ρ => ρ.issue c 0x33 f (mD ||| mA) fun q =>
    if fD f = 31 then .error 0x02
    else if q.vi c (fA f) < 0 then .error 0x06
    else
      let (x, y) := limc (q.vi c (fD f)) (q.vi c (fD f + 1)) (q.vi c (fA f))
      .ok (((q.setV c (fD f) (wOfInt x)).setV c (fD f + 1) (wOfInt y)).advance c 8)

/-- BLT: branch if v[A] < v[B], signed. -/
def execBlt (r : RodId) (c : Fin 4) (f : BitVec 56) (s : State) : Host.Outcome State Fault Refusal :=
  onRod s r fun ρ => ρ.issue c 0x38 f (mA ||| mB ||| mAddr) fun q =>
    q.branch c f (decide (q.vi c (fA f) < q.vi c (fB f)))

/-- BGE: branch if v[A] ≥ v[B]. -/
def execBge (r : RodId) (c : Fin 4) (f : BitVec 56) (s : State) : Host.Outcome State Fault Refusal :=
  onRod s r fun ρ => ρ.issue c 0x39 f (mA ||| mB ||| mAddr) fun q =>
    q.branch c f (decide (q.vi c (fB f) ≤ q.vi c (fA f)))

/-- BEQ: branch if equal. -/
def execBeq (r : RodId) (c : Fin 4) (f : BitVec 56) (s : State) : Host.Outcome State Fault Refusal :=
  onRod s r fun ρ => ρ.issue c 0x3A f (mA ||| mB ||| mAddr) fun q =>
    q.branch c f (q.v c (fA f) == q.v c (fB f))

/-- BNE: branch if not equal. -/
def execBne (r : RodId) (c : Fin 4) (f : BitVec 56) (s : State) : Host.Outcome State Fault Refusal :=
  onRod s r fun ρ => ρ.issue c 0x3B f (mA ||| mB ||| mAddr) fun q =>
    q.branch c f (q.v c (fA f) != q.v c (fB f))

/-- JMP: branch always. -/
def execJmp (r : RodId) (c : Fin 4) (f : BitVec 56) (s : State) : Host.Outcome State Fault Refusal :=
  onRod s r fun ρ => ρ.issue c 0x3C f (mAddr) fun q =>
    q.branch c f true

/-- REPEAT: R323. -/
def execRepeatN (r : RodId) (c : Fin 4) (f : BitVec 56) (s : State) : Host.Outcome State Fault Refusal :=
  onRod s r fun ρ => ρ.issue c 0x3D f (mCnt ||| 0x3F) fun q =>
    if q.inBody c then .error 0x05
    else if q.progLen ≤ q.pcOf c + fAddr f % 64 + 1 then .error 0x05
    else
      let ρ1 := q.goTo c 1 (q.pcOf c + 1)
      .ok (ρ1.putCol c { ρ1.col c with rep := some (q.pcOf c + 1, fAddr f % 64 + 1, fCnt f, true) })

/-- CLRF: clears SAT, AOV, PROT and COLL of the column. -/
def execClrf (r : RodId) (c : Fin 4) (f : BitVec 56) (s : State) : Host.Outcome State Fault Refusal :=
  onRod s r fun ρ => ρ.plain c 0x3E f (0) 1 fun q => q.setFlags c (q.gw (Rg.COL_FLAGS c.val) &&& 0x0FFFFFFF#32)

/-- HALT: ends the block. -/
def execHalt (r : RodId) (c : Fin 4) (f : BitVec 56) (s : State) : Host.Outcome State Fault Refusal :=
  onRod s r fun ρ => ρ.issue c 0x3F f (0) fun q =>
    if q.inBody c then .error 0x05
    else .ok (((q.note c (q.nowOf c) (.stop (q.pcOf c) 0)).goTo c 1 (q.pcOf c)).haltBlock c)

end Sys2Proof.Machine
end

