-- ==== Sys2Proof/Machine/Axis.lean ====
section
/-! DEFINITION. The fixed axis functions (spec/10_axis_control.md): the healthy mask, SET_ON and set-state messages, the
share unit, and the test injection. -/

namespace Sys2Proof.Machine

def axisPage (n : Axis) : Nat := 0x070 + n.val

/-! ### Sets -/

/-- Whether a rod's set of an axis is connected (AX_CFG.SETS). -/
def Rod.connected (ρ : Rod) (r : RodId) (n : Axis) : Bool := ρ.bitOf (Fl.AX_CFG_SETS n.val) r.code

/-- Whether a set is healthy (R342). -/
def Rod.healthy (ρ : Rod) (n : Axis) (r : RodId) : Bool :=
  ρ.seen r == RS.active && ρ.connected r n &&
  (if r = ρ.me then ρ.rk.setEff.get n else (ρ.rk.pEff.get r.idx).get n && !ρ.rk.dqOut.get r.idx && ρ.reach r)

/-- The healthy mask of an axis, bit 0 X, 1 Y, 2 Z (R342). -/
def Rod.healthyMask (ρ : Rod) (n : Axis) : Nat := rodMask (allRods.filter (ρ.healthy n))

/-- The healthy sets of an axis. -/
def Rod.healthySets (ρ : Rod) (n : Axis) : List RodId := allRods.filter (ρ.healthy n)

/-- SET_ON of the own set of an axis changes, and the partners are told (R343). -/
def Rod.setSetOn (ρ : Rod) (n : Axis) (on : Bool) : Rod :=
  if ρ.rk.setOn.get n = on then ρ
  else
    ({ ρ with rk := { ρ.rk with setOn := ρ.rk.setOn.set n on, setFt := ρ.rk.setFt.set n ρ.ft } }).send
      (.setState ⟨n, ρ.epoch, on, BitVec.ofNat 64 ρ.ft⟩)

/-- SET_ON of every set returns at STANDBY (R672). -/
def Rod.restoreSets (ρ : Rod) : Rod := ρ.each allAxes fun n q => q.setSetOn n true

/-- The healthy mask takes SET_ON of an own set, and of a set a partner reports, at the first tick that begins at least 2 µs after
its change (R343). -/
def Rod.takeSetOn (ρ : Rod) : Rod :=
  let due (t : Nat) : Bool := decide (t + 2000 ≤ ρ.ft) || t == 0
  let take (ft : Tri Nat) (new old : Tri Bool) : Tri Bool :=
    allAxes.foldl (fun o n => if due (ft.get n) then o.set n (new.get n) else o) old
  let part (i : Fin 3) : Tri Bool := take (ρ.rk.pFt.get i) (ρ.rk.pSet.get i) (ρ.rk.pEff.get i)
  { ρ with rk := { ρ.rk with setEff := take ρ.rk.setFt ρ.rk.setOn ρ.rk.setEff, pEff := ⟨part 0, part 1, part 2⟩ } }

/-- Record 0x0901 or 0x0902 for a set whose healthy bit changed, in OPERATE or LIMP only (R364). -/
def Rod.setRecord (ρ : Rod) (n : Axis) (old new : Nat) (r : RodId) : Rod :=
  let was := old.testBit r.code
  let is_ := new.testBit r.code
  if was = is_ ∨ ¬(ρ.mode = SM.operate ∨ ρ.mode = SM.limp) then ρ
  else if is_ then ρ.fltA 0x0902 sevInfo (axisPage n) n [(0, 1, n.val), (1, 1, r.code), (3, 1, new)]
  else
    let cause := if r = ρ.me then 1 else if !(ρ.rk.pEff.get r.idx).get n then 1 else ρ.rk.gone.get r.idx
    ρ.fltA 0x0901 sevDegrade (axisPage n) n [(0, 1, n.val), (1, 1, r.code), (2, 1, cause), (3, 1, new)]

/-- AXSTAT_n as cycle 0 of a tick writes it (Table 8.3). -/
def Rod.axstat (ρ : Rod) (n : Axis) : Word :=
  BitVec.ofNat 32 (b2n (ρ.leads n) + 2 * b2n (ρ.rk.setOn.get n) + 4 * b2n (ρ.rk.drvFlt.get n) +
    8 * b2n (ρ.rk.fbkFlt.get n) + 2 ^ 8 * ρ.healthyMask n + 2 ^ 16 * ρ.g Fl.CR_EPOCH_EPOCH)

/-- The code of a phase current for a shunt voltage in nV (R336, AX_CFG.GAIN): the nearest integer, a tie away from zero.
(DESIGN CHOICE, log entry 81) -/
def Rod.currentCode (ρ : Rod) (n : Axis) (nv : Int) : Nat :=
  let g : Int := 5 * 2 ^ ρ.g (Fl.AX_CFG_GAIN n.val)
  (clampI 0 65535 (32768 + divRoundAway (65536 * g * nv) 3000000000)).toNat

/-! ### The share unit -/

/-- The limit of a set in units of 1/600 of a Q1.31 unit (R346): exact under the scale of LIMP. -/
def Rod.setLimit (ρ : Rod) (n : Axis) (r : RodId) : Int :=
  let pct := if ρ.mode = SM.limp then ρ.g (Fl.AX_LIMP_PCT n.val) else 100
  (ρ.g (Fl.AX_ILIM_LIM n.val r.code) : Int) * 65536 * 6 * pct

/-- Places a magnitude equally among sets, cuts each share to its limit and shares the excess again (R32): shares by
rod, in the unit of the limits. -/
def place : Nat → Int → List (RodId × Int) → List (RodId × Int)
  | 0, _, _ => []
  | _ + 1, _, [] => []
  | k + 1, t, l =>
    let share := t / (l.length : Int)
    let cut := l.filter fun e => decide (e.2 < share)
    if cut.isEmpty then l.map fun e => (e.1, share)
    else cut ++ place k (t - (cut.map (·.2)).sum) (l.filter fun e => decide (share ≤ e.2))

/-- The share of a rod in a placement; 0 where it has none. -/
def shareOf (l : List (RodId × Int)) (r : RodId) : Int := ((l.find? fun e => e.1 == r).map (·.2)).getD 0

/-- T_AX limited to the range of axis inputs 6 and 7, a negative limit counting as 0 (R346). -/
def limitTq (t pos neg : Int) : Int := clampI (-(max neg 0)) (max pos 0) t

/-- The value a rod's set receives, with the sign of T_AX, rounded half away from zero (R346). -/
def shareWord (t600 : Int) (neg : Bool) : Int :=
  let m := divRoundAway t600 600
  satW (if neg then -m else m)

/-- The share unit (R345 to R347, R498 for split control): `iq` is the value of an injection into the q-current reference (R354). -/
def Rod.shareUnit (ρ : Rod) (n : Axis) (iq : Int) : Rod :=
  let t := if ρ.b Fl.CR_STAT_SPLIT then divTrunc (ρ.sg (torqueW n.val 3)).toInt 2 else (ρ.sg (torqueW n.val 3)).toInt
  let lt := limitTq t (ρ.sg (inputW n.val 6)).toInt (ρ.sg (inputW n.val 7)).toInt
  let sets := ρ.healthySets n
  let lims := sets.map fun r => (r, ρ.setLimit n r)
  let mag := (lt.natAbs : Int) * 4 * 600
  let pl := place 4 mag lims
  let neg := decide (lt < 0)
  let w (r : RodId) : Int := if sets.contains r then shareWord (shareOf pl r) neg else 0
  let placed := divRoundAway (w .x + w .y + w .z) 4
  let bound := decide ((lims.map (·.2)).sum ≤ mag)
  let short := if sets.isEmpty then lt else if bound then lt - placed else 0
  let out (r : RodId) : Int :=
    if sets.contains r then
      let l := divTrunc (ρ.setLimit n r) 600
      if iq = 0 then w r else satW (clampI (-l) l (w r + iq))
    else 0
  let mask := ρ.healthyMask n
  let ρ1 := ρ.each allRods fun r q => q.sp (torqueW n.val r.code) (wOfInt (out r))
  let ρ2 := (((ρ1.sp (torqueW n.val 5) (wOfInt placed)).sp (torqueW n.val 6) (wOfInt short)).sp (torqueW n.val 7)
    (BitVec.ofNat 32 (mask + 2 ^ 8 * sets.length)))
  let chg := mask != ρ2.g (Fl.AX_SHARE_HEALTHY n.val) || sets.length != ρ2.g (Fl.AX_SHARE_N n.val)
  let ρ3 := ((ρ2.when chg (·.irq (axisPage n) 0)).p (Fl.AX_SHARE_HEALTHY n.val) mask).p (Fl.AX_SHARE_N n.val) sets.length
  let rise := short != 0 && !ρ3.b (Fl.AX_SHARE_SHORT_ON n.val)
  let ρ4 := ρ3.when rise fun q =>
    (q.irq (axisPage n) 1).fltA 0x0903 sevWarn (axisPage n) n [(0, 1, n.val), (4, 4, natOfInt 32 short)]
  ((ρ4.p (Fl.AX_SHARE_SHORT_ON n.val) (b2n (short != 0))).p (Fl.AX_TQ_T n.val) (natOfInt 32 lt)).p
    (Fl.AX_SHORT_SHORT n.val) (natOfInt 32 short)

/-! ### Test injection -/

/-- The feedback of the PRBS register: the exclusive OR of the taps of Table 10.8. -/
def prbsTaps (n : Nat) : List Nat :=
  match n with
  | 7 => [7, 6] | 8 => [8, 6, 5, 4] | 9 => [9, 5] | 10 => [10, 7] | 11 => [11, 9] | 12 => [12, 6, 4, 1]
  | 13 => [13, 4, 3, 1] | 14 => [14, 5, 3, 1] | 15 => [15, 14]
  | _ => []

/-- One bit step of the PRBS register of n bits (R356). -/
def prbsStep (n reg : Nat) : Nat :=
  let fb := (prbsTaps n).foldl (fun b t => b != reg.testBit (t - 1)) false
  (2 * reg + b2n fb) % 2 ^ n

/-- The increment of the phase for a frequency in mHz and twice a tick period in ns (R355). -/
def phaseInc (mHz tick2 : Nat) : Nat := (mHz * tick2 * 2 ^ 32 + 10 ^ 12) / (2 * 10 ^ 12)

/-- No value is applied any more: input 15 reads 0, the targets take their own values again (R357). -/
def Rod.injClear (ρ : Rod) (n : Axis) (tgt : Nat) : Rod :=
  let ρ1 := ((ρ.sp (inputW n.val 15) 0#32).sp (inputW n.val 0) (ρ.rk.posRaw.get n)).sp (torqueW n.val 4) (ρ.rk.idBase.get n)
  if tgt = 2 then ρ1.shareUnit n 0 else ρ1

/-- Ends an injection with ABORT (R357). -/
def Rod.injAbort (ρ : Rod) (n : Axis) (cause : Nat) : Rod :=
  match ρ.rk.inj.get n with
  | none => ρ
  | some i =>
    let ρ1 := ({ ρ with rk := { ρ.rk with inj := ρ.rk.inj.set n none } }).injClear n i.tgt
    ((((ρ1.p (Fl.INJ_STAT_RUN n.val) 0).p (Fl.INJ_STAT_ABORT n.val) 1).p (Fl.INJ_STAT_CAUSE n.val) cause).irq
      (axisPage n) 3).fltA 0x0912 sevWarn (axisPage n) n [(0, 1, n.val), (1, 1, cause), (4, 4, ρ.g (Fl.INJ_CNT_K n.val))]

/-- Starts an injection at a commit of group 2 with EN = 1 (R353, R357). -/
def Rod.injStart (ρ : Rod) (n : Axis) : Rod :=
  let i := n.val
  let ρ1 := ρ.injAbort n 5
  let inj : Inj :=
    { k := 0, len := ρ.g (Fl.INJ_LEN_LEN i), phi := 0, inc0 := phaseInc (ρ.g (Fl.INJ_F0_F i)) ρ.tickNow
      inc1 := phaseInc (ρ.g (Fl.INJ_F1_F i)) ρ.tickNow, lfsr := 2 ^ ρ.g (Fl.INJ_CFG_PRBS_N i) - 1, bit := false
      mask := ρ.healthyMask n, lead := ρ.rk.lead.get n, tgt := ρ.g (Fl.INJ_CFG_TGT i), stop := false, off := false }
  let ρ2 := { ρ1 with rk := { ρ1.rk with inj := ρ1.rk.inj.set n (some inj) } }
  (((ρ2.p (Fl.INJ_STAT_RUN i) 1).p (Fl.INJ_STAT_DONE i) 0).p (Fl.INJ_CNT_K i) 0).fltA 0x0910 sevInfo (axisPage n) n
    [(0, 1, i), (1, 1, ρ.g (Fl.INJ_CFG_TGT i)), (2, 1, ρ.g (Fl.INJ_CFG_WAVE i)), (8, 8, ρ.ft)]

/-- Ends an injection with DONE (R357): the length is reached, or a STOP has come to its tick. -/
def Rod.injDone (ρ : Rod) (n : Axis) : Rod :=
  match ρ.rk.inj.get n with
  | none => ρ
  | some i =>
    if i.len ≤ i.k ∨ i.off = true then
      let ρ1 := ({ ρ with rk := { ρ.rk with inj := ρ.rk.inj.set n none } }).injClear n i.tgt
      (((ρ1.p (Fl.INJ_STAT_RUN n.val) 0).p (Fl.INJ_STAT_DONE n.val) 1).irq (axisPage n) 2).fltA 0x0911 sevInfo
        (axisPage n) n [(0, 1, n.val), (1, 1, if i.len ≤ i.k then 1 else 2), (4, 4, ρ.g (Fl.INJ_CNT_K n.val))]
    else ρ

/-- A write of INJ_CMD.STOP ends the running injection at the next tick (R357). -/
def Rod.writeInjCmd (ρ : Rod) (n : Axis) (data : Word) : Rod :=
  match ρ.rk.inj.get n with
  | none => ρ
  | some i => if wBit data 0 then { ρ with rk := { ρ.rk with inj := ρ.rk.inj.set n (some { i with stop := true }) } } else ρ

/-- Value k of an injection, and the injection after it (R355, R356). -/
def Rod.injValue (ρ : Rod) (n : Axis) (i : Inj) : Int × Inj :=
  let a : Int := ρ.g (Fl.INJ_AMP_A n.val)
  let wave := ρ.g (Fl.INJ_CFG_WAVE n.val)
  let hold := ρ.g (Fl.INJ_CFG_HOLD n.val)
  let pn := ρ.g (Fl.INJ_CFG_PRBS_N n.val)
  let step := wave == 1 && i.k % hold == 0
  let bit := if step then i.lfsr.testBit (pn - 1) else i.bit
  let reg := if step then prbsStep pn i.lfsr else i.lfsr
  let inc : Int := if wave = 2 then i.inc0 + ((i.k : Int) * ((i.inc1 : Int) - i.inc0)) / i.len else i.inc0
  let sine := (sinCos (BitVec.ofNat 32 i.phi)).1.toInt
  let v : Int :=
    if wave = 0 then a else if wave = 1 then (if bit then a else -a) else divRoundAway (a * sine) (2 ^ 31)
  (v, { i with k := i.k + 1, phi := natOfInt 32 (i.phi + inc), lfsr := reg, bit := bit })

/-- The value an injection applies at a tick, if one runs (R354, R357), with its abort conditions checked. The mask and the lead are
those of tick 0. (DESIGN CHOICE, log entry 20) -/
def Rod.injTick (ρ : Rod) (n : Axis) : Int × Rod :=
  match ρ.rk.inj.get n with
  | none => (0, ρ)
  | some i =>
    if ρ.mode ≠ SM.operate then (0, ρ.injAbort n 1)
    else if i.k ≠ 0 ∧ ρ.healthyMask n ≠ i.mask then (0, ρ.injAbort n 2)
    else if i.k ≠ 0 ∧ ρ.rk.lead.get n ≠ i.lead then (0, ρ.injAbort n 3)
    else if i.len ≤ i.k then (0, ρ.injClear n i.tgt)
    else if i.stop then
      (0, ({ ρ with rk := { ρ.rk with inj := ρ.rk.inj.set n (some { i with off := true }) } }).injClear n i.tgt)
    else
      let (v, i') := ρ.injValue n i
      let i1 := if i.k = 0 then { i' with mask := ρ.healthyMask n, lead := ρ.rk.lead.get n } else i'
      let ρ1 := { ρ with rk := { ρ.rk with inj := ρ.rk.inj.set n (some i1) } }
      (v, ((ρ1.p (Fl.INJ_CNT_K n.val) i.k).p (Fl.INJ_VAL_V n.val) (natOfInt 32 v)).sp (inputW n.val 15) (wOfInt v))

end Sys2Proof.Machine
end

