-- ==== Sys2Proof/Machine/Drive.lean ====
section
/-! DEFINITION. Gate drive, power stage and motor supply (spec/13_gate_drive.md): enables and the priority of
Table 13.1, class-T and class-E faults, clearing pulses, direct diagnostic mode, off-state diagnostics, bootstrap
pre-charge, the chopper and the supply monitor. -/

namespace Sys2Proof.Machine

def drivePage (n : Axis) : Nat := 0x090 + n.val

/-- Roles of an axis (AX_CFG.ROLE). -/
def roleSteer : Nat := 0
def roleBrake : Nat := 1
def roleFeel : Nat := 2
def rolePump : Nat := 3

def Rod.role (ρ : Rod) (n : Axis) : Nat := ρ.g (Fl.AX_CFG_ROLE n.val)

/-- Whether an axis is a STEER or BRAKE axis. -/
def Rod.steerBrake (ρ : Rod) (n : Axis) : Bool := ρ.role n == roleSteer || ρ.role n == roleBrake

/-- Whether an axis is armed (ARM_CFG.AXES). -/
def Rod.axisArmed (ρ : Rod) (n : Axis) : Bool := ρ.bitOf Fl.ARM_CFG_AXES n.val

/-- The phase of a pump axis (Table 11.2). -/
def Rod.pumpPhase (ρ : Rod) (n : Axis) : Nat := ρ.g (Fl.PMP_STAT_PHASE n.val)

/-- Phases with high-Z gates: OFF, IDLE, CATCH and FAULT. -/
def highZPhase (p : Nat) : Bool := p == 0 || p == 1 || p == 2 || p == 7

/-! ### Enables and gates -/

/-- Whether the gates of an axis are driven in the mode in force (R426, R93): in ARMING during the pre-charge, and those of a PUMP
axis from step 5 on (R100). -/
def Rod.gatesDriven (ρ : Rod) (n : Axis) : Bool :=
  ρ.axisArmed n &&
  (ρ.mode == SM.operate || ρ.mode == SM.limp ||
    (ρ.state == RS.rejoin && ρ.md.pre) ||
    (ρ.mode == SM.arming && (ρ.md.pre || (ρ.role n == rolePump && decide (5 ≤ ρ.g Fl.ARM_STAT_STEP)))))

/-- The enable of a half-bridge but for a clearing pulse (R426); step 6 of REJOIN pre-charges as well (R501). -/
def Rod.enableBut (ρ : Rod) (n : Axis) : Bool :=
  (ρ.state == RS.active || (ρ.state == RS.rejoin && ρ.md.pre)) && ρ.connected ρ.me n && ρ.rk.setOn.get n && ρ.gatesDriven n &&
  !(ρ.steerBrake n && ρ.waits n) && (ρ.md.pre || !(ρ.role n == rolePump && highZPhase (ρ.pumpPhase n))) &&
  !ρ.md.hold && !ρ.md.safeAx.get n

/-- The enable of a half-bridge (R426). (DEDUCED, log entry 42) -/
def Rod.enable (ρ : Rod) (n : Axis) (p : Phase) : Bool := ρ.enableBut n && !(ρ.half n p).clr

/-- ASC_n as the safety monitor drives it (R104): for the role safe state applied to a STEER axis, and from ARMING to SAFE for a
STEER axis that AXES does not arm, in a rod in service (R93); not while the off-state diagnostics need the gates off (R455).
(DEDUCED, log entry 66) -/
def Rod.ascLine (ρ : Rod) (n : Axis) : Bool :=
  ρ.md.asc.get n ||
    (ρ.role n == roleSteer && !ρ.axisArmed n && decide (SM.arming ≤ ρ.mode) && RS.serving ρ.state && decide (3 ≤ ρ.md.osdSet))

/-- The first row of Table 13.1 whose condition holds (R427). -/
def Rod.gateRow (ρ : Rod) (n : Axis) (p : Phase) : Nat :=
  let h := ρ.half n p
  if ρ.die.fence then 1
  else if h.tCause ≠ 0 then 2
  else if ρ.die.supAsc then 3
  else if ρ.md.dis then 4
  else if ρ.ascLine n then 5
  else if h.eAct.e1 || h.eAct.e2 then 6
  else if h.eAct.e0 then 7
  else if ρ.enable n p then 9
  else 8

/-- High side and low side of a half-bridge under its pulse input (R424, R427, R451). -/
def Rod.gates (ρ : Rod) (n : Axis) (p : Phase) (pulse : Bool) : Bool × Bool :=
  let row := ρ.gateRow n p
  let diag := ρ.b (Fl.DRV_DIAG_EN n.val)
  let hi := if row = 9 ∨ row = 8 then
      (if diag then ρ.bitOf (Fl.DRV_DIAG_GH n.val) p.val else decide (row = 9) && pulse)
    else false
  let lo := if row = 3 ∨ row = 5 then true
    else if row = 7 then !pulse
    else if row = 9 ∨ row = 8 then
      (if diag then ρ.bitOf (Fl.DRV_DIAG_GL n.val) p.val else decide (row = 9) && !pulse)
    else false
  (hi, lo && !ρ.die.vgdUv)

/-! ### Pulse pattern

Positions in a period are steps of 390.625 ps from its valley, 16 to a unit of 6.25 ns (R431). -/

/-- The applied duty in units of 2^−24 (R433). -/
def Rod.applied (ρ : Rod) (n : Axis) (p : Phase) : Nat :=
  let d := (ρ.half n p).duty
  if ρ.dutyMax n = 0x10000 then (if 0xFF0000 ≤ d then 2 ^ 24 else d) else min d (ρ.dutyMax n * 256)

/-- The step nearest to P/2 × x / 2^24, a tie to the later one (R431). -/
def Rod.edgeAt (ρ : Rod) (x : Nat) : Nat := (8 * ρ.perNow * x + 2 ^ 23) / 2 ^ 24

/-- The edges of the pulse: from P/2 − d × P/2 to P/2 + d × P/2, with the duty in force as each is reached (R431, R432). -/
def Rod.riseAt (ρ : Rod) (n : Axis) (p : Phase) : Nat := ρ.edgeAt (2 ^ 24 - ρ.applied n p)
def Rod.fallAt (ρ : Rod) (n : Axis) (p : Phase) : Nat := ρ.edgeAt (2 ^ 24 + ρ.applied n p)

/-- Half the width of a refresh, 300 ns + DT, about the valley that ends the REFRESH_N-th full-duty period; 0 where none is due
(R434). -/
def Rod.refreshHalf (ρ : Rod) (n : Axis) (p : Phase) : Nat :=
  let h := ρ.half n p
  if decide (0 < h.full) && decide (ρ.refreshN n ≤ h.full) then 384 + 8 * ρ.deadTime n else 0

/-- Whether the pulse is held at 0: in the stretched tick (R435), and while the low sides pre-charge the bootstraps (R454). -/
def Rod.pulseHeld (ρ : Rod) : Bool := ρ.stretched || ρ.md.pre

/-- The pulse input of a half-bridge at a step of the period (R431 to R435). -/
def Rod.pulseAt (ρ : Rod) (n : Axis) (p : Phase) (t : Nat) : Bool :=
  let w := ρ.refreshHalf n p
  if ρ.pulseHeld || decide (t < w) || decide (16 * ρ.perNow < t + w) then false
  else ρ.applied n p == 2 ^ 24 || (decide (ρ.riseAt n p ≤ t) && decide (t < ρ.fallAt n p))

/-- High side and low side at a step of the period, with the dead time after the partner's turn-off (R425); direct diagnostic mode
inserts none (R451). (DEDUCED, log entry 72) -/
def Rod.gatesAt (ρ : Rod) (n : Axis) (p : Phase) (t : Nat) : Bool × Bool :=
  let (hi, lo) := ρ.gates n p (ρ.pulseAt n p t)
  let dt := 16 * ρ.deadTime n
  let per := 16 * ρ.perNow
  let w := ρ.refreshHalf n p
  if ρ.b (Fl.DRV_DIAG_EN n.val) || ρ.pulseHeld then (hi, lo)
  else if ρ.applied n p = 2 ^ 24 then
    (hi && decide (w = 0 ∨ w + dt ≤ t), lo && (if t < w then decide (dt ≤ t + w) else decide (per + dt ≤ t + w)))
  else
    let row := ρ.gateRow n p
    (hi && decide (ρ.riseAt n p + dt ≤ t),
      lo && (decide (row ≠ 7 ∧ row ≠ 9) || ρ.applied n p == 0 || decide (ρ.fallAt n p + dt ≤ t) ||
        (decide (t < ρ.riseAt n p) && decide (ρ.fallAt n p + dt ≤ t + per))))

/-- Whether the low side has conducted for the 400 ns before the valley that a current word asks for: (1 − d) × P/2 − DT ≥ 400 ns
(R452), in steps times 2^24. -/
def Rod.currentValid (ρ : Rod) (n : Axis) (p : Phase) : Bool :=
  decide ((1024 + 16 * ρ.deadTime n) * 2 ^ 24 ≤ (2 ^ 24 - ρ.applied n p) * 8 * ρ.perNow)

/-- The gate profile of a turn-on or a turn-off command: the current in mA of PRE and of SLOPE with its time in steps of 12.5 ns, a
phase of time 0 skipped, and then HOLD (R439, R441); the soft turn-off after a desaturation is SLOPE for the whole edge (R443).
(DEDUCED, log entry 72) -/
def Rod.profile (ρ : Rod) (n : Axis) (on_ soft : Bool) : List (Nat × Nat) :=
  let w := if on_ then ρ.pwm.on_.get n else ρ.pwm.off.get n
  let pre := wBits w 24 6
  let slope := wBits w 0 8
  let full := if on_ then 3000 else 4000
  if soft then [(wBits w 16 5 * 100, pre + slope)]
  else [(full, pre), (wBits w 16 5 * 100, slope)].filter fun e => e.2 != 0

/-! ### Faults of half-bridges -/

/-- The cause fields of DRV_CAUSE of a phase. -/
def tCauseF (n : Axis) (p : Phase) : Fld := ⟨drivePage n, 0x60, 4 * p.val, 4⟩
def eCauseF (n : Axis) (p : Phase) : Fld := ⟨drivePage n, 0x60, 16 + 4 * p.val, 4⟩

/-- The class-E cause shown: the highest one in force. -/
def eCauseOf (h : Hb) : Nat := if h.eAct.e2 then 3 else if h.eAct.e1 then 2 else if h.eAct.e0 then 1 else 0

/-- AXSTAT_n.DRV_FAULT follows the faults of the set's half-bridges (R448). -/
def Rod.syncDrv (ρ : Rod) (n : Axis) : Rod :=
  let on := allPhases.any fun p => (ρ.half n p).tCause != 0 || eCauseOf (ρ.half n p) != 0
  { ρ with rk := { ρ.rk with drvFlt := ρ.rk.drvFlt.set n on } }

/-- The own set of an axis is switched off (R273, R448): gates high-Z, record 0x0811 with its cause, event SET_OFF (R305). -/
def Rod.setGoesOff (ρ : Rod) (n : Axis) (cause : Nat) : Rod :=
  let ρ1 := (ρ.setSetOn n false).each allPhases fun p q => q.putHalf n p { q.half n p with en := false }
  (ρ1.irq 0x060 1).fltA 0x0811 sevDegrade 0x060 n [(0, 1, n.val), (1, 1, cause)]

/-- A fault on a set with POLICY_n.DRV_OFF at 1 switches the set off (R448). -/
def Rod.drvOff (ρ : Rod) (n : Axis) : Rod :=
  let ρ1 := ρ.syncDrv n
  if ρ1.b (Fl.POLICY_DRV_OFF n.val) && ρ1.rk.setOn.get n then ρ1.setGoesOff n 2 else ρ1

/-- Latches a class-T fault with its condition present (R442, R467). -/
def Rod.tLatch (ρ : Rod) (n : Axis) (p : Phase) (cause : Nat) : Rod :=
  let h := ρ.half n p
  let ρ1 := ρ.putHalf n p { h with tCause := cause, tCond := true }
  ((ρ1.p (tCauseF n p) cause).irq (drivePage n) 0).drvOff n

/-- Whether 1,024 ticks have passed since the last record of a kind (R470). -/
def Rod.recordDue (ρ : Rod) (last : Option Nat) : Bool :=
  match last with
  | none => true
  | some t => decide (1024 ≤ (ρ.tick + 2 ^ 32 - t) % 2 ^ 32)

/-- Desaturation (R442, R443). -/
def Rod.desat (ρ : Rod) (n : Axis) (p : Phase) : Rod :=
  let h := ρ.half n p
  let due := ρ.recordDue h.lastDs
  let ρ1 := if due then
      (ρ.putHalf n p { h with lastDs := some ρ.tick }).fltAP 0x0B01 sevDegrade (drivePage n) n.val p.val
        [(0, 4, h.duty), (4, 1, ρ.dsTh n)]
    else ρ
  (ρ1.inc (Fl.DRV_CNT_DESAT n.val)).tLatch n p 1

/-- Shunt overcurrent (R442, R443). -/
def Rod.overcurrent (ρ : Rod) (n : Axis) (p : Phase) : Rod :=
  let h := ρ.half n p
  let due := ρ.recordDue h.lastOc
  let ρ1 := if due then
      (ρ.putHalf n p { h with lastOc := some ρ.tick }).fltAP 0x0B02 sevDegrade (drivePage n) n.val p.val
        [(0, 2, h.cur), (2, 1, ρ.ocTh n)]
    else ρ
  (ρ1.inc (Fl.DRV_CNT_OC n.val)).tLatch n p 2

/-- Cross-conduction command in direct diagnostic mode (R450). -/
def Rod.cross (ρ : Rod) (n : Axis) (p : Phase) : Rod :=
  (ρ.fltAP 0x0B03 sevDegrade (drivePage n) n.val p.val [(0, 1, wBits (ρ.gw (Rg.DRV_DIAG n.val)) 0 8)]).tLatch n p 3

/-- Does something for each half-bridge of the rod. -/
def Rod.eachHalf (ρ : Rod) (f : Axis → Phase → Rod → Rod) : Rod :=
  ρ.each allAxes fun n q => q.each allPhases fun p r => f n p r

/-- Drive-die overtemperature (R442, R469). (DESIGN CHOICE, log entry 59) -/
def Rod.overtemp (ρ : Rod) (temp : Nat) : Rod :=
  let ρ1 := ({ ρ with die := { ρ.die with hot := true } }.p Fl.SUP_STAT_OVERTEMP 1).irq 0x093 6
  (ρ1.flt 0x0B04 sevDegrade 0x093 [(0, 2, temp)]).eachHalf fun n p q => q.tLatch n p 4

/-- Starts a class-E fault of a half-bridge, cause 1 to 3 (R442, R467). -/
def Rod.eStart (ρ : Rod) (n : Axis) (p : Phase) (cause : Nat) : Rod :=
  let h := ρ.half n p
  let i := axisOf (cause - 1)
  let h' := { h with eAct := h.eAct.set i true, eCond := h.eCond.set i true }
  ((((ρ.putHalf n p h').p (eCauseF n p) (eCauseOf h')).inc (Fl.DRV_CNT_E n.val)).irq (drivePage n) 1).drvOff n

/-- Bootstrap undervoltage (R442). (DESIGN CHOICE, log entry 59) -/
def Rod.bootUv (ρ : Rod) (n : Axis) (p : Phase) (on : Bool) : Rod :=
  (ρ.fltAP 0x0B10 sevWarn (drivePage n) n.val p.val [(0, 1, if on then 1 else 2)]).eStart n p 1

/-- Gate-supply undervoltage (R442, R469): code below 8.5 V. (DESIGN CHOICE, log entry 59) -/
def Rod.vgdUvFault (ρ : Rod) (vgd : Nat) : Rod :=
  if vgd < 27853 ∧ ρ.die.vgdUv = false then
    let ρ1 := { ρ with die := { ρ.die with vgdUv := true } }.irq 0x093 3
    (ρ1.flt 0x0B11 sevWarn 0x093 [(0, 2, vgd)]).eachHalf fun n p q => q.eStart n p 2
  else ρ

/-- Gate-voltage plausibility of one switch (R442, R470). -/
def Rod.gatePlaus (ρ : Rod) (n : Axis) (p : Phase) (high cmdOn : Bool) : Rod :=
  let h := ρ.half n p
  let due := ρ.recordDue (if high then h.lastPh else h.lastPl)
  let ρ1 := if due then
      let h' := if high then { h with lastPh := some ρ.tick } else { h with lastPl := some ρ.tick }
      (ρ.putHalf n p h').fltAP 0x0B12 sevWarn (drivePage n) n.val p.val [(0, 1, b2n high), (1, 1, b2n cmdOn)]
    else ρ
  ρ1.eStart n p 3

/-- A class-E fault ends at a rising pulse edge after its condition has gone (R446): bootstrap and gate-voltage faults,
and the VGD fault where VGD has been seen at 9.0 V or more. -/
def Rod.eEnded (ρ : Rod) (n : Axis) (p : Phase) : Rod :=
  let h := ρ.half n p
  let go := fun i : Fin 3 => h.eAct.get i && (if i = 1 then !h.eCond.e1 else true)
  let ends := allPhases.filter go
  if ends.isEmpty then ρ
  else
    let h' : Hb := ends.foldl (fun k i => { k with eAct := k.eAct.set i false, eCond := k.eCond.set i false }) h
    let ρ1 := (ρ.putHalf n p h').p (eCauseF n p) (eCauseOf h')
    let ρ2 := ρ1.each ends fun i q =>
      q.fltAP 0x0B13 sevInfo (drivePage n) n.val p.val [(0, 1, i.val + 1)]
    (ρ2.irq (drivePage n) 2).syncDrv n

/-! ### Enables that rise -/

/-- A class-T latch clears as the enable rises; it sets again at once with a new record where its condition is still
present (R444). Answers whether a latch was cleared, and whether it set again. (DEDUCED, log entry 42) -/
def Rod.clearT (ρ : Rod) (n : Axis) (p : Phase) : Rod × Bool × Bool :=
  let h := ρ.half n p
  if h.tCause = 0 then (ρ, false, false)
  else
    let ρ1 := ((ρ.putHalf n p { h with tCause := 0, tCond := false }).p (tCauseF n p) 0).irq (drivePage n) 3
    if h.tCond then
      let ρ2 := if h.tCause = 1 then ρ1.desat n p else if h.tCause = 2 then ρ1.overcurrent n p
        else if h.tCause = 3 then ρ1.cross n p
        else (ρ1.fltAP 0x0B04 sevDegrade 0x093 n.val p.val [(0, 2, (ρ1.sg 0x0014).toNat)]).tLatch n p 4
      (ρ2, true, true)
    else (ρ1.syncDrv n, true, false)

/-- The enables follow R426; each that rises clears its latch. -/
def Rod.updEn (ρ : Rod) : Rod :=
  ρ.eachHalf fun n p q =>
    let e := q.enable n p
    let h := q.half n p
    if e == h.en then q
    else
      let q1 := q.putHalf n p { h with en := e }
      if e then (q1.clearT n p).1 else q1

/-- A write of DRV_CMD (R445, R466). -/
def Rod.writeTClr (ρ : Rod) (path : Nat) (n : Axis) (data : Word) : Rod :=
  if wBits data 8 8 ≠ 0x5A then ρ.errCap (drivePage n) 0x6 path 0x58 data
  else
    (ρ.each allPhases fun p q =>
      if wBit data p.val then q.putHalf n p { q.half n p with clr := true, en := false } else q)

/-- A clearing pulse ends (R444, R445): `present` gives the condition found per phase, 0 for none. (DEDUCED, log entry 42) -/
def Rod.tClrEnd (ρ : Rod) (n : Axis) (present : Tri Nat) : Rod :=
  let run := allPhases.filter fun p => (ρ.half n p).clr
  if run.isEmpty then ρ
  else
    let step (acc : Rod × Nat × Nat) (p : Phase) : Rod × Nat × Nat :=
      let (q, cl, re) := acc
      let h := q.half n p
      let c := present.get p
      let q1 := q.putHalf n p { h with clr := false, tCond := c != 0 }
      if q1.enable n p then
        let cause := if h.tCause = 0 ∨ c = 0 then h.tCause else c
        let (q2, a, b) := (q1.putHalf n p { q1.half n p with en := true, tCause := cause }).clearT n p
        (q2, cl + (if a then 2 ^ p.val else 0), re + (if b then 2 ^ p.val else 0))
      else (q1, cl, re)
    let (ρ1, cl, re) := run.foldl step (ρ, 0, 0)
    ρ1.fltA 0x0B06 sevInfo (drivePage n) n [(0, 1, cl), (1, 1, re)]

/-! ### Direct diagnostic mode -/

/-- Maintenance access is open (R630). -/
def Rod.accessOpen (ρ : Rod) : Bool := ρ.g Fl.SEC_STAT_LEVEL == 1 || ρ.g Fl.SEC_STAT_LEVEL == 2

/-- A write of DRV_DIAG (R450, R451, R14). -/
def Rod.writeDiag (ρ : Rod) (path : Nat) (n : Axis) (data : Word) : Rod :=
  if ρ.accessOpen = false ∨ ρ.mode ≠ SM.standby then ρ.errCap (drivePage n) 0x2 path 0x54 data
  else
    let was := ρ.gw (Rg.DRV_DIAG n.val)
    let ρ0 := ρ.each allPhases fun p q =>
      let h := q.half n p
      q.putHalf n p { h with hiAt := if wBit data p.val && !wBit was p.val then ρ.ft else h.hiAt
                             loAt := if wBit data (4 + p.val) && !wBit was (4 + p.val) then ρ.ft else h.loAt }
    let ρ1 := ρ0.pw (Rg.DRV_DIAG n.val) (data &&& 0x80FF0077#32)
    if wBit data 31 then
      ρ1.each allPhases fun p q => if wBit data p.val && wBit data (4 + p.val) then q.cross n p else q
    else ρ1

/-- A switch turned on in direct diagnostic mode turns off ON_T after its bit was set (R451): 0 to 2 GH, 3 to 5 GL. -/
def Rod.diagOff (ρ : Rod) (n : Axis) (sw : Nat) : Rod :=
  let h := ρ.half n (if sw % 3 = 0 then 0 else if sw % 3 = 1 then 1 else 2)
  if !ρ.passed (if sw < 3 then h.hiAt else h.loAt) (ρ.g (Fl.DRV_DIAG_ON_T n.val) * 1000) then ρ
  else if sw < 3 then ρ.clrBit (Fl.DRV_DIAG_GH n.val) sw
  else ρ.clrBit (Fl.DRV_DIAG_GL n.val) (sw - 3)

/-! ### Fence latch, chopper and motor supply -/

/-- The coil current stays below 40 mA while X_KHS commands it on (R429): a turn-off by the fence switches (R559). -/
def Rod.fenceLatch (ρ : Rod) : Rod :=
  if ρ.md.khs && !ρ.die.fence then
    let ρ1 := ({ ρ with die := { ρ.die with fence := true } }.irq 0x093 7).flt 0x0B40 sevWithdraw 0x093
      [(4, 4, ρ.md.khsFt % 2 ^ 32)]
    ({ ρ1 with sf := { ρ1.sf with watch := false, offFt := some ρ.ft } }).withdraw
  else ρ

/-- A write of SUP_CMD (R430): the latch clears in REJOIN with at least 40 mA in the coil; any other FENCE_CLR write is
captured. -/
def Rod.writeSupCmd (ρ : Rod) (path : Nat) (data : Word) (coilMa : Nat) : Rod :=
  if wBit data 0 = false then ρ
  else if wBits data 8 8 = 0x5A ∧ ρ.state = RS.rejoin ∧ 40 ≤ coilMa then
    let ρ1 := ρ.p Fl.FENCE_STAT_COIL_MA (satN 0xFFFF coilMa)
    if ρ1.die.fence then
      { ρ1 with die := { ρ1.die with fence := false } }.flt 0x0B41 sevInfo 0x093 [(0, 2, satN 0xFFFF coilMa)]
    else ρ1
  else ρ.errCap 0x093 0x6 path 0x50 data

/-- A threshold of the supply page as a sense code (R458). -/
def supCode (th : Nat) : Nat := th * 64

/-- The chopper turns on above OV1_ON (R459, Table 13.10). -/
def Rod.chopperOn (ρ : Rod) (vm : Nat) : Rod :=
  if ρ.b Fl.CHP_CFG_EN && decide (supCode (ρ.g Fl.SUP_OV_OV1_ON) < vm) && !ρ.b Fl.SUP_STAT_OV1 then
    let ρ1 := (ρ.p Fl.SUP_STAT_OV1 1).irq 0x093 0
    if ρ1.die.chopFail then ρ1
    else
      let quiet := match ρ1.die.lastChop with
        | none => true
        | some t => decide (t + 1000000000 ≤ ρ1.ft)
      let ρ2 := ρ1.when quiet (·.flt 0x0B30 sevInfo 0x093 [(0, 2, vm)])
      { ρ2 with die := { ρ2.die with lastChop := some ρ2.ft } }.p Fl.SUP_STAT_CHOP_ON 1
  else ρ

/-- X_VMS has fallen below OV1_OFF: the chopper turns off, not before MIN_ON (R459). -/
def Rod.chopperOff (ρ : Rod) (onTime : Nat) : Rod :=
  if ρ.b Fl.SUP_STAT_CHOP_ON then
    if onTime < ρ.g Fl.CHP_CFG_MIN_ON then ρ
    else
      let ρ1 := ((ρ.p Fl.SUP_STAT_OV1 0).p Fl.SUP_STAT_CHOP_ON 0).p Fl.CHP_TIME_T
        (satN 0xFFFFFFFF (ρ.g Fl.CHP_TIME_T + onTime))
      { ρ1 with die := { ρ1.die with lastChop := some ρ1.ft } }
  else ρ.p Fl.SUP_STAT_OV1 0

/-- The supply active short of the rod starts: its sets leave the share (R461). -/
def Rod.supplyShort (ρ : Rod) : Rod :=
  ({ ρ with die := { ρ.die with supAsc := true } }).each allAxes fun n q => q.setSetOn n false

/-- A chopper failure (R460, R461): 1 drain high while on, 2 drain low while off. -/
def Rod.chopperFail (ρ : Rod) (cause : Nat) : Rod :=
  if ρ.b Fl.CHP_CFG_EN && !ρ.die.vgdUv && !ρ.die.chopFail && (ρ.b Fl.SUP_STAT_CHOP_ON == decide (cause = 1)) then
    let ρ1 := { ρ.p Fl.SUP_STAT_CHOP_ON 0 with die := { ρ.die with chopFail := true } }
    ((ρ1.irq 0x093 2).flt 0x0B32 sevDegrade 0x093 [(0, 1, cause)]).supplyShort
  else ρ

/-- X_VMS above OV2 (R461). -/
def Rod.supplyOv2 (ρ : Rod) (vm : Nat) : Rod :=
  if supCode (ρ.g Fl.SUP_OV_OV2) < vm then
    (((ρ.p Fl.SUP_STAT_OV2 1).irq 0x093 1).flt 0x0B31 sevDegrade 0x093 [(0, 2, vm)]).supplyShort
  else ρ

/-- The release of the supply active short at STANDBY, with X_VMS below OV2 (R462). -/
def Rod.releaseSupply (ρ : Rod) : Rod :=
  if (ρ.sg 0x0012).toNat < supCode (ρ.g Fl.SUP_OV_OV2) then
    { ρ with die := { ρ.die with supAsc := false, chopFail := false } }
  else ρ

/-- X_VMS below UV for 100 µs (R463), and at or above it for 100 µs. -/
def Rod.vmUndervolt (ρ : Rod) (vm : Nat) : Rod :=
  if vm < supCode (ρ.g Fl.SUP_UV_UV) ∧ ρ.b Fl.SUP_STAT_VM_UV = false then
    ((ρ.p Fl.SUP_STAT_VM_UV 1).irq 0x093 4).flt 0x0B33 sevWarn 0x093 [(0, 2, vm)]
  else ρ

def Rod.vmUvClear (ρ : Rod) : Rod := ρ.p Fl.SUP_STAT_VM_UV 0

/-- The temperature code of a whole number of °C (Table 10.1). -/
def tempCode (c : Nat) : Nat := (c + 64) * 256

/-- The drive-die temperature rises through WARN (R465). -/
def Rod.dieTempWarn (ρ : Rod) (temp : Nat) : Rod :=
  if tempCode (ρ.g Fl.SUP_TEMP_WARN) ≤ temp ∧ ρ.b Fl.SUP_STAT_TEMP_WARN = false then
    ((ρ.p Fl.SUP_STAT_TEMP_WARN 1).irq 0x093 5).flt 0x0B05 sevWarn 0x093 [(0, 2, temp)]
  else ρ

/-- What the sense words of a tick show of the die: VGD back at 9.0 V, temperature below 145 °C or below WARN. -/
def Rod.senseDie (ρ : Rod) (vgd temp : Nat) : Rod :=
  let ρ1 := if 29492 ≤ vgd then
      { ρ with die := { ρ.die with vgdUv := false } }.eachHalf fun n p q =>
        q.putHalf n p { q.half n p with eCond := { (q.half n p).eCond with e1 := false } }
    else ρ
  let ρ2 := if temp < tempCode 145 ∧ ρ1.die.hot = true then
      ({ ρ1 with die := { ρ1.die with hot := false } }.p Fl.SUP_STAT_OVERTEMP 0).eachHalf fun n p q =>
        if (q.half n p).tCause = 4 then q.putHalf n p { q.half n p with tCond := false } else q
    else ρ1
  if temp < tempCode (ρ2.g Fl.SUP_TEMP_WARN) then ρ2.p Fl.SUP_STAT_TEMP_WARN 0 else ρ2

/-- SUP_STAT as read: what the drive die holds is shown as it is (Table 13.9). -/
def Rod.supStat (ρ : Rod) : Word :=
  let w := ρ.gw Rg.SUP_STAT &&& 0xE2000300#32
  w ||| BitVec.ofNat 32 (b2n ρ.die.chopFail * 2 ^ 28 + b2n ρ.die.supAsc * 2 ^ 27 + b2n (!ρ.die.vgdUv) * 2 ^ 26 +
    b2n ρ.die.fence * 2 ^ 24)

/-- DRV_STAT as read (Table 13.7). -/
def Rod.drvStat (ρ : Rod) (n : Axis) : Word :=
  let bits (f : Hb → Bool) : Nat := (allPhases.map fun p => b2n (f (ρ.half n p)) * 2 ^ p.val).sum
  let en := (allPhases.map fun p => b2n (ρ.enable n p) * 2 ^ p.val).sum
  BitVec.ofNat 32 (b2n ρ.die.fence * 2 ^ 31 + b2n ρ.die.supAsc * 2 ^ 30 + b2n ρ.md.dis * 2 ^ 29 +
    b2n (ρ.ascLine n) * 2 ^ 28 + en * 2 ^ 24 + bits (fun h => eCauseOf h != 0) * 2 ^ 16 +
    bits (fun h => h.tCause != 0) * 2 ^ 8)

/-! ### Failed checks -/

/-- A step of REJOIN fails (R500): the rod returns to FENCED. -/
def Rod.rejoinFail (ρ : Rod) (code : Nat) : Rod :=
  let step := ρ.g Fl.RJ_STAT_STEP
  let ρ1 := ((ρ.p Fl.RJ_STAT_RUN 0).p Fl.RJ_STAT_FAIL 1).p Fl.RJ_STAT_FCODE code
  ((ρ1.irq 0x0A0 5).flt 0x0C32 sevWarn 0x0A0 [(0, 1, step), (2, 2, code)]).fence

/-- A check of ARMING fails in the rod (R95): it withdraws; in REJOIN the step fails. -/
def Rod.armFail (ρ : Rod) (code axis : Nat) (data : List (Nat × Nat × Nat)) : Rod :=
  let ρ1 := ρ.fltAP code sevWithdraw 0x001 axis 0xFF data
  if ρ1.state = RS.rejoin then ρ1.rejoinFail code
  else
    ((((ρ1.p Fl.ARM_STAT_FAIL 1).p Fl.ARM_STAT_FCODE code).p Fl.ARM_STAT_RUN 0).irq 0x001 3).withdraw

/-! ### Off-state diagnostics and pre-charge -/

/-- Full scale of the VM sense word in mV: the divider host software declares in PMP_SCALE.VFS (R370), else the board's. -/
def Rod.vmFull (ρ : Rod) : Nat :=
  match allAxes.find? fun n => ρ.g (Fl.PMP_SCALE_VFS n.val) != 0 with
  | some n => 100 * ρ.g (Fl.PMP_SCALE_VFS n.val)
  | none => Config.vmFullMv ρ.me

/-- A VM sense code in mV, under the board's divider. -/
def Rod.vmMv (ρ : Rod) (code : Nat) : Nat := code * ρ.vmFull / 65536

/-- The test currents of a step of the off-state diagnostics, for U, V and W: 1 a source, −1 a sink (Table 13.4). -/
def osdCurrents (step : Nat) : Tri Int :=
  match step with
  | 1 => Tri.rep (-1)
  | 2 => Tri.rep 1
  | 3 => ⟨1, -1, 0⟩
  | 4 => ⟨0, 1, -1⟩
  | _ => Tri.rep 0

/-- The result field of a phase in DRV_OSD. -/
def osdF (n : Axis) (p : Phase) : Fld := ⟨drivePage n, 0x64, 4 * p.val, 3⟩

/-- The diagnostics of a set end, and the next set begins (R455). -/
def Rod.osdNext (ρ : Rod) (n : Axis) : Rod :=
  let ρ1 := (ρ.p (Fl.DRV_OSD_DONE n.val) 1).irq (drivePage n) 4
  { ρ1 with md := { ρ1.md with osdSet := ρ1.md.osdSet + 1, osdStep := 0, osdFailC := false
                               osdDone := decide (2 ≤ ρ1.md.osdSet) } }

/-- The result of a set whose steps have run: passed phases read 1; a failure fences the rod (R457). -/
def Rod.osdJudge (ρ : Rod) (n : Axis) (vm : Nat) : Rod :=
  let ρ1 := ρ.each allPhases fun p q => if q.g (osdF n p) = 0 then q.p (osdF n p) 1 else q
  let bad := allPhases.any fun p => decide (2 ≤ ρ1.g (osdF n p))
  let ρ2 := ρ1.osdNext n
  if bad then
    let ρ3 := (ρ2.p (Fl.DRV_OSD_FAIL n.val) 1).fltA 0x0B20 sevDegrade (drivePage n) n
      [(0, 1, ρ2.g (osdF n 0)), (1, 1, ρ2.g (osdF n 1)), (2, 1, ρ2.g (osdF n 2)), (4, 4, ρ2.vmMv vm)]
    { ρ3 with md := { ρ3.md with osdSet := 3, osdDone := false } }.armFail 0x0121 n.val [(0, 1, n.val), (2, 2, 0x0B20)]
  else ρ2

/-- Starts the off-state diagnostics of the rod's three sets. -/
def Rod.osdStart (ρ : Rod) : Rod :=
  let ρ1 := { ρ with md := { ρ.md with osdSet := 0, osdStep := 0, osdFailC := false, osdDone := false } }
  ρ1.each allAxes fun n q => q.pw (Rg.DRV_OSD n.val) 0#32

/-- The end of a timed step of the off-state diagnostics (R455, R456). -/
def Rod.osdStepEnd (ρ : Rod) (nodes : Tri (BitVec 16)) (vm : Nat) : Rod :=
  if 3 ≤ ρ.md.osdSet then ρ
  else
    let n := axisOf ρ.md.osdSet
    let v (p : Phase) : Nat := (nodes.get p).toNat
    let diff (a b : Nat) : Nat := max a b - min a b
    let next (q : Rod) : Rod := { q with md := { q.md with osdStep := q.md.osdStep + 1 } }
    match ρ.md.osdStep with
    | 0 =>
      let ll := max (diff (v 0) (v 1)) (max (diff (v 1) (v 2)) (diff (v 2) (v 0)))
      if 10 * ll ≤ vm then next ρ
      else
        ((ρ.p (Fl.DRV_OSD_DEFERRED n.val) 1).fltA 0x0B23 sevWarn (drivePage n) n [(4, 4, ρ.vmMv ll)]).osdNext n
    | 1 => next (ρ.each allPhases fun p q => if 4 * v p ≤ vm then q else q.p (osdF n p) 2)
    | 2 =>
      let ρ1 := ρ.each allPhases fun p q =>
        if 3 * vm ≤ 4 * v p then q else if q.g (osdF n p) = 0 then q.p (osdF n p) 3 else q
      if allPhases.any fun p => ρ1.g (osdF n p) != 0 then ρ1.osdJudge n vm else next ρ1
    | 3 => next { ρ with md := { ρ.md with osdFailC := decide (vm < 4 * v 0) } }
    | _ =>
      let failD := decide (vm < 4 * v 1)
      let ρ1 := if ρ.md.osdFailC && failD then ρ.p (osdF n 1) 4
        else if ρ.md.osdFailC then ρ.p (osdF n 0) 4
        else if failD then ρ.p (osdF n 2) 4 else ρ
      ρ1.osdJudge n vm

/-- The bootstraps after 500 µs of pre-charge (R454): `low` marks the high sides below 8.0 V. Answers whether all
passed. -/
def Rod.prechargeJudge (ρ : Rod) (low : Tri (BitVec 3)) : Rod × Bool :=
  let bad := allAxes.filter fun n => ρ.axisArmed n && low.get n != 0#3
  let ρ1 := { ρ with md := { ρ.md with pre := false, preOk := bad.isEmpty } }.updEn
  match bad with
  | [] => (ρ1, true)
  | n :: _ =>
    let ρ2 := ρ1.each bad fun m q => q.fltA 0x0B22 sevDegrade (drivePage m) m [(0, 1, (low.get m).toNat)]
    (ρ2.armFail 0x0121 n.val [(0, 1, n.val), (2, 2, 0x0B22)], false)

/-! ### The commands -/

/-- DESATURATION (R443). -/
def execDesaturation (r : RodId) (axis : Axis) (phase : Phase) (s : State) : Host.Outcome State Fault Refusal :=
  onRod s r fun ρ => ρ.desat axis phase

/-- OVERCURRENT (R443). -/
def execOvercurrent (r : RodId) (axis : Axis) (phase : Phase) (s : State) : Host.Outcome State Fault Refusal :=
  onRod s r fun ρ => ρ.overcurrent axis phase

/-- DIE_OVERTEMP (R442). -/
def execDieOvertemp (r : RodId) (temp : BitVec 16) (s : State) : Host.Outcome State Fault Refusal :=
  onRod s r fun ρ => ρ.overtemp temp.toNat

/-- BOOT_UV (R442): `on` says the high side was on, otherwise it was commanded on. -/
def execBootUv (r : RodId) (axis : Axis) (phase : Phase) (on : Bool) (s : State) : Host.Outcome State Fault Refusal :=
  onRod s r fun ρ => ρ.bootUv axis phase on

/-- VGD_UV (R442). -/
def execVgdUv (r : RodId) (vgd : BitVec 16) (s : State) : Host.Outcome State Fault Refusal :=
  onRod s r fun ρ => ρ.vgdUvFault vgd.toNat

/-- GATE_PLAUS (R442, R470). -/
def execGatePlaus (r : RodId) (axis : Axis) (phase : Phase) (high cmdOn : Bool) (s : State) :
    Host.Outcome State Fault Refusal :=
  onRod s r fun ρ => ρ.gatePlaus axis phase high cmdOn

/-- E_ENDED (R446). -/
def execEEnded (r : RodId) (axis : Axis) (phase : Phase) (s : State) : Host.Outcome State Fault Refusal :=
  onRod s r fun ρ => ρ.eEnded axis phase

/-- T_CLR_PULSE_END (R444). -/
def execTClrPulseEnd (r : RodId) (axis : Axis) (present : Tri Nat) (s : State) : Host.Outcome State Fault Refusal :=
  onRod s r fun ρ => ρ.tClrEnd axis present

/-- DIS_CHANGE (R428). -/
def execDisChange (r : RodId) (asserted : Bool) (s : State) : Host.Outcome State Fault Refusal :=
  onRod s r fun ρ => { ρ with md := { ρ.md with dis := asserted } }

/-- ASC_CHANGE (R428). -/
def execAscChange (r : RodId) (axis : Axis) (asserted : Bool) (s : State) : Host.Outcome State Fault Refusal :=
  onRod s r fun ρ => { ρ with md := { ρ.md with asc := ρ.md.asc.set axis asserted } }

/-- FENCE_LATCH (R429). -/
def execFenceLatch (r : RodId) (s : State) : Host.Outcome State Fault Refusal :=
  onRod s r fun ρ => ρ.fenceLatch

/-- CHOPPER_ON (R459). -/
def execChopperOn (r : RodId) (vm : BitVec 16) (s : State) : Host.Outcome State Fault Refusal :=
  onRod s r fun ρ => ρ.chopperOn vm.toNat

/-- CHOPPER_OFF (R459). -/
def execChopperOff (r : RodId) (onTime : Nat) (s : State) : Host.Outcome State Fault Refusal :=
  onRod s r fun ρ => ρ.chopperOff onTime

/-- CHOPPER_FAIL (R460). -/
def execChopperFail (r : RodId) (cause : Nat) (s : State) : Host.Outcome State Fault Refusal :=
  onRod s r fun ρ => ρ.chopperFail cause

/-- SUPPLY_OV2 (R461). -/
def execSupplyOv2 (r : RodId) (vm : BitVec 16) (s : State) : Host.Outcome State Fault Refusal :=
  onRod s r fun ρ => ρ.supplyOv2 vm.toNat

/-- VM_UNDERVOLT (R463). -/
def execVmUndervolt (r : RodId) (vm : BitVec 16) (s : State) : Host.Outcome State Fault Refusal :=
  onRod s r fun ρ => ρ.vmUndervolt vm.toNat

/-- VM_UV_CLEAR (R463). -/
def execVmUvClear (r : RodId) (s : State) : Host.Outcome State Fault Refusal :=
  onRod s r fun ρ => ρ.vmUvClear

/-- DIE_TEMP_WARN (R465). -/
def execDieTempWarn (r : RodId) (temp : BitVec 16) (s : State) : Host.Outcome State Fault Refusal :=
  onRod s r fun ρ => ρ.dieTempWarn temp.toNat

/-- DIAG_ON_TIME (R451). -/
def execDiagOnTime (r : RodId) (axis : Axis) (sw : Fin 6) (s : State) : Host.Outcome State Fault Refusal :=
  onRod s r fun ρ => ρ.diagOff axis sw.val

end Sys2Proof.Machine
end

