-- ==== Sys2Proof/Machine/Feedback.lean ====
section
/-! DEFINITION. Position and speed feedback (spec/12_position_feedback.md): quadrature counting with its faults, the index,
speed from edge timing, the serial transfer, count initialisation, tracking and fall-back. -/

namespace Sys2Proof.Machine

def fbPage (n : Axis) : Nat := 0x080 + n.val

/-- Changes the feedback state of an axis. -/
def Rod.modFb (ρ : Rod) (n : Axis) (f : Fb → Fb) : Rod := { ρ with fb := ρ.fb.set n (f (ρ.fb.get n)) }

/-- The level of X_SC of a serial clock line while the feedback unit drives `clk` on it: high impedance in OFF and BOOT (Table
20.6). -/
def Rod.serialClock (ρ : Rod) (clk : Bool) : Ball :=
  if ρ.state < RS.sync then .highZ else if clk then .high else .low

/-- The live count, and a new value for it. -/
def Rod.count (ρ : Rod) (n : Axis) : Int := sext 32 (ρ.g (Fl.FB_CNT_CNT n.val))
def Rod.putCount (ρ : Rod) (n : Axis) (c : Int) : Rod := ρ.p (Fl.FB_CNT_CNT n.val) (natOfInt 32 c)

/-- The soft limits (R396). -/
def Rod.cntMin (ρ : Rod) (n : Axis) : Int := sext 32 (ρ.g (Fl.CNT_MIN_LIM n.val))
def Rod.cntMax (ρ : Rod) (n : Axis) : Int := sext 32 (ρ.g (Fl.CNT_MAX_LIM n.val))

/-- Q_OK and S_OK (Table 12.4). -/
def Rod.qOk (ρ : Rod) (n : Axis) : Bool := ρ.b (Fl.QD_CFG_QEN n.val) && (ρ.fb.get n).qFault == 0
def Rod.sOk (ρ : Rod) (n : Axis) : Bool := ρ.b (Fl.SER_CFG_EN n.val) && !(ρ.fb.get n).sFault

/-- SPD_FS. -/
def Rod.spdFs (ρ : Rod) (n : Axis) : Int := ρ.g (Fl.SPD_FS_FS n.val)

/-- The speed word for `num/den` counts per FBK sample, signed: Q1.31 of SPD_FS, rounded half away from zero and
limited (R401, R404). -/
def Rod.speedWord (ρ : Rod) (n : Axis) (num den : Int) : Int :=
  let up := num * 160000000 * twoPi * 1000 * 2 ^ 31
  let dn := den * twoPiScale * (ρ.g (Fl.FB_CFG_CPR n.val)) * ρ.spdFs n
  if dn = 0 then 0 else clampI (-2147483647) 2147483647 (divRoundAway up dn)

/-- |speed word| in mrad/s: word × SPD_FS / 2^31, compared as exact products. -/
def Rod.speedBelow (ρ : Rod) (n : Axis) (mrad : Nat) : Bool :=
  decide ((ρ.sg (0x001C + n.val)).toInt.natAbs * ρ.spdFs n < (mrad : Int) * 2 ^ 31)

/-- The measured speed in mrad/s, rounded toward zero. -/
def Rod.speedMrad (ρ : Rod) (n : Axis) : Int := divTrunc ((ρ.sg (0x001C + n.val)).toInt * ρ.spdFs n) (2 ^ 31)

/-! ### Sources and reactions -/

/-- Sets REF_OK; the next suppression is then a first one (R396). -/
def Rod.setRef (ρ : Rod) (n : Axis) : Rod :=
  (ρ.p (Fl.FB_STAT_REF_OK n.val) 1).modFb n fun f => { f with limArm := true }

/-- The sources of Table 12.5 and their reactions, with the FALLBACK and LOST events (R416, R418, R422). -/
def Rod.sources12 (ρ : Rod) (n : Axis) : Rod :=
  let q := ρ.qOk n
  let s := ρ.sOk n
  let qen := ρ.b (Fl.QD_CFG_QEN n.val)
  let sen := ρ.b (Fl.SER_CFG_EN n.val)
  let f := ρ.fb.get n
  let fall := !q && s
  let src := if q then 0 else if s then 1 else 2
  let was := ρ.g (Fl.FB_STAT_SOURCE n.val)
  let ρ1 := ((ρ.p (Fl.FB_STAT_Q_OK n.val) (b2n q)).p (Fl.FB_STAT_S_OK n.val) (b2n s)).p (Fl.FB_STAT_SOURCE n.val) src
  let ρ2 := { ρ1.modFb n (fun g => { g with fallback := fall }) with
    rk := { ρ1.rk with fbkFlt := ρ1.rk.fbkFlt.set n ((qen && f.qFault != 0) || (sen && f.sFault)) } }
  let ρ3 := ρ2.when (fall && !f.fallback) fun r =>
    (r.irq (fbPage n) 2).when qen (·.fltA 0x0A20 sevDegrade (fbPage n) n [(0, 1, n.val)])
  ρ3.when (src == 2 && was != 2 && (qen || sen)) fun r =>
    ((r.irq (fbPage n) 3).fltA 0x0A22 sevDegrade (fbPage n) n [(0, 1, n.val)]).setSetOn n false

/-- The quadrature path is faulted (R423). -/
def Rod.qFault (ρ : Rod) (n : Axis) (cause line : Nat) : Rod :=
  if ρ.qOk n then
    ((((ρ.modFb n fun f => { f with qFault := cause }).irq (fbPage n) 0).fltA 0x0A03 sevDegrade (fbPage n) n
      [(0, 1, n.val), (1, 1, cause), (2, 1, if cause = 3 then line else 0)])).sources12 n
  else ρ

/-- LEAK advances (R394). -/
def Rod.leakUp (ρ : Rod) (n : Axis) (k : Nat) : Rod :=
  ρ.p (Fl.FB_STAT_LEAK n.val) (satN 0xFF (ρ.g (Fl.FB_STAT_LEAK n.val) + k))

/-- When LEAK reaches ERR_LIM (R394). -/
def Rod.leakLimit (ρ : Rod) (n : Axis) : Rod :=
  if ρ.g (Fl.QD_CFG_ERR_LIM n.val) ≤ ρ.g (Fl.FB_STAT_LEAK n.val) then ρ.qFault n 2 0 else ρ

/-- The effects of a suppression at a soft limit (R396): 0 CNT_MIN, 1 CNT_MAX. -/
def Rod.limitHit (ρ : Rod) (n : Axis) (side : Nat) : Rod :=
  let ρ1 := (ρ.p (Fl.FB_STAT_LIMIT n.val) 1).irq (fbPage n) 5
  if (ρ1.fb.get n).limArm then
    let w := ρ1.sOk n
    ((ρ1.p (Fl.FB_STAT_REF_OK n.val) 0).modFb n fun f => { f with limArm := false, wait := f.wait || w }).fltA 0x0A04
      sevWarn (fbPage n) n [(0, 1, n.val), (1, 1, side)]
  else ρ1

/-- A count of ±1, suppressed at a soft limit (R396). -/
def Rod.bump (ρ : Rod) (n : Axis) (d : Int) : Rod :=
  let c := ρ.count n + d
  if 0 < d ∧ ρ.cntMax n < c then ρ.limitHit n 1
  else if d < 0 ∧ c < ρ.cntMin n then ρ.limitHit n 0
  else ρ.putCount n c

/-- Sets the count to a value held to the soft limits (R397, R413, R416). -/
def Rod.setCount (ρ : Rod) (n : Axis) (c : Int) : Rod :=
  if ρ.cntMax n < c then (ρ.putCount n (ρ.cntMax n)).limitHit n 1
  else if c < ρ.cntMin n then (ρ.putCount n (ρ.cntMin n)).limitHit n 0
  else ρ.putCount n c

/-- New soft limits that exclude the count (R397). -/
def Rod.newLimits (ρ : Rod) (n : Axis) : Rod :=
  if ρ.cntMax n < ρ.count n ∨ ρ.count n < ρ.cntMin n then ρ.setCount n (ρ.count n) else ρ

/-! ### Quadrature -/

/-- Table 12.1 for states 2 A + B: +1, −1, 0 for no change, `none` for an illegal transition. -/
def quadStep (old new : Nat) : Option Int :=
  let pos (s : Nat) : Nat := if s = 0 then 0 else if s = 2 then 1 else if s = 3 then 2 else 3
  match (pos new + 4 - pos old) % 4 with
  | 0 => some 0
  | 1 => some 1
  | 3 => some (-1)
  | _ => none

/-- The speed run ends (R403). -/
def endRun (f : Fb) : Fb := { f with run := 0, n := 0, spNum := 0, spDen := 1 }

/-- An edge in direction DIR joins the run, or starts one. -/
def runEdge (t : Nat) (f : Fb) : Fb :=
  if f.run = 0 then { f with run := 1, ta := t, tb := t, n := 0 } else { f with run := f.run + 1, tb := t, n := f.n + 1 }

/-- Direction, hysteresis and runs at a legal transition (R402, R403): `d` is the count's direction. -/
def Rod.speedEdge (ρ : Rod) (n : Axis) (d : Int) (t : Nat) : Rod :=
  let neg := b2n (decide (d < 0))
  let dir := Fl.FB_STAT_DIR n.val
  let hyst := Fl.FB_STAT_HYST n.val
  if ρ.b (Fl.FB_STAT_STILL n.val) then
    (((ρ.p (Fl.FB_STAT_STILL n.val) 0).p dir neg).p hyst 0).modFb n fun f => runEdge t (endRun f)
  else if neg = ρ.g dir then
    if ρ.b hyst then (ρ.p hyst 0).modFb n fun f => runEdge t (endRun f) else ρ.modFb n (runEdge t)
  else if ρ.b hyst then ((ρ.p hyst 0).p dir neg).modFb n fun f => runEdge t (endRun f)
  else ρ.p hyst 1

/-- The accepted levels of A and B, as 2 A + B, when the lines have stood at `a` and `b` for so many samples: FILT + 1 of them
accept a level (R389). -/
def Rod.accepted (ρ : Rod) (n : Axis) (a : Bool) (heldA : Nat) (b : Bool) (heldB : Nat) : Nat :=
  let st := (ρ.fb.get n).st
  let filt := ρ.g (Fl.FB_CFG_FILT n.val)
  2 * (if filt < heldA then b2n a else st / 2) + (if filt < heldB then b2n b else st % 2)

/-- A change of the accepted encoder state to `new` at a sample (R391 to R394). -/
def Rod.quadrature (ρ : Rod) (n : Axis) (new t : Nat) : Rod :=
  let f := ρ.fb.get n
  if new = f.st then ρ
  else
    let ρ0 := ρ.modFb n fun g => { g with st := new, edge := some t }
    if ρ.qOk n = false then ρ0
    else
      let gap := match f.edge with
        | none => none
        | some e => if t - e < ρ.g (Fl.QD_CFG_MIN_SP n.val) then some (t - e) else none
      let line := if f.st / 2 ≠ new / 2 ∧ f.st % 2 ≠ new % 2 then 2 else if f.st / 2 ≠ new / 2 then 0 else 1
      let ρ1 := match gap with
        | none => ρ0
        | some g =>
          let q := (ρ0.inc (Fl.ERR_CNT_SPC n.val)).leakUp n 1
          if q.recordDue f.lastSpc then
            (q.modFb n fun h => { h with lastSpc := some q.tick }).fltA 0x0A02 sevWarn (fbPage n) n
              [(0, 1, n.val), (1, 1, line), (4, 4, g * 25 / 4)]
          else q
      match quadStep f.st new with
      | none =>
        let q := ((ρ1.inc (Fl.ERR_CNT_ILL n.val)).leakUp n 1).modFb n fun h => { endRun h with ill := true }
        let q2 := if q.recordDue f.lastIll then
            (q.modFb n fun h => { h with lastIll := some q.tick }).fltA 0x0A01 sevWarn (fbPage n) n
              [(0, 1, n.val), (1, 1, f.st), (2, 1, new), (4, 4, natOfInt 32 (q.count n))]
          else q
        if f.ill then q2.qFault n 1 0 else q2
      | some d0 =>
        let d := if ρ.b (Fl.FB_CFG_DIR_INV n.val) then -d0 else d0
        let full := f.legal + 1 = 1024
        let q := (ρ1.bump n d).modFb n fun h => { h with ill := false, legal := if full then 0 else f.legal + 1 }
        let q2 := if full then q.p (Fl.FB_STAT_LEAK n.val) (q.g (Fl.FB_STAT_LEAK n.val) - 1) else q
        q2.speedEdge n d t

/-- No edge for SPD_TMO ends the run and sets STILL (R403). -/
def Rod.spdTimeout (ρ : Rod) (n : Axis) : Rod :=
  let due := match (ρ.fb.get n).edge with
    | some e => ρ.passed (e * 25 / 4) (ρ.g (Fl.SPD_TMO_TMO n.val) * 1000)
    | none => true
  if due then (ρ.p (Fl.FB_STAT_STILL n.val) 1).modFb n endRun else ρ

/-! ### Index -/

/-- The index check (R399): the deviation taken modulo CPR, in either direction. -/
def Rod.indexCheck (ρ : Rod) (n : Axis) : Rod :=
  let ρ1 := ρ.p (Fl.IDX_CNT_CNT n.val) (natOfInt 32 (ρ.count n))
  let cpr : Int := ρ.g (Fl.FB_CFG_CPR n.val)
  let m := (ρ.count n - sext 32 (ρ.g (Fl.IDX_VAL_VAL n.val))) % cpr
  let dev := if cpr < 2 * m then m - cpr else m
  if ρ.b (Fl.FB_STAT_REF_OK n.val) && decide (ρ.g (Fl.IDX_TOL_TOL n.val) < dev.natAbs) then
    (ρ1.leakUp n 4).fltA 0x0A06 sevWarn (fbPage n) n [(0, 1, n.val), (4, 4, natOfInt 32 dev)]
  else ρ1

/-- An index event (R398 to R400): a Z pulse in the gated state. -/
def Rod.indexEvent (ρ : Rod) (n : Axis) : Rod :=
  let m := ρ.g (Fl.QD_CFG_IDX_MODE n.val)
  if m = 0 ∨ (ρ.fb.get n).st ≠ ρ.g (Fl.QD_CFG_GATE n.val) then ρ
  else
    let ρ0 := ρ.irq (fbPage n) 4
    if m = 1 then ρ0.p (Fl.IDX_CNT_CNT n.val) (natOfInt 32 (ρ.count n))
    else if m = 2 ∧ (ρ.fb.get n).idxArm = true ∧ (ρ.mode = SM.standby ∨ ρ.mode = SM.arming) then
      let v := ρ.g (Fl.IDX_VAL_VAL n.val)
      let ρ1 := ρ0.fltA 0x0A05 sevInfo (fbPage n) n [(0, 1, n.val), (4, 4, natOfInt 32 (ρ.count n))]
      (((ρ1.modFb n fun f => { f with idxArm := false }).p (Fl.FB_CNT_CNT n.val) v).p (Fl.IDX_CNT_CNT n.val) v).setRef n
    else ρ0.indexCheck n

/-- A write of FB_CMD.REARM (R399). -/
def Rod.writeFbCmd (ρ : Rod) (n : Axis) (data : Word) : Rod :=
  if wBit data 0 then ρ.modFb n fun f => { f with idxArm := true } else ρ

/-- A line fault (R390): A and B are watched while QEN is 1, Z while IDX_MODE is not 0. -/
def Rod.lineFault (ρ : Rod) (n : Axis) (line : Nat) : Rod :=
  if (line < 2 ∧ ρ.b (Fl.QD_CFG_QEN n.val) = true) ∨ (line = 2 ∧ ρ.g (Fl.QD_CFG_IDX_MODE n.val) ≠ 0) then ρ.qFault n 3 line
  else ρ

/-! ### The sampling instant -/

/-- The speed word of a sampling instant at FBK sample `t` (R401 to R404, R416, R418). -/
def Rod.sampleSpeed (ρ : Rod) (n : Axis) (t : Nat) : Int × Rod :=
  let f := ρ.fb.get n
  if f.fallback then (f.fbSpd, ρ)
  else if ρ.qOk n = false ∨ ρ.b (Fl.FB_STAT_HYST n.val) = true ∨ f.run < 2 then
    (0, ρ.modFb n fun g => { g with spNum := 0, spDen := 1, ta := if 0 < g.n then g.tb else g.ta, n := 0 })
  else
    let gap := max 1 (t - f.tb)
    let (a, b) := if 1 ≤ f.n then (f.n, max 1 (f.tb - f.ta)) else (f.spNum, f.spDen)
    let (num, den) := if a * gap ≤ b then (a, b) else (1, gap)
    let v : Int := if ρ.b (Fl.FB_STAT_DIR n.val) then -(num : Int) else num
    (ρ.speedWord n v den, ρ.modFb n fun g => { g with spNum := num, spDen := den, ta := g.tb, n := 0 })

/-- The age of the serial word held, in ticks (R411). -/
def Rod.serAge (ρ : Rod) (n : Axis) : Nat :=
  match (ρ.fb.get n).heldTick with
  | none => 0xFF
  | some t => satN 0xFF ((ρ.tick + 2 ^ 32 - t) % 2 ^ 32)

/-- Writes the status word (R411, Table 12.4) and AGE. -/
def Rod.statusWord (ρ : Rod) (n : Axis) : Rod :=
  let age := ρ.serAge n
  let lim := decide (ρ.count n = ρ.cntMin n) || decide (ρ.count n = ρ.cntMax n)
  let w := b2n (ρ.fb.get n).fresh + 2 * b2n (ρ.qOk n) + 4 * b2n (ρ.sOk n) + 8 * b2n (ρ.fb.get n).fallback +
    16 * ρ.g (Fl.FB_STAT_REF_OK n.val) + 32 * b2n lim + 64 * ρ.g (Fl.FB_STAT_STILL n.val) +
    128 * ρ.g (Fl.FB_STAT_DIR n.val) + 256 * ρ.g (Fl.FB_STAT_WARN n.val) + 65536 * age
  (ρ.p (Fl.FB_STAT_AGE n.val) age).sp (0x0026 + n.val) (BitVec.ofNat 32 w)

/-- SER_CFG.DEC: 0 encodes 64. -/
def Rod.serDec (ρ : Rod) (n : Axis) : Nat := if ρ.g (Fl.SER_CFG_DEC n.val) = 0 then 64 else ρ.g (Fl.SER_CFG_DEC n.val)

/-- The feedback unit at a sampling instant (R395, R401, R405, R411). -/
def Rod.fbSample (ρ : Rod) (n : Axis) : Rod :=
  let t := 2 * ρ.ftn
  let ρ0 := ρ.sources12 n
  let (v, ρ1) := ρ0.sampleSpeed n t
  let ρ2 := (((ρ1.sp (0x0018 + n.val) (wOfInt (ρ1.count n))).sp (0x001C + n.val) (wOfInt v)).p (Fl.FB_SPD_SPD n.val)
    (natOfInt 32 v)).modFb n fun f => { f with fresh := false }
  let ρ3 := if ρ2.b (Fl.SER_CFG_EN n.val) && ρ2.tick % ρ2.serDec n == 0 then
      let c := ρ2.count n
      ρ2.modFb n fun f => { f with busy := true, steps := 0, latCnt := c, latTick := ρ2.tick, latAt := t }
    else ρ2
  ρ3.statusWord n

/-! ### Serial transfers -/

/-- A transfer fails (R408): 1 CRC, 2 ERR, 3 start timeout, 4 stop bit or recovery, 5 line delay. -/
def Rod.serFail (ρ : Rod) (n : Axis) (cause : Nat) : Rod :=
  let f := ρ.fb.get n
  let ρ1 := (ρ.inc (Fl.ERR_CNT_SER_BAD n.val)).modFb n fun g =>
    { g with busy := false, bad := g.bad + 1, badWhy := cause }
  ρ1.when (f.bad == 0 && !f.sFault) (·.fltA 0x0A10 sevWarn (fbPage n) n [(0, 1, n.val), (1, 1, cause)])

/-- Lead-in step `k`, 1 the first, ends without an answer (R405, R406). -/
def Rod.leadInTimeout (ρ : Rod) (n : Axis) (k : Nat) : Rod :=
  let f := ρ.fb.get n
  if f.busy = false then ρ
  else if k ≤ 1 then ρ.serFail n 5
  else if ρ.g (Fl.SER_TIM_START_TMO n.val) ≤ k then ρ.serFail n 3
  else ρ.modFb n fun g => { g with steps := k }

/-- The CRC-6 of R407 over bits, most significant first. -/
def crc6 : Nat → List Bool → Nat
  | c, [] => c
  | c, b :: t =>
    let fb := c.testBit 5 != b
    let c' := 2 * c % 64
    crc6 (if fb then c' ^^^ 3 else c') t

/-- The bits of a number, most significant first. -/
def msbBits : Nat → Nat → List Bool
  | 0, _ => []
  | n + 1, v => v.testBit n :: msbBits n v

/-- Gray code to binary: every bit is the exclusive OR of the bits at and above it. -/
def grayBits : Bool → List Bool → Nat → Nat
  | _, [], v => v
  | p, b :: t, v => grayBits (p != b) t (2 * v + b2n (p != b))

def Rod.dlen (ρ : Rod) (n : Axis) : Nat := ρ.g (Fl.SER_CFG_DLEN n.val)

/-- The position a frame carries (R410). -/
def Rod.framePos (ρ : Rod) (n : Axis) (f : SerialFrame) : Nat :=
  let d := ρ.dlen n
  if ρ.b (Fl.SER_CFG_GRAY n.val) then grayBits false (msbBits d f.pos.toNat) 0 else f.pos.toNat % 2 ^ d

/-- P or SER_ZERO read as R413 states. -/
def Rod.readPos (ρ : Rod) (n : Axis) (p : Nat) : Int :=
  if ρ.b (Fl.SER_CFG_SIGNED n.val) then sext (ρ.dlen n) p else (p % 2 ^ ρ.dlen n : Nat)

/-- Positions to counts: × CPR / 2^ST_BITS, rounded half away from zero (R413, R415). -/
def Rod.posCounts (ρ : Rod) (n : Axis) (p : Int) : Int :=
  divRoundAway (p * ρ.g (Fl.FB_CFG_CPR n.val)) (2 ^ ρ.g (Fl.SER_CFG_ST_BITS n.val))

/-- The count initialised from a good serial word (R413). -/
def Rod.initCount (ρ : Rod) (n : Axis) (p : Nat) : Rod :=
  let c := ρ.posCounts n (ρ.readPos n p - ρ.readPos n (ρ.g (Fl.SER_ZERO_ZERO n.val)))
  let c' := clampI (ρ.cntMin n) (ρ.cntMax n) c
  ((ρ.putCount n c').setRef n).modFb n fun f =>
    { f with wait := false, cref := c', pref := p, trk := 0, last := some (c', f.latAt), sign := 0, fbSpd := 0 }

/-- C_ser of a position (R415). -/
def Rod.cSer (ρ : Rod) (n : Axis) (p : Nat) : Int :=
  let f := ρ.fb.get n
  f.cref + ρ.posCounts n (sext (ρ.dlen n) (p + 2 ^ ρ.dlen n - f.pref % 2 ^ ρ.dlen n))

/-- The C_ser of a good word, and the speed of the serial path (R417). It is kept outside fall-back as well, so that fall-back
begins with the speed of the last good word. (DESIGN CHOICE, log entry 75) -/
def Rod.serWord (ρ : Rod) (n : Axis) (c : Int) : Rod :=
  let f := ρ.fb.get n
  let (dc, dt) := match f.last with
    | none => ((0 : Int), 1)
    | some (c0, t0) => (c - c0, max 1 (f.latAt - t0))
  let flip := decide (dc ≠ 0) && decide (f.sign ≠ 0) && decide (dc.sign ≠ f.sign)
  let v := if flip then 0 else ρ.speedWord n dc (dt : Nat)
  ρ.modFb n fun g => { g with last := some (c, g.latAt), fbSpd := v, sign := if dc = 0 then g.sign else dc.sign }

/-- The use of a good word: initialisation, tracking or fall-back (R413, R415, R416). -/
def Rod.goodWord (ρ : Rod) (n : Axis) (p : Nat) : Rod :=
  let f := ρ.fb.get n
  if ρ.sOk n = false then ρ
  else if f.wait then ρ.initCount n p
  else
    let c := ρ.cSer n p
    let ρ1 := ρ.serWord n c
    if f.fallback then ρ1.setCount n c
    else if ρ.qOk n && ρ.b (Fl.FB_STAT_REF_OK n.val) then
      let diff := f.latCnt - c
      if ρ.g (Fl.TRK_CFG_TRK_TOL n.val) < diff.natAbs then
        (ρ1.modFb n fun g => { g with trk := g.trk + 1 }).fltA 0x0A21 sevWarn (fbPage n) n
          [(0, 1, n.val), (4, 4, natOfInt 32 diff)]
      else ρ1.modFb n fun g => { g with trk := 0 }
    else ρ1

/-- A good transfer (R409, R410). -/
def Rod.serGood (ρ : Rod) (n : Axis) (f : SerialFrame) : Rod :=
  let p := ρ.framePos n f
  let warn := ρ.b (Fl.SER_CFG_EW_EN n.val) && !f.nWarn
  let rise := warn && !ρ.b (Fl.FB_STAT_WARN n.val)
  let ρ1 := (ρ.sp (0x0020 + 2 * n.val) (BitVec.ofNat 32 p)).sp (0x0021 + 2 * n.val) (BitVec.ofNat 32 (p / 2 ^ 32))
  let ρ2 := ((ρ1.p (Fl.SER_LO_POS n.val) (p % 2 ^ 32)).p (Fl.SER_HI_POS n.val) (p / 2 ^ 32)).p (Fl.FB_STAT_WARN n.val)
    (b2n warn)
  let ρ3 := ρ2.when rise fun q => (q.irq (fbPage n) 6).fltA 0x0A11 sevInfo (fbPage n) n [(0, 1, n.val)]
  let ρ4 := ρ3.modFb n fun g =>
    { g with busy := false, fresh := true, heldTick := some g.latTick, bad := if g.sFault then g.bad else 0 }
  (ρ4.goodWord n p).statusWord n

/-- The end of a serial transfer (R406 to R410). Of several causes to fail the record names the first of line delay, start
timeout, CRC, ERR and stop bit. (DESIGN CHOICE, log entry 75) -/
def Rod.serialEnd (ρ : Rod) (n : Axis) (f : SerialFrame) : Rod :=
  if (ρ.fb.get n).busy = false then ρ
  else
    let ew := ρ.b (Fl.SER_CFG_EW_EN n.val)
    let bits := msbBits (ρ.dlen n) f.pos.toNat ++ (if ew then [f.nErr, f.nWarn] else [])
    let ρ1 := if f.ack then ρ.p (Fl.SER_DLY_D n.val) f.delay else ρ
    if f.ack = false ∨ 320 < f.delay then ρ1.serFail n 5
    else if f.step < 2 ∨ ρ.g (Fl.SER_TIM_START_TMO n.val) < f.step then ρ1.serFail n 3
    else if ρ.b (Fl.SER_CFG_CRC_EN n.val) = true ∧ f.crc.toNat ≠ crc6 0 bits ^^^ 0x3F then ρ1.serFail n 1
    else if ew = true ∧ f.nErr = false then ρ1.serFail n 2
    else if f.stop = false ∨ f.idle = false then ρ1.serFail n 4
    else ρ1.serGood n f

/-- SER_LIM consecutive failed transfers (R408). -/
def Rod.serFault (ρ : Rod) (n : Axis) : Rod :=
  let f := ρ.fb.get n
  if ρ.sOk n && decide (ρ.g (Fl.TRK_CFG_SER_LIM n.val) ≤ f.bad) then
    (((ρ.modFb n fun g => { g with sFault := true }).irq (fbPage n) 1).fltA 0x0A12 sevDegrade (fbPage n) n
      [(0, 1, n.val), (1, 1, f.badWhy)]).sources12 n
  else ρ

/-- TRK_N consecutive tracking differences (R415). -/
def Rod.trackFault (ρ : Rod) (n : Axis) : Rod :=
  if ρ.g (Fl.TRK_CFG_TRK_N n.val) ≤ (ρ.fb.get n).trk then ρ.qFault n 4 0 else ρ

/-! ### Passes through STANDBY, READY and ARMING -/

/-- The count awaits the first good serial word (R413). -/
def Rod.awaitCount (ρ : Rod) : Rod := ρ.each allAxes fun n q => q.modFb n fun f => { f with wait := true }

/-- Entry to STANDBY: faults, LEAK and failure counts clear, the index reference is armed (R399, R413, R419). -/
def Rod.fbStandby (ρ : Rod) : Rod :=
  (ρ.each allAxes fun n q =>
    ((q.modFb n fun f => { f with qFault := 0, sFault := false, bad := 0, trk := 0, ill := false, idxArm := true }).p
      (Fl.FB_STAT_LEAK n.val) 0).sources12 n).awaitCount

/-- The position plausibility of step 4 for one axis (R420): the cause and the difference, if the rod fails. The
partners' counts are those latched at the same sampling instant. -/
def Rod.plausible (ρ : Rod) (n : Axis) (c1 c2 : Option Int) : Option (Nat × Int) :=
  let f := ρ.fb.get n
  let tol := ρ.g (Fl.TRK_CFG_PL_TOL n.val)
  let own := (ρ.sg (0x0018 + n.val)).toInt
  let cs := (f.last.map (·.1)).getD own
  if ρ.b (Fl.QD_CFG_QEN n.val) = false ∧ ρ.b (Fl.SER_CFG_EN n.val) = false then some (1, 0)
  else if ρ.b (Fl.FB_STAT_REF_OK n.val) = false then some (2, 0)
  else if ρ.qOk n = true ∧ ρ.sOk n = true ∧ tol < (own - cs).natAbs then some (3, own - cs)
  else match c1, c2 with
    | some a, some b => if 2 * tol < (own - a).natAbs ∧ 2 * tol < (own - b).natAbs then some (4, own - a) else none
    | _, _ => none

/-- Step 4 of Table 3.5 on every armed axis but a PUMP axis; answers whether it passed. -/
def Rod.plausStep (ρ : Rod) (counts : Axis → Option Int × Option Int) : Rod × Bool :=
  let axes := allAxes.filter fun n => ρ.axisArmed n && ρ.role n != rolePump
  let bad := axes.filterMap fun n => (ρ.plausible n (counts n).1 (counts n).2).map fun w => (n, w)
  match bad with
  | [] => (ρ, true)
  | (n, c, d) :: _ =>
    let ρ1 := ρ.each bad fun e q =>
      q.fltA 0x0A30 sevWarn (fbPage e.1) e.1 [(0, 1, e.1.val), (1, 1, e.2.1), (4, 4, natOfInt 32 e.2.2)]
    (ρ1.armFail 0x0122 n.val [(0, 1, n.val), (4, 4, if c = 0 then 0 else natOfInt 32 d)], false)

/-! ### The commands -/

/-- QUADRATURE_TRANSITION (R391). -/
def execQuadratureTransition (r : RodId) (axis : Axis) (a b : LineLevel) (sample : Nat) (s : State) :
    Host.Outcome State Fault Refusal :=
  onRod s r fun ρ => ρ.quadrature axis (ρ.accepted axis a.level a.held b.level b.held) sample

/-- LEAK_LIMIT (R394). -/
def execLeakLimit (r : RodId) (axis : Axis) (s : State) : Host.Outcome State Fault Refusal :=
  onRod s r fun ρ => ρ.leakLimit axis

/-- INDEX_EVENT (R398). -/
def execIndexEvent (r : RodId) (axis : Axis) (s : State) : Host.Outcome State Fault Refusal :=
  onRod s r fun ρ => ρ.indexEvent axis

/-- LINE_FAULT (R390). -/
def execLineFault (r : RodId) (axis : Axis) (line : Fin 3) (s : State) : Host.Outcome State Fault Refusal :=
  onRod s r fun ρ => ρ.lineFault axis line.val

/-- SPD_TMO (R403). -/
def execSpdTmo (r : RodId) (axis : Axis) (s : State) : Host.Outcome State Fault Refusal :=
  onRod s r fun ρ => ρ.spdTimeout axis

/-- LEAD_IN_STEP_TIMEOUT (R405). -/
def execLeadInStepTimeout (r : RodId) (axis : Axis) (step : Nat) (s : State) : Host.Outcome State Fault Refusal :=
  onRod s r fun ρ => ρ.leadInTimeout axis step

/-- SERIAL_TRANSFER_END (R410). -/
def execSerialTransferEnd (r : RodId) (axis : Axis) (frame : SerialFrame) (s : State) :
    Host.Outcome State Fault Refusal :=
  onRod s r fun ρ => ρ.serialEnd axis frame

/-- SER_FAULT (R408). -/
def execSerFault (r : RodId) (axis : Axis) (s : State) : Host.Outcome State Fault Refusal :=
  onRod s r fun ρ => ρ.serFault axis

/-- TRACK_FAULT (R415). -/
def execTrackFault (r : RodId) (axis : Axis) (s : State) : Host.Outcome State Fault Refusal :=
  onRod s r fun ρ => ρ.trackFault axis

end Sys2Proof.Machine
end

