-- ==== Sys2Proof/Machine/Pump.lean ====
section
/-! DEFINITION. Commutation, observer and pump axes (spec/11_pump_axes.md): the observer of R368, the speed curve and its
hysteresis, the phases and the sequencer, observer loss and start retries. The observer computes in whole multiples of
2⁻⁴⁰ of its units, with π and the roots to the precision given here. -/

namespace Sys2Proof.Machine

/-- Phases of Table 11.2. -/
def PP.off : Nat := 0
def PP.idle : Nat := 1
def PP.catch_ : Nat := 2
def PP.brake : Nat := 3
def PP.align : Nat := 4
def PP.ramp : Nat := 5
def PP.run : Nat := 6
def PP.fault : Nat := 7

def Rod.modPmp (ρ : Rod) (n : Axis) (f : Pmp → Pmp) : Rod := { ρ with pmp := ρ.pmp.set n (f (ρ.pmp.get n)) }

def Rod.isPump (ρ : Rod) (n : Axis) : Bool := ρ.role n == rolePump

/-! ### Fixed-point helpers, in units of 2⁻⁴⁰ -/

/-- The unit. (DESIGN CHOICE, log entry 58) -/
def fxOne : Int := 2 ^ 40

/-- Products and quotients of fixed-point numbers. (DESIGN CHOICE, log entry 58) -/
def fxMul (a b : Int) : Int := a * b / fxOne
def fxDiv (a b : Int) : Int := if b = 0 then 0 else a * fxOne / b

/-- 2π and π. -/
def fxTwoPi : Int := twoPi * fxOne / twoPiScale
def fxPi : Int := fxTwoPi / 2

/-- The sum t − t³/3 + t⁵/5 − … over `k` terms; `p` holds ±t^(2i+1), `t2` holds t². -/
def atanSum : Nat → Int → Int → Int → Int
  | 0, _, _, _ => 0
  | k + 1, p, t2, d => p / d + atanSum k (-(fxMul p t2)) t2 (d + 2)

/-- The arc tangent of 0 ≤ t ≤ 1, by atan t = π/4 + atan ((t − 1) / (t + 1)) above 0.4. -/
def fxAtan (t : Int) : Int :=
  if 5 * t ≤ 2 * fxOne then atanSum 24 t (fxMul t t) 1
  else
    let u := fxDiv (t - fxOne) (t + fxOne)
    fxPi / 4 + atanSum 24 u (fxMul u u) 1

/-- The angle of (x, y), in (−π, π]; 0 for the zero vector. -/
def fxAtan2 (y x : Int) : Int :=
  let ay : Int := y.natAbs
  let ax : Int := x.natAbs
  let a := if ax = 0 ∧ ay = 0 then 0 else if ay ≤ ax then fxAtan (fxDiv ay ax) else fxPi / 2 - fxAtan (fxDiv ax ay)
  let b := if x < 0 then fxPi - a else a
  if y < 0 then -b else b

/-- An angle brought into (−π, π]. -/
def fxWrap (a : Int) : Int :=
  let m := a % fxTwoPi
  if fxPi < m then m - fxTwoPi else m

/-- The Clarke transform of three phase values. -/
def clarke (u v w : Int) : Int × Int := ((2 * u - v - w) / 3, (v - w) * 5773502691896257645 / 10000000000000000000)

/-- An angle as an unsigned fraction of one turn × 2^32, rounded half away from zero. -/
def angleWord (a : Int) : Word := wOfInt (divRoundAway (a * 2 ^ 32) fxTwoPi)

/-! ### The observer -/

/-- A phase current in A (R336, PMP_SCALE.IFS). -/
def Rod.obsAmp (ρ : Rod) (n : Axis) (p : Phase) : Int :=
  ((ρ.sg (3 * n.val + p.val)).toInt - 32768) * ρ.g (Fl.PMP_SCALE_IFS n.val) * fxOne / 3276800

/-- A sense word in V (PMP_SCALE.VFS). -/
def Rod.obsVolt (ρ : Rod) (n : Axis) (w : Nat) : Int :=
  (ρ.sg w).toInt * ρ.g (Fl.PMP_SCALE_VFS n.val) * fxOne / 655360

/-- The applied duty, after the clamp (R433), as a fixed-point number. -/
def Rod.dutyFx (ρ : Rod) (n : Axis) (p : Phase) : Int := ρ.applied n p * 2 ^ 16

/-- The voltage of a phase by the state of its gates (R368): driven in the phases that drive them, in a set whose enable stands;
otherwise floating, or shorted. (DEDUCED, log entry 73) -/
def Rod.obsU (ρ : Rod) (n : Axis) (p : Phase) : Int :=
  let ph := ρ.pumpPhase n
  if ph = PP.brake then 0
  else if (ph = PP.align ∨ ph = PP.ramp ∨ ph = PP.run) ∧ ρ.enableBut n = true then
    let vm := ρ.obsVolt n 0x0012
    let dead := fxMul vm ((ρ.deadTime n : Int) * fxOne / max 1 ρ.perNow)
    fxMul (ρ.dutyFx n p - fxOne / 2) vm - (ρ.obsAmp n p).sign * dead
  else ρ.obsVolt n (0x0009 + 3 * n.val + p.val)

/-- E_MIN in V (R369). -/
def Rod.eMin (ρ : Rod) (n : Axis) : Int :=
  (ρ.g (Fl.OBS_PSI_PSI n.val) * ρ.g (Fl.OBS_PSI_PP n.val) * ρ.g (Fl.PMP_HO_HO_SPD n.val) *
    ρ.g (Fl.PMP_HO_DROP_PCT n.val) : Nat) * fxOne / 100000000000

/-- OSPD in mrad/s for an electrical speed (R368). -/
def Rod.ospdOf (ρ : Rod) (n : Axis) (w : Int) : Int :=
  satW (divRoundAway (w * 1000) (max 1 (ρ.g (Fl.OBS_PSI_PP n.val)) * fxOne))

/-- OSPD as shown. -/
def Rod.ospd (ρ : Rod) (n : Axis) : Int := sext 32 (ρ.g (Fl.PMP_OBS_OSPD n.val))

/-- The PSTAT word (Table 11.1). -/
def Rod.writePstat (ρ : Rod) : Rod :=
  let byte (n : Axis) : Nat :=
    if ρ.isPump n then
      ρ.pumpPhase n + 8 * ρ.g (Fl.PMP_STAT_LOCK n.val) + 16 * ρ.g (Fl.PMP_STAT_REQ n.val) +
        32 * b2n (ρ.pmp.get n).hand + 64 * ρ.g (Fl.PMP_STAT_DIR n.val)
    else 0
  ρ.sp 0x003E (BitVec.ofNat 32 (byte 0 + 2 ^ 8 * byte 1 + 2 ^ 16 * byte 2))

/-- LOCK, DIR and REST of the own set are reported when one of them changes (R377). -/
def Rod.reportPump (ρ : Rod) (n : Axis) : Rod :=
  let now := (ρ.b (Fl.PMP_STAT_LOCK n.val), ρ.b (Fl.PMP_STAT_DIR n.val), (ρ.pmp.get n).rest)
  let ρ1 := ρ.writePstat
  if (ρ1.pmp.get n).reps.get ρ1.me.idx = now then ρ1
  else
    (ρ1.modPmp n fun k => { k with reps := k.reps.set ρ.me.idx now }).send (.pumpStatus ⟨n, now.1, now.2.1, now.2.2⟩)

/-- One step of the observer with the words of the tick (R368, R369). -/
def Rod.observe (ρ : Rod) (n : Axis) : Rod :=
  let k := ρ.pmp.get n
  let pt : Int := (ρ.tickNow : Int) * fxOne / 2000000000
  let wn : Int := fxTwoPi * ρ.g (Fl.OBS_CFG_BW n.val)
  let (ia, ib) := clarke (ρ.obsAmp n 0) (ρ.obsAmp n 1) (ρ.obsAmp n 2)
  let (va, vb) := clarke (ρ.obsU n 0) (ρ.obsU n 1) (ρ.obsU n 2)
  let sets : Int := (ρ.healthySets n).length
  let leff : Int := ((ρ.g (Fl.OBS_L_L n.val) : Int) + (sets - 1) * ρ.g (Fl.OBS_L_M n.val)) * fxOne / 100000000
  let r : Int := (ρ.g (Fl.OBS_R_R n.val) : Int) * fxOne / 1000000
  let emf (v i ip : Int) : Int := v - fxMul r i - fxDiv (fxMul leff (i - ip)) pt
  let e1 := emf va ia k.ia
  let e2 := emf vb ib k.ib
  let g := min fxOne (8 * fxMul wn pt)
  let fa := k.ea + fxMul (e1 - k.ea) g
  let fb := k.eb + fxMul (e2 - k.eb) g
  let th := fxAtan2 (-fa) fb
  let eps := fxWrap (th - k.pll)
  let w := k.w + fxMul (fxMul (fxMul wn wn) pt) eps
  let pll := fxWrap (k.pll + fxMul w pt + fxMul (fxMul wn pt) eps * 1414 / 1000)
  let ang := if w < 0 then pll + fxPi else pll
  let mag2 := fa * fa + fb * fb
  let emin := ρ.eMin n
  let near := decide (10 * (eps.natAbs : Int) ≤ fxOne) && decide (emin * emin ≤ mag2)
  let psiw : Int := fxMul ((ρ.g (Fl.OBS_PSI_PSI n.val) : Int) * fxOne / 1000000) w.natAbs
  let bad1 := decide (fxOne < 2 * (eps.natAbs : Int))
  let bad2 := decide (4 * mag2 < psiw * psiw) || decide (9 * (psiw * psiw) < 4 * mag2)
  let sp := ρ.ospdOf n w
  let bad3 := decide (100 * sp.natAbs < ρ.g (Fl.PMP_HO_HO_SPD n.val) * ρ.g (Fl.PMP_HO_DROP_PCT n.val))
  let up (c : Bool) (x : Nat) : Nat := if c then x + 1 else 0
  let inCatch := ρ.pumpPhase n == PP.catch_
  let lim : Int := (ρ.g (Fl.OBS_CFG_REST_I n.val) : Int) * ρ.g (Fl.PMP_SCALE_IFS n.val) * fxOne / 102400
  let rest := ρ.pumpPhase n == PP.brake && decide (ia * ia + ib * ib < lim * lim)
  let ρ1 := ρ.modPmp n fun k =>
    { k with ia := ia, ib := ib, ea := fa, eb := fb, w := w, pll := pll, eps := eps, rest := rest
             lockN := up near k.lockN, c1 := up bad1 k.c1, c2 := up bad2 k.c2, c3 := up bad3 k.c3
             catchN := up inCatch k.catchN
             lowN := if inCatch then (if mag2 < emin * emin then k.lowN + 1 else k.lowN) else 0 }
  let ρ2 := ((ρ1.p (Fl.PMP_OBS_OSPD n.val) (natOfInt 32 sp)).p (Fl.PMP_STAT_DIR n.val) (b2n (decide (w < 0)))).sp
    (0x003B + n.val) (wOfInt sp)
  ρ2.sp (0x0038 + n.val) (angleWord ang)

/-- The angle the image commutates with (R366, Table 11.2), and the report of what changed. -/
def Rod.pumpAngle (ρ : Rod) (n : Axis) : Rod :=
  let ph := ρ.pumpPhase n
  let disp := BitVec.ofNat 32 (ρ.g (Fl.PMP_DISP_DISP n.val ρ.me.code))
  let ρ1 := if ph = PP.off then (ρ.sp (0x0038 + n.val) 0#32).sp (0x003B + n.val) 0#32
    else if ph = PP.align then ρ.sp (0x0038 + n.val) disp
    else if ph = PP.ramp then ρ.sp (0x0038 + n.val) ((ρ.pmp.get n).ramp + disp)
    else ρ
  ρ1.reportPump n

/-! ### The sequencer -/

/-- HO_SPD in mrad/s. -/
def Rod.hoSpd (ρ : Rod) (n : Axis) : Nat := ρ.g (Fl.PMP_HO_HO_SPD n.val)

/-- The ramp speed j ticks after k0, mechanical, in units of 5 · 10⁻¹⁰ rad/s (R375). -/
def Rod.rampNano (ρ : Rod) (n : Axis) (j : Nat) : Nat :=
  min (ρ.g (Fl.PMP_RAMP_RAMP_ACC n.val) * j * ρ.tickNow) (ρ.hoSpd n * 2000000)

/-- INC(j) of R375. -/
def Rod.rampInc (ρ : Rod) (n : Axis) (j : Nat) : Int :=
  divRoundAway ((ρ.g (Fl.OBS_PSI_PP n.val) * ρ.rampNano n j * ρ.tickNow : Nat) * 2 ^ 32 * twoPiScale)
    (twoPi * 4000000000000000000)

/-- I_align or I_ramp in Q1.31: a percentage of the smallest limit among the healthy sets. -/
def Rod.pumpCurrent (ρ : Rod) (n : Axis) (pct : Nat) : Int :=
  let lims := (ρ.healthySets n).map fun r => ρ.g (Fl.AX_ILIM_LIM n.val r.code)
  match lims with
  | [] => 0
  | a :: l => satW (divRoundAway ((l.foldl min a : Int) * 65536 * pct) 100)

/-- HO_TQ of a hand-over (R379), Q3.29. -/
def Rod.hoTq (ρ : Rod) (n : Axis) : Word :=
  let obs := if (ρ.pmp.get n).w < 0 then (ρ.pmp.get n).pll + fxPi else (ρ.pmp.get n).pll
  let s := (sinCos ((ρ.pmp.get n).ramp - angleWord obs)).1.toInt
  wOfInt (satW (divRoundAway (((ρ.healthySets n).length : Int) * ρ.pumpCurrent n (ρ.g (Fl.PMP_RAMP_RAMP_PCT n.val)) * s)
    (2 ^ 33)))

/-- The lead decides a phase change: it comes into force at the second tick after (R376). Of two at one tick the lower
target is taken (R378); while a change of an earlier tick is due, only OFF and a start retry are decided. (DEDUCED, log entry 73) -/
def Rod.decidePump (ρ : Rod) (n : Axis) (phase cause : Nat) : Rod :=
  let k := ρ.pmp.get n
  let retry := phase == PP.catch_ && (ρ.pumpPhase n == PP.ramp || ρ.pumpPhase n == PP.run)
  let open_ := match k.next with
    | none => true
    | some c => decide (phase < c.1) && (k.decided == ρ.tick || phase == PP.off || retry)
  if ρ.isPump n && ρ.leads n && open_ && ρ.pumpPhase n != phase then
    let hq : Word := if ρ.pumpPhase n = PP.ramp ∧ phase = PP.run then ρ.hoTq n else 0#32
    let sp := wOfInt (ρ.ospd n)
    let at_ := (ρ.tick + 2) % 2 ^ 32
    (ρ.modPmp n fun c => { c with next := some (phase, at_, hq, sp, cause), decided := ρ.tick }).send
      (.pumpPhase ⟨n, ρ.epoch, phase, BitVec.ofNat 32 ρ.tick, hq, sp, cause⟩)
  else ρ

/-- Whether a condition holds in every healthy rod, by the latest reports (R377). -/
def Rod.inEvery (ρ : Rod) (n : Axis) (f : Bool × Bool × Bool → Bool) : Bool :=
  (ρ.healthySets n).all fun r => f ((ρ.pmp.get n).reps.get r.idx)

/-- A start retry (R383): CATCH, at whose entry the count advances, or FAULT with RETRY_N used up. -/
def Rod.startRetry (ρ : Rod) (n : Axis) : Rod :=
  if ρ.b (Fl.PMP_STAT_REQ n.val) = false ∧ ρ.pumpPhase n = PP.run then ρ.decidePump n PP.idle 0
  else if ρ.g (Fl.PMP_START_RETRY_N n.val) ≤ ρ.g (Fl.PMP_STAT_RETRIES n.val) then ρ.decidePump n PP.fault 4
  else ρ.decidePump n PP.catch_ 0

/-- How long every healthy rod has reported REST in BRAKE without a break (Table 11.3). -/
def Rod.restClock (ρ : Rod) (n : Axis) : Rod :=
  let on := ρ.pumpPhase n == PP.brake && ρ.inEvery n (·.2.2)
  ρ.modPmp n fun k => { k with restAt := if on then some (k.restAt.getD ρ.ft) else none }

/-- Whether a number of ms has passed since an FT. -/
def Rod.elapsed (ρ : Rod) (since : Option Nat) (ms : Nat) : Bool :=
  match since with
  | some t => ρ.passed t (1000000 * ms)
  | none => false

/-- The rows of Table 11.3 that the lead takes tick by tick. -/
def Rod.pumpDecide (ρ : Rod) (n : Axis) : Rod :=
  let k := ρ.pmp.get n
  let ph := ρ.pumpPhase n
  let req := ρ.b (Fl.PMP_STAT_REQ n.val)
  let lock := ρ.b (Fl.PMP_STAT_LOCK n.val)
  let all := ρ.inEvery n (·.1)
  let back := ρ.b (Fl.PMP_STAT_DIR n.val)
  let fast := decide ((ρ.hoSpd n : Int) ≤ ρ.ospd n)
  if ph = PP.idle then (if req then ρ.decidePump n PP.catch_ 0 else ρ)
  else if ph = PP.catch_ then
    if all && !back && fast then (if req then ρ.decidePump n PP.run 0 else ρ.decidePump n PP.idle 0)
    else if lock && back then ρ.decidePump n PP.brake 1
    else if lock && !fast then ρ.decidePump n PP.brake 2
    else if k.catchN = 64 ∧ k.lowN = 64 then ρ.decidePump n PP.brake 3
    else ρ
  else if ph = PP.ramp then
    let v : Int := ρ.rampNano n k.j
    if v = ρ.hoSpd n * 2000000 ∧ all = true ∧ 4 * (ρ.ospd n * 2000000 - v).natAbs ≤ v.natAbs then ρ.decidePump n PP.run 0
    else ρ
  else if ph = PP.run then (if req then ρ else ρ.decidePump n PP.idle 0)
  else ρ

/-- The share unit inputs of a phase other than RUN (Table 11.2). -/
def Rod.pumpRefs (ρ : Rod) (n : Axis) : Rod :=
  let ph := ρ.pumpPhase n
  let id : Int := if ph = PP.align then ρ.pumpCurrent n (ρ.g (Fl.PMP_START_ALIGN_PCT n.val))
    else if ph = PP.ramp then ρ.pumpCurrent n (ρ.g (Fl.PMP_RAMP_RAMP_PCT n.val)) else 0
  let ρ1 := { ρ with rk := { ρ.rk with idBase := ρ.rk.idBase.set n (wOfInt id) } }
  (ρ1.sp (torqueW n.val 3) 0#32).sp (torqueW n.val 4) (wOfInt id)

/-- A phase change comes into force (R376, R379, R383, R385, R387, R388), with the ratchet reference at RUN (R553); each rod
counts a start retry as it is made. (DEDUCED, log entry 73) -/
def Rod.pumpEnter (ρ : Rod) (n : Axis) (new : Nat) (hq sp : Word) (cause : Nat) : Rod :=
  let old := ρ.pumpPhase n
  let ρ1 := ((ρ.p (Fl.PMP_STAT_PHASE n.val) new).irq (axisPage n) 8).modPmp n fun k =>
    { k with next := none, k0 := if new = PP.ramp then ρ.tick else k.k0, j := if new = PP.ramp then 0 else k.j
             ramp := if new = PP.ramp then 0#32 else k.ramp, catchN := 0, lowN := 0
             at_ := ρ.ft, restAt := none, fullAt := none
             rest := false, lockN := if old = PP.off then 0 else k.lockN }
  let ρ2 := ρ1.fltA 0x0930 sevInfo (axisPage n) n [(0, 1, n.val), (1, 1, new), (2, 1, old), (4, 4, sp.toNat)]
  let ρ3 := if new = PP.run then
      let q := (ρ2.inc (Fl.PMP_CNT_STARTS n.val)).p (Fl.SF_SDI_REF n.val) (ρ2.sg (0x0018 + n.val)).toNat
      if old = PP.catch_ then q.fltA 0x0931 sevInfo (axisPage n) n [(0, 1, n.val), (4, 4, sp.toNat)]
      else if old = PP.ramp then
        ((q.sp (0x0029 + n.val) hq).modPmp n fun k => { k with hand := true }).fltA 0x0933 sevInfo (axisPage n) n
          [(0, 1, n.val), (4, 4, hq.toNat)]
      else q
    else if new = PP.catch_ ∧ (old = PP.ramp ∨ old = PP.run) then
      let q := ρ2.inc (Fl.PMP_STAT_RETRIES n.val)
      q.fltA 0x0935 sevWarn (axisPage n) n [(0, 1, n.val), (1, 1, q.g (Fl.PMP_STAT_RETRIES n.val))]
    else if new = PP.brake then ρ2.fltA 0x0932 sevInfo (axisPage n) n [(0, 1, n.val), (1, 1, cause)]
    else if new = PP.fault then
      let q := { (ρ2.p (Fl.PMP_STAT_FCAUSE n.val) cause).irq (axisPage n) 10 with
        md := { ρ2.md with safeAx := ρ2.md.safeAx.set n true } }
      q.fltA 0x0936 sevDegrade (axisPage n) n [(0, 1, n.val), (1, 1, cause)]
    else if new = PP.idle then
      let q := { ρ2 with md := { ρ2.md with safeAx := ρ2.md.safeAx.set n false } }
      if old = PP.off then q.p (Fl.PMP_STAT_REQ n.val) 0
      else if old = PP.fault then q.p (Fl.PMP_STAT_RETRIES n.val) 0 else q
    else if new = PP.off then
      ((ρ2.p (Fl.PMP_STAT_LOCK n.val) 0).p (Fl.PMP_STAT_DIR n.val) 0).modPmp n fun k =>
        { Pmp.init with reps := k.reps }
    else ρ2
  if new = PP.run then ρ3 else ρ3.pumpRefs n

/-- Cycle 0 of a tick on a pump axis: a change that is due, θ_ramp, HANDOVER, REQ and SREF (R367, R371, R372, R375,
R376); answers whether a phase change came into force. -/
def Rod.pumpCycle0 (ρ : Rod) (n : Axis) : Rod × Bool :=
  if ρ.isPump n then
    let due := match (ρ.pmp.get n).next with
      | some c => if c.2.1 = ρ.tick then some c else none
      | none => none
    let ends := (ρ.tick + 2 ^ 32 - 1) % 2 ^ 32 % ρ.divisor n == 0
    let ρ0 := ρ.modPmp n fun k => { k with hand := k.hand && !ends }
    let ρ1 := match due with
      | some (ph, _, hq, sp, cause) => ρ0.pumpEnter n ph hq sp cause
      | none =>
        if ρ0.pumpPhase n = PP.ramp then
          let j := (ρ0.pmp.get n).j + 1
          let inc := ρ0.rampInc n j
          let full := ρ0.rampNano n j == ρ0.hoSpd n * 2000000
          ρ0.modPmp n fun k => { k with j := j, ramp := k.ramp + wOfInt inc
                                        fullAt := if full then some (k.fullAt.getD ρ0.ft) else none }
        else ρ0
    let inp := ρ1.sg (inputW n.val 5)
    let hi := wBits inp 16 16
    let on := ρ1.g (Fl.PMP_CURVE_IN_ON n.val)
    let offT := on - ρ1.g (Fl.PMP_CURVE_HYST n.val)
    let req := if on ≤ hi then 1 else if hi < offT then 0 else ρ1.g (Fl.PMP_STAT_REQ n.val)
    let ρ2 := ρ1.p (Fl.PMP_STAT_REQ n.val) req
    let bank := bankBit (ρ2.rk.actTbl.get n) 2
    let sref : Int := if req = 1 then max 0 (satW (ρ2.cluValue bank inp n.val)) else 0
    ((ρ2.sp (0x002C + n.val) (wOfInt sref)).writePstat, due.isSome)
  else
    ((((((ρ.sp (0x0029 + n.val) 0#32).sp (0x002C + n.val) 0#32).sp (0x0038 + n.val) 0#32).sp (0x003B + n.val) 0#32)).writePstat,
      false)

/-- The observer and the decisions of a tick, after its ADC words (R365, R368, R376). -/
def Rod.pumpTick (ρ : Rod) (n : Axis) : Rod :=
  if ρ.isPump n then
    let ρ1 := if ρ.pumpPhase n = PP.off then ρ else ρ.observe n
    ((ρ1.pumpAngle n).restClock n).pumpDecide n
  else ρ

/-- A pump phase message of the lead (R376, R477 for the epoch, which the caller has checked). -/
def Rod.takePhase (ρ : Rod) (m : PumpPhaseMsg) : Rod :=
  ρ.modPmp m.axis fun k =>
    { k with next := some (m.phase, (m.tick.toNat + 2) % 2 ^ 32, m.hoTq, m.ospd, m.cause), decided := m.tick.toNat }

/-- A report of a partner's LOCK, DIR and REST (R377). -/
def Rod.takeReport (ρ : Rod) (src : RodId) (m : PumpStatus) : Rod :=
  (ρ.modPmp m.axis fun k => { k with reps := k.reps.set src.idx (m.lock, m.dir, m.rest) }).restClock m.axis

/-- The observer locks after 64 ticks (R369). -/
def Rod.obsLock (ρ : Rod) (n : Axis) : Rod :=
  if ρ.isPump n && ρ.pumpPhase n != PP.off && !ρ.b (Fl.PMP_STAT_LOCK n.val) && decide (64 ≤ (ρ.pmp.get n).lockN) then
    (ρ.p (Fl.PMP_STAT_LOCK n.val) 1).reportPump n
  else ρ

/-- Whether a cause of Table 11.4 holds. -/
def Rod.lossHolds (ρ : Rod) (n : Axis) (cause : Nat) : Bool :=
  let k := ρ.pmp.get n
  if cause = 1 then decide (16 ≤ k.c1)
  else if cause = 2 then decide (4000000 ≤ k.c2 * ρ.tickNow)
  else if cause = 3 then decide (4000000 ≤ k.c3 * ρ.tickNow)
  else false

/-- Record 0x0934 and the loss count (R382, R387). -/
def Rod.lossRecord (ρ : Rod) (n : Axis) (cause : Nat) : Rod :=
  ((ρ.inc (Fl.PMP_CNT_LOSSES n.val)).irq (axisPage n) 9).fltA 0x0934 sevWarn (axisPage n) n
    [(0, 1, n.val), (1, 1, cause), (2, 1, b2n (!ρ.leads n)), (4, 4, natOfInt 32 (ρ.ospd n))]

/-- The observer loses LOCK (R382 to R384). -/
def Rod.obsLost (ρ : Rod) (n : Axis) (cause : Nat) : Rod :=
  if ρ.isPump n && ρ.b (Fl.PMP_STAT_LOCK n.val) && ρ.lossHolds n cause then
    let ph := ρ.pumpPhase n
    let ρ1 := ((ρ.lossRecord n cause).p (Fl.PMP_STAT_LOCK n.val) 0).reportPump n
    if ρ.leads n then (if ph = PP.run ∨ ph = PP.ramp then ρ1.startRetry n else ρ1)
    else if ph = PP.run then ρ1.setSetOn n false
    else ρ1
  else ρ

/-- Whether a phase has lasted for a number of ms. -/
def Rod.phaseFor (ρ : Rod) (n : Axis) (phase ms : Nat) : Bool :=
  ρ.pumpPhase n == phase && ρ.elapsed (some (ρ.pmp.get n).at_) ms

/-- No lock 20 ms after CATCH entry, in some healthy rod (Table 11.3). (DEDUCED, log entry 73) -/
def Rod.catchNoLock (ρ : Rod) (n : Axis) : Rod :=
  if ρ.phaseFor n PP.catch_ 20 && !ρ.inEvery n (·.1) then ρ.decidePump n PP.brake 4 else ρ

/-- REST in every healthy rod for 5 ms without a break (Table 11.3). -/
def Rod.restConfirmed (ρ : Rod) (n : Axis) : Rod :=
  if ρ.pumpPhase n == PP.brake && ρ.elapsed (ρ.pmp.get n).restAt 5 then ρ.decidePump n PP.align 0 else ρ

/-- BRK_TMO elapsed in BRAKE (Table 11.3). -/
def Rod.brakeTimeout (ρ : Rod) (n : Axis) : Rod :=
  if ρ.phaseFor n PP.brake (ρ.g (Fl.PMP_START_BRK_TMO n.val)) then ρ.decidePump n PP.fault 2 else ρ

/-- ALIGN_T elapsed in ALIGN (Table 11.3). -/
def Rod.alignTimeout (ρ : Rod) (n : Axis) : Rod :=
  if ρ.phaseFor n PP.align (ρ.g (Fl.PMP_START_ALIGN_T n.val)) then
    (if ρ.b (Fl.PMP_STAT_REQ n.val) then ρ.decidePump n PP.ramp 0 else ρ.decidePump n PP.idle 0)
  else ρ

/-- The ramp speed has stood at HO_SPD for 200 ms without a hand-over (R383). -/
def Rod.rampTimeout (ρ : Rod) (n : Axis) : Rod :=
  if ρ.isPump n && ρ.leads n && ρ.pumpPhase n == PP.ramp && ρ.elapsed (ρ.pmp.get n).fullAt 200 then
    (ρ.lossRecord n 4).startRetry n
  else ρ

/-- 10 s without a break in RUN (R383). -/
def Rod.retryReset (ρ : Rod) (n : Axis) : Rod :=
  if ρ.phaseFor n PP.run 10000 then ρ.p (Fl.PMP_STAT_RETRIES n.val) 0 else ρ

/-- Step 5 of ARMING begins for a pump axis (R380, R381). -/
def Rod.pumpArm (ρ : Rod) (n : Axis) : Rod :=
  if ρ.isPump n && ρ.axisArmed n && decide (ρ.pumpPhase n = PP.off) then
    let zero := ρ.g (Fl.OBS_R_R n.val) == 0 || ρ.g (Fl.OBS_L_L n.val) == 0 || ρ.g (Fl.OBS_PSI_PSI n.val) == 0 ||
      ρ.g (Fl.PMP_SCALE_IFS n.val) == 0 || ρ.g (Fl.PMP_SCALE_VFS n.val) == 0
    if zero then ρ.decidePump n PP.fault 5 else ρ.decidePump n PP.catch_ 0
  else ρ

/-- The start of a pump axis is complete (R380). -/
def Rod.pumpStarted (ρ : Rod) (n : Axis) : Bool :=
  let ph := ρ.pumpPhase n
  ph == PP.run || ph == PP.idle || ph == PP.ramp || ph == PP.fault

/-- A RETRY write outside FAULT is captured; in FAULT the lead returns to IDLE (R385). -/
def Rod.writePmpCmd (ρ : Rod) (path : Nat) (n : Axis) (data : Word) : Rod :=
  if wBit data 0 = false then ρ
  else if ρ.pumpPhase n = PP.fault then ρ.decidePump n PP.idle 0
  else ρ.errCap (axisPage n) 0x6 path 0xD8 data

/-! ### The commands -/

/-- PUMP_STATUS_REPORT (R377). -/
def execPumpStatusReport (r src : RodId) (msg : PumpStatus) (s : State) : Host.Outcome State Fault Refusal :=
  onRod s r fun ρ => if src = ρ.me then ρ else ρ.takeReport src msg

/-- OBSERVER_LOCK (R369). -/
def execObserverLock (r : RodId) (axis : Axis) (s : State) : Host.Outcome State Fault Refusal :=
  onRod s r fun ρ => ρ.obsLock axis

/-- OBS_LOST (R382). -/
def execObsLost (r : RodId) (axis : Axis) (cause : Nat) (s : State) : Host.Outcome State Fault Refusal :=
  onRod s r fun ρ => ρ.obsLost axis cause

/-- CATCH_NO_LOCK (Table 11.3). -/
def execCatchNoLock (r : RodId) (axis : Axis) (s : State) : Host.Outcome State Fault Refusal :=
  onRod s r fun ρ => ρ.catchNoLock axis

/-- REST_CONFIRMED (Table 11.3). -/
def execRestConfirmed (r : RodId) (axis : Axis) (s : State) : Host.Outcome State Fault Refusal :=
  onRod s r fun ρ => ρ.restConfirmed axis

/-- BRK_TMO_EXPIRY (Table 11.3). -/
def execBrkTmoExpiry (r : RodId) (axis : Axis) (s : State) : Host.Outcome State Fault Refusal :=
  onRod s r fun ρ => ρ.brakeTimeout axis

/-- ALIGN_T_EXPIRY (Table 11.3). -/
def execAlignTExpiry (r : RodId) (axis : Axis) (s : State) : Host.Outcome State Fault Refusal :=
  onRod s r fun ρ => ρ.alignTimeout axis

/-- RAMP_HOLD_TIMEOUT (R383). -/
def execRampHoldTimeout (r : RodId) (axis : Axis) (s : State) : Host.Outcome State Fault Refusal :=
  onRod s r fun ρ => ρ.rampTimeout axis

/-- RETRY_COUNT_RESET (R383). -/
def execRetryCountReset (r : RodId) (axis : Axis) (s : State) : Host.Outcome State Fault Refusal :=
  onRod s r fun ρ => ρ.retryReset axis

end Sys2Proof.Machine
end

