-- ==== Sys2Proof/Machine/Safety.lean ====
section
/-! DEFINITION. The safety monitor (spec/16_safety_functions.md): seal bytes, the safety parameter image and its binding,
limits as a function of vehicle speed, set-point limiting, SLS, SLP and SDI, and contactor supervision. -/

namespace Sys2Proof.Machine

def Rod.modSf (ρ : Rod) (f : SafS → SafS) : Rod := { ρ with sf := f ρ.sf }

/-! ### Seal bytes -/

/-- The byte a rod holds of a live rod. -/
def Rod.sealOf (ρ : Rod) (r : RodId) : Option Byte :=
  if ρ.live r then (if r = ρ.me then ρ.sf.own else ρ.sf.bytes.get r.idx) else none

/-- The majority byte (R542). -/
def Rod.majority (ρ : Rod) : Option Byte :=
  match allRods.filterMap ρ.sealOf with
  | [a] => if ρ.liveRods.length = 1 then some a else none
  | [a, b] => if a = b then some a else none
  | [a, b, c] => if a = b ∨ a = c then some a else if b = c then some b else none
  | _ => none

/-- Every live rod's byte equals the majority byte (R544). -/
def Rod.sealsAgree (ρ : Rod) : Bool :=
  match ρ.majority with
  | none => false
  | some m => ρ.liveRods.all fun r => ρ.sealOf r == some m

/-- MAINT (R543). -/
def Rod.maint (ρ : Rod) : Bool :=
  if ρ.mode = SM.standby then (match ρ.majority with | some m => m.getLsbD 7 | none => false)
  else (ρ.g Fl.SF_SEAL_SEALED).testBit 7

/-- The comparison owed since the own byte changed, made once a byte of every live partner is held (R545): with the sealed byte from
ARMING to SAFE, with the majority byte in STANDBY and DORMANT. (DEDUCED, log entry 76) -/
def Rod.sealCompare (ρ : Rod) : Rod :=
  if ρ.sf.due && ρ.liveRods.all (fun r => r == ρ.me || (ρ.sf.bytes.get r.idx).isSome) then
    let ρ1 := ρ.modSf fun f => { f with due := false }
    let own := ρ.sf.own.getD 0#8
    if ρ.mode = SM.standby ∨ ρ.mode = SM.dormant then
      match ρ.majority with
      | none => ρ1.flt 0x0E01 sevWarn 0x0C0 [(0, 1, own.toNat), (1, 1, 0), (2, 1, 0)]
      | some m => if m = own then ρ1 else ρ1.flt 0x0E01 sevWarn 0x0C0 [(0, 1, own.toNat), (1, 1, m.toNat), (2, 1, 1)]
    else
      let sealed_ := ρ.g Fl.SF_SEAL_SEALED
      if sealed_ = own.toNat then ρ1
      else ρ1.flt 0x0E01 sevWarn 0x0C0 [(0, 1, own.toNat), (1, 1, sealed_), (2, 1, 1)]
  else ρ

/-- A read of the straps: accepted after three equal consecutive reads (R541). -/
def Rod.sealRead (ρ : Rod) (b : Byte) : Rod :=
  let n := if b = ρ.sf.strap ∧ 0 < ρ.sf.reads then satN 3 (ρ.sf.reads + 1) else 1
  let ρ1 := ρ.modSf fun f => { f with strap := b, reads := n }
  if n = 3 ∧ ρ1.sf.own ≠ some b then
    let ρ2 := (((ρ1.modSf fun f => { f with own := some b, due := true }).p Fl.SF_SEAL_OWN b.toNat).irq 0x0C0 2).send
      (.seal b)
    ρ2.sealCompare
  else ρ1

/-- The accepted byte is sent again (R542). -/
def Rod.sealResend (ρ : Rod) : Rod :=
  match ρ.sf.own with
  | none => ρ
  | some b => (ρ.send (.seal b)).sealCompare

/-- A partner's byte (R542). -/
def Rod.sealMessage (ρ : Rod) (src : RodId) (b : Byte) : Rod :=
  if src = ρ.me then ρ
  else
    let f := if linkNo ρ.me src = 0 then Fl.SF_SEAL_PART_1 else Fl.SF_SEAL_PART_2
    ((ρ.modSf fun g => { g with bytes := g.bytes.set src.idx (some b) }).p f b.toNat).sealCompare

/-! ### The profile record -/

/-- The safety parameter image in force. -/
def Rod.spImage (ρ : Rod) : List Byte := Sparse.get [] ρ.slots (6 + ρ.g Fl.IMG_SP_BANK)

/-- The number of bits of a mask below bit `i`. -/
def onesBelow (m : Nat) : Nat → Nat
  | 0 => 0
  | i + 1 => b2n (m.testBit i) + onesBelow m i

/-- The record of a profile index, where PROF_MASK has it: 296 bytes, in ascending index order from 0x40. -/
def Rod.profRecord (ρ : Rod) (i : Nat) : Option (List Byte) :=
  let img := ρ.spImage
  let mask := leAt img 0x10 2
  if mask.testBit i then some ((img.drop (0x40 + 296 * onesBelow mask i)).take 296) else none

/-- Fields of a record (Tables 16.2 and 16.3). -/
def profExpect (p : List Byte) : Nat := leAt p 0 1
def profFilt (p : List Byte) : Nat := leAt p 1 1
def profReduce (p : List Byte) : Nat := leAt p 2 1
def profVsTmo (p : List Byte) : Nat := leAt p 3 1
def profId (p : List Byte) : Nat := leAt p 4 4
def axisBlk (p : List Byte) (n : Axis) (off size : Nat) : Nat := leAt p (8 + 0x60 * n.val + off) size
def slsV (p : List Byte) (n : Axis) (j : Nat) : Nat := axisBlk p n (2 * j) 2
def slsLim (p : List Byte) (n : Axis) (j : Nat) : Nat := axisBlk p n (0x10 + 4 * j) 4
def slpCtr (p : List Byte) (n : Axis) : Int := sext 32 (axisBlk p n 0x30 4)
def slpHw (p : List Byte) (n : Axis) (j : Nat) : Nat := axisBlk p n (0x34 + 4 * j) 4
def sdiDir (p : List Byte) (n : Axis) : Nat := axisBlk p n 0x54 1
def sdiTol (p : List Byte) (n : Axis) : Nat := axisBlk p n 0x56 2
def react (p : List Byte) (n : Axis) (fn : Nat) : Nat := natBits (axisBlk p n 0x58 1) (2 * fn) 2
def slpMargin (p : List Byte) (n : Axis) : Nat := axisBlk p n 0x5A 2
def sfClamp (p : List Byte) (n : Axis) : Nat := axisBlk p n 0x5C 4

/-- Whether a record keeps Tables 16.2 and 16.3 (R547 cause 6), with the bits of EXPECT above [2:0] at 0. (DEDUCED, log entry 76) -/
def profOk (roles : Axis → Nat) (p : List Byte) : Bool :=
  decide (p.length = 296) && decide (profExpect p < 8) && decide (1 ≤ profFilt p ∧ profFilt p ≤ 8) &&
  decide (10 ≤ profReduce p ∧ profReduce p ≤ 100) && decide (1 ≤ profVsTmo p) &&
  allAxes.all fun n =>
    ((List.range 7).all fun j => decide (slsV p n j ≤ slsV p n (j + 1))) &&
    decide (sdiDir p n ≤ 2) && axisBlk p n 0x55 1 == 0 && axisBlk p n 0x59 1 == 0 &&
    decide (react p n 0 ≤ 1 ∧ react p n 1 ≤ 1 ∧ react p n 2 ≤ 1) && natBits (axisBlk p n 0x58 1) 6 2 == 0 &&
    ((List.range 8).all fun j => decide (slpMargin p n < slpHw p n j)) &&
    (roles n != roleSteer || sfClamp p n == 0)

/-- SF_CRC of the record a byte selects (R548). -/
def Rod.profCrc (ρ : Rod) (byte : Byte) : Option Word := (ρ.profRecord (byte.toNat % 16)).map crc32

/-- Binds the image to the sealed byte at step 1 of ARMING (R543, R547); `crcs` are the CRCs the other live rods bind.
Of several causes the first of the list is recorded. Answers whether the binding passed. (DEDUCED, log entry 76) -/
def Rod.bind (ρ : Rod) (crcs : List (Option Word)) : Rod × Bool :=
  let sealed_ := (ρ.majority.map (·.toNat)).getD 0
  let idx := sealed_ % 16
  let recd := ρ.profRecord idx
  let p := recd.getD []
  let crc := crc32 p
  let roles := fun n => ρ.role n
  let cause : Nat :=
    if ρ.majority.isNone then 1
    else if recd.isNone then 2
    else if profExpect p % 8 ≠ natBits sealed_ 4 3 then 3
    else if crcs.any (fun c => c != some crc) then 4
    else if 1980000 < (profFilt p + 1) * ρ.tick2 then 5
    else if !profOk roles p then 6 else 0
  let ρ1 := (ρ.p Fl.SF_SEAL_SEALED sealed_).p Fl.SF_PROF_INDEX idx
  if cause = 0 then
    let ρ2 := ((((ρ1.p Fl.SF_PROF_BOUND 1).p Fl.SF_PROF_VERSION (leAt ρ.spImage 8 2)).p Fl.SF_ID_ID (profId p)).p
      Fl.SF_CRC_CRC crc.toNat).modSf fun f =>
        { f with prof := p, viol := Tri.rep (Tri.rep 0), absent := Tri.rep (Tri.rep 0)
                 rep := Tri.rep (Tri.rep (Tri.rep none)), dec := Tri.rep (Tri.rep false) }
    (ρ2.each allAxes fun n q => q.p (Fl.SF_STAT_EN n.val) (if q.axisArmed n then natBits sealed_ 4 3 else 0), true)
  else
    ((ρ1.p Fl.SF_PROF_BOUND 0).flt 0x0E10 sevDegrade 0x0C0
      [(0, 1, cause), (1, 1, idx), (4, 4, if recd.isNone then 0 else crc.toNat)], false)

/-! ### Limits -/

/-- v in units of 10 mm/s, rounded toward 0 (R549); `none` while the vehicle speed is stale. -/
def Rod.vehSpeed (ρ : Rod) : Option Nat :=
  if ρ.b Fl.SF_PROF_VS_STALE then none else some ((ρ.sg (inputW 0 8)).toInt.natAbs / 10)

/-- The last breakpoint `j ≤ k` with V_j ≤ v. -/
def lastBp (vj : Nat → Nat) (v : Nat) : Nat → Nat
  | 0 => 0
  | k + 1 => if vj (k + 1) ≤ v then k + 1 else lastBp vj v k

/-- F(v) of R550, rounded toward 0. -/
def limitAt (vj fj : Nat → Nat) (v : Option Nat) : Nat :=
  match v with
  | none => fj 7
  | some v =>
    if v ≤ vj 0 then fj 0
    else if vj 7 ≤ v then fj 7
    else
      let j := lastBp vj v 6
      let a : Int := fj j
      let b : Int := fj (j + 1)
      (divTrunc (a * ((vj (j + 1) : Int) - vj j) + (b - a) * ((v : Int) - vj j)) ((vj (j + 1) : Int) - vj j)).toNat

/-- The SLS limit in force (R550). -/
def Rod.slsLimit (ρ : Rod) (n : Axis) : Nat :=
  let f := limitAt (slsV ρ.sf.prof n) (slsLim ρ.sf.prof n) ρ.vehSpeed
  if ρ.mode = SM.limp then f * profReduce ρ.sf.prof / 100 else f

/-- The SLP half-width in force. -/
def Rod.slpLimit (ρ : Rod) (n : Axis) : Nat := limitAt (slsV ρ.sf.prof n) (slpHw ρ.sf.prof n) ρ.vehSpeed

/-- A value of a launch as the safety monitor limits it (R551). -/
def Rod.limitInput (ρ : Rod) (n : Axis) (i : Nat) (v : Word) : Word :=
  if ρ.sf.prof.isEmpty then v
  else if i = 0 ∧ ρ.steerBrake n = true ∧ (ρ.g Fl.SF_SEAL_SEALED).testBit 5 = true then
    let c := slpCtr ρ.sf.prof n
    let w : Int := (ρ.slpLimit n : Int) - slpMargin ρ.sf.prof n
    wOfInt (clampI (c - w) (c + w) v.toInt)
  else if i = 3 ∧ ρ.role n = roleBrake then wOfInt (min v.toInt (sext 32 (sfClamp ρ.sf.prof n)))
  else if i = 4 ∧ ρ.role n = roleFeel then
    wOfInt (clampI (-(sfClamp ρ.sf.prof n : Int)) (sfClamp ρ.sf.prof n) v.toInt)
  else if i = 5 ∧ ρ.role n = rolePump then BitVec.ofNat 32 (min v.toNat (sfClamp ρ.sf.prof n))
  else v

/-- A launch with a limited value (R551): counted, with a record in every 64 limited launches. (DEDUCED, log entry 63) -/
def Rod.clampNote (ρ : Rod) (n : Axis) (i : Nat) (v : Word) : Rod :=
  let k := ρ.sf.clamps.get n
  let ρ1 := ((ρ.inc (Fl.SF_STAT_CLAMPS n.val)).irq 0x0C0 3).modSf fun f => { f with clamps := f.clamps.set n ((k + 1) % 64) }
  ρ1.when (k == 0) (·.fltA 0x0E20 sevInfo 0x0C0 n [(0, 1, n.val), (1, 1, i), (4, 4, v.toNat)])

/-- The vehicle speed has gone stale (R549). -/
def Rod.vsStale (ρ : Rod) : Rod :=
  if ρ.sf.prof.isEmpty ∨ ρ.b Fl.SF_PROF_VS_STALE = true ∨ ρ.passed ρ.sf.vsFt (profVsTmo ρ.sf.prof * 10000000) = false then ρ
  else ((ρ.p Fl.SF_PROF_VS_STALE 1).irq 0x0C0 4).flt 0x0E33 sevWarn 0x0C0 [(4, 4, (ρ.ft - ρ.sf.vsFt) / 1000000)]

/-! ### Monitoring -/

/-- The violation fields of SF_STAT_n: 1 SLS, 2 SLP, 3 SDI. -/
def sfBit (n : Axis) (fn : Nat) : Fld :=
  if fn = 1 then Fl.SF_STAT_SLS_V n.val else if fn = 2 then Fl.SF_STAT_SLP_V n.val else Fl.SF_STAT_SDI_V n.val

/-- The index of a function in the three-fold tables. -/
def sfIdx (fn : Nat) : Fin 3 := axisOf (fn - 1)

/-- Whether the rod evaluates an axis (R552): armed, from ARMING to SAFE. (DEDUCED, log entry 76) -/
def Rod.evaluates (ρ : Rod) (n : Axis) : Bool :=
  decide (SM.arming ≤ ρ.mode) && ρ.axisArmed n && !ρ.sf.prof.isEmpty && ρ.b Fl.SF_PROF_BOUND &&
  !(ρ.g (Fl.FB_STAT_SOURCE n.val) == 2 && (ρ.b (Fl.QD_CFG_QEN n.val) || ρ.b (Fl.SER_CFG_EN n.val)))

/-- The measured quantity and the limit of a function, and whether its condition holds (Table 16.4). -/
def Rod.sfCond (ρ : Rod) (n : Axis) (fn : Nat) : Bool × Int × Int :=
  let p := ρ.sf.prof
  let cnt := (ρ.sg (0x0018 + n.val)).toInt
  if fn = 1 then
    let lim := ρ.slsLimit n
    if ρ.isPump n then (decide (lim < (ρ.ospd n).natAbs), ρ.ospd n, lim)
    else
      (decide ((lim : Int) * 2 ^ 31 < ((ρ.sg (0x001C + n.val)).toInt.natAbs : Int) * ρ.spdFs n), ρ.speedMrad n, lim)
  else if fn = 2 then
    (ρ.steerBrake n && decide (ρ.slpLimit n < (cnt - slpCtr p n).natAbs), cnt, ρ.slpLimit n)
  else
    let ref := sext 32 (ρ.g (Fl.SF_SDI_REF n.val))
    let on := !ρ.isPump n || ρ.pumpPhase n == PP.run
    (on && ((sdiDir p n == 1 && decide (cnt < ref - sdiTol p n)) || (sdiDir p n == 2 && decide (ref + sdiTol p n < cnt))),
      cnt, ref)

/-- Whether a function is monitored (Table 16.1). -/
def Rod.sfOn (ρ : Rod) (n : Axis) (fn : Nat) : Bool := ρ.evaluates n && (ρ.g (Fl.SF_STAT_EN n.val)).testBit (fn - 1)

/-- The ratchet reference is set to the count (R553). -/
def Rod.ratchet (ρ : Rod) (n : Axis) : Rod := ρ.p (Fl.SF_SDI_REF n.val) (ρ.sg (0x0018 + n.val)).toNat

/-- The ratchet reference follows the count in the permitted direction (R553). -/
def Rod.ratchetMove (ρ : Rod) (n : Axis) : Rod :=
  let cnt := (ρ.sg (0x0018 + n.val)).toInt
  let ref := sext 32 (ρ.g (Fl.SF_SDI_REF n.val))
  let d := sdiDir ρ.sf.prof n
  if (d = 1 ∧ ref < cnt) ∨ (d = 2 ∧ cnt < ref) then ρ.ratchet n else ρ

/-- The condition of one function of one axis at cycle 0 of a tick, counted (R552); an own report ends once it has been absent for
FILT ticks. -/
def Rod.sfCount (ρ : Rod) (n : Axis) (fn : Nat) : Rod :=
  let i := sfIdx fn
  let on := ρ.sfOn n fn
  let c := on && (ρ.sfCond n fn).1
  let v := if c then (ρ.sf.viol.get n).get i + 1 else 0
  let a := if c then 0 else if on then (ρ.sf.absent.get n).get i + 1 else (ρ.sf.absent.get n).get i
  let ρ1 := ρ.modSf fun f => { f with viol := f.viol.set n ((f.viol.get n).set i v)
                                      absent := f.absent.set n ((f.absent.get n).set i a) }
  ρ1.when (decide (profFilt ρ.sf.prof ≤ a) && ρ.bitOf (Fl.SF_STAT_OWN n.val) (fn - 1)) (·.clrBit (Fl.SF_STAT_OWN n.val) (fn - 1))

/-- A decision is over, and another can follow, once the condition has been absent for FILT ticks in every rod that has reported it
(R556). (DEDUCED, log entry 61) -/
def Rod.sfOver (ρ : Rod) (ps : RodId → Rod) (n : Axis) (fn : Nat) : Rod :=
  let i := sfIdx fn
  let gone (r : RodId) : Bool :=
    (((ρ.sf.rep.get n).get i).get r.idx).isNone ||
      decide (profFilt ρ.sf.prof ≤ ((if r = ρ.me then ρ else ps r).sf.absent.get n).get i)
  if (ρ.sf.dec.get n).get i && allRods.all gone then
    ρ.modSf fun f =>
      { f with rep := f.rep.set n ((f.rep.get n).set i (Tri.rep none)), dec := f.dec.set n ((f.dec.get n).set i false) }
  else ρ

/-- One function of one axis at cycle 0 of a tick (R552, R556). -/
def Rod.sfTick1 (ρ : Rod) (ps : RodId → Rod) (n : Axis) (fn : Nat) : Rod := (ρ.sfCount n fn).sfOver ps n fn

/-- The monitor at cycle 0 of a tick: limits shown, functions evaluated, the ratchet moved (R549 to R553). -/
def Rod.sfTick (ρ : Rod) (ps : RodId → Rod) : Rod :=
  if ρ.sf.prof.isEmpty then ρ
  else
    (ρ.p Fl.SF_PROF_REDUCED (b2n (decide (ρ.mode = SM.limp)))).each allAxes fun n q =>
      let q1 := (q.p (Fl.SF_SLS_LIM n.val) (q.slsLimit n)).p (Fl.SF_SLP_HW n.val) (q.slpLimit n)
      (((q1.sfTick1 ps n 1).sfTick1 ps n 2).sfTick1 ps n 3).ratchetMove n

/-- The role safe state of an axis, applied by the safety monitor (R104, R105). -/
def Rod.applySafe (ρ : Rod) (n : Axis) : Rod :=
  let ρ1 := { ρ with md := { ρ.md with safeAx := ρ.md.safeAx.set n true } }
  if ρ.role n = roleSteer then
    (if ρ.state = RS.fenced then ρ1 else { ρ1 with md := { ρ1.md with asc := ρ1.md.asc.set n true } })
  else if ρ.role n = roleBrake then { ρ1 with md := { ρ1.md with park := false } }
  else if ρ.role n = rolePump then ρ1.decidePump n PP.off 0
  else ρ1

/-- The rods whose report of a function counts toward a decision at a tick: live rods, reports that differ by one tick or
less from it (R554). -/
def Rod.reporters (ρ : Rod) (n : Axis) (fn t : Nat) : List RodId :=
  ρ.liveRods.filter fun r =>
    match ((ρ.sf.rep.get n).get (sfIdx fn)).get r.idx with
    | none => false
    | some u => decide (u ≤ t + 1) && decide (t ≤ u + 1)

/-- A violation is decided (R554 to R556): two live rods report it, or the only live rod that evaluates the axis does.
(DEDUCED, log entry 61) -/
def Rod.sfDecide (ρ : Rod) (ps : RodId → Rod) (n : Axis) (fn t : Nat) : Rod :=
  let who := ρ.reporters n fn t
  let i := sfIdx fn
  let done := (ρ.sf.dec.get n).get i
  let single := who.length == 1 && who == ρ.liveRods.filter fun r => (if r = ρ.me then ρ else ps r).evaluates n
  if !done && (decide (2 ≤ who.length) || single) then
    let r := react ρ.sf.prof n (fn - 1)
    let sev := if ρ.steerBrake n then sevSafe else sevDegrade
    let ρ1 := (((ρ.modSf fun f => { f with dec := f.dec.set n ((f.dec.get n).set i true) }).p (sfBit n fn) 1).irq 0x0C0 0)
    let ρ2 := ρ1.fltA 0x0E32 sev 0x0C0 n [(0, 1, n.val), (1, 1, fn), (2, 1, r), (3, 1, rodMask who)]
    if r = 1 then ρ2.applySafe n else ρ2
  else ρ

/-- A function is violated in the rod (R552). -/
def Rod.sfReport (ρ : Rod) (ps : RodId → Rod) (n : Axis) (fn : Nat) : Rod :=
  let i := sfIdx fn
  if 1 ≤ fn ∧ fn ≤ 3 ∧ ρ.sfOn n fn = true ∧ profFilt ρ.sf.prof ≤ (ρ.sf.viol.get n).get i ∧
      ρ.bitOf (Fl.SF_STAT_OWN n.val) (fn - 1) = false then
    let (_, m, l) := ρ.sfCond n fn
    let ρ1 := (ρ.setBit (Fl.SF_STAT_OWN n.val) (fn - 1)).fltA 0x0E30 sevWarn 0x0C0 n
      [(0, 1, n.val), (1, 1, fn), (4, 4, natOfInt 32 m), (8, 4, natOfInt 32 l)]
    let ρ2 := (ρ1.modSf fun f =>
      { f with rep := f.rep.set n ((f.rep.get n).set i (((f.rep.get n).get i).set ρ.me.idx (some ρ.tick))) }).send
      (.sfReport ⟨n, fn, BitVec.ofNat 32 ρ.tick⟩)
    ρ2.sfDecide ps n fn ρ.tick
  else ρ

/-- A partner's report (R554). -/
def Rod.sfMessage (ρ : Rod) (ps : RodId → Rod) (src : RodId) (m : SfMsg) : Rod :=
  if src = ρ.me ∨ m.fn = 0 ∨ 3 < m.fn then ρ
  else
    let i := sfIdx m.fn
    (ρ.modSf fun f =>
      { f with rep := f.rep.set m.axis ((f.rep.get m.axis).set i (((f.rep.get m.axis).get i).set src.idx (some m.tick.toNat))) }).sfDecide ps
      m.axis m.fn m.tick.toNat

/-- A report that no second report confirms within 2 ticks (R554). -/
def Rod.sfUnconfirmed (ρ : Rod) (n : Axis) (fn : Nat) (who : RodId) : Rod :=
  let i := sfIdx fn
  let late := match ((ρ.sf.rep.get n).get i).get who.idx with
    | some u => decide (2 ≤ (ρ.tick + 2 ^ 32 - u) % 2 ^ 32)
    | none => false
  if 1 ≤ fn ∧ fn ≤ 3 ∧ late = true ∧ (ρ.sf.dec.get n).get i = false then
    ((ρ.modSf fun f => { f with rep := f.rep.set n ((f.rep.get n).set i (((f.rep.get n).get i).set who.idx none)) }).irq
      0x0C0 1).fltA 0x0E31 sevWarn 0x0C0 n [(0, 1, n.val), (1, 1, fn), (2, 1, who.code)]
  else ρ

/-- Entry to STANDBY: reactions are released, with the ratchet set anew (R553, R555). -/
def Rod.sfStandby (ρ : Rod) : Rod :=
  ({ ρ with md := { ρ.md with safeAx := Tri.rep false, asc := Tri.rep false } }).each allAxes fun n q => q.ratchet n

/-! ### Contactor -/

/-- X_KHS commands the coil on or off (R429, R558, R559). -/
def Rod.coil (ρ : Rod) (on : Bool) : Rod :=
  if ρ.md.khs = on then ρ
  else
    let ρ1 := (ρ.p Fl.K_STAT_COIL (b2n on)).modSf fun f =>
      { f with watch := false, offFt := if on then none else some ρ.ft }
    { ρ1 with md := { ρ1.md with khs := on, khsFt := if on then ρ1.ft else ρ1.md.khsFt } }

/-- The auxiliary contact changes (R558, R559, R564). -/
def Rod.auxChange (ρ : Rod) (closed : Bool) : Rod :=
  if ρ.b Fl.K_STAT_AUX = closed then ρ
  else
    let ρ1 := ((ρ.p Fl.K_STAT_AUX (b2n closed)).p Fl.FENCE_STAT_KAUX (b2n closed)).irq 0x0C1 3
    if closed then (if ρ1.md.khs then ρ1.modSf fun f => { f with watch := true } else ρ1)
    else if ρ1.md.khs && !ρ1.die.fence then ρ1
    else
      let ρ2 := ρ1.p Fl.K_STAT_WELDED 0
      match ρ2.sf.offFt with
      | none => ρ2
      | some t =>
        let ρ3 := (ρ2.p Fl.K_OPEN_T_T (satN 0xFFFF ((ρ2.ft - t) / 100000))).modSf fun f => { f with offFt := none }
        if ρ2.ft ≤ t + ρ2.g Fl.K_CFG_KOPEN_TMO * 1000000 then
          ((ρ3.inc Fl.K_CNT_OPENINGS).p Fl.K_CNT_HOURS 0).p Fl.K_STAT_TEST_DUE 0
        else ρ3

/-- The closed contact reads open for DEBOUNCE with the coil on (R558). -/
def Rod.contactorOpen (ρ : Rod) : Rod :=
  if ρ.md.khs && !ρ.die.fence && ρ.sf.watch && !ρ.b Fl.K_STAT_AUX && !ρ.b Fl.K_STAT_STUCK_OPEN then
    let ρ1 := ((ρ.p Fl.K_STAT_STUCK_OPEN 1).irq 0x0C1 0).flt 0x0E40 sevDegrade 0x0C1 [(0, 2, (ρ.sg 0x0012).toNat)]
    ρ1.each allAxes fun n q => q.setSetOn n false
  else ρ

/-- The contact still reads closed after KOPEN_TMO (R559). (DEDUCED, log entry 35) -/
def Rod.contactorWelded (ρ : Rod) (ms : Nat) : Rod :=
  if (!ρ.md.khs || ρ.die.fence) && ρ.b Fl.K_STAT_AUX && !ρ.b Fl.K_STAT_WELDED && decide (ρ.g Fl.K_CFG_KOPEN_TMO ≤ ms) then
    ((ρ.p Fl.K_STAT_WELDED 1).irq 0x0C1 1).flt 0x0E41 sevDegrade 0x0C1 [(4, 4, ms)]
  else ρ

/-- HOURS reaches KTEST_H (R560). -/
def Rod.contactorTestDue (ρ : Rod) : Rod :=
  if ρ.g Fl.K_CFG_KTEST_H ≤ ρ.g Fl.K_CNT_HOURS ∧ ρ.b Fl.K_STAT_TEST_DUE = false then
    ((ρ.p Fl.K_STAT_TEST_DUE 1).irq 0x0C1 2).flt 0x0E43 sevWarn 0x0C1 [(0, 2, ρ.g Fl.K_CNT_HOURS)]
  else ρ

/-! ### The commands -/

/-- SF_REPORT (R552). -/
def execSfReport (r : RodId) (axis : Axis) (fn : Nat) (s : State) : Host.Outcome State Fault Refusal :=
  onRod s r fun ρ => ρ.sfReport s.rod axis fn

/-- SF_REPORT_MESSAGE (R554). -/
def execSfReportMessage (r src : RodId) (msg : SfMsg) (s : State) : Host.Outcome State Fault Refusal :=
  onRod s r fun ρ => ρ.sfMessage s.rod src msg

/-- SF_UNCONFIRMED (R554). -/
def execSfUnconfirmed (r : RodId) (axis : Axis) (fn : Nat) (reporter : RodId) (s : State) :
    Host.Outcome State Fault Refusal :=
  onRod s r fun ρ => ρ.sfUnconfirmed axis fn reporter

/-- VEH_SPEED_STALE (R549). -/
def execVehSpeedStale (r : RodId) (s : State) : Host.Outcome State Fault Refusal := onRod s r fun ρ => ρ.vsStale

/-- SEAL_READ (R541). -/
def execSealRead (r : RodId) (straps : Byte) (s : State) : Host.Outcome State Fault Refusal :=
  onRod s r fun ρ => ρ.sealRead straps

/-- SEAL_RESEND (R542). -/
def execSealResend (r : RodId) (s : State) : Host.Outcome State Fault Refusal := onRod s r fun ρ => ρ.sealResend

/-- SEAL_MESSAGE (R542). -/
def execSealMessage (r src : RodId) (byte : Byte) (s : State) : Host.Outcome State Fault Refusal :=
  onRod s r fun ρ => ρ.sealMessage src byte

/-- CONTACTOR_OPEN (R558). -/
def execContactorOpen (r : RodId) (s : State) : Host.Outcome State Fault Refusal := onRod s r fun ρ => ρ.contactorOpen

/-- CONTACTOR_TEST_DUE (R560). -/
def execContactorTestDue (r : RodId) (s : State) : Host.Outcome State Fault Refusal :=
  onRod s r fun ρ => ρ.contactorTestDue

end Sys2Proof.Machine
end

