-- ==== Sys2Proof/Machine/Queues.lean ====
section
/-! DEFINITION. Queue pairs (spec/06_host_port.md): posting of completions, ranked resources, and what a disabled queue
leaves. The commands themselves are in HostPort. -/

namespace Sys2Proof.Machine

def qpPage (q : Nat) : Nat := 0x010 + q

def Rod.qp (ρ : Rod) (q : Nat) : Qp := Sparse.get Qp.init ρ.hp.qs q

def Rod.putQp (ρ : Rod) (q : Nat) (k : Qp) : Rod :=
  { ρ with hp := { ρ.hp with qs := Sparse.set Qp.init ρ.hp.qs q k } }

/-- EN in force (QP_CTRL). -/
def Rod.qpOn (ρ : Rod) (q : Nat) : Bool := decide (q < 16) && ρ.b (Fl.QP_CTRL_EN q)

/-- An address of two registers. -/
def Rod.addr64 (ρ : Rod) (lo hi : Fld) : Nat := ρ.g lo + 2 ^ 32 * ρ.g hi

/-! ### Host memory -/

/-- Writes to host memory in pieces of at most 256 bytes, or the programmed payload size where that is less, that cross no 4 KiB
boundary (R186, R210). -/
def Rod.hostWr : Nat → Rod → Nat → List Byte → Rod
  | 0, ρ, _, _ => ρ
  | k + 1, ρ, a, bs =>
    if bs.isEmpty then ρ
    else
      let n := min ρ.maxPayload (4096 - a % 4096)
      Rod.hostWr k (ρ.send (.hostWrite a (bs.take n))) (a + n) (bs.drop n)

/-- Writes to host memory. -/
def Rod.toHost (ρ : Rod) (a : Nat) (bs : List Byte) : Rod := Rod.hostWr (bs.length + 1) ρ a bs

/-! ### Completions -/

/-- Free entries of a completion ring, one being kept open as in R192. -/
def Rod.cqFree (ρ : Rod) (q : Nat) : Nat :=
  let n := max 1 (ρ.g (Fl.QP_SIZE_CQ_LEN q))
  (ρ.g (Fl.CQ_HEAD_HEAD q) + 2 * n - 1 - ρ.g (Fl.CQ_TAIL_TAIL q)) % n

/-- Writes one completion entry and advances CQ_TAIL (R197, R200, Table 6.4). -/
def Rod.postRaw (ρ : Rod) (q : Nat) (c : Cpl) : Rod :=
  let k := ρ.qp q
  let n := max 1 (ρ.g (Fl.QP_SIZE_CQ_LEN q))
  let tail := ρ.g (Fl.CQ_TAIL_TAIL q)
  let a := ρ.addr64 (Fl.CQ_BASE_LO_ADDR q) (Fl.CQ_BASE_HI_ADDR q) + 16 * tail
  let bytes := leBytes 2 c.cid ++ leBytes 2 (ρ.g (Fl.SQ_HEAD_HEAD q)) ++
    leBytes 4 (c.status % 256 + 256 * (c.kind % 16) + 2 ^ 31 * b2n k.phase) ++ leBytes 8 c.result
  let ρ1 := (ρ.toHost a bytes).p (Fl.CQ_TAIL_TAIL q) ((tail + 1) % n)
  let ρ2 := if tail + 1 = n then ρ1.putQp q { k with phase := !k.phase } else ρ1
  ρ2.when (c.irq || c.kind != 0) (·.irq (qpPage q) 0)

/-- The rod that a descriptor names (Table 6.3). -/
def Rod.target (ρ : Rod) (d : Desc) : RodId := if d.rod = 3#2 then ρ.me else RodId.ofCode d.rod.toNat

/-- Posts the completion of a command, which waits while it would use one of the last 16 entries (R202). -/
def Rod.postCmd (ρ : Rod) (q : Nat) (c : Cpl) : Rod :=
  if ρ.qpOn q then
    let k := ρ.qp q
    if k.held.isEmpty ∧ 16 < ρ.cqFree q then ρ.postRaw q c else ρ.putQp q { k with held := k.held ++ [c] }
  else ρ

/-- Posts a completion of KIND 1 to 3, dropped where the ring is full (R203). -/
def Rod.postEvt (ρ : Rod) (q kind handle result : Nat) : Rod :=
  if ρ.qpOn q then
    if 0 < ρ.cqFree q then ρ.postRaw q ⟨handle, 0, kind, result, true⟩
    else
      ((ρ.p (Fl.QP_STAT_CQ_OVF q) 1).irq (qpPage q) 1).flt 0x0512 sevWarn (qpPage q) [(0, 1, q), (1, 1, kind), (2, 2, handle)]
  else ρ

/-- A waiting completion is written once room is available (R202). -/
def Rod.postHeld (ρ : Rod) (q : Nat) : Rod :=
  let k := ρ.qp q
  match k.held with
  | [] => ρ
  | c :: t => if ρ.qpOn q = true ∧ 16 < ρ.cqFree q then (ρ.putQp q { k with held := t }).postRaw q c else ρ

/-! ### Ranked resources -/

/-- The holder field of a rank, 1 to 4 (RES_HOLD). -/
def rankF (rank : Nat) : Fld := ⟨0x021, 0x44, 8 * (rank - 1), 8⟩

/-- The holder of a rank; 0xFF for none. -/
def Rod.holder (ρ : Rod) (rank : Nat) : Nat := ρ.g (rankF rank)

/-- The ranks of a mask in ascending order. -/
def ranksOf (m : Nat) : List Nat := [1, 2, 3, 4].filter fun r => m.testBit (r - 1)

/-- The ranks a holder has, as a mask. -/
def Rod.held (ρ : Rod) (h : Nat) : Nat :=
  (([1, 2, 3, 4].filter fun r => ρ.holder r == h).map fun r => 2 ^ (r - 1)).sum

/-- Takes a free rank. -/
def Rod.takeRank (ρ : Rod) (rank h : Nat) : Rod :=
  { ρ with hp := { ρ.hp with since := Sparse.put ρ.hp.since rank ρ.ft } }.p (rankF rank) h

/-- Releases the ranks of a mask that a holder has. -/
def Rod.dropRanks (ρ : Rod) (h m : Nat) : Rod :=
  ρ.each (ranksOf m) fun r q => if q.holder r = h then q.p (rankF r) 0xFF else q

/-- The highest rank of a mask, 0 for none. -/
def topRank (m : Nat) : Nat := (ranksOf m).foldl max 0

/-! ### Commands -/

/-- The command of a CID in a queue. -/
def Rod.cmd (ρ : Rod) (q cid : Nat) : Option Cmd := (ρ.qp q).cmds.find? fun c => c.desc.cid.toNat == cid

/-- Changes the first command of a CID. -/
def modFirst (cid : Nat) (f : Cmd → Cmd) : List Cmd → List Cmd
  | [] => []
  | c :: t => if c.desc.cid.toNat = cid then f c :: t else c :: modFirst cid f t

/-- Removes the first command of a CID. -/
def dropFirst (cid : Nat) : List Cmd → List Cmd
  | [] => []
  | c :: t => if c.desc.cid.toNat = cid then t else c :: dropFirst cid t

def Rod.modCmd (ρ : Rod) (q cid : Nat) (f : Cmd → Cmd) : Rod :=
  ρ.putQp q { ρ.qp q with cmds := modFirst cid f (ρ.qp q).cmds }

/-- DMA_STAT_n follows the command that its channel serves (R209). -/
def Rod.syncChan (ρ : Rod) (ch : Nat) : Rod :=
  match (Sparse.get [] ρ.hp.chans ch).head? with
  | none => ((ρ.p (Fl.DMA_STAT_BUSY ch) 0).p (Fl.DMA_STAT_QP ch) 0).p (Fl.DMA_STAT_CID ch) 0
  | some (q, cid) => ((ρ.p (Fl.DMA_STAT_BUSY ch) 1).p (Fl.DMA_STAT_QP ch) q).p (Fl.DMA_STAT_CID ch) cid

/-- A command joins a channel, or leaves every channel. -/
def Rod.joinChan (ρ : Rod) (ch q cid : Nat) : Rod :=
  ({ ρ with hp := { ρ.hp with chans := Sparse.put ρ.hp.chans ch (Sparse.get [] ρ.hp.chans ch ++ [(q, cid)]) } }).syncChan ch

def Rod.leaveChans (ρ : Rod) (f : Nat × Nat → Bool) : Rod :=
  let keep := (ρ.hp.chans.map fun e => (e.1, e.2.filter fun c => !f c)).filter fun e => !e.2.isEmpty
  ({ ρ with hp := { ρ.hp with chans := keep } }).each [0, 1, 2, 3] fun ch r => r.syncChan ch

/-- Completes a command of a queue (R198, R208, R222): its record, its ranks, its channel and its completion. -/
def Rod.finish (ρ : Rod) (q cid status result : Nat) : Rod :=
  match ρ.cmd q cid with
  | none => ρ
  | some c =>
    let ρ1 := (ρ.putQp q { ρ.qp q with cmds := dropFirst cid (ρ.qp q).cmds }).dropRanks q c.ranks
    let ρ2 := ({ ρ1 with hp := { ρ1.hp with ranks := ρ1.hp.ranks.filter fun e => !(e.2 == q && c.need.testBit (e.1 - 1)) } }).leaveChans
      fun e => e == (q, cid)
    let ρ3 := ρ2.when (decide (1 ≤ status ∧ status ≤ 5) && status != 4)
      (·.flt 0x0511 sevInfo (qpPage q) [(0, 1, q), (1, 1, status), (2, 2, cid), (4, 1, c.desc.opc.toNat)])
    ρ3.postCmd q ⟨cid, status, 0, result, c.desc.irq⟩

/-- The completions that still wait when a queue ends are posted as far as the ring has entries, the last 16 included: no
completion of KIND 1 to 3 can follow (R195, R198). (DESIGN CHOICE, log entry 80) -/
def Rod.postRest (ρ : Rod) (q : Nat) : Rod :=
  (ρ.putQp q { ρ.qp q with held := [] }).each (ρ.qp q).held fun c r => if 0 < r.cqFree q then r.postRaw q c else r

/-- Nothing answers a command of a disabled queue any more: its set-points go on without it, and an admission in progress is dead,
to be cancelled once its partners have answered (R188). -/
def Rod.orphan (ρ : Rod) (q : Nat) : Rod :=
  let mine (c : Option (Nat × Nat × Bool)) : Option (Nat × Nat × Bool) := c.filter fun e => e.1 != q
  { ρ with ct := { ρ.ct with
      admits := ρ.ct.admits.map fun m => if m.queue = q then { m with dead := true } else m
      wait := ρ.ct.wait.map fun l => { l with cmd := mine l.cmd }
      later := ρ.ct.later.map fun d => { d with cmd := mine d.cmd } } }

/-- A queue is disabled (R188, R195): its commands end, its ranks and channels are released. With `answer`, each command
completes ABORTED. -/
def Rod.stopQp (ρ : Rod) (q : Nat) (answer : Bool) : Rod :=
  let ρ1 := if answer then (ρ.each (ρ.qp q).cmds fun c r => r.finish q c.desc.cid.toNat 0x0A 0).postRest q else ρ
  let ρ2 := (ρ1.dropRanks q 15).leaveChans fun e => e.1 == q
  (({ ρ2 with hp := { ρ2.hp with qs := Sparse.del ρ2.hp.qs q, ranks := ρ2.hp.ranks.filter fun e => e.2 != q } }).p
    (Fl.QP_LOCKS_HELD q) 0).orphan q

/-- EN comes into force as 1 (R195). -/
def Rod.startQp (ρ : Rod) (q : Nat) : Rod :=
  ((((ρ.putQp q Qp.init).p (Fl.SQ_HEAD_HEAD q) 0).p (Fl.SQ_TAIL_TAIL q) 0).p (Fl.CQ_HEAD_HEAD q) 0).p (Fl.CQ_TAIL_TAIL q) 0

/-- QP_STAT as read: RUN, CQ_WAIT and INFLIGHT show the queue as it is (Table 6.10). (DEDUCED, log entry 44) -/
def Rod.qpStat (ρ : Rod) (q : Nat) : Word :=
  let k := ρ.qp q
  (ρ.gw (Rg.QP_STAT q) &&& 0x60000000#32) ||| BitVec.ofNat 32 (b2n (ρ.qpOn q && !ρ.hp.d3) * 2 ^ 31 +
    b2n (!k.held.isEmpty) * 2 ^ 28 + min 8 (k.cmds.filter (·.run)).length)

end Sys2Proof.Machine
end

