-- ==== Sys2Proof/Machine/Ledger.lean ====
section
/-! DEFINITION. Timing contracts (spec/07_timing_contracts.md): the ledger, admission checks, bounds and load, revocation,
broken contracts and the delivery of instances. `ps` gives the rods of the module as they are: what a rod hears of its
partners' elements over the carry links. -/

namespace Sys2Proof.Machine

/-! ### Schedule figures -/

/-- The configured macrotick and communication cycle in ns (R112). -/
def Rod.macroNs (ρ : Rod) : Nat := ρ.g Fl.FR_TIMING_MT * 1000
def Rod.cycleNs (ρ : Rod) : Nat := ρ.macroNs * ρ.g Fl.FR_TIMING_MACRO_PER_CYCLE

/-- The end of a slot within the cycle in ns; a dynamic slot ends with the dynamic segment at the latest. -/
def Rod.slotEndNs (ρ : Rod) (slot : Nat) : Nat :=
  let stat := ρ.g Fl.FR_STATIC_N_STATIC
  let len := ρ.g Fl.FR_STATIC_SLOT_LEN
  if slot ≤ stat then slot * len * ρ.macroNs
  else (stat * len + ρ.g Fl.FR_DYN_N_MINI * ρ.g Fl.FR_DYN_MINI_LEN) * ρ.macroNs

/-- The repetition period of a message buffer in ns. -/
def Rod.bufPeriod (ρ : Rod) (b : Nat) : Nat := ρ.cycleNs * 2 ^ ρ.g (Fl.MB_CFG_REP b)

/-! ### Endpoints -/

/-- Types of Table 7.2. -/
def epType (e : BitVec 16) : Nat := e.toNat / 4096
def epBuf (e : BitVec 16) : Nat := e.toNat % 128
def epQueue (e : BitVec 16) : Nat := e.toNat % 16
def epAxis (e : BitVec 16) : Nat := e.toNat / 256 % 4
def epFirst (e : BitVec 16) : Nat := e.toNat % 64

/-- Whether the unnamed bits of an endpoint are 0. -/
def epClean (e : BitVec 16) : Bool :=
  match epType e with
  | 0 => e.toNat == 0
  | 1 => decide (e.toNat % 4096 < 128)
  | 2 => decide (e.toNat % 4096 < 16)
  | 3 => decide (e.toNat / 1024 % 4 = 0) && decide (e.toNat / 64 % 4 = 0) && decide (epAxis e < 3)
  | 4 => decide (e.toNat / 1024 % 4 = 0) && decide (e.toNat / 64 % 4 = 0) && decide (epAxis e < 3)
  | 15 => decide (e.toNat % 4096 = 0)
  | _ => false

/-- Kinds of Table 7.1. -/
def kSetpoint : Nat := 0
def kReport : Nat := 1
def kTrace : Nat := 2
def kMirror : Nat := 3

/-- Whether a kind takes its values from sources that carry set-points. -/
def isStream (k : Nat) : Bool := k == kSetpoint || k == kMirror

/-- The own buffer or queue of a source or destination is as Table 7.3 asks (R232). -/
def Rod.srcReady (ρ : Rod) (e : BitVec 16) : Bool :=
  match epType e with
  | 0 => true
  | 1 => ρ.b (Fl.MB_CFG_EN (epBuf e)) && !ρ.b (Fl.MB_CFG_DIR (epBuf e))
  | 2 => ρ.qpOn (epQueue e)
  | _ => false

def Rod.dstReady (ρ : Rod) (kind : Nat) (e : BitVec 16) : Bool :=
  match epType e with
  | 0 => true
  | 1 => kind != kTrace && ρ.b (Fl.MB_CFG_EN (epBuf e)) && ρ.b (Fl.MB_CFG_DIR (epBuf e))
  | 2 => ρ.qpOn (epQueue e) && (ρ.qp (epQueue e)).ring.isSome
  | 15 => kind != kTrace && ρ.b Fl.CT_CFG_PLACEMENT
  | _ => false

/-! ### The ledger -/

def Rod.modCt (ρ : Rod) (f : CtS → CtS) : Rod := { ρ with ct := f ρ.ct }

/-- States of Table 7.11. -/
def leFree : Nat := 0
def lePending : Nat := 1
def leActive : Nat := 2
def leNotice : Nat := 3
def leRevoked : Nat := 4
def leBroken : Nat := 5

def Rod.entry (ρ : Rod) (i : Nat) : Option LedgerEntry := (ρ.ct.ledger.find? fun e => e.1 == i).map (·.2)

def Rod.putEntry (ρ : Rod) (i : Nat) (e : LedgerEntry) : Rod :=
  ρ.modCt fun c => { c with ledger := Sparse.put c.ledger i e }

def Rod.dropEntry (ρ : Rod) (i : Nat) : Rod :=
  ρ.modCt fun c => { c with ledger := Sparse.del c.ledger i, susp := c.susp.filter (· != i), packs := Sparse.del c.packs i }

/-- Whether an entry is served: ACTIVE or NOTICE, and not a suspended K0 contract. -/
def Rod.serves (ρ : Rod) (e : Nat × LedgerEntry) : Bool :=
  (e.2.state == leActive || e.2.state == leNotice) && !ρ.ct.susp.contains e.1

/-- The served entry of a handle. -/
def Rod.byHandle (ρ : Rod) (h : Nat) : Option (Nat × LedgerEntry) :=
  ρ.ct.ledger.find? fun e => e.2.handle.toNat == h

/-- The bound an entry shows: 0xFFFF_FFFF for K0 and in Arver placement (Table 7.11). -/
def Rod.shownBound (ρ : Rod) (e : LedgerEntry) : Nat :=
  if e.args.cls = 0 ∨ ρ.b Fl.CT_CFG_PLACEMENT = true then 0xFFFFFFFF else e.bound

/-- Word i of a ledger entry as CT_ENT_i reads it (Table 7.11). -/
def Rod.ctEnt (ρ : Rod) (i : Nat) : Word :=
  match ρ.entry (ρ.g Fl.CT_SEL_ENTRY) with
  | none => 0#32
  | some e =>
    let a := e.args
    BitVec.ofNat 32 (match i with
      | 0 => e.handle.toNat + 2 ^ 16 * e.state + 2 ^ 20 * a.cls + 2 ^ 24 * a.kind + 2 ^ 28 * e.admitter.code
      | 1 => a.period
      | 2 => a.deadline
      | 3 => ρ.shownBound e
      | 4 => a.src.e0.toNat + 2 ^ 16 * a.src.e1.toNat
      | 5 => a.src.e2.toNat + 2 ^ 16 * a.dst.e0.toNat
      | 6 => a.dst.e1.toNat + 2 ^ 16 * a.dst.e2.toNat
      | 7 => a.count + 2 ^ 8 * e.late + 2 ^ 16 * e.queue + 2 ^ 20 * e.reason
      | _ => 0)

/-- LEADS as read (R256, Table 7.10). -/
def Rod.leadsWord (ρ : Rod) : Word :=
  BitVec.ofNat 32 ((ρ.rk.lead.e0).code + 4 * (ρ.rk.lead.e1).code + 16 * (ρ.rk.lead.e2).code)

/-! ### Load and capacity -/

/-- What a stream contract adds to a tick: values, and the cycles and instant of its own source buffer; a queue source,
or a contract without an own source, counts in every tick (R248). -/
structure LoadItem where
  count  : Nat
  always : Bool
  base   : Nat
  rep    : Nat
  at_    : Nat
deriving DecidableEq, Repr

def Rod.loadItem (ρ : Rod) (e : LedgerEntry) : LoadItem :=
  let s := e.args.src.get ρ.me.idx
  let anyQ := e.args.src.list.any fun s => epType s == 2
  if epType s = 1 ∧ anyQ = false then
    let b := epBuf s
    { count := e.args.count, always := false, base := ρ.g (Fl.MB_CFG_BASE b), rep := 2 ^ ρ.g (Fl.MB_CFG_REP b)
      at_ := ρ.slotEndNs (ρ.g (Fl.MB_CFG_SLOT b)) }
  else { count := e.args.count, always := true, base := 0, rep := 1, at_ := 0 }

/-- The load L of a list of entries (R248). -/
def Rod.loadOf (ρ : Rod) (l : List LedgerEntry) : Nat :=
  let items := (l.filter fun e => isStream e.args.kind).map ρ.loadItem
  let fixed := ((items.filter (·.always)).map (·.count)).sum
  let bufs := items.filter fun i => !i.always
  let t := max 1 ρ.tick2
  let sumAt (c : Nat) (i : LoadItem) : Nat :=
    ((bufs.filter fun j => c % j.rep == j.base && 2 * (c * ρ.cycleNs + j.at_) / t == 2 * (c * ρ.cycleNs + i.at_) / t).map (·.count)).sum
  let peaks := bufs.flatMap fun i => (List.range 64).map fun c => if c % i.rep = i.base then sumAt c i else 0
  fixed + peaks.foldl max 0

/-- The load in force. -/
def Rod.load (ρ : Rod) : Nat := ρ.loadOf ((ρ.ct.ledger.filter ρ.serves).map (·.2))

/-- Whether a link of the rod is up: without one it has no copy to send. -/
def Rod.linked (ρ : Rod) : Bool := ρ.b Fl.CR_STAT_LINK_1 || ρ.b Fl.CR_STAT_LINK_2

/-- The capacity by the state of the links (R248): none where a live partner has no path; a rod that is the last live one has all
of its own. (DEDUCED, log entry 79) -/
def Rod.capacity (ρ : Rod) : Nat :=
  if ρ.b Fl.CR_STAT_LINK_1 && ρ.b Fl.CR_STAT_LINK_2 && !ρ.b Fl.CR_STAT_RELAY then 32
  else if ρ.linked then 16
  else if ρ.b Fl.CR_STAT_SPLIT || ρ.me.partners.any (fun p => RS.serving (ρ.seen p)) then 0 else 16

/-- The best-effort values that a tick still has room for: the capacity less the load of K1 to K3 contracts and what was sent
(R236, R248). (DESIGN CHOICE, log entry 71) -/
def Rod.room (ρ : Rod) : Nat :=
  ρ.capacity - ρ.loadOf ((ρ.ct.ledger.filter fun e => ρ.serves e && e.2.args.cls != 0).map (·.2)) - ρ.ct.spent

/-- The Contracts page shows the ledger (Table 7.10), and in Arver placement the class bounds (R259). -/
def Rod.showCt (ρ : Rod) : Rod :=
  let ρ1 := ((ρ.p Fl.CT_STAT_USED ρ.ct.ledger.length).p Fl.CT_STAT_LOAD (min 63 ρ.load)).p Fl.CT_STAT_NOTICE
    (b2n (!ρ.ct.notices.isEmpty))
  let top (k : Nat) : Nat :=
    let bs := (ρ.ct.ledger.filter fun e => e.2.args.cls == k && e.2.state != lePending).map (·.2.bound)
    match bs with
    | [] => 0xFFFFFFFF
    | a :: t => t.foldl max a
  if ρ.b Fl.CT_CFG_PLACEMENT then
    ((ρ1.p Fl.CLASS_BOUND_1_B (top 1)).p Fl.CLASS_BOUND_2_B (top 2)).p Fl.CLASS_BOUND_3_B (top 3)
  else ρ1

/-! ### Bounds -/

/-- D_dst of the own destination (R242, Table 7.5): T_BUF takes the longest wait the schedule allows. -/
def Rod.dstTime (ρ : Rod) (e : BitVec 16) : Nat :=
  match epType e with
  | 1 => ρ.bufPeriod (epBuf e) + ρ.slotEndNs (ρ.g (Fl.MB_CFG_SLOT (epBuf e))) + ρ.g Fl.DISC_CFG_OUT_LIM
  | 2 => 3100
  | _ => 0

/-- The rod's part of the bound (Table 7.6). -/
def Rod.boundPart (ρ : Rod) (a : ContractArgs) : Nat :=
  let s (e : BitVec 16) : Nat := if epType e = 1 then 2000 else if epType e = 2 then 2000 + ρ.g Fl.CT_HOST_LAT_HOST_LAT else 0
  let smax := (a.src.list.map s).foldl max 0
  let d := ρ.dstTime (a.dst.get ρ.me.idx)
  if a.kind = kSetpoint then smax + 7500
  else if a.kind = kMirror then smax + 6500 + d
  else if a.kind = kReport then 3000 + d
  else (12 / max 1 a.count - 1) * a.period + 6100

/-! ### Admission -/

/-- Inputs that a set-point may name: not input 15, nor past input 63 (R348). -/
def inputsOk (first count : Nat) : Bool := decide (first + count ≤ 15) || (decide (16 ≤ first) && decide (first + count ≤ 64))

/-- Whether the endpoints fit Table 7.3, the own ones with their buffers and queues. -/
def Rod.epsOk (ρ : Rod) (a : ContractArgs) : Bool :=
  let srcs := a.src.list
  let dsts := a.dst.list
  let own := a.dst.get ρ.me.idx
  (srcs.all epClean) && (dsts.all epClean) &&
  (if isStream a.kind then
      srcs.all (fun e => epType e ≤ 2) && decide (2 ≤ (srcs.filter fun e => epType e != 0).length) &&
        decide (1 ≤ a.count ∧ a.count ≤ 6) && ρ.srcReady (a.src.get ρ.me.idx)
    else
      srcs.all (fun e => epType e == 4 || epType e == 0) &&
        ([0, 1, 2] : List (Fin 3)).all (fun i => epType (a.dst.get i) == 0 || (epType (a.src.get i) == 4 &&
          decide (epFirst (a.src.get i) + a.count ≤ 64) &&
          srcs.all fun e => epType e == 0 || e == a.src.get i)) &&
        decide (1 ≤ a.count ∧ a.count ≤ (if a.kind = kReport then 12 else 8))) &&
  (if a.kind = kSetpoint then
      dsts.all (fun e => e == a.dst.e0) && epType a.dst.e0 == 3 && inputsOk (epFirst a.dst.e0) a.count
    else
      dsts.any (fun e => epType e != 0) && ρ.dstReady a.kind own &&
        dsts.all fun e => epType e == 0 || epType e == 2 || (a.kind != kTrace && (epType e == 1 || epType e == 15)))

/-- Whether PERIOD and OFFSET fit Table 7.3 and R230 for the rod. -/
def Rod.periodOk (ρ : Rod) (a : ContractArgs) : Bool :=
  let bufOk (e : BitVec 16) : Bool := epType e != 1 || ρ.bufPeriod (epBuf e) == a.period
  let t := ρ.tick2
  bufOk (a.src.get ρ.me.idx) && bufOk (a.dst.get ρ.me.idx) &&
  (if isStream a.kind then
      a.offset == 0 && (!(a.src.list.any fun e => epType e == 2) || decide (t ≤ 2 * a.period ∧ a.period ≤ 4000000000))
    else
      decide (0 < a.period ∧ 2 * a.period % max 1 t = 0) && decide (a.offset < a.period) &&
        (a.kind != kTrace || decide (2 * a.period ≤ 64 * t)))

/-- The own part of the bound, 0 where none can be computed: an endpoint that does not fit, or a queue source that is not urgent
(R243). -/
def Rod.boundOf (ρ : Rod) (a : ContractArgs) : Nat :=
  let slow := (a.src.list.zip allRods).any fun (e, r) => r == ρ.me && epType e == 2 && !ρ.b (Fl.QP_CLASS_URGENT (epQueue e))
  if ρ.epsOk a = false ∨ slow = true then 0 else ρ.boundPart a

/-- The own check of an admission: a reason of Table 7.7, 0 for none; and the own part of the bound, 0 where none could be
computed (R243). (DESIGN CHOICE, log entry 49) -/
def Rod.admitCheck (ρ : Rod) (a : ContractArgs) : Nat × Nat :=
  if ρ.epsOk a = false then (2, 0)
  else if ρ.periodOk a = false then (3, ρ.boundOf a)
  else
    let bound := ρ.boundPart a
    let slow := (a.src.list.zip allRods).any fun (e, r) => r == ρ.me && epType e == 2 && !ρ.b (Fl.QP_CLASS_URGENT (epQueue e))
    let entry : LedgerEntry :=
      { admitter := ρ.me, state := leActive, handle := 0, bound := bound, reason := 0, queue := 0, late := 0, order := 0, args := a }
    if a.cls ≠ 0 ∧ slow = true then (6, 0)
    else if a.cls ≠ 0 ∧ ρ.b Fl.CT_CFG_PLACEMENT = false ∧ a.deadline < bound then (4, bound)
    else if isStream a.kind = true ∧ ρ.capacity < ρ.loadOf (entry :: (ρ.ct.ledger.filter ρ.serves).map (·.2)) then (5, bound)
    else (0, bound)

/-- The lowest free index. -/
def Rod.freeIndex (ρ : Rod) : Option Nat := (List.range 256).find? fun i => !Sparse.has ρ.ct.ledger i

/-- Reserves an entry for an admission (R237, R238). -/
def Rod.reserve (ρ : Rod) (i gen : Nat) (admitter : RodId) (queue bound : Nat) (a : ContractArgs) : Rod :=
  let e : LedgerEntry :=
    { admitter := admitter, state := lePending, handle := BitVec.ofNat 16 (256 * gen + i), bound := bound, reason := 0
      queue := queue, late := 0, order := ρ.ct.order, args := a }
  ((ρ.putEntry i e).modCt fun c => { c with order := c.order + 1, gens := Sparse.set 0 c.gens i gen,
                                            seqs := Sparse.del c.seqs i }).showCt

/-- An entry is freed: reservation cancelled or contract withdrawn. -/
def Rod.freeEntry (ρ : Rod) (i : Nat) : Rod := (ρ.dropEntry i).showCt

/-- The first slot of the own static segment that no enabled buffer uses (R258). -/
def Rod.freeSlot (ρ : Rod) : Option Nat :=
  let used := ((List.range 128).filter fun b => ρ.b (Fl.MB_CFG_EN b)).map fun b => ρ.g (Fl.MB_CFG_SLOT b)
  ((List.range (ρ.g Fl.FR_STATIC_N_STATIC)).map (· + 1)).find? fun s => !used.contains s

/-- An AUTO destination takes a buffer of the pool (R258): the buffer, configured for transmit, or `none`. -/
def Rod.autoBuffer (ρ : Rod) : Option (Nat × Nat) :=
  let pool := (List.range (ρ.g Fl.CT_CFG_POOL_N)).map (ρ.g Fl.CT_CFG_POOL_FIRST + ·)
  let claimed := (ρ.ct.ledger.filter fun e => e.2.state == lePending).map fun e => e.2.args.dst.get ρ.me.idx
  match pool.find? (fun b => decide (b < 128) && !ρ.b (Fl.MB_CFG_EN b) && !claimed.contains (BitVec.ofNat 16 (0x1000 + b))), ρ.freeSlot with
  | some b, some s => some (b, s)
  | _, _ => none

/-- The repetition code of a period, if it is the cycle times a power of two up to 64. -/
def Rod.repOf (ρ : Rod) (period : Nat) : Nat := ((List.range 7).find? fun r => ρ.cycleNs * 2 ^ r == period).getD 0

/-- Configures the buffer of an AUTO destination. -/
def Rod.takeAuto (ρ : Rod) (b slot period : Nat) : Rod :=
  let f (q : Rod) (x : Nat → Fld) (v : Nat) : Rod := q.p (x b) v
  let ρ1 := f (f (f ρ Fl.MB_CFG_EN 1) Fl.MB_CFG_DIR 1) Fl.MB_CFG_CH (ρ.g Fl.FR_MODE_CH_USE)
  f (f (f (f ρ1 Fl.MB_CFG_REP (ρ.repOf period)) Fl.MB_CFG_BASE 0) Fl.MB_CFG_PL (ρ.g Fl.FR_STATIC_PL_STATIC)) Fl.MB_CFG_SLOT slot

/-- A reservation becomes a contract with the largest bound part (R242) and the destinations that the rods chose (R258, Table
7.11); a buffer chosen for AUTO is configured. -/
def Rod.activate (ρ : Rod) (i bound : Nat) (dst : Tri (BitVec 16)) : Rod :=
  match ρ.entry i with
  | none => ρ
  | some e0 =>
    let e := { e0 with args := { e0.args with dst := dst } }
    let d := e.args.dst.get ρ.me.idx
    let ρ1 := if ρ.b Fl.CT_CFG_PLACEMENT && epType d == 1 && !ρ.b (Fl.MB_CFG_EN (epBuf d)) then
        ρ.takeAuto (epBuf d) ((ρ.freeSlot).getD 0) e.args.period
      else ρ
    (ρ1.putEntry i { e with state := leActive, bound := if e.args.cls = 0 then 0xFFFFFFFF else bound }).showCt

/-! ### Revocation and broken contracts -/

/-- The rod that posts a completion of KIND 2 or 3 (R253). -/
def poster (ps : RodId → Rod) (admitter : RodId) (q : Nat) : Option RodId :=
  let ok (r : RodId) : Bool := (ps r).qpOn q && (ps r).b Fl.LINK_STAT_UP
  if ok admitter then some admitter else allRods.find? fun r => RS.serving (ps r).state && ok r

/-- Writes the event log of the Contracts page (Table 7.10). -/
def Rod.ctEvent (ρ : Rod) (kind reason handle result : Nat) : Rod :=
  let i := ρ.g Fl.CT_EVT_IDX_NEXT
  ((ρ.pw (Rg.CT_EVT i) (BitVec.ofNat 32 (handle + 2 ^ 16 * kind + 2 ^ 20 * reason))).pw (Rg.CT_EVT_FT i)
    (BitVec.ofNat 32 result)).p Fl.CT_EVT_IDX_NEXT (i + 1)

/-- A contract is reported BROKEN (R252). -/
def Rod.breakEntry (ρ : Rod) (ps : RodId → Rod) (i reason : Nat) : Rod :=
  match ρ.entry i with
  | none => ρ
  | some e =>
    let h := e.handle.toNat
    let ρ1 := (ρ.putEntry i { e with state := leBroken, reason := reason }).ctEvent 3 reason h ρ.ft
    let ρ2 := (ρ1.irq 0x050 2).flt 0x0711 sevDegrade 0x050 [(0, 2, h), (2, 1, reason), (8, 8, ρ.ft)]
    (if poster (fun r => if r = ρ.me then ρ else ps r) e.admitter e.queue = some ρ.me then ρ2.postEvt e.queue 3 h ρ.ft else ρ2).showCt

/-- Whether the elements of an endpoint work in the rod that has it: `none`, or the reason (R252). -/
def Rod.epFails (ρ : Rod) (e : BitVec 16) : Option Nat :=
  if !(ρ.state == RS.active || ρ.state == RS.ready || ρ.state == RS.update) then some 5
  else match epType e with
    | 1 =>
      let ch := ρ.g (Fl.MB_CFG_CH (epBuf e))
      if ρ.b Fl.FR_STAT_LOST then some 2
      else if (ch = 1 ∧ ρ.fr.silA = true) ∨ (ch = 2 ∧ ρ.fr.silB = true) then some 3 else none
    | 2 => if ρ.qpOn (epQueue e) then none else some 4
    | _ => none

/-- Whether this rod has a path to a partner, by its own link or relayed by the third rod (R481). -/
def Rod.path (ρ : Rod) (ps : RodId → Rod) (p : RodId) : Bool :=
  let t := ρ.me.third p
  ρ.linkUp p || (ρ.linkUp t && (ps t).linkUp p && decide (RS.boot ≤ (ps t).state))

/-- The reason for which a contract is broken, if it is: every source or every destination fails, or a partner's queue has left the
urgent class (R244, R252). -/
def Rod.brokenBy (ρ : Rod) (ps : RodId → Rod) (e : LedgerEntry) : Option Nat :=
  let look (r : RodId) : Rod := if r = ρ.me then ρ else ps r
  let slow := ρ.me.partners.any fun p => RS.serving (ρ.seen p) && ρ.path ps p && (ps p).ct.ledger.any fun f =>
    f.2.handle == e.handle && f.2.admitter == e.admitter && f.2.state == leBroken && f.2.reason == 7
  let all (t : Tri (BitVec 16)) : Option Nat :=
    let l := allRods.filter fun r => epType (t.get r.idx) != 0
    let fails := l.map fun r => if r = ρ.me ∨ ρ.path ps r = true then (look r).epFails (t.get r.idx) else some 6
    if l.isEmpty then none
    else if fails.all (·.isSome) then (fails.filterMap id).head? else none
  if slow then some 7
  else match all e.args.src with
    | some r => some r
    | none => all e.args.dst

/-- Reviews every served contract for broken elements. (DEDUCED, log entry 61) -/
def Rod.ctReview (ρ : Rod) (ps : RodId → Rod) : Rod :=
  ρ.each ρ.ct.ledger fun e q =>
    if e.2.state = leActive ∨ e.2.state = leNotice then
      (match q.brokenBy ps e.2 with
      | some r => q.breakEntry ps e.1 r
      | none => q)
    else q

/-- A source slot of a buffer of a rod ends at this FT, by the rod's own time base; `none` where that gives it none. -/
def Rod.srcInstant (ρ : Rod) (buf : Nat) : Option Nat :=
  ρ.tb.base.map fun b =>
    let skip := (ρ.g (Fl.MB_CFG_BASE buf) + 64 - b.2 % 64) % 2 ^ ρ.g (Fl.MB_CFG_REP buf)
    b.1 + ρ.slotEndNs (ρ.g (Fl.MB_CFG_SLOT buf)) + skip * ρ.cycleNs

/-- The FT of the first deadline of a contract whose instance begins at or after `t` (R250), counted from the latest source
instant of its copies (Table 7.6). Where neither the schedules nor the latch phase give it, it is a free value.
(DESIGN CHOICE, log entry 13) -/
def Rod.firstDeadline (ρ : Rod) (ps : RodId → Rod) (e : LedgerEntry) (t : Nat) : Nat × Rod :=
  let p := max 1 e.args.period
  let next (phase : Nat) : Nat := if t ≤ phase then phase else phase + (t - phase + p - 1) / p * p
  let srcs := allRods.filter fun r => epType (e.args.src.get r.idx) != 0
  let ends := srcs.map fun r =>
    let s := e.args.src.get r.idx
    if epType s = 1 then (if r = ρ.me then ρ else ps r).srcInstant (epBuf s) else none
  if isStream e.args.kind = false then (next e.args.offset + e.args.deadline, ρ)
  else if ends.isEmpty = true ∨ ends.any (·.isNone) = true then ρ.free 64
  else (next (((ends.filterMap id).map (· % p)).foldl max 0) + e.args.deadline, ρ)

/-- Orders of selection under R249: K0 first, then K1 to K3, the most recently admitted first. -/
def pickOrder (a b : Nat × LedgerEntry) : Bool :=
  decide (a.2.args.cls < b.2.args.cls) || (a.2.args.cls == b.2.args.cls && decide (b.2.order ≤ a.2.order))

/-- Inserts by an order. -/
def insertBy {α : Type} (le : α → α → Bool) (x : α) : List α → List α
  | [] => [x]
  | h :: t => if le x h then x :: h :: t else h :: insertBy le x t

/-- Selects contracts until L ≤ CAP (R249): answers the rod and the indices that entered NOTICE. -/
def Rod.selectLoad (ps : RodId → Rod) (cap : Nat) : List (Nat × LedgerEntry) → Rod → List Nat → Rod × List Nat
  | [], ρ, l => (ρ, l)
  | e :: t, ρ, l =>
    if ρ.loadOf (((ρ.ct.ledger.filter ρ.serves).filter fun f => !l.contains f.1).map (·.2)) ≤ cap then (ρ, l)
    else if e.2.args.cls = 0 then Rod.selectLoad ps cap t (ρ.modCt fun c => { c with susp := c.susp ++ [e.1] }) l
    else
      let h := e.2.handle.toNat
      let (d, ρ0) := ρ.firstDeadline ps e.2 (ρ.ft + 2 * ρ.cycleNs)
      let ρ1 := (ρ0.putEntry e.1 { e.2 with state := leNotice, reason := 1 }).ctEvent 2 1 h d
      let ρ2 := (ρ1.irq 0x050 1).flt 0x0710 sevDegrade 0x050 [(0, 2, h), (2, 1, e.2.args.cls), (8, 8, d)]
      let ρ3 := if poster (fun r => if r = ρ.me then ρ else ps r) e.2.admitter e.2.queue = some ρ.me then ρ2.postEvt e.2.queue 2 h d else ρ2
      Rod.selectLoad ps cap t ρ3 (l ++ [e.1])

/-- The capacity follows the links; where L exceeds it, contracts are selected, and for those of class K1 to K3 a notice interval
starts, with forwarded bulk suspended (R248 to R251). -/
def Rod.degrade (ρ : Rod) (ps : RodId → Rod) : Rod :=
  let was := ρ.g Fl.CT_STAT_CAP
  let cap := ρ.capacity
  let ρ1 := ρ.p Fl.CT_STAT_CAP cap
  let noted := (ρ.ct.ledger.filter fun e => e.2.state == leNotice).map (·.1)
  let l := ρ.loadOf (((ρ.ct.ledger.filter ρ.serves).filter fun f => !noted.contains f.1).map (·.2))
  if cap < was ∧ cap < l then
    let ρ2 := ρ1.flt 0x0712 sevDegrade 0x050 [(0, 1, was), (1, 1, cap), (2, 1, l)]
    let cands := ((ρ2.ct.ledger.filter fun e => e.2.state == leActive && isStream e.2.args.kind && !ρ2.ct.susp.contains e.1).foldl
      (fun acc e => insertBy pickOrder e acc) [])
    let (ρ3, new) := Rod.selectLoad ps cap cands ρ2 noted
    let fresh := new.filter fun i => !noted.contains i
    (if fresh.isEmpty then ρ3 else ρ3.modCt fun c => { c with notices := c.notices ++ [fresh], bulkOff := true }).showCt
  else ρ1.showCt

/-- Whether the ledger lock can be taken at once (R222). -/
def Rod.ledgerFree (ρ : Rod) : Bool := ρ.holder 2 == 0xFF && ρ.hp.ranks.all fun e => e.1 != 2

/-- The supervisor waits for the ledger lock, as holder 0x10 in order of arrival (R220, R222). -/
def Rod.supWait (ρ : Rod) (req : SupReq) : Rod :=
  { ρ with hp := { ρ.hp with ranks := ρ.hp.ranks ++ [(2, 0x10)], sup := ρ.hp.sup ++ [req] } }

/-- Revocation takes the ledger lock (R220). -/
def Rod.ctDegrade (ρ : Rod) (ps : RodId → Rod) : Rod :=
  if ρ.ledgerFree then ρ.degrade ps else if ρ.hp.sup.contains .degrade then ρ else ρ.supWait .degrade

/-- The oldest notice interval ends: its contracts become REVOKED and forwarded bulk resumes (R250). -/
def Rod.noticeEnd (ρ : Rod) : Rod :=
  match ρ.ct.notices with
  | [] => ρ
  | l :: t =>
    let ρ1 := ρ.each l fun i q =>
      match q.entry i with
      | none => q
      | some e => if e.state = leNotice then q.putEntry i { e with state := leRevoked } else q
    ((ρ1.modCt fun c => { c with notices := t, bulkOff := !t.isEmpty }).irq 0x050 3).showCt

/-- A queue that was the source of a K1 to K3 contract loses the urgent class (R244). -/
def Rod.classBroken (ρ : Rod) (ps : RodId → Rod) (q : Nat) : Rod :=
  ρ.each ρ.ct.ledger fun e r =>
    if (e.2.state = leActive ∨ e.2.state = leNotice) ∧ e.2.args.cls ≠ 0 ∧ epType (e.2.args.src.get ρ.me.idx) = 2 ∧
        epQueue (e.2.args.src.get ρ.me.idx) = q then r.breakEntry ps e.1 7 else r

/-! ### Delivery -/

/-- Advances LATE of an entry (R233, R246). -/
def Rod.lateEntry (ρ : Rod) (h : Nat) : Rod :=
  match ρ.byHandle h with
  | none => ρ
  | some (i, e) => ρ.putEntry i { e with late := satN 0xFF (e.late + 1) }

/-- Hands an instance to the own destination: a transmit buffer, or a report ring (R234, Table 7.4). -/
def Rod.deliver (ρ : Rod) (i : Nat) (e : LedgerEntry) (ft info : Nat) (vals : List Word) : Rod :=
  let seq := Sparse.get 0 ρ.ct.seqs i
  let words := [BitVec.ofNat 32 ft, BitVec.ofNat 32 (ft / 2 ^ 32), BitVec.ofNat 32 (e.handle.toNat + 2 ^ 16 * seq),
    BitVec.ofNat 32 info] ++ vals
  let d := e.args.dst.get ρ.me.idx
  let ρ1 := ρ.modCt fun c => { c with seqs := Sparse.set 0 c.seqs i ((seq + 1) % 65536) }
  if epType d = 1 then
    let b := epBuf d
    (ρ1.each (words.zip (List.range words.length)) fun w q => q.pw (Rg.MB_DATA b w.2) w.1).p (Fl.MB_CTRL_READY b) 1
  else if epType d = 2 then
    let q := epQueue d
    match (ρ1.qp q).ring with
    | none => ρ1
    | some (a, n, k) =>
      let bytes := wordBytes words ++ List.replicate (64 - 4 * words.length) 0#8
      (ρ1.toHost (a + 64 * k) bytes).putQp q { ρ1.qp q with ring := some (a, n, (k + 1) % max 1 n) }
  else ρ1

/-- A word of the last tick whose computations have finished (R134): of this one, or as the one before left it. -/
def Rod.lastWord (ρ : Rod) (w : Nat) : Word := if ρ.tickDone then ρ.sg w else Sparse.get 0#32 ρ.rk.fin w

/-- Whether an FT is a latch instant of a contract, k × PERIOD + OFFSET (R232). -/
def latchAt (a : ContractArgs) (ft : Nat) : Bool := decide (a.offset ≤ ft) && (ft - a.offset) % max 1 a.period == 0

/-- The values of a REPORT or TRACE latched at an FT (R134, R232): each rod with a destination delivers. -/
def Rod.reportLatch (ρ0 : Rod) (i at_ : Nat) : Rod :=
  let ρ := ρ0.atFt at_
  match ρ.ct.ledger.find? fun e => e.1 == i with
  | none => ρ
  | some (_, e) =>
    let d := e.args.dst.get ρ.me.idx
    let s := e.args.src.get ρ.me.idx
    let ft := (ρ.lastWord 0x0030).toNat + 2 ^ 32 * (ρ.lastWord 0x0031).toNat
    if ρ.serves (i, e) = false ∨ epType d = 0 ∨ epType s ≠ 4 ∨ latchAt e.args at_ = false ∨ ρ.ftn ≠ ftnOf at_ then ρ
    else
      let vals := (List.range e.args.count).map fun j => ρ.lastWord (0x0140 + 0x40 * epAxis s + epFirst s + j)
      if e.args.kind = kReport then ρ.deliver i e ft (ρ.lastWord 0x0032).toNat vals
      else if e.args.kind = kTrace then
        let (f0, got) := Sparse.get (ft, []) ρ.ct.packs i
        let all := got ++ vals
        if (12 / max 1 e.args.count) * e.args.count ≤ all.length then
          (ρ.modCt fun c => { c with packs := Sparse.del c.packs i }).deliver i e f0 (all.length / max 1 e.args.count) all
        else ρ.modCt fun c => { c with packs := Sparse.put c.packs i (f0, all) }
      else ρ

/-- The completion of KIND 1 that follows a REPORT to a ring of this rod: it is posted on the queue pair that admitted the contract
(R197, R234): rod, queue, handle and FT. -/
def Rod.reportEvt (ρ0 : Rod) (i at_ : Nat) : Option (RodId × Nat × Nat × Nat) :=
  let ρ := ρ0.atFt at_
  match ρ.ct.ledger.find? fun e => e.1 == i with
  | none => none
  | some (_, e) =>
    let d := e.args.dst.get ρ.me.idx
    if ρ.serves (i, e) && epType d == 2 && epType (e.args.src.get ρ.me.idx) == 4 && e.args.kind == kReport && latchAt e.args at_ &&
        ρ.ftn == ftnOf at_ && (ρ.qp (epQueue d)).ring.isSome
    then some (e.admitter, e.queue, e.handle.toNat, (ρ.lastWord 0x0030).toNat + 2 ^ 32 * (ρ.lastWord 0x0031).toNat)
    else none

/-! ### The commands -/

/-- NOTICE_INTERVAL_END (R250). -/
def execNoticeIntervalEnd (r : RodId) (s : State) : Host.Outcome State Fault Refusal := onRod s r fun ρ => ρ.noticeEnd

/-- REPORT_LATCH (R232). -/
def execReportLatch (r : RodId) (index : ReportAt) (s : State) : Host.Outcome State Fault Refusal :=
  let t := s.putRod r ((s.rod r).reportLatch index.index index.ft.toNat).flush
  .next (match (s.rod r).reportEvt index.index index.ft.toNat with
    | none => t
    | some (a, q, h, f) => t.putRod a ((t.rod a).postEvt q 1 h f).flush)

end Sys2Proof.Machine
end

