-- ==== Sys2Proof/Machine/Setpoints.lean ====
section
/-! DEFINITION. Set-points (R34, R35, R130, R246, R349, R471 to R475): the copies of a launch, their agreement field by
field, and the launch at its sampling instant. -/

namespace Sys2Proof.Machine

/-- Two copies with the same header field (R472). -/
def sameHead (a b : SetpointCopy) : Bool :=
  a.launch == b.launch && a.handle == b.handle && a.seq == b.seq && a.axis == b.axis && a.first == b.first &&
  a.vals.length == b.vals.length

/-- Two copies of one instance with different headers: the same launch and inputs, or the same handle and sequence. -/
def sameInstance (a b : SetpointCopy) : Bool :=
  (a.launch == b.launch && a.axis == b.axis && a.first == b.first) || (a.handle == b.handle && a.seq == b.seq)

/-- The copies of a launch. -/
def Launch.got (l : Launch) : List (RodId × SetpointCopy) :=
  allRods.filterMap fun r => (l.copies.get r.idx).map fun c => (r, c)

/-- A value that at least two of three hold (R472). -/
def agreeOf : List Word → Option Word
  | [a, b] => if a = b then some a else none
  | [a, b, c] => if a = b ∨ a = c then some a else if b = c then some b else none
  | _ => none

/-- The agreed values of a launch: `none` where a field has no majority (R473). -/
def Launch.agreed (l : Launch) : Option (List Word) :=
  match l.got with
  | [] => none
  | (_, c) :: _ =>
    let fields := (List.range c.vals.length).map fun i => agreeOf (l.got.map fun e => e.2.vals.getD i 0#32)
    if fields.all (·.isSome) then some (fields.filterMap id) else none

/-- Adds a copy to the launches that wait (R471, R472). The FT kept is that at which the launch became agreed. -/
def Rod.addCopy (ρ : Rod) (src : RodId) (c : SetpointCopy) (cmd : Option (Nat × Nat × Bool))
    (fwd : Option (RodId × Nat × Nat)) : Rod :=
  let fits (l : Launch) : Bool := (l.got.any fun e => sameHead e.2 c) && (l.copies.get src.idx).isNone
  let put (l : Launch) : Launch :=
    let l' : Launch := { l with copies := l.copies.set src.idx (some c), cmd := if cmd.isSome then cmd else l.cmd
                                fwd := if fwd.isSome then fwd else l.fwd }
    if l.agreed.isNone && l'.agreed.isSome then { l' with last := ρ.ft } else l'
  let rec go : List Launch → List Launch
    | [] => [{ launch := c.launch.toNat, handle := c.handle.toNat, copies := (Tri.rep none).set src.idx (some c)
               last := ρ.ft, cmd := cmd, fwd := fwd }]
    | l :: t => if fits l then put l :: t else l :: go t
  ρ.modCt fun k => { k with wait := go k.wait }

/-- An own copy: kept, and sent to both partners (R471). A copy without a contract, or of a K0 contract, takes what capacity the
tick has left, and waits for the next tick where there is none; that of a suspended contract is not sent (R236, R248).
(DESIGN CHOICE, log entry 71) -/
def Rod.ownCopy (ρ : Rod) (c : SetpointCopy) (cmd : Option (Nat × Nat × Bool)) (fwd : Option (RodId × Nat × Nat)) : Rod :=
  let send (q : Rod) : Rod := (q.addCopy q.me c cmd fwd).send (.setpoint c)
  match ρ.byHandle c.handle.toNat with
  | some (i, e) =>
    if ρ.ct.susp.contains i then ρ.addCopy ρ.me c cmd fwd
    else if e.args.cls ≠ 0 ∨ ρ.linked = false then send ρ
    else if c.vals.length ≤ ρ.room then send (ρ.modCt fun k => { k with spent := k.spent + c.vals.length })
    else ρ.modCt fun k => { k with later := k.later ++ [⟨c, cmd, fwd⟩] }
  | none =>
    if ρ.linked = false then send ρ
    else if c.vals.length ≤ ρ.room then send (ρ.modCt fun k => { k with spent := k.spent + c.vals.length })
    else ρ.modCt fun k => { k with later := k.later ++ [⟨c, cmd, fwd⟩] }

/-- A new tick gives new capacity: the copies that waited for it are sent, in order, as far as it goes (R248). -/
def Rod.shareTick (ρ : Rod) : Rod :=
  (ρ.modCt fun k => { k with spent := 0, later := [] }).each ρ.ct.later fun d q => q.ownCopy d.copy d.cmd d.fwd

/-- The rods from which a copy of a launch can come: live, with a source that works (R475). -/
def Rod.copiers (ρ : Rod) (ps : RodId → Rod) (l : Launch) : List RodId :=
  let look (r : RodId) : Rod := if r = ρ.me then ρ else ps r
  allRods.filter fun r =>
    ρ.live r && (match ρ.byHandle l.handle with
      | none => true
      | some (_, e) => epType (e.args.src.get r.idx) != 0 && ((look r).epFails (e.args.src.get r.idx)).isNone)

/-- Whether only one copy of a launch can exist (R475). -/
def Rod.onlyOne (ρ : Rod) (ps : RodId → Rod) (l : Launch) : Bool :=
  (ρ.copiers ps l).length ≤ 1 && l.got.length == 1

/-- Completes the SETPOINT command that waits for a launch, or answers the rod that forwarded it. -/
def Rod.endLaunch (ρ : Rod) (l : Launch) (status result : Nat) : Rod :=
  let ρ1 := match l.cmd with
    | none => ρ
    | some (q, cid, _) => ρ.finish q cid status result
  match l.fwd with
  | none => ρ1
  | some (r, q, cid) =>
    ρ1.send (.forwardResult r q (BitVec.ofNat 16 cid) (BitVec.ofNat 8 status) (BitVec.ofNat 64 result) [])

/-- Counts an instance of a contract toward its next record; answers whether a record is due (one in 64). -/
def countDue (m : Sparse Nat) (h : Nat) : Bool × Sparse Nat :=
  let k := Sparse.get 0 m h
  (k == 0, Sparse.set 0 m h ((k + 1) % 64))

/-- The minority copies of a launch are counted, with a record in every 64 instances (R474). (DEDUCED, log entry 63) -/
def Rod.minority (ρ : Rod) (h : Nat) (rods : List RodId) : Rod :=
  let (due, m) := countDue ρ.ct.minor h
  let ρ1 := if rods.isEmpty then ρ.modCt fun c => { c with minor := if Sparse.has c.minor h then m else c.minor }
    else ρ.modCt fun c => { c with minor := m }
  ρ1.each rods fun r q =>
    (q.inc ⟨0x0A0, 0x58, 8 * r.code, 8⟩).when due (·.flt 0x0C01 sevWarn 0x0A0 [(0, 1, r.code), (2, 2, h)])

/-- A discarded late set-point (R246). (DEDUCED, log entry 63) -/
def Rod.lateLaunch (ρ : Rod) (l : Launch) : Rod :=
  let (due, m) := countDue ρ.ct.lateN l.handle
  let ρ1 := (((ρ.modCt fun c => { c with lateN := m }).lateEntry l.handle).irq 0x050 4).when due
    (·.flt 0x0720 sevWarn 0x050 [(0, 2, l.handle), (8, 8, l.launch)])
  ρ1.endLaunch l 8 0

/-- Writes the inputs of a launch, as the safety monitor limits them (R34, R349, R551). -/
def Rod.writeInputs (ρ : Rod) (n : Axis) (first : Nat) (vals : List Word) : Rod :=
  let ws := vals.zip (List.range vals.length)
  let limited := ws.find? fun w => decide (ρ.limitInput n (first + w.2) w.1 ≠ w.1)
  let ρ1 := ρ.each ws fun w q =>
    let i := first + w.2
    let q1 := q.sp (inputW n.val i) (q.limitInput n i w.1)
    let q2 := if i = 0 then { q1 with rk := { q1.rk with posRaw := q1.rk.posRaw.set n (q.limitInput n 0 w.1) } } else q1
    if i = 8 ∧ n = 0 then (q2.modSf fun f => { f with vsFt := q2.ft }).p Fl.SF_PROF_VS_STALE 0 else q2
  match limited with
  | none => ρ1
  | some w => ρ1.clampNote n (first + w.2) w.1

/-- Applies an agreed launch: a set-point at its sampling instant, or the instance of a MIRROR. -/
def Rod.applyLaunch (ρ : Rod) (l : Launch) (vals : List Word) (mask : Nat) : Rod :=
  match l.got with
  | [] => ρ
  | (_, c) :: _ =>
    match ρ.byHandle l.handle with
    | some (i, e) =>
      if e.args.kind = kMirror then (ρ.deliver i e l.launch mask vals).endLaunch l 0 ρ.ft
      else (ρ.writeInputs c.axis c.first vals).endLaunch l 0 ρ.ft
    | none => (ρ.writeInputs c.axis c.first vals).endLaunch l 0 ρ.ft

/-- Whether a launch belongs to a MIRROR contract. -/
def Rod.isMirror (ρ : Rod) (l : Launch) : Bool :=
  match ρ.byHandle l.handle with
  | some (_, e) => e.args.kind == kMirror
  | none => false

/-- Whether the contract of a launch is no longer served: suspended, revoked or broken (R249, R250, R252). -/
def Rod.unserved (ρ : Rod) (l : Launch) : Bool :=
  match ρ.byHandle l.handle with
  | some e => !ρ.serves e
  | none => false

/-- One launch at a sampling instant: kept, applied or discarded (R246, R473 to R475). The instance of a MIRROR is delivered once
every copy that can come is there, at its launch FT at the latest, so that it shows all rods that agree.
(DESIGN CHOICE, log entry 71) -/
def Rod.resolve (ρ : Rod) (ps : RodId → Rod) (l : Launch) : Rod :=
  let whole := (ρ.copiers ps l).all fun r => (l.copies.get r.idx).isSome
  let due := decide (l.launch ≤ ρ.ft) || (ρ.isMirror l && l.agreed.isSome && whole)
  let first := decide (ρ.pwm.prev < 2 * l.launch) || ρ.isMirror l
  if ρ.unserved l then ρ.lateLaunch l
  else if due = false then ρ.modCt fun c => { c with wait := c.wait ++ [l] }
  else match l.agreed with
    | some vals =>
      if first = false ∨ (ρ.ft < l.last + 1000 ∧ ρ.isMirror l = false) then ρ.lateLaunch l
      else
        let good := (l.got.filter fun e => decide (e.2.vals = vals)).map (·.1)
        let bad := (l.got.filter fun e => decide (e.2.vals ≠ vals)).map (·.1)
        ((ρ.modCt fun c => { c with single := false }).minority l.handle bad).applyLaunch l vals (rodMask good)
    | none =>
      if ρ.onlyOne ps l then
        if first = false ∨ ρ.ft < l.last + 1000 then ρ.lateLaunch l
        else
          match l.got with
          | (r, c) :: _ =>
            let ρ1 := if ρ.ct.single then ρ else
              (ρ.modCt fun k => { k with single := true }).flt 0x0C03 sevDegrade 0x0A0 [(0, 1, r.code), (2, 2, l.handle)]
            ρ1.applyLaunch l c.vals (2 ^ r.code)
          | [] => ρ
      else
        let ρ1 := (ρ.irq 0x0A0 7).flt 0x0C02 sevWarn 0x0A0 [(2, 2, l.handle), (8, 8, l.launch)]
        if ρ1.isMirror l then ρ1.endLaunch l 8 0 else ρ1.lateLaunch l

/-- A single copy whose header is not the agreed header is a minority copy of that launch (R472, R474): removed from the
launches that wait, with the rods that received it. -/
def splitMinority (l : Launch) (rest : List Launch) : List Launch × List RodId :=
  let odd (m : Launch) : Bool :=
    m.got.length == 1 && l.agreed.isSome && (l.got.any fun a => m.got.any fun b => sameInstance a.2 b.2 && !sameHead a.2 b.2) &&
      m.cmd.isNone && m.fwd.isNone
  (rest.filter fun m => !odd m, (rest.filter odd).flatMap fun m => m.got.map (·.1))

/-- The launches of a sampling instant, in descending class and ascending handle (R235). A vehicle speed among them is the one by
which the safety monitor limits the others (R549, R551). -/
def Rod.launches (ρ : Rod) (ps : RodId → Rod) : Rod :=
  let cls (l : Launch) : Nat := match ρ.byHandle l.handle with
    | some (_, e) => e.args.cls
    | none => 0
  let le (a b : Launch) : Bool := decide (cls b < cls a) || (cls a == cls b && decide (a.handle ≤ b.handle))
  let order := ρ.ct.wait.foldl (fun acc l => insertBy le l acc) []
  let (kept, odd) := order.foldl (fun (acc : List Launch × List (Nat × List RodId)) l =>
    let (rest, rods) := splitMinority l acc.1
    (rest, if rods.isEmpty then acc.2 else acc.2 ++ [(l.handle, rods)])) (order, [])
  let ρ1 := (ρ.modCt fun c => { c with wait := [] }).each odd fun o q => q.minority o.1 o.2
  let trial := ρ1.each kept fun l q => q.resolve ps l
  let ρ2 := ((ρ1.sp (inputW 0 8) (trial.sg (inputW 0 8))).p Fl.SF_PROF_VS_STALE (trial.g Fl.SF_PROF_VS_STALE)).modSf fun f =>
    { f with vsFt := trial.sf.vsFt }
  ρ2.each kept fun l q => q.resolve ps l

/-- A frame in a buffer that is the own source of a stream contract (R159, R233). -/
def Rod.streamFrame (ρ : Rod) (buf : Nat) (bytes : List Byte) : Rod :=
  ρ.each ρ.ct.ledger fun e q =>
    let s := e.2.args.src.get ρ.me.idx
    if isStream e.2.args.kind = true ∧ epType s = 1 ∧ epBuf s = buf ∧ (e.2.state = leActive ∨ e.2.state = leNotice) then
      if leAt bytes 8 2 ≠ e.2.handle.toNat then q.lateEntry e.2.handle.toNat
      else
        let d := e.2.args.dst.e0
        q.ownCopy { launch := BitVec.ofNat 64 (leAt bytes 0 8), handle := e.2.handle, seq := BitVec.ofNat 16 (leAt bytes 10 2)
                    axis := if e.2.args.kind = kSetpoint then axisOf (epAxis d) else 0
                    first := if e.2.args.kind = kSetpoint then epFirst d else 0
                    vals := leWords e.2.args.count (bytes.drop 12) } none none
    else q

/-- A partner's copy (R471). -/
def Rod.partnerCopy (ρ : Rod) (src : RodId) (c : SetpointCopy) : Rod :=
  if src = ρ.me then ρ else ρ.addCopy src c none none

/-- SETPOINT_COPY (R471). -/
def execSetpointCopy (r src : RodId) (copy : SetpointCopy) (s : State) : Host.Outcome State Fault Refusal :=
  onRod s r fun ρ => ρ.partnerCopy src copy

end Sys2Proof.Machine
end

