-- ==== Sys2Proof/Machine/Resets.lean ====
section
/-! DEFINITION. Resets and power of the rod's blocks (spec/17_clocks.md, spec/18_power_states.md, R187): what a reset
clears, which clock domains run, the votes for the power domains and their sequencing, and the safe outputs of R577. -/

namespace Sys2Proof.Machine

/-- Maintenance access closes to L0 (R633): cause 1 mode, 2 CLOSE, 3 idle, 4 reset. -/
def Rod.closeAccess (ρ : Rod) (cause : Nat) : Rod :=
  if ρ.g Fl.SEC_STAT_LEVEL = 0 then ρ
  else ((ρ.p Fl.SEC_STAT_LEVEL 0).irq 0x004 0).flt 0x0421 sevInfo 0x004 [(0, 1, cause)]

/-- Whether a clock domain runs (CLK_STAT.RUN). -/
def Rod.clkOn (ρ : Rod) (d : Nat) : Bool := ρ.bitOf Fl.CLK_STAT_RUN d

def Rod.modFr (ρ : Rod) (f : FrS → FrS) : Rod := { ρ with fr := f ρ.fr }

/-! ### FlexRay protocol operation control -/

/-- The states of FR_STAT.POC. -/
def Poc.config : Nat := 1
def Poc.ready : Nat := 2
def Poc.wakeup : Nat := 3
def Poc.startup : Nat := 4
def Poc.active : Nat := 5
def Poc.passive : Nat := 6
def Poc.halt : Nat := 7

def Rod.poc (ρ : Rod) : Nat := ρ.g Fl.FR_STAT_POC

/-- The controller changes its state (R182, record 0x0601). -/
def Rod.setPoc (ρ : Rod) (p : Nat) : Rod :=
  if ρ.poc = p then ρ
  else ((ρ.p Fl.FR_STAT_POC p).irq 0x030 0).flt 0x0601 sevInfo 0x030 [(0, 1, p), (1, 1, ρ.poc)]

/-- CONFIG: the configuration in force is applied (R142, R146). -/
def Rod.pocConfig (ρ : Rod) : Rod :=
  if ρ.clkOn 2 then (ρ.modFr fun f => { f with clash := false, trying := false, waking := false, p2a := 0 }).setPoc Poc.config else ρ

/-- RUN, with ALLOW_COLDSTART for a coldstart node (R142, R166, R176): from config, and from ready unless a key slot clash holds the
controller there (R168). A controller that already runs goes on. -/
def Rod.pocRun (ρ : Rod) : Rod :=
  if ρ.clkOn 2 && (ρ.poc == Poc.config || (ρ.poc == Poc.ready && !ρ.fr.clash)) && decide (RS.sync ≤ ρ.state) then
    let ρ1 := (((ρ.setPoc Poc.ready).setPoc Poc.startup).p Fl.FR_STAT_WAKE_RX_A 0).p Fl.FR_STAT_WAKE_RX_B 0
    let ρ2 := ((ρ1.p Fl.FR_COLD_COLL 0).p Fl.FR_COLD_ATT_LEFT
      (if ρ1.b Fl.FR_MODE_COLDSTART then ρ1.g Fl.FR_START_COLD_ATT else 0)).p Fl.FR_STAT_LEADER 0
    (ρ2.p Fl.FR_SYNC_NOCORR 0).modFr fun f => { f with tries := 0, trying := false, p2a := 0, join := none }
  else ρ

/-- A commit of group 0, or RESTART, takes the controller through config and restarts integration (R146, R174). -/
def Rod.pocRestart (ρ : Rod) : Rod := ρ.pocConfig.pocRun

/-- PD_FRY has come up: config from BOOT on, RUN from SYNC on (R142). -/
def Rod.pocPower (ρ : Rod) : Rod := if RS.boot ≤ ρ.state then ρ.pocRestart else ρ

/-! ### Resets and power -/

/-- Clears the registers and shadows of the pages that satisfy `f`. -/
def Rod.clearPages (ρ : Rod) (f : Nat → Bool) : Rod :=
  let keep (l : Sparse Word) : Sparse Word := l.filter fun e => !f (e.1 / 0x1000)
  { ρ with regs := keep ρ.regs, shadow := keep ρ.shadow, hiCap := keep ρ.hiCap, loPend := keep ρ.loPend
           armed := ρ.armed.filter fun e => !f e.1, cmtReq := ρ.cmtReq.filter fun p => !f p }

/-- CLK_STAT.RUN follows the sources and the power domains (Tables 17.3 and 17.7). (DEDUCED, log entry 77) -/
def Rod.clkRun (ρ : Rod) : Rod :=
  let a := ρ.b Fl.CLK_STAT_PLL_A_LOCK
  let b := ρ.b Fl.CLK_STAT_PLL_B_LOCK
  let pw (d : Nat) : Bool := ρ.bitOf Fl.PWR_STAT_PWR_OK d
  ρ.p Fl.CLK_STAT_RUN
    (b2n a + 2 * b2n (a && pw 2) + 4 * b2n (a && pw 3) + 8 * b2n (b && pw 1) + 16 * b2n (b && pw 1) +
      32 * b2n (b && pw 4) + 64 * b2n (pw 0 && (ρ.b Fl.CLK_STAT_REF_OK || a)) + 128 * b2n a + 256 * b2n (a && pw 5) +
      512 * b2n (ρ.b Fl.CLK_STAT_RC_OK) + 4096 * b2n a)

/-- What X_CKO puts out (R583, R585): the source, the cycles of a period and those of its high phase; none where it stays low: EN
at 0, rod state OFF, or a domain clock that is stopped. WAK and TCK run as the host and the tester drive them. -/
def Rod.cko (ρ : Rod) : Option (Nat × Nat × Nat) :=
  let src := ρ.g Fl.CKO_CFG_SRC
  let n := ρ.g Fl.CKO_CFG_DIV + 1
  if ρ.b Fl.CKO_CFG_EN && ρ.state != RS.off && (src == 10 || src == 11 || ρ.clkOn src) then some (src, n, (n + 1) / 2) else none

/-- The level of X_CKO in cycle `k` of a period of its output. -/
def Rod.ckoLevel (ρ : Rod) (k : Nat) : Ball :=
  match ρ.cko with
  | some (_, n, high) => if k % n < high then .high else .low
  | none => .low

/-- The output changes without a glitch (R585): an output that ran is held low after its high phase, and the new one starts with a
high phase. -/
def Rod.ckoChange (ρ old : Rod) : Rod :=
  if ρ.cko = old.cko then ρ
  else (ρ.when old.cko.isSome (·.send (.cko none))).when ρ.cko.isSome (·.send (.cko ρ.cko))

/-- What stops or starts clocks shows at X_CKO as well (R585). -/
def Rod.ckoAfter (ρ : Rod) (f : Rod → Rod) : Rod := (f ρ).ckoChange ρ

/-- The safe outputs of R577: gates high-Z, X_KHS off, X_PARK released, through the clockless path. -/
def Rod.safeOutputs (ρ : Rod) : Rod :=
  let ρ1 := ρ.coil false
  { ρ1 with md := { ρ1.md with hold := true, park := false } }

/-- The drive die loses power: its latches clear and its fence switches open (R430, R490). -/
def Rod.driveDieOff (ρ : Rod) : Rod :=
  { ρ with die := Die.init, hb := Tri.rep (Tri.rep Hb.init) }

/-- FT takes another value without time passing (R121, and the reset value of FT_LO and FT_HI): the instants from which a duration
is still being measured move with it. (DESIGN CHOICE, log entry 57) -/
def Rod.moveFt (ρ : Rod) (n : Nat) : Rod :=
  let q := { ρ with ftn := n }
  let at_ (t : Nat) : Nat := t + q.ft - ρ.ft
  { q with
    otp := { ρ.otp with lockEnd := ρ.otp.lockEnd.map at_ }, sf := { ρ.sf with offFt := ρ.sf.offFt.map at_ }
    sec := { ρ.sec with useFt := at_ ρ.sec.useFt, chalFt := at_ ρ.sec.chalFt }
    die := { ρ.die with lastChop := ρ.die.lastChop.map at_ }, fr := { ρ.fr with lostFt := at_ ρ.fr.lostFt } }

/-- A reset of the logic die (R577, R580, R596, R604): everything but AON, the flash and what is the drive die's own. The
supervisor's SMN pages survive where `keepSmn` says so, and so does a record that this command has still to write.
(DESIGN CHOICE, log entries 4, 57, 65) -/
def Rod.coreReset (ρ : Rod) (keepSmn : Bool) : Rod :=
  let aonKeep (a : Nat) : Bool := a == Rg.PWR_CFG || a == Rg.LAST_WAKE || a == Rg.PWR_EVT || a == Rg.ID_OPH
  let smn (p : Nat) : Bool := p == 0x002 || p == 0x003 || p == 0x0C0 || p == 0x0C1
  let keep (a : Nat) : Bool := aonKeep a || (keepSmn && smn (a / 0x1000))
  let ρ0 := ((ρ.safeOutputs).closeAccess 4).moveFt 0
  { Rod.init ρ.me with
    ftn := ρ0.ftn, regs := ρ0.regs.filter fun e => keep e.1, out := ρ0.out, fresh := ρ0.fresh, recBuf := ρ0.recBuf
    flash := ρ0.flash, aon := ρ0.aon, otp := ρ0.otp, hb := ρ0.hb, die := ρ0.die, slots := ρ0.slots
    sf := if keepSmn then ρ0.sf else { SafS.init with offFt := ρ0.sf.offFt } }

/-- The endpoint resets (R187): what is left is of the SYS domain: forwarded commands of the partners, the requests for ranks that
no queue made, and the arbiter, but for the requests of queues and DMA channels. -/
def Rod.endpointReset (ρ : Rod) : Rod :=
  let k := ρ.hp
  { ρ with
    pba := 0#64
    hp := { HpS.init with
      fwd := k.fwd, owed := k.owed, sup := k.sup, ranks := k.ranks.filter fun e => decide (16 ≤ e.2)
      pend := k.pend / 2 ^ 20 * 2 ^ 20, urgent := k.urgent / 2 ^ 20 * 2 ^ 20, lastU := k.lastU, lastN := k.lastN
      grant := k.grant.filter fun g => decide (20 ≤ g.1) } }

/-- The endpoint goes down (R187, R188): its pages reset, queue pairs disabled, resources released; record 0x0501. The link itself
stays up through an FLR. -/
def Rod.endpointDown (ρ : Rod) (cause : Nat) : Rod :=
  let ρ0 := (ρ.each (List.range 16) fun q r => r.stopQp q false).when (cause != 4) (·.p Fl.LINK_STAT_UP 0)
  ((ρ0.clearPages fun p => decide (0x010 ≤ p ∧ p ≤ 0x01F)).endpointReset).flt 0x0501 sevWarn 0x021 [(0, 1, cause)]

/-- The reaction of a link-down that no pin caused (R576, R594). -/
def Rod.endpointLost (ρ : Rod) : Rod := ρ.endpointDown 2

/-- What a switchable domain loses with its power (R589, R668), LOCK, ERRCAP_0 and ERRCAP_1 of its pages included.
(DESIGN CHOICE, log entries 5, 65) -/
def Rod.domainReset (ρ : Rod) (d : Nat) : Rod :=
  let ρ1 := ρ.clearPages fun p => (pageInfo p).any fun i => i.power == some d
  match d with
  | 0 => (((ρ.each (List.range 16) fun q r => r.stopQp q false).clearPages fun p =>
      (pageInfo p).any fun i => i.power == some d).p Fl.LINK_STAT_UP 0).endpointReset
  | 1 => { ρ1 with pwm := PwmS.init, tb := TimeB.init }.moveFt 0
  | 2 => { ρ1 with rk := { RkS.init with setOn := ρ.rk.setOn, setEff := ρ.rk.setEff, setFt := ρ.rk.setFt
                                         pSet := ρ.rk.pSet, pEff := ρ.rk.pEff, pFt := ρ.rk.pFt, lead := ρ.rk.lead, gone := ρ.rk.gone }
                   ls := { ρ1.ls with shad := [], stage := [], sums := [] } }
  | 3 => { ρ1 with fr := FrS.init }
  | 4 => { ρ1 with fb := Tri.rep Fb.init }
  | _ => ρ1

/-- The voters of the mask fields of PWR_VOTES, in the order of record 0x0302. (DEDUCED, log entry 39) -/
def Rod.voters (ρ : Rod) (d : Nat) : Nat :=
  b2n (ρ.bitOf Fl.PWR_VOTES_HOST d) + 2 * b2n (ρ.bitOf Fl.PWR_VOTES_SUP d) + 4 * b2n (ρ.bitOf Fl.PWR_VOTES_NET d) +
    8 * b2n (ρ.bitOf Fl.PWR_VOTES_PEER d) + 16 * b2n (ρ.bitOf Fl.PWR_VOTES_SAFE d)

/-- Whether any vote for a domain is held (R590). (DEDUCED, log entry 39) -/
def Rod.voted (ρ : Rod) (d : Nat) : Bool := ρ.voters d != 0

/-- One domain at a time powers up in the order of Table 18.1, or down in the reverse order (R590, R592, R593). -/
def Rod.pwrSeq (ρ : Rod) : Rod :=
  if ρ.g Fl.PWR_STAT_UP ≠ 0 ∨ ρ.g Fl.PWR_STAT_DOWN ≠ 0 then ρ
  else
    let ds := [0, 1, 2, 3, 4, 5]
    match (ds.reverse.filter fun d => ρ.bitOf Fl.PWR_STAT_PWR_OK d && !ρ.voted d).head? with
    | some d =>
      ((((ρ.clrBit Fl.PWR_STAT_PWR_OK d).setBit Fl.PWR_STAT_DOWN d).domainReset d).irq 0x003 0).clkRun
    | none =>
      match (ds.filter fun d => !ρ.bitOf Fl.PWR_STAT_PWR_OK d && ρ.voted d).head? with
      | some d => ρ.setBit Fl.PWR_STAT_UP d
      | none => ρ

/-- Whether the rod is on its way into DORMANT (R103, R596). -/
def Rod.toDormant (ρ : Rod) : Bool := ρ.mode == SM.dormant && ρ.md.modeFt != 0

/-- The votes of Table 18.2, and the sequencing they start. (DEDUCED, log entry 39) -/
def Rod.voteUpdate (ρ : Rod) : Rod :=
  let up := decide (RS.boot ≤ ρ.state) && !ρ.toDormant
  let sup := if up then
      b2n (ρ.b Fl.PWR_CFG_PCI_USED) + 0x1E + 32 * b2n (ρ.b Fl.TD_CFG_EN)
    else 0
  let net := if up && (ρ.b Fl.FR_MODE_SYNC || ρ.b Fl.FR_MODE_COLDSTART) then 8 else 0
  let peer := if up && ρ.me.partners.any (fun r => decide (RS.ready ≤ ρ.seen r) && ρ.tb.takes.get r.idx) then 0xA else 0
  let safe := if SM.arming ≤ ρ.mode then 0x12 else 0
  (((((ρ.p Fl.PWR_VOTES_HOST (ρ.g Fl.PWR_HOST_VOTE)).p Fl.PWR_VOTES_SUP sup).p Fl.PWR_VOTES_NET net).p
    Fl.PWR_VOTES_PEER peer).p Fl.PWR_VOTES_SAFE safe).pwrSeq

end Sys2Proof.Machine
end

