-- ==== Sys2Proof/Machine/Redundancy.lean ====
section
/-! DEFINITION. Rod redundancy (spec/14_rod_redundancy.md): the authority epoch, copies and messages between rods,
judgements and removal, the fence switches, switch-over, split control, REJOIN and tandem pairs. What a rod learns of its
partners over the carry links is read from `ps`, the rods as they are. -/

namespace Sys2Proof.Machine

def Rod.modRed (ρ : Rod) (f : RedS → RedS) : Rod := { ρ with red := f ρ.red }

/-! ### System mode as shown -/

/-- A system mode takes effect in the rod (R80, R108 to R110); OPERATE ends the bar of R96. -/
def Rod.setMode (ρ : Rod) (m voters : Nat) : Rod :=
  let prev := ρ.mode
  let ρ1 := ((((ρ.when (prev == SM.standby && m != SM.standby) (·.closeAccess 1)).incMod Fl.SYS_MODE_SEQ).p Fl.SYS_MODE_VOTERS voters).p Fl.SYS_MODE_PREV prev).p Fl.SYS_MODE_MODE m
  let ρ2 := { ρ1 with md := { ρ1.md with modeFt := ρ1.ft, modeUp := ρ1.ck.up, armFenced := ρ1.md.armFenced && m != SM.operate } }
  (ρ2.irq 0x001 0).flt 0x0101 sevInfo 0x001 [(0, 1, m), (1, 1, prev), (2, 1, voters)]

/-! ### Leads -/

/-- The rods after a rod in the order X, Y, Z, X (R492). -/
def after : RodId → List RodId
  | .x => [.y, .z]
  | .y => [.z, .x]
  | .z => [.x, .y]

/-- The default lead of an axis (R30). -/
def defaultLead (n : Axis) : RodId := RodId.ofCode n.val

/-- The lead that Arver placement chooses among rods (R256). -/
def Rod.arverLead (ρ : Rod) (n : Axis) (among : List RodId) : Option RodId :=
  let load (r : RodId) : Nat := (allAxes.filter fun m => m != n && ρ.rk.lead.get m == r).length
  let best := (among.map load).foldl min 3
  let ties := among.filter fun r => load r == best
  if ties.contains (defaultLead n) then some (defaultLead n) else ties.head?

/-- The new lead of an axis after `old` (R492, R256). -/
def Rod.nextLead (ρ : Rod) (n : Axis) (old : RodId) : Option RodId :=
  let sound := (after old).filter (ρ.healthy n)
  if ρ.b Fl.CT_CFG_PLACEMENT then ρ.arverLead n (allRods.filter sound.contains) else sound.head?

/-- Record 0x0730: the leads Arver placement chose, at ARMING 1 or a switch-over 2. -/
def Rod.arverRecord (ρ : Rod) (cause : Nat) : Rod :=
  ρ.when (ρ.b Fl.CT_CFG_PLACEMENT) (·.flt 0x0730 sevInfo 0x050 [(0, 1, ρ.leadsWord.toNat), (1, 1, cause)])

/-- The lead of an axis passes on (R492, R493, R496). The pending copy of the old lead is discarded unless planned; the new lead
runs its OUTER block at once, or, planned, at its regular tick. -/
def Rod.passLead (ρ : Rod) (n : Axis) (old new : RodId) (planned : Bool) : Rod :=
  let k := ρ.rk
  let mine := new == ρ.me
  let ρ1 := { ρ with rk := { k with
      lead := k.lead.set n new
      pend := if planned then k.pend else k.pend.set n []
      ready := if planned then k.ready else k.ready.set n false
      swRun := if mine && !planned then k.swRun.set n (some old) else k.swRun.set n none
      swCopy := if planned || mine then k.swCopy.set n none else k.swCopy.set n (some old) } }
  let ρ2 := ρ1.modRed fun d => { d with expect := d.expect.set n false, copyIn := d.copyIn.set n false
                                        tqBad := d.tqBad.set n 0, tqLast := d.tqLast.set n none }
  if mine then
    let first := ρ2.ft + (if planned then ρ2.divisor n else 1) * ρ2.tickNow / 2
    ρ2.fltA 0x0C20 sevInfo 0x0A0 n [(0, 1, n.val), (1, 1, old.code), (2, 1, new.code), (3, 1, b2n planned),
      (4, 2, ρ2.g Fl.CR_EPOCH_EPOCH), (8, 8, first)]
  else ρ2

/-- At ARMING entry Arver placement chooses the lead of every axis anew, in axis order (R256), among the live rods whose set is
connected and on; an axis without one keeps its lead. (DEDUCED, log entry 79) -/
def Rod.arverArm (ρ : Rod) : Rod :=
  if ρ.b Fl.CT_CFG_PLACEMENT = false then ρ
  else
    let pick (acc : List (Axis × RodId)) (n : Axis) : List (Axis × RodId) :=
      let load (r : RodId) : Nat := (acc.filter fun e => e.2 == r).length
      let on (r : RodId) : Bool := if r = ρ.me then ρ.rk.setOn.get n else (ρ.rk.pSet.get r.idx).get n
      let fit := allRods.filter fun r => ρ.live r && ρ.connected r n && on r
      let best := (fit.map load).foldl min 3
      let ties := fit.filter fun r => load r == best
      match if ties.contains (defaultLead n) then some (defaultLead n) else ties.head? with
      | some r => acc ++ [(n, r)]
      | none => acc
    (ρ.each (allAxes.foldl pick []) fun e q => { q with rk := { q.rk with lead := q.rk.lead.set e.1 e.2 } }).arverRecord 1

/-- Every axis that a rod leads passes to a new lead, where one is healthy. -/
def Rod.passLeads (ρ : Rod) (old : RodId) : Rod :=
  let axes := allAxes.filter fun n => ρ.rk.lead.get n == old
  let ρ1 := ρ.each axes fun n q =>
    match q.nextLead n old with
    | none => q
    | some r => q.passLead n old r false
  ρ1.when (!axes.isEmpty) (·.arverRecord 2)

/-! ### Epoch -/

/-- Whether epoch a is later than b (R478). -/
def laterEpoch (a b : Nat) : Bool :=
  let d := (a + 65536 - b) % 65536
  decide (1 ≤ d) && decide (d ≤ 32767)

/-- The epoch advances by 1 (R476). -/
def Rod.advanceEpoch (ρ : Rod) : Rod := (ρ.incMod Fl.CR_EPOCH_EPOCH).irq 0x0A0 2

/-- The latest valid epoch of the live partners. -/
def Rod.latestEpoch (ρ : Rod) : Option Nat :=
  ((ρ.me.partners.filter ρ.live).filterMap fun p => ρ.red.epochs.get p.idx).foldl
    (fun acc e => match acc with
      | none => some e
      | some a => some (if laterEpoch e a then e else a)) none

/-- Removals the rod itself has decided and not yet made effective. (DEDUCED, log entry 26) -/
def Rod.removalsDue (ρ : Rod) : Nat := (ρ.red.due.list.filter (·.isSome)).length

/-- The epoch a frame of a partner carries (R478, R497): a later valid epoch fences the rod, in UPDATE excepted.
(DEDUCED, log entry 26) -/
def Rod.seeEpoch (ρ : Rod) (src : RodId) (e : Epoch) : Rod :=
  if e.valid = false ∨ src = ρ.me then ρ
  else
    let n := e.num.toNat
    let own := ρ.g Fl.CR_EPOCH_EPOCH
    let ρ1 := ρ.modRed fun d => { d with epochs := d.epochs.set src.idx (some n) }
    if ρ.red.holds && (ρ.state == RS.ready || ρ.state == RS.active || ρ.state == RS.rejoin) &&
        laterEpoch n ((own + ρ.removalsDue) % 65536) then
      (((ρ1.flt 0x0C12 sevWithdraw 0x0A0 [(2, 2, own), (4, 2, n)]).passLeads ρ.me).fence).p Fl.RJ_STAT_RUN 0
    else ρ1

/-- A message with a stale epoch, or from a rod that does not lead, is discarded (R477). -/
def Rod.staleMsg (ρ : Rod) (src : RodId) (num : Nat) : Rod :=
  let ρ1 := ρ.inc Fl.CR_CNT_STALE
  if ρ.red.stale.contains (src, num) then ρ1
  else
    (ρ1.modRed fun d => { d with stale := d.stale ++ [(src, num)] }).flt 0x0C33 sevWarn 0x0A0 [(0, 1, src.code), (2, 2, num)]

/-- Receives a message under R477: `lead` asks that the sender leads the axis. (DEDUCED, log entry 25) -/
def Rod.accept (ρ : Rod) (src : RodId) (e : Epoch) (lead : Option Axis) (f : Rod → Rod) : Rod :=
  if src = ρ.me then ρ
  else
    let ρ1 := ρ.seeEpoch src e
    let ok := e.valid && e.num.toNat == ρ1.g Fl.CR_EPOCH_EPOCH && ρ1.red.holds &&
      (match lead with
        | none => true
        | some n => ρ1.rk.lead.get n == src)
    if ok then f ρ1 else ρ1.staleMsg src e.num.toNat

/-! ### Fence switches -/

/-- Whether the own switch that serves a partner is closed (R490). -/
def Rod.closedFor (ρ : Rod) (p : RodId) : Bool := p != ρ.me && RS.serving ρ.state && !ρ.red.shut.get p.idx

/-- FENCE_STAT as read (Table 14.8). -/
def Rod.fenceStat (ρ : Rod) : Word :=
  (ρ.gw Rg.FENCE_STAT &&& 0x8000FFFF#32) ||| BitVec.ofNat 32 (2 ^ 16 * rodMask (allRods.filter ρ.closedFor))

/-- CR_STAT as read: LIVE shows the rods live in this view (Table 14.8). -/
def Rod.crStat (ρ : Rod) : Word := (ρ.gw Rg.CR_STAT &&& 0xF7000000#32) ||| BitVec.ofNat 32 (2 ^ 16 * rodMask ρ.liveRods)

/-! ### Judgements and removal -/

/-- The removal falls due at the tick after the later judgement (R487); `order` sends the removal order (R488). -/
def Rod.dueRemoval (ρ : Rod) (s : RodId) (tick kind : Nat) (order : Bool) : Rod :=
  match ρ.red.due.get s.idx with
  | some _ => ρ
  | none =>
    (ρ.modRed fun d => { d with due := d.due.set s.idx (some ((tick + 1) % 2 ^ 32, kind)) }).when order
      (·.send (.removalOrder s))

/-- The later of two tick numbers. -/
def laterTick (a b : Nat) : Nat := if (a + 2 ^ 32 - b) % 2 ^ 32 < 2 ^ 31 then a else b

/-- With the own and the live third rod's judgement held, the partner is to be removed (R487, R488). -/
def Rod.considerRemoval (ρ : Rod) (s : RodId) : Rod :=
  match ρ.red.judged.get s.idx, ρ.red.heard.get s.idx with
  | some (k, t), some (_, u) => ρ.when (ρ.live (ρ.me.third s)) (·.dueRemoval s (laterTick t u) k true)
  | _, _ => ρ

/-- A partner is judged (R482, R490, R517): recorded, told to the other partner, the own switch opened. (DEDUCED, log entry 22) -/
def Rod.judge (ρ : Rod) (s : RodId) (kind axis : Nat) : Rod :=
  if s = ρ.me ∨ (ρ.red.judged.get s.idx).isSome = true then ρ
  else
    let ρ1 := (ρ.modRed fun d => { d with judged := d.judged.set s.idx (some (kind, ρ.tick)), shut := d.shut.set s.idx true })
    let ρ2 := (((ρ1.setBit Fl.CR_JUDGE_JUDGED s.code).p Fl.CR_JUDGE_KIND kind).irq 0x0A0 0).fltAP 0x0C10 sevWarn 0x0A0 (axisByte axis) 0xFF
      [(0, 1, s.code), (1, 1, kind), (2, 1, axis)]
    (ρ2.send (.judgement ⟨s, kind, axis, BitVec.ofNat 32 ρ.tick⟩)).considerRemoval s

/-- The role safe state of each armed axis that no rod holds authority for any more, at once and without a tick (R79, R105).
(DEDUCED, log entry 66) -/
def Rod.asyncSafe (ρ : Rod) : Rod :=
  if RS.serving ρ.state && (ρ.mode == SM.arming || ρ.mode == SM.operate || ρ.mode == SM.limp) then
    ρ.each allAxes fun n q => if q.axisArmed n && q.healthyMask n == 0 && !q.md.safeAx.get n then q.applySafe n else q
  else ρ

/-- A judgement of the third rod arrives (R482, R487). -/
def Rod.heardJudgement (ρ : Rod) (src : RodId) (m : JudgeMsg) : Rod :=
  if src = ρ.me ∨ m.judged = ρ.me ∨ m.judged = src then ρ
  else
    (ρ.modRed fun d => { d with heard := d.heard.set m.judged.idx (some (m.kind, m.tick.toNat)) }).considerRemoval m.judged

/-- A withdrawal notice: kind 5 removes on its own (R487). -/
def Rod.withdrawn (ρ : Rod) (src : RodId) (tick : Nat) : Rod :=
  if src = ρ.me ∨ RS.serving ρ.state = false then ρ else (ρ.judge src 5 0xFF).dueRemoval src tick 5 false

/-- A removal takes effect at cycle 0 of its tick (R487, R492); an axis that loses its last authority by it takes its safe state at
once (R105). -/
def Rod.removal (ρ : Rod) (s : RodId) : Rod :=
  match ρ.red.due.get s.idx with
  | none => ρ
  | some (t, kind) =>
    if 2 ^ 31 ≤ (ρ.tick + 2 ^ 32 - t) % 2 ^ 32 ∨ RS.serving ρ.state = false then ρ
    else
      let ρ1 := (ρ.modRed fun d => { d with due := d.due.set s.idx none, out := d.out.set s.idx true
                                            judged := d.judged.set s.idx none, heard := d.heard.set s.idx none
                                            dqHeard := d.dqHeard.set s.idx false }).advanceEpoch
      let ρ2 := ((ρ1.irq 0x0A0 1).flt 0x0C11 sevDegrade 0x0A0 [(0, 1, s.code), (1, 1, kind), (2, 2, ρ1.g Fl.CR_EPOCH_EPOCH)])
      let ρ3 := { ρ2.setSeen s RS.fenced with rk := { ρ2.rk with gone := ρ2.rk.gone.set s.idx (if kind = 1 then 3 else 2) } }
      (ρ3.passLeads s).asyncSafe

/-- A removal order reaches the safety monitor: with the orders of both partners the rod is fenced (R488).
(DEDUCED, log entry 26) -/
def Rod.removalOrder (ρ : Rod) (src : RodId) : Rod :=
  if src = ρ.me then ρ
  else
    let ρ1 := ρ.modRed fun d => { d with orders := d.orders.set src.idx true }
    if ρ1.me.partners.all (fun p => ρ1.red.orders.get p.idx) ∧ (RS.serving ρ1.state = true ∧ ρ1.state ≠ RS.update) then
      let own := ρ1.g Fl.CR_EPOCH_EPOCH
      let ρ2 := ρ1.flt 0x0C12 sevWithdraw 0x0A0 [(2, 2, own), (4, 2, (own + 1) % 65536)]
      (ρ2.modRed fun d => { d with orders := Tri.rep false }).fence
    else ρ1

/-- Four consecutive ticks without a dq frame: the sets leave, and a judgement of kind 1 is formed (R26, R482), whatever state the
partner has fallen to. Frames are missing only from a partner that has sent some since it last came, and not from one in UPDATE,
whose fence switches stay closed (R504). (DEDUCED, log entry 22) -/
def Rod.dqSilent (ρ : Rod) (src : RodId) : Rod :=
  if src ≠ ρ.me ∧ 4 ≤ ρ.red.missing.get src.idx ∧ RS.serving ρ.state = true ∧ ρ.red.dqHeard.get src.idx = true ∧
      ρ.seen src ≠ RS.update then
    ({ ρ with rk := { ρ.rk with dqOut := ρ.rk.dqOut.set src.idx true, gone := ρ.rk.gone.set src.idx 3 } }).judge src 1 0xFF
  else ρ

/-! ### Copies of the lead -/

/-- Whether T_AX of a copy is implausible (Table 14.1, kind 3). -/
def Rod.tqOff (ρ : Rod) (n : Axis) (t : Int) : Bool :=
  let step := match ρ.red.tqLast.get n with
    | none => false
    | some l => decide ((ρ.g (Fl.TQ_STEP_STEP n.val) : Int) < (t - l).natAbs)
  step || decide (t < -(max 0 (ρ.sg (inputW n.val 7)).toInt)) || decide (max 0 (ρ.sg (inputW n.val 6)).toInt < t)

/-- A torque exchange copy of the lead (R289, R477, R482). (DEDUCED, log entry 24) -/
def Rod.torqueCopy (ρ : Rod) (src : RodId) (m : TorqueCopy) : Rod :=
  ρ.accept src m.epoch (some m.axis) fun q =>
    let n := m.axis
    let pend := copyWords.foldl (fun p w => Sparse.put p w (m.words.getD w 0#32)) []
    let t := (m.words.getD 3 0#32).toInt
    let off := q.tqOff n t
    let bad := if off then q.red.tqBad.get n + 1 else 0
    let q1 := { q with rk := { q.rk with pend := q.rk.pend.set n pend, ready := q.rk.ready.set n true } }
    let q2 := q1.modRed fun d => { d with tqBad := d.tqBad.set n bad, tqLast := d.tqLast.set n (some t) }
    if 2 ≤ bad then q2.judge src 3 n.val else q2

/-- An outer-loop state copy replaces the region only when whole (R291). -/
def Rod.stateCopy (ρ : Rod) (src : RodId) (m : StateCopy) : Rod :=
  ρ.accept src m.epoch (some m.axis) fun q =>
    if m.complete then
      (q.each (m.words.take 128 |>.zip (List.range 128)) fun w r => r.sp (stateW m.axis.val w.2) w.1).modRed fun d =>
        { d with copyIn := d.copyIn.set m.axis true }
    else q

/-- A copy-missed notice (R480). -/
def Rod.copyMissed (ρ : Rod) (src : RodId) (n : Axis) : Rod :=
  if src ≠ ρ.me ∧ ρ.rk.lead.get n = src then ρ.modRed fun d => { d with copyIn := d.copyIn.set n true } else ρ

/-- A set-state message (R343, R477): every rod sends its own, so no lead is asked. (DEDUCED, log entry 25) -/
def Rod.setStateMsg (ρ : Rod) (src : RodId) (m : SetState) : Rod :=
  ρ.accept src m.epoch none fun q =>
    { q with rk := { q.rk with
        pSet := q.rk.pSet.set src.idx ((q.rk.pSet.get src.idx).set m.axis m.on)
        pFt := q.rk.pFt.set src.idx ((q.rk.pFt.get src.idx).set m.axis m.ft.toNat) } }

/-- A pump phase message (R376, R477). -/
def Rod.phaseMsg (ρ : Rod) (src : RodId) (m : PumpPhaseMsg) : Rod := ρ.accept src m.epoch (some m.axis) fun q => q.takePhase m

/-- Whether the lead of an axis is to send a copy each outer cycle: blocks run, and the image has an OUTER trigger for it.
(DEDUCED, log entry 24) -/
def Rod.outerExpected (ρ : Rod) (n : Axis) : Bool :=
  ρ.runsBlocks && !ρ.tandemStandby n && !ρ.waits n && (List.range 4).any fun c => (List.range 8).any fun t =>
    ρ.g (Fl.TRIG_CFG_SRC c t) == 2 && ρ.g (Fl.TRIG_CFG_AXIS c t) == n.val

/-- COPY_SILENT at cycle 0 of an outer-cycle tick (Table 14.1, kind 2). (DEDUCED, log entry 24) -/
def Rod.outerCheck (ρ : Rod) (n : Axis) : Rod :=
  if ρ.outerTick n then
    let lead := ρ.rk.lead.get n
    let exp := ρ.outerExpected n
    let ρ1 := if lead ≠ ρ.me ∧ ρ.red.expect.get n = true ∧ exp = true ∧ ρ.red.copyIn.get n = false ∧ RS.serving (ρ.seen lead) = true
      then ρ.judge lead 2 n.val else ρ
    ρ1.modRed fun d => { d with copyIn := d.copyIn.set n false, expect := d.expect.set n exp }
  else ρ

/-! ### Cross-set residual -/

/-- A residual coefficient RES_K_n_k (Q8.24). -/
def Rod.resK (ρ : Rod) (n k : Nat) : Int := sext 32 (ρ.g (Fl.RES_K_K (8 * n + k)))

/-- Word w of the set of an axis in a list of slot words, as a signed number. -/
def slotVal (l : List Word) (n w : Nat) : Int := (l.getD (4 * n + w) 0#32).toInt

/-- The words of a dq slot in signal memory. -/
def Rod.slotWords (ρ : Rod) (r : RodId) : List Word := ρ.words ((List.range 32).map (slotW r))

/-- Whether a partner's set of an axis is fresh in this tick (FLAGS of its slot). -/
def Rod.setFresh (ρ : Rod) (r : RodId) (n : Axis) : Bool :=
  let w := ρ.sg (slotW r 15)
  wBit w n.val && !wBit w 4

/-- The magnitude m of an axis at this evaluation, in units of 2⁻⁸⁶ (R483). -/
def Rod.residual (ρ : Rod) (n : Axis) : Int :=
  let now (r : RodId) := ρ.slotWords r
  let old (r : RodId) := ρ.red.slots.get r.idx
  let i (r : RodId) (w : Nat) : Int := slotVal (now r) n.val w
  let di (r : RodId) (w : Nat) : Int := slotVal (now r) n.val w - slotVal (old r) n.val w
  let ps := ρ.me.partners.filter fun p => ρ.healthy n p && ρ.setFresh p n
  let sumI (w : Nat) : Int := (ps.map fun p => i p w).sum
  let sumD (w : Nat) : Int := (ps.map fun p => di p w).sum
  let vbar (w : Nat) : Int := (slotVal (now ρ.me) n.val w + slotVal (old ρ.me) n.val w) * 2 ^ 54
  let om := (ρ.sg (0x001C + n.val)).toInt
  let k := ρ.resK n.val
  let s : Int := 2 ^ 31
  let rd := vbar 2 - (k 0 * i ρ.me 0 + k 1 * di ρ.me 0 + k 2 * sumD 0) * s + om * (k 3 * i ρ.me 1 + k 4 * sumI 1)
  let rq := vbar 3 - (k 0 * i ρ.me 1 + k 1 * di ρ.me 1 + k 2 * sumD 1) * s - om * (k 3 * i ρ.me 0 + k 4 * sumI 0 + k 5 * s)
  rd.natAbs + rq.natAbs

/-- One evaluation of the residual unit for an axis (R483, R484). (DEDUCED, log entry 23) -/
def Rod.resEval (ρ : Rod) (n : Axis) : Rod :=
  if ρ.b (Fl.CR_RES_CFG_EN n.val) then
    let win := max 1 (ρ.g (Fl.CR_RES_CFG_RES_WIN n.val))
    let start := ρ.tick % win = 0
    let stale := ρ.me.partners.any fun p => ρ.healthy n p && !ρ.setFresh p n
    let d := ρ.red
    let m := ρ.residual n
    ρ.modRed fun _ =>
      { d with rsum := d.rsum.set n (if start then m else d.rsum.get n + m)
               rticks := d.rticks.set n (if start then 1 else d.rticks.get n + 1)
               rstale := d.rstale.set n (if start then stale else (d.rstale.get n || stale)) }
  else ρ

/-- The end of a residual window (R484). (DEDUCED, log entry 23) -/
def Rod.resWindow (ρ : Rod) (n : Axis) : Rod :=
  let d := ρ.red
  let win := ρ.g (Fl.CR_RES_CFG_RES_WIN n.val)
  if ρ.b (Fl.CR_RES_CFG_EN n.val) = false ∨ d.rticks.get n ≠ win ∨ win = 0 then ρ
  else
    let ρ0 := ρ.modRed fun e => { e with rticks := e.rticks.set n 0 }
    if d.rstale.get n then ρ0
    else
      let big := decide ((ρ.g (Fl.CR_RES_CFG_RES_TH n.val) : Int) * win * 2 ^ 71 < d.rsum.get n)
      let cnt := if big then d.rcount.get n + 1 else 0
      let flag := decide (ρ.g (Fl.CR_RES_CFG_RES_N n.val) ≤ cnt)
      let mean := min 0x7FFF (d.rsum.get n / (win * 2 ^ 71)).toNat
      let ρ1 := (ρ0.p (Fl.RES_VAL_MEAN n.val) mean).modRed fun e => { e with rcount := e.rcount.set n cnt, flag := e.flag.set n flag }
      ρ1.when (flag && !d.flag.get n) (·.irq 0x0A0 6)

/-- The residual flags as the dq frame carries them (R485). -/
def Rod.resMask (ρ : Rod) : Nat := (allAxes.map fun n => b2n (ρ.red.flag.get n) * 2 ^ n.val).sum

/-- The residual judgement of a tick for an axis (R485), on the flags that frames of this tick carry. (DEDUCED, log entry 23) -/
def Rod.resJudge (ρ : Rod) (n : Axis) : Rod :=
  if ρ.red.flag.get n then
    let now (p : RodId) : Bool := ρ.red.missing.get p.idx == 0
    let on (p : RodId) : Bool := ρ.live p && now p && (ρ.red.pflag.get p.idx).testBit n.val
    let ps := ρ.me.partners
    let all3 := ρ.liveRods.length == 3
    match if all3 then ps.find? (fun p => !on p && now p && ps.any fun r => r != p && on r) else none with
    | some s => ρ.judge s 4 n.val
    | none =>
      if (all3 = false ∨ ps.all on) ∧ ρ.red.amb.get n = false then
        let mask := rodMask (allRods.filter fun r => if r = ρ.me then true else on r)
        (ρ.modRed fun d => { d with amb := d.amb.set n true }).fltA 0x0C13 sevWarn 0x0A0 n [(0, 1, n.val), (1, 1, mask)]
      else ρ
  else ρ.modRed fun d => { d with amb := d.amb.set n false }

/-! ### Links and split control -/

/-- The link bit of a partner. -/
def linkF (me p : RodId) : Fld := if linkNo me p = 0 then Fl.CR_STAT_LINK_1 else Fl.CR_STAT_LINK_2

/-- A carry link is lost (R481, R498); one that is not up is reported silent (Table 3.3). Split control is a switch-over of every
axis this rod did not lead (R476, R256). (DESIGN CHOICE, log entry 78) -/
def Rod.carryDown (ρ : Rod) (p : RodId) : Rod :=
  if p = ρ.me then ρ
  else if ρ.linkUp p = false then ρ.modRed fun d => { d with silent := d.silent.set p.idx true }
  else
    let whole := ρ.me.partners.all (fun r => ρ.live r && ρ.linkUp r) && !ρ.b Fl.CR_STAT_RELAY
    let ρ1 := ((((ρ.modRed fun d => { d with silent := d.silent.set p.idx true }).p (linkF ρ.me p) 0).irq 0x0A0 3).flt 0x0C50 sevWarn 0x0A0 [(0, 1, p.code)])
    if ρ1.b Fl.CR_STAT_LINK_1 ∨ ρ1.b Fl.CR_STAT_LINK_2 then
      ρ1.modRed fun d => { d with cutFt := some ρ.ft, whole := whole }
    else if ρ1.state = RS.active ∧ ρ.red.whole = true ∧ ρ.red.cutFt = some ρ.ft then
      (ρ1.flt 0x0C15 sevWithdraw 0x0A0 [(0, 1, p.code)]).withdraw
    else if ρ1.state = RS.active ∧ (ρ1.mode = SM.operate ∨ ρ1.mode = SM.limp) then
      let ρ2 := (ρ1.p Fl.CR_STAT_SPLIT 1).flt 0x0C16 sevDegrade 0x0A0 [(0, 1, p.code)]
      let ρ3 := ρ2.each ρ.me.partners fun r q => q.setSeen r RS.off
      if allAxes.all ρ3.leads then ρ3
      else (ρ3.advanceEpoch.each allAxes fun n q => if q.leads n then q else q.passLead n (q.rk.lead.get n) q.me false).arverRecord 2
    else ρ1

/-- A carry link has completed its alignment; half the round trip of the alignment exchange, in ps, is its transit (R670). -/
def Rod.carryUp (ρ : Rod) (p : RodId) (trip : Nat) : Rod :=
  if p = ρ.me ∨ ρ.linkUp p = true then ρ
  else (((ρ.modRed fun d => { d with silent := d.silent.set p.idx false,
                                     tau := d.tau.set p.idx (trip / 2) }).p (linkF ρ.me p) 1).irq 0x0A0 3).flt 0x0C51 sevInfo 0x0A0 [(0, 1, p.code)]

/-! ### What the rod sees of its partners -/

/-- The state in which a partner is seen (R82): OFF without a path to it (R481), for an unknown UID (R625), or in split control,
which ends with STANDBY alone (R498); FENCED once removed (R487), until it has come back. (DEDUCED, log entry 27) -/
def Rod.seenState (ρ : Rod) (ps : RodId → Rod) (p : RodId) : Nat :=
  let a := (ps p).state
  if !ρ.path ps p || ρ.sec.alien.get p.idx || ρ.b Fl.CR_STAT_SPLIT then RS.off
  else if ρ.red.out.get p.idx && (a == RS.ready || a == RS.active || a == RS.update) then RS.fenced
  else a

/-- The view of one partner, with what follows from it for the fence switch and the sets (R490, R499, R500), and ARM_FAIL for a
check that failed in it (R109). (DEDUCED, log entry 27) -/
def Rod.viewOf (ρ : Rod) (ps : RodId → Rod) (p : RodId) : Rod :=
  let a := ps p
  let was := ρ.seen p
  let st := ρ.seenState ps p
  let i := p.idx
  let back := a.state == RS.rejoin || a.state == RS.off || a.state == RS.boot || a.state == RS.sync
  let step5 := a.state == RS.rejoin && decide (5 ≤ a.g Fl.RJ_STAT_STEP)
  let failed := was == RS.rejoin && a.state == RS.fenced
  let ρ1 := ρ.modRed fun d =>
    { d with out := if back then d.out.set i false else d.out
             shut := if step5 then d.shut.set i false else if failed then d.shut.set i true else d.shut
             consent := if a.state == RS.rejoin && was != RS.rejoin then d.consent.set i none else d.consent
             judged := if step5 then d.judged.set i none else d.judged
             heard := if step5 then d.heard.set i none else d.heard
             upd := d.upd.set i (a.red.upd.get i) }
  let ρ2 := { ρ1 with
    md := { ρ1.md with weld := ρ1.md.weld.set i (a.b Fl.K_STAT_WELDED), failSeen := ρ1.md.failSeen.set i (a.b Fl.ARM_STAT_FAIL) }
    rk := { ρ1.rk with
      gone := if was = RS.active ∧ st ≠ RS.active ∧ ρ1.rk.gone.get i ≠ 3 then ρ1.rk.gone.set i 2 else ρ1.rk.gone
      dqOut := if was ≠ RS.active ∧ st = RS.active then ρ1.rk.dqOut.set i false else ρ1.rk.dqOut
      pSet := if was ≠ RS.active ∧ st = RS.active then ρ1.rk.pSet.set i a.rk.setOn else ρ1.rk.pSet
      pEff := if was ≠ RS.active ∧ st = RS.active then ρ1.rk.pEff.set i a.rk.setOn else ρ1.rk.pEff } }
  (ρ2.setSeen p st).when (a.b Fl.ARM_STAT_FAIL && !ρ.md.failSeen.get i && decide (SM.arming ≤ a.mode)) (·.irq 0x001 3)

/-- The view of both partners, the relay (R481), and a coil that returns through one switch alone (R491).
(DEDUCED, log entry 61) -/
def Rod.view (ρ : Rod) (ps : RodId → Rod) : Rod :=
  let ρ1 := (ρ.each ρ.me.partners fun p q => q.viewOf ps p)
  let ρ2 := match ρ.me.partners with
    | [p, q] =>
      ρ1.p Fl.CR_STAT_RELAY (b2n (ρ1.linkUp p && ρ1.linkUp q && !((ps p).linkUp q && (ps q).linkUp p) &&
        decide (RS.ready ≤ (ps p).state) && decide (RS.ready ≤ (ps q).state)))
    | _ => ρ1
  let state := ρ2.state == RS.ready || ρ2.state == RS.active || ρ2.state == RS.update
  let opened := ρ2.me.partners.filter fun p =>
    RS.serving (ρ2.seen p) && !(ps p).closedFor ρ2.me && ((ps p).red.judged.get ρ2.me.idx).isNone
  let other := ρ2.me.partners.any fun p => (ps p).closedFor ρ2.me
  match if state && ρ2.md.khs && other && !ρ2.red.out.list.any id then opened.head? else none with
  | none => ρ2.modRed fun d => { d with half := false }
  | some p =>
    if ρ2.red.half then ρ2
    else (ρ2.modRed fun d => { d with half := true }).flt 0x0C14 sevWarn 0x0A0 [(0, 1, ρ2.me.code), (1, 1, p.code)]

/-- The next state in which one rod, with its partners in view, has done `f`. (DEDUCED, log entry 61) -/
def onRodV (s : State) (r : RodId) (f : (RodId → Rod) → Rod → Rod) : Host.Outcome State Fault Refusal :=
  onRod s r fun ρ => f s.rod (ρ.view s.rod)

/-! ### SYNC and READY -/

/-- Back to SYNC (R125): FT may step again, the exclusions and the holdover end with the old FT (R118, R119), the own contactor
opens (Table 3.2), a rod that loses its lock is one whose logic die has found a fault of its own (R151), and the supervisor issues
RUN (R142). -/
def Rod.toSync (ρ : Rod) : Rod :=
  let ρ0 := ρ.when (ρ.b Fl.FT_STAT_HOLD) fun q => (q.p Fl.FT_STAT_HOLD 0).irq 0x040 2
  let ρ1 := ρ0.when (ρ0.b Fl.FT_STAT_LOCKED) fun q => (q.p Fl.FT_STAT_LOCKED 0).irq 0x040 0
  let ρ2 := ρ1.when (ρ1.b Fl.FT_STAT_XMOD_OK) fun q => (q.p Fl.FT_STAT_XMOD_OK 0).irq 0x040 4
  let ρ3 := ((ρ2.p Fl.FT_STAT_VALID 0).p Fl.FT_STAT_OUTLIER 0).coil false
  (({ ρ3 with
      tb := { ρ3.tb with good := 0, bad := 0, xmod := 0, expired := false, syncFt := ρ3.ft, excl := Tri.rep false
                         backN := Tri.rep 0, outN := Tri.rep 0 }
      md := { ρ3.md with txOff := true } }).enter RS.sync).pocRun

/-- Whether each carry link is aligned or reported silent (Table 3.3), one to a partner with an unknown UID included (R625).
(DESIGN CHOICE, log entry 78) -/
def Rod.linksKnown (ρ : Rod) : Bool :=
  ρ.me.partners.all fun p => ρ.linkUp p || ρ.red.silent.get p.idx || ρ.sec.alien.get p.idx

/-- START_TIME.BOOT_TIME at the change from start-up to STANDBY, in 10 µs; the spec gives no value above the field's (R108): a free
value. (DESIGN CHOICE, log entry 8) -/
def Rod.bootTime (ρ : Rod) : Rod :=
  let t := ρ.ck.up / 800
  if t ≤ 0xFFFF then ρ.p Fl.START_TIME_BOOT_TIME t else (ρ.free 16).2.p Fl.START_TIME_BOOT_TIME (ρ.free 16).1

/-- A rod that comes back follows the leads that its live partners hold in force (R502). (DEDUCED, log entry 66) -/
def Rod.takeLeads (ρ : Rod) (ps : RodId → Rod) : Rod :=
  match (ρ.me.partners.filter ρ.live).head? with
  | none => ρ
  | some p => { ρ with rk := { ρ.rk with lead := (ps p).rk.lead } }

/-- READY entry (R479): the epoch is taken, and a rod whose partners have run without it is fenced. A rod that comes to
partners in STANDBY takes their mode. -/
def Rod.enterReady (ρ : Rod) (ps : RodId → Rod) : Rod :=
  let lives := ρ.me.partners.filter ρ.live
  let ep := ρ.latestEpoch.getD 0
  let ρ1 := ((ρ.modRed fun d => { d with holds := true, missing := Tri.rep 0,
                                         dqHeard := Tri.rep false }).p Fl.CR_EPOCH_EPOCH ep).awaitCount.takeLeads ps
  let running := lives.any fun p => decide (SM.arming ≤ (ps p).mode)
  let ρ2 := ({ ρ1.startTicks with md := { ρ1.md with txOff := false } }).enter RS.ready
  if running then (ρ2.flt 0x0C12 sevWithdraw 0x0A0 [(2, 2, 0xFFFF), (4, 2, ep)]).fence
  else
    match lives.find? fun p => (ps p).mode == SM.standby with
    | some p => if ρ2.mode = SM.dormant then (ρ2.setMode SM.standby ((ps p).g Fl.SYS_MODE_VOTERS)).bootTime else ρ2
    | none => ρ2

/-- A rod in SYNC whose counting frame is locked becomes READY once both carry links are aligned or reported silent (Table 3.3). -/
def Rod.trySync (ρ : Rod) (ps : RodId → Rod) : Rod :=
  ρ.when (ρ.state == RS.sync && ρ.b Fl.FT_STAT_LOCKED && ρ.linksKnown) (·.enterReady ps)

/-! ### REJOIN -/

/-- A write of RJ_CMD (R499, Table 14.8). -/
def Rod.writeRjCmd (ρ : Rod) (path : Nat) (data : Word) : Rod :=
  if wBits data 8 8 ≠ 0x5A then ρ.errCap 0x0A0 0x6 path 0x50 data
  else if wBit data 0 = true ∧ wBits data 16 2 < 3 then
    ρ.modRed fun d => { d with consent := d.consent.set (RodId.ofCode (wBits data 16 2)).idx (some ρ.ft) }
  else ρ

/-- Consent for a rod: written to every live partner, all within 10 ms of the first (R499). -/
def Rod.consented (ρ : Rod) (ps : RodId → Rod) : Bool :=
  let lives := ρ.me.partners.filter ρ.live
  let ts := lives.filterMap fun p => (ps p).red.consent.get ρ.me.idx
  !lives.isEmpty && ts.length == lives.length &&
  decide (ts.foldl max 0 ≤ ts.foldl min (ts.headD 0) + 10000000)

/-- The PG_CRCs that a join request carries: the axis, drive and Reckoner control pages. -/
def joinPages : List Nat := [0x070, 0x071, 0x072, 0x090, 0x091, 0x092, 0x060]

/-- The versions of the active images. -/
def Rod.versions (ρ : Rod) : List Word :=
  [ρ.g Fl.IMG_FW_VERSION, ρ.g Fl.IMG_CL_VERSION, ρ.g Fl.IMG_SP_VERSION].map (BitVec.ofNat 32)

/-- REJOIN begins (Table 14.3 steps 1 and 2), with the role safe states that hold (R106): `updated` is the image type of a rod
that leaves UPDATE. -/
def Rod.startRejoin (ρ : Rod) (updated : Nat) : Rod :=
  let ep := ρ.latestEpoch.getD (ρ.g Fl.CR_EPOCH_EPOCH)
  let ρ1 := ((((ρ.p Fl.CR_EPOCH_EPOCH ep).p Fl.RJ_STAT_RUN 1).p Fl.RJ_STAT_FAIL 0).p Fl.RJ_STAT_STEP 2).p Fl.RJ_STAT_FCODE 0
  let ρ2 := ρ1.modRed fun d => { d with holds := true, rjFt := ρ.ft, rjData := Tri.rep false, orders := Tri.rep false
                                        judged := Tri.rep none, heard := Tri.rep none, due := Tri.rep none
                                        missing := Tri.rep 0 }
  let ρ2' := { ρ2 with md := { ρ2.md with dis := false, asc := Tri.rep false, txOff := false, armFenced := false } }.enter RS.rejoin
  let ρ3 := (ρ2'.each allAxes fun n q => if q.mode == SM.safe || q.md.safeAx.get n then q.applySafe n else q).flt 0x0C30 sevInfo 0x0A0
    [(2, 2, ep)]
  ρ3.send (.join ⟨BitVec.ofNat 16 ep, joinPages.map fun p => ρ3.gw (Rg.PG_CRC p), ρ3.versions, updated⟩)

/-- A rod that returns takes the mode of its live partners (R78). -/
def Rod.takeMode (ρ : Rod) (ps : RodId → Rod) : Rod :=
  match (ρ.me.partners.filter ρ.live).head? with
  | none => ρ
  | some p => if (ps p).mode = ρ.mode then ρ else ρ.setMode (ps p).mode ((ps p).g Fl.SYS_MODE_VOTERS)

/-- A fenced rod enters REJOIN (R96, R499): a failed step 1 leaves it FENCED. -/
def Rod.rejoinEntry (ρ : Rod) (ps : RodId → Rod) (selfTest : Bool) : Rod :=
  let modes := (ρ.me.partners.filter ρ.live).map fun p => (ps p).mode
  let barred := modes.contains SM.arming || (ρ.md.armFenced && !modes.contains SM.operate && !modes.contains SM.limp)
  if ρ.state ≠ RS.fenced ∨ barred = true ∨ ρ.consented ps = false ∨ ρ.latestEpoch.isNone = true then ρ
  else if selfTest = false ∨ ρ.b Fl.FT_STAT_LOCKED = false then
    ((ρ.p Fl.RJ_STAT_FAIL 1).p Fl.RJ_STAT_STEP 1).flt 0x0C32 sevWarn 0x0A0 [(0, 1, 1), (2, 2, 0)]
  else (((ρ.takeMode ps).takeLeads ps).coil false).startRejoin 0

/-- Whether a partner accepts a join request (Table 14.3 step 2, R638). -/
def Rod.joinOk (ρ : Rod) (req : JoinReq) : Bool :=
  let vs := ρ.versions.zip req.versions
  req.epoch.toNat == ρ.g Fl.CR_EPOCH_EPOCH && req.crcs == joinPages.map (fun p => ρ.gw (Rg.PG_CRC p)) &&
  req.versions.length == 3 &&
  (vs.zip [1, 2, 3]).all fun (v, t) => v.1 == v.2 || t == req.updated

/-- What a partner sends a rejoining rod (Table 14.3 step 3). -/
def Rod.rejoinCopy (ρ : Rod) : RejoinData :=
  let st (n : Nat) := ρ.words ((List.range 128).map (stateW n))
  let tq (n : Nat) := ρ.words ((List.range 16).map (torqueW n))
  { ledger := ρ.ct.ledger, gens := ρ.ct.gens, state := ⟨st 0, st 1, st 2⟩, torque := ⟨tq 0, tq 1, tq 2⟩
    pump := ⟨ρ.pumpPhase 0, ρ.pumpPhase 1, ρ.pumpPhase 2⟩ }

/-- A join request at a partner: answered, and on acceptance followed by the copies. -/
def Rod.joinRequest (ρ : Rod) (src : RodId) (req : JoinReq) : Rod :=
  let ρ1 := ρ.seeEpoch src ⟨req.epoch, true⟩
  if ρ1.joinOk req then (ρ1.send (.joinAnswer src true)).send (.rejoinData src ρ1.rejoinCopy)
  else ρ1.send (.joinAnswer src false)

/-- The copies of a partner (Table 14.3 step 3); with those of every live partner, step 5 begins and the coil is commanded on. -/
def Rod.takeRejoin (ρ : Rod) (src : RodId) (d : RejoinData) : Rod :=
  if ρ.state ≠ RS.rejoin ∨ src = ρ.me ∨ 5 ≤ ρ.g Fl.RJ_STAT_STEP then ρ
  else
    let ρ1 := (ρ.modCt fun c => { c with
        ledger := d.ledger, gens := d.gens, order := d.ledger.foldl (fun m e => max m (e.2.order + 1)) 0 }).showCt
    let ρ1 := ρ1.p Fl.CT_STAT_CAP ρ1.capacity
    let ρ2 := ρ1.each allAxes fun n q0 =>
      let q := { q0 with rk := { q0.rk with idBase := q0.rk.idBase.set n ((d.torque.get n).getD 4 (q0.rk.idBase.get n)) } }
      let q1 := q.each ((d.state.get n).take 128 |>.zip (List.range 128)) fun w r => r.sp (stateW n.val w.2) w.1
      let q2 := q1.each ((d.torque.get n).take 16 |>.zip (List.range 16)) fun w r => r.sp (torqueW n.val w.2) w.1
      if q2.isPump n then
        { q2.p (Fl.PMP_STAT_PHASE n.val) (d.pump.get n) with
          md := { q2.md with safeAx := if d.pump.get n = PP.fault then q2.md.safeAx.set n true else q2.md.safeAx } }
      else q2
    let ρ3 := (ρ2.modRed fun e => { e with rjData := e.rjData.set src.idx true }).p Fl.RJ_STAT_STEP 3
    if (ρ3.me.partners.filter ρ3.live).all (fun p => ρ3.red.rjData.get p.idx) then
      (ρ3.p Fl.RJ_STAT_STEP 5).coil true
    else ρ3

/-- The park-hold output in OPERATE and LIMP (Table 3.1): held for an armed BRAKE axis by an ACTIVE rod, with no BRAKE axis in its
safe state (R104). -/
def Rod.holdPark (ρ : Rod) : Rod :=
  let brakes := allAxes.filter fun n => ρ.role n == roleBrake
  { ρ with md := { ρ.md with
      park := ρ.state == RS.active && brakes.any ρ.axisArmed && brakes.all fun n => !ρ.md.safeAx.get n } }

/-- The last step of REJOIN (step 7): ACTIVE as a follower of every axis (R502), with the contactor and the park-hold output as the
system mode has them (Tables 3.1 and 3.2); in SAFE the contactor opens again (R106). (DEDUCED, log entry 66) -/
def Rod.rejoinDone (ρ : Rod) : Rod :=
  if ρ.state = RS.rejoin ∧ ρ.g Fl.RJ_STAT_STEP = 7 then
    let us := (ρ.ft - ρ.red.rjFt) / 1000
    let ρ1 := (((ρ.p Fl.RJ_STAT_RUN 0).enter RS.active).irq 0x0A0 4).flt 0x0C31 sevInfo 0x0A0 [(4, 4, us)]
    (ρ1.when (ρ1.mode == SM.operate || ρ1.mode == SM.limp) (·.holdPark)).when (ρ1.mode == SM.safe) (·.coil false)
  else ρ

/-- REJOIN not complete within 150 ms (R500). -/
def Rod.rejoinTimeout (ρ : Rod) : Rod := if ρ.state = RS.rejoin ∧ ρ.passed ρ.red.rjFt 150000000 = true then ρ.rejoinFail 0 else ρ

/-! ### Tandem pairs -/

/-- Entry to ARMING: tandem epoch 1, module 0 active (R506). -/
def Rod.tandemArm (ρ : Rod) : Rod :=
  if ρ.b Fl.TD_CFG_EN then
    ((ρ.p Fl.TD_STAT_EPOCH 1).p Fl.TD_STAT_ACTIVE (b2n (ρ.g Fl.TD_CFG_MODULE == 0))).modRed fun d =>
      { d with tdDec := none, tdDone := Tri.rep false, tdLate := none, wit := Tri.rep none, tdState := Tri.rep none }
  else ρ

/-- A tandem lane goes down or up (Table 14.10). -/
def Rod.laneChange (ρ : Rod) (lane : RodId) (up : Bool) : Rod :=
  if ρ.bitOf Fl.TD_STAT_LANES lane.code = up then ρ
  else
    let ρ1 := if up then ρ.setBit Fl.TD_STAT_LANES lane.code else ρ.clrBit Fl.TD_STAT_LANES lane.code
    (ρ1.irq 0x0A1 2).flt 0x0C42 sevWarn 0x0A1 [(0, 1, lane.code), (1, 1, b2n up)]

/-- Record 0x0C43. -/
def Rod.witReject (ρ : Rod) (cause : Nat) : Rod := (ρ.irq 0x0A1 3).flt 0x0C43 sevWarn 0x0A1 [(0, 1, cause)]

/-- A group copy becomes the pending copy of its axis (R508). -/
def Rod.takeTandem (ρ : Rod) (c : TandemCopy) : Rod :=
  let pend := copyWords.foldl (fun p w => Sparse.put p w (c.torque.getD (w - 3) 0#32)) []
  ({ ρ with rk := { ρ.rk with pend := ρ.rk.pend.set c.axis pend, ready := ρ.rk.ready.set c.axis true } }).modRed fun d =>
    { d with tdState := d.tdState.set c.axis (some c.state) }

/-- Whether a group copy is complete. -/
def wholeCopy (c : TandemCopy) : Bool := c.state.length == 128 && c.torque.length == 13

/-- A group copy on a lane: the first complete one of an outer cycle becomes the pending copy (R508). One with a later epoch makes
an active module the standby one at the next outer-cycle tick, and is its pending copy (R666). -/
def Rod.tandemCopy (ρ : Rod) (c : TandemCopy) : Rod :=
  let n := c.axis
  let e := c.epoch.toNat
  if ρ.tandemStandby n then
    if e ≠ ρ.g Fl.TD_STAT_EPOCH then ρ.witReject 4
    else if wholeCopy c = false ∨ (ρ.red.tdState.get n).isSome = true then ρ
    else ρ.takeTandem c
  else if ρ.b Fl.TD_CFG_EN && ρ.bitOf Fl.TD_CFG_GROUP n.val && wholeCopy c && laterEpoch e (ρ.g Fl.TD_STAT_EPOCH) then
    (ρ.takeTandem c).modRed fun d => { d with tdLate := some e }
  else ρ

/-- At an outer-cycle tick of a group axis the module becomes the standby one under the later epoch of a copy (R666). -/
def Rod.tandemYield (ρ : Rod) (n : Axis) : Rod :=
  match ρ.red.tdLate with
  | none => ρ
  | some e =>
    if ρ.outerTick n && ρ.bitOf Fl.TD_CFG_GROUP n.val then
      let ρ1 := ((ρ.p Fl.TD_STAT_EPOCH e).p Fl.TD_STAT_ACTIVE 0).modRed fun d =>
        { d with tdLate := none, tdDec := none, tdDone := Tri.rep false }
      (ρ1.irq 0x0A1 0).flt 0x0C40 sevInfo 0x0A1
        [(0, 1, ρ.g Fl.TD_CFG_PAIR_ID), (1, 1, 1 - ρ.g Fl.TD_CFG_MODULE), (2, 2, e)]
    else ρ

/-- An outer-cycle tick of a group axis in the standby module: the pending state comes into force, or a copy is missed. -/
def Rod.tandemTick (ρ : Rod) (n : Axis) : Rod :=
  if ρ.tandemStandby n && ρ.outerTick n then
    match ρ.red.tdState.get n with
    | some st =>
      let ρ1 := (ρ.each (st.take 128 |>.zip (List.range 128)) fun w q => q.sp (stateW n.val w.2) w.1).modRed fun d =>
        { d with tdState := d.tdState.set n none }
      (ρ1.p Fl.TD_AGE_AGE 0).p Fl.TD_STAT_COPY_OK 1
    | none => ((ρ.inc Fl.TD_AGE_AGE).inc Fl.TD_CNT_MISSED).p Fl.TD_STAT_COPY_OK 0
  else ρ

/-- Three outer cycles without a complete copy (R512). -/
def Rod.tandemLost (ρ : Rod) (n : Axis) : Rod :=
  if ρ.tandemStandby n && decide (3 ≤ ρ.g Fl.TD_AGE_AGE) then
    (ρ.irq 0x0A1 1).fltA 0x0C41 sevWarn 0x0A1 n [(0, 1, n.val), (4, 2, ρ.g Fl.TD_AGE_AGE)]
  else ρ

/-- A witness frame, as a rod of the module holds it (R509, R510). -/
def Rod.witness (ρ : Rod) (holder : RodId) (f : WitFrame) : Rod :=
  if ρ.b Fl.TD_CFG_EN = false then ρ
  else
    let ρ1 := ρ.modRed fun d => { d with wit := d.wit.set holder.idx (some f) }
    let same := allRods.filterMap fun r => (ρ1.red.wit.get r.idx).bind fun g => if g.cycle = f.cycle then some g else none
    let agree := decide (2 ≤ (same.filter fun g => g == f).length)
    let taken := match ρ1.red.tdDec with
      | some (a, e, _) => a == f.active && e == f.epoch.toNat
      | none => false
    if taken then ρ1
    else if agree then
      if f.pair ≠ ρ1.g Fl.TD_CFG_PAIR_ID then ρ1.witReject 2
      else if f.epoch.toNat ≠ (ρ1.g Fl.TD_STAT_EPOCH + 1) % 65536 then ρ1.witReject 3
      else if f.zero = false ∨ 1 < f.active then ρ1.witReject 1
      else ρ1.modRed fun d => { d with tdDec := some (f.active, f.epoch.toNat, f.cycle), tdDone := Tri.rep false }
    else if 2 ≤ same.length ∧ ρ1.liveRods.length ≤ same.length then ρ1.witReject 1
    else ρ1

/-- A decision takes effect for a group axis at its outer-cycle tick (R510), and nowhere else: not before the own controller,
where it runs, has begun the cycle after the decision's. (DESIGN CHOICE, log entry 78) -/
def Rod.witDecide (ρ : Rod) (n : Axis) : Rod :=
  match ρ.red.tdDec with
  | none => ρ
  | some (a, e, c) =>
    let early := ρ.poc == Poc.active && decide (ρ.fr.cyc ≤ c)
    if ρ.bitOf Fl.TD_CFG_GROUP n.val = false ∨ ρ.red.tdDone.get n = true ∨ ρ.outerTick n = false ∨ early = true then ρ
    else
      let first := !(ρ.red.tdDone.list.any id)
      let ρ1 := if first then
          ((((ρ.p Fl.TD_STAT_EPOCH e).inc Fl.TD_CNT_DECISIONS).irq 0x0A1 0).flt 0x0C40 sevInfo 0x0A1
            [(0, 1, ρ.g Fl.TD_CFG_PAIR_ID), (1, 1, a), (2, 2, e)])
        else ρ
      let active := a == ρ.g Fl.TD_CFG_MODULE
      let ρ2 := ρ1.modRed fun d => { d with tdDone := d.tdDone.set n true }
      let ρ3 := if active && ρ2.leads n then { ρ2 with rk := { ρ2.rk with swRun := ρ2.rk.swRun.set n (some ρ2.me) } } else ρ2
      let rest := allAxes.any fun m => ρ3.bitOf Fl.TD_CFG_GROUP m.val && !ρ3.red.tdDone.get m
      if rest then ρ3
      else (ρ3.p Fl.TD_STAT_ACTIVE (b2n active)).modRed fun d => { d with tdDec := none, tdDone := Tri.rep false }

/-! ### The commands -/

/-- PUMP_PHASE_MESSAGE (R376). -/
def execPumpPhaseMessage (r src : RodId) (msg : PumpPhaseMsg) (s : State) : Host.Outcome State Fault Refusal :=
  onRodV s r fun _ ρ => ρ.phaseMsg src msg

/-- DQ_SILENT (R26). -/
def execDqSilent (r src : RodId) (s : State) : Host.Outcome State Fault Refusal := onRodV s r fun _ ρ => ρ.dqSilent src

/-- RESIDUAL_WINDOW_END (R484). -/
def execResidualWindowEnd (r : RodId) (axis : Axis) (s : State) : Host.Outcome State Fault Refusal :=
  onRod s r fun ρ => ρ.resWindow axis

/-- SET_STATE_MESSAGE (R343). -/
def execSetStateMessage (r src : RodId) (msg : SetState) (s : State) : Host.Outcome State Fault Refusal :=
  onRodV s r fun _ ρ => ρ.setStateMsg src msg

/-- TORQUE_COPY_RECEIVE (R289). -/
def execTorqueCopyReceive (r src : RodId) (msg : TorqueCopy) (s : State) : Host.Outcome State Fault Refusal :=
  onRodV s r fun _ ρ => ρ.torqueCopy src msg

/-- STATE_COPY_RECEIVE (R291). -/
def execStateCopyReceive (r src : RodId) (msg : StateCopy) (s : State) : Host.Outcome State Fault Refusal :=
  onRodV s r fun _ ρ => ρ.stateCopy src msg

/-- COPY_MISSED_NOTICE (R480). -/
def execCopyMissedNotice (r src : RodId) (axis : Axis) (s : State) : Host.Outcome State Fault Refusal :=
  onRod s r fun ρ => ρ.copyMissed src axis

/-- JUDGEMENT_MESSAGE (R482). -/
def execJudgementMessage (r src : RodId) (msg : JudgeMsg) (s : State) : Host.Outcome State Fault Refusal :=
  onRod s r fun ρ => ρ.heardJudgement src msg

/-- WITHDRAWAL_NOTICE (R487). -/
def execWithdrawalNotice (r src : RodId) (tick : Word) (s : State) : Host.Outcome State Fault Refusal :=
  onRod s r fun ρ => ρ.withdrawn src tick.toNat

/-- REMOVAL (R487). -/
def execRemoval (r target : RodId) (s : State) : Host.Outcome State Fault Refusal := onRodV s r fun _ ρ => ρ.removal target

/-- REMOVAL_ORDER (R488). -/
def execRemovalOrder (r src : RodId) (s : State) : Host.Outcome State Fault Refusal := onRod s r fun ρ => ρ.removalOrder src

/-- The third rod sees that a link of the two others has changed: it relays, and its capacity follows (R248, R249, R481). -/
def State.thirdRod (s : State) (r partner : RodId) : State :=
  if r = partner then s
  else
    let t := r.third partner
    s.putRod t (((s.rod t).view s.rod).ctDegrade s.rod).flush

/-- CARRY_LINK_DOWN (R481, R498), with the load on the links (R249); a link reported silent may complete SYNC (Table 3.3). -/
def execCarryLinkDown (r partner : RodId) (s : State) : Host.Outcome State Fault Refusal :=
  .next ((s.putRod r (((((s.rod r).view s.rod).carryDown partner).ctDegrade s.rod).trySync s.rod).flush).thirdRod r partner)

/-- CARRY_LINK_UP: the partner becomes reachable, and SYNC may be complete (Table 3.3). -/
def execCarryLinkUp (r : RodId) (partner : LinkAlign) (s : State) : Host.Outcome State Fault Refusal :=
  .next ((s.putRod r (((((s.rod r).carryUp partner.partner partner.trip).view s.rod).ctDegrade s.rod).trySync s.rod).flush).thirdRod r
    partner.partner)

/-- REJOIN_ENTRY (R499). -/
def execRejoinEntry (r : RodId) (selfTest : Bool) (s : State) : Host.Outcome State Fault Refusal :=
  onRodV s r fun ps ρ => ρ.rejoinEntry ps selfTest

/-- JOIN_REQUEST (R499): the partner answers; a refusal returns the asking rod to FENCED (R500). -/
def execJoinRequest (r src : RodId) (req : JoinReq) (s : State) : Host.Outcome State Fault Refusal :=
  if r = src ∨ RS.serving (s.rod r).state = false ∨ (s.rod src).state ≠ RS.rejoin then .next s
  else
    let ok := (s.rod r).joinOk req
    let s1 := s.putRod r (((s.rod r).joinRequest src req).flush)
    .next (if ok then s1 else s1.putRod src (((s1.rod src).rejoinFail 0).flush))

/-- REJOIN_DATA (R499). -/
def execRejoinData (r src : RodId) (data : RejoinData) (s : State) : Host.Outcome State Fault Refusal :=
  onRodV s r fun _ ρ => ρ.takeRejoin src data

/-- REJOIN_TIMEOUT (R500). -/
def execRejoinTimeout (r : RodId) (s : State) : Host.Outcome State Fault Refusal := onRod s r fun ρ => ρ.rejoinTimeout

/-- TANDEM_COPY_RECEIVE (R508). -/
def execTandemCopyReceive (r lane : RodId) (copy : TandemCopy) (s : State) : Host.Outcome State Fault Refusal :=
  onRod s r fun ρ => if ρ.bitOf Fl.TD_STAT_LANES lane.code then ρ.tandemCopy copy else ρ

/-- WITNESS_FRAME (R510). -/
def execWitnessFrame (r holder : RodId) (frame : WitFrame) (s : State) : Host.Outcome State Fault Refusal :=
  onRod s r fun ρ => ρ.witness holder frame

/-- WITNESS_DECISION (R510). -/
def execWitnessDecision (r : RodId) (axis : Axis) (s : State) : Host.Outcome State Fault Refusal :=
  onRod s r fun ρ => ρ.witDecide axis

/-- TANDEM_COPY_LOST (R512). -/
def execTandemCopyLost (r : RodId) (axis : Axis) (s : State) : Host.Outcome State Fault Refusal :=
  onRod s r fun ρ => ρ.tandemLost axis

/-- TANDEM_LANE_CHANGE (Table 14.10). -/
def execTandemLaneChange (r lane : RodId) (up : Bool) (s : State) : Host.Outcome State Fault Refusal :=
  onRod s r fun ρ => ρ.laneChange lane up

end Sys2Proof.Machine
end

