-- ==== Sys2Proof/Machine/Modes.lean ====
section
/-! DEFINITION. Operating modes and start-up (spec/03_operating_modes.md): host requests and proposals, the agreement of
the live rods, mode changes with the state changes that follow, the ARMING checks, and the contactor sequences. -/

namespace Sys2Proof.Machine

def Rod.modMd (ρ : Rod) (f : ModeS → ModeS) : Rod := { ρ with md := f ρ.md }

/-! ### Conditions -/

/-- Live rods in READY, as this rod sees them. -/
def Rod.readyCount (ρ : Rod) : Nat := (ρ.liveRods.filter fun r => ρ.seen r == RS.ready).length

/-- Live rods in READY, or back from a fence in ACTIVE (Table 3.4, SAFE to STANDBY). -/
def Rod.ableCount (ρ : Rod) : Nat :=
  (ρ.liveRods.filter fun r => ρ.seen r == RS.ready || ρ.seen r == RS.active).length

/-- Some rod is in UPDATE. -/
def Rod.anyUpdate (ρ : Rod) : Bool := allRods.any fun r => ρ.seen r == RS.update

/-- The armed axes. -/
def Rod.armedAxes (ρ : Rod) : List Axis := allAxes.filter ρ.axisArmed

/-- A STEER or BRAKE axis is at or above its STILL_SPD threshold (R101). (DEDUCED, log entry 34) -/
def Rod.anyMoving (ρ : Rod) : Bool :=
  allAxes.any fun n => ρ.steerBrake n && !ρ.speedBelow n (ρ.g (Fl.STILL_SPD_THRESH n.val))

/-- An armed PUMP or FEEL axis in its safe state (R79, R381). -/
def Rod.softSafe (ρ : Rod) (n : Axis) : Bool :=
  ρ.axisArmed n && !ρ.steerBrake n && (ρ.md.safeAx.get n || ρ.healthyMask n == 0)

/-- The cause of LIMP that holds (Table 14.5), 0 for none. (DEDUCED, log entry 35) -/
def Rod.limpCause (ρ : Rod) : Nat :=
  if ρ.b Fl.CR_STAT_SPLIT then 3
  else if ρ.armedAxes.any fun n => (ρ.healthySets n).length == 1 then 1
  else if ρ.ct.single then 2
  else if ρ.me.partners.any fun p => ρ.md.weld.get p.idx && !RS.serving (ρ.seen p) then 4
  else if allAxes.any ρ.softSafe then 5 else 0

/-- The STEER or BRAKE axes that call for SAFE (R86, R515, R555). -/
def Rod.safeAxes (ρ : Rod) : List Axis :=
  ρ.armedAxes.filter fun n => ρ.steerBrake n && (ρ.md.safeAx.get n || ρ.healthyMask n == 0)

/-- The changes of Table 3.4. -/
def modeStep (a b : Nat) : Bool :=
  [(0, 1), (1, 2), (2, 3), (2, 1), (3, 4), (4, 3), (3, 1), (4, 1), (2, 5), (3, 5), (4, 5), (5, 1), (1, 0)].contains (a, b)

/-- The changes of Table 3.4 that only a host request starts. -/
def hostStep (a b : Nat) : Bool := [(1, 2), (4, 3), (3, 1), (4, 1), (5, 1), (1, 0)].contains (a, b)

/-! ### Proposals and agreement -/

/-- Whether a change to a mode rests on host requests alone: those that only a host starts, and from ARMING to STANDBY where no
cause for it is in this rod's view (R86, R88). -/
def Rod.byHost (ρ : Rod) (m : Nat) : Bool :=
  hostStep ρ.mode m ||
    (ρ.mode == SM.arming && m == SM.standby && ρ.b Fl.SF_PROF_BOUND &&
      ρ.armedAxes.all fun n => decide (2 ≤ (ρ.healthySets n).length))

/-- The live rods that propose a mode; for a change by request alone, those within 10 ms of the last (R81, R88). -/
def Rod.votersFor (ρ : Rod) (m : Nat) : List RodId :=
  let all : List (RodId × Nat) := ρ.liveRods.filterMap fun r => (ρ.md.props.get r.idx).bind fun e => if e.1 = m then some (r, e.2) else none
  let last := (all.map (·.2)).foldl max 0
  let near : List (RodId × Nat) := if ρ.byHost m then all.filter fun e => decide (last ≤ e.2 + 10000000) else all
  near.map (·.1)

/-- Whether a mode is agreed (R81): two live rods propose it, or the only live rod does; a rod that sees no live rod, itself
included, acts on its own proposal (R88, R89). -/
def Rod.agreedOn (ρ : Rod) (m : Nat) : Bool :=
  modeStep ρ.mode m &&
  (decide (2 ≤ (ρ.votersFor m).length) || (ρ.liveRods.length == 1 && ρ.votersFor m == ρ.liveRods) ||
    (ρ.liveRods.isEmpty && (ρ.md.props.get ρ.me.idx).any fun e => e.1 == m))

/-- The boundaries to a change once agreed: the second one, the next one for SAFE and LIMP (R79, R80, Table 3.4). -/
def boundariesTo (m : Nat) : Nat := if m = SM.safe ∨ m = SM.limp then 1 else 2

/-- The rod notes what the live rods have agreed; SAFE comes before any other change. (DESIGN CHOICE, log entry 32) -/
def Rod.agree (ρ : Rod) : Rod :=
  match ([5, 4, 1, 3, 2, 0] : List Nat).find? ρ.agreedOn with
  | none => ρ
  | some m =>
    let keep := match ρ.md.agreed with
      | none => false
      | some a => a.1 == m || m != SM.safe
    if keep then ρ else ρ.modMd fun d => { d with agreed := some (m, boundariesTo m, rodMask (ρ.votersFor m)) }

/-- The rod proposes a mode and tells its partners. (DESIGN CHOICE, log entry 32) -/
def Rod.propose (ρ : Rod) (m : Nat) : Rod :=
  let same := match ρ.md.props.get ρ.me.idx with
    | none => false
    | some e => e.1 == m
  if same then ρ.agree
  else ((ρ.modMd fun d => { d with props := d.props.set ρ.me.idx (some (m, ρ.ft)) }).send (.propose m)).agree

/-- A host request for SAFE is acted on (R89): the role safe states come at once, the mode at the next boundary. -/
def Rod.requestSafe (ρ : Rod) : Rod :=
  ((ρ.modMd fun d => { d with safeReq := true }).each allAxes fun n q => q.applySafe n).propose SM.safe

/-- A partner's proposal; one of the mode in force withdraws an earlier one. A request for SAFE is acted on whatever rod it was
written to (R89). (DESIGN CHOICE, log entry 32) -/
def Rod.modeProposal (ρ : Rod) (src : RodId) (m : Nat) : Rod :=
  if src = ρ.me then ρ
  else
    let ρ1 := ρ.modMd fun d => { d with props := d.props.set src.idx (some (m, ρ.ft)) }
    if m = SM.safe ∧ modeStep ρ.mode SM.safe = true ∧ ρ.md.safeReq = false ∧ ρ.safeAxes = [] ∧ ρ.sec.alien.get src.idx = false then
      ρ1.requestSafe
    else ρ1.agree

/-! ### Host requests -/

/-- The reason to refuse a request, 0 for none (Tables 3.4 and 3.6). Where several hold, the first of 1, 3, 5, 6 is shown, and 1
for PLACE_FAIL, which no code of Table 3.6 names. A lone rod refuses ARMING with 3 in DORMANT too. (DEDUCED, log entry 31)
(DESIGN CHOICE, log entry 68) -/
def Rod.refuseReason (ρ : Rod) (t : Nat) : Nat :=
  if t = SM.arming ∧ ρ.mode = SM.dormant ∧ ρ.readyCount < 2 then 3
  else if modeStep ρ.mode t = false ∨ (hostStep ρ.mode t = false ∧ t ≠ SM.safe ∧ (ρ.mode, t) ≠ (SM.arming, SM.standby)) then 1
  else if t = SM.arming then (if ρ.readyCount < 2 then 3 else if ρ.anyUpdate then 5 else if !ρ.sealsAgree then 6
    else if ρ.b Fl.RK_STAT_PLACE_FAIL then 1 else 0)
  else if t = SM.operate then (if ρ.limpCause = 0 then 0 else 7)
  else if t = SM.standby ∧ (ρ.mode = SM.operate ∨ ρ.mode = SM.limp) then (if ρ.anyMoving then 4 else 0)
  else if t = SM.standby ∧ ρ.mode = SM.safe then (if ρ.ableCount < 2 then 3 else 0)
  else if t = SM.dormant then (if ρ.anyUpdate then 5 else 0)
  else 0

/-- The pending request is refused (R90). (DEDUCED, log entry 31) -/
def Rod.refuse (ρ : Rod) (reason : Nat) : Rod :=
  let ρ1 := ((ρ.p Fl.REQ_STAT_PENDING 0).p Fl.REQ_STAT_REASON reason).p Fl.REQ_STAT_REFUSED 1
  (ρ1.irq 0x001 1).flt 0x0102 sevInfo 0x001 [(0, 1, ρ.g Fl.REQ_STAT_TARGET), (1, 1, reason)]

/-- A write of MODE_REQ (R87 to R90): the outcome register is that of this request from here on. (DEDUCED, log entry 31) -/
def Rod.writeModeReq (ρ : Rod) (path : Nat) (data : Word) : Rod :=
  if wBit data 31 = true ∧ wBits data 8 8 ≠ 0x5A then ρ.errCap 0x001 0x6 path 0x44 data
  else
    let t := wBits data 0 3
    let ρ1 := (ρ.p Fl.MODE_REQ_KEY (wBits data 8 8)).p Fl.MODE_REQ_TARGET t
    if wBit data 31 = false then ρ1
    else
      let ρ2 := ((((ρ1.p Fl.REQ_STAT_DONE 0).p Fl.REQ_STAT_REFUSED 0).p Fl.REQ_STAT_REASON 0).p Fl.REQ_STAT_TARGET t).p
        Fl.REQ_STAT_PENDING 1
      match ρ.refuseReason t with
      | 0 => if t = SM.safe then ρ2.requestSafe else ρ2.propose t
      | r => ρ2.refuse r

/-- The rod's own proposal ends, and its partners are told so by a proposal of the mode in force. -/
def Rod.unpropose (ρ : Rod) : Rod :=
  if (ρ.md.props.get ρ.me.idx).isSome then
    (ρ.modMd fun d => { d with props := d.props.set ρ.me.idx none }).send (.propose ρ.mode)
  else ρ

/-- A request not matched within 10 ms (R88): it matches no later one either. (DESIGN CHOICE, log entry 74) -/
def Rod.requestTimeout (ρ : Rod) : Rod :=
  let due := match ρ.md.props.get ρ.me.idx with
    | some (_, t) => ρ.passed t 10000000
    | none => true
  if ρ.b Fl.REQ_STAT_PENDING = true ∧ ρ.md.agreed = none ∧ ρ.g Fl.REQ_STAT_TARGET ≠ SM.safe ∧ due = true then ρ.unpropose.refuse 2
  else ρ

/-! ### The rod's own proposals -/

/-- No other rod is live or on its way: a rod that started alone (R86, R88). (DEDUCED, log entry 66) -/
def Rod.alone (ρ : Rod) : Bool :=
  ρ.liveRods == [ρ.me] && ρ.me.partners.all fun p => ρ.seen p != RS.boot && ρ.seen p != RS.sync

/-- The mode the rod's own view calls for (Table 3.4); a rod alone stays in STANDBY. -/
def Rod.wish (ρ : Rod) : Option Nat :=
  let m := ρ.mode
  if m = SM.dormant then (if !ρ.toDormant && (decide (2 ≤ ρ.readyCount) || ρ.alone) then some SM.standby else none)
  else if m = SM.arming ∨ m = SM.operate ∨ m = SM.limp then
    if ρ.md.safeReq || !ρ.safeAxes.isEmpty then some SM.safe
    else if m = SM.arming then
      if !ρ.b Fl.SF_PROF_BOUND || ρ.armedAxes.any (fun n => decide ((ρ.healthySets n).length < 2)) then some SM.standby
      else if ρ.g Fl.ARM_STAT_STEP = 6 then some SM.operate else none
    else if m = SM.operate then (if ρ.limpCause = 0 then none else some SM.limp)
    else none
  else none

/-- PUMP and FEEL axes in their safe state: applied where no set is healthy, recorded once (R79, R105). -/
def Rod.softSafeReview (ρ : Rod) : Rod :=
  ρ.each allAxes fun n q =>
    if q.softSafe n && (q.mode == SM.operate || q.mode == SM.limp) then
      let q1 := q.when (!q.md.safeAx.get n) (·.applySafe n)
      if q1.md.told.get n then q1
      else (q1.modMd fun d => { d with told := d.told.set n true }).fltA 0x0132 sevDegrade 0x001 n [(0, 1, n.val)]
    else q.modMd fun d => { d with told := d.told.set n false }

/-- The rod reviews the mode at a tick (R79, R81, R105): safe states at once, then its proposal. -/
def Rod.reviewMode (ρ : Rod) : Rod :=
  if RS.serving ρ.state = false then ρ
  else
    let moving := ρ.mode == SM.arming || ρ.mode == SM.operate || ρ.mode == SM.limp
    let ρ1 := (ρ.softSafeReview).when moving fun q => q.each q.safeAxes fun n r => if r.md.safeAx.get n then r else r.applySafe n
    match ρ1.wish with
    | some m => (ρ1.when (m == SM.limp) fun q => q.modMd fun d => { d with limp := q.limpCause }).propose m
    | none =>
      let asked := ρ1.b Fl.REQ_STAT_PENDING && (ρ1.md.props.get ρ1.me.idx).any fun e => e.1 == ρ1.g Fl.REQ_STAT_TARGET
      (ρ1.when (!asked) (·.unpropose)).agree

/-! ### Mode changes -/

/-- ARMING begins (R93, Table 3.3): READY rods become ACTIVE (one that came back from a fence is so already), the safety image is
bound, the tandem epoch is 1. -/
def Rod.beginArming (ρ : Rod) (ps : RodId → Rod) : Rod :=
  if ρ.state ≠ RS.ready ∧ ρ.state ≠ RS.active then ρ
  else
    let crcs := (ρ.me.partners.filter ρ.live).map fun p => (ρ.majority.bind (ps p).profCrc)
    let ρ1 := ((ρ.pw Rg.ARM_STAT 0#32).p Fl.ARM_STAT_RUN 1).p Fl.ARM_STAT_STEP 1
    let ρ2 := ρ1.modMd fun d => { d with armFt := ρ.ft, released := Tri.rep false, still := Tri.rep 0, waited := Tri.rep false
                                         osdSet := 3, osdDone := false, pre := false, preOk := false, limp := 0 }
    let ρ3 := ((ρ2.enter RS.active).tandemArm).arverArm
    match ρ3.bind crcs with
    | (ρ4, true) => ρ4.p Fl.ARM_STAT_STEP 2
    | (ρ4, false) => ((ρ4.p Fl.ARM_STAT_FAIL 1).p Fl.ARM_STAT_FCODE 0x0E10).irq 0x001 3

/-- OPERATE or LIMP begins: the BRAKE axis holds the park-hold output, and an armed pump not yet started goes to IDLE. -/
def Rod.beginDrive (ρ : Rod) : Rod :=
  ρ.holdPark.each allAxes fun n q =>
    if q.axisArmed n && !q.md.safeAx.get n && decide (q.pumpPhase n = PP.off) then q.decidePump n PP.idle 0 else q

/-- Authority ends with STANDBY or SAFE: ACTIVE becomes READY, pumps go OFF. -/
def Rod.endDrive (ρ : Rod) : Rod :=
  let ρ1 := ρ.when (ρ.state == RS.active) (·.enter RS.ready)
  let ρ2 := ((ρ1.p Fl.ARM_STAT_RUN 0).p Fl.ARM_STAT_WAIT_AXES 0).modMd fun d => { d with park := false, pre := false, osdSet := 3 }
  ρ2.each allAxes fun n q => q.decidePump n PP.off 0

/-- The records of the SRAM log, oldest first. -/
def Rod.logInOrder (ρ : Rod) : List FaultRec :=
  let seq := ρ.g Fl.FL_SEQ_SEQ
  ((List.range 1024).filterMap fun i =>
    let k := (seq + i) % 1024
    if Sparse.has ρ.log k then some ((ρ.log.filter fun e => e.1 == k).map (·.2)) else none).flatten

/-- The flash copy after more records are written to it (R39). -/
def Rod.toFlash (ρ : Rod) (l : List FaultRec) : Rod :=
  let all := ρ.flash ++ l
  { ρ with flash := all.drop (all.length - 64) }

/-- DORMANT begins (R39, R103, R596). -/
def Rod.beginDormant (ρ : Rod) : Rod :=
  let l := ρ.flush.logInOrder
  let ρ1 := { ρ.flush.toFlash (l.drop (l.length - 64)) with flPend := [] }
  (ρ1.p Fl.PWR_HOST_VOTE 0).voteUpdate

/-- STANDBY begins (R102, R108, R113, R413, R462, R498, R553): what only a pass through STANDBY restores. -/
def Rod.beginStandby (ρ : Rod) (prev : Nat) : Rod :=
  let short := ρ.armedAxes.find? fun n => decide ((ρ.healthySets n).length < 2)
  let ρ0 := match short with
    | some n => if prev = SM.arming then
        ρ.fltA 0x0124 sevDegrade 0x001 n [(0, 1, n.val)] else ρ
    | none => ρ
  let ρ1 := ((((ρ0.endDrive).p Fl.ARM_STAT_STEP 0).restoreSets).fbStandby).sfStandby
  let ρ2 := ((ρ1.releaseSupply).p Fl.K_STAT_STUCK_OPEN 0).modMd fun d => { d with limp := 0, safeReq := false, told := Tri.rep false }
  (ρ2.p Fl.CR_STAT_SPLIT 0).when (prev == SM.dormant) (·.bootTime)

/-- SAFE begins (R105, R106): every axis in its role safe state, then the contactor opens. -/
def Rod.beginSafe (ρ : Rod) : Rod :=
  let ax := match ρ.safeAxes.head? with
    | some n => if ρ.md.safeReq then 0xFF else n.val
    | none => 0xFF
  let ρ1 := (ρ.each allAxes fun n q => q.applySafe n).endDrive
  (ρ1.fltAP 0x0131 sevSafe 0x001 ax 0xFF [(0, 1, ax)]).coil false

/-- A system mode takes effect in the rod, with the changes that follow (R80, R90). -/
def Rod.enterMode (ρ : Rod) (ps : RodId → Rod) (m voters : Nat) : Rod :=
  let prev := ρ.mode
  let ρ1 := (ρ.setMode m voters).modMd fun d => { d with props := Tri.rep none, agreed := none }
  let ρ2 :=
    if m = SM.arming then ρ1.beginArming ps
    else if m = SM.operate then
      let q := ρ1.beginDrive.each allAxes fun n q => q.ratchet n
      if prev = SM.arming then
        (((q.p Fl.ARM_STAT_RUN 0).p Fl.ARM_STAT_WAIT_AXES 0).p Fl.ARM_STAT_STEP 6).p Fl.START_TIME_ARM_TIME
          (satN 0xFFFF ((q.ft - q.md.armFt) / 10000))
      else q.modMd fun d => { d with limp := 0 }
    else if m = SM.limp then
      (ρ1.beginDrive).flt 0x0130 sevDegrade 0x001 [(0, 1, if ρ.md.limp = 0 then ρ.limpCause else ρ.md.limp)]
    else if m = SM.safe then ρ1.beginSafe
    else if m = SM.standby then ρ1.beginStandby prev
    else ρ1.beginDormant
  let ρ3 := if ρ2.b Fl.REQ_STAT_PENDING && decide (ρ2.g Fl.REQ_STAT_TARGET = m) then
      ((ρ2.p Fl.REQ_STAT_PENDING 0).p Fl.REQ_STAT_DONE 1).irq 0x001 1
    else ρ2
  ρ3.updEn.voteUpdate

/-- An agreed change takes effect once its boundary has come; where no tick runs, at once (R80). -/
def Rod.modeChange (ρ : Rod) (ps : RodId → Rod) : Rod :=
  match ρ.md.agreed with
  | none => ρ
  | some (m, k, v) =>
    if ρ.ticksRun = true ∧ k ≠ 0 then ρ
    else if modeStep ρ.mode m then ρ.enterMode ps m v else ρ.modMd fun d => { d with agreed := none }

/-- A tick boundary passes on the way to an agreed change. -/
def Rod.boundary (ρ : Rod) : Rod :=
  ρ.modMd fun d => { d with agreed := d.agreed.map fun a => (a.1, a.2.1 - 1, a.2.2) }

/-! ### ARMING, REJOIN and the shutdown -/

/-- The rod takes part in the checks of ARMING. -/
def Rod.arming (ρ : Rod) : Bool := ρ.mode == SM.arming && ρ.state == RS.active && ρ.b Fl.ARM_STAT_RUN

/-- VM sense of at least 18 V. -/
def Rod.vmUp (ρ : Rod) : Bool := decide (18000 * 65536 ≤ (ρ.sg 0x0012).toNat * ρ.vmFull)

/-- The contactor reads closed and the supply is up. -/
def Rod.contactorIn (ρ : Rod) : Bool := ρ.md.khs && ρ.b Fl.K_STAT_AUX && ρ.vmUp

/-- Step 4 of Table 3.5 against the partners' counts. -/
def Rod.plausNow (ρ : Rod) (ps : RodId → Rod) : Rod × Bool :=
  let cnt (n : Axis) (p : RodId) : Option Int :=
    if ρ.connected p n && (ps p).state == RS.active then some ((ps p).sg (0x0018 + n.val)).toInt else none
  ρ.plausStep fun n =>
    match ρ.me.partners with
    | [p, q] => (cnt n p, cnt n q)
    | _ => (none, none)

/-- Step 5 begins: a moving STEER or BRAKE axis waits, a pump starts (R97, R98, R100). Record 0x0123 is written by the lead of the
axis, since it measures the speed; the spec names no rod. (DESIGN CHOICE, log entry 68) -/
def Rod.beginStep5 (ρ : Rod) (ps : RodId → Rod) : Rod :=
  let ρ1 := ρ.p Fl.ARM_STAT_STEP 5
  ρ1.each ρ1.armedAxes fun n q =>
    if q.isPump n then q.pumpArm n
    else
      let l := ps (q.rk.lead.get n)
      if q.steerBrake n && !l.speedBelow n (q.g (Fl.STILL_SPD_THRESH n.val)) && q.g (Fl.STILL_SPD_THRESH n.val) != 0 then
        let q1 := ((q.setBit Fl.ARM_STAT_WAIT_AXES n.val).irq 0x001 2).modMd fun d => { d with still := d.still.set n 0 }
        if q1.leads n && !q1.md.waited.get n then
          (q1.modMd fun d => { d with waited := d.waited.set n true }).fltA 0x0123 sevInfo 0x001 n
            [(0, 1, n.val), (4, 4, natOfInt 32 (q1.speedMrad n))]
        else q1
      else q

/-- Step 5 is complete once no axis waits and every armed pump has started (R97, R380). -/
def Rod.endStep5 (ρ : Rod) : Rod :=
  if ρ.arming && ρ.g Fl.ARM_STAT_STEP == 5 && ρ.g Fl.ARM_STAT_WAIT_AXES == 0 &&
      ρ.armedAxes.all (fun n => !ρ.isPump n || ρ.pumpStarted n) then
    ρ.p Fl.ARM_STAT_STEP 6
  else ρ

/-- Ticks below the threshold of a waiting axis (R97). (DEDUCED, log entry 34) -/
def Rod.stillTick (ρ : Rod) (ps : RodId → Rod) : Rod :=
  ρ.each allAxes fun n q =>
    if q.waits n then
      let below := (ps (q.rk.lead.get n)).speedBelow n (q.g (Fl.STILL_SPD_THRESH n.val))
      q.modMd fun d => { d with still := d.still.set n (if below then d.still.get n + 1 else 0) }
    else q

/-- The wait of an axis ends. -/
def Rod.endWait (ρ : Rod) (n : Axis) : Rod := (ρ.clrBit Fl.ARM_STAT_WAIT_AXES n.val).endStep5.updEn

/-- Below the threshold for one outer-loop period (R97). (DEDUCED, log entry 34) -/
def Rod.standstill (ρ : Rod) (n : Axis) : Rod :=
  if ρ.waits n && decide (ρ.divisor n ≤ ρ.md.still.get n) then ρ.endWait n else ρ

/-- A write of ARM_RELEASE (R97, R99): with the end of the wait the OUTER trigger of the axis fires again in its lead, and its
first run works from the position and speed words of its tick and the inputs launched last. (DEDUCED, log entry 66) -/
def Rod.writeArmRelease (ρ : Rod) (data : Word) : Rod :=
  ρ.each allAxes fun n q =>
    if wBit data n.val && q.waits n then (q.modMd fun d => { d with released := d.released.set n true }).endWait n else q

/-- The checks advance in the rod (Table 3.5 steps 2 and 3, Table 14.3 steps 5 and 6), or its contactor opens in the shutdown
(R102): what its own contact, its diagnostics and its partners' contactors allow; the contactor of a fenced rod is open once its
contact reads so. (DEDUCED, log entry 33) -/
def Rod.armStep (ρ : Rod) (ps : RodId → Rod) : Rod :=
  let start (q : Rod) : Rod := if q.md.osdSet = 3 && !q.md.osdDone then q.osdStart else q
  let charge (q : Rod) : Rod := (q.modMd fun d => { d with pre := true }).updEn
  if ρ.arming then
    if ρ.g Fl.ARM_STAT_STEP = 2 then
      let before := ρ.me.partners.filter fun p => decide (p.code < ρ.me.code) && (ps p).arming
      if !ρ.md.khs then
        if before.all fun p => (ps p).contactorIn then
          if ρ.b Fl.K_STAT_AUX then ρ.armFail 0x0120 0xFF [(0, 1, 1)] else ρ.coil true
        else ρ
      else if ρ.contactorIn then
        let ρ1 := start ρ
        let ready (q : Rod) : Bool := q.md.osdDone || decide (3 ≤ q.g Fl.ARM_STAT_STEP)
        if ρ1.md.osdDone && (ρ1.me.partners.filter fun p => (ps p).arming).all (fun p => ready (ps p)) then
          charge (ρ1.p Fl.ARM_STAT_STEP 3)
        else ρ1
      else ρ
    else ρ.endStep5
  else if ρ.state = RS.rejoin then
    if ρ.g Fl.RJ_STAT_STEP = 5 ∧ ρ.contactorIn = true ∧ ρ.die.fence = false then
      start ((ρ.p Fl.RJ_STAT_STEP 6).modMd fun d => { d with osdSet := 3, osdDone := false, pre := false, preOk := false })
    else if ρ.g Fl.RJ_STAT_STEP = 6 ∧ ρ.md.osdDone = true ∧ ρ.md.pre = false ∧ ρ.md.preOk = false then charge ρ
    else ρ
  else if ρ.mode = SM.standby ∧ ρ.md.khs = true ∧ (ρ.state = RS.ready ∨ ρ.state = RS.active ∨ ρ.state = RS.fenced) then
    let later := ρ.me.partners.filter fun p => decide (ρ.me.code < p.code) && decide (RS.ready ≤ (ps p).state) &&
      (ps p).state != RS.rejoin
    let open_ (q : Rod) : Bool :=
      (!q.md.khs || q.state == RS.fenced) && (!q.b Fl.K_STAT_AUX || q.b Fl.K_STAT_WELDED)
    if later.all fun p => open_ (ps p) then ρ.coil false else ρ
  else ρ

/-- Every rod advances in the order X, Y, Z, then Z to X for the shutdown: what one rod has done may let another go on.
(DEDUCED, log entries 33, 48) -/
def State.armAll (s : State) : State :=
  let go (s : State) (r : RodId) : State := s.putRod r ((s.rod r).armStep s.rod).flush
  ([.x, .y, .z, .y, .x] : List RodId).foldl go s

/-- A command of one rod, after which the sequence advances in every rod. (DEDUCED, log entry 33) -/
def onRodA (s : State) (r : RodId) (f : (RodId → Rod) → Rod → Rod) : Host.Outcome State Fault Refusal :=
  .next (s.putRod r (f s.rod ((s.rod r).view s.rod)).flush).armAll

/-- The contact is not closed, or the supply not up, within KAUX_TMO (Table 3.5 step 2, Table 14.3 step 5). -/
def Rod.kauxTimeout (ρ : Rod) : Rod :=
  let due := ρ.md.khs && !ρ.contactorIn && ρ.passed ρ.md.khsFt (ρ.g Fl.ARM_CFG_KAUX_TMO * 1000000) &&
    ((ρ.arming && ρ.g Fl.ARM_STAT_STEP == 2) || (ρ.state == RS.rejoin && ρ.g Fl.RJ_STAT_STEP == 5))
  if due then ρ.armFail 0x0120 0xFF [(0, 1, if ρ.b Fl.K_STAT_AUX then 3 else 2)] else ρ

/-- The pre-charge ends: the bootstraps are judged, then the positions; in ARMING step 5 begins, in REJOIN step 7. -/
def Rod.prechargeEnd (ρ : Rod) (ps : RodId → Rod) (low : Tri (BitVec 3)) : Rod :=
  if ρ.md.pre = false then ρ
  else
    match ρ.prechargeJudge low with
    | (ρ1, false) => ρ1
    | (ρ1, true) =>
      let ρ2 := if ρ1.state = RS.rejoin then ρ1 else ρ1.p Fl.ARM_STAT_STEP 4
      match ρ2.plausNow ps with
      | (ρ3, false) => ρ3
      | (ρ3, true) => if ρ3.state = RS.rejoin then ρ3.p Fl.RJ_STAT_STEP 7 else (ρ3.beginStep5 ps).endStep5

/-- No cluster time 500 ms after SYNC entry (R85). -/
def Rod.syncTimeout (ρ : Rod) : Rod :=
  if ρ.state = RS.sync ∧ ρ.b Fl.FT_STAT_VALID = false then
    ρ.flt 0x0111 sevWarn 0x001 [(0, 4, (ρ.ft - ρ.tb.syncFt) / 1000000)]
  else ρ

/-! ### The commands -/

/-- MODE_REQUEST_TIMEOUT (R88). -/
def execModeRequestTimeout (r : RodId) (s : State) : Host.Outcome State Fault Refusal :=
  onRod s r fun ρ => ρ.requestTimeout

/-- MODE_PROPOSAL (R81). -/
def execModeProposal (r src : RodId) (mode : Nat) (s : State) : Host.Outcome State Fault Refusal :=
  onRodV s r fun _ ρ => ρ.modeProposal src mode

/-- MODE_CHANGE (R80). -/
def execModeChange (r : RodId) (s : State) : Host.Outcome State Fault Refusal := onRodA s r fun ps ρ => ρ.modeChange ps

/-- STANDSTILL_REACHED (R97). -/
def execStandstillReached (r : RodId) (axis : Axis) (s : State) : Host.Outcome State Fault Refusal :=
  onRodV s r fun _ ρ => ρ.standstill axis

/-- AUX_CONTACT (R93). -/
def execAuxContact (r : RodId) (closed : Bool) (s : State) : Host.Outcome State Fault Refusal :=
  onRodA s r fun _ ρ => ρ.auxChange closed

/-- KAUX_TIMEOUT (R93). -/
def execKauxTimeout (r : RodId) (s : State) : Host.Outcome State Fault Refusal := onRodA s r fun _ ρ => ρ.kauxTimeout

/-- OSD_STEP_END (R455). -/
def execOsdStepEnd (r : RodId) (nodes : Tri (BitVec 16)) (vm : BitVec 16) (s : State) : Host.Outcome State Fault Refusal :=
  onRodA s r fun _ ρ => ρ.osdStepEnd nodes vm.toNat

/-- PRECHARGE_END (R454). -/
def execPrechargeEnd (r : RodId) (low : Tri (BitVec 3)) (s : State) : Host.Outcome State Fault Refusal :=
  onRodA s r fun ps ρ => ρ.prechargeEnd ps low

/-- CONTACTOR_WELDED (R559). -/
def execContactorWelded (r : RodId) (ms : Nat) (s : State) : Host.Outcome State Fault Refusal :=
  onRodA s r fun _ ρ => ρ.contactorWelded ms

/-- SYNC_TIMEOUT (R85). -/
def execSyncTimeout (r : RodId) (s : State) : Host.Outcome State Fault Refusal := onRod s r fun ρ => ρ.syncTimeout

end Sys2Proof.Machine
end

