-- ==== Sys2Proof/Machine/FlexRay.lean ====
section
/-! DEFINITION. The FlexRay controller (spec/05_flexray.md): protocol operation control, startup, reception and
transmission through the message buffers, clock correction, symbols, and the loss of a cluster. -/

namespace Sys2Proof.Machine

/-! ### The balls -/

/-- Whether the transmit balls are driven (R151, R577). -/
def Rod.frDrives (ρ : Rod) : Bool := decide (RS.sync ≤ ρ.state) && !ρ.md.txOff && !ρ.md.hold

/-- The level of X_FTXENA or X_FTXENB, driven high while the controller transmits on the channel and low otherwise, or the other way
round (R150); high impedance while the balls are not driven (R151). -/
def Rod.ftxen (ρ : Rod) (sending : Bool) : Ball :=
  if ρ.frDrives = false then .highZ else if sending = ρ.b Fl.FR_MODE_TXEN_LOW then .low else .high

/-- A channel is enabled in FR_MODE.CH_USE. -/
def Rod.chanOn (ρ : Rod) (c : Chan) : Bool := ρ.bitOf Fl.FR_MODE_CH_USE (if c = .a then 0 else 1)

/-- Sends on a channel, if its balls are driven. -/
def Rod.frSend (ρ : Rod) (o : Ball → Out) : Rod := if ρ.frDrives then ρ.send (o (ρ.ftxen true)) else ρ

/-- Sends a symbol on a channel. -/
def Rod.frSymbol (ρ : Rod) (c : Chan) (kind reps : Nat) : Rod := ρ.frSend fun txen => .symbol c txen kind reps

/-- The channel of wakeup patterns and WUDOPs (R175). -/
def Rod.wakeChan (ρ : Rod) : Chan := if ρ.b Fl.FR_START_WAKE_CH then .b else .a

/-- Whether the controller takes part in the communication of its cluster. -/
def Rod.frRuns (ρ : Rod) : Bool := ρ.clkOn 2 && decide (Poc.startup ≤ ρ.poc) && decide (ρ.poc ≤ Poc.passive)

/-- FR_CNT with the macrotick of the running cycle (Table 5.5), by the controller's own microticks (R141): what the corrections
add to a cycle or take from it is not shared out over its macroticks. (DESIGN CHOICE, log entry 69) -/
def Rod.frCnt (ρ : Rod) : Word :=
  let mt := min (ρ.g Fl.FR_TIMING_MACRO_PER_CYCLE - 1) ((ρ.ck.up - ρ.fr.start) * 25 / (2 * ρ.macroNs))
  if ρ.frRuns then BitVec.ofNat 32 (ρ.g Fl.FR_CNT_CYCLE + 2 ^ 16 * mt) else ρ.gw Rg.FR_CNT

/-- The wakeup pattern has been sent with its repetitions: back to POC ready (R175). How long that takes the spec leaves open.
(DESIGN CHOICE, log entry 69) -/
def Rod.wakeDone (ρ : Rod) : Rod :=
  if ρ.fr.waking = true ∧ ρ.fr.wakeEnd ≤ ρ.ck.up then (ρ.modFr fun f => { f with waking := false }).setPoc Poc.ready else ρ

/-- WAKEUP is accepted: the pattern begins (R175). (DESIGN CHOICE, log entry 69) -/
def Rod.wakeStart (ρ : Rod) : Rod :=
  let (steps, ρ1) := ρ.free 32
  ((ρ1.setPoc Poc.wakeup).modFr fun f => { f with waking := true, wakeEnd := ρ.ck.up + steps }).frSymbol ρ.wakeChan 2
    (ρ.g Fl.FR_START_WUP_REP)

/-! ### Commands of the host -/

/-- FR_CMD that is not possible in this mode or state is refused (Table 5.5). -/
def Rod.frDo (ρ : Rod) (ok : Bool) (f : Rod → Rod) : Rod :=
  if ok then f (ρ.p Fl.FR_STAT_CMD_REFUSED 0) else ρ.p Fl.FR_STAT_CMD_REFUSED 1

/-- A write of FR_CMD (R174, R175, R177, Table 5.5). -/
def Rod.writeFrCmd (ρ0 : Rod) (path : Nat) (data : Word) : Rod :=
  let ρ := ρ0.wakeDone
  let c := wBits data 0 4
  if wBits data 8 8 ≠ 0x5A ∨ c = 0 ∨ 6 < c then ρ.errCap 0x030 0x6 path 0x40 data
  else if c = 1 then
    ρ.frDo (ρ.mode == SM.standby && ρ.poc == Poc.ready) Rod.wakeStart
  else if c = 2 then ρ.frDo (ρ.poc == Poc.active) fun q => q.modFr fun f => { f with mtsA := true }
  else if c = 3 then ρ.frDo (ρ.poc == Poc.active) fun q => q.modFr fun f => { f with mtsB := true }
  else if c = 4 then
    ρ.frDo (ρ.mode == SM.standby && ρ.poc != 0 && ρ.poc != Poc.halt) fun q =>
      ((q.setPoc Poc.halt).flt 0x0603 sevDegrade 0x030 [(0, 1, 2)])
  else if c = 5 then ρ.frDo (ρ.poc == Poc.halt || ρ.fr.clash) fun q => q.pocRestart
  else ρ.frDo (ρ.poc == Poc.active) fun q => q.modFr fun f => { f with wudop := true }

/-! ### Message buffers -/

/-- The fields of MB_CFG that R155 forces on buffer 0 of a sync node, put into its register. (DEDUCED, log entry 38) -/
def Rod.forceKeyBuffer (ρ : Rod) : Rod :=
  if ρ.b Fl.FR_MODE_SYNC then
    (((((ρ.p (Fl.MB_CFG_SLOT 0) (ρ.g Fl.FR_MODE_KEY_SLOT)).p (Fl.MB_CFG_DIR 0) 1).p (Fl.MB_CFG_CH 0)
      (ρ.g Fl.FR_MODE_CH_USE)).p (Fl.MB_CFG_REP 0) 0).p (Fl.MB_CFG_BASE 0) 0).p (Fl.MB_CFG_PL 0) (ρ.g Fl.FR_STATIC_PL_STATIC)
  else ρ

/-- The configuration a buffer works with in the running cycle. -/
def Rod.mbWork (ρ : Rod) (b : Nat) : Word := Sparse.get 0#32 ρ.fr.cfg b

def mbEn (w : Word) : Bool := wBit w 31
def mbTx (w : Word) : Bool := wBit w 30
def mbCh (w : Word) : Nat := wBits w 28 2
def mbSlot (w : Word) : Nat := wBits w 0 11
def mbPl (w : Word) : Nat := wBits w 11 7
/-- Whether a buffer falls in a cycle. -/
def mbDue (w : Word) (cycle : Nat) : Bool := cycle % 64 % 2 ^ wBits w 24 3 == wBits w 18 6
/-- Whether a buffer uses a channel. -/
def mbUses (w : Word) (c : Chan) : Bool := (mbCh w).testBit (if c = .a then 0 else 1)

/-- The data words of a buffer, as its page holds them. -/
def Rod.mbData (ρ : Rod) (b : Nat) : List Word := (List.range 64).map fun i => ρ.gw (Rg.MB_DATA b i)

/-- The page interrupt bit of a buffer (R184). -/
def Rod.mbIrq (ρ : Rod) (b : Nat) : Rod := ρ.irq (0x031 + b / 9) (b % 9)

/-! ### Reception -/

/-- A frame outside its window, or on a channel not idle again, is discarded and counted (R170, R171). -/
def Rod.frWindow (ρ : Rod) (slot : Nat) (f : FrFrame) : Bool :=
  let apo := if slot ≤ ρ.g Fl.FR_STATIC_N_STATIC then ρ.g Fl.FR_TAIL_APO else ρ.g Fl.FR_DYN_MINI_APO
  f.idle && decide (f.offset.natAbs ≤ apo * ρ.macroNs)

def Rod.frViolation (ρ : Rod) (slot : Nat) (c : Chan) : Rod :=
  let fld := if c = .a then Fl.FR_SBV_SBV_A else Fl.FR_SBV_SBV_B
  let last := if c = .a then ρ.fr.sbvA else ρ.fr.sbvB
  let due := match last with
    | none => true
    | some n => decide (n + 64 ≤ ρ.fr.cyc)
  let ρ1 := (ρ.inc fld).irq 0x030 3
  if due then
    (ρ1.modFr fun s => if c = .a then { s with sbvA := some s.cyc } else { s with sbvB := some s.cyc }).flt
      0x0630 sevWarn 0x030 [(0, 1, if c = .a then 0 else 1), (2, 2, slot), (4, 4, ρ1.g fld)]
  else ρ1

/-- The count of FR_ERR for an error on a channel (Table 5.5). -/
def frErrFld (c : Chan) (err : Fin 3) : Fld :=
  if err = 1 then (if c = .a then Fl.FR_ERR_SYNTAX_A else Fl.FR_ERR_SYNTAX_B)
  else if c = .a then Fl.FR_ERR_CONTENT_A else Fl.FR_ERR_CONTENT_B

/-- Judges what came on a channel in a slot: the frame, if it is valid (R170, R178, R181). -/
def Rod.frJudge (ρ : Rod) (slot : Nat) (c : Chan) : Option FrFrame → Option FrFrame × Rod
  | none => (none, ρ)
  | some f =>
    if ρ.chanOn c = false then (none, ρ)
    else if f.err ≠ 0 then (none, ρ.inc (frErrFld c f.err))
    else if ρ.frWindow slot f then
      (some f, ρ.modFr fun s => if c = .a then { s with seenA := true } else { s with seenB := true })
    else (none, ρ.frViolation slot c)

/-- The frame of a slot that a receive buffer takes: that of channel A where both of its channels bring one (R157). -/
def mbPick (w : Word) (a b : Option FrFrame) : Option (Chan × FrFrame) :=
  match (if mbUses w .a then a else none), (if mbUses w .b then b else none) with
  | some f, _ => some (.a, f)
  | none, some f => some (.b, f)
  | none, none => none

/-- Whether both channels of a receive buffer bring a frame and the payloads differ (R157). -/
def mbDiffers (w : Word) (a b : Option FrFrame) : Bool :=
  mbCh w == 3 && (match a, b with
    | some f, some g => f.payload != g.payload
    | _, _ => false)

/-- Stores a frame in a receive buffer (R156 to R158). A frame of a slot counts once in LOST, on whichever of the buffer's
channels it came. (DEDUCED, log entry 38) -/
def Rod.mbStore (ρ : Rod) (b : Nat) (s : FrSlot) (c : Chan) (f : FrFrame) (differs : Bool) : Rod :=
  if ρ.b (Fl.MB_CTRL_HOLD b) then ρ.inc (Fl.MB_STAT_LOST b)
  else
    let ρ1 := ρ.each ((leWords 64 f.payload).zip (List.range 64)) fun w q => q.pw (Rg.MB_DATA b w.2) w.1
    let ρ2 := (((((ρ1.p (Fl.MB_STAT_NEW b) 1).p (Fl.MB_STAT_NULL b) (b2n f.null)).p (Fl.MB_STAT_DIFF b) (b2n differs)).p
      (Fl.MB_STAT_PASSIVE b) (b2n (ρ.poc == Poc.passive))).p (Fl.MB_STAT_RX_CH b) (if c = .a then 1 else 2)).p
      (Fl.MB_STAT_CYCLE b) (s.cycle % 64)
    ((ρ2.p (Fl.MB_STAT_RX_PL b) (f.payload.length / 2)).p (Fl.MB_FT_LO_FT b) (s.ft.toNat % 2 ^ 32)).p (Fl.MB_FT_HI_FT b)
      (s.ft.toNat / 2 ^ 32)

/-- Whether received frames are handed on: in normal active state (R159), while the cluster is not lost (R180). -/
def Rod.frHandsOn (ρ : Rod) : Bool := ρ.poc == Poc.active && !ρ.b Fl.FR_STAT_LOST

/-- The valid frames of a slot in normal operation: stored in every matching receive buffer, and handed on at the end of the slot,
once for each buffer (R156 to R159). A null frame carries no data to hand on. (DEDUCED, log entry 38) -/
def Rod.frDeliver (ρ : Rod) (s : FrSlot) (a b : Option FrFrame) : Rod :=
  let hits := ρ.fr.cfg.filter fun e => mbEn e.2 && !mbTx e.2 && mbSlot e.2 == s.slot && mbDue e.2 (s.cycle % 64)
  ρ.each hits fun e q =>
    match mbPick e.2 a b with
    | none => q
    | some (c, f) =>
      let q1 := (q.mbStore e.1 s c f (mbDiffers e.2 a b)).mbIrq e.1
      if q.frHandsOn && !f.null then q1.streamFrame e.1 f.payload else q1

/-- A frame during startup (R165, R166, R168). A coldstart node that integrates on another one sends its own startup frames from the
fourth cycle on (Table 5.3). (DESIGN CHOICE, log entry 37) -/
def Rod.frStartup (ρ : Rod) (slot cycle : Nat) (c : Chan) (f : FrFrame) : Rod :=
  let key := ρ.g Fl.FR_MODE_KEY_SLOT
  if ρ.b Fl.FR_MODE_SYNC = true ∧ slot = key then
    ((ρ.flt 0x0622 sevWarn 0x030 [(0, 1, if c = .a then 0 else 1), (2, 2, key)]).modFr fun s =>
      { s with clash := true, trying := false, join := none }).setPoc Poc.ready
  else if f.startup = false then ρ
  else if ρ.fr.trying = true then
    if cycle < 4 then
      let ρ1 := ((ρ.inc Fl.FR_COLD_COLL).p Fl.FR_COLD_OTHER_KEY slot).irq 0x030 4
      (ρ1.flt 0x0620 sevInfo 0x030 [(0, 1, ρ.fr.tries), (2, 2, slot)]).modFr fun s =>
        { s with trying := false, join := some (cycle + 4) }
    else ρ
  else if ρ.fr.join.isNone then ρ.modFr fun s => { s with join := some (cycle + 4) }
  else ρ

/-- A time-base frame (R113): accepted as the new base, kept as a candidate, or ignored when its counter byte does not match its
cycle. A cycle brings one: the frame of a cycle that already gave the base or the candidate is that frame again. -/
def Rod.timeBaseFrame (ρ : Rod) (f : TbFrame) : Rod :=
  let had (o : Option (Nat × Nat)) : Bool := (o.map fun b => b.2 == f.cycle).getD false
  if f.counter ≠ f.cycle % 64 ∨ had ρ.tb.base = true ∨ had ρ.tb.cand = true then ρ
  else
    let lim := ρ.g Fl.DISC_CFG_OUT_LIM
    let agrees (b : Nat × Nat) : Bool :=
      decide (((f.base : Int) - ((b.1 : Int) + ((f.cycle : Int) - b.2) * ρ.cycleNs)).natAbs ≤ lim)
    let accept := { ρ with tb := { ρ.tb with base := some (f.base, f.cycle), cand := none } }
    match ρ.tb.base with
    | none => accept
    | some b =>
      if agrees b || (ρ.tb.cand.map agrees).getD false then accept
      else
        ({ ρ with tb := { ρ.tb with cand := some (f.base, f.cycle) } }).flt 0x0267 sevWarn 0x040
          [(0, 1, ρ.me.code), (8, 8, f.base)]

/-- The frame of a slot on a channel. -/
def pickChan (b : Bool) (x y : Option FrFrame) : Option FrFrame := if b then y else x

/-- The time-base frame is captured by logic of its own from the slot and the channel of TB_CFG (R111, R160). -/
def Rod.tbCapture (ρ : Rod) (s : FrSlot) (a b : Option FrFrame) : Rod :=
  match pickChan (ρ.b Fl.TB_CFG_TB_CH) a b with
  | none => ρ
  | some f =>
    if s.slot = ρ.g Fl.TB_CFG_TB_SLOT ∧ f.null = false then
      ρ.timeBaseFrame ⟨leAt f.payload 0 8, leAt f.payload 8 1, s.cycle⟩
    else ρ

/-- The witness frame on the own cluster (R509). -/
def Rod.witCapture (ρ : Rod) (s : FrSlot) (a b : Option FrFrame) : Rod :=
  match pickChan (ρ.b Fl.TD_WIT_CH) a b with
  | none => ρ
  | some f =>
    if s.slot = ρ.g Fl.TD_WIT_SLOT ∧ f.null = false then
      ρ.witness ρ.me ⟨s.cycle, leAt f.payload 0 1, leAt f.payload 1 1, BitVec.ofNat 16 (leAt f.payload 2 2),
        ((f.payload.drop 4).take 12).all (· == 0#8)⟩
    else ρ

/-- Judges both channels of a slot. -/
def Rod.frJudged (ρ : Rod) (s : FrSlot) : Option FrFrame × Option FrFrame × Rod :=
  let (a, ρ1) := ρ.frJudge s.slot .a s.a
  let (b, ρ2) := ρ1.frJudge s.slot .b s.b
  (a, b, ρ2)

/-- A slot in which something was received (R156 to R171). -/
def Rod.frFrame (ρ : Rod) (s : FrSlot) : Rod :=
  if ρ.frRuns then
    let (a, b, ρ1) := ρ.frJudged s
    if ρ1.poc = Poc.startup then
      let q := (a.map fun f => ρ1.frStartup s.slot s.cycle .a f).getD ρ1
      if q.poc = Poc.startup then (b.map fun f => q.frStartup s.slot s.cycle .b f).getD q else q
    else ((ρ1.frDeliver s a b).tbCapture s a b).witCapture s a b
  else ρ

/-- A slot as the logic that captures the time-base frame sees it, whether or not a buffer is configured for it (R160). -/
def Rod.tbSlot (ρ : Rod) (s : FrSlot) : Rod :=
  if ρ.frRuns && ρ.poc != Poc.startup then
    let (a, b, _) := ρ.frJudged s
    ρ.tbCapture s a b
  else ρ

/-! ### The communication cycle -/

/-- Two transmit buffers of different pages that share a slot, a channel and a cycle (R154). -/
def mbClash (a b : Nat × Word) (cycle : Nat) : Bool :=
  a.1 / 9 != b.1 / 9 && mbSlot a.2 == mbSlot b.2 && (mbCh a.2 &&& mbCh b.2) != 0 && mbDue a.2 cycle && mbDue b.2 cycle

/-- Sends the frame of a transmit buffer on those of its channels that CH_USE enables; the frames of the key slot buffer are sync
frames, and startup frames in a coldstart node (R148). Where no channel is left no frame is sent. -/
def Rod.mbSend (ρ : Rod) (b : Nat) (w : Word) (cycle : Nat) (null : Bool) (data : List Word) : Rod :=
  let bytes := if null then [] else (wordBytes data).take (2 * mbPl w)
  let key := b == 0 && ρ.b Fl.FR_MODE_SYNC
  let head : FrHead := ⟨cycle, null, key, key && ρ.b Fl.FR_MODE_COLDSTART, Config.preamble ρ.me b⟩
  let chans := ([Chan.a, Chan.b]).filter fun c => mbUses w c && ρ.chanOn c
  if chans.isEmpty then ρ
  else
    let ρ1 := ρ.each chans fun c q => q.frSend fun txen => .frame c txen (mbSlot w) head bytes
    ((ρ1.p (Fl.MB_STAT_NEW b) 1).p (Fl.MB_STAT_CYCLE b) cycle).mbIrq b

/-- The copy instant of a transmit buffer that is due (R161, R162). -/
def Rod.mbCopy (ρ : Rod) (b : Nat) (w : Word) (cycle : Nat) : Rod :=
  let stat := decide (mbSlot w ≤ ρ.g Fl.FR_STATIC_N_STATIC)
  if ρ.b (Fl.MB_CTRL_READY b) then
    let data := ρ.mbData b
    (((ρ.p (Fl.MB_CTRL_READY b) 0).modFr fun f => { f with last := Sparse.put f.last b data }).mbSend b w cycle false data)
  else if !stat then ρ
  else if Sparse.has ρ.fr.last b && !wBit w 27 then ρ.mbSend b w cycle false (Sparse.get [] ρ.fr.last b)
  else ρ.mbSend b w cycle true []

/-- The conflict of two transmit buffers is recorded once for each pair, at the first cycle in which it arises (R154). -/
def Rod.mbConflict (ρ : Rod) (a e : Nat) : Rod :=
  if ρ.fr.conf.contains (a, e) then ρ
  else
    ((ρ.modFr fun f => { f with conf := f.conf ++ [(a, e)] }).irq 0x030 7).flt 0x0613 sevWarn 0x030 [(0, 2, a), (2, 2, e)]

/-- A transmit buffer in a cycle: sent, unless a lower buffer of another page has the slot (R154). -/
def Rod.mbTransmit (ρ : Rod) (all : List (Nat × Word)) (e : Nat × Word) (cycle : Nat) : Rod :=
  match all.filter fun a => decide (a.1 < e.1) && mbClash a e cycle with
  | [] => ρ.mbCopy e.1 e.2 cycle
  | lower => ρ.each lower fun a q => q.mbConflict a.1 e.1

/-- The cycle that has ended is judged per channel (R149, R178, R179). -/
def Rod.closeCycle (ρ : Rod) : Rod :=
  let f := ρ.fr
  ((ρ.p Fl.FR_STAT_CH_A_OK (b2n f.seenA)).p Fl.FR_STAT_CH_B_OK (b2n f.seenB)).modFr fun f =>
    { f with quietA := if f.seenA then 0 else satN 15 (f.quietA + 1), quietB := if f.seenB then 0 else satN 15 (f.quietB + 1)
             good := if f.seenA || f.seenB then satN 15 (f.good + 1) else 0
             silA := f.silA && !f.seenA, silB := f.silB && !f.seenB, seenA := false, seenB := false }

/-- The symbols commanded in the cycle before go out in the symbol window, if the controller is in normal active state and there
is one; otherwise they are dropped (R177). (DEDUCED, log entry 38) -/
def Rod.frSymbols (ρ : Rod) : Rod :=
  let f := ρ.fr
  let go := ρ.poc == Poc.active && ρ.g Fl.FR_TAIL_SYM_WIN != 0
  let ρ1 := (ρ.when (go && f.mtsA) (·.frSymbol .a 1 1)).when (go && f.mtsB) (·.frSymbol .b 1 1)
  (ρ1.when (go && f.wudop) (·.frSymbol ρ.wakeChan 3 1)).modFr fun f => { f with mtsA := false, mtsB := false, wudop := false }

/-- Whether the controller sends its startup frames in a cycle of the startup: while it leads its own attempt, and once it has
joined that of another node (R142, Table 5.3). (DESIGN CHOICE, log entry 37) -/
def Rod.sendsStartup (ρ : Rod) (cycle : Nat) : Bool :=
  ρ.b Fl.FR_MODE_COLDSTART && (ρ.fr.trying || (ρ.fr.join.map fun n => decide (n ≤ cycle)).getD false)

/-- The transmit buffers that are due in a cycle: all of them in normal active state, the key slot buffer alone during startup. -/
def Rod.txDue (ρ : Rod) (cycle : Nat) : List (Nat × Word) :=
  let due := ρ.fr.cfg.filter fun e => mbEn e.2 && mbTx e.2 && mbDue e.2 cycle
  if ρ.poc = Poc.active then due
  else if ρ.poc = Poc.startup ∧ ρ.sendsStartup cycle = true then due.filter fun e => e.1 == 0
  else []

/-- The start of a communication cycle (R152, R154, R161). -/
def Rod.cycleStart (ρ : Rod) (cycle : Nat) : Rod :=
  if ρ.frRuns then
    let ρ1 := ρ.closeCycle.modFr fun f =>
      { f with cyc := cycle, start := ρ.ck.up
               cfg := (List.range 128).foldl (fun m b => Sparse.set 0#32 m b (ρ.gw (Rg.MB_CFG b))) [] }
    let ρ2 := (ρ1.p Fl.FR_CNT_CYCLE (cycle % 64)).p Fl.FR_CNT_MT 0
    let due := ρ2.txDue cycle
    (ρ2.each due fun e q => q.mbTransmit due e (cycle % 64)).frSymbols
  else ρ.modFr fun f => { f with mtsA := false, mtsB := false, wudop := false }

/-! ### Startup and clock correction -/

/-- A coldstart node sends a collision-avoidance symbol (R166). -/
def Rod.coldAttempt (ρ : Rod) : Rod :=
  if ρ.poc = Poc.startup ∧ ρ.b Fl.FR_MODE_COLDSTART = true ∧ ρ.g Fl.FR_COLD_ATT_LEFT ≠ 0 then
    let ρ1 := (ρ.p Fl.FR_COLD_ATT_LEFT (ρ.g Fl.FR_COLD_ATT_LEFT - 1)).modFr fun f =>
      { f with trying := true, tries := f.tries + 1 }
    ρ1.each (([Chan.a, Chan.b]).filter ρ.chanOn) fun c q => q.frSymbol c 0 1
  else ρ

/-- No attempt is left (R167). -/
def Rod.coldExhausted (ρ : Rod) : Rod :=
  if ρ.poc = Poc.startup ∧ ρ.g Fl.FR_COLD_ATT_LEFT = 0 ∧ ρ.fr.tries ≠ 0 then
    (ρ.modFr fun f => { f with trying := false, tries := 0 }).flt 0x0621 sevWarn 0x030 [(0, 1, ρ.g Fl.FR_START_COLD_ATT)]
  else ρ

/-- A failed clock correction, with its cause and the correction it concerns (R172, R173). -/
def Rod.corrFail (ρ : Rod) (cause : Nat) (last : Int) : Rod :=
  let ρ1 := ((ρ.inc Fl.FR_SYNC_NOCORR).irq 0x030 6).modFr fun f => { f with p2a := 0 }
  let n := ρ1.g Fl.FR_SYNC_NOCORR
  let ρ2 := if ρ1.poc = Poc.active ∧ ρ1.g Fl.FR_CSYNC_1_PASSIVE ≤ n then
      (ρ1.setPoc Poc.passive).flt 0x0602 sevDegrade 0x030 [(0, 1, cause), (4, 4, natOfInt 32 last)]
    else ρ1
  if ρ2.b Fl.FR_CSYNC_1_HALT_CLK = true ∧ ρ2.g Fl.FR_CSYNC_1_FATAL ≤ n ∧ (ρ2.poc = Poc.active ∨ ρ2.poc = Poc.passive) then
    (ρ2.setPoc Poc.halt).flt 0x0603 sevDegrade 0x030 [(0, 1, 1)]
  else ρ2

/-- A successful clock correction: startup ends with the first, normal passive after P2A in a row (R169, R173).
(DESIGN CHOICE, log entry 37) -/
def Rod.corrGood (ρ : Rod) : Rod :=
  let ρ1 := ρ.p Fl.FR_SYNC_NOCORR 0
  if ρ1.poc = Poc.startup then
    ((ρ1.p Fl.FR_STAT_LEADER (b2n ρ1.fr.trying)).modFr fun f => { f with trying := false, join := none }).setPoc Poc.active
  else if ρ1.poc = Poc.passive then
    let n := ρ1.fr.p2a + 1
    let ρ2 := ρ1.modFr fun f => { f with p2a := n }
    if ρ1.g Fl.FR_CSYNC_1_P2A ≤ n then (ρ2.modFr fun f => { f with p2a := 0 }).setPoc Poc.active else ρ2
  else ρ1

/-- The clock correction of a double cycle, in microticks (R172). (DESIGN CHOICE, log entry 37) -/
def Rod.clockCorrection (ρ : Rod) (rate offset : Int) (pairs nodes : Nat) : Rod :=
  if ρ.frRuns then
    let rl : Int := ρ.g Fl.FR_CSYNC_0_RATE_OUT
    let ol : Int := ρ.g Fl.FR_CSYNC_0_OFFS_OUT
    let rBad := decide (rl < rate.natAbs)
    let oBad := decide (ol < offset.natAbs)
    let r := clampI (-rl) rl rate
    let o := clampI (-ol) ol offset
    let ρ1 := ((((ρ.p Fl.FR_CORR_RATE (natOfInt 16 r)).p Fl.FR_CORR_OFFSET (natOfInt 16 o)).p Fl.FR_SYNC_RATE_LIM (b2n rBad)).p
      Fl.FR_SYNC_OFFS_LIM (b2n oBad)).p Fl.FR_SYNC_SYNC_N (min nodes (ρ.g Fl.FR_CSYNC_1_SYNC_MAX))
    if rBad then ρ1.corrFail 1 r else if oBad then ρ1.corrFail 2 o else if pairs < 2 then ρ1.corrFail 3 r else ρ1.corrGood
  else ρ

/-! ### Loss of a channel or of the cluster, wakeup -/

/-- A channel silent for LOSS_CYC cycles (R149). -/
def Rod.channelSilent (ρ : Rod) (c : Chan) : Rod :=
  let quiet := if c = .a then ρ.fr.quietA else ρ.fr.quietB
  let was := if c = .a then ρ.fr.silA else ρ.fr.silB
  if ρ.chanOn c && (ρ.poc == Poc.active || ρ.poc == Poc.passive) && decide (ρ.g Fl.FR_LOSS_LOSS_CYC ≤ quiet) && !was then
    (ρ.modFr fun f => if c = .a then { f with silA := true } else { f with silB := true }).flt 0x0612 sevWarn 0x030
      [(0, 1, if c = .a then 0 else 1)]
  else ρ

/-- The cluster is lost (R178). -/
def Rod.clusterLost (ρ : Rod) (cause : Nat) : Rod :=
  let n := ρ.g Fl.FR_LOSS_LOSS_CYC
  let holds := (cause == 1 && ρ.poc != Poc.active) ||
    (cause == 2 && ρ.poc == Poc.active && decide (n ≤ ρ.fr.quietA) && decide (n ≤ ρ.fr.quietB))
  if holds && !ρ.b Fl.FR_STAT_LOST then
    (((ρ.p Fl.FR_STAT_LOST 1).irq 0x030 1).modFr fun f => { f with lostFt := ρ.ft, good := 0 }).flt 0x0610 sevDegrade 0x030
      [(0, 1, cause)]
  else ρ

/-- The cluster is back (R179). -/
def Rod.clusterBack (ρ : Rod) : Rod :=
  if ρ.b Fl.FR_STAT_LOST && ρ.poc == Poc.active && decide (ρ.g Fl.FR_LOSS_LOSS_CYC ≤ ρ.fr.good) then
    ((ρ.p Fl.FR_STAT_LOST 0).irq 0x030 2).flt 0x0611 sevInfo 0x030 [(4, 4, (ρ.ft - ρ.fr.lostFt) / 1000000)]
  else ρ

/-- A wakeup pattern in POC ready or startup, or a WUDOP in the symbol window (R176). -/
def Rod.wakeRx (ρ0 : Rod) (c : Chan) (wudop : Bool) : Rod :=
  let ρ := ρ0.wakeDone
  let ok := if wudop then ρ.poc == Poc.active || ρ.poc == Poc.passive else ρ.poc == Poc.ready || ρ.poc == Poc.startup
  if ok && ρ.chanOn c then
    ((ρ.p (if c = .a then Fl.FR_STAT_WAKE_RX_A else Fl.FR_STAT_WAKE_RX_B) 1).irq 0x030 5).flt 0x0640 sevInfo 0x030
      [(0, 1, if c = .a then 0 else 1), (1, 1, if wudop then 2 else 1)]
  else ρ

/-- Activity during a wakeup pattern aborts it (R175). -/
def Rod.wakeCollision (ρ0 : Rod) : Rod :=
  let ρ := ρ0.wakeDone
  if ρ.fr.waking then
    ((ρ.modFr fun f => { f with waking := false }).setPoc Poc.ready).flt 0x0641 sevInfo 0x030
      [(0, 1, ρ.g Fl.FR_START_WAKE_CH)]
  else ρ

/-! ### The commands -/

/-- FR_FRAME_RECEIVE (R156). -/
def execFrFrameReceive (r : RodId) (frame : FrSlot) (s : State) : Host.Outcome State Fault Refusal :=
  onRod s r fun ρ => ρ.frFrame frame

/-- CYCLE_START (R161). -/
def execCycleStart (r : RodId) (cycle : Nat) (s : State) : Host.Outcome State Fault Refusal :=
  onRod s r fun ρ => ρ.cycleStart cycle

/-- COLDSTART_ATTEMPT (R166). -/
def execColdstartAttempt (r : RodId) (s : State) : Host.Outcome State Fault Refusal := onRod s r fun ρ => ρ.coldAttempt

/-- COLD_EXHAUSTED (R167). -/
def execColdExhausted (r : RodId) (s : State) : Host.Outcome State Fault Refusal := onRod s r fun ρ => ρ.coldExhausted

/-- CLOCK_CORRECTION (R172). -/
def execClockCorrection (r : RodId) (rate offset : Int) (pairs nodes : Nat) (s : State) : Host.Outcome State Fault Refusal :=
  onRod s r fun ρ => ρ.clockCorrection rate offset pairs nodes

/-- CHANNEL_SILENT (R149). -/
def execChannelSilent (r : RodId) (chan : Chan) (s : State) : Host.Outcome State Fault Refusal :=
  onRodV s r fun ps ρ => (ρ.channelSilent chan).ctReview ps

/-- CLUSTER_LOST (R178). -/
def execClusterLost (r : RodId) (cause : Nat) (s : State) : Host.Outcome State Fault Refusal :=
  onRodV s r fun ps ρ => (ρ.clusterLost cause).ctReview ps

/-- CLUSTER_BACK (R179). -/
def execClusterBack (r : RodId) (s : State) : Host.Outcome State Fault Refusal := onRod s r fun ρ => ρ.clusterBack

/-- WAKE_RX (R176). -/
def execWakeRx (r : RodId) (chan : Chan) (wudop : Bool) (s : State) : Host.Outcome State Fault Refusal :=
  onRod s r fun ρ => ρ.wakeRx chan wudop

/-- WAKE_COLLISION (R175). -/
def execWakeCollision (r : RodId) (s : State) : Host.Outcome State Fault Refusal := onRod s r fun ρ => ρ.wakeCollision

end Sys2Proof.Machine
end

