-- ==== Sys2Proof/Machine/Frame.lean ====
section
/-! DEFINITION. The counting frame (spec/04_counting_frame.md): time-base frames, captures, the median and its fall-backs,
remainder discipline, lock and holdover. Errors are kept in picoseconds. -/

namespace Sys2Proof.Machine

/-- The distance of two numbers. -/
def dist (a b : Int) : Nat := (a - b).natAbs

/-- Whether a time-base frame was accepted in the cycle of the capture or in one of the two before it (R113). -/
def Rod.baseFresh (ρ : Rod) (cycle : Nat) : Bool :=
  match ρ.tb.base with
  | none => false
  | some b => decide (b.2 ≤ cycle) && decide (cycle ≤ b.2 + 2)

/-- The own cluster time at a capture instant, in ps (R112). -/
def Rod.clusterTime (ρ : Rod) (pos : ClusterPos) : Int :=
  match ρ.tb.base with
  | none => 0
  | some b =>
    let ns : Int := (b.1 : Int) + ((pos.cycle : Int) - b.2) * ρ.cycleNs + pos.macrotick * ρ.macroNs + ρ.g Fl.CL_DELAY_DELAY
    ns * 1000 + pos.microtick * 12500

/-- FT in ps, with the part of a step that the phase of PLL2 gives (R123). -/
def Rod.ftPs (ρ : Rod) (phase : Nat) : Int := ((12500 * ρ.ftn + phase : Nat) : Int)

/-- Whether the own cluster time is valid at a capture (R113); that of a lost cluster is not (R180). -/
def Rod.ownTimeValid (ρ : Rod) (pos : ClusterPos) : Bool :=
  ρ.g Fl.FR_STAT_POC == 5 && !ρ.b Fl.FR_STAT_LOST && ρ.baseFresh pos.cycle

/-- Whether FT stands at a capture instant (R114): where ticks run, at the first tick boundary at or after a multiple of 250,000 ns,
the boundary before it lying before that multiple; else at the multiple itself. -/
def Rod.atCapture (ρ : Rod) : Bool :=
  if ρ.ticksRun then
    let last := 2 * (ρ.g Fl.TICK_FT_LO_FT + 2 ^ 32 * ρ.g Fl.TICK_FT_HI_FT)
    let before := if last < 2 * ρ.ft then max last ρ.pwm.prev else ρ.pwm.prev
    ρ.atInstant && decide (before < ρ.ft / 250000 * 500000)
  else ρ.ftn % 20000 == 0

/-- A capture instant (R114, R115): the own cluster time and FT are captured and sent, and the receive window opens. The frame
leaves within 5 µs; by how much the spec leaves open: a free value. (DESIGN CHOICE, log entry 67) -/
def Rod.timeCapture (ρ : Rod) (ft : Nat) (pos : ClusterPos) (phase : Nat) : Rod :=
  let ρ0 := ρ.atFt ft
  if ρ.state < RS.sync ∨ ρ.clkOn 3 = false ∨ ρ0.atCapture = false then ρ
  else
    let v := ρ0.ownTimeValid pos
    let t := ρ0.clusterTime pos
    let f := ρ0.ftPs phase
    let errs := (Tri.rep none).set ρ0.me.idx (if v then some (t - f) else none)
    let (lag, ρ1) := ρ0.free 13
    ({ ρ1 with tb := { ρ1.tb with open_ := true, capFt := ρ1.ft, errs := errs, offs := Tri.rep none } }).send
      (.time ⟨v, t, f, f + 1000 * (min lag 5000 : Nat)⟩)

/-- The transit of the path from a partner (R670): that of the own link, or of a relayed frame those of both links and the relay
time. -/
def Rod.transit (ρ : Rod) (ps : RodId → Rod) (src : RodId) : Int :=
  let t := ρ.me.third src
  if ρ.linkUp src then (ρ.red.tau.get src.idx : Int)
  else ((ρ.red.tau.get t.idx + (ps t).red.tau.get src.idx + (Config.relayPs t).val : Nat) : Int)

/-- A partner's time frame arrives at `ft`, within 20 µs of the capture instant (R115, R670). -/
def Rod.timeFrame (ρ : Rod) (ps : RodId → Rod) (src : RodId) (ft : Nat) (m : TimeMsg) : Rod :=
  let ρ1 := ρ.atFt ft
  if ρ.tb.open_ && src != ρ.me && decide (ρ1.ft ≤ ρ.tb.capFt + 20000) then
    let δ := ρ1.ftPs 0 - ρ.transit ps src - m.fttx
    { ρ1 with tb := { ρ1.tb with
        errs := ρ1.tb.errs.set src.idx (if m.valid then some (m.ts - m.fts - δ) else none)
        offs := ρ1.tb.offs.set src.idx (some δ)
        takes := ρ1.tb.takes.set src.idx ((ps src).tb.used.get ρ.me.idx) } }
  else ρ

/-- The middle one of three. -/
def med3 (a b c : Int) : Int := max (min a b) (min (max a b) c)

/-- T_ref minus FT and FT_STAT.SRC_MODE for the valid cluster errors in hand (Table 4.1). (DEDUCED, log entry 36) -/
def refOf (lim : Nat) : List Int → Option Int × Nat
  | [a, b, c] => (some (med3 a b c), 0)
  | [a, b] => if (a - b).natAbs ≤ lim * 1000 then (some ((a + b) / 2), 1) else (none, 3)
  | [a] => (some a, 2)
  | _ => (none, 3)

/-- T_ref minus FT in holdover (R119): the median or midpoint of the FTs of the live rods; none for a single rod.
(DEDUCED, log entry 36) -/
def holdRef (own : Int) : List Int → Option Int
  | [a, b] => some (med3 own (-a) (-b))
  | [a] => some ((own - a) / 2)
  | _ => none

/-- A signed quantity as the word a register holds it, saturating (R136). -/
def satWord (x : Int) : Nat := natOfInt 32 (clampI (-2147483647) 2147483647 x)

/-- The record of an event register, with the interval in whole ms (R580, R595). (DEDUCED, log entry 12) -/
def Rod.evtRecord (ρ : Rod) (page : Nat) (e : AonEvt) : Rod :=
  ρ.flt e.code sevWithdraw page [(0, 1, e.b0), (1, 1, e.b1), (4, 4, e.steps / 80000)]

/-- The records owed since the restart, at the first instant at which FT is valid (R580, R595, R607).
(DEDUCED, log entries 12, 77) -/
def Rod.owedRecords (ρ : Rod) : Rod :=
  let ρ1 := (ρ.each ρ.aon.clkEvts fun e q => q.evtRecord 0x002 e).each ρ.aon.supEvt.toList fun e q => q.evtRecord 0x003 e
  let ρ2 := ρ1.when ρ1.ck.owed fun q => q.flt 0x0310 sevInfo 0x003
      [(0, 1, q.g Fl.LAST_WAKE_SRC), (1, 1, q.g Fl.LAST_WAKE_SHUT), (2, 2, q.g Fl.LAST_WAKE_WAKES)]
  { ρ2 with aon := { ρ2.aon with clkEvts := [], supEvt := none }, ck := { ρ2.ck with owed := false } }

/-- The step of FT onto T_ref in SYNC (R121): FT takes the last value of the run of R9 that T_ref has reached; REMAINDER shows the E
of the capture. A cluster without a time at the step counts as lost (R118). (DEDUCED, log entry 36) (DESIGN CHOICE, log entry 57) -/
def Rod.ftStep (ρ : Rod) (e : Int) : Rod :=
  let t := ρ.ftPs 0 + e
  let ρ0 := (ρ.p Fl.REMAINDER_E (satWord e)).moveFt (t / 12500).toNat
  let ρ1 := { ρ0 with tb := { ρ.tb with excl := ρ.tb.errs.map Option.isNone } }
  ((ρ1.p Fl.FT_STAT_VALID 1).flt 0x0260 sevInfo 0x040 [(8, 8, ρ1.ft)]).owedRecords

/-- Why a cluster time in use before is missing at this capture (Table 4.6): the controller of its rod is not normal active 1, or
holds no fresh time-base frame 2; no time frame has come 4. -/
def Rod.lossReason (ρ : Rod) (ps : RodId → Rod) (c : RodId) : Nat :=
  if c ≠ ρ.me ∧ (ρ.tb.offs.get c.idx).isNone then 4
  else if (if c = ρ.me then ρ else ps c).g Fl.FR_STAT_POC = 5 then 2 else 1

/-- The rate correction of R123, from the error in ps; the step from ps and ppm to its exact units is 16 and 64. -/
def Rod.discipline (ρ : Rod) (e : Int) : Rod :=
  let s : Int := ρ.g Fl.DISC_CFG_SLEW_MAX
  let integ := clampI (-(s * 16000)) (s * 16000) (ρ.tb.integ64 + e)
  let rate := clampI (-(s * 16000)) (s * 16000) (8 * e + integ)
  ({ ρ with tb := { ρ.tb with integ64 := integ } }).p Fl.RATE_CORR_RATE
    (natOfInt 32 (divRoundAway rate 16))

/-- Counts of captures toward LOCKED and away from it (R124), and toward XMOD_OK (R120). -/
def Rod.countCapture (ρ : Rod) (e : Int) : Rod :=
  let near : Bool := decide (e.natAbs ≤ 50000)
  let hold := ρ.b Fl.FT_STAT_HOLD
  { ρ with tb := { ρ.tb with
      good := if near then satN 0xFFFF (ρ.tb.good + 1) else 0
      bad := if near then 0 else satN 0xFFFF (ρ.tb.bad + 1)
      xmod := if near && !hold then satN 0xFFFF (ρ.tb.xmod + 1) else 0 } }

/-- One cluster at the close of a window: its error shown, loss recorded, outliers marked and counted (R117, R118). `stepped` says
that FT carries time, `med` is the median where three cluster times are valid. The OUTLIER event is raised at a new mark alone,
and the mark is cleared at the exclusion; the spec leaves both open. (DESIGN CHOICE, log entry 68) -/
def Rod.judgeCluster (ρ : Rod) (ps : RodId → Rod) (stepped : Bool) (med : Option Int) (c : RodId) : Rod :=
  let i := c.idx
  let err := ρ.tb.errs.get i
  let shown := match err with
    | some e => natOfInt 32 (divRoundAway e 1000)
    | none => 0x80000000
  let last := ρ.g (Fl.CT_ERR_ERR c.code)
  let ρ1 := ρ.p (Fl.CT_ERR_ERR c.code) shown
  let lim := ρ1.g Fl.DISC_CFG_OUT_LIM * 1000
  match err with
  | none =>
    let ρ2 := if ρ1.tb.used.get i && stepped then
        let q := ρ1.flt 0x0261 sevWarn 0x040 [(0, 1, c.code), (1, 1, ρ1.lossReason ps c), (4, 4, last)]
        { q with tb := { q.tb with excl := q.tb.excl.set i true } }
      else ρ1
    { ρ2 with tb := { ρ2.tb with used := ρ2.tb.used.set i false, outN := ρ2.tb.outN.set i 0
                                 backN := ρ2.tb.backN.set i 0 } }.clrBit Fl.FT_STAT_OUTLIER c.code
  | some e =>
    if ρ1.tb.excl.get i then
      { ρ1 with tb := { ρ1.tb with used := ρ1.tb.used.set i false
                                   backN := ρ1.tb.backN.set i (if e.natAbs ≤ lim then ρ1.tb.backN.get i + 1 else 0) } }
    else
      let out : Bool := match med with
        | some m => stepped && decide (lim < (e - m).natAbs)
        | none => false
      let was := ρ1.bitOf Fl.FT_STAT_OUTLIER c.code
      let ρ2 := { ρ1 with tb := { ρ1.tb with used := ρ1.tb.used.set i true
                                             outN := ρ1.tb.outN.set i (if out then ρ1.tb.outN.get i + 1 else 0) } }
      if out then (ρ2.setBit Fl.FT_STAT_OUTLIER c.code).when (!was) (·.irq 0x040 3)
      else ρ2.clrBit Fl.FT_STAT_OUTLIER c.code

/-- The errors of the cluster times that take part in Table 4.1. -/
def Rod.sources (ρ : Rod) : List Int :=
  allRods.filterMap fun c =>
    if ρ.tb.excl.get c.idx && ρ.b Fl.FT_STAT_VALID then none else ρ.tb.errs.get c.idx

/-- The median, where three cluster times take part (R117). -/
def medianOf : List Int → Option Int
  | [a, b, c] => some (med3 a b c)
  | _ => none

/-- |E| beyond LOSS_LIM (R125): the record, then FENCED from ACTIVE, or back to SYNC. -/
def Rod.lossOfLock (ρ : Rod) (e : Int) : Rod :=
  if RS.serving ρ.state && decide (ρ.g Fl.HOLD_CFG_LOSS_LIM * 1000 < e.natAbs) then
    let ρ1 := ρ.flt 0x0266 sevWithdraw 0x040 [(0, 1, ρ.state), (4, 4, natOfInt 32 (divRoundAway e 1000))]
    if ρ.state = RS.active then ρ1.withdrawDie else ρ1.toSync
  else ρ

/-- The receive window closes (R116 to R125). In SYNC before the step, without a T_ref, SRC_MODE shows 3 but there is no holdover
yet: HOLD stays 0 and no record 0x0263 is written. (DESIGN CHOICE, log entry 68) -/
def Rod.captureWindowClose (ρ : Rod) (ps : RodId → Rod) : Rod :=
  if ρ.tb.open_ = false then ρ
  else
    let stepped := ρ.b Fl.FT_STAT_VALID
    let src := ρ.sources
    let lim := ρ.g Fl.DISC_CFG_OUT_LIM
    let (ref, mode) := refOf lim src
    let ρ1 := ({ ρ with tb := { ρ.tb with open_ := false } }).each allRods
      fun c q => q.judgeCluster ps stepped (medianOf src) c
    let usedMask := rodMask (allRods.filter fun c => ρ1.tb.used.get c.idx && ref.isSome)
    let ρ2 := (ρ1.when (usedMask != ρ1.g Fl.FT_STAT_SRC_USED) (·.irq 0x040 1)).p Fl.FT_STAT_SRC_USED usedMask
    let ρ3 := ρ2.p Fl.FT_STAT_SRC_MODE mode
    let wasHold := ρ3.b Fl.FT_STAT_HOLD
    match ref with
    | some e =>
      if stepped = false ∧ ρ3.state = RS.sync then ρ3.ftStep e
      else
        let ρ4 := ρ3.when wasHold fun q =>
          ({ q with tb := { q.tb with xmod := 0 } }.p Fl.FT_STAT_HOLD 0).irq 0x040 2
        (((ρ4.p Fl.REMAINDER_E (satWord e)).discipline e).countCapture e).lossOfLock e
    | none =>
      if stepped = false then ρ3
      else
        let two : Option Nat := match src with
          | [a, b] => some ((a - b).natAbs / 1000)
          | _ => none
        let ρ4 := ρ3.when (!wasHold) fun q =>
          (({ q with tb := { q.tb with holdFt := q.ft, expired := false } }.p Fl.FT_STAT_HOLD 1).irq 0x040 2).flt
            0x0263 sevDegrade 0x040 [(0, 1, if two.isSome then 2 else 1), (4, 4, two.getD 0)]
        match holdRef 0 ((ρ4.me.partners.filter ρ4.live).filterMap fun p => ρ4.tb.offs.get p.idx) with
        | some e => (((ρ4.p Fl.REMAINDER_E (satWord e)).discipline e).countCapture e).lossOfLock e
        | none => ρ4.p Fl.REMAINDER_E 0

/-- LOCKED is set after 16 near captures, or cleared after 16 far ones (R124); XMOD_OK comes with it unless a holdover has outlasted
HOLD_LIM (R120). A rod in SYNC becomes READY with it, once its carry links are known (R83, R129, R479). -/
def Rod.lockAcquired (ρ : Rod) (ps : RodId → Rod) : Rod :=
  if 16 ≤ ρ.tb.good ∧ ρ.b Fl.FT_STAT_LOCKED = false then
    let ρ1 := (ρ.p Fl.FT_STAT_LOCKED 1).irq 0x040 0
    (if ρ1.tb.expired then ρ1 else ρ1.p Fl.FT_STAT_XMOD_OK 1).trySync ps
  else ρ

def Rod.lockedClear (ρ : Rod) : Rod :=
  if 16 ≤ ρ.tb.bad ∧ ρ.b Fl.FT_STAT_LOCKED = true then (ρ.p Fl.FT_STAT_LOCKED 0).irq 0x040 0 else ρ

/-- Eight consecutive outlier captures exclude a cluster (R117). -/
def Rod.srcExcluded (ρ : Rod) (c : RodId) : Rod :=
  if 8 ≤ ρ.tb.outN.get c.idx ∧ ρ.tb.excl.get c.idx = false ∧ ρ.b Fl.FT_STAT_VALID = true then
    let ρ1 := { ρ with tb := { ρ.tb with excl := ρ.tb.excl.set c.idx true, outN := ρ.tb.outN.set c.idx 0
                                         backN := ρ.tb.backN.set c.idx 0, used := ρ.tb.used.set c.idx false } }
    (ρ1.clrBit Fl.FT_STAT_OUTLIER c.code).flt 0x0261 sevWarn 0x040
      [(0, 1, c.code), (1, 1, 3), (4, 4, ρ.g (Fl.CT_ERR_ERR c.code))]
  else ρ

/-- Eight consecutive valid captures within OUT_LIM re-admit it (R118). -/
def Rod.srcReadmitted (ρ : Rod) (c : RodId) : Rod :=
  if 8 ≤ ρ.tb.backN.get c.idx ∧ ρ.tb.excl.get c.idx = true ∧ ρ.b Fl.FT_STAT_VALID = true then
    ({ ρ with tb := { ρ.tb with excl := ρ.tb.excl.set c.idx false, backN := ρ.tb.backN.set c.idx 0 } }).flt
      0x0262 sevInfo 0x040 [(0, 1, c.code)]
  else ρ

/-- Holdover longer than HOLD_LIM (R120). (DESIGN CHOICE, log entry 74) -/
def Rod.holdExpired (ρ : Rod) : Rod :=
  if ρ.b Fl.FT_STAT_HOLD = true ∧ ρ.tb.expired = false ∧
      ρ.tb.holdFt + ρ.g Fl.HOLD_CFG_HOLD_LIM * 1000000 < ρ.ft + (if ρ.ticksRun then ρ.tickNow / 2 else 0) then
    let ρ1 := ρ.when (ρ.b Fl.FT_STAT_XMOD_OK) (·.irq 0x040 4)
    (({ ρ1 with tb := { ρ1.tb with expired := true, xmod := 0 } }).p Fl.FT_STAT_XMOD_OK 0).flt 0x0264 sevDegrade 0x040
      [(4, 4, (ρ1.ft - ρ1.tb.holdFt) / 1000000)]
  else ρ

/-- Sixteen near captures after the end of holdover bring XMOD_OK back (R120). -/
def Rod.xmodReturn (ρ : Rod) : Rod :=
  if ρ.b Fl.FT_STAT_HOLD = false ∧ ρ.tb.expired = true ∧ 16 ≤ ρ.tb.xmod then
    ({ ρ with tb := { ρ.tb with expired := false } }).p Fl.FT_STAT_XMOD_OK 1
  else ρ

/-- A write of SNAP_CTRL.TAKE copies FT (R137). -/
def Rod.writeSnap (ρ : Rod) (data : Word) : Rod :=
  if wBit data 0 then
    (ρ.p Fl.SNAP_FT_LO_FT (ρ.ft % 2 ^ 32)).p Fl.SNAP_FT_HI_FT (ρ.ft / 2 ^ 32)
  else ρ

/-- One step of the intervals of VAON that still count (R580, R595). -/
def Aon.count (a : Aon) : Aon :=
  let go (e : AonEvt) : AonEvt := if e.run then { e with steps := e.steps + 1 } else e
  { a with clkEvts := a.clkEvts.map go, supEvt := a.supEvt.map go }

/-- On an empty queue FT advances by one step in every rod whose PWM clock runs (R9), and the time since power-on in every rod
whose power-on reset is released or that is being woken (R108), and the intervals of VAON to the release of reset; a wakeup
pattern ends at its time (R175). (DESIGN CHOICE, log entry 2) -/
def idle (s : State) : State :=
  let go (ρ : Rod) : Rod :=
    let ρ0 := { ρ with aon := ρ.aon.count }
    let ρ1 := if ρ.clkOn 3 then { ρ0 with ftn := ρ.ftn + 1 } else ρ0
    let ρ2 := if ρ.ck.started || ρ.aon.pewake then { ρ1 with ck := { ρ1.ck with up := ρ1.ck.up + 1 } } else ρ1
    if ρ2.fr.waking then ρ2.wakeDone.flush else ρ2
  { s with x := go s.x, y := go s.y, z := go s.z }

/-! ### The commands -/

/-- TIME_BASE_FRAME (R113, R160). -/
def execTimeBaseFrame (r : RodId) (frame : FrSlot) (s : State) : Host.Outcome State Fault Refusal :=
  onRod s r fun ρ => ρ.tbSlot frame

/-- TIME_CAPTURE (R115). -/
def execTimeCapture (r : RodId) (ft : CaptureAt) (pos : ClusterPos) (s : State) : Host.Outcome State Fault Refusal :=
  onRod s r fun ρ => ρ.timeCapture ft.ft.toNat pos ft.phase

/-- TIME_FRAME (R115, R670). -/
def execTimeFrame (r src : RodId) (msg : TimeArrival) (s : State) : Host.Outcome State Fault Refusal :=
  onRodV s r fun ps ρ => ρ.timeFrame ps src msg.ft.toNat msg.msg

/-- CAPTURE_WINDOW_CLOSE (R116). -/
def execCaptureWindowClose (r : RodId) (s : State) : Host.Outcome State Fault Refusal :=
  onRodV s r fun ps ρ => ρ.captureWindowClose ps

/-- LOCK_ACQUIRED (R124). -/
def execLockAcquired (r : RodId) (s : State) : Host.Outcome State Fault Refusal :=
  onRodV s r fun ps ρ => ρ.lockAcquired ps

/-- LOCKED_CLEAR (R124). -/
def execLockedClear (r : RodId) (s : State) : Host.Outcome State Fault Refusal := onRod s r fun ρ => ρ.lockedClear

/-- SRC_EXCLUDED (R117). -/
def execSrcExcluded (r cluster : RodId) (s : State) : Host.Outcome State Fault Refusal :=
  onRod s r fun ρ => ρ.srcExcluded cluster

/-- SRC_READMITTED (R118). -/
def execSrcReadmitted (r cluster : RodId) (s : State) : Host.Outcome State Fault Refusal :=
  onRod s r fun ρ => ρ.srcReadmitted cluster

/-- HOLD_EXPIRED (R120). -/
def execHoldExpired (r : RodId) (s : State) : Host.Outcome State Fault Refusal := onRod s r fun ρ => ρ.holdExpired

/-- XMOD_RETURN (R120). -/
def execXmodReturn (r : RodId) (s : State) : Host.Outcome State Fault Refusal := onRod s r fun ρ => ρ.xmodReturn

end Sys2Proof.Machine
end

