-- ==== Sys2Proof/Machine/Clocks.lean ====
section
/-! DEFINITION. Clock sources, domains and monitors (spec/17_clocks.md): the reactions of Table 17.5, the proof of the
crystal, source switches, the frequency measurement and the clock output. -/

namespace Sys2Proof.Machine

/-- A monitor trip sets its bits of CLK_MON and raises MON_TRIP (R586, R587); the loss of lock of a PLL has no bit there. -/
def Rod.monTrip (ρ : Rod) (m : Word) : Rod :=
  if m = 0 then ρ else (ρ.pw Rg.CLK_MON (ρ.gw Rg.CLK_MON ||| m)).irq 0x002 0

/-- Keeps a clock event in the four VAON registers; a fifth overwrites the oldest (R580). -/
def Rod.keepClkEvt (ρ : Rod) (code b0 b1 : Nat) : Rod :=
  let l := ρ.aon.clkEvts ++ [{ code := code, b0 := b0, b1 := b1, steps := 0, run := true }]
  { ρ with aon := { ρ.aon with clkEvts := if 4 < l.length then l.drop 1 else l } }

/-- The crystal oscillator is restarted: the settle delay counts anew (R570, R578). -/
def Rod.restartXtal (ρ : Rod) : Rod :=
  { ρ with ck := { ρ.ck with started := true, settled := false } }.inc Fl.CLK_CNT_RESTARTS

/-- The release of reset ends the intervals of the clock events (R580). (DEDUCED, log entry 12) -/
def Rod.clkEvtsEnd (ρ : Rod) : Rod :=
  { ρ with aon := { ρ.aon with clkEvts := ρ.aon.clkEvts.map fun e => { e with run := false } } }

/-- A clock fault that resets the logic die except SMN and VAON, and restarts the crystal (Table 17.5, R577, R578). What step 4 of
the bring-up still owes stays owed. (DEDUCED, log entry 77) -/
def Rod.clockReset (ρ : Rod) (code b0 b1 : Nat) (mon : Word) : Rod :=
  let ρ1 := ((ρ.keepClkEvt code b0 b1).monTrip mon).p Fl.LAST_WAKE_SHUT 3
  let ρ2 := (ρ1.coreReset true).restartXtal
  let ρ3 := ((ρ2.p Fl.CLK_STAT_XTAL_OK 0).p Fl.CLK_STAT_PLL_A_LOCK 0).p Fl.CLK_STAT_PLL_B_LOCK 0
  ({ ρ3 with ck := { ρ3.ck with owed := ρ.ck.owed } }).clkRun

/-- The settle delay has ended (R570). -/
def Rod.settleDelayEnd (ρ : Rod) : Rod :=
  if ρ.ck.started && ρ.b Fl.CLK_STAT_RC_OK && !ρ.b Fl.CLK_STAT_XTAL_OK then
    { ρ with ck := { ρ.ck with settled := true } }
  else ρ

/-- Four windows have found the crystal within ±3 %: it is proven and the PLLs start (R571, R579). -/
def Rod.crystalProven (ρ : Rod) : Rod :=
  if ρ.ck.settled && ρ.b Fl.CLK_STAT_RC_OK && !ρ.b Fl.CLK_STAT_XTAL_OK then ρ.p Fl.CLK_STAT_XTAL_OK 1 else ρ

/-- The PLLs lock: the crystal-derived domains run, and a rod in OFF passes to BOOT with the SUP votes raised
(Tables 3.3, 18.2 and 18.6, R578). A relock of PLL2 alone changes no rod state. -/
def Rod.pllLock (ρ : Rod) : Rod :=
  if ρ.b Fl.CLK_STAT_XTAL_OK then
    let ρ1 := ((ρ.p Fl.CLK_STAT_PLL_A_LOCK 1).p Fl.CLK_STAT_PLL_B_LOCK 1).clkRun
    if ρ.state = RS.off then ((ρ1.clkEvtsEnd.enter RS.boot).voteUpdate).pocPower else ρ1
  else ρ

/-- Crystal stopped, outside its window or disagreeing with the RC (R574, R576). A crystal that fails while it is being proven is
restarted (R571). -/
def Rod.xtalFail (ρ : Rod) (cause : Nat) : Rod :=
  if ρ.b Fl.CLK_STAT_XTAL_OK then ρ.clockReset 0x0201 cause 0 0x80000000#32
  else if ρ.ck.started && ρ.b Fl.CLK_STAT_RC_OK then ρ.restartXtal
  else ρ

/-- PLL1 unlocked, or SYS, RCK or FRY outside its window (R576). -/
def Rod.pllAFail (ρ : Rod) (cause domain : Nat) : Rod :=
  if ρ.b Fl.CLK_STAT_PLL_A_LOCK then
    ρ.clockReset 0x0202 cause domain (if cause = 2 then BitVec.ofNat 32 (2 ^ (domain % 13)) else 0#32)
  else ρ

/-- PLL2 unlocked, or PWM, ADC or FBK outside its window: safe outputs, withdrawal, PLL2 relocked (R576, R577). -/
def Rod.pllBFail (ρ : Rod) (cause domain : Nat) : Rod :=
  if ρ.b Fl.CLK_STAT_PLL_B_LOCK then
    let ρ1 := ρ.monTrip (if cause = 2 then BitVec.ofNat 32 (2 ^ (domain % 13)) else 0#32)
    let ρ2 := (ρ1.p Fl.CLK_STAT_PLL_B_LOCK 0).clkRun
    (ρ2.flt 0x0203 sevWithdraw 0x002 [(0, 1, cause), (1, 1, domain)]).safeOutputs.withdrawDie
  else ρ

/-- The RC window detector trips: the whole logic die is held in reset (R576, R579). -/
def Rod.rcFail (ρ : Rod) : Rod :=
  if ρ.ck.started && ρ.b Fl.CLK_STAT_RC_OK then
    let ρ1 := if ρ.b Fl.CLK_STAT_XTAL_OK then ρ.keepClkEvt 0x0204 0 0
      else ρ.keepClkEvt 0x0205 (ρ.g Fl.CLK_XSD_CODE) 0
    let xsd := ρ.g Fl.CLK_XSD_CODE
    let ρ2 := ((ρ1.p Fl.LAST_WAKE_SHUT 3).coreReset false).p Fl.CLK_XSD_CODE xsd
    let ρ3 := (ρ2.p Fl.CLK_STAT_RC_OK 0).monTrip 0x40000000#32
    ({ ρ3 with ck := { ρ3.ck with started := true, owed := ρ.ck.owed } }).clkRun
  else ρ

/-- The detector clears; the settle count starts again at that instant (R570, R579). -/
def Rod.rcDetectorClear (ρ : Rod) : Rod :=
  if ρ.b Fl.CLK_STAT_RC_OK then ρ
  else ({ ρ with ck := { ρ.ck with settled := false } }.p Fl.CLK_STAT_RC_OK 1).clkRun

/-- One switch of a running domain (R581): counted, and shown by SWITCH. -/
def Rod.switchDomain (ρ : Rod) (f : Fld) (local_ : Nat) : Rod :=
  ((ρ.p f local_).inc Fl.CLK_CNT_SWITCHES).irq 0x002 1

/-- REFCLK lost or PCI outside its window: PCI on its fall-back, endpoint reset (R576, R581, R187). -/
def Rod.refclkLost (ρ : Rod) (cause : Nat) : Rod :=
  if ρ.b Fl.CLK_SRC_PCI_LOCAL then ρ
  else
    let ρ1 := (ρ.monTrip (BitVec.ofNat 32 (2 ^ 6))).switchDomain Fl.CLK_SRC_PCI_LOCAL 1
    let ρ2 := ρ1.when (ρ1.b Fl.CLK_STAT_REF_OK) (fun q => (q.p Fl.CLK_STAT_REF_OK 0).irq 0x002 3)
    (ρ2.flt 0x0210 sevWarn 0x002 [(0, 1, cause)]).clkRun.endpointLost

/-- The CRY clock of a link is lost: its fall-back, and the link treated as lost (R576). -/
def Rod.carryClockLost (ρ : Rod) (partner : RodId) : Rod :=
  if partner = ρ.me then ρ
  else
    let f := if linkNo ρ.me partner = 0 then Fl.CLK_SRC_CRY_A_LOCAL else Fl.CLK_SRC_CRY_B_LOCAL
    let bit := if linkNo ρ.me partner = 0 then 7 else 12
    if ρ.b f then ρ
    else
      let ρ1 := (ρ.monTrip (BitVec.ofNat 32 (2 ^ bit))).switchDomain f 1
      (ρ1.flt 0x0211 sevWarn 0x002 [(0, 1, partner.code)]).carryDown partner

/-- The tandem clock is lost: TDM on its fall-back, the lane treated as down (R576). -/
def Rod.tandemClockLost (ρ : Rod) (cause : Nat) : Rod :=
  if ρ.b Fl.CLK_SRC_TDM_LOCAL then ρ
  else
    let ρ1 := (ρ.monTrip (BitVec.ofNat 32 (2 ^ 8))).switchDomain Fl.CLK_SRC_TDM_LOCAL 1
    (ρ1.flt 0x0212 sevWarn 0x002 [(0, 1, cause)]).laneChange ρ.me false

/-- A domain returns to its own source (R582): PCI 6, CRY 7, TDM 8; any other domain has none to return to. -/
def Rod.sourceBack (ρ : Rod) (domain : Nat) (partner : RodId) : Rod :=
  let f := if domain = 6 then Fl.CLK_SRC_PCI_LOCAL else if domain = 8 then Fl.CLK_SRC_TDM_LOCAL
    else if linkNo ρ.me partner = 0 then Fl.CLK_SRC_CRY_A_LOCAL else Fl.CLK_SRC_CRY_B_LOCAL
  if (domain = 6 ∨ domain = 8 ∨ (domain = 7 ∧ partner ≠ ρ.me)) ∧ ρ.b f = true then
    let ρ1 := (ρ.switchDomain f 0).flt 0x0213 sevInfo 0x002
      [(0, 1, domain), (1, 1, if domain = 7 then partner.code else 0xFF)]
    ρ1.when (domain == 6 && !ρ1.b Fl.CLK_STAT_REF_OK) (fun q => ((q.p Fl.CLK_STAT_REF_OK 1).irq 0x002 3).clkRun)
  else ρ

/-- A write of CLK_MEAS_SEL starts a measurement; the codes 0xC to 0xF are captured (R586). -/
def Rod.writeMeasSel (ρ : Rod) (path : Nat) (data : Word) : Rod :=
  if 0xC ≤ wBits data 0 4 then ρ.errCap 0x002 0x6 path 0x50 data
  else
    let ρ1 := (ρ.p Fl.CLK_MEAS_SEL_DOMAIN (wBits data 0 4)).p Fl.CLK_MEAS_VALID 0
    { ρ1 with ck := { ρ1.ck with meas := true } }

/-- The measurement of 1 ms is complete (R586, R587). -/
def Rod.measDone (ρ : Rod) (khz : Nat) : Rod :=
  if ρ.ck.meas then
    ((({ ρ with ck := { ρ.ck with meas := false } }).p Fl.CLK_MEAS_FREQ khz).p Fl.CLK_MEAS_VALID 1).irq 0x002 2
  else ρ

/-- The nominal frequency of a domain in kHz (Table 17.3, R584). -/
def domainKHz (d : Nat) : Nat :=
  match d with
  | 0 => 400000 | 1 => 320000 | 2 => 80000 | 3 => 160000 | 4 => 80000 | 5 => 160000
  | 6 => 250000 | 7 => 250000 | 8 => 125000 | 9 => 48000 | 10 => 1000 | 11 => 25000
  | _ => 0

/-- A write of CKO_CFG: a reserved source, or an enabled output above 100 MHz, is discarded and captured (R584, R586). -/
def Rod.writeCko (ρ : Rod) (path : Nat) (data : Word) : Rod :=
  let src := wBits data 16 4
  if 0xC ≤ src ∨ (wBit data 31 = true ∧ 100000 * (wBits data 0 16 + 1) < domainKHz src) then
    ρ.errCap 0x002 0x6 path 0x58 data
  else (((ρ.p Fl.CKO_CFG_EN (wBits data 31 1)).p Fl.CKO_CFG_SRC src).p Fl.CKO_CFG_DIV (wBits data 0 16)).ckoChange ρ

/-! ### The commands -/

/-- SETTLE_DELAY_END (R570). -/
def execSettleDelayEnd (r : RodId) (s : State) : Host.Outcome State Fault Refusal := onRod s r fun ρ => ρ.settleDelayEnd

/-- CRYSTAL_PROVEN (R571). -/
def execCrystalProven (r : RodId) (s : State) : Host.Outcome State Fault Refusal := onRod s r fun ρ => ρ.crystalProven

/-- PLL_LOCK (R571, Table 3.3). -/
def execPllLock (r : RodId) (s : State) : Host.Outcome State Fault Refusal := onRod s r fun ρ => ρ.ckoAfter (·.pllLock)

/-- XTAL_FAIL (R576). -/
def execXtalFail (r : RodId) (cause : Nat) (s : State) : Host.Outcome State Fault Refusal :=
  onRod s r fun ρ => ρ.ckoAfter (·.xtalFail cause)

/-- PLL_A_FAIL (R576). -/
def execPllAFail (r : RodId) (cause domain : Nat) (s : State) : Host.Outcome State Fault Refusal :=
  onRod s r fun ρ => ρ.ckoAfter (·.pllAFail cause domain)

/-- PLL_B_FAIL (R576). -/
def execPllBFail (r : RodId) (cause domain : Nat) (s : State) : Host.Outcome State Fault Refusal :=
  onRod s r fun ρ => ρ.ckoAfter (·.pllBFail cause domain)

/-- RC_FAIL (R579). -/
def execRcFail (r : RodId) (s : State) : Host.Outcome State Fault Refusal := onRod s r fun ρ => ρ.ckoAfter (·.rcFail)

/-- RC_DETECTOR_CLEAR (R579). -/
def execRcDetectorClear (r : RodId) (s : State) : Host.Outcome State Fault Refusal := onRod s r fun ρ => ρ.ckoAfter (·.rcDetectorClear)

/-- REFCLK_LOST (R576). -/
def execRefclkLost (r : RodId) (cause : Nat) (s : State) : Host.Outcome State Fault Refusal :=
  onRod s r fun ρ => ρ.ckoAfter (·.refclkLost cause)

/-- CARRY_CLOCK_LOST (R576). -/
def execCarryClockLost (r partner : RodId) (s : State) : Host.Outcome State Fault Refusal :=
  .next ((s.putRod r ((((s.rod r).view s.rod).carryClockLost partner).ctDegrade s.rod).flush).thirdRod r partner)

/-- TANDEM_CLOCK_LOST (R576). -/
def execTandemClockLost (r : RodId) (cause : Nat) (s : State) : Host.Outcome State Fault Refusal :=
  onRod s r fun ρ => ρ.tandemClockLost cause

/-- SOURCE_BACK (R582). -/
def execSourceBack (r : RodId) (domain : Nat) (partner : RodId) (s : State) : Host.Outcome State Fault Refusal :=
  onRod s r fun ρ => ρ.ckoAfter (·.sourceBack domain partner)

/-- MEAS_DONE (R586). -/
def execMeasDone (r : RodId) (khz : Nat) (s : State) : Host.Outcome State Fault Refusal := onRod s r fun ρ => ρ.measDone khz

end Sys2Proof.Machine
end

