-- ==== Sys2Proof/Machine/Power.lean ====
section
/-! DEFINITION. Power domains, votes and wake (spec/18_power_states.md): the sequencing of the switchable domains, supply
and domain failures, DORMANT, the wake sources and the wake port. -/

namespace Sys2Proof.Machine

/-- A write of PWR_HOST changes the host's votes (R590). -/
def Rod.writePwrHost (ρ : Rod) (data : Word) : Rod := (ρ.p Fl.PWR_HOST_VOTE (wBits data 0 6)).voteUpdate

/-- The domain in bring-up reaches PWR_OK and the next one may start (R589, R592). -/
def Rod.domainUp (ρ : Rod) (d : Nat) : Rod :=
  if ρ.bitOf Fl.PWR_STAT_UP d then
    let ρ1 := ((((ρ.clrBit Fl.PWR_STAT_UP d).setBit Fl.PWR_STAT_PWR_OK d).irq 0x003 0).clkRun)
    (ρ1.when (d == 3) (·.pocPower)).pwrSeq
  else ρ

/-- The switch of the domain in power-down opens and the next one may start (R592, R593). -/
def Rod.domainDown (ρ : Rod) (d : Nat) : Rod :=
  if ρ.bitOf Fl.PWR_STAT_DOWN d then (ρ.clrBit Fl.PWR_STAT_DOWN d).pwrSeq else ρ

/-- PWR_OK of a domain falls while a vote is held (R594). -/
def Rod.domainFail (ρ : Rod) (d : Nat) : Rod :=
  if ρ.bitOf Fl.PWR_STAT_PWR_OK d && ρ.voted d then
    let ρ1 := (((ρ.clrBit Fl.PWR_STAT_PWR_OK d).domainReset d).irq 0x003 0).irq 0x003 1
    let ρ2 := (((ρ1.p Fl.PWR_EVT_VALID 1).p Fl.PWR_EVT_DOMAIN 1).p Fl.PWR_EVT_DOM_MASK (2 ^ d)).p Fl.PWR_EVT_RAIL 0
    let ρ3 := (ρ2.flt 0x0302 sevWithdraw 0x003 [(0, 1, 2 ^ d), (1, 1, ρ.voters d)]).clkRun
    let ρ4 := if d = 0 then ρ3.endpointLost else if d = 5 then ρ3.laneChange ρ.me false
      else ρ3.safeOutputs.withdrawDie
    ρ4.pwrSeq
  else ρ

/-- A supply leaves its range: the rod is held in OFF, and the event is kept in AON (R595); behind an open core switch nothing is
lost. -/
def Rod.supplyFail (ρ : Rod) (rail : Nat) : Rod :=
  if ρ.aon.coreOff then ρ else
  let ρ1 := (((ρ.p Fl.PWR_EVT_VALID 1).p Fl.PWR_EVT_DOMAIN 0).p Fl.PWR_EVT_DOM_MASK 0).p Fl.PWR_EVT_RAIL rail
  let ρ2 := ρ1.coreReset false
  let ρ3 := { ρ2 with aon := { ρ2.aon with
    nextShut := some 2, supEvt := some { code := 0x0301, b0 := rail % 8, b1 := 0, steps := 0, run := true } } }
  ρ3.when (rail == 4) (·.driveDieOff)

/-- LAST_WAKE is written (R607): the source of the wake that is being brought up, counted, and the cause of the last stop. -/
def Rod.showWake (ρ : Rod) : Rod :=
  let ρ1 := match ρ.aon.nextSrc with
    | some k => (ρ.p Fl.LAST_WAKE_SRC k).inc Fl.LAST_WAKE_WAKES
    | none => ρ
  let ρ2 := match ρ.aon.nextShut with
    | some k => ρ1.p Fl.LAST_WAKE_SHUT k
    | none => ρ1
  { ρ2 with aon := { ρ2.aon with nextSrc := none, nextShut := none, supEvt := ρ.aon.supEvt.map fun e => { e with run := false } } }

/-- The power-on reset is released: straps of the settle delay read, crystal started, LAST_WAKE written (R569, R606,
R607, Table 18.6 step 4), and the interval of a supply event ends (R595). -/
def Rod.porRelease (ρ : Rod) (xsd : Nat) : Rod :=
  if ρ.state = RS.off ∧ ρ.aon.coreOff = false ∧ ρ.ck.started = false then
    let ρ1 := { ρ with ck := { ρ.ck with started := true, settled := false, owed := true } }.showWake.p Fl.CLK_XSD_CODE xsd
    (ρ1.when (ρ1.b Fl.PWR_EVT_VALID && !ρ1.b Fl.PWR_EVT_DOMAIN) (·.irq 0x003 2)).clkRun
  else ρ

/-- The lowest enabled wake source of a set (R598, R600): power-on cannot be masked. -/
def Rod.wakeSource (ρ : Rod) (sources : Nat) : Option Nat :=
  ([1, 2, 3, 4, 5, 6, 7, 8, 9].filter fun s =>
    sources.testBit s && (s == 1 || (ρ.g Fl.PWR_CFG_WAKE_EN).testBit (s - 2))).head?

/-- The bring-up of Table 18.6 starts on a wake source. -/
def Rod.wakeUp (ρ : Rod) (src : Nat) : Rod :=
  { ρ with aon := { ρ.aon with coreOff := false, heldSrc := none, nextSrc := some src, pewake := true } }

/-- Wake sources detected (R598, R600): at once with the core switch open, held when it is still to open. -/
def Rod.wakeEvent (ρ : Rod) (sources : Nat) : Rod :=
  match ρ.wakeSource sources with
  | none => ρ
  | some s =>
    if ρ.aon.coreOff then ρ.wakeUp s
    else if ρ.state ≠ RS.off ∧ ρ.mode = SM.dormant ∧ ρ.md.modeFt ≠ 0 then
      { ρ with aon := { ρ.aon with heldSrc := some (ρ.aon.heldSrc.getD s), pewake := true } }
    else ρ

/-- The core switch opens once every switchable domain is off in DORMANT (R596): record 0x0311, then only AON is left.
A held wake source starts the bring-up at once (R600). -/
def Rod.coreSwitchOpen (ρ : Rod) : Rod :=
  if ρ.state ≠ RS.off ∧ ρ.mode = SM.dormant ∧ ρ.md.modeFt ≠ 0 ∧ ρ.g Fl.PWR_STAT_PWR_OK = 0 ∧
      ρ.g Fl.PWR_STAT_DOWN = 0 ∧ ρ.g Fl.PWR_STAT_UP = 0 then
    let ρ1 := (ρ.flt 0x0311 sevInfo 0x003 [(4, 4, (ρ.ck.up - ρ.md.modeUp) / 80)]).flush
    let ρ2 := ρ1.coreReset false
    let ρ3 := { ρ2 with aon := { ρ2.aon with coreOff := true, nextShut := some 1, pewake := ρ2.aon.heldSrc.isSome } }
    match ρ3.aon.heldSrc with
    | none => ρ3
    | some s => ρ3.wakeUp s
  else ρ

/-- WK_STAT: DORMANT and the rod state (Table 18.5). -/
def Rod.wkStatNow (ρ : Rod) : Nat := ρ.state % 16 + (if ρ.aon.coreOff then 0x80 else 0)

/-- A byte is written to WK_CMD in a transfer of the wake port: what the rod writes to the register file from here on waits for the
end of the transfer, and the pointer has advanced past WK_CMD (R603, R605). -/
def Rod.wakeByte (ρ : Rod) : Rod :=
  let ρ1 := if ρ.aon.xfer then ρ
    else { ρ with aon := { ρ.aon with xfer := true, wkStat := ρ.wkStatNow, wkLast := ρ.gw Rg.LAST_WAKE } }
  { ρ1 with aon := { ρ1.aon with pointer := 2 } }

/-- WAKE at the wake port (R604): a wake source in DORMANT, no effect outside it. -/
def Rod.wakeCmd (ρ : Rod) : Rod := (ρ.wakeByte.wakeEvent (2 ^ 2)).send (.wakeAck true)

/-- RESET at the wake port (R604). In DORMANT too it is not masked by WAKE_EN. (DEDUCED, log entry 77) -/
def Rod.resetCmd (ρ : Rod) : Rod :=
  let ρ0 := ρ.wakeByte.send (.wakeAck true)
  if ρ.state = RS.off ∨ ρ.state = RS.boot ∨ ρ.state = RS.fenced ∨ ρ.mode = SM.standby ∨ ρ.mode = SM.dormant then
    let ρ1 := ρ0.coreReset false
    { ρ1 with aon := { ρ1.aon with nextShut := some 4 } }.wakeUp 9
  else
    { ρ0 with aon := { ρ0.aon with wkErr := satN 0xFF (ρ0.aon.wkErr + 1) } }.flt 0x0313 sevWarn 0x003
      [(0, 1, 0xA2), (1, 1, ρ.state), (2, 1, ρ.mode)]

/-- A command byte other than WAKE and RESET is not acknowledged (R604). -/
def Rod.badCmdByte (ρ : Rod) (byte : Nat) : Rod :=
  if byte = 0xA1 ∨ byte = 0xA2 then ρ
  else
    let ρ1 := ρ.wakeByte
    { ρ1 with aon := { ρ1.aon with wkErr := satN 0xFF (ρ.aon.wkErr + 1) } }.send (.wakeAck false)

/-- STOP or repeated START of the wake port: the writes of the rod to the register file take place (R605). -/
def Rod.wakeStop (ρ : Rod) : Rod :=
  { ρ with aon := { ρ.aon with xfer := false, wkStat := ρ.wkStatNow, wkLast := ρ.gw Rg.LAST_WAKE } }

/-- VAON leaves its range and returns: everything AON held is lost (R598, source 1). -/
def Rod.vaonLoss (ρ : Rod) : Rod :=
  let ρ1 := ρ.coreReset false
  let ρ2 := { ρ1 with aon := Aon.init }
  ((ρ2.pw Rg.PWR_CFG (regReset Rg.PWR_CFG)).pw Rg.LAST_WAKE (regReset Rg.LAST_WAKE)).pw Rg.PWR_EVT 0#32

/-- The address of a wake port with the straps WADDR_2 to WADDR_0 (R603). -/
def wakeAddress (straps : BitVec 3) : Nat := 0x58 + straps.toNat

/-- The read view of the wake port at a pointer (Table 18.5): WK_STAT and WK_LAST as they stood when a transfer began. -/
def Rod.wakeRead (ρ : Rod) (ptr : Nat) : Nat :=
  let last := if ρ.aon.xfer then ρ.aon.wkLast else ρ.gw Rg.LAST_WAKE
  match ptr % 8 with
  | 0 => 0xD0 + ρ.me.code
  | 2 => if ρ.aon.xfer then ρ.aon.wkStat else ρ.wkStatNow
  | 3 => wBits last 0 8
  | 4 => wBits last 8 8
  | 5 => wBits last 16 8
  | 6 => wBits last 24 8
  | 7 => ρ.aon.wkErr
  | _ => 0

/-- X_PEWAKE_N is pulled low (R601); `perstLow` is the level of X_PERST_N. -/
def Rod.pewake (ρ : Rod) (perstLow : Bool) : Bool :=
  (perstLow && ρ.b Fl.PWR_CFG_PEWAKE_EN && ρ.aon.pewake) || (ρ.hp.d3 && ρ.flAny && decide (sevDegrade ≤ ρ.flMaxSev))

/-! ### The commands -/

/-- DOMAIN_POWER_UP (R589). -/
def execDomainPowerUp (r : RodId) (dom : Fin 6) (s : State) : Host.Outcome State Fault Refusal :=
  onRod s r fun ρ => ρ.ckoAfter (·.domainUp dom.val)

/-- DOMAIN_POWER_DOWN (R592). -/
def execDomainPowerDown (r : RodId) (dom : Fin 6) (s : State) : Host.Outcome State Fault Refusal :=
  onRod s r fun ρ => ρ.ckoAfter (·.domainDown dom.val)

/-- CORE_SWITCH_OPEN (R596). -/
def execCoreSwitchOpen (r : RodId) (s : State) : Host.Outcome State Fault Refusal := onRod s r fun ρ => ρ.ckoAfter (·.coreSwitchOpen)

/-- DOMAIN_FAIL (R594). -/
def execDomainFail (r : RodId) (dom : Fin 6) (s : State) : Host.Outcome State Fault Refusal :=
  onRod s r fun ρ => ρ.ckoAfter (·.domainFail dom.val)

/-- SUPPLY_FAIL (R595). -/
def execSupplyFail (r : RodId) (rail : Nat) (s : State) : Host.Outcome State Fault Refusal :=
  onRod s r fun ρ => ρ.ckoAfter (·.supplyFail rail)

/-- POWER_ON_RESET_RELEASE (R569, R606). -/
def execPowerOnResetRelease (r : RodId) (xsd : BitVec 2) (s : State) : Host.Outcome State Fault Refusal :=
  onRod s r fun ρ => ρ.porRelease xsd.toNat

/-- WAKE_EVENT (R598). -/
def execWakeEvent (r : RodId) (sources : BitVec 10) (s : State) : Host.Outcome State Fault Refusal :=
  onRod s r fun ρ => ρ.wakeEvent sources.toNat

/-- WAKE (R604). -/
def execWake (r : RodId) (s : State) : Host.Outcome State Fault Refusal := onRod s r fun ρ => ρ.wakeCmd

/-- RESET (R604). -/
def execReset (r : RodId) (s : State) : Host.Outcome State Fault Refusal := onRod s r fun ρ => ρ.ckoAfter (·.resetCmd)

/-- VAON_LOSS (R598). -/
def execVaonLoss (r : RodId) (s : State) : Host.Outcome State Fault Refusal := onRod s r fun ρ => ρ.ckoAfter (·.vaonLoss)

/-- WAKE_PORT_STOP (R605). -/
def execWakePortStop (r : RodId) (s : State) : Host.Outcome State Fault Refusal := onRod s r fun ρ => ρ.wakeStop

/-- DISCARDED_COMMAND_BYTE (R604). -/
def execDiscardedCommandByte (r : RodId) (byte : Byte) (s : State) : Host.Outcome State Fault Refusal :=
  onRod s r fun ρ => ρ.badCmdByte byte.toNat

end Sys2Proof.Machine
end

