-- ==== Sys2Proof/Machine/Lockstep.lean ====
section
/-! DEFINITION. Lockstep (spec/15_lockstep.md): the windows and their tallies, the comparator tests, the split and rejoin of
pair 0, and the extended core test. -/

namespace Sys2Proof.Machine

/-- The reaction to a mismatch or a failed comparator (R529, R530, R151). -/
def Rod.lsReact (ρ : Rod) : Rod := ({ ρ with md := { ρ.md with dis := true, txOff := true } }).withdrawDie

/-- The tally of a window of pair 0: its events, by cycle of the window (R525, R527). What the supervisor executes is firmware, so
its events come with the command; both copies form them from the same inputs (R523). (DESIGN CHOICE, log entry 60) -/
def coreTally (core : List (Nat × List LsEvent)) : DWord := (core.foldl (fun m e => m.add e.1 e.2) Misr.init).total

/-- The tallies of a window that ends: of the main copy, and of the shadow copy two cycles later (R528). -/
def Rod.mainTally (ρ : Rod) (p : Nat) (core : List (Nat × List LsEvent)) : DWord :=
  if p = 0 then coreTally core else (Sparse.get Misr.init ρ.ls.sums p).total

/-- The column of a pair other than 0 (Table 15.1). -/
def pairCol (p : Nat) : Fin 4 := if p = 1 then 0 else if p = 2 then 1 else if p = 3 then 2 else 3

def Rod.shadowTally (ρ : Rod) (p : Nat) (core : List (Nat × List LsEvent)) : DWord :=
  if p = 0 then coreTally core else (ρ.shadowOf (pairCol p)).sum.total

/-- A window of a pair ends with a main tally, and the next one begins with the tallies at 0 (R527, R528); answers its number. -/
def Rod.lsWindow (ρ : Rod) (p : Nat) (main : DWord) : Nat × Rod :=
  let n := if Sparse.has ρ.ls.win p then (Sparse.get 0 ρ.ls.win p + 1) % 2 ^ 32 else 0
  let l := ρ.ls
  let l1 := { l with tally := Sparse.put l.tally p main, win := Sparse.put l.win p n }
  let c := pairCol p
  (n, { ρ with ls := if p = 0 then l1 else
    { l1 with
      sums := Sparse.put l.sums p Misr.init
      from_ := Sparse.put l.from_ p (max (Sparse.get 0 l.from_ p + 1024) (4 * ρ.ck.up / 1024 * 1024))
      shad := Sparse.put l.shad c.val { ρ.shadowOf c with sum := Misr.init }
      stage := Sparse.put l.stage c.val [] } })

/-- A mismatch of a pair (R530): `test` says that it was found in a test window. (DESIGN CHOICE, log entry 60) -/
def Rod.lsMismatch (ρ : Rod) (p n : Nat) (test : Bool) (diff : DWord) : Rod :=
  let ρ1 := ((ρ.p Fl.LS_LAST_VALID 1).p Fl.LS_LAST_PAIR p).p Fl.LS_LAST_TEST (b2n test)
  ((ρ1.irq 0x0B0 3).flt 0x0D01 sevWithdraw 0x0B0 [(0, 1, p), (1, 1, b2n test), (4, 4, n), (8, 8, diff.toNat)]).lsReact

/-- Whether a pair is compared at all. -/
def Rod.lsOn (ρ : Rod) (p : Nat) : Bool :=
  ρ.state != RS.off && (p != 0 || (!ρ.b Fl.LS_STAT_SPLIT && !ρ.b Fl.LS_STAT_REJOINING))

/-- What the comparator sees of a window: the XOR of the two tallies, with `diff`, what a hardware fault in one copy has left in
them (0 without a fault). (DESIGN CHOICE, log entry 60) -/
def Rod.lsDelta (ρ : Rod) (p : Nat) (core : List (Nat × List LsEvent)) (diff : DWord) : DWord :=
  ρ.mainTally p core ^^^ ρ.shadowTally p core ^^^ diff

/-- The end of a window (R528). (DESIGN CHOICE, log entry 60) -/
def Rod.windowEnd (ρ : Rod) (p : Nat) (core : List (Nat × List LsEvent)) (diff : DWord) : Rod :=
  if ρ.lsOn p then
    let (n, ρ1) := ρ.lsWindow p (ρ.mainTally p core)
    let d := ρ.lsDelta p core diff
    if d = 0#64 then ρ1 else ρ1.lsMismatch p n false d
  else ρ

/-- The test pattern that is next (R531, R532). -/
def Rod.lsPattern (ρ : Rod) : DWord := if ρ.ls.alt then 0xAAAAAAAAAAAAAAAA#64 else 0x5555555555555555#64

/-- Record 0x0D10. -/
def Rod.comparatorFail (ρ : Rod) (p why : Nat) : Rod :=
  (ρ.irq 0x0B0 2).flt 0x0D10 sevWithdraw 0x0B0 [(0, 1, p), (1, 1, why)]

/-- A test window of the pair that is next, in whose shadow tally the pattern is injected (R532, Table 15.3); an injection or a
comparator that fails shows as a `diff` equal to the pattern. (DESIGN CHOICE, log entry 60) -/
def Rod.comparatorTest (ρ : Rod) (core : List (Nat × List LsEvent)) (diff : DWord) : Rod :=
  let due := match ρ.ls.testAt with
    | some t => ρ.passed t (ρ.g Fl.LS_CFG_TEST_INT * 1000000)
    | none => true
  if ρ.state < RS.sync ∨ due = false then ρ
  else
    let first := ρ.g Fl.LS_STAT_NEXT
    let p := if first = 0 ∧ ρ.lsOn 0 = false then 1 else first
    let pat := ρ.lsPattern
    let (n, ρ0) := ρ.lsWindow p (ρ.mainTally p core)
    let ρ1 := ({ ρ0 with ls := { ρ0.ls with alt := !ρ0.ls.alt, testAt := some ρ0.ft } }).p Fl.LS_STAT_NEXT ((p + 1) % 5)
    let d := ρ.lsDelta p core diff ^^^ pat
    if d = pat then (ρ1.setBit Fl.LS_STAT_TESTED p).inc Fl.LS_CNT_TESTS
    else
      let ρ2 := ρ1.clrBit Fl.LS_STAT_TESTED p
      if d = 0#64 then (ρ2.comparatorFail p 1).lsReact else ρ2.lsMismatch p n true d

/-- The boot ROM's test of every comparator (R531): a failure stops the rod in BOOT (R84). -/
def Rod.bootComparator (ρ : Rod) (failed : Option (Nat × Nat)) : Rod :=
  if ρ.state ≠ RS.boot ∨ ρ.md.stuck = true then ρ
  else match failed with
    | none => ρ.p Fl.LS_STAT_BOOT_OK 1
    | some (p, why) =>
      ({ ρ.comparatorFail p why with md := { ρ.md with stuck := true } }).flt 0x0110 sevWithdraw 0x001 [(0, 1, 2)]

/-- Pair 0 is split (R533, R534). -/
def Rod.pairSplit (ρ : Rod) (purpose : Nat) : Rod :=
  let ok := (purpose == 1 && ρ.state == RS.update) || (purpose == 2 && ρ.mode == SM.standby && ρ.b Fl.LS_STAT_XTEST_RUN)
  if ok && !ρ.b Fl.LS_STAT_SPLIT then
    let ρ1 := ((ρ.p Fl.LS_STAT_SPLIT 1).inc Fl.LS_CNT_SPLITS).irq 0x0B0 0
    ({ ρ1 with md := { ρ1.md with dis := true } }).flt 0x0D20 sevInfo 0x0B0
      [(0, 1, purpose)]
  else ρ

/-- The rejoin begins (R535); a change agreed out of STANDBY cuts the extended core test short (R536, R537). -/
def Rod.pairRejoin (ρ : Rod) : Rod :=
  if ρ.b Fl.LS_STAT_SPLIT && !ρ.b Fl.LS_STAT_REJOINING then
    let ρ1 := ρ.p Fl.LS_STAT_REJOINING 1
    match ρ1.b Fl.LS_STAT_XTEST_RUN, ρ1.md.agreed with
    | true, some a => ((ρ1.p Fl.LS_STAT_XTEST_RUN 0).irq 0x0B0 1).flt 0x0D24 sevInfo 0x0B0 [(0, 1, a.1)]
    | _, _ => ρ1
  else ρ

/-- The second core restarts (R535): a new window starts and DIS is released, in a rod that is not fenced. -/
def Rod.pairRestart (ρ : Rod) : Rod :=
  if ρ.b Fl.LS_STAT_REJOINING then
    let ρ1 := ((ρ.p Fl.LS_STAT_REJOINING 0).p Fl.LS_STAT_SPLIT 0).irq 0x0B0 0
    let ρ2 := { ρ1 with md := { ρ1.md with dis := ρ1.state == RS.fenced }, ls := { ρ1.ls with win := Sparse.del ρ1.ls.win 0 } }
    ρ2.flt 0x0D21 sevInfo 0x0B0 [(4, 4, 2048)]
  else ρ

/-- A write of LS_CMD (R537). -/
def Rod.writeLsCmd (ρ : Rod) (path : Nat) (data : Word) : Rod :=
  if wBits data 8 8 = 0x5A ∧ wBit data 0 = true ∧ ρ.mode = SM.standby ∧ ρ.state = RS.ready then ρ.p Fl.LS_STAT_XTEST_RUN 1
  else ρ.errCap 0x0B0 0x6 path 0x48 data

/-- The extended core test completes (R537). -/
def Rod.xtestDone (ρ : Rod) (failed : Option (Nat × Nat)) (us : Nat) : Rod :=
  if ρ.b Fl.LS_STAT_XTEST_RUN then
    let ρ1 := (ρ.p Fl.LS_STAT_XTEST_RUN 0).irq 0x0B0 1
    match failed with
    | none => ρ1.flt 0x0D23 sevInfo 0x0B0 [(4, 4, us)]
    | some (g, code) => (ρ1.flt 0x0D22 sevWithdraw 0x0B0 [(0, 1, g), (4, 4, code)]).withdrawDie
  else ρ

/-- LS_TALLY and LS_WIN as read, for the pair of LS_SEL (Table 15.6). -/
def Rod.lsTally (ρ : Rod) : DWord := Sparse.get 0#64 ρ.ls.tally (ρ.g Fl.LS_SEL_PAIR)

def Rod.lsWin (ρ : Rod) : Nat := Sparse.get 0 ρ.ls.win (ρ.g Fl.LS_SEL_PAIR)

/-! ### The commands -/

/-- LOCKSTEP_WINDOW_END (R528). -/
def execLockstepWindowEnd (r : RodId) (pair : Fin 5) (core : List (Nat × List LsEvent)) (diff : DWord) (s : State) :
    Host.Outcome State Fault Refusal :=
  onRod s r fun ρ => ρ.windowEnd pair.val core diff

/-- COMPARATOR_TEST (R532). -/
def execComparatorTest (r : RodId) (core : List (Nat × List LsEvent)) (diff : DWord) (s : State) :
    Host.Outcome State Fault Refusal :=
  onRod s r fun ρ => ρ.comparatorTest core diff

/-- BOOT_COMPARATOR_TEST (R531). -/
def execBootComparatorTest (r : RodId) (failed : Option (Nat × Nat)) (s : State) : Host.Outcome State Fault Refusal :=
  onRod s r fun ρ => ρ.bootComparator failed

/-- PAIR_SPLIT (R533). -/
def execPairSplit (r : RodId) (purpose : Nat) (s : State) : Host.Outcome State Fault Refusal :=
  onRod s r fun ρ => ρ.pairSplit purpose

/-- PAIR_REJOIN (R535). -/
def execPairRejoin (r : RodId) (s : State) : Host.Outcome State Fault Refusal := onRod s r fun ρ => ρ.pairRejoin

/-- PAIR_RESTART (R535). -/
def execPairRestart (r : RodId) (s : State) : Host.Outcome State Fault Refusal := onRod s r fun ρ => ρ.pairRestart

/-- XTEST_DONE (R537). -/
def execXtestDone (r : RodId) (failed : Option (Nat × Nat)) (us : Nat) (s : State) : Host.Outcome State Fault Refusal :=
  onRod s r fun ρ => ρ.xtestDone failed us

end Sys2Proof.Machine
end

