-- ==== Sys2Proof/Machine/Images.lean ====
section
/-! DEFINITION. Signed images (spec/19_security.md, R326 to R334): their header and signature block, the verification of
Table 19.3 with the structural checks of Table 9.7, and the load of a control-law image (R331 to R333, R257). -/

namespace Sys2Proof.Machine

/-! ### Header and signature block -/

/-- Fields of Table 9.5 that every type has (R612). -/
def imgVersion (bs : List Byte) : Nat := leAt bs 0x08 2
def imgRbIdx (bs : List Byte) : Nat := leAt bs 0x0A 1
def imgRbVal (bs : List Byte) : Nat := leAt bs 0x0C 4
def imgBodyLen (bs : List Byte) : Nat := leAt bs 0x30 4
def imgMinFw (bs : List Byte) : Nat := leAt bs 0x34 4

/-- A field of the signature block (Table 19.2). -/
def sbAt (bs : List Byte) (off n : Nat) : Nat := leAt bs (imgBodyLen bs + off) n

/-- SLOT; of a vendor response the Saernhold key (R634 leaves its block no place in the header). -/
def imgSlot (t : Nat) (bs : List Byte) : Nat := if t = 5 then 0x80 else sbAt bs 0x004 1

/-- The largest body of a type (Table 19.1). -/
def largestBody (t : Nat) : Nat :=
  if t = 1 then 786432 else if t = 2 then 262144 else if t = 3 then 65536 else if t = 4 then 4096 else 8192

/-- Whether a rollback counter serves a type (R612, R620). -/
def rbServes (t i : Nat) : Bool :=
  if t = 1 then decide (i ≤ 2) else if t = 2 ∨ t = 3 then decide (4 ≤ i) && decide (i ≤ 31)
  else if t = 4 then i == 3 else i == 0

/-- Four bytes, big-endian, of a signature block. -/
def sbBig (bs : List Byte) (off : Nat) : Nat := leNat ((bs.drop (imgBodyLen bs + off)).take 4).reverse

/-- The first fault of step 1 of Table 19.3: its offset in the image. -/
def headFault (t : Nat) (bs : List Byte) : Option Nat :=
  let body := imgBodyLen bs
  let hss := sbAt bs 0x10C 4
  let common : List (Bool × Nat) :=
    [(leAt bs 0x00 4 == 0x4C4B4352, 0x00), (leAt bs 0x04 1 == t, 0x04), (leAt bs 0x05 1 == 1, 0x05),
     (leAt bs 0x06 2 == 0, 0x06), (rbServes t (imgRbIdx bs), 0x0A), (leAt bs 0x0B 1 == 0, 0x0B),
     (decide (imgRbVal bs ≤ if t = 5 then 0 else 256), 0x0C)]
  let rest : List (Bool × Nat) :=
    if t = 5 then [(decide (0x40 ≤ bs.length) && decide (bs.length ≤ largestBody 5 + 0x110 + 5716), 0x30)]
    else
      [(decide (0x40 ≤ body) && decide (body ≤ largestBody t) && decide (body + 0x110 ≤ bs.length), 0x30),
       (t != 4 || imgMinFw bs == 0, 0x34), (sbAt bs 0x000 4 == 0x53474E32, body), (sbAt bs 0x005 3 == 0, body + 0x005),
       (sbAt bs 0x069 7 == 0, body + 0x069), (decide (hss ≤ 5716) && decide (body + 0x110 + hss ≤ bs.length), body + 0x10C)]
  ((common ++ rest).find? fun e => !e.1).map (·.2)

/-! ### The program section -/

/-- The bits of [55:0] that an opcode uses (Table 9.2). -/
def opcUsed (o : Nat) : Nat :=
  if o = 0x01 then mD ||| mAddr else if o = 0x02 then mD ||| mA ||| mAddr else if o = 0x03 then mB ||| mAddr
  else if o = 0x04 then mA ||| mB ||| mAddr else if o = 0x05 ∨ o = 0x15 ∨ o = 0x16 ∨ o = 0x30 ∨ o = 0x33 then mD ||| mA
  else if o = 0x06 then mD ||| mImm else if o = 0x08 then mD
  else if o = 0x1A ∨ o = 0x1B then mD ||| mA ||| mE
  else if 0x10 ≤ o ∧ o ≤ 0x1E then mD ||| mA ||| mB
  else if o = 0x20 then mAcc else if o = 0x21 then mAcc ||| mA ||| mE
  else if o = 0x22 ∨ o = 0x23 then mAcc ||| mA ||| mAddr else if o = 0x24 ∨ o = 0x25 then mAcc ||| mA ||| mB ||| mK
  else if o = 0x26 then mAcc ||| mAddr else if o = 0x27 then mD ||| mAcc ||| mE
  else if o = 0x31 then mD ||| mA ||| mAx ||| mTs else if o = 0x32 then mD ||| mA ||| mAx
  else if 0x38 ≤ o ∧ o ≤ 0x3B then mA ||| mB ||| mAddr else if o = 0x3C then mAddr
  else if o = 0x3D then mCnt ||| 0x3F else 0

/-- Opcode and bits [55:0] of an instruction word. -/
def wordOpc (w : DWord) : Nat := w.toNat / 2 ^ 56
def wordF (w : DWord) : BitVec 56 := w.setWidth 56

def isBranch (o : Nat) : Bool := decide (0x38 ≤ o) && decide (o ≤ 0x3C)

/-- An instruction breaks no condition of exceptions 0x01 and 0x02 (Table 9.4). -/
def instrOk (w : DWord) : Bool :=
  let o := wordOpc w
  let f := wordF w
  legalOpc o && (f.toNat &&& (2 ^ 56 - 1 - opcUsed o)) == 0 &&
  !((o == 0x1A || o == 0x1B) && decide (31 < fE f)) && !((o == 0x30 || o == 0x33) && fD f == 31) &&
  !((o == 0x22 || o == 0x23 || o == 0x26) && decide (0xFFF < fAddr f)) &&
  !((o == 0x31 || o == 0x32) && fAx f == 3) && !(o == 0x31 && decide (2 ≤ fTs f))

/-- The length of a REPEAT's body (R323). -/
def repLen (w : DWord) : Nat := fAddr (wordF w) % 64 + 1

/-- The first index, counted from `i`, of a word and its successors that breaks a check. -/
def firstBad (ok : Nat → DWord → List DWord → Bool) : Nat → List DWord → Option Nat
  | _, [] => none
  | i, w :: ws => if ok i w ws then firstBad ok (i + 1) ws else some i

/-- A branch obeys R322 in a program of `n` instructions. -/
def branchOk (n i : Nat) (w : DWord) (_ : List DWord) : Bool :=
  !isBranch (wordOpc w) || (decide (i < fAddr (wordF w)) && decide (fAddr (wordF w) < n))

/-- A REPEAT obeys R323: its body lies within the program and holds no REPEAT, branch or HALT. -/
def repeatOk (_ : Nat) (w : DWord) (ws : List DWord) : Bool :=
  wordOpc w != 0x3D || (decide (repLen w ≤ ws.length) &&
    (ws.take (repLen w)).all fun v => !isBranch (wordOpc v) && wordOpc v != 0x3D && wordOpc v != 0x3F)

/-- Cycles of the longest path from each instruction to a HALT (R313, R323), `i` being the address of the first. -/
def pathCosts : Nat → List DWord → List Nat
  | _, [] => []
  | i, w :: ws =>
    let cs := pathCosts (i + 1) ws
    let o := wordOpc w
    let next := cs.headD 0
    let target := cs.getD (fAddr (wordF w) - i - 1) 0
    let cost :=
      if o = 0x3F then 1
      else if o = 0x3C then 2 + target
      else if isBranch o then 2 + max next target
      else if o = 0x3D then
        let body := ((ws.take (repLen w)).map fun v => instrCycles (wordOpc v)).sum
        1 + (fCnt (wordF w) + 1) * body + cs.getD (repLen w) 0
      else instrCycles o + next
    cost :: cs

/-! ### Sections of a control-law image -/

/-- The words of the program section. -/
def imgProg (bs : List Byte) : List DWord :=
  (List.range (leAt bs 0x14 4)).map fun i => BitVec.ofNat 64 (leAt bs (leAt bs 0x10 4 + 8 * i) 8)

/-- An entry of the loop table (Table 9.6). -/
def imgLoop (bs : List Byte) (i : Nat) : Loop :=
  let a := leAt bs 0x18 4 + 16 * i
  { id := leAt bs a 1, src := leAt bs (a + 1) 1, axis := leAt bs (a + 2) 1, entry := leAt bs (a + 4) 2
    wcet := leAt bs (a + 8) 2, earliest := leAt bs (a + 10) 2, latest := leAt bs (a + 12) 2 }

def imgLoops (bs : List Byte) : List Loop := (List.range (leAt bs 0x1C 4)).map (imgLoop bs)

/-- The reserved bytes of a loop entry are 0. -/
def loopRsvOk (bs : List Byte) (i : Nat) : Bool :=
  let a := leAt bs 0x18 4 + 16 * i
  leAt bs (a + 3) 1 == 0 && leAt bs (a + 6) 2 == 0 && leAt bs (a + 14) 2 == 0

/-- Offset and length of the four sections. -/
def imgSections (bs : List Byte) : List (Nat × Nat) :=
  [(leAt bs 0x10 4, 8 * leAt bs 0x14 4), (leAt bs 0x18 4, 16 * leAt bs 0x1C 4), (leAt bs 0x20 4, 8 * leAt bs 0x24 4),
   (leAt bs 0x28 4, leAt bs 0x2C 4)]

/-- Two byte ranges share no byte. -/
def disjointR (a b : Nat × Nat) : Bool := a.2 == 0 || b.2 == 0 || decide (a.1 + a.2 ≤ b.1) || decide (b.1 + b.2 ≤ a.1)

/-- R327. -/
def sectionsOk (bs : List Byte) : Bool :=
  let l := imgSections bs
  (l.all fun s => s.1 % 8 == 0 && decide (s.1 + s.2 ≤ imgBodyLen bs) && disjointR s (0, 0x40)) &&
  (List.range 4).all fun i => (List.range i).all fun j => disjointR (l.getD i (0, 0)) (l.getD j (0, 0))

/-- The initialisation records of a section (R329); `none` where they break the rule. -/
def initRecords : Nat → List Byte → Option (List (Nat × List Word))
  | 0, bs => if bs.isEmpty then some [] else none
  | n + 1, bs =>
    if bs.isEmpty then some []
    else
      let a := leAt bs 0 2
      let c := leAt bs 2 2
      if 0x800 ≤ a ∧ 1 ≤ c ∧ c ≤ 14336 ∧ a + c ≤ 0x4000 ∧ 4 + 4 * c ≤ bs.length then
        (initRecords n (bs.drop (4 + 4 * c))).map ((a, leWords c (bs.drop 4)) :: ·)
      else none

def imgInit (bs : List Byte) : Option (List (Nat × List Word)) :=
  initRecords (leAt bs 0x2C 4 + 1) ((bs.drop (leAt bs 0x28 4)).take (leAt bs 0x2C 4))

/-- The first failed check of Table 9.7 after the header: its number, and the instruction address or loop index. -/
def lawFault (bs : List Byte) : Option (Nat × Nat) :=
  let n := leAt bs 0x14 4
  let loops := leAt bs 0x1C 4
  if !sectionsOk bs then some (2, 0xFFFF)
  else if n < 1 ∨ 16384 < n ∨ loops < 1 ∨ 64 < loops ∨ 4096 < leAt bs 0x24 4 then some (3, 0xFFFF)
  else
    let prog := imgProg bs
    let ls := imgLoops bs
    let idx (f : Nat → Loop → Bool) : Option Nat := (List.range loops).find? fun i => !f i (imgLoop bs i)
    match firstBad (fun _ w _ => instrOk w) 0 prog with
    | some i => some (4, i)
    | none =>
    match firstBad (branchOk n) 0 prog with
    | some i => some (5, i)
    | none =>
    match firstBad repeatOk 0 prog with
    | some i => some (6, i)
    | none =>
    if wordOpc (prog.getLastD 0#64) ≠ 0x3F then some (7, n - 1)
    else
      match idx fun i l => decide (1 ≤ l.id) && decide (1 ≤ l.src ∧ l.src ≤ 3) && decide (l.axis ≤ 2) && decide (l.entry < n) &&
          decide (1 ≤ l.wcet) && loopRsvOk bs i && (ls.take i).all (fun m => m.id != l.id) with
      | some i => some (8, i)
      | none =>
        let costs := pathCosts 0 prog
        match idx fun _ l => costs.getD l.entry 0 == l.wcet with
        | some i => some (9, i)
        | none => if (imgInit bs).isNone then some (10, 0xFFFF) else none

/-! ### Verification -/

/-- A failed step of Table 19.3: its code, page and record data. -/
abbrev VerFault := Nat × Nat × List (Nat × Nat × Nat)

/-- Why a SLOT fails step 2 (record 0x0403): 0 not at all, 1 class, 2 empty, 3 revoked. -/
def Rod.slotFault (ρ : Rod) (t slot : Nat) : Nat :=
  let vendor := t == 1 || t == 5 || (t == 4 && !([0, 1, 2, 3].any fun k => ρ.otp.slots.testBit (2 * k)))
  if vendor then (if slot = 0x80 then 0 else 1)
  else if 3 < slot then 1
  else if ρ.otp.slots.testBit (2 * slot) = false then 2
  else if ρ.otp.slots.testBit (2 * slot + 1) then 3 else 0

/-- The verification of an image of a type (R615, Table 19.3): the first failed step. An empty image stands for flash whose bytes
the model does not list: the verdict of the primitives decides alone. (DESIGN CHOICE, log entry 11) -/
def Rod.verifyImage (ρ : Rod) (t : Nat) (bs : List Byte) (v : Verdict) : Option VerFault :=
  let known := !bs.isEmpty
  let slot := if known then imgSlot t bs else if t = 1 then 0x80 else 0
  let who : List (Nat × Nat × Nat) := [(0, 1, t), (1, 1, slot)]
  let why := if known then ρ.slotFault t slot else 0
  let ctr := Sparse.get 0 ρ.otp.rb (imgRbIdx bs)
  match if known then headFault t bs else none with
  | some off => some (0x0405, 0x004, [(0, 1, t), (4, 4, off)])
  | none =>
    if why ≠ 0 then some (0x0403, 0x004, who ++ [(2, 1, why)])
    else if v.hashOk = false then some (0x0403, 0x004, who ++ [(2, 1, 4)])
    else if v.ecdsaOk = false then some (0x0401, 0x004, who)
    else if v.paramsOk = false then
      some (0x0406, 0x004, [(4, 4, if known && t != 5 then sbBig bs 0xD4 else 0), (8, 4, if known && t != 5 then sbBig bs 0xD8 else 0)])
    else if v.hssOk = false then some (0x0402, 0x004, who ++ [(2, 1, v.level.toNat)])
    else if known = false ∨ t = 5 then none
    else if imgRbVal bs < ctr then
      some (0x0404, 0x004, [(0, 1, imgRbIdx bs), (4, 4, imgRbVal bs), (8, 2, ctr)])
    else if ρ.g Fl.IMG_FW_VERSION < imgMinFw bs then some (0x0408, 0x004, [(4, 4, imgMinFw bs)])
    else if t = 2 then
      (lawFault bs).map fun e => (0x0870, 0x060, [(0, 1, e.1), (2, 2, e.2)])
    else none

/-- Writes the record of a failed step, severity WARN. -/
def Rod.verRecord (ρ : Rod) (e : VerFault) : Rod := ρ.flt e.1 sevWarn e.2.1 e.2.2

/-- The rollback counter of an image is raised to its RB_VAL (R621). -/
def Rod.raiseRb (ρ : Rod) (bs : List Byte) : Rod :=
  let i := imgRbIdx bs
  if bs.isEmpty then ρ
  else { ρ with otp := { ρ.otp with rb := Sparse.set 0 ρ.otp.rb i (max (Sparse.get 0 ρ.otp.rb i) (imgRbVal bs)) } }

/-- IMG_FW, IMG_CL or IMG_SP of a type. -/
def imgReg (t : Nat) : Nat := if t = 1 then Rg.IMG_FW else if t = 2 then Rg.IMG_CL else Rg.IMG_SP

/-- The flash slot in use for a type 1 to 3. -/
def Rod.bankOf (ρ : Rod) (t : Nat) : Nat := ρ.otp.bank.get (if t = 1 then 0 else if t = 2 then 1 else 2)

/-- The image in the active slot of a type. -/
def Rod.active (ρ : Rod) (t : Nat) : List Byte := Sparse.get [] ρ.slots (2 * t + ρ.bankOf t)

/-- The image of a type becomes active: the counter is raised first (R621), then the page shows it (Table 19.8). -/
def Rod.showImage (ρ : Rod) (t : Nat) : Rod :=
  let bs := ρ.active t
  let slot := if bs.isEmpty then (if t = 1 then 0x80 else 0) else imgSlot t bs
  (ρ.raiseRb bs).pw (imgReg t) (BitVec.ofNat 32 (imgVersion bs * 65536 + ρ.bankOf t * 256 + slot))

/-! ### Loading a control-law image -/

/-- Keeps the entries of a table that are not the default. -/
def listed {α : Type} [DecidableEq α] (d : α) (l : List α) : Sparse α :=
  (l.zip (List.range l.length)).filterMap fun e => if e.1 = d then none else some (e.2, e.1)

/-- A trigger is set from a loop: source, axis, loop and entry. -/
def Rod.setTrig (ρ : Rod) (c t : Nat) (l : Loop) : Rod :=
  (((ρ.p (Fl.TRIG_CFG_SRC c t) l.src).p (Fl.TRIG_CFG_AXIS c t) l.axis).p (Fl.TRIG_CFG_LOOP c t) l.id).p
    (Fl.TRIG_CFG_ENTRY c t) l.entry

/-- Native placement at a load (R332). -/
def Rod.placeNative (ρ : Rod) : Rod :=
  ρ.each [0, 1, 2, 3] fun c q => q.each (List.range 8) fun t w =>
    if w.g (Fl.TRIG_CFG_SRC c t) = 0 then w
    else
      let id := w.g (Fl.TRIG_CFG_LOOP c t)
      match w.rk.loops.find? fun l => l.id == id with
      | some l => w.p (Fl.TRIG_CFG_ENTRY c t) l.entry
      | none => (w.p (Fl.TRIG_CFG_SRC c t) 0).flt 0x0871 sevWarn (0x061 + c) [(0, 1, c), (1, 1, t), (2, 1, id)]

/-- The last cycle by which a block of a source must end (R274). -/
def lastEnd (pc src : Nat) : Nat := if src = 2 then pc - 1280 else pc

/-- The column for a loop in Arver placement (R257, R333), given for each column the triggers placed, the end of the last of them
and the cycles in use: the one with the fewest cycles that has room. -/
def pickColumn (pc : Nat) (l : Loop) (cols : List (Nat × Nat × Nat × Nat)) : Option (Nat × Nat × Nat × Nat) :=
  let room := cols.filter fun k =>
    let stop := max l.earliest k.2.2.1 + l.wcet
    decide (k.2.1 < 8) && decide (stop ≤ lastEnd pc l.src) && (l.latest == 0 || decide (stop ≤ l.latest))
  room.foldl (fun best k => match best with
    | none => some k
    | some b => if k.2.2.2 < b.2.2.2 then some k else best) none

/-- Places the loops of a list in image order; answers whether all have a column. -/
def Rod.placeLoops (pc : Nat) : List Loop → List (Nat × Nat × Nat × Nat) → Rod → Rod × Bool
  | [], _, ρ => (ρ, true)
  | l :: ls, cols, ρ =>
    match pickColumn pc l cols with
    | none => (ρ, false)
    | some (c, t, e, u) =>
      let start := max l.earliest e
      let ρ1 := ((ρ.setTrig c t l).p (Fl.TRIG_LIM_START c t) start).p (Fl.TRIG_LIM_LIMIT c t) l.wcet
      Rod.placeLoops pc ls (cols.map fun k => if k.1 = c then (c, t + 1, start + l.wcet, u + l.wcet) else k) ρ1

/-- Arver placement of the loops of the image in force (R257, R303, R333). -/
def Rod.placeArver (ρ : Rod) : Rod :=
  let pc := ρ.pc
  let ρ0 := ρ.each [0, 1, 2, 3] fun c q => q.each (List.range 8) fun t w =>
    (w.pw (Rg.TRIG_CFG c t) 0#32).pw (Rg.TRIG_LIM c t) 1#32
  let (ρ1, ok) := Rod.placeLoops pc ρ.rk.loops [(0, 0, 0, 0), (1, 0, 0, 0), (2, 0, 0, 0), (3, 0, 0, 0)] ρ0
  ρ1.p Fl.RK_STAT_PLACE_FAIL (b2n (!ok))

/-- Places the loops as CT_CFG.PLACEMENT says. -/
def Rod.place (ρ : Rod) : Rod :=
  if ρ.b Fl.CT_CFG_PLACEMENT then ρ.placeArver else (ρ.p Fl.RK_STAT_PLACE_FAIL 0).placeNative

/-- The registers of the shadow columns are 0 as well (R315); their tallies go on. -/
def Rod.reloadShadow (ρ : Rod) : Rod :=
  { ρ with ls := { ρ.ls with stage := [], shad := allCols.map fun c => (c.val, { Copy.init with sum := (ρ.shadowOf c).sum }) } }

/-- The load of a verified control-law image (R331, R315, record 0x0801). -/
def Rod.loadLaw (ρ : Rod) (bs : List Byte) : Rod :=
  if bs.isEmpty then ρ
  else
    let n := leAt bs 0x24 4
    let coef := (List.range n).map fun i => BitVec.ofNat 64 (leAt bs (leAt bs 0x20 4 + 8 * i) 8 % 2 ^ 40)
    let one := listed 0#64 coef
    let ρ1 := { ρ with rk := { ρ.rk with
      prog := listed 0#64 (imgProg bs), loops := imgLoops bs, cols := [], coefQ := []
      coef := one ++ one.map fun (e : Nat × DWord) => (4096 + e.1, e.2)
      sig := ρ.rk.sig.filter fun e => e.1 < 0x800 } }
    let ρ2 := ρ1.each ((imgInit bs).getD []) fun r q =>
      q.each (r.2.zip (List.range r.2.length)) fun w s => s.sp (r.1 + w.2) w.1
    let ρ3 := ρ2.reloadShadow.each [0, 1, 2, 3] fun c q =>
      (q.pw (Rg.COL_FLAGS c) 0#32).pw (Rg.COL_STAT c) 0#32
    let ρ4 := ((ρ3.p Fl.RK_IMG_VERSION (imgVersion bs)).p Fl.RK_IMG_LENGTH (leAt bs 0x14 4)).p Fl.RK_STAT_IMG_OK 1
    (ρ4.place).flt 0x0801 sevInfo 0x060 [(0, 2, imgVersion bs), (2, 2, leAt bs 0x14 4)]

end Sys2Proof.Machine
end

