-- ==== Sys2Proof/Machine/Security.lean ====
section
/-! DEFINITION. The security engine (spec/19_security.md): the boot chain, partner identities, access levels, key
manifests, attestation, and the rolling update of a rod (R503, R504). -/

namespace Sys2Proof.Machine

def Rod.modSec (ρ : Rod) (f : SecS → SecS) : Rod := { ρ with sec := f ρ.sec }
def Rod.modOtp (ρ : Rod) (f : Otp → Otp) : Rod := { ρ with otp := f ρ.otp }

/-! ### What the page shows -/

/-- Seconds of lockout left (R632). -/
def Rod.lockSeconds (ρ : Rod) : Nat :=
  match ρ.otp.lockEnd with
  | none => 0
  | some t => (t - ρ.ft + 999999999) / 1000000000

/-- SEC_STAT as read (Table 19.8). -/
def Rod.secStat (ρ : Rod) : Word :=
  (ρ.gw Rg.SEC_STAT &&& 0x04070003#32) ||| BitVec.ofNat 32
    (b2n (decide (943719 ≤ ρ.otp.hss)) * 2 ^ 31 + b2n (decide (1048576 ≤ ρ.otp.hss)) * 2 ^ 30 + b2n ρ.otp.pwSet * 2 ^ 29 +
      b2n ρ.otp.lockEnd.isSome * 2 ^ 28 + b2n (!ρ.sec.chal.isEmpty) * 2 ^ 27 + satN 255 ρ.otp.fails * 256)

/-- The UID words of the rod. -/
def Rod.uidWord (ρ : Rod) (i : Nat) : Word := (Config.uid ρ.me >>> (32 * i)).setWidth 32

/-- SEC_CHAL as read: the challenge, then the UID, while a challenge is valid (R634). -/
def Rod.chalWord (ρ : Rod) (i : Nat) : Word :=
  if ρ.sec.chal.isEmpty then 0#32 else if i < 8 then ρ.sec.chal.getD i 0#32 else ρ.uidWord (i - 8)

/-- RB_SHOW as read. -/
def Rod.rbShow (ρ : Rod) : Word := BitVec.ofNat 32 (Sparse.get 0 ρ.otp.rb (ρ.g Fl.RB_SEL_IDX))

/-- The certificate that CERT_SEL names, with its HSS signature: its length and a word of it (R624, Table 19.8). -/
def Rod.certLen (ρ : Rod) : Nat := min 2048 (Config.cert ρ.me (ρ.g Fl.CERT_SEL_CERT)).length

def Rod.certWord (ρ : Rod) (i : Nat) : Word := BitVec.ofNat 32 (leAt (Config.cert ρ.me (ρ.g Fl.CERT_SEL_CERT)) (4 * i) 4)

/-! ### Boot chain -/

/-- The rod stops in BOOT (R84, record 0x0110). -/
def Rod.bootFail (ρ : Rod) (step : Nat) : Rod :=
  ({ ρ with md := { ρ.md with stuck := true } }).flt 0x0110 sevWithdraw 0x001 [(0, 1, step)]

/-- The boot ROM has verified the active firmware, after the comparator test (R616). -/
def Rod.bootFirmware (ρ : Rod) (v : Verdict) : Rod :=
  if ρ.state ≠ RS.boot ∨ ρ.md.stuck = true ∨ ρ.md.fwOk = true ∨ ρ.b Fl.LS_STAT_BOOT_OK = false then ρ
  else
    match ρ.verifyImage 1 (ρ.active 1) v with
    | some e => (ρ.verRecord e).bootFail 1
    | none => { ρ.showImage 1 with md := { ρ.md with fwOk := true } }

/-- Entry to SYNC (Table 3.3): outputs are released, the FlexRay controller starts, UIDs go to the partners (R625). -/
def Rod.enterSync (ρ : Rod) : Rod :=
  let ρ1 := { ρ with md := { ρ.md with hold := false }, tb := { ρ.tb with syncFt := ρ.ft } }
  let ρ2 := (ρ1.enter RS.sync).pocRun
  (ρ2.each ρ.me.partners fun p q => q.send (.uid p (Config.uid ρ.me))).voteUpdate

/-- The firmware has verified the other images and the certificates, and run the logic self-test (R83, R616, R625). -/
def Rod.bootImages (ρ : Rod) (law safety : Verdict) (certs selfTest : Bool) : Rod :=
  if ρ.state ≠ RS.boot ∨ ρ.md.stuck = true ∨ ρ.md.fwOk = false then ρ
  else
    match ρ.verifyImage 2 (ρ.active 2) law with
    | some e => (ρ.verRecord e).bootFail 3
    | none =>
    match ρ.verifyImage 3 (ρ.active 3) safety with
    | some e => (ρ.verRecord e).bootFail 3
    | none =>
    if certs = false then ρ.bootFail 3
    else if selfTest = false then ρ.bootFail 4
    else (((ρ.showImage 2).loadLaw (ρ.active 2)).showImage 3).enterSync

/-- A partner's UID (R625): one that the module certificate does not name makes its link silent. -/
def Rod.uidReceived (ρ : Rod) (src : RodId) (uid : BitVec 128) : Rod :=
  if src = ρ.me ∨ ρ.state < RS.sync then ρ
  else if allRods.any (fun r => Config.certUid r == uid) then ρ.modSec fun s => { s with alien := s.alien.set src.idx false }
  else
    (ρ.modSec fun s => { s with alien := s.alien.set src.idx true }).flt 0x0409 sevWithdraw 0x004
      [(0, 1, src.code), (8, 8, uid.toNat % 2 ^ 64)]

/-! ### Access levels -/

/-- An RWL write or a SEC_CMD: the 30 minutes of R633 count anew. -/
def Rod.accessUsed (ρ : Rod) : Rod := ρ.modSec fun s => { s with useFt := ρ.ft }

/-- Access opens at a level (R630, record 0x0420). -/
def Rod.openAccess (ρ : Rod) (level : Nat) : Rod :=
  ((ρ.p Fl.SEC_STAT_LEVEL level).when (ρ.g Fl.SEC_STAT_LEVEL != level) (·.irq 0x004 0)).flt 0x0420 sevInfo 0x004 [(0, 1, level)]

/-- The password bytes written, ended by the first 0x00 (R631); `none` where they are no password. -/
def Rod.password (ρ : Rod) : Option (List Byte) :=
  let bs := (wordBytes ((List.range 4).map (Sparse.get 0#32 ρ.sec.pw))).takeWhile (· != 0#8)
  if 8 ≤ bs.length ∧ bs.all (fun b => decide (0x20 ≤ b.toNat) && decide (b.toNat ≤ 0x7E)) = true then some bs else none

/-- OPEN_L1 starts a check where its conditions hold (R630 to R632). -/
def Rod.openL1 (ρ : Rod) : Rod :=
  let ρ1 := ρ.modSec fun s => { s with pw := [] }
  if ρ.otp.lockEnd.isSome then ρ1.flt 0x0423 sevWarn 0x004 [(4, 4, ρ.lockSeconds)]
  else if ρ.mode ≠ SM.standby then ρ1.flt 0x0421 sevInfo 0x004 [(0, 1, 5)]
  else if ρ.maint = false ∨ ρ.otp.pwSet = false then ρ1
  else ρ1.modSec fun s => { s with check := true, pwForm := ρ.password.isSome }

/-- Lockout in seconds after failure f (R632). -/
def lockoutOf (f : Nat) : Nat := if f < 8 then 0 else if 24 ≤ f then 65536 else 2 ^ (f - 8)

/-- The password check completes (R632, R633): bytes that are no password (R631) match no verifier. -/
def Rod.passwordDone (ρ : Rod) (ok : Bool) : Rod :=
  if ρ.sec.check = false then ρ
  else
    let ρ1 := ρ.modSec fun s => { s with check := false }
    if ρ.mode ≠ SM.standby then ρ1.flt 0x0421 sevInfo 0x004 [(0, 1, 5)]
    else if ok && ρ.sec.pwForm then (ρ1.modOtp fun o => { o with fails := 0 }).openAccess (max 1 (ρ.g Fl.SEC_STAT_LEVEL))
    else
      let f := ρ.otp.fails + 1
      let ρ2 := (ρ1.modOtp fun o => { o with fails := f }).flt 0x0422 sevWarn 0x004 [(0, 1, satN 255 f)]
      if lockoutOf f = 0 then ρ2
      else (ρ2.modOtp fun o => { o with lockEnd := some (ρ.ft + lockoutOf f * 1000000000) }).irq 0x004 1

/-- The lockout has run out. -/
def Rod.lockoutEnd (ρ : Rod) : Rod := if ρ.otp.lockEnd.all (ρ.passed · 0) then ρ.modOtp fun o => { o with lockEnd := none } else ρ

/-- 30 minutes without an RWL write or a SEC_CMD (R633). -/
def Rod.accessIdle (ρ : Rod) : Rod := if ρ.passed ρ.sec.useFt 1800000000000 then ρ.closeAccess 3 else ρ

/-- CHALLENGE: 32 random bytes as words; a second one replaces the first (R634). -/
def Rod.challenge (ρ : Rod) (random : BitVec 256) : Rod :=
  ρ.modSec fun s => { s with chalFt := ρ.ft, chal := (List.range 8).map fun i => (random >>> (32 * i)).setWidth 32 }

/-- The challenge ceases to be valid. -/
def Rod.endChallenge (ρ : Rod) : Rod := ρ.modSec fun s => { s with chal := [] }

/-- A challenge ends after 10 minutes (R634). -/
def Rod.challengeOver (ρ : Rod) : Rod := if ρ.passed ρ.sec.chalFt 600000000000 then ρ.endChallenge else ρ

/-- RESPOND (R634): the staged vendor response must carry the challenge and the UID and be verified; on success the wrap generation
advances, the password verifier is erased, and L2 opens. -/
def Rod.respond (ρ : Rod) (v : Verdict) : Rod :=
  let ρ1 := ρ.endChallenge
  let body := (ρ.sec.staged.drop 0x10).take 0x30
  if ρ.mode ≠ SM.standby ∨ ρ.maint = false ∨ ρ.sec.chal.isEmpty = true then ρ1
  else
    match ρ.verifyImage 5 ρ.sec.staged v with
    | some e => ρ1.verRecord e
    | none =>
      if ρ.sec.staged.isEmpty ∨ body ≠ wordBytes ((List.range 12).map ρ.chalWord) then
        ρ1.flt 0x0405 sevWarn 0x004 [(0, 1, 5), (4, 4, 0x10)]
      else
        let w := satN 128 (ρ.otp.wrap + 1)
        ((ρ1.modOtp fun o => { o with wrap := w, pwSet := false }).flt 0x0424 sevDegrade 0x004 [(0, 1, w)]).openAccess 2

/-- SET_PASSWORD (R631): a new verifier, at L1 or L2. (DEDUCED, log entry 51) -/
def Rod.setPassword (ρ : Rod) : Rod :=
  let ρ1 := ρ.modSec fun s => { s with pw := [] }
  if ρ.g Fl.SEC_STAT_LEVEL ≠ 0 ∧ ρ.password.isSome = true then ρ1.modOtp fun o => { o with pwSet := true } else ρ1

/-! ### Key manifests -/

/-- Slots 0 to 3 of a mask. -/
def slotsOf (m : BitVec 4) : List Nat := [0, 1, 2, 3].filter fun i => m.getLsbD i

/-- The slot state after a manifest (Table 19.4). -/
def slotsAfter (old : Nat) (m : Manifest) : Nat :=
  old ||| ((slotsOf m.prov).map fun i => 2 ^ (2 * i)).sum ||| ((slotsOf m.revoke).map fun i => 2 ^ (2 * i + 1)).sum

/-- The slots that sign an active or the staged image of the rod (R619). -/
def Rod.slotsInUse (ρ : Rod) : List Nat :=
  [ρ.g Fl.IMG_FW_SLOT, ρ.g Fl.IMG_CL_SLOT, ρ.g Fl.IMG_SP_SLOT] ++
    (if ρ.sec.staged.isEmpty then [] else [imgSlot (leAt ρ.sec.staged 4 1) ρ.sec.staged])

/-- Why a verified manifest is refused (R618, R619), 0 for no reason. -/
def Rod.manifestFault (ρ : Rod) (m : Manifest) : Nat :=
  let old := ρ.otp.slots
  let new := slotsAfter old m
  let first := !([0, 1, 2, 3].any fun k => old.testBit (2 * k))
  if !([0, 1, 2, 3].any fun k => new.testBit (2 * k) && !new.testBit (2 * k + 1)) || (first && !m.prov.getLsbD 0) then 1
  else if (slotsOf m.revoke).any fun i => ρ.slotsInUse.contains i then 2
  else if (slotsOf m.prov).any fun i => old.testBit (2 * i) then 3
  else 0

/-- APPLY_MANIFEST (R618 to R621): the counter is raised before any key bit is programmed. -/
def Rod.applyManifest (ρ : Rod) (v : Verdict) (m : Manifest) : Rod :=
  let refuse (cause : Nat) : Rod := ρ.flt 0x0441 sevWarn 0x004 [(0, 1, cause)]
  if ρ.mode ≠ SM.standby ∨ ρ.g Fl.SEC_STAT_LEVEL = 0 then refuse 4
  else
    match ρ.verifyImage 4 ρ.sec.staged v with
    | some e => ρ.verRecord e
    | none =>
      if ρ.sec.staged.isEmpty then ρ.flt 0x0405 sevWarn 0x004 [(0, 1, 4)]
      else if ρ.manifestFault m ≠ 0 then refuse (ρ.manifestFault m)
      else
        let ρ1 := (ρ.raiseRb ρ.sec.staged).modOtp fun o =>
          { o with slots := slotsAfter o.slots m, pwSet := o.pwSet || m.newPw
                   keys := ((slotsOf m.prov).zip m.keys).foldl (fun k e => Sparse.put k e.1 e.2) o.keys }
        ρ1.flt 0x0440 sevInfo 0x004 [(0, 1, m.prov.toNat), (1, 1, m.revoke.toNat)]

/-- A write of SEC_CMD, with what its command needs from outside (Table 19.8). (DESIGN CHOICE, log entry 9) -/
def Rod.writeSecCmd (ρ : Rod) (path : Nat) (data : Word) (random : BitVec 256) (v : Verdict) (m : Manifest) : Rod :=
  if wBits data 8 8 ≠ 0x5A then ρ.errCap 0x004 0x6 path 0x44 data
  else
    let ρ1 := ρ.accessUsed
    match wBits data 0 4 with
    | 1 => ρ1.closeAccess 2
    | 2 => ρ1.openL1
    | 3 => ρ1.challenge random
    | 4 => ρ1.respond v
    | 5 => ρ1.applyManifest v m
    | 6 => ρ1.setPassword
    | _ => ρ.errCap 0x004 0x6 path 0x44 data

/-- What a write of SEC_CMD needs from outside, drawn as free values: a register write does not carry it.
(DESIGN CHOICE, log entry 9) -/
def Rod.drawSec (ρ : Rod) : (BitVec 256 × Verdict × Manifest) × Rod :=
  let d (i : Nat) : DWord := Config.free ρ.me (ρ.fresh + i)
  let b (i : Nat) : Bool := (d 4).getLsbD i
  (((d 0 ++ d 1 ++ d 2 ++ d 3 : BitVec 256), ⟨b 0, b 1, b 2, b 3, (d 4).setWidth 8⟩,
    ⟨(d 5).setWidth 4, (d 6).setWidth 4, [], (d 6).getLsbD 4⟩), { ρ with fresh := ρ.fresh + 7 })

/-! ### Attestation -/

/-- The first `n` bytes of a string, 0 where it is shorter. -/
def padTo (n : Nat) (l : List Byte) : List Byte := (List.range n).map fun i => l.getD i 0#8

/-- The signed part of the report (Table 19.5). -/
def Rod.attestBody (ρ : Rod) (nonce : List Byte) : List Byte :=
  let one (t : Nat) : List Byte :=
    let w := ρ.gw (imgReg t)
    let bs := ρ.active t
    leBytes 2 (wBits w 16 16) ++ leBytes 1 (wBits w 0 8) ++ [0#8] ++
      padTo 48 (Config.sha384 (bs.take (imgBodyLen bs)))
  leBytes 4 0x41545331 ++ leBytes 1 0x01 ++ leBytes 1 ρ.me.code ++ leBytes 2 0 ++
  wordBytes ((List.range 4).map ρ.uidWord) ++ wordBytes ((List.range 4).map Config.msn) ++
  leBytes 8 (if ρ.b Fl.FT_STAT_VALID then ρ.ft else 0) ++ padTo 32 nonce ++
  leBytes 1 ρ.mode ++ leBytes 1 ρ.state ++ leBytes 1 (ρ.g Fl.SEC_STAT_LEVEL) ++ leBytes 1 (ρ.g Fl.SF_SEAL_SEALED) ++
  leBytes 2 (ρ.g Fl.CR_EPOCH_EPOCH) ++ leBytes 2 0 ++ leBytes 4 ρ.otp.hss ++ leBytes 4 ρ.otp.slots ++
  one 1 ++ one 2 ++ one 3 ++ leBytes 4 (ρ.g Fl.SF_CRC_CRC) ++
  (List.range 32).flatMap (fun i => leBytes 2 (Sparse.get 0 ρ.otp.rb i))

/-- ATTEST with the security engine held (R626 to R628): the report, or `none` where the index is used up. -/
def Rod.attest (ρ : Rod) (nonce : List Byte) : Option (List Byte) × Rod :=
  let h := ρ.otp.hss
  if 1048576 ≤ h then
    (none, if ρ.otp.empty then ρ else (ρ.modOtp fun o => { o with empty := true }).flt 0x0431 sevDegrade 0x004 [])
  else
    let body := ρ.attestBody nonce
    let ρ1 := ρ.modOtp fun o => { o with hss := h + 1 }
    let ρ2 := if h + 1 = 943719 then (ρ1.irq 0x004 4).flt 0x0430 sevWarn 0x004 [(4, 4, h + 1)] else ρ1
    (some (body ++ padTo 3060 (Config.attestSign ρ.me h body)), ρ2)

/-! ### Staging and rolling update -/

/-- IMAGE_STAGE overwrites the staging area (R635). -/
def Rod.stage (ρ : Rod) (t : Nat) (bs : List Byte) : Rod :=
  ((ρ.modSec fun s => { s with staged := bs }).p Fl.SEC_STAT_STAGED_OK 0).p Fl.SEC_STAT_STAGED_TYPE t

/-- IMAGE_VERIFY (R615, R635): 0 or the fault code. -/
def Rod.verifyStaged (ρ : Rod) (v : Verdict) : Nat × Rod :=
  let t := ρ.g Fl.SEC_STAT_STAGED_TYPE
  let ρ1 := ρ.irq 0x004 5
  match if ρ.sec.staged.isEmpty then some (0x0405, 0x004, [(0, 1, t)]) else ρ.verifyImage t ρ.sec.staged v with
  | some e => (e.1, (ρ1.verRecord e).p Fl.SEC_STAT_STAGED_OK 0)
  | none => (0, ρ1.p Fl.SEC_STAT_STAGED_OK 1)

/-- The conditions of Table 3.3 for entry to UPDATE. -/
def Rod.updateAllowed (ρ : Rod) : Bool :=
  (ρ.state == RS.active && ρ.me.partners.all fun p => ρ.live p && ρ.seen p == RS.active &&
    allAxes.all fun n => !ρ.axisArmed n || !ρ.connected p n || ρ.healthy n p) ||
  (ρ.state == RS.ready && ρ.mode == SM.standby && ρ.me.partners.all fun p => ρ.live p && ρ.seen p == RS.ready)

/-- Why an update request for a type is refused (R636), 0 for no reason. (DEDUCED, log entry 51) -/
def Rod.updateFault (ρ : Rod) (t : Nat) : Nat :=
  if !ρ.b Fl.SEC_STAT_STAGED_OK || ρ.g Fl.SEC_STAT_STAGED_TYPE != t || t < 1 || 3 < t then 1
  else if ρ.me.partners.any fun p => ρ.seen p == RS.update || (ρ.red.upd.get p.idx).isSome then 4
  else if ρ.updateAllowed = false then 2
  else if ρ.ct.notices.isEmpty = false then 3
  else if t = 3 ∧ ρ.mode ≠ SM.standby then 5 else 0

/-- A write of UPD_REQ (R636). (DEDUCED, log entry 51) -/
def Rod.writeUpdReq (ρ : Rod) (path : Nat) (data : Word) : Rod :=
  if wBit data 31 = false then ρ
  else if wBits data 8 8 ≠ 0x5A then ρ.errCap 0x004 0x6 path 0x4C data
  else
    let t := wBits data 0 3
    let why := if ρ.sec.req.isSome || (ρ.red.upd.get ρ.me.idx).isSome then 2 else ρ.updateFault t
    let ρ1 := ρ.p Fl.UPD_STAT_REASON why
    if why = 0 then ρ1.modSec fun s => { s with req := some (t, ρ.tick) } else ρ1

/-- The rod enters UPDATE (R504, Table 3.3). -/
def Rod.enterUpdate (ρ : Rod) (t : Nat) : Rod :=
  let ρ1 := ((ρ.coil false).enter RS.update).modRed fun d => { d with upd := d.upd.set ρ.me.idx none }
  ((ρ1.modSec fun s => { s with upd := some (t, ρ.ft), req := none }).updEn).flt 0x0450 sevInfo 0x004
    [(0, 1, t), (2, 2, imgVersion ρ.sec.staged)]

/-- The update request at a tick boundary (R636, R504): a request of the same tick in a rod with a lower code, or one already
accepted, goes first; an accepted rod enters UPDATE once it leads no axis that another could lead. -/
def Rod.updateTick (ρ : Rod) (ps : RodId → Rod) : Rod :=
  match ρ.sec.req with
  | none => ρ
  | some (t, k) =>
    if (ρ.red.upd.get ρ.me.idx).isNone then
      let other := ρ.me.partners.any fun p =>
        (ps p).state == RS.update || ((ps p).red.upd.get p.idx).isSome ||
        ((ps p).sec.req.any fun e => e.2 == k && decide (p.code < ρ.me.code))
      let why := if other then 4 else ρ.updateFault t
      if why ≠ 0 then (ρ.modSec fun s => { s with req := none }).p Fl.UPD_STAT_REASON why
      else
        let ρ1 := ρ.modRed fun d => { d with upd := d.upd.set ρ.me.idx (some ρ.tick) }
        if allAxes.any fun n => ρ.leads n && (ρ.nextLead n ρ.me).isSome then ρ1 else ρ1.enterUpdate t
    else if allAxes.any fun n => ρ.leads n && (ρ.nextLead n ρ.me).isSome then ρ
    else ρ.enterUpdate t

/-- The planned switch-over of the axes of a rod on its way into UPDATE, at an outer-cycle tick after its acceptance (R496). -/
def Rod.plannedSwitch (ρ : Rod) : Rod :=
  let go := allAxes.filter fun n =>
    match ρ.red.upd.get (ρ.rk.lead.get n).idx with
    | some k => ρ.outerTick n && k != ρ.tick && (ρ.nextLead n (ρ.rk.lead.get n)).isSome
    | none => false
  if go.isEmpty then ρ
  else
    let ρ1 := ρ.advanceEpoch.each go fun n q =>
      match q.nextLead n (q.rk.lead.get n) with
      | none => q
      | some r => q.passLead n (q.rk.lead.get n) r true
    ρ1.arverRecord 2

/-- The image is programmed and read back (R637, R638): made active and loaded, or rejected; then the rod leaves UPDATE. -/
def Rod.updateComplete (ρ : Rod) (v : Verdict) : Rod :=
  match ρ.sec.upd with
  | none => ρ
  | some (t, t0) =>
    if ρ.state ≠ RS.update then ρ
    else
      let bank := 1 - ρ.bankOf t
      let bs := ρ.sec.staged
      let ρ1 := (if ρ.b Fl.LS_STAT_SPLIT then ρ.pairRejoin.pairRestart else ρ).modSec fun s => { s with upd := none }
      let ρ2 := { ρ1 with slots := Sparse.set [] ρ1.slots (2 * t + bank) bs }
      let ver : List (Nat × Nat × Nat) := [(0, 1, t), (2, 2, imgVersion bs)]
      let ρ3 :=
        match ρ.verifyImage t bs v with
        | some e => ((ρ2.p Fl.UPD_STAT_FAIL 1).irq 0x004 3).flt 0x0452 sevWarn 0x004 [(0, 1, t), (2, 2, e.1)]
        | none =>
          let q := ρ2.modOtp fun o => { o with bank := o.bank.set (if t = 1 then 0 else if t = 2 then 1 else 2) bank }
          let q1 := q.showImage t
          let q2 := if t = 2 then q1.loadLaw bs else q1
          ((q2.p Fl.UPD_STAT_DONE 1).irq 0x004 2).flt 0x0451 sevInfo 0x004 (ver ++ [(4, 4, (ρ.ft - t0) / 1000000)])
      if ρ3.mode = SM.standby then
        (ρ3.p Fl.CR_EPOCH_EPOCH (match ρ3.latestEpoch with
          | some e => if laterEpoch e (ρ3.g Fl.CR_EPOCH_EPOCH) then e else ρ3.g Fl.CR_EPOCH_EPOCH
          | none => ρ3.g Fl.CR_EPOCH_EPOCH)).enter RS.ready
      else ρ3.startRejoin t

/-! ### The commands -/

/-- BOOT_FIRMWARE_VERIFY (R616). -/
def execBootFirmwareVerify (r : RodId) (verdict : Verdict) (s : State) : Host.Outcome State Fault Refusal :=
  onRod s r fun ρ => ρ.bootFirmware verdict

/-- BOOT_IMAGE_VERIFY (R83). -/
def execBootImageVerify (r : RodId) (law safety : Verdict) (certs selfTest : Bool) (s : State) :
    Host.Outcome State Fault Refusal :=
  onRod s r fun ρ => ρ.bootImages law safety certs selfTest

/-- UID_EXCHANGE (R625). -/
def execUidExchange (r src : RodId) (uid : BitVec 128) (s : State) : Host.Outcome State Fault Refusal :=
  onRod s r fun ρ => ρ.uidReceived src uid

/-- PASSWORD_CHECK_DONE (R633). -/
def execPasswordCheckDone (r : RodId) (ok : Bool) (s : State) : Host.Outcome State Fault Refusal :=
  onRod s r fun ρ => ρ.passwordDone ok

/-- LOCKOUT_END (R632). -/
def execLockoutEnd (r : RodId) (s : State) : Host.Outcome State Fault Refusal := onRod s r fun ρ => ρ.lockoutEnd

/-- ACCESS_IDLE_TIMEOUT (R633). -/
def execAccessIdleTimeout (r : RodId) (s : State) : Host.Outcome State Fault Refusal := onRod s r fun ρ => ρ.accessIdle

/-- CHALLENGE_EXPIRY (R634). -/
def execChallengeExpiry (r : RodId) (s : State) : Host.Outcome State Fault Refusal := onRod s r fun ρ => ρ.challengeOver

/-- UPDATE_COMPLETE (R637). -/
def execUpdateComplete (r : RodId) (verdict : Verdict) (s : State) : Host.Outcome State Fault Refusal :=
  onRodV s r fun _ ρ => ρ.updateComplete verdict

end Sys2Proof.Machine
end

