-- ==== Sys2Proof/Machine/Staging.lean ====
section
/-! DEFINITION. Staged configuration (R56 to R68, R438): the shadows of a page, the commit instant with the checks of every
page's chapter (ranges of the register tables, relations of R145, R153, R245, R274, R299, R353, R412, R486, R511 and the
page texts), what a commit and a rejection leave, and what the blocks do at a commit. -/

namespace Sys2Proof.Machine

/-! ### Pages and shadows -/

/-- Whether the clock domain and the power domain of a page are on (R668). -/
def Rod.pageClk (ρ : Rod) (p : Nat) : Bool := match pageInfo p with | none => false | some i => ρ.clkOn i.domain
def Rod.pagePwr (ρ : Rod) (p : Nat) : Bool :=
  match pageInfo p with
  | none => false
  | some i => match i.power with | none => true | some d => ρ.bitOf Fl.PWR_STAT_PWR_OK d
def Rod.pageOn (ρ : Rod) (p : Nat) : Bool := ρ.pageClk p && ρ.pagePwr p

/-- PG_CAPS.STAGED. -/
def pageStaged (p : Nat) : Bool := ((pageInfo p).map (·.groups.isSome)).getD false

/-- DIRTY: a shadow of the page was written since the last commit or rejection. -/
def Rod.dirty (ρ : Rod) (p : Nat) : Bool := ρ.shadow.any fun e => e.1 / 0x1000 == p

/-- The shadows of a page are reloaded from the values in force. -/
def Rod.dropShadow (ρ : Rod) (p : Nat) : Rod := { ρ with shadow := ρ.shadow.filter fun e => e.1 / 0x1000 != p }

/-- The RWS bits of a register. On drive pages 1 and 2 PERIOD and DOUBLE are not staged (R437). -/
def rwsMask (a : Nat) : Word :=
  if a = Rg.DRV_PWM 1 ∨ a = Rg.DRV_PWM 2 then 0x1FF#32 else ((regRow a).map (·.rws)).getD 0#32

/-- The shadow of a register. -/
def Rod.shadowW (ρ : Rod) (a : Nat) : Word := Sparse.get (ρ.gw a) ρ.shadow a

/-- A write of `v` reaches the shadow of a register. -/
def Rod.putShadow (ρ : Rod) (a : Nat) (v : Word) : Rod :=
  { ρ with shadow := Sparse.put ρ.shadow a ((ρ.gw a &&& ~~~(rwsMask a)) ||| (v &&& rwsMask a)) }

/-- The written fields of the given pages take the values in force. -/
def Rod.overlay (ρ : Rod) (ps : List Nat) : Rod :=
  (ρ.shadow.filter fun e => ps.contains (e.1 / 0x1000)).foldl
    (fun q e => q.pw e.1 ((q.gw e.1 &&& ~~~(rwsMask e.1)) ||| (e.2 &&& rwsMask e.1))) ρ

/-- Offsets in ascending order. -/
def insertNat (x : Nat) : List Nat → List Nat
  | [] => [x]
  | h :: t => if x ≤ h then x :: h :: t else h :: insertNat x t

/-- The addresses of the RWS registers of a page, in ascending order. -/
def rwsRegs (p : Nat) : List Nat :=
  match pageInfo p with
  | none => []
  | some i =>
    if i.first = 0x031 then ((List.range 9).filter fun k => 9 * (p - 0x031) + k < 128).map fun k => p * 0x1000 + 0x40 + 0x1C0 * k
    else
      let offs := (i.rows.filter fun r => r.rws != 0#32).flatMap fun r => (List.range r.count).map fun k => r.off + r.stride * k
      (offs.foldr insertNat []).map (p * 0x1000 + ·)

/-- The staged fields of a register in force, as PG_CRC takes them (R68; PERIOD and DOUBLE of drive pages 1 and 2 are those of
page 0x090). -/
def Rod.inForce (ρ : Rod) (a : Nat) : Word :=
  if a = Rg.DRV_PWM 1 ∨ a = Rg.DRV_PWM 2 then (ρ.gw a &&& 0x1FF#32) ||| (ρ.gw (Rg.DRV_PWM 0) &&& 0xFFFF0000#32)
  else ρ.gw a &&& rwsMask a

/-- PG_CRC of a page (R68). -/
def Rod.pageCrc (ρ : Rod) (p : Nat) : Word := crc32 (wordBytes ((rwsRegs p).map ρ.inForce))

/-! ### Consistency groups -/

/-- The group of a register, by page and offset; none for a register of no group. -/
def groupOf (a : Nat) : Option Nat :=
  let p := a / 0x1000
  let o := a % 0x1000
  let r (lo hi g : Nat) : Option Nat := if lo ≤ o ∧ o ≤ hi then some g else none
  if 0x010 ≤ p ∧ p ≤ 0x01F then r 0x48 0x58 0
  else if p = 0x030 then r 0x48 0x64 0
  else if 0x031 ≤ p ∧ p ≤ 0x03F then some ((o - 0x40) / 0x1C0)
  else if p = 0x040 then (r 0x68 0x6C 0).orElse fun _ => r 0x60 0x60 1
  else if p = 0x050 then r 0x40 0x40 0
  else if p = 0x060 then (r 0x50 0x58 ((o - 0x50) / 4)).orElse fun _ => r 0x5C 0x5C 3
  else if 0x061 ≤ p ∧ p ≤ 0x064 then some ((o - 0x50) / 8)
  else if 0x070 ≤ p ∧ p ≤ 0x072 then ((r 0x40 0x40 0).orElse fun _ => r 0x44 0x4C 1).orElse fun _ => r 0x60 0x70 2
  else if 0x080 ≤ p ∧ p ≤ 0x082 then ((r 0x40 0x4C 0).orElse fun _ => r 0x50 0x54 1).orElse fun _ => r 0x60 0x68 2
  else if 0x090 ≤ p ∧ p ≤ 0x092 then (r 0x40 0x4C 0).orElse fun _ => r 0x50 0x50 1
  else if p = 0x093 then (r 0x40 0x44 0).orElse fun _ => r 0x48 0x48 1
  else if p = 0x0A0 then
    ((r 0x60 0x68 ((o - 0x60) / 4)).orElse fun _ => r 0x70 0x78 ((o - 0x70) / 4)).orElse fun _ => r 0x100 0x15C ((o - 0x100) / 0x20)
  else if p = 0x0A1 then r 0x40 0x44 0
  else if p = 0x0C1 then r 0x40 0x40 0
  else none

/-- Whether a register of a group was written. -/
def Rod.groupDirty (ρ : Rod) (p g : Nat) : Bool := ρ.shadow.any fun e => e.1 / 0x1000 == p && groupOf e.1 == some g

/-- A failed check: code of Table 2.13 and group, 0xFF for none. -/
abbrev Fail := Nat × Nat

/-- A check that must hold. -/
def must (c : Bool) (code group : Nat) : List Fail := if c then [] else [(code, group)]

/-- A field lies in its range. -/
def within (lo hi x : Nat) : Bool := decide (lo ≤ x) && decide (x ≤ hi)

/-- Groups written in part (INCOMPLETE). -/
def Rod.incomplete (ρ : Rod) (p : Nat) : List Fail :=
  let regs := rwsRegs p
  (regs.filter fun a => Sparse.has ρ.shadow a).flatMap fun a =>
    match groupOf a with
    | none => []
    | some g => must (regs.all fun b => groupOf b != some g || Sparse.has ρ.shadow b) 1 g

/-! ### The checks of each page

`ρ` is the rod before the commit, `σ` the rod as the snapshot would make it. -/

/-- Some register of a list would change. -/
def changes (ρ σ : Rod) (l : List Nat) : Bool := l.any fun a => ρ.gw a != σ.gw a

/-- Registers that change only in STANDBY (code 0x06). -/
def onlyStandby (ρ σ : Rod) (l : List Nat) (g : Nat) : List Fail := must (!changes ρ σ l || ρ.mode == SM.standby) 6 g

/-- The Mode page (spec/03_operating_modes.md, Table 3.10). -/
def checkMode (ρ σ : Rod) : List Fail :=
  must (within 10 60 (σ.g Fl.ARM_CFG_KAUX_TMO)) 2 0xFF ++
  onlyStandby ρ σ [Rg.ARM_CFG, Rg.STILL_SPD 0, Rg.STILL_SPD 1, Rg.STILL_SPD 2] 0xFF

/-- A queue page (spec/06_host_port.md). -/
def checkQueue (ρ σ : Rod) (q : Nat) : List Fail :=
  let sq := σ.g (Fl.QP_SIZE_SQ_LEN q)
  let cq := σ.g (Fl.QP_SIZE_CQ_LEN q)
  must (within 16 4096 sq && within 16 4096 cq) 2 0 ++
  must (σ.g (Fl.SQ_BASE_LO_ADDR q) % 64 == 0 && σ.g (Fl.CQ_BASE_LO_ADDR q) % 16 == 0 && decide (sq + 16 ≤ cq)) 3 0 ++
  must (!(ρ.groupDirty (0x010 + q) 0 && ρ.b (Fl.QP_CTRL_EN q) && σ.b (Fl.QP_CTRL_EN q))) 3 0

/-- The counting frame page (spec/04_counting_frame.md). -/
def checkFrame (ρ σ : Rod) : List Fail :=
  must (within 10 500 (σ.g Fl.DISC_CFG_SLEW_MAX) && within 100 10000 (σ.g Fl.DISC_CFG_OUT_LIM) &&
    within 200 50000 (σ.g Fl.HOLD_CFG_LOSS_LIM) && within 10 10000 (σ.g Fl.HOLD_CFG_HOLD_LIM)) 2 0 ++
  must (decide (σ.g Fl.DISC_CFG_OUT_LIM < σ.g Fl.HOLD_CFG_LOSS_LIM)) 3 0 ++
  must (within 1 (σ.g Fl.FR_STATIC_N_STATIC) (σ.g Fl.TB_CFG_TB_SLOT)) 2 1 ++
  onlyStandby ρ σ [Rg.TB_CFG] 1

/-- The registers of group 0 of the FlexRay control page. -/
def frGroup : List Nat :=
  [Rg.FR_MODE, Rg.FR_TIMING, Rg.FR_STATIC, Rg.FR_DYN, Rg.FR_TAIL, Rg.FR_CSYNC_0, Rg.FR_CSYNC_1, Rg.FR_START]

/-- The FlexRay control page (Table 5.2, R145, R146). -/
def checkFlexray (ρ σ : Rod) : List Fail :=
  let g := σ.g
  must (g Fl.FR_MODE_BITRATE != 3 && g Fl.FR_MODE_CH_USE != 0 && within 1 6 (g Fl.FR_TIMING_MT) &&
    within 10 16000 (g Fl.FR_TIMING_MACRO_PER_CYCLE) && within 500000 4000000 σ.cycleNs &&
    within 2 1023 (g Fl.FR_STATIC_N_STATIC) && within 3 664 (g Fl.FR_STATIC_SLOT_LEN) &&
    within 0 7986 (g Fl.FR_DYN_N_MINI) && within 2 63 (g Fl.FR_DYN_MINI_LEN) && within 1 31 (g Fl.FR_DYN_MINI_APO) &&
    within 1 63 (g Fl.FR_TAIL_APO) && within 0 162 (g Fl.FR_TAIL_SYM_WIN) && within 2 805 (g Fl.FR_TAIL_NIT) &&
    (!σ.b Fl.FR_MODE_SYNC || within 1 1023 (g Fl.FR_MODE_KEY_SLOT)) && within 2 31 (g Fl.FR_START_COLD_ATT) &&
    within 2 1923 (g Fl.FR_CSYNC_0_RATE_OUT) && within 15 16082 (g Fl.FR_CSYNC_0_OFFS_OUT) &&
    within 1 15 (g Fl.FR_CSYNC_1_PASSIVE) && within 1 15 (g Fl.FR_CSYNC_1_FATAL) && within 2 15 (g Fl.FR_CSYNC_1_SYNC_MAX) &&
    within 2 63 (g Fl.FR_START_WUP_REP)) 2 0 ++
  must (g Fl.FR_STATIC_N_STATIC * g Fl.FR_STATIC_SLOT_LEN + g Fl.FR_DYN_N_MINI * g Fl.FR_DYN_MINI_LEN +
      g Fl.FR_TAIL_SYM_WIN + g Fl.FR_TAIL_NIT == g Fl.FR_TIMING_MACRO_PER_CYCLE &&
    decide (g Fl.FR_TAIL_APO < g Fl.FR_STATIC_SLOT_LEN) && decide (g Fl.FR_DYN_MINI_APO < g Fl.FR_DYN_MINI_LEN) &&
    decide (2 * g Fl.FR_TAIL_APO * g Fl.FR_TIMING_MT * 10 + (98 + 20 * g Fl.FR_STATIC_PL_STATIC) * 2 ^ g Fl.FR_MODE_BITRATE ≤
      g Fl.FR_STATIC_SLOT_LEN * g Fl.FR_TIMING_MT * 10) &&
    (!σ.b Fl.FR_MODE_SYNC || decide (g Fl.FR_MODE_KEY_SLOT ≤ g Fl.FR_STATIC_N_STATIC)) &&
    (!σ.b Fl.FR_MODE_COLDSTART || σ.b Fl.FR_MODE_SYNC) && decide (g Fl.FR_CSYNC_1_PASSIVE ≤ g Fl.FR_CSYNC_1_FATAL)) 3 0 ++
  must (within 1 15 (g Fl.FR_LOSS_LOSS_CYC)) 2 0xFF ++
  onlyStandby ρ σ frGroup 0

/-- Two buffers can transmit in the same cycle of one slot and channel. -/
def clashes (u v : Word) : Bool :=
  mbEn u && mbEn v && mbTx u && mbTx v && mbSlot u == mbSlot v && mbCh u &&& mbCh v != 0 &&
  (wBits u 18 6 % 2 ^ min (wBits u 24 3) (wBits v 24 3) == wBits v 18 6 % 2 ^ min (wBits u 24 3) (wBits v 24 3))

/-- A buffer page (R153, Table 5.7). -/
def checkBuffers (ρ σ : Rod) (p : Nat) : List Fail :=
  let bufs := ((List.range 9).map (9 * (p - 0x031) + ·)).filter (· < 128)
  bufs.flatMap fun b =>
    let w := σ.gw (Rg.MB_CFG b)
    let rep := wBits w 24 3
    let busy := ρ.ct.ledger.any fun e => e.2.state != lePending &&
      ((epType (e.2.args.src.get ρ.me.idx) == 1 && epBuf (e.2.args.src.get ρ.me.idx) == b) ||
       (epType (e.2.args.dst.get ρ.me.idx) == 1 && epBuf (e.2.args.dst.get ρ.me.idx) == b))
    must (rep != 7 && (!mbEn w || (mbCh w != 0 && mbSlot w != 0))) 2 (b % 9) ++
    must (!mbEn w || (decide (wBits w 18 6 < 2 ^ rep) &&
        (!mbTx w || decide (σ.g Fl.FR_STATIC_N_STATIC < mbSlot w) || mbPl w == σ.g Fl.FR_STATIC_PL_STATIC) &&
        bufs.all fun c => c == b || !clashes w (σ.gw (Rg.MB_CFG c)))) 3 (b % 9) ++
    must (!busy || ρ.gw (Rg.MB_CFG b) == w) 3 (b % 9)

/-- The Contracts page (R245, R255). -/
def checkContracts (ρ σ : Rod) : List Fail :=
  must (decide (σ.g Fl.CT_CFG_POOL_FIRST + σ.g Fl.CT_CFG_POOL_N ≤ 128)) 3 0 ++
  (if ρ.g Fl.CT_CFG_PLACEMENT = σ.g Fl.CT_CFG_PLACEMENT then []
   else must (ρ.mode == SM.standby) 6 0 ++ must ρ.ct.ledger.isEmpty 3 0) ++
  must (within 500 50000 (σ.g Fl.CT_HOST_LAT_HOST_LAT)) 2 0xFF ++
  must (ρ.b Fl.CT_CFG_PLACEMENT || ρ.ct.ledger.all fun e => e.2.args.cls == 0 || e.2.state == lePending ||
    decide (σ.boundPart e.2.args ≤ max e.2.args.deadline (ρ.boundPart e.2.args))) 3 0xFF

/-- The Reckoner control page (R295, R296, R299). -/
def checkReckoner (ρ σ : Rod) : List Fail :=
  ([0, 1, 2].flatMap fun n =>
    must (within 6 12 (σ.g (Fl.TBL_CFG_LEN_LOG2 n))) 2 n ++
    must (decide (σ.g (Fl.TBL_CFG_BASE n) + 2 ^ σ.g (Fl.TBL_CFG_LEN_LOG2 n) ≤ 4096)) 3 n ++
    must (decide (1 ≤ σ.g (Fl.POLICY_OVR_LIM n))) 2 0xFF) ++
  (if ρ.g Fl.COEF_CFG_BANK = σ.g Fl.COEF_CFG_BANK then []
   else must (ρ.accessOpen || (ρ.sealsAgree && ρ.maint)) 6 3 ++ must (!ρ.b Fl.COEF_STAT_SYNC_BUSY) 3 3)

/-- The relations of R274 for trigger `t` of column `c`. -/
def trigOk (σ : Rod) (c t : Nat) : Bool :=
  let src := σ.g (Fl.TRIG_CFG_SRC c t)
  let start (u : Nat) : Nat := σ.g (Fl.TRIG_LIM_START c u)
  let end_ (u : Nat) : Nat := start u + σ.g (Fl.TRIG_LIM_LIMIT c u)
  let pc := σ.pc
  let before := (List.range 8).filter fun u => σ.g (Fl.TRIG_CFG_SRC c u) != 0 && decide (start u * 8 + u < start t * 8 + t)
  let last := before.foldl (fun m u => match m with
    | none => some u
    | some v => if start v * 8 + v < start u * 8 + u then some u else some v) (none : Option Nat)
  src == 0 || (decide (σ.g (Fl.TRIG_CFG_ENTRY c t) < σ.progLen) && decide (1 ≤ σ.g (Fl.TRIG_LIM_LIMIT c t)) &&
    decide (end_ t + (if src = 2 then 1280 else 0) ≤ pc) &&
    (match last with | none => true | some u => decide (end_ u ≤ start t)))

/-- A column page (R274, R303). -/
def checkColumn (ρ σ : Rod) (c : Nat) : List Fail :=
  (List.range 8).flatMap fun t =>
    must (σ.g (Fl.TRIG_CFG_AXIS c t) != 3) 2 t ++ must (trigOk σ c t) 3 t ++
    must (!(ρ.b Fl.CT_CFG_PLACEMENT && ρ.groupDirty (0x061 + c) t)) 6 t

/-- An axis page (Tables 10.12 and 11.7, R353). -/
def checkAxis (ρ σ : Rod) (n : Nat) : List Fail :=
  let g := σ.g
  let en := σ.b (Fl.INJ_CFG_EN n)
  let tgt := g (Fl.INJ_CFG_TGT n)
  let wave := g (Fl.INJ_CFG_WAVE n)
  must (g (Fl.AX_CFG_LEAD n) != 3) 2 0 ++ onlyStandby ρ σ [Rg.AX_CFG n] 0 ++
  must ([0, 1, 2].all fun i => decide (g (Fl.AX_ILIM_LIM n i) ≤ 0x8000)) 2 1 ++
  must (within 10 100 (g (Fl.AX_LIMP_PCT n))) 2 0xFF ++
  must (decide (tgt < 6) && g (Fl.INJ_LEN_LEN n) != 0 && decide (g (Fl.INJ_AMP_A n) < 2 ^ 31)) 2 2 ++
  must (!(en && tgt == 0) && !(tgt == 1 && decide (2 ≤ g (Fl.AX_CFG_ROLE n))) &&
    !(wave == 1 && !(within 7 15 (g (Fl.INJ_CFG_PRBS_N n)) && g (Fl.INJ_CFG_HOLD n) != 0)) &&
    !(wave == 2 && decide (g (Fl.INJ_F1_F n) < g (Fl.INJ_F0_F n))) &&
    decide (g (Fl.INJ_F1_F n) * σ.tick2 ≤ 10 ^ 12)) 3 2 ++
  must (!(ρ.groupDirty (0x070 + n) 2 && en) || ρ.mode == SM.operate) 6 2 ++
  must (within 40 95 (g (Fl.PMP_HO_DROP_PCT n)) && within 1000 8000000 (g (Fl.PMP_HO_HO_SPD n)) &&
    within 10 100 (g (Fl.PMP_START_ALIGN_PCT n)) && within 10 70 (g (Fl.PMP_START_BRK_TMO n)) &&
    within 5 59 (g (Fl.PMP_START_ALIGN_T n)) && within 10 100 (g (Fl.PMP_RAMP_RAMP_PCT n)) &&
    g (Fl.PMP_RAMP_RAMP_ACC n) != 0 && g (Fl.OBS_PSI_PP n) != 0 && g (Fl.OBS_CFG_REST_I n) != 0 &&
    within 10 1000 (g (Fl.OBS_CFG_BW n))) 2 0xFF ++
  onlyStandby ρ σ [Rg.PMP_START n, Rg.PMP_RAMP n, Rg.OBS_R n, Rg.OBS_L n, Rg.OBS_PSI n, Rg.OBS_CFG n, Rg.PMP_SCALE n,
    Rg.PMP_DISP n 0, Rg.PMP_DISP n 1, Rg.PMP_DISP n 2] 0xFF

/-- The relation of R412, in units of 6.25 ns: the longest transfer fits its interval. -/
def serFits (σ : Rod) (n : Axis) : Bool :=
  let d := σ.g (Fl.SER_TIM_DIV n.val) + 1
  let sum := σ.g (Fl.SER_TIM_START_TMO n.val) * (d + 320) +
    (2 + σ.g (Fl.SER_CFG_DLEN n.val) + 2 * σ.g (Fl.SER_CFG_EW_EN n.val) + 6 * σ.g (Fl.SER_CFG_CRC_EN n.val)) * (2 * d) + 320 +
    σ.g (Fl.SER_TIM_RECOV n.val) * 160
  !σ.b (Fl.SER_CFG_EN n.val) || decide (sum * 25 ≤ σ.serDec n * σ.tick2 * 2)

/-- A feedback page (Table 12.7, R397, R412). -/
def checkFeedback (ρ σ : Rod) (n : Axis) : List Fail :=
  let i := n.val
  let g := σ.g
  must (within 4 16777212 (g (Fl.FB_CFG_CPR i)) && g (Fl.FB_CFG_CPR i) % 4 == 0 && within 4 1600 (g (Fl.QD_CFG_MIN_SP i)) &&
    g (Fl.QD_CFG_ERR_LIM i) != 0) 2 0 ++
  must (!(g (Fl.QD_CFG_IDX_MODE i) == 2 && σ.b (Fl.SER_CFG_EN i))) 3 0 ++
  onlyStandby ρ σ [Rg.FB_CFG i, Rg.QD_CFG i, Rg.IDX_VAL i, Rg.IDX_TOL i] 0 ++
  must (decide (σ.cntMin n < σ.cntMax n)) 3 1 ++
  must (within 8 40 (g (Fl.SER_CFG_DLEN i)) && within 8 32 (g (Fl.SER_CFG_ST_BITS i)) && within 7 799 (g (Fl.SER_TIM_DIV i)) &&
    g (Fl.SER_TIM_START_TMO i) != 0 && g (Fl.SER_TIM_RECOV i) != 0) 2 2 ++
  must (decide (g (Fl.SER_CFG_ST_BITS i) ≤ g (Fl.SER_CFG_DLEN i)) && serFits σ n) 3 2 ++
  onlyStandby ρ σ [Rg.SER_CFG i, Rg.SER_TIM i, Rg.SER_ZERO i] 2 ++
  must (within 1000 200000000 (g (Fl.SPD_FS_FS i)) && within 100 1000000 (g (Fl.SPD_TMO_TMO i)) &&
    g (Fl.TRK_CFG_TRK_TOL i) != 0 && g (Fl.TRK_CFG_PL_TOL i) != 0 && g (Fl.TRK_CFG_SER_LIM i) != 0 &&
    g (Fl.TRK_CFG_TRK_N i) != 0) 2 0xFF ++
  onlyStandby ρ σ [Rg.SPD_FS i] 0xFF

/-- The residual window of axis n fits R486. -/
def resFits (σ : Rod) (n : Nat) : Bool :=
  decide (σ.g (Fl.CR_RES_CFG_RES_WIN n) * (σ.g (Fl.CR_RES_CFG_RES_N n) + 1) * σ.tick2 ≤ 3980000)

/-- What a new tick period would break elsewhere in the rod (R245, R275, R412, R486). -/
def periodFits (ρ σ : Rod) : Bool :=
  ρ.tick2 == σ.tick2 ||
  ((ρ.ct.ledger.all fun e => e.2.state == lePending || (isStream e.2.args.kind && !(e.2.args.src.list.any fun s => epType s == 2)) ||
      σ.periodOk e.2.args) &&
   ([0, 1, 2, 3].all fun c => (List.range 8).all fun t => trigOk σ c t) &&
   (allAxes.all fun n => serFits σ n) && ([0, 1, 2].all fun n => resFits σ n))

/-- A drive page (Table 13.7, R437). -/
def checkDrive (ρ σ : Rod) (n : Nat) : List Fail :=
  let g := σ.g
  let p := g (Fl.DRV_PWM_PERIOD 0)
  let dt := g (Fl.DRV_PWM_DT n)
  let dmax := g (Fl.DRV_DUTY_DUTY_MAX n)
  must ((n != 0 || within 3200 20000 p) && within 4 320 dt && g (Fl.DRV_DUTY_REFRESH_N n) != 0 && within 0xE666 0x10000 dmax &&
    within 1 16 (g (Fl.DRV_PROF_ON_SLOPE_I n)) && within 1 16 (g (Fl.DRV_PROF_OFF_SLOPE_I n))) 2 0 ++
  must (g (Fl.DRV_PROT_OC_TH n) != 0) 2 1 ++
  must ((n != 0 || p % 4 == 0) && decide (2 * (g (Fl.DRV_PROF_OFF_PRE_T n) + g (Fl.DRV_PROF_OFF_SLOPE_T n)) ≤ dt) &&
    decide (dmax = 0x10000 ∨ 2 * dt * 65536 ≤ (0x10000 - dmax) * p) && (n != 0 || periodFits ρ σ)) 3 0 ++
  must (decide (g (Fl.DRV_PROF_ON_PRE_T n) + g (Fl.DRV_PROF_ON_SLOPE_T n) ≤ 8 * (g (Fl.DRV_PROT_BLANK n) + 1))) 3 1

/-- The motor supply page (Table 13.9). -/
def checkSupply (ρ σ : Rod) : List Fail :=
  let g := σ.g
  must (decide (g Fl.SUP_UV_UV < g Fl.SUP_OV_OV1_OFF) && decide (g Fl.SUP_OV_OV1_OFF < g Fl.SUP_OV_OV1_ON) &&
    decide (g Fl.SUP_OV_OV1_ON < g Fl.SUP_OV_OV2)) 3 0 ++
  must (g Fl.CHP_CFG_CHD_TMO != 0 && g Fl.CHP_CFG_MIN_ON != 0) 2 1 ++ onlyStandby ρ σ [Rg.CHP_CFG] 1 ++
  must (within 100 150 (g Fl.SUP_TEMP_WARN)) 2 0xFF

/-- The Carry page (Table 14.8, R486). -/
def checkCarry (σ : Rod) : List Fail :=
  [0, 1, 2].flatMap fun n =>
    must (σ.g (Fl.CR_RES_CFG_RES_N n) != 0 && within 4 63 (σ.g (Fl.CR_RES_CFG_RES_WIN n))) 2 n ++ must (resFits σ n) 3 n

/-- The Tandem page (R511, Table 14.10). -/
def checkTandem (ρ σ : Rod) : List Fail :=
  must (!(σ.b Fl.TD_CFG_EN && σ.g Fl.TD_CFG_GROUP == 0) && decide (σ.g Fl.TD_WIT_SLOT ≤ σ.g Fl.FR_STATIC_N_STATIC) &&
    allAxes.all fun n => !σ.bitOf Fl.TD_CFG_GROUP n.val || decide (σ.divisor n * σ.tick2 ≤ 2 * σ.cycleNs)) 3 0 ++
  onlyStandby ρ σ [Rg.TD_CFG, Rg.TD_WIT] 0

/-- The Contactor page (Table 16.9). -/
def checkContactor (ρ σ : Rod) : List Fail :=
  must (within 10 100 (σ.g Fl.K_CFG_KOPEN_TMO) && σ.g Fl.K_CFG_DEBOUNCE != 0 && σ.g Fl.K_CFG_KTEST_H != 0) 2 0 ++
  onlyStandby ρ σ [Rg.K_CFG] 0

/-- Every check of a page. -/
def checkPage (ρ σ : Rod) (p : Nat) : List Fail :=
  if p = 0x001 then checkMode ρ σ
  else if 0x010 ≤ p ∧ p ≤ 0x01F then checkQueue ρ σ (p - 0x010)
  else if p = 0x030 then checkFlexray ρ σ
  else if 0x031 ≤ p ∧ p ≤ 0x03F then checkBuffers ρ σ.forceKeyBuffer p
  else if p = 0x040 then checkFrame ρ σ
  else if p = 0x050 then checkContracts ρ σ
  else if p = 0x060 then checkReckoner ρ σ
  else if 0x061 ≤ p ∧ p ≤ 0x064 then checkColumn ρ σ (p - 0x061)
  else if 0x070 ≤ p ∧ p ≤ 0x072 then checkAxis ρ σ (p - 0x070)
  else if 0x080 ≤ p ∧ p ≤ 0x082 then checkFeedback ρ σ (axisOf (p - 0x080))
  else if 0x090 ≤ p ∧ p ≤ 0x092 then checkDrive ρ σ (p - 0x090)
  else if p = 0x093 then checkSupply ρ σ
  else if p = 0x0A0 then checkCarry σ
  else if p = 0x0A1 then checkTandem ρ σ
  else if p = 0x0C1 then checkContactor ρ σ
  else []

/-- CODE and GROUP among several failures: the lowest code, and its lowest group (R62). -/
def worst (l : List Fail) : Option Fail :=
  l.foldl (fun m f => match m with
    | none => some f
    | some b => if f.1 < b.1 ∨ (f.1 = b.1 ∧ f.2 < b.2) then some f else some b) none

/-- The verdict on the snapshot of a page (R62, R63). -/
def Rod.verdict (ρ σ : Rod) (p : Nat) : Option Fail :=
  if ρ.dirty p then
    let part := if ρ.g (Fl.STG_CTRL_MODE p) = 0 then [] else ρ.incomplete p
    worst (part ++ checkPage ρ σ p)
  else none

/-! ### The commit instant -/

/-- What a page does at a commit instant (R57, R59, R64): nothing, a rejection with a code, or a checked commit. -/
inductive CommitAct where
  | none
  | reject (code : Nat)
  | check
deriving DecidableEq, Repr

/-- The action that is due for a page at the FT in force. -/
def Rod.commitAct (ρ : Rod) (p : Nat) : CommitAct :=
  if ρ.pageOn p = false ∨ ρ.b (Fl.STG_STAT_MISMATCH p) = true then .none
  else if ρ.g (Fl.STG_CTRL_MODE p) = 0 then if ρ.cmtReq.contains p then .check else .none
  else if ρ.g (Fl.STG_CTRL_MODE p) = 1 then if ρ.dirty p && !ρ.b (Fl.STG_CTRL_OPEN p) then .check else .none
  else if Sparse.has ρ.armed p && decide (Sparse.get 0 ρ.armed p ≤ ρ.ft) then
    if ρ.b (Fl.STG_CTRL_OPEN p) then .reject 4 else .check
  else .none

/-- Disarms a page and drops its request. -/
def Rod.disarm (ρ : Rod) (p : Nat) : Rod :=
  ({ ρ with cmtReq := ρ.cmtReq.filter (· != p), armed := Sparse.del ρ.armed p }).p (Fl.STG_STAT_ARMED p) 0

/-- A commit succeeds (R62). -/
def Rod.commitOk (ρ : Rod) (p : Nat) : Rod :=
  let ρ1 := ((ρ.overlay [p]).dropShadow p).disarm p
  let ρ2 := ((ρ1.p (Fl.STG_STAT_DONE p) 1).incMod (Fl.STG_STAT_SEQ p)).p (Fl.STG_STAT_GROUP p) 0xFF
  (ρ2.pw (Rg.PG_CRC p) (ρ2.pageCrc p)).irq p 30

/-- A commit is rejected (R62, R65); DONE of an earlier commit stays. (DESIGN CHOICE, log entry 65) -/
def Rod.commitBad (ρ : Rod) (p code group : Nat) : Rod :=
  let mode := ρ.g (Fl.STG_CTRL_MODE p)
  let ft := if mode = 2 then Sparse.get 0 ρ.armed p else 0
  let ρ1 := (ρ.dropShadow p).disarm p
  let ρ2 := ((ρ1.p (Fl.STG_STAT_MISMATCH p) 1).p (Fl.STG_STAT_CODE p) code).p (Fl.STG_STAT_GROUP p) group
  (ρ2.irq p 30).flt (0x01F0 + code) sevWarn p [(0, 1, code), (1, 1, group), (2, 1, mode), (8, 8, ft)]

/-- HOST_LAT has changed: the own part of the bounds rises with it (R242, R245). -/
def Rod.newBounds (ρ : Rod) : Rod :=
  (ρ.modCt fun c => { c with ledger := c.ledger.map fun e => (e.1, { e.2 with bound := max e.2.bound (ρ.boundPart e.2.args) }) }).showCt

/-- PG_CRC of a page is formed again (R68). -/
def Rod.newCrc (ρ : Rod) (p : Nat) : Rod := ρ.pw (Rg.PG_CRC p) (ρ.pageCrc p)

/-- PERIOD or DOUBLE of page 0x090 has changed: the pages that show them have another PG_CRC, and the period in force runs out
(R68, R128, R436, R437). -/
def Rod.onPeriod (ρ old : Rod) : Rod :=
  if ρ.gw (Rg.DRV_PWM 0) &&& 0xFFFF0000#32 = old.gw (Rg.DRV_PWM 0) &&& 0xFFFF0000#32 then ρ
  else ((ρ.newPeriod old).newCrc 0x091).newCrc 0x092

/-- What the blocks do at a commit of a page. `old` is the rod before it, `inj` says that injection group 2 was written. -/
def Rod.onCommit (ρ old : Rod) (p : Nat) (inj : Bool) : Rod :=
  if 0x010 ≤ p ∧ p ≤ 0x01F then
    let q := p - 0x010
    if old.b (Fl.QP_CTRL_EN q) = ρ.b (Fl.QP_CTRL_EN q) then ρ
    else if ρ.b (Fl.QP_CTRL_EN q) then ρ.startQp q
    else
      let ring := [Rg.QP_CTRL q, Rg.CQ_BASE_LO q, Rg.CQ_BASE_HI q, Rg.QP_SIZE q]
      let ρ1 := (ρ.each ring fun a r => r.pw a (old.gw a)).stopQp q true
      ρ1.each ring fun a r => r.pw a (ρ.gw a)
  else if p = 0x030 then ((if changes old ρ frGroup then ρ.pocRestart else ρ).forceKeyBuffer.newCrc 0x031).voteUpdate
  else if p = 0x031 then ρ.forceKeyBuffer.newCrc p
  else if p = 0x090 then ρ.onPeriod old
  else if p = 0x050 then
    let ρ1 := if old.g Fl.CT_CFG_PLACEMENT = ρ.g Fl.CT_CFG_PLACEMENT then ρ else ρ.place.showCt
    if old.g Fl.CT_HOST_LAT_HOST_LAT = ρ.g Fl.CT_HOST_LAT_HOST_LAT then ρ1 else ρ1.newBounds
  else if 0x070 ≤ p ∧ p ≤ 0x072 then
    let n := axisOf (p - 0x070)
    let ρ1 := if old.g (Fl.AX_CFG_LEAD n.val) = ρ.g (Fl.AX_CFG_LEAD n.val) ∨ ρ.b Fl.CT_CFG_PLACEMENT = true then ρ
      else { ρ with rk := { ρ.rk with lead := ρ.rk.lead.set n (RodId.ofCode (ρ.g (Fl.AX_CFG_LEAD n.val))) } }
    if inj then (if ρ1.b (Fl.INJ_CFG_EN n.val) then ρ1.injStart n else ρ1.injAbort n 4) else ρ1
  else if 0x080 ≤ p ∧ p ≤ 0x082 then
    let n := axisOf (p - 0x080)
    if changes old ρ [Rg.CNT_MIN n.val, Rg.CNT_MAX n.val] then ρ.newLimits n else ρ
  else if p = 0x0A1 then ρ.voteUpdate
  else ρ

/-- The commits of the given pages fall at one instant (R57, R131, R438): every page, of whatever
kind, is checked with the snapshots of the others, then each concludes. (DESIGN CHOICE, log entry 65) -/
def Rod.commitPages (ρ : Rod) (ps : List Nat) : Rod :=
  let acts := (ps.map fun p => (p, ρ.commitAct p)).filter fun e => e.2 != .none
  let snap := ρ.overlay ((acts.filter fun e => e.2 == .check).map (·.1))
  let verdicts := acts.map fun e => match e.2 with
    | .reject c => (e.1, some (c, 0xFF))
    | _ => (e.1, ρ.verdict snap e.1)
  let ρ1 := ρ.each verdicts fun v q => match v.2 with
    | some (c, g) => q.commitBad v.1 c g
    | none => q.commitOk v.1
  ρ1.each verdicts fun v q => match v.2 with
    | some _ => q
    | none => q.onCommit ρ v.1 (ρ.groupDirty v.1 2)

/-- Pages that may have a commit waiting. -/
def Rod.waitingPages (ρ : Rod) : List Nat :=
  if ρ.cmtReq.isEmpty && ρ.shadow.isEmpty && ρ.armed.isEmpty then []
  else allPages.filter fun p => pageStaged p && (ρ.cmtReq.contains p || Sparse.has ρ.armed p || ρ.dirty p)

/-- Every commit that is due at a tick boundary (R57). -/
def Rod.tickCommits (ρ : Rod) : Rod := ρ.commitPages ρ.waitingPages

/-! ### Writes of the staging header (R57 to R60, R64, R122) -/

/-- A write of STG_CTRL (R57, R58). A MANUAL request that waits for its tick is dropped by a change of MODE.
(DESIGN CHOICE, log entry 65) -/
def Rod.writeStgCtrl (ρ : Rod) (path p : Nat) (data : Word) : Rod :=
  let mode := wBits data 4 2
  if pageStaged p = false then ρ
  else if mode = 3 then ρ.errCap p 6 path 0x020 data
  else
    let ρ1 := ((ρ.p (Fl.STG_CTRL_OPEN p) (wBits data 31 1)).p (Fl.STG_CTRL_VIEW p) (wBits data 8 1)).p (Fl.STG_CTRL_MODE p) mode
    let ρ2 := if mode = 2 then ρ1 else ({ ρ1 with armed := Sparse.del ρ1.armed p }).p (Fl.STG_STAT_ARMED p) 0
    let ρ3 := if mode = 0 then ρ2 else { ρ2 with cmtReq := ρ2.cmtReq.filter (· != p) }
    if wBit data 0 = false ∨ mode ≠ 0 ∨ ρ3.b (Fl.STG_STAT_MISMATCH p) = true then ρ3
    else if wBit data 31 then ρ3.commitBad p 7 0xFF
    else { ρ3 with cmtReq := ρ3.cmtReq.filter (· != p) ++ [p] }

/-- STG_STAT: DONE clears, and clearing MISMATCH reloads the shadows (R64). -/
def Rod.writeStgStat (ρ : Rod) (p : Nat) (data : Word) : Rod :=
  if pageStaged p = false then ρ
  else
    let ρ1 := if wBit data 30 then ρ.p (Fl.STG_STAT_DONE p) 0 else ρ
    if wBit data 31 && ρ1.b (Fl.STG_STAT_MISMATCH p) then (ρ1.dropShadow p).p (Fl.STG_STAT_MISMATCH p) 0 else ρ1

/-- STG_FT_HI: arms in AT_FT mode (R58, R64, R65, R122). -/
def Rod.writeStgFtHi (ρ : Rod) (p : Nat) (data : Word) : Rod :=
  if pageStaged p = false then ρ
  else
    let ρ1 := ρ.pw (Rg.STG_FT_HI p) data
    if ρ1.g (Fl.STG_CTRL_MODE p) ≠ 2 ∨ ρ1.b (Fl.STG_STAT_MISMATCH p) = true then ρ1
    else
      let ft := data.toNat * 2 ^ 32 + ρ1.g (Fl.STG_FT_LO_FT p)
      let ρ2 := ({ ρ1 with armed := Sparse.put ρ1.armed p ft }).p (Fl.STG_STAT_ARMED p) 1
      if ρ.b Fl.FT_STAT_VALID = false then ρ2.commitBad p 8 0xFF
      else if ft ≤ ρ.ft then ρ2.commitBad p 5 0xFF
      else ρ2

/-! ### Commands -/

/-- STAGED_COMMIT: a MANUAL or AT_TICK commit of a page at a tick boundary; nothing where none is due. -/
def execStagedCommit (r : RodId) (page : Nat) (s : State) : Host.Outcome State Fault Refusal :=
  onRod s r fun ρ =>
    if ρ.ticksRun && ρ.atInstant && pageStaged page && ρ.g (Fl.STG_CTRL_MODE page) != 2 then ρ.commitPages [page] else ρ

/-- AT_FT_COMMIT: the armed FT has come; where ticks run, at a sampling instant (R57, R131). -/
def execAtFtCommit (r : RodId) (page : Nat) (s : State) : Host.Outcome State Fault Refusal :=
  onRod s r fun ρ =>
    if pageStaged page && (!ρ.ticksRun || ρ.atInstant) && ρ.g (Fl.STG_CTRL_MODE page) == 2 then ρ.commitPages [page] else ρ

/-- NO_TICK_COMMIT: the commit 1 µs after the request where no tick runs (R66). -/
def execNoTickCommit (r : RodId) (page : Nat) (s : State) : Host.Outcome State Fault Refusal :=
  onRod s r fun ρ =>
    if !ρ.ticksRun && pageStaged page && ρ.g (Fl.STG_CTRL_MODE page) != 2 then ρ.commitPages [page] else ρ

end Sys2Proof.Machine
end

