-- ==== Sys2Proof/Machine/HostWrite.lean ====
section
/-! DEFINITION. Accesses to BAR0 (R7, R8, R11 to R15, R41 to R46, R53 to R55, R67, R669): what a read returns and does, where
a write goes, and the access errors that are captured. The commands that are register writes are accesses of these. -/

namespace Sys2Proof.Machine

/-! ### Values read -/

/-- PG_ID, PG_CAPS and PG_STAT of a page (Tables 2.4, 2.5 and 2.7). -/
def Rod.pgId (ρ : Rod) (p : Nat) (i : PageInfo) : Nat := p * 2 ^ 20 + 2 ^ 16 + ρ.me.code * 2 ^ 8 + (p - i.first)

def pgCaps (i : PageInfo) : Nat :=
  b2n i.groups.isSome * 2 ^ 31 + i.vector * 2 ^ 16 + i.groups.getD 0 * 2 ^ 8 + i.domain

def Rod.pgStat (ρ : Rod) (p : Nat) : Nat :=
  b2n (ρ.pageOn p) * 2 ^ 31 + b2n (ρ.pagePwr p) * 2 ^ 30 + ρ.g (Fl.LOCK_HELD p) * 2 ^ 29 + ρ.g (Fl.ERRCAP_0_VALID p) * 2 ^ 28 +
    b2n (ρ.irqOn p)

/-- FL_UNACK (Table 2.19). -/
def Rod.flUnack (ρ : Rod) : Nat :=
  b2n ρ.flAny * 2 ^ 31 + b2n ρ.lost * 2 ^ 30 + (if ρ.flAny then ρ.flMaxSev else 0) * 2 ^ 24 + ρ.flCount

/-- RK_STAT and RK_PT as read (Table 8.6). -/
def Rod.rkStat (ρ : Rod) : Word :=
  (ρ.gw Rg.RK_STAT &&& 0x60000000#32) ||| BitVec.ofNat 32 (b2n ρ.runsBlocks * 2 ^ 31 + b2n ρ.dblNow * 2 ^ 28)

def Rod.rkPt (ρ : Rod) : Nat := ρ.pcNow

/-- ID registers (Table 2.17). -/
def Rod.idWord (ρ : Rod) (o : Nat) : Word :=
  if o = 0x40 then if Config.gradeH then 0xD3960048#32 else 0xD396004D#32
  else if o = 0x48 then Config.romVersion.setWidth 32
  else if 0x50 ≤ o ∧ o ≤ 0x5C then ρ.uidWord ((o - 0x50) / 4)
  else if 0x60 ≤ o ∧ o ≤ 0x6C then if RS.sync ≤ ρ.state then Config.msn ((o - 0x60) / 4) else 0#32
  else ρ.gw o

/-- A header register as read. -/
def Rod.headView (ρ : Rod) (p o : Nat) (i : PageInfo) : Word :=
  if o = 0x00 then BitVec.ofNat 32 (ρ.pgId p i)
  else if o = 0x04 then BitVec.ofNat 32 (pgCaps i)
  else if o = 0x0C then BitVec.ofNat 32 (ρ.pgStat p)
  else if o = 0x18 then ρ.gw (Rg.IRQ_RAW p) &&& ρ.gw (Rg.IRQ_EN p)
  else if o = 0x1C then 0#32
  else if o = 0x24 then if i.groups.isSome then ρ.gw (Rg.STG_STAT p) ||| BitVec.ofNat 32 (b2n (ρ.dirty p) * 2 ^ 29) else 0#32
  else ρ.gw (p * 0x1000 + o)

/-- A register that shows something held elsewhere. -/
def Rod.shown (ρ : Rod) (p o : Nat) : Word :=
  let w := ρ.gw (p * 0x1000 + o)
  let n (x : Nat) : Word := BitVec.ofNat 32 x
  if p = 0x000 then ρ.idWord o
  else if p = 0x004 then
    if o = 0x40 then ρ.secStat
    else if o = 0x48 then n ρ.lockSeconds
    else if o = 0x60 then n (min 0x100000 ρ.otp.hss)
    else if o = 0x64 then n ρ.otp.slots
    else if o = 0x6C then ρ.rbShow
    else if o = 0x74 then n ρ.certLen
    else if 0xC0 ≤ o ∧ o < 0xF0 then ρ.chalWord ((o - 0xC0) / 4)
    else if 0x800 ≤ o then ρ.certWord ((o - 0x800) / 4)
    else w
  else if 0x010 ≤ p ∧ p ≤ 0x01F then if o = 0x6C then ρ.qpStat (p - 0x010) else w
  else if p = 0x030 then if o = 0x70 then ρ.frCnt else w
  else if p = 0x040 then if o = 0x40 then n (ρ.ft % 2 ^ 32) else if o = 0x44 then n (ρ.ft / 2 ^ 32) else w
  else if p = 0x050 then
    if o = 0x4C then ρ.leadsWord else if 0x80 ≤ o ∧ o < 0xA0 then ρ.ctEnt ((o - 0x80) / 4) else w
  else if p = 0x060 then
    if o = 0x40 then ρ.rkStat
    else if o = 0x4C then n ρ.rkPt
    else if o = 0x68 then ρ.coefCrc
    else if 0x80 ≤ o ∧ o < 0x8C then ρ.tblCrc 0 (axisOf ((o - 0x80) / 4))
    else if 0x8C ≤ o ∧ o < 0x98 then ρ.tblCrc 1 (axisOf ((o - 0x8C) / 4))
    else if 0x98 ≤ o ∧ o < 0xA4 then ρ.tblCrc 2 (axisOf ((o - 0x98) / 4))
    else w
  else if 0x090 ≤ p ∧ p ≤ 0x092 then
    if o = 0x40 then (w &&& 0x1FF#32) ||| (ρ.gw (Rg.DRV_PWM 0) &&& 0xFFFF0000#32)
    else if o = 0x5C then ρ.drvStat (axisOf (p - 0x090)) else w
  else if p = 0x093 then if o = 0x54 then ρ.supStat else w
  else if p = 0x0A0 then if o = 0x40 then ρ.crStat else if o = 0x4C then ρ.fenceStat else w
  else if p = 0x0B0 then
    if o = 0x50 then n (ρ.lsTally.toNat % 2 ^ 32) else if o = 0x54 then n (ρ.lsTally.toNat / 2 ^ 32)
    else if o = 0x58 then n ρ.lsWin else w
  else if p = 0x0D0 then
    if o = 0x48 then n ρ.flUnack
    else if o = 0x4C then n ρ.flash.length
    else if o = 0x50 then (if ρ.ftn < 80000 then 0#32 else (Config.logicTemp ρ.me (ρ.ftn / 80000)).setWidth 32)
    else w
  else w

/-- A register as a read of its page returns it: WO bits read 0, RWS bits the value in force or, with VIEW, the shadow.
(DESIGN CHOICE, log entry 29) -/
def Rod.regView (ρ : Rod) (a : Nat) : Word :=
  let p := a / 0x1000
  let o := a % 0x1000
  match pageInfo p, regRow a with
  | some i, some row =>
    if o < 0x40 then ρ.headView p o i &&& ~~~row.wo
    else
      let w := ρ.shown p o &&& ~~~row.wo
      if row.rws != 0#32 && ρ.b (Fl.STG_CTRL_VIEW p) && Sparse.has ρ.shadow a then
        (w &&& ~~~(rwsMask a)) ||| (ρ.shadowW a &&& rwsMask a)
      else w
  | _, _ => 0#32

/-! ### Pairs -/

/-- The lower halves of the register pairs (R7, R8). (DEDUCED, log entry 28) -/
def isLo (a : Nat) : Bool :=
  let p := a / 0x1000
  let o := a % 0x1000
  o == 0x28 || (p == 0x040 && (o == 0x40 || o == 0x74 || o == 0x80)) ||
  (0x031 ≤ p && p ≤ 0x03F && bufOffset p o == some 8) || (0x010 ≤ p && p ≤ 0x01F && (o == 0x48 || o == 0x50)) ||
  (0x080 ≤ p && p ≤ 0x082 && o == 0x8C) || (p == 0x0B0 && o == 0x50)

/-! ### Memory windows (R43, R285, R292, R293, R669) -/

/-- What a BAR0 address above the pages names: entry numbers of Table 2.2. -/
inductive Win where
  | prog (i : Nat)
  | signal (i : Nat)
  | coef (i : Nat)
  | table (kind axis i : Nat)
  | trace (i : Nat)
  | log (slot word : Nat)
  | none
deriving DecidableEq, Repr

/-- The window entry that holds the 32-bit word at an address. -/
def winAt (a : Nat) : Win :=
  let t (base size kind : Nat) : Win := if (a - base) / size < 3 then .table kind ((a - base) / size) ((a - base) % size / 4) else .none
  if a < 0x100000 then .none
  else if a < 0x120000 then .prog ((a - 0x100000) / 8)
  else if a < 0x130000 then .signal ((a - 0x120000) / 4)
  else if a < 0x138000 then .coef ((a - 0x130000) / 8)
  else if a < 0x140000 then .none
  else if a < 0x150000 then t 0x140000 0x4000 0
  else if a < 0x160000 then t 0x150000 0x4000 1
  else if a < 0x170000 then t 0x160000 0x400 2
  else if a < 0x200000 then .none
  else if a < 0x300000 then .trace ((a - 0x200000) / 4)
  else if a < 0x308000 then .log ((a - 0x300000) / 32) ((a - 0x300000) % 32 / 4)
  else .none

/-- The RCK domain serves the windows of the Reckoner memories. -/
def Win.rck : Win → Bool
  | .prog _ | .signal _ | .coef _ | .table _ _ _ => true
  | .trace _ | .log _ _ | .none => false

/-- Whether a window is served. -/
def Rod.winOn (ρ : Rod) (w : Win) : Bool := !w.rck || (ρ.clkOn 1 && ρ.bitOf Fl.PWR_STAT_PWR_OK 2)

/-- The bank of a table that the window shows: the one the columns do not read. -/
def Rod.winBank (ρ : Rod) (kind axis : Nat) : Nat := 1 - bankBit (ρ.rk.actTbl.get (axisOf axis)) kind

/-- The bytes of a fault record (Table 1.5). -/
def recBytes (r : FaultRec) : List Byte :=
  leBytes 8 r.ft.toNat ++ leBytes 2 r.code.toNat ++ leBytes 2 r.page.toNat ++ [r.rod, r.axis, r.phase, r.sev] ++
    leBytes 16 r.data.toNat

/-- The word a window reads. -/
def Rod.winWord (ρ : Rod) (a : Nat) : Word :=
  let half (d : DWord) : Word := if a % 8 = 0 then d.setWidth 32 else (d >>> 32).setWidth 32
  match winAt a with
  | .prog i => half (Sparse.get 0#64 ρ.rk.prog i)
  | .signal i => ρ.sg i
  | .coef i => half (ρ.coefW (1 - ρ.rk.actCoef) i)
  | .table k n i => ρ.tblW k n (ρ.winBank k n) i
  | .trace i => Sparse.get 0#32 ρ.rk.trace i
  | .log s w => match ρ.log.find? fun e => e.1 == s with
    | some e => BitVec.ofNat 32 (leAt (recBytes e.2) (4 * w) 4)
    | none => 0#32
  | .none => 0#32

/-- Puts a word into a window that may be written; `none` where it may not (R285, R292). -/
def Rod.putWin (ρ : Rod) (a : Nat) (v : Word) : Option Rod :=
  match winAt a with
  | .signal i => if 0x800 ≤ i then some (ρ.sp i v) else none
  | .coef i =>
    if a % 8 = 0 then some { ρ with loPend := Sparse.put ρ.loPend a v }
    else
      let lo := Sparse.get ((ρ.coefW (1 - ρ.rk.actCoef) i).setWidth 32) ρ.loPend (a - 4)
      some (({ ρ with loPend := Sparse.del ρ.loPend (a - 4) }).hostCoef i (v ++ lo))
  | .table k n i =>
    some { ρ with rk := { ρ.rk with tbl := Sparse.set 0#32 ρ.rk.tbl (tblKey k n (ρ.winBank k n) i) v } }
  | _ => none

/-! ### Access errors and gates -/

/-- Whether anything answers an access: the SYS domain runs, and an access over the own link does not meet D3hot (R189). -/
def Rod.answers (ρ : Rod) (path : Nat) : Bool := ρ.clkOn 0 && !(ρ.hp.d3 && path == ρ.me.code + 1)

/-- What an access meets that nothing takes: in D3hot the endpoint answers it with Unsupported Request (R189). -/
def Rod.noAnswer (ρ : Rod) (path : Nat) : Rod := ρ.when (ρ.hp.d3 && path == ρ.me.code + 1) (·.send .unsupported)

/-- Registers that the fabric serves in the SYS domain (R46). -/
def sysServed (o : Nat) : Bool := o == 0x00 || o == 0x04 || o == 0x0C || o == 0x30 || o == 0x34 || o == 0x38

/-- A LOCK held on another path (R54). -/
def Rod.lockedOut (ρ : Rod) (path p : Nat) : Bool := ρ.b (Fl.LOCK_HELD p) && ρ.g (Fl.LOCK_PATH p) != path

/-- The access error of a 32-bit register write, 0 for none, and whether the write goes on (R15, R42, R45, R46, R54, R67). Of
several that hold the first is captured: 5 (by `hostWrite`), then 3, 1, 4, and last 6. (DESIGN CHOICE, log entry 64) -/
def Rod.writeError (ρ : Rod) (path a : Nat) : Nat × Bool :=
  let p := a / 0x1000
  let o := a % 0x1000
  if o = 0x30 ∨ o = 0x34 then (0, true)
  else if sysServed o then (1, false)
  else if ρ.pageOn p = false then (3, false)
  else match regRow a with
    | none => (1, false)
    | some r =>
      if (0x20 ≤ o ∧ o ≤ 0x2C ∨ o = 0x3C) ∧ pageStaged p = false then (0, false)
      else if r.rw ||| r.rws ||| r.w1c ||| r.wo ||| r.rwl = 0#32 then (if r.rc = 0#32 then 1 else 0, false)
      else if ρ.lockedOut path p = true ∧ r.rw ||| r.rws ||| r.wo ≠ 0#32 then (4, false)
      else (0, true)

/-- A 32-bit register write that passes the gates does `f`. -/
def Rod.gate (ρ : Rod) (path a : Nat) (data : Word) (f : Rod → Rod) : Rod :=
  let p := a / 0x1000
  if ρ.answers path = false then ρ.noAnswer path
  else if (pageInfo p).isNone then ρ.errCap 0x021 1 path (a % 0x1000) data
  else
    let e := ρ.writeError path a
    if e.1 ≠ 0 then ρ.errCap p e.1 path (a % 0x1000) data else if e.2 then f ρ else ρ

/-! ### What a write does -/

/-- LOCK (R53). -/
def Rod.writeLock (ρ : Rod) (path p : Nat) (data : Word) : Rod :=
  if wBit data 0 then
    if ρ.b (Fl.LOCK_HELD p) then ρ
    else ((ρ.p (Fl.LOCK_HELD p) 1).p (Fl.LOCK_PATH p) path).p (Fl.LOCK_REQ p) 1
  else if ρ.b (Fl.LOCK_HELD p) && ρ.g (Fl.LOCK_PATH p) == path then ρ.pw (Rg.LOCK p) 0#32
  else ρ

/-- ERRCAP_0: clearing VALID clears OVERFLOW and ERRCAP_1 (R55). -/
def Rod.clearErr (ρ : Rod) (p : Nat) (data : Word) : Rod :=
  if wBit data 31 then ((ρ.p (Fl.ERRCAP_0_VALID p) 0).p (Fl.ERRCAP_0_OVERFLOW p) 0).pw (Rg.ERRCAP_1 p) 0#32 else ρ

/-- After a write of IRQ_RAW or IRQ_EN that leaves PG_STAT.IRQ at 1 a message goes out (R52). (DEDUCED, log entry 55) -/
def Rod.irqAgain (ρ : Rod) (p : Nat) : Rod := if ρ.irqOn p then ρ.pageMsg p else ρ

/-- IRQ_RAW: W1C, with the events of the same cycle kept (R12). (DEDUCED, log entry 55) -/
def Rod.clearIrq (ρ : Rod) (p : Nat) (data events : Word) : Rod :=
  (ρ.pw (Rg.IRQ_RAW p) ((ρ.gw (Rg.IRQ_RAW p) &&& ~~~data) ||| events)).irqAgain p

/-- The plain effect of a write by the access codes of its fields (Table 0.3). -/
def Rod.writePlain (ρ : Rod) (a : Nat) (data : Word) : Rod :=
  match regRow a with
  | none => ρ
  | some r =>
    let ρ1 := if r.rws = 0#32 then ρ else ρ.putShadow a data
    if r.rw ||| r.w1c = 0#32 then ρ1
    else ρ1.putReg a (((ρ1.gw a &&& ~~~r.rw) ||| (data &&& r.rw)) &&& ~~~(data &&& r.w1c))

/-- FL_ACK (R75, R76). -/
def Rod.writeFlAck (ρ : Rod) (path : Nat) (data : Word) : Rod :=
  let old := ρ.g Fl.FL_ACK_ACK
  let seq := ρ.g Fl.FL_SEQ_SEQ
  if (data.toNat + 2 ^ 32 - old) % 2 ^ 32 ≤ (seq + 2 ^ 32 - old) % 2 ^ 32 then
    let ρ1 := ρ.pw Rg.FL_ACK data
    if data.toNat = seq then { ρ1 with lost := false, lostSev := 0 } else ρ1
  else ρ.errCap 0x0D0 6 path 0x44 data

/-- An invalid doorbell (R193). -/
def Rod.badBell (ρ : Rod) (path q o : Nat) (data : Word) : Rod :=
  ((ρ.p (Fl.QP_STAT_SQ_ERR q) 1).irq (qpPage q) 2).errCap (qpPage q) 6 path o data

/-- SQ_TAIL (R192, R193). -/
def Rod.writeSqTail (ρ : Rod) (path q : Nat) (data : Word) : Rod :=
  let v := wBits data 0 12
  if ρ.qpOn q = false ∨ ρ.g (Fl.QP_SIZE_SQ_LEN q) ≤ v then ρ.badBell path q 0x5C data else ρ.p (Fl.SQ_TAIL_TAIL q) v

/-- CQ_HEAD (R193). -/
def Rod.writeCqHead (ρ : Rod) (path q : Nat) (data : Word) : Rod :=
  let v := wBits data 0 12
  let n := ρ.g (Fl.QP_SIZE_CQ_LEN q)
  let head := ρ.g (Fl.CQ_HEAD_HEAD q)
  if ρ.qpOn q = false ∨ n ≤ v ∨ (ρ.g (Fl.CQ_TAIL_TAIL q) + n - head) % n < (v + n - head) % n then ρ.badBell path q 0x64 data
  else ρ.p (Fl.CQ_HEAD_HEAD q) v

/-- QP_CLASS (R219, R244). -/
def Rod.writeQpClass (ρ : Rod) (ps : RodId → Rod) (q : Nat) (data : Word) : Rod :=
  let ρ1 := ρ.p (Fl.QP_CLASS_URGENT q) (wBits data 0 1)
  if ρ.b (Fl.QP_CLASS_URGENT q) && !wBit data 0 then ρ1.classBroken ps q else ρ1

/-- DMA_CTRL_n (R226). -/
def Rod.writeDmaCtrl (ρ : Rod) (path n : Nat) (data : Word) : Rod :=
  let rd := wBits data 16 6
  let burst := wBits data 0 5
  let bad := ρ.errCap 0x020 6 path (0x40 + 0x10 * n) data
  if burst = 0 ∨ 16 < burst then bad
  else if n < 2 then
    if rd = 0 ∨ 32 < rd + ρ.g (Fl.DMA_CTRL_RD_OUT (1 - n)) then bad
    else (ρ.p (Fl.DMA_CTRL_RD_OUT n) rd).p (Fl.DMA_CTRL_BURST n) burst
  else ρ.p (Fl.DMA_CTRL_BURST n) burst

/-- Whether a message buffer serves a REPORT contract of this rod (R163). -/
def Rod.reportOwns (ρ : Rod) (b : Nat) : Bool :=
  ρ.ct.ledger.any fun e => e.2.state != lePending && e.2.args.kind == kReport &&
    epType (e.2.args.dst.get ρ.me.idx) == 1 && epBuf (e.2.args.dst.get ρ.me.idx) == b

/-- A message-buffer register or data word (R163). -/
def Rod.writeBuffer (ρ : Rod) (path a : Nat) (data : Word) : Rod :=
  let p := a / 0x1000
  let o := a % 0x1000
  let b := 9 * (p - 0x031) + (o - 0x40) / 0x1C0
  if 0x40 ≤ (o - 0x40) % 0x1C0 then
    if ρ.b (Fl.MB_CTRL_READY b) then ρ.errCap p 1 path o data
    else if ρ.reportOwns b then ρ.errCap p 4 path o data
    else ρ.pw a data
  else ρ.writePlain a data

/-- The effect of a 32-bit write on the register it reaches, past the gates. (DEDUCED, log entry 28) -/
def Rod.writeReg (ρ : Rod) (ps : RodId → Rod) (path a : Nat) (data : Word) : Rod :=
  let p := a / 0x1000
  let o := a % 0x1000
  let plain := ρ.writePlain a data
  let bad := ρ.errCap p 6 path o data
  if o < 0x40 then
    if o = 0x30 then ρ.writeLock path p data
    else if o = 0x34 then ρ.clearErr p data
    else if o = 0x10 then ρ.clearIrq p data 0#32
    else if o = 0x14 then plain.irqAgain p
    else if o = 0x1C then ρ.irqMask p data
    else if o = 0x20 then ρ.writeStgCtrl path p data
    else if o = 0x24 then ρ.writeStgStat p data
    else if o = 0x28 then { ρ with loPend := Sparse.put ρ.loPend a data }
    else if o = 0x2C then
      let lo := Sparse.get (ρ.gw (Rg.STG_FT_LO p)) ρ.loPend (a - 4)
      (({ ρ with loPend := Sparse.del ρ.loPend (a - 4) }).pw (Rg.STG_FT_LO p) lo).writeStgFtHi p data
    else plain
  else if p = 0x001 then
    if o = 0x44 then ρ.writeModeReq path data else if o = 0x58 then ρ.writeArmRelease data else plain
  else if p = 0x002 then
    if o = 0x50 then ρ.writeMeasSel path data else if o = 0x58 then ρ.writeCko path data else plain
  else if p = 0x003 then if o = 0x48 then ρ.writePwrHost data else plain.voteUpdate
  else if p = 0x004 then
    if o = 0x44 then
      let d := ρ.drawSec
      d.2.writeSecCmd path data d.1.1 d.1.2.1 d.1.2.2
    else if o = 0x4C then ρ.writeUpdReq path data
    else if o = 0x70 then if wBits data 0 2 = 3 then bad else plain
    else if 0x80 ≤ o ∧ o < 0x90 then ρ.modSec fun s => { s with pw := Sparse.put s.pw ((o - 0x80) / 4) data }
    else plain
  else if 0x010 ≤ p ∧ p ≤ 0x01F then
    let q := p - 0x010
    if o = 0x44 then ρ.writeQpClass ps q data
    else if o = 0x48 ∨ o = 0x50 then { ρ with loPend := Sparse.put ρ.loPend a data }
    else if o = 0x4C ∨ o = 0x54 then
      match ρ.loPend.find? fun e => e.1 == a - 4 with
      | some e => (({ ρ with loPend := Sparse.del ρ.loPend (a - 4) }).putShadow (a - 4) e.2).putShadow a data
      | none => ρ.putShadow a data
    else if o = 0x5C then ρ.writeSqTail path q data
    else if o = 0x64 then ρ.writeCqHead path q data
    else plain
  else if p = 0x020 then if o % 0x10 = 0 then ρ.writeDmaCtrl path ((o - 0x40) / 0x10) data else plain
  else if p = 0x021 then
    if o = 0x48 then if within 1 1000 (wBits data 0 16) then plain else bad
    else if o = 0x4C then if within 10 1000 (wBits data 0 16) then plain else bad
    else plain
  else if p = 0x030 then if o = 0x40 then ρ.writeFrCmd path data else plain
  else if 0x031 ≤ p ∧ p ≤ 0x03F then ρ.writeBuffer path a data
  else if p = 0x040 then if o = 0x70 then ρ.writeSnap data else plain
  else if p = 0x060 then
    if o = 0x60 then ρ.writeCoefCmd data else if o = 0xC0 then ρ.writeTrcCfg data else plain
  else if 0x061 ≤ p ∧ p ≤ 0x064 then if o = 0x48 then ρ.clearMax (Fin.ofNat 4 (p - 0x061)) data else plain
  else if 0x070 ≤ p ∧ p ≤ 0x072 then
    let n := axisOf (p - 0x070)
    if o = 0x74 then ρ.writeInjCmd n data
    else if o = 0xD8 then if ρ.pumpPhase n = PP.fault ∧ ρ.leads n = false then ρ else ρ.writePmpCmd path n data
    else plain
  else if 0x080 ≤ p ∧ p ≤ 0x082 then if o = 0xA0 then ρ.writeFbCmd (axisOf (p - 0x080)) data else plain
  else if 0x090 ≤ p ∧ p ≤ 0x092 then
    let n := axisOf (p - 0x090)
    if o = 0x54 then ρ.writeDiag path n data
    else if o = 0x58 then ρ.writeTClr path n data
    else if o = 0x40 ∧ p ≠ 0x090 ∧ data &&& 0xFFFF0000#32 ≠ ρ.gw (Rg.DRV_PWM 0) &&& 0xFFFF0000#32 then plain.errCap p 1 path o data
    else plain
  else if p = 0x093 then if o = 0x50 then ρ.writeSupCmd path data (ρ.g Fl.FENCE_STAT_COIL_MA) else plain
  else if p = 0x0A0 then if o = 0x50 then ρ.writeRjCmd path data else plain
  else if p = 0x0B0 then
    if o = 0x44 then if within 10 1000 (wBits data 0 16) then plain else bad
    else if o = 0x48 then ρ.writeLsCmd path data
    else if o = 0x4C then if 5 ≤ wBits data 0 3 then bad else plain
    else plain
  else if p = 0x0D0 then if o = 0x44 then ρ.writeFlAck path data else plain
  else plain

/-- One 32-bit write to a register page. -/
def Rod.writeWord (ρ : Rod) (ps : RodId → Rod) (path a : Nat) (data : Word) : Rod :=
  ρ.gate path a data fun q => (q.when ((regRow a).any fun r => r.rwl != 0#32) (·.accessUsed)).writeReg ps path a data

/-- One write to a window, of 32 or 64 bits (R44, R285, R292, R669). -/
def Rod.writeWindow (ρ : Rod) (path a size : Nat) (data : DWord) : Rod :=
  let lo : Word := data.setWidth 32
  let err (t : Nat) : Rod := ρ.errCap 0x021 t path (a % 0x1000) lo
  let w := winAt a
  if w = .none then err 1
  else if ρ.winOn w = false then err 3
  else match ρ.putWin a lo with
    | none => err 1
    | some ρ1 => if size = 8 then (ρ1.putWin (a + 4) (data >>> 32 |>.setWidth 32)).getD ρ1 else ρ1

/-- A host write to BAR2 or to configuration space, over the rod's own link (R186, R189): configuration space answers in D3hot,
BAR2 does not. Sizes and alignments that the PCIe registers do not take have no effect. (PRESUMED, log entry 70) -/
def Rod.pcieWrite (ρ : Rod) (path a size : Nat) (data : DWord) : Rod :=
  if path ≠ ρ.me.code + 1 ∨ ρ.clkOn 6 = false then ρ
  else if cfgBase ≤ a then
    let o := a - cfgBase
    let sh := 8 * (o % 4)
    if (size = 1 ∨ size = 2 ∨ size = 4) ∧ o % size = 0 then
      ρ.cfgWrite (o / 4 * 4) (BitVec.ofNat 32 ((2 ^ (8 * size) - 1) * 2 ^ sh)) (BitVec.ofNat 32 (data.toNat % 2 ^ 32 * 2 ^ sh))
    else ρ
  else if ρ.hp.d3 then ρ.send .unsupported
  else
    let o := a - bar2Base
    if (size ≠ 4 ∧ size ≠ 8) ∨ o % size ≠ 0 then ρ
    else
      let ρ1 := ρ.bar2Write o (data.setWidth 32)
      if size = 8 then ρ1.bar2Write (o + 4) ((data >>> 32).setWidth 32) else ρ1

/-- A read of BAR2 or of configuration space, over the rod's own link (R186, R189). (PRESUMED, log entry 70) -/
def Rod.pcieRead (ρ : Rod) (path a size : Nat) : Rod :=
  if path ≠ ρ.me.code + 1 ∨ ρ.clkOn 6 = false then ρ
  else
    let o := (a - if cfgBase ≤ a then cfgBase else bar2Base)
    let w (k : Nat) : Nat :=
      if cfgBase ≤ a then (ρ.cfgWord (ρ.g Fl.LINK_STAT_SPEED) (o / 4 * 4 + k)).toNat else (ρ.bar2Read (o / 4 * 4 + k)).toNat
    if ρ.hp.d3 && decide (a < cfgBase) then ρ.send .unsupported
    else if o % size = 0 then ρ.send (.read ((w 0 + 2 ^ 32 * w 4) / 2 ^ (8 * (o % 4)) % 2 ^ (8 * size)))
    else ρ.send (.read 0)

/-- A host write of `size` bytes at a BAR0 offset (R44). ERRCAP_1 takes the low word of a captured 64-bit write.
(DESIGN CHOICE, log entries 30, 64) -/
def Rod.hostWrite (ρ : Rod) (ps : RodId → Rod) (path a size : Nat) (data : DWord) : Rod :=
  if bar2Base ≤ a then ρ.pcieWrite path a size data
  else if ρ.answers path = false then ρ.noAnswer path
  else if 0x100000 ≤ a then
    if (size ≠ 4 ∧ size ≠ 8) ∨ a % size ≠ 0 then
      ρ.errCap 0x021 (if winAt a = .none then 1 else 5) path (a % 0x1000) (data.setWidth 32)
    else ρ.writeWindow path a size data
  else if (pageInfo (a / 0x1000)).isNone then ρ.errCap 0x021 1 path (a % 0x1000) (data.setWidth 32)
  else if (size ≠ 4 ∧ size ≠ 8) ∨ a % size ≠ 0 then ρ.errCap (a / 0x1000) 5 path (a % 0x1000) (data.setWidth 32)
  else
    let ρ1 := ρ.writeWord ps path a (data.setWidth 32)
    if size = 8 then ρ1.writeWord ps path (a + 4) ((data >>> 32).setWidth 32) else ρ1

/-- Whether a MEM_WRITE reaches the coefficient window while a bank copy holds back the host's writes there (R296): its effect is
in place only when the copy ends (R201). -/
def Rod.coefHolds (ρ : Rod) (d : Desc) : Bool :=
  ρ.b Fl.COEF_STAT_SYNC_BUSY && decide (d.devOff.toNat < 0x138000) && decide (0x130000 < d.devOff.toNat + d.len.toNat)

/-- The bank copy has ended: the MEM_WRITE commands that waited for it complete (R201), in the queue or in the rod that forwarded
them. -/
def Rod.coefRelease (ρ : Rod) : Rod :=
  let waits (c : Cmd) : Bool := c.desc.opc == 4#8 && c.due && ρ.target c.desc == ρ.me && c.done == c.desc.len.toNat
  let ρ1 := ρ.each (List.range 16) fun q r =>
    r.each ((r.qp q).cmds.filter waits) fun c t => t.finish q c.desc.cid.toNat 0 c.desc.len.toNat
  ({ ρ1 with hp := { ρ1.hp with owed := [] } }).each ρ.hp.owed fun e r =>
    r.send (.forwardResult e.1 e.2.1 e.2.2.1 0#8 (BitVec.ofNat 64 e.2.2.2) [])

/-! ### Reads -/

/-- One 32-bit read of a register page; `events` reach the RC fields in the same cycle (R7, R13, R42, R46), and those of DIAG_ECC
raise its event (R77). (DESIGN CHOICE, log entry 29) -/
def Rod.readWord (ρ : Rod) (path a : Nat) (events : Word) : Word × Rod :=
  let p := a / 0x1000
  let o := a % 0x1000
  if (pageInfo p).isNone then (0#32, ρ.errCap 0x021 1 path o 0#32)
  else if !sysServed o && !ρ.pageOn p then (0#32, ρ.errCap p 3 path o 0#32)
  else
    let rc := ((regRow a).map (·.rc)).getD 0#32
    let hi := ρ.hiCap.find? fun e => e.1 == a
    let w := match hi with | some e => e.2 | none => ρ.regView a
    let ρ1 := { ρ with hiCap := Sparse.del ρ.hiCap a }
    let ρ2 := if isLo a then { ρ1 with hiCap := Sparse.put ρ1.hiCap (a + 4) (ρ.regView (a + 4)) } else ρ1
    let ρ3 := if rc = 0#32 then ρ2 else ρ2.pw a ((ρ2.gw a &&& ~~~rc) ||| (events &&& rc))
    (w, ρ3.when (decide (a = Rg.DIAG_ECC) && events != 0#32) (·.irq 0x0D0 2))

/-- One 32-bit read of a window. -/
def Rod.readWin (ρ : Rod) (path a : Nat) : Word × Rod :=
  let w := winAt a
  if w = .none then (0#32, ρ.errCap 0x021 1 path (a % 0x1000) 0#32)
  else if ρ.winOn w = false then (0#32, ρ.errCap 0x021 3 path (a % 0x1000) 0#32)
  else (ρ.winWord a, ρ)

/-- One 32-bit word of a host read. -/
def Rod.read32 (ρ : Rod) (path a : Nat) (events : Word) : Word × Rod :=
  if 0x100000 ≤ a then ρ.readWin path a else ρ.readWord path a events

/-- A host read of `size` bytes at a BAR0 offset: a 64-bit read takes the lower word first, as R7 does; another size or alignment
returns 0 and is captured (R42, R44). (DESIGN CHOICE, log entry 29) -/
def Rod.hostRead (ρ : Rod) (path a size : Nat) (events : Word) : Nat × Rod :=
  if (size ≠ 4 ∧ size ≠ 8) ∨ a % size ≠ 0 then
    let page := (pageInfo (a / 0x1000)).isSome
    (0, ρ.errCap (if page then a / 0x1000 else 0x021) (if page || winAt a != .none then 5 else 1) path (a % 0x1000) 0#32)
  else
    let lo := ρ.read32 path a events
    if size = 4 then (lo.1.toNat, lo.2)
    else
      let hi := lo.2.read32 path (a + 4) events
      (lo.1.toNat + 2 ^ 32 * hi.1.toNat, hi.2)

/-- A read whose data goes back to the host; in D3hot the endpoint answers it with Unsupported Request (R189). -/
def Rod.readOut (ρ : Rod) (path a size : Nat) (events : Word) : Rod :=
  if bar2Base ≤ a then ρ.pcieRead path a size
  else if ρ.answers path then
    let r := ρ.hostRead path a size events
    r.2.send (.read r.1)
  else ρ.noAnswer path

/-! ### Writes that reach a partner -/

/-- The axis whose retry a 32-bit write asks for. -/
def retryAxis (a : Nat) (data : DWord) : Option Axis :=
  if data.getLsbD 0 = false then none
  else if a = Rg.PMP_CMD 0 then some 0 else if a = Rg.PMP_CMD 1 then some 1 else if a = Rg.PMP_CMD 2 then some 2 else none

/-- `t` follows `s` by a register write to a rod; a pump retry in FAULT is passed to the lead of the axis (R385). -/
def State.passRetry (s t : State) (r : RodId) (path a : Nat) (data : DWord) : State :=
  let ρ := s.rod r
  match retryAxis a data with
  | none => t
  | some n =>
    let l := ρ.rk.lead.get n
    if l ≠ r ∧ ρ.pumpPhase n = PP.fault ∧ (ρ.writeError path a).2 = true then t.putRod l ((t.rod l).writePmpCmd path n 1#32).flush
    else t

/-- A host write to a rod. (DESIGN CHOICE, log entry 30) -/
def State.hostWrite (s : State) (r : RodId) (path a size : Nat) (data : DWord) : State :=
  let ρ := s.rod r
  let t := s.putRod r (ρ.hostWrite s.rod path a size data).flush
  if ρ.answers path = true ∧ (size = 4 ∨ size = 8) then s.passRetry t r path a data else t

/-- The next state of a 32-bit host write. (DESIGN CHOICE, log entry 30) -/
def write32 (s : State) (r : RodId) (path : Path) (a : Nat) (data : Word) : Host.Outcome State Fault Refusal :=
  .next (s.hostWrite r path.code a 4 (data.setWidth 64))

/-- A command register with KEY in bits [15:8] and CMD in its lowest bits. -/
def keyed (key : Byte) (cmd : Nat) : Word := BitVec.ofNat 32 (key.toNat * 256 + cmd)

/-! ### The commands -/

/-- REGISTER_WRITE (R69): any write of BAR0. -/
def execRegisterWrite (r : RodId) (path : Path) (addr bytes : Nat) (data : DWord) (s : State) :
    Host.Outcome State Fault Refusal := .next (s.hostWrite r path.code addr bytes data)

/-- PAIR_LO_READ (R7), on the rod's own link. -/
def execPairLoRead (r : RodId) (addr : ReadAt) (s : State) : Host.Outcome State Fault Refusal :=
  onRod s r fun ρ => ρ.readOut (r.code + 1) addr.addr addr.bytes 0#32

/-- PAIR_HI_WRITE (R8). -/
def execPairHiWrite (r : RodId) (path : Path) (addr : Nat) (data : Word) (s : State) : Host.Outcome State Fault Refusal :=
  write32 s r path addr data

/-- RC_READ (R13), on the rod's own link. -/
def execRcRead (r : RodId) (addr : ReadAt) (events : Word) (s : State) : Host.Outcome State Fault Refusal :=
  onRod s r fun ρ => ρ.readOut (r.code + 1) addr.addr addr.bytes events

/-- W1C_WRITE (R12): the write, and the setting events that reach the register in the same cycle. (DEDUCED, log entry 55) -/
def execW1cWrite (r : RodId) (path : Path) (addr : Nat) (data events : Word) (s : State) : Host.Outcome State Fault Refusal :=
  onRod s r fun ρ =>
    let w1c := ((regRow addr).map (·.w1c)).getD 0#32
    if addr % 0x1000 = 0x10 then
      ρ.gate path.code addr data fun q => q.clearIrq (addr / 0x1000) data events
    else
      let ρ1 := ρ.hostWrite s.rod path.code addr 4 (data.setWidth 64)
      if (pageInfo (addr / 0x1000)).isSome && events &&& w1c != 0#32 then ρ1.putReg addr (ρ1.gw addr ||| (events &&& w1c)) else ρ1

/-- IRQ_FORCE (R51). -/
def execIrqForce (r : RodId) (path : Path) (page : Nat) (data : Word) (s : State) : Host.Outcome State Fault Refusal :=
  write32 s r path (Rg.IRQ_FORCE page) data

/-- STG_COMMIT (R57): a write of STG_CTRL with COMMIT 1. -/
def execStgCommit (r : RodId) (path : Path) (page : Nat) (data : Word) (s : State) : Host.Outcome State Fault Refusal :=
  write32 s r path (Rg.STG_CTRL page) (data ||| 1#32)

/-- STG_OPEN (R59): a write of STG_CTRL. -/
def execStgOpen (r : RodId) (path : Path) (page : Nat) (data : Word) (s : State) : Host.Outcome State Fault Refusal :=
  write32 s r path (Rg.STG_CTRL page) data

/-- STG_MODE (R58): a write of STG_CTRL. -/
def execStgMode (r : RodId) (path : Path) (page : Nat) (data : Word) (s : State) : Host.Outcome State Fault Refusal :=
  write32 s r path (Rg.STG_CTRL page) data

/-- STG_FT_ARM (R58): a write of STG_FT_HI. -/
def execStgFtArm (r : RodId) (path : Path) (page : Nat) (data : Word) (s : State) : Host.Outcome State Fault Refusal :=
  write32 s r path (Rg.STG_FT_HI page) data

/-- MISMATCH_CLEAR (R64). -/
def execMismatchClear (r : RodId) (path : Path) (page : Nat) (s : State) : Host.Outcome State Fault Refusal :=
  write32 s r path (Rg.STG_STAT page) 0x80000000#32

/-- PAGE_LOCK_REQUEST (R53). -/
def execPageLockRequest (r : RodId) (path : Path) (page : Nat) (s : State) : Host.Outcome State Fault Refusal :=
  write32 s r path (Rg.LOCK page) 1#32

/-- PAGE_LOCK_RELEASE (R53). -/
def execPageLockRelease (r : RodId) (path : Path) (page : Nat) (s : State) : Host.Outcome State Fault Refusal :=
  write32 s r path (Rg.LOCK page) 0#32

/-- ERRCAP_CLEAR (R55). -/
def execErrcapClear (r : RodId) (path : Path) (page : Nat) (s : State) : Host.Outcome State Fault Refusal :=
  write32 s r path (Rg.ERRCAP_0 page) 0x80000000#32

/-- FL_ACK (R75). -/
def execFlAck (r : RodId) (path : Path) (data : Word) (s : State) : Host.Outcome State Fault Refusal := write32 s r path Rg.FL_ACK data

/-- INJ_STOP (R357). -/
def execInjStop (r : RodId) (path : Path) (axis : Axis) (s : State) : Host.Outcome State Fault Refusal :=
  write32 s r path (Rg.INJ_CMD axis.val) 1#32

/-- MODE_REQUEST (R87). -/
def execModeRequest (r : RodId) (path : Path) (data : Word) (s : State) : Host.Outcome State Fault Refusal :=
  write32 s r path Rg.MODE_REQ data

/-- ARM_RELEASE (R97). -/
def execArmRelease (r : RodId) (path : Path) (data : Word) (s : State) : Host.Outcome State Fault Refusal :=
  write32 s r path Rg.ARM_RELEASE data

/-- TAKE (R137). -/
def execTake (r : RodId) (path : Path) (s : State) : Host.Outcome State Fault Refusal := write32 s r path Rg.SNAP_CTRL 1#32

/-- WAKEUP (R175). -/
def execWakeup (r : RodId) (path : Path) (key : Byte) (s : State) : Host.Outcome State Fault Refusal :=
  write32 s r path Rg.FR_CMD (keyed key 1)

/-- MTS_A (R177). -/
def execMtsA (r : RodId) (path : Path) (key : Byte) (s : State) : Host.Outcome State Fault Refusal :=
  write32 s r path Rg.FR_CMD (keyed key 2)

/-- MTS_B (R177). -/
def execMtsB (r : RodId) (path : Path) (key : Byte) (s : State) : Host.Outcome State Fault Refusal :=
  write32 s r path Rg.FR_CMD (keyed key 3)

/-- HALT (Table 5.5). -/
def execFrHalt (r : RodId) (path : Path) (key : Byte) (s : State) : Host.Outcome State Fault Refusal :=
  write32 s r path Rg.FR_CMD (keyed key 4)

/-- RESTART (R174). -/
def execRestart (r : RodId) (path : Path) (key : Byte) (s : State) : Host.Outcome State Fault Refusal :=
  write32 s r path Rg.FR_CMD (keyed key 5)

/-- WUDOP (R177). -/
def execWudop (r : RodId) (path : Path) (key : Byte) (s : State) : Host.Outcome State Fault Refusal :=
  write32 s r path Rg.FR_CMD (keyed key 6)

/-- MB_READY (R161): READY is written 1 and HOLD as it is. -/
def execMbReady (r : RodId) (path : Path) (buf : Fin 128) (s : State) : Host.Outcome State Fault Refusal :=
  write32 s r path (Rg.MB_CTRL buf.val) (wPut ((s.rod r).gw (Rg.MB_CTRL buf.val)) (Fl.MB_CTRL_READY buf.val).lo 1 1)

/-- MB_HOLD (R158): HOLD is written and READY as it is. -/
def execMbHold (r : RodId) (path : Path) (buf : Fin 128) (hold : Bool) (s : State) : Host.Outcome State Fault Refusal :=
  write32 s r path (Rg.MB_CTRL buf.val) (wPut ((s.rod r).gw (Rg.MB_CTRL buf.val)) (Fl.MB_CTRL_HOLD buf.val).lo 1 (b2n hold))

/-- SQ_TAIL_DOORBELL (R193). -/
def execSqTailDoorbell (r : RodId) (path : Path) (q : Fin 16) (data : Word) (s : State) : Host.Outcome State Fault Refusal :=
  write32 s r path (Rg.SQ_TAIL q.val) data

/-- CQ_HEAD_DOORBELL (R193). -/
def execCqHeadDoorbell (r : RodId) (path : Path) (q : Fin 16) (data : Word) (s : State) : Host.Outcome State Fault Refusal :=
  write32 s r path (Rg.CQ_HEAD q.val) data

/-- QP_CLASS (R219). -/
def execQpClass (r : RodId) (path : Path) (q : Fin 16) (data : Word) (s : State) : Host.Outcome State Fault Refusal :=
  write32 s r path (Rg.QP_CLASS q.val) data

/-- MEMORY_WINDOW_WRITE (R285). -/
def execMemoryWindowWrite (r : RodId) (path : Path) (addr bytes : Nat) (data : DWord) (s : State) :
    Host.Outcome State Fault Refusal :=
  onRod s r fun ρ => ρ.hostWrite s.rod path.code addr bytes data

/-- COEF_SYNC (R296). -/
def execCoefSync (r : RodId) (path : Path) (s : State) : Host.Outcome State Fault Refusal := write32 s r path Rg.COEF_CMD 1#32

/-- COEF_SYNC_DONE (R296). -/
def execCoefSyncDone (r : RodId) (s : State) : Host.Outcome State Fault Refusal := onRod s r fun ρ => ρ.coefSyncDone.coefRelease

/-- TRC_CFG (R302). -/
def execTrcCfg (r : RodId) (path : Path) (data : Word) (s : State) : Host.Outcome State Fault Refusal := write32 s r path Rg.TRC_CFG data

/-- CLR_MAX (R306). -/
def execClrMax (r : RodId) (path : Path) (col : Fin 4) (s : State) : Host.Outcome State Fault Refusal :=
  write32 s r path (Rg.COL_CMD col.val) 1#32

/-- RETRY (R385). -/
def execRetry (r : RodId) (path : Path) (axis : Axis) (s : State) : Host.Outcome State Fault Refusal :=
  write32 s r path (Rg.PMP_CMD axis.val) 1#32

/-- REARM (R399). -/
def execRearm (r : RodId) (path : Path) (axis : Axis) (s : State) : Host.Outcome State Fault Refusal :=
  write32 s r path (Rg.FB_CMD axis.val) 1#32

/-- T_CLR (R445). -/
def execTClr (r : RodId) (path : Path) (axis : Axis) (data : Word) (s : State) : Host.Outcome State Fault Refusal :=
  write32 s r path (Rg.DRV_CMD axis.val) data

/-- FENCE_CLR (R430): a write of SUP_CMD while the coil carries `coilMa`. -/
def execFenceClr (r : RodId) (path : Path) (data : Word) (coilMa : Nat) (s : State) : Host.Outcome State Fault Refusal :=
  onRod s r fun ρ => ρ.gate path.code Rg.SUP_CMD data fun q => q.writeSupCmd path.code data coilMa

/-- DRV_DIAG (R451). -/
def execDrvDiag (r : RodId) (path : Path) (axis : Axis) (data : Word) (s : State) : Host.Outcome State Fault Refusal :=
  write32 s r path (Rg.DRV_DIAG axis.val) data

/-- REJOIN_CONSENT (R499). -/
def execRejoinConsent (r : RodId) (path : Path) (data : Word) (s : State) : Host.Outcome State Fault Refusal :=
  write32 s r path Rg.RJ_CMD data

/-- XTEST (R537). -/
def execXtest (r : RodId) (path : Path) (data : Word) (s : State) : Host.Outcome State Fault Refusal := write32 s r path Rg.LS_CMD data

/-- CLK_MEAS_SEL (R587). -/
def execClkMeasSel (r : RodId) (path : Path) (data : Word) (s : State) : Host.Outcome State Fault Refusal :=
  write32 s r path Rg.CLK_MEAS_SEL data

/-- CKO_CFG (R584). -/
def execCkoCfg (r : RodId) (path : Path) (data : Word) (s : State) : Host.Outcome State Fault Refusal := write32 s r path Rg.CKO_CFG data

/-- PWR_HOST (R589). -/
def execPwrHost (r : RodId) (path : Path) (data : Word) (s : State) : Host.Outcome State Fault Refusal := write32 s r path Rg.PWR_HOST data

/-- UPD_REQ (R636). -/
def execUpdReq (r : RodId) (path : Path) (data : Word) (s : State) : Host.Outcome State Fault Refusal := write32 s r path Rg.UPD_REQ data

/-- A security command with what it needs from outside. -/
def secWrite (s : State) (r : RodId) (path : Path) (data : Word) (random : BitVec 256) (v : Verdict) (m : Manifest) :
    Host.Outcome State Fault Refusal :=
  onRod s r fun ρ => ρ.gate path.code Rg.SEC_CMD data fun q => q.writeSecCmd path.code data random v m

/-- The verdict that a command without one does not use. -/
def noVerdict : Verdict := ⟨false, false, false, false, 0#8⟩

/-- The manifest that a command without one does not use. -/
def noManifest : Manifest := ⟨0#4, 0#4, [], false⟩

/-- CLOSE (R633). -/
def execClose (r : RodId) (path : Path) (key : Byte) (s : State) : Host.Outcome State Fault Refusal :=
  secWrite s r path (keyed key 1) 0#256 noVerdict noManifest

/-- OPEN_L1 (R631). -/
def execOpenL1 (r : RodId) (path : Path) (key : Byte) (s : State) : Host.Outcome State Fault Refusal :=
  secWrite s r path (keyed key 2) 0#256 noVerdict noManifest

/-- CHALLENGE (R634). -/
def execChallenge (r : RodId) (path : Path) (key : Byte) (random : BitVec 256) (s : State) : Host.Outcome State Fault Refusal :=
  secWrite s r path (keyed key 3) random noVerdict noManifest

/-- RESPOND (R634). -/
def execRespond (r : RodId) (path : Path) (key : Byte) (verdict : Verdict) (s : State) : Host.Outcome State Fault Refusal :=
  secWrite s r path (keyed key 4) 0#256 verdict noManifest

/-- APPLY_MANIFEST (R618). -/
def execApplyManifest (r : RodId) (path : Path) (key : Byte) (verdict : Verdict) (man : Manifest) (s : State) :
    Host.Outcome State Fault Refusal :=
  secWrite s r path (keyed key 5) 0#256 verdict man

/-- SET_PASSWORD (R631). -/
def execSetPassword (r : RodId) (path : Path) (key : Byte) (s : State) : Host.Outcome State Fault Refusal :=
  secWrite s r path (keyed key 6) 0#256 noVerdict noManifest

end Sys2Proof.Machine
end

