-- ==== Sys2Proof/Machine/HostPort.lean ====
section
/-! DEFINITION. The queue commands of the host port (spec/06_host_port.md): descriptors, the start of commands, ranks and DMA
channels, the effect of each opcode of Table 6.5, forwarding, the fabric arbiter, and the endpoint. A command of a queue
runs at the row of its own opcode, or at AT_FT_COMMAND; where a rank or a channel is not free it waits, and the row runs it
once they are. -/

namespace Sys2Proof.Machine

/-- What a command of one rod does to the others of the module at once: a register write whose pump retry goes to the lead
(R385), a contract freed (R237, R254) or admitted (R237) in the live partners. -/
inductive Side where
  | wrote (path a : Nat) (data : Word)
  | gone (admitter : RodId) (handle : BitVec 16)
  | held (admitter : RodId) (handle : BitVec 16) (bound : Nat) (dst : Tri (BitVec 16))
deriving DecidableEq, Repr

/-- A status with its RESULT and the data read. -/
structure Ans where
  status : Nat
  result : Nat
  bytes  : List Byte
deriving DecidableEq, Repr

/-- Done, with a RESULT. -/
def ansOk (result : Nat) : Ans := ⟨0, result, []⟩

/-! ### Descriptors (R196, R204) -/

/-- The Forward and AT_FT columns of Table 6.5. -/
def opcForward (o : Nat) : Bool := decide (o ≤ 5) || o == 9
def opcAtFt (o : Nat) : Bool := [0x00, 0x02, 0x03, 0x04, 0x05, 0x08, 0x0B].contains o

/-- A field of ARG: `n` bytes at descriptor offset `off`. -/
def argAt (d : Desc) (off n : Nat) : Nat := leAt d.arg (off - 0x20) n

/-- Whether a command waits for its FT in this rod. (DEDUCED, log entry 44) -/
def Rod.timed (ρ : Rod) (d : Desc) : Bool := d.atFt && ρ.target d == ρ.me

/-- The status of a descriptor that no opcode needs: 0, or 1 to 3 of Table 6.6. -/
def Rod.descStatus (ρ : Rod) (d : Desc) : Nat :=
  let o := d.opc.toNat
  if 0x0F < o then 1
  else if d.rsv ≠ 0#32 ∨ (ρ.target d ≠ ρ.me ∧ opcForward o = false) ∨ (d.atFt = true ∧ opcAtFt o = false) ∨
      (d.atFt = false ∧ o ≠ 1 ∧ d.ft ≠ 0#64) then 2
  else if d.addr.toNat % 4 ≠ 0 ∨ d.len.toNat % 4 ≠ 0 then 3
  else 0

/-- A range of whole words that lies in memory windows, or in register pages. -/
def inWindows (a n : Nat) : Bool :=
  a % 4 == 0 && ([(0x100000, 0x138000), (0x140000, 0x14C000), (0x150000, 0x15C000), (0x160000, 0x160C00),
    (0x200000, 0x308000)] : List (Nat × Nat)).any fun w => decide (w.1 ≤ a ∧ a + n ≤ w.2)

def inPages (a n : Nat) : Bool :=
  a % 4 == 0 && (List.range (n / 4)).all fun i => (pageInfo ((a + 4 * i) / 0x1000)).isSome

/-- The pairs of a REG_WRITE up to the end of its list. -/
def regPairs (d : Desc) : List (Nat × Word) :=
  let l := [0x20, 0x28, 0x30, 0x38].map fun o => (argAt d o 4, BitVec.ofNat 32 (argAt d (o + 4) 4))
  l.takeWhile fun p => p.1 != 0xFFFFFFFF

/-- CAPTURE: N, DEC, the words, and SAMPLES (Table 10.9). -/
def capN (d : Desc) : Nat := argAt d 0x20 1
def capDec (d : Desc) : Nat := argAt d 0x21 1
def capWords (d : Desc) : List Nat := (List.range 8).map fun i => argAt d (0x24 + 2 * i) 2
def capSamples (d : Desc) : Nat := argAt d 0x34 4

def capOk (d : Desc) : Bool :=
  within 1 8 (capN d) && within 1 64 (capDec d) && argAt d 0x22 2 == 0 && argAt d 0x38 8 == 0 &&
  within 1 16777216 (capSamples d) && ((capWords d).take (capN d)).all (fun w => decide (w < 16384)) &&
  ((capWords d).drop (capN d)).all (· == 0) && decide (capSamples d * 4 * (capN d + 1) ≤ d.len.toNat)

/-- The status of the arguments of an opcode (Table 6.5, R230, R348, R359, R626), as far as they stand alone. -/
def argStatus (d : Desc) : Nat :=
  let bad (ok : Bool) (st : Nat) : Nat := if ok then 0 else st
  let len := d.len.toNat
  let off := d.devOff.toNat
  match d.opc.toNat with
  | 0x01 => bad (decide (argAt d 0x20 1 ≤ 2) && within 1 6 (argAt d 0x22 2) && inputsOk (argAt d 0x21 1) (argAt d 0x22 2)) 2
  | 0x02 => bad ((regPairs d).all fun p => inPages p.1 4) 3
  | 0x03 => if 256 < len then 2 else bad (inPages off len) 3
  | 0x04 | 0x05 => bad (inWindows off len) 3
  | 0x06 => bad (within 1 5 (argAt d 0x20 1)) 2
  | 0x08 => bad (capOk d) 2
  | 0x09 => bad (decide (argAt d 0x20 1 ≤ 1)) 2
  | 0x0A => bad (decide (argAt d 0x20 1 ≤ 3) && decide (argAt d 0x21 1 ≤ 3) && argAt d 0x22 2 == 0 && argAt d 0x3D 3 == 0) 2
  | 0x0C => bad (decide (3380 ≤ len)) 2
  | 0x0D | 0x0E => bad (decide (argAt d 0x20 1 ≤ 15)) 2
  | _ => 0

/-- The set-point of a SETPOINT descriptor on queue q, with the contract it serves: `none` where it names none that fits
(R236, R247). A copy from a queue carries sequence 0. (DESIGN CHOICE, log entry 46) -/
def Rod.spCopy (ρ : Rod) (q : Nat) (d : Desc) : Option SetpointCopy :=
  let h := argAt d 0x3C 2
  let n := argAt d 0x22 2
  let copy (handle : Nat) (axis : Axis) (first : Nat) : SetpointCopy :=
    { launch := d.ft, handle := BitVec.ofNat 16 handle, seq := 0#16, axis := axis, first := first
      vals := (List.range n).map fun i => BitVec.ofNat 32 (argAt d (0x24 + 4 * i) 4) }
  let ax := axisOf (argAt d 0x20 1)
  let i0 := argAt d 0x21 1
  if h = 0xFFFF then some (copy h ax i0)
  else match ρ.byHandle h with
    | none => none
    | some (_, e) =>
      if e.state = leRevoked ∨ e.state = leBroken then some (copy 0xFFFF ax i0)
      else if e.state = lePending then none
      else
        let src := e.args.src.get ρ.me.idx
        let fits := isStream e.args.kind && epType src == 2 && epQueue src == q && e.args.count == n
        if e.args.kind = kMirror then if fits then some (copy h 0 0) else none
        else if fits && epAxis e.args.dst.e0 == ax.val && epFirst e.args.dst.e0 == i0 then some (copy h ax i0) else none

/-- The status of a command in the state of the rod that runs it: BAD_FIELD or MODE. -/
def Rod.stateStatus (ρ : Rod) (q : Nat) (d : Desc) : Nat :=
  match d.opc.toNat with
  | 0x01 => if (ρ.spCopy q d).isSome then 0 else 2
  | 0x06 => if ρ.state = RS.update then 6 else 0
  | 0x08 => if ρ.ticksRun then 0 else 6
  | 0x0B => match ρ.byHandle (argAt d 0x20 2) with
    | some (_, e) => if e.state = lePending then 2 else 0
    | none => 2
  | 0x0C => if ρ.state = RS.update then 6 else 0
  | _ => 0

/-! ### Ranks (R220 to R223) -/

/-- The ranks a command takes, as a mask (Tables 6.5 and 6.8). -/
def rankNeed (d : Desc) : Nat :=
  match d.opc.toNat with
  | 0x04 => if 0x140000 ≤ d.devOff.toNat ∧ d.devOff.toNat < 0x170000 then 1 else 0
  | 0x06 => 4
  | 0x07 | 0x0C => 0xC
  | 0x09 => if argAt d 0x20 1 = 1 then 4 else 0
  | 0x0A | 0x0B => 2
  | 0x0D => argAt d 0x20 1 % 16
  | _ => 0

/-- The outcome of a request for ranks. -/
inductive RankReply where
  | go | wait
  | refused (rank top : Nat)
deriving DecidableEq, Repr

/-- A command takes the ranks of a list in order, as far as they are free (R221, R222). -/
def Rod.getRanks (q cid : Nat) (lock : Bool) : List Nat → Rod → Rod × RankReply
  | [], ρ => (ρ, .go)
  | r :: t, ρ =>
    let less (c : Cmd) : Cmd := { c with need := c.need - (c.need &&& 2 ^ (r - 1)) }
    if lock = false ∧ ρ.bitOf (Fl.QP_LOCKS_HELD q) (r - 1) = true then Rod.getRanks q cid lock t (ρ.modCmd q cid less)
    else if r ≤ topRank (ρ.held q) then (ρ, .refused r (topRank (ρ.held q)))
    else if ρ.holder r = 0xFF ∧ (ρ.hp.ranks.all fun e => e.1 != r) = true then
      Rod.getRanks q cid lock t ((ρ.takeRank r q).modCmd q cid fun c => { less c with ranks := c.ranks ||| 2 ^ (r - 1) })
    else ({ ρ with hp := { ρ.hp with ranks := ρ.hp.ranks ++ [(r, q)] } }, .wait)

/-- The ranks of a command that it releases before it completes (R222). -/
def Rod.giveBack (ρ : Rod) (q cid : Nat) : Rod :=
  match ρ.cmd q cid with
  | none => ρ
  | some c => (ρ.dropRanks q c.ranks).modCmd q cid fun c => { c with ranks := 0 }

/-! ### DMA (R209 to R211) -/

/-- The channel a command uses. -/
def Rod.chanOf (ρ : Rod) (q : Nat) (d : Desc) : Option Nat :=
  match d.opc.toNat with
  | 0x04 | 0x06 => some (ρ.g (Fl.QP_CTRL_RD_CH q))
  | 0x03 | 0x05 | 0x08 | 0x09 | 0x0C => some (2 + ρ.g (Fl.QP_CTRL_WR_CH q))
  | _ => none

/-- The commands of a channel. -/
def Rod.chan (ρ : Rod) (ch : Nat) : List (Nat × Nat) := Sparse.get [] ρ.hp.chans ch

/-- Counts bytes moved by a channel. -/
def Rod.moved (ρ : Rod) (ch n : Nat) : Rod := ρ.p (Fl.DMA_BYTES_BYTES ch) (satN 0xFFFFFFFF (ρ.g (Fl.DMA_BYTES_BYTES ch) + n))

/-- The read requests of a transfer: offset and length, at most `top` bytes and within 4 KiB (R186, R210). -/
def readChunks (top : Nat) : Nat → Nat → Nat → Nat → List (Nat × Nat)
  | 0, _, _, _ => []
  | k + 1, a, off, rem =>
    if rem = 0 then []
    else
      let n := min (min top (4096 - (a + off) % 4096)) rem
      (off, n) :: readChunks top k a (off + n) (rem - n)

/-- How many bytes of a request have come. -/
def Cmd.have_ (c : Cmd) (e : Nat × Nat) : Nat :=
  (min c.done (e.1 + e.2) - e.1) + ((c.got.filter fun g => decide (e.1 ≤ g.1 ∧ g.1 < e.1 + e.2)).map (·.2.length)).sum

/-- Issues read requests as long as RD_OUT allows. -/
def Rod.askMore (ρ : Rod) (ch q cid : Nat) : Rod :=
  match ρ.cmd q cid with
  | none => ρ
  | some c =>
    let a := c.desc.addr.toNat
    let cs := readChunks ρ.maxRead (c.desc.len.toNat + 1) a 0 c.desc.len.toNat
    let busy := (cs.filter fun e => decide (e.1 < c.asked ∧ c.have_ e < e.2)).length
    let next := (cs.filter fun e => decide (c.asked ≤ e.1)).take (ρ.g (Fl.DMA_CTRL_RD_OUT ch) - busy)
    (ρ.each next fun e r => r.send (.hostRead ch (a + e.1) e.2)).modCmd q cid fun c =>
      { c with asked := c.asked + (next.map (·.2)).sum }

/-! ### Accesses a command makes -/

/-- An access of a command: not through the endpoint, so D3hot does not stop it (R189). -/
def Rod.inner (ρ : Rod) (f : Rod → Rod) : Rod :=
  let q := f { ρ with hp := { ρ.hp with d3 := false } }
  { q with hp := { q.hp with d3 := ρ.hp.d3 } }

/-- Whether a register write meets closed maintenance access or a page held on another path (status ACCESS). -/
def Rod.noAccess (ρ : Rod) (path a : Nat) : Bool :=
  (ρ.writeError path a).1 == 4 || (((regRow a).any fun r => r.rwl != 0#32) && ρ.g Fl.SEC_STAT_LEVEL == 0)

/-- The writes of a REG_WRITE in list order, up to one that finds no access (R201): status, and the writes made.
(DESIGN CHOICE, log entry 46) -/
def Rod.regWrites (ps : RodId → Rod) (path : Nat) : List (Nat × Word) → Rod → Rod × Nat × List Side
  | [], ρ => (ρ, 0, [])
  | (a, v) :: t, ρ =>
    let ρ1 := ρ.inner fun r => r.hostWrite ps path a 4 (v.setWidth 64)
    if ρ.noAccess path a then (ρ1, 5, [])
    else
      let rest := Rod.regWrites ps path t ρ1
      (rest.1, rest.2.1, .wrote path a v :: rest.2.2)

/-- Words read from register pages, or from a window. -/
def Rod.readBytes (path a : Nat) : Nat → Rod → Rod × List Byte
  | 0, ρ => (ρ, [])
  | k + 1, ρ =>
    let r := if 0x100000 ≤ a then ρ.readWin path a else ρ.readWord path a 0#32
    let rest := Rod.readBytes path (a + 4) k r.2
    (rest.1, leBytes 4 r.1.toNat ++ rest.2)

/-- Writes words to a window. (DESIGN CHOICE, log entry 46) -/
def Rod.memPut (path : Nat) : Nat → Nat → List Byte → Rod → Rod
  | 0, _, _, ρ => ρ
  | k + 1, a, bs, ρ =>
    Rod.memPut path k (a + 4) (bs.drop 4) (ρ.writeWindow path a 4 (BitVec.ofNat 64 (leAt bs 0 4)))

/-- The records of the SRAM log, oldest first, or of the flash log. -/
def Rod.logRecords (ρ : Rod) (flash : Bool) : List FaultRec :=
  if flash then ρ.flash
  else
    let seq := ρ.g Fl.FL_SEQ_SEQ
    (List.range 1024).filterMap fun k => (ρ.log.find? fun e => e.1 == (seq + k) % 1024).map (·.2)

/-- What FAULT_EXPORT writes: as many whole records as LEN holds. -/
def Rod.exportBytes (ρ : Rod) (d : Desc) : Ans :=
  let l := (ρ.logRecords (argAt d 0x20 1 == 1)).take (d.len.toNat / 32)
  ⟨0, l.length, l.flatMap recBytes⟩

/-- The commands that run in one rod as in another (Table 6.5, Forward) once they hold their ranks, but SETPOINT. -/
def Rod.perform (ρ : Rod) (ps : RodId → Rod) (path : Nat) (d : Desc) (bytes : List Byte) : Rod × Ans × List Side :=
  let len := d.len.toNat
  match d.opc.toNat with
  | 0x02 =>
    let r := Rod.regWrites ps path (regPairs d) ρ
    (r.1, ⟨r.2.1, 0, []⟩, r.2.2)
  | 0x03 =>
    let r := Rod.readBytes path d.devOff.toNat (len / 4) ρ
    (r.1, ⟨0, 0, r.2⟩, [])
  | 0x04 => (Rod.memPut path (bytes.length / 4) d.devOff.toNat bytes ρ, ansOk bytes.length, [])
  | 0x05 =>
    let r := Rod.readBytes path d.devOff.toNat (len / 4) ρ
    (r.1, ⟨0, len, r.2⟩, [])
  | 0x09 => (ρ, ρ.exportBytes d, [])
  | _ => (ρ, ansOk ρ.ft, [])

/-! ### Contract admission (R237 to R243, R258) -/

/-- The arguments of CONTRACT_ADMIT (Table 7.1). -/
def admitArgs (d : Desc) : ContractArgs :=
  let e (o : Nat) : BitVec 16 := BitVec.ofNat 16 (argAt d o 2)
  { kind := argAt d 0x20 1, cls := argAt d 0x21 1, period := argAt d 0x24 4, deadline := argAt d 0x28 4, offset := argAt d 0x2C 4
    src := ⟨e 0x30, e 0x32, e 0x34⟩, dst := ⟨e 0x36, e 0x38, e 0x3A⟩, count := argAt d 0x3C 1 }

/-- The rod's own check of a contract and the arguments it reserves: reason, bound part, arguments (R232, R243, R258). -/
def Rod.examine (ρ : Rod) (a : ContractArgs) : Nat × Nat × ContractArgs :=
  let d := a.dst.get ρ.me.idx
  if epType d = 15 ∧ ρ.b Fl.CT_CFG_PLACEMENT = true then
    match ρ.autoBuffer with
    | none => (2, 0, a)
    | some (b, slot) =>
      let a' := { a with dst := a.dst.set ρ.me.idx (BitVec.ofNat 16 (0x1000 + b)) }
      let r := (ρ.takeAuto b slot a.period).admitCheck a'
      (r.1, r.2, a')
  else
    let r := ρ.admitCheck a
    (r.1, r.2, a)

/-- The bound as RESULT and the records give it (R236, R259). -/
def Rod.boundOut (ρ : Rod) (a : ContractArgs) (bound : Nat) : Nat :=
  if a.cls = 0 ∨ ρ.b Fl.CT_CFG_PLACEMENT = true then 0xFFFFFFFF else bound

/-- An admission completes REFUSED (R243, record 0x0702). -/
def Rod.admitRefuse (ρ : Rod) (q cid : Nat) (a : ContractArgs) (reason bound : Nat) : Rod :=
  let b := if bound = 0 ∧ ρ.b Fl.CT_CFG_PLACEMENT = false then 0 else ρ.boundOut a bound
  ((ρ.irq 0x050 0).flt 0x0702 sevInfo 0x050 [(0, 1, reason), (1, 1, a.kind), (4, 4, b)]).finish q cid 9
    (2 ^ 16 * reason + 2 ^ 32 * b)

/-- The destinations of an admission, with the buffers that the rods chose for AUTO (R258). -/
def Admit.dsts (m : Admit) (me : RodId) (own : Tri (BitVec 16)) : Tri (BitVec 16) :=
  let at_ (r : RodId) : BitVec 16 := if r = me then own.get r.idx else ((m.answers.get r.idx).map (·.dst)).getD (own.get r.idx)
  ⟨at_ .x, at_ .y, at_ .z⟩

/-- The buffer chosen for an AUTO destination, that of the first rod in the order X, Y, Z where several have one; 0 without one
(R258). (DESIGN CHOICE, log entry 49) -/
def Admit.chosen (m : Admit) (dst : Tri (BitVec 16)) : Nat :=
  ((allRods.find? fun r => epType (m.args.dst.get r.idx) == 15).map fun r => epBuf (dst.get r.idx)).getD 0

/-- Ends an own admission: with a reason its reservations are cancelled, without one the contract stands (R237, R242). One whose
command has ended without it is cancelled, and answers nothing (R188). -/
def Rod.admitEnd (ρ : Rod) (m : Admit) (reason : Nat) : Rod × List Side :=
  let ρ0 := ρ.modCt fun c => { c with admits := c.admits.filter fun x => x.index != m.index }
  match ρ.entry m.index with
  | none => (ρ0, [])
  | some e =>
    let bounds := m.bound :: m.answers.list.filterMap fun x => x.map (·.bound)
    let bound := bounds.foldl max 0
    if m.dead then ((ρ0.freeEntry m.index).send (.contractGone m.index), [.gone ρ.me e.handle])
    else if reason = 0 then
      let dst := m.dsts ρ.me e.args.dst
      let ρ1 := ρ0.activate m.index bound dst
      let b := ρ.boundOut e.args bound
      let h := e.handle.toNat
      (((ρ1.irq 0x050 0).flt 0x0701 sevInfo 0x050 [(0, 2, h), (2, 1, e.args.cls), (4, 4, b)]).finish m.queue m.cid 0
        (h + 2 ^ 16 * m.chosen dst + 2 ^ 32 * b), [.held ρ.me e.handle bound dst])
    else
      (((ρ0.freeEntry m.index).send (.contractGone m.index)).admitRefuse m.queue m.cid e.args reason bound,
        [.gone ρ.me e.handle])

/-- An admission whose live partners have all answered ends (R237). (DESIGN CHOICE, log entry 49) -/
def Rod.admitTry (ρ : Rod) (m : Admit) : Rod × List Side :=
  let asked := ρ.me.partners.filter ρ.live
  if asked.any fun p => (m.answers.get p.idx).isNone then (ρ, [])
  else
    let reasons := asked.filterMap fun p => (m.answers.get p.idx).map (·.reason)
    ρ.admitEnd m ((reasons.find? (· != 0)).getD 0)

/-- CONTRACT_ADMIT with the ledger lock held: the own check and reservation, and the proposals (R237, R238).
(DESIGN CHOICE, log entry 49) -/
def Rod.admitStart (ρ : Rod) (q cid : Nat) (d : Desc) : Rod × List Side :=
  let a := admitArgs d
  let ρ0 := ρ.giveBack q cid
  if ρ.ct.notices.isEmpty = false then (ρ0.admitRefuse q cid a 9 (ρ.boundOf a), [])
  else match ρ.freeIndex with
    | none => (ρ0.admitRefuse q cid a 1 (ρ.boundOf a), [])
    | some i =>
      let x := ρ.examine a
      if x.1 ≠ 0 then (ρ0.admitRefuse q cid a x.1 x.2.1, [])
      else
        let gen := (Sparse.get 0 ρ.ct.gens i + 1) % 256
        let m : Admit :=
          { index := i, queue := q, cid := cid, irq := d.irq, args := a, bound := x.2.1, answers := Tri.rep none, dead := false }
        let ρ1 := (ρ0.reserve i gen ρ.me q x.2.1 x.2.2).modCt fun c => { c with admits := c.admits ++ [m] }
        let ρ2 := if (ρ.me.partners.filter ρ.live).isEmpty then ρ1
          else ρ1.send (.proposal { index := i, gen := gen, queue := q, args := x.2.2 })
        ρ2.admitTry m

/-- A proposal of a partner with the own ledger lock held: checked, reserved and answered (R237 to R239). -/
def Rod.proposalNow (ρ : Rod) (src : RodId) (msg : AdmitProposal) : Rod × List Side :=
  let answer (ρ : Rod) (reason bound : Nat) (a : ContractArgs) : Rod :=
    ρ.send (.admitAnswer src { index := msg.index, reason := reason, bound := bound, dst := a.dst.get ρ.me.idx })
  let take (ρ : Rod) : Rod :=
    if ρ.ct.notices.isEmpty = false then answer ρ 9 (ρ.boundOf msg.args) msg.args
    else
      let x := ρ.examine msg.args
      if x.1 ≠ 0 then answer ρ x.1 x.2.1 msg.args
      else answer (ρ.reserve msg.index msg.gen src msg.queue x.2.1 x.2.2) 0 x.2.1 x.2.2
  match ρ.entry msg.index with
  | none => (take ρ, [])
  | some e =>
    if e.state = lePending ∧ src.code < e.admitter.code then
      match if e.admitter = ρ.me then ρ.ct.admits.find? fun m => m.index == msg.index else none with
      | some m =>
        let r := ρ.admitEnd m 7
        (take r.1, r.2)
      | none => (take (ρ.freeEntry msg.index), [])
    else (answer ρ 7 (ρ.boundOf msg.args) msg.args, [])

/-- A proposal of a partner: it takes the ledger lock, or waits for it in order of arrival (R222, R237). -/
def Rod.proposalIn (ρ : Rod) (src : RodId) (msg : AdmitProposal) : Rod × List Side :=
  if src = ρ.me then (ρ, []) else if ρ.ledgerFree then ρ.proposalNow src msg else (ρ.supWait (.proposal src msg), [])

/-- An answer to an own proposal. -/
def Rod.answerIn (ρ : Rod) (src : RodId) (msg : AdmitAnswer) : Rod × List Side :=
  match ρ.ct.admits.find? fun m => m.index == msg.index with
  | none => (ρ, [])
  | some m =>
    if src = ρ.me then (ρ, [])
    else
      let m' := { m with answers := m.answers.set src.idx (some msg) }
      (ρ.modCt fun c => { c with admits := c.admits.map fun x => if x.index = m.index then m' else x }).admitTry m'

/-- A live partner has not answered in time (R240). -/
def Rod.admitLate (ρ : Rod) (index : Nat) : Rod × List Side :=
  match ρ.ct.admits.find? fun m => m.index == index with
  | none => (ρ, [])
  | some m =>
    if (ρ.me.partners.filter ρ.live).any fun p => (m.answers.get p.idx).isNone then ρ.admitEnd m 8 else ρ.admitTry m

/-- CONTRACT_WITHDRAW (R254): the entry is freed in every live rod. -/
def Rod.withdrawContract (ρ : Rod) (q cid : Nat) (d : Desc) : Rod × List Side :=
  match ρ.byHandle (argAt d 0x20 2) with
  | none => (ρ.finish q cid 2 0, [])
  | some (i, e) =>
    ((((ρ.giveBack q cid).freeEntry i).send (.contractGone i)).finish q cid 0 0, [.gone e.admitter e.handle])

/-! ### Running a command -/

/-- Whether a command can start (R199, R202). (DEDUCED, log entry 44) -/
def Rod.canStart (ρ : Rod) (q : Nat) (c : Cmd) : Bool :=
  let k := ρ.qp q
  let before := k.cmds.takeWhile fun e => e.desc.cid != c.desc.cid
  ρ.qpOn q && k.held.isEmpty && decide ((k.cmds.filter (·.run)).length < 8) && before.all (fun e => !e.desc.fence) &&
  (!c.desc.fence || before.isEmpty) &&
  (!ρ.timed c.desc || decide (c.desc.ft.toNat ≤ ρ.ft)) && before.all fun e => e.run || ρ.timed e.desc

/-- Marks a command whose effect has begun. -/
def Rod.begin (ρ : Rod) (q cid : Nat) : Rod := ρ.modCmd q cid fun c => { c with due := true, at_ := ρ.ft }

/-- A transfer from host memory begins. -/
def Rod.startRead (ρ : Rod) (ch q cid : Nat) : Rod := (ρ.begin q cid).askMore ch q cid

/-- Completes a command that gave an answer, with its data written to ADDR first (R200). -/
def Rod.reply (ρ : Rod) (q cid : Nat) (d : Desc) (a : Ans) : Rod :=
  let ρ1 := if a.bytes.isEmpty then ρ
    else (ρ.toHost d.addr.toNat a.bytes).moved ((ρ.chanOf q d).getD 2) a.bytes.length
  ρ1.finish q cid a.status a.result

/-- The effect of a command in its own rod, with its ranks taken and its channel free. -/
def Rod.act (ρ : Rod) (ps : RodId → Rod) (q cid : Nat) (c : Cmd) (v : Verdict) : Rod × List Side :=
  let d := c.desc
  let own := ρ.me.code + 1
  match d.opc.toNat with
  | 0x01 => match ρ.spCopy q d with
    | some s => ((ρ.begin q cid).ownCopy s (some (q, cid, d.irq)) none, [])
    | none => (ρ.finish q cid 2 0, [])
  | 0x04 => if d.len = 0#32 then (ρ.finish q cid 0 0, []) else (ρ.startRead (ρ.g (Fl.QP_CTRL_RD_CH q)) q cid, [])
  | 0x06 =>
    let ρ1 := ρ.stage (argAt d 0x20 1) []
    if d.len = 0#32 then (ρ1.finish q cid 0 0, []) else (ρ1.startRead (ρ.g (Fl.QP_CTRL_RD_CH q)) q cid, [])
  | 0x07 =>
    let r := ρ.verifyStaged v
    (r.2.finish q cid 0 r.1, [])
  | 0x08 => (ρ.begin q cid, [])
  | 0x0A => (ρ.begin q cid).admitStart q cid d
  | 0x0B => ρ.withdrawContract q cid d
  | 0x0C =>
    let idx := ρ.otp.hss
    match ρ.attest (padTo 32 d.arg) with
    | (some bs, ρ1) => (ρ1.reply q cid d ⟨0, idx, bs⟩, [])
    | (none, ρ1) => (ρ1.finish q cid 9 0x0431, [])
  | 0x0D =>
    let m := ρ.g (Fl.QP_LOCKS_HELD q) ||| (argAt d 0x20 1 % 16)
    (((ρ.p (Fl.QP_LOCKS_HELD q) m).modCmd q cid fun c => { c with ranks := 0 }).finish q cid 0 m, [])
  | 0x0E =>
    let held := ρ.g (Fl.QP_LOCKS_HELD q)
    let rel := held &&& argAt d 0x20 1
    (((ρ.dropRanks q rel).p (Fl.QP_LOCKS_HELD q) (held - rel)).finish q cid 0 (held - rel), [])
  | 0x0F =>
    let n := d.len.toNat / 64
    ((ρ.putQp q { ρ.qp q with ring := if n = 0 then none else some (d.addr.toNat, n, 0) }).finish q cid 0 n, [])
  | _ =>
    let r := ρ.perform ps own d []
    (r.1.reply q cid d r.2.1, r.2.2)

/-- A command with its ranks: it takes its channel in order (R209), and then runs or is forwarded (R205). -/
def Rod.proceed (ρ : Rod) (ps : RodId → Rod) (q cid : Nat) (c : Cmd) (v : Verdict) : Rod × List Side :=
  let go (ρ : Rod) : Rod × List Side :=
    if ρ.target c.desc = ρ.me then ρ.act ps q cid c v
    else if c.desc.opc = 4#8 ∧ c.desc.len ≠ 0#32 then (ρ.startRead (ρ.g (Fl.QP_CTRL_RD_CH q)) q cid, [])
    else ((ρ.begin q cid).send (.forward (ρ.target c.desc) q c.desc []), [])
  match ρ.chanOf q c.desc with
  | none => go ρ
  | some ch =>
    let ρ1 := if (ρ.chan ch).contains (q, cid) then ρ else ρ.joinChan ch q cid
    if (ρ1.chan ch).head? = some (q, cid) then go ρ1 else (ρ1, [])

/-- A command refused for its rank (R221). -/
def Rod.rankRefused (ρ : Rod) (q cid rank top : Nat) : Rod :=
  (ρ.flt 0x0521 sevInfo (qpPage q) [(0, 1, q), (1, 1, rank), (2, 1, top)]).finish q cid 4 0

/-- A command of a queue runs as far as it can. (DESIGN CHOICE, log entry 45) -/
def Rod.runCmd (ρ : Rod) (ps : RodId → Rod) (q cid : Nat) (v : Verdict) : Rod × List Side :=
  match ρ.cmd q cid with
  | none => (ρ, [])
  | some c =>
    if c.due then (ρ, [])
    else if c.run then if c.need = 0 then ρ.proceed ps q cid c v else (ρ, [])
    else if ρ.canStart q c then
      let own := ρ.target c.desc == ρ.me
      let st0 := argStatus c.desc
      let st := if st0 = 0 ∧ own = true then ρ.stateStatus q c.desc else st0
      let need := if own then rankNeed c.desc else 0
      let ρ1 := ρ.modCmd q cid fun c => { c with run := true, need := need }
      if st ≠ 0 then (ρ1.finish q cid st 0, [])
      else
        let r := Rod.getRanks q cid (c.desc.opc == 0x0D#8) (ranksOf need) ρ1
        match r.2 with
        | .go => r.1.proceed ps q cid c v
        | .wait => (r.1, [])
        | .refused rank top => (r.1.rankRefused q cid rank top, [])
    else (ρ, [])

/-! ### Fetch (R6, R194, R196, R199) -/

/-- A descriptor of 64 bytes as it stands in host memory, little-endian (R6, Table 6.3). -/
def descOf (bs : List Byte) : Desc :=
  let w (o : Nat) : Word := BitVec.ofNat 32 (leAt bs o 4)
  { opc := (w 0).setWidth 8, fence := wBit (w 0) 8, irq := wBit (w 0) 9, atFt := wBit (w 0) 10
    rod := BitVec.ofNat 2 (wBits (w 0) 16 2), rsv := (w 0 &&& 0xFFFCF800#32) ||| (w 4 >>> 16)
    cid := (w 4).setWidth 16, ft := BitVec.ofNat 64 (leAt bs 8 8), addr := BitVec.ofNat 64 (leAt bs 0x10 8)
    len := w 0x18, devOff := w 0x1C, arg := (bs.drop 0x20).take 32 }

/-- The first `n` whole descriptors of a byte list. -/
def descsOf : Nat → List Byte → List Desc
  | 0, _ => []
  | n + 1, bs => if bs.length < 64 then [] else descOf (bs.take 64) :: descsOf n (bs.drop 64)

/-- A fetched descriptor: kept, or completed at once where it is malformed or its FT has passed. (DESIGN CHOICE, log entry 45) -/
def Rod.take (ρ : Rod) (q : Nat) (d : Desc) : Rod :=
  let k := ρ.qp q
  let c : Cmd := { desc := d, run := false, due := false, done := 0, asked := 0, got := [], buf := [], ranks := 0, need := 0,
                   from_ := 0, ended := false, at_ := 0 }
  let ρ1 := ρ.putQp q { k with cmds := k.cmds ++ [c] }
  let st := ρ.descStatus d
  let st' := if st = 0 ∧ d.atFt = true ∧ d.ft.toNat < ρ.ft then 8 else st
  if st' = 0 then ρ1 else ρ1.finish q d.cid.toNat st' 0

/-- Descriptors arrive in ring order, at most 8 and no more than the ring holds (R194); D3hot stops fetching (R189).
(DESIGN CHOICE, log entry 45) -/
def Rod.fetch (ρ : Rod) (q : Nat) (bytes : List Byte) : Rod :=
  let n := max 1 (ρ.g (Fl.QP_SIZE_SQ_LEN q))
  let waiting := (ρ.g (Fl.SQ_TAIL_TAIL q) + n - ρ.g (Fl.SQ_HEAD_HEAD q)) % n
  if ρ.qpOn q = false ∨ ρ.hp.d3 = true then ρ
  else ρ.each (descsOf (min 8 waiting) bytes) fun d r =>
    (r.p (Fl.SQ_HEAD_HEAD q) ((r.g (Fl.SQ_HEAD_HEAD q) + 1) % n)).take q d

/-! ### Data from host memory (R211, R214) -/

/-- All data of a transfer has arrived; where a bank copy holds back its writes, the command completes when that ends (R201).
(DESIGN CHOICE, log entry 50) -/
def Rod.readDone (ρ : Rod) (q cid : Nat) (c : Cmd) (buf : List Byte) : Rod :=
  if ρ.target c.desc = ρ.me then
    if c.desc.opc = 4#8 ∧ ρ.coefHolds c.desc = true then ρ.leaveChans fun e => e == (q, cid) else ρ.finish q cid 0 c.desc.len.toNat
  else (ρ.leaveChans fun e => e == (q, cid)).send (.forward (ρ.target c.desc) q c.desc buf)

/-- Takes what follows in address order at `off` out of the data at hand. -/
def drain : Nat → Nat → List (Nat × List Byte) → List Byte × List (Nat × List Byte)
  | 0, _, l => ([], l)
  | k + 1, off, l =>
    match l.find? fun e => e.1 == off with
    | none => ([], l)
    | some e =>
      let r := drain k (off + e.2.length) (l.filter fun g => g.1 != off)
      (e.2 ++ r.1, r.2)

/-- Data returned at a host address for the command that a read channel serves, in whatever order: it is placed in address order
(R211). -/
def Rod.dataIn (ρ : Rod) (ch addr : Nat) (bytes : List Byte) : Rod :=
  match (ρ.chan ch).head? with
  | none => ρ
  | some (q, cid) =>
    match ρ.cmd q cid with
    | none => ρ
    | some c =>
      let off := addr - c.desc.addr.toNat
      let fits := decide (c.desc.addr.toNat + c.done ≤ addr) && decide (off + bytes.length ≤ c.asked) && !bytes.isEmpty &&
        bytes.length % 4 == 0 && c.got.all fun g => decide (g.1 + g.2.length ≤ off) || decide (off + bytes.length ≤ g.1)
      if c.due = false ∨ fits = false then ρ
      else
        let (bs, got) := drain (c.got.length + 1) c.done ((off, bytes) :: c.got)
        let n := bs.length
        let own := ρ.target c.desc == ρ.me
        let ρ1 :=
          if own = false then ρ
          else if c.desc.opc = 4#8 then Rod.memPut (ρ.me.code + 1) (n / 4) (c.desc.devOff.toNat + c.done) bs ρ
          else ρ.modSec fun s => { s with staged := s.staged ++ bs }
        let buf := if own then [] else c.buf ++ bs
        let ρ2 := (ρ1.moved ch n).modCmd q cid fun c => { c with done := c.done + n, got := got, buf := buf }
        if c.done + n = c.desc.len.toNat then ρ2.readDone q cid c buf else ρ2.askMore ch q cid

/-- A failed host request (R214, record 0x0510). -/
def Rod.dmaError (ρ : Rod) (ch addr type : Nat) : Rod :=
  match (ρ.chan ch).head? with
  | none => ρ
  | some (q, cid) =>
    match ρ.cmd q cid with
    | none => ρ
    | some c =>
      if c.due = false ∨ addr < c.desc.addr.toNat + c.done ∨ c.desc.addr.toNat + c.asked ≤ addr then ρ
      else
        let ρ1 := (((ρ.p (Fl.DMA_ERR_VALID ch) 1).p (Fl.DMA_ERR_TYPE ch) type).p (Fl.DMA_ERR_QP ch) q).p (Fl.DMA_ERR_CID ch) cid
        ((ρ1.irq 0x020 ch).flt 0x0510 sevWarn 0x020
          [(0, 1, ch), (1, 1, type), (2, 1, q), (4, 2, cid), (8, 8, addr)]).finish q cid 7 0

/-! ### Forwarded commands (R205 to R207, R224) -/

/-- The result of a forwarded command goes back. -/
def Rod.sendResult (ρ : Rod) (src : RodId) (q : Nat) (d : Desc) (a : Ans) : Rod :=
  ρ.send (.forwardResult src q d.cid (BitVec.ofNat 8 a.status) (BitVec.ofNat 64 a.result) a.bytes)

/-- A forwarded command runs in its target, with LOCK.PATH that of the forwarding rod. (DESIGN CHOICE, log entry 47) -/
def Rod.runForward (ρ : Rod) (ps : RodId → Rod) (src : RodId) (q : Nat) (d : Desc) (bytes : List Byte) : Rod × List Side :=
  let st0 := argStatus d
  let st := if st0 = 0 then ρ.stateStatus q d else st0
  if st ≠ 0 then (ρ.sendResult src q d ⟨st, 0, []⟩, [])
  else if d.opc = 1#8 then
    match ρ.spCopy q d with
    | some s => (ρ.ownCopy s none (some (src, q, d.cid.toNat)), [])
    | none => (ρ.sendResult src q d ⟨2, 0, []⟩, [])
  else
    let r := ρ.perform ps (src.code + 1) d bytes
    if d.opc = 4#8 ∧ ρ.coefHolds d = true then
      ({ r.1 with hp := { r.1.hp with owed := r.1.hp.owed ++ [(src, q, d.cid, r.2.1.result)] } }, r.2.2)
    else (r.1.sendResult src q d r.2.1, r.2.2)

/-- A forwarded command takes its rank as holder 0x11, or waits for it (R222, R224). (DESIGN CHOICE, log entry 47) -/
def Rod.rankForward (ρ : Rod) (ps : RodId → Rod) (src : RodId) (q : Nat) (d : Desc) (bytes : List Byte) : Rod × List Side :=
  let need := ranksOf (rankNeed d)
  if need.all fun r => ρ.holder r == 0xFF && ρ.hp.ranks.all fun e => e.1 != r then ρ.runForward ps src q d bytes
  else ({ ρ with hp := { ρ.hp with fwd := ρ.hp.fwd ++ [(src, q, d, bytes)], ranks := ρ.hp.ranks ++ need.map fun r => (r, 0x11) } }, [])

/-- A forwarded command arrives (R205); one with AT_FT waits for its FT, and bulk data has no effect while it is
suspended (R250).
(DESIGN CHOICE, log entry 47) -/
def Rod.forwardIn (ρ : Rod) (ps : RodId → Rod) (src : RodId) (q : Nat) (d : Desc) (bytes : List Byte) : Rod × List Side :=
  if src = ρ.me ∨ RodId.ofCode d.rod.toNat ≠ ρ.me ∨ d.rod = 3#2 ∨ ρ.descStatus { d with rod := 3#2 } ≠ 0 ∨
      opcForward d.opc.toNat = false ∨ (d.opc = 4#8 ∧ ρ.ct.bulkOff = true) then (ρ, [])
  else if d.atFt = true ∧ d.ft.toNat < ρ.ft then (ρ.sendResult src q d ⟨8, 0, []⟩, [])
  else if d.atFt = true ∧ ρ.ft < d.ft.toNat then
    ({ ρ with hp := { ρ.hp with fwd := ρ.hp.fwd ++ [(src, q, d, bytes)] } }, [])
  else ρ.rankForward ps src q d bytes

/-- Takes the first forwarded command that satisfies `f` out of those that wait. -/
def pickFwd (f : RodId × Nat × Desc × List Byte → Bool) : List (RodId × Nat × Desc × List Byte) →
    Option (RodId × Nat × Desc × List Byte) × List (RodId × Nat × Desc × List Byte)
  | [] => (none, [])
  | e :: t => if f e then (some e, t) else ((pickFwd f t).1, e :: (pickFwd f t).2)

/-- AT_FT_COMMAND (R199): a command of the own queue, or a forwarded one, whose FT has come. -/
def Rod.atFtCmd (ρ : Rod) (ps : RodId → Rod) (q cid : Nat) : Rod × List Side :=
  match ρ.cmd q cid with
  | some c => if ρ.timed c.desc then ρ.runCmd ps q cid noVerdict else (ρ, [])
  | none =>
    let due (e : RodId × Nat × Desc × List Byte) : Bool :=
      e.2.1 == q && e.2.2.1.cid.toNat == cid && e.2.2.1.atFt && decide (e.2.2.1.ft.toNat ≤ ρ.ft)
    match pickFwd due ρ.hp.fwd with
    | (some (src, q, d, bs), rest) => ({ ρ with hp := { ρ.hp with fwd := rest } }).rankForward ps src q d bs
    | (none, _) => (ρ, [])

/-- The result of a forwarded command returns. -/
def Rod.resultIn (ρ : Rod) (src : RodId) (q cid status result : Nat) (bytes : List Byte) : Rod :=
  match ρ.cmd q cid with
  | none => ρ
  | some c =>
    if c.due = true ∧ ρ.target c.desc = src ∧ src ≠ ρ.me then
      ρ.reply q cid c.desc ⟨status, result, bytes.take c.desc.len.toNat⟩
    else ρ

/-- A forwarded command without result (R206). -/
def Rod.forwardLate (ρ : Rod) (q cid : Nat) : Rod :=
  match ρ.cmd q cid with
  | none => ρ
  | some c =>
    let t := ρ.target c.desc
    if c.due = true ∧ t ≠ ρ.me ∧ ρ.passed c.at_ (ρ.g Fl.FWD_CFG_FWD_TMO * 1000) = true then
      ((((ρ.p Fl.FWD_STAT_TMO 1).p Fl.FWD_STAT_ROD t.code).irq 0x021 2).flt 0x0530 sevWarn 0x021
        [(0, 1, t.code), (1, 1, c.desc.opc.toNat), (2, 2, cid)]).finish q cid 0x0B 0
    else ρ

/-! ### Ranks granted and taken away (R222, R223) -/

/-- The first request for a rank that waits, out of the requests. -/
def pickRank (rank : Nat) : List (Nat × Nat) → Option Nat × List (Nat × Nat)
  | [] => (none, [])
  | e :: t => if e.1 = rank then (some e.2, t) else ((pickRank rank t).1, e :: (pickRank rank t).2)

/-- A free rank goes to the request that came first. -/
def Rod.rankGrant (ρ : Rod) (ps : RodId → Rod) (rank : Nat) : Rod × List Side :=
  if ρ.holder rank ≠ 0xFF then (ρ, [])
  else match pickRank rank ρ.hp.ranks with
    | (none, _) => (ρ, [])
    | (some h, rest) =>
      let ρ0 := { ρ with hp := { ρ.hp with ranks := rest } }
      if h = 0x10 then
        let ρ1 := { ρ0 with hp := { ρ0.hp with sup := ρ0.hp.sup.drop 1 } }
        match ρ.hp.sup.head? with
        | some .degrade => (ρ1.degrade ps, [])
        | some (.proposal src msg) => ρ1.proposalNow src msg
        | _ => (ρ1, [])
      else if h = 0x11 then
        let due (e : RodId × Nat × Desc × List Byte) : Bool :=
          (rankNeed e.2.2.1).testBit (rank - 1) && !(e.2.2.1.atFt && decide (ρ.ft < e.2.2.1.ft.toNat))
        match pickFwd due ρ.hp.fwd with
        | (some (src, q, d, bs), rest) => ({ ρ0 with hp := { ρ0.hp with fwd := rest } }).runForward ps src q d bs
        | (none, _) => (ρ0, [])
      else
        match (ρ0.qp h).cmds.find? fun c => c.run && c.need.testBit (rank - 1) with
        | none => (ρ0, [])
        | some c =>
          let cid := c.desc.cid.toNat
          let need := c.need - 2 ^ (rank - 1)
          let r := Rod.getRanks h cid (c.desc.opc == 0x0D#8) (ranksOf need)
            ((ρ0.takeRank rank h).modCmd h cid fun c => { c with need := need, ranks := c.ranks ||| 2 ^ (rank - 1) })
          match r.2 with
          | .go =>
            if c.desc.opc = 7#8 then (r.1, [])
            else match r.1.cmd h cid with
              | some c' => r.1.proceed ps h cid c' noVerdict
              | none => (r.1, [])
          | .wait => (r.1, [])
          | .refused k top => (r.1.rankRefused h cid k top, [])

/-- A rank held too long is released (R223). What depends on it are the commands that took it, and those of this rod that use it
through LOCK_ACQ; an admission or a withdrawal that has given the ledger lock back does not (R222). -/
def Rod.lockTimeout (ρ : Rod) (rank : Nat) : Rod :=
  let h := ρ.holder rank
  if h = 0xFF ∨ ρ.passed (Sparse.get 0 ρ.hp.since rank) (ρ.g Fl.RES_CFG_LOCK_TMO * 1000000) = false then ρ
  else
    let ρ1 := (((ρ.p (rankF rank) 0xFF).irq 0x021 1).flt 0x0522 sevWarn 0x021 [(0, 1, rank), (1, 1, h)])
    if 16 ≤ h then ρ1
    else
      let deps := (ρ.qp h).cmds.filter fun c =>
        c.run && (c.ranks.testBit (rank - 1) || (ρ.bitOf (Fl.QP_LOCKS_HELD h) (rank - 1) && c.desc.opc != 0x0D#8 &&
          ρ.target c.desc == ρ.me && (rankNeed c.desc).testBit (rank - 1) && !(c.due && rankNeed c.desc == 2)))
      (ρ1.clrBit (Fl.QP_LOCKS_HELD h) (rank - 1)).each deps fun c r => r.finish h c.desc.cid.toNat 0x0A 0

/-! ### Fabric (R215 to R219) -/

/-- The requesters of the urgent class as they request now (Table 6.7); `bulk` holds those whose request brings forwarded bulk
data, which is of the normal class (R207). -/
def Rod.urgentNow (ρ : Rod) (bulk i : Nat) : Bool :=
  if i < 16 then ρ.b (Fl.QP_CLASS_URGENT i) else decide (20 ≤ i ∧ i ≤ 23) && !bulk.testBit i

/-- The beats of a burst of a requester that asks for `beats`: at most 16, and at most BURST for a DMA channel (R216). -/
def Rod.burst (ρ : Rod) (i beats : Nat) : Nat :=
  min (max 1 beats) (if 16 ≤ i ∧ i < 20 then ρ.g (Fl.DMA_CTRL_BURST (i - 16)) else 16)

/-- The first pending requester after the last one granted. -/
def nextAfter (last pend : Nat) : Option Nat :=
  ((List.range 28).map fun k => (last + 1 + k) % 28).find? fun i => pend.testBit i

/-- A capture on a write channel moves up to `n` bytes out of its staging buffer; it completes once it takes no more samples and
the buffer is empty, with the number of records written (R361). (DESIGN CHOICE, log entry 53) -/
def Rod.captureDrain (ρ : Rod) (ch n : Nat) : Rod :=
  match (ρ.chan ch).head? with
  | none => ρ
  | some (q, cid) =>
    match ρ.cmd q cid with
    | none => ρ
    | some c =>
      if c.desc.opc ≠ 0x08#8 ∨ c.due = false then ρ
      else
        let bs := c.buf.take n
        let ρ1 := if bs.isEmpty then ρ else (ρ.toHost (c.desc.addr.toNat + c.asked) bs).moved ch bs.length
        let ρ2 := ρ1.modCmd q cid fun k => { k with buf := k.buf.drop n, asked := k.asked + bs.length }
        if c.ended && (c.buf.drop n).isEmpty then ρ2.finish q cid 0 c.done else ρ2

/-- A burst of a write channel moves 16 bytes a beat (R215, R216). -/
def Rod.burstMoves (ρ : Rod) : Rod :=
  match ρ.hp.grant with
  | some (i, k) => if i = 18 ∨ i = 19 then ρ.captureDrain (i - 16) (16 * k) else ρ
  | none => ρ

/-- The next grant, decided among the requests pending at the last beat of a burst, to a requester that asks for `beats`
(R215, R216, R219). (DESIGN CHOICE, log entry 50) -/
def Rod.fabricGrant (ρ : Rod) (requests bulk beats : Nat) : Rod :=
  let new := (List.range 28).filter fun i => requests.testBit i && !ρ.hp.pend.testBit i
  let urgent := ((List.range 28).filter fun i =>
    requests.testBit i && (if new.contains i then ρ.urgentNow bulk i else ρ.hp.urgent.testBit i)).foldl (fun m i => m + 2 ^ i) 0
  let normal := requests - (requests &&& urgent)
  match nextAfter ρ.hp.lastU urgent, nextAfter ρ.hp.lastN normal with
  | some i, _ =>
    { ρ with hp := { ρ.hp with pend := requests - 2 ^ i, urgent := urgent - 2 ^ i, lastU := i, grant := some (i, ρ.burst i beats) } }
  | none, some i =>
    { ρ with hp := { ρ.hp with pend := requests - 2 ^ i, urgent := urgent, lastN := i, grant := some (i, ρ.burst i beats) } }
  | none, none => { ρ with hp := { ρ.hp with pend := 0, urgent := 0, grant := none } }

/-- A request has waited too long (R218). -/
def Rod.starvation (ρ : Rod) (i : Nat) : Rod :=
  if ρ.bitOf Fl.STARVE_REQ i then ρ
  else
    let ρ1 := (ρ.setBit Fl.STARVE_REQ i).irq 0x021 0
    ρ1.flt 0x0520 sevWarn 0x021 [(0, 4, (ρ1.gw Rg.STARVE).toNat)]

/-- A partner's record that the rod relays (R191). -/
def Rod.relayIn (ρ : Rod) (r : FaultRec) : Rod :=
  if r.rod.toNat < 3 ∧ r.rod.toNat ≠ ρ.me.code ∧ ρ.bitOf Fl.FWD_CFG_RELAY r.rod.toNat = true then ρ.writeRec r false else ρ

/-- The link enters L0 (R227, Table 6.15): REF_OK comes with it unless PCI runs on its fall-back. (DESIGN CHOICE, log entry 50) -/
def Rod.linkUpIn (ρ : Rod) (speed : Nat) : Rod :=
  if speed = 0 ∨ ρ.b Fl.LINK_STAT_UP = true then ρ
  else
    let ρ1 := ((((ρ.p Fl.LINK_STAT_UP 1).p Fl.LINK_STAT_SPEED speed).inc Fl.LINK_STAT_UP_CNT).irq 0x021 3).flt 0x0502 sevInfo 0x021
      [(0, 1, speed)]
    let ρ2 := ρ1.when (decide (speed < 3)) (·.flt 0x0503 sevWarn 0x021 [(0, 1, speed)])
    let ρ3 := (ρ2.when (!ρ2.b Fl.CLK_SRC_PCI_LOCAL && !ρ2.b Fl.CLK_STAT_REF_OK) fun q => (q.p Fl.CLK_STAT_REF_OK 1).irq 0x002 3).clkRun
    { ρ3 with aon := { ρ3.aon with pewake := false } }

/-! ### Effects on the partners -/

/-- Frees or admits the entry of a handle that a rod admitted. -/
def Rod.sideEntry (ρ : Rod) (admitter : RodId) (handle : BitVec 16) (f : Nat → Rod → Rod) : Rod :=
  match ρ.ct.ledger.find? fun e => e.2.handle == handle && e.2.admitter == admitter with
  | some (i, _) => f i ρ
  | none => ρ

/-- A proposal that still waits for the ledger lock is cancelled with its admission. -/
def Rod.dropProposal (ρ : Rod) (admitter : RodId) (handle : BitVec 16) : Rod :=
  let gone (x : SupReq) : SupReq :=
    match x with
    | .proposal src msg => if src = admitter ∧ 256 * msg.gen + msg.index = handle.toNat then .idle else x
    | _ => x
  { ρ with hp := { ρ.hp with sup := ρ.hp.sup.map gone } }

/-- What one rod's command does to the others, `s` being the module before it. -/
def State.side (s : State) (r : RodId) (t : State) : Side → State
  | .wrote path a data => s.passRetry t r path a (data.setWidth 64)
  | .gone admitter handle =>
    ((s.rod r).me.partners.filter (s.rod r).live).foldl (fun t p =>
      t.putRod p ((((t.rod p).dropProposal admitter handle).sideEntry admitter handle fun i q => q.freeEntry i)).flush) t
  | .held admitter handle bound dst =>
    ((s.rod r).me.partners.filter (s.rod r).live).foldl (fun t p =>
      t.putRod p (((t.rod p).sideEntry admitter handle fun i q => q.activate i bound dst)).flush) t

/-- The next state in which a rod has run a command. (DEDUCED, log entry 48) -/
def onQueue (s : State) (r : RodId) (f : Rod → Rod × List Side) : Host.Outcome State Fault Refusal :=
  let x := f (s.rod r)
  .next (x.2.foldl (fun t e => s.side r t e) (s.putRod r x.1.flush))

/-- A row of Table 6.5: the command of that CID, if it has that opcode. (DEDUCED, log entry 48) -/
def onCmd (opc : Nat) (s : State) (r : RodId) (q : Fin 16) (cid : BitVec 16) (v : Verdict) : Host.Outcome State Fault Refusal :=
  onQueue s r fun ρ =>
    match ρ.cmd q.val cid.toNat with
    | some c => if c.desc.opc.toNat = opc then ρ.runCmd s.rod q.val cid.toNat v else (ρ, [])
    | none => (ρ, [])

/-! ### The commands -/

/-- DESCRIPTOR_FETCH (R194). -/
def execDescriptorFetch (r : RodId) (q : Fin 16) (bytes : List Byte) (s : State) : Host.Outcome State Fault Refusal :=
  onRod s r fun ρ => ρ.fetch q.val bytes

/-- AT_FT_COMMAND (R199). -/
def execAtFtCommand (r : RodId) (q : Fin 16) (cid : BitVec 16) (s : State) : Host.Outcome State Fault Refusal :=
  onQueue s r fun ρ => ρ.atFtCmd s.rod q.val cid.toNat

/-- COMPLETION_POST (R202). -/
def execCompletionPost (r : RodId) (q : Fin 16) (s : State) : Host.Outcome State Fault Refusal := onRod s r fun ρ => ρ.postHeld q.val

/-- NOP (R204). -/
def execNop (r : RodId) (q : Fin 16) (cid : BitVec 16) (s : State) : Host.Outcome State Fault Refusal := onCmd 0x00 s r q cid noVerdict

/-- SETPOINT (R247). -/
def execSetpoint (r : RodId) (q : Fin 16) (cid : BitVec 16) (s : State) : Host.Outcome State Fault Refusal :=
  onCmd 0x01 s r q cid noVerdict

/-- REG_WRITE (R201). -/
def execRegWrite (r : RodId) (q : Fin 16) (cid : BitVec 16) (s : State) : Host.Outcome State Fault Refusal :=
  onCmd 0x02 s r q cid noVerdict

/-- REG_READ (R204). -/
def execRegRead (r : RodId) (q : Fin 16) (cid : BitVec 16) (s : State) : Host.Outcome State Fault Refusal :=
  onCmd 0x03 s r q cid noVerdict

/-- MEM_WRITE (R201). -/
def execMemWrite (r : RodId) (q : Fin 16) (cid : BitVec 16) (s : State) : Host.Outcome State Fault Refusal :=
  onCmd 0x04 s r q cid noVerdict

/-- MEM_READ (R204). -/
def execMemRead (r : RodId) (q : Fin 16) (cid : BitVec 16) (s : State) : Host.Outcome State Fault Refusal :=
  onCmd 0x05 s r q cid noVerdict

/-- IMAGE_STAGE (R635). -/
def execImageStage (r : RodId) (q : Fin 16) (cid : BitVec 16) (s : State) : Host.Outcome State Fault Refusal :=
  onCmd 0x06 s r q cid noVerdict

/-- IMAGE_VERIFY (R615). -/
def execImageVerify (r : RodId) (q : Fin 16) (cid : BitVec 16) (verdict : Verdict) (s : State) :
    Host.Outcome State Fault Refusal := onCmd 0x07 s r q cid verdict

/-- CAPTURE (R360). -/
def execCapture (r : RodId) (q : Fin 16) (cid : BitVec 16) (s : State) : Host.Outcome State Fault Refusal :=
  onCmd 0x08 s r q cid noVerdict

/-- FAULT_EXPORT (R204). -/
def execFaultExport (r : RodId) (q : Fin 16) (cid : BitVec 16) (s : State) : Host.Outcome State Fault Refusal :=
  onCmd 0x09 s r q cid noVerdict

/-- CONTRACT_ADMIT (R237). -/
def execContractAdmit (r : RodId) (q : Fin 16) (cid : BitVec 16) (s : State) : Host.Outcome State Fault Refusal :=
  onCmd 0x0A s r q cid noVerdict

/-- CONTRACT_WITHDRAW (R254). -/
def execContractWithdraw (r : RodId) (q : Fin 16) (cid : BitVec 16) (s : State) : Host.Outcome State Fault Refusal :=
  onCmd 0x0B s r q cid noVerdict

/-- ATTEST (R626). -/
def execAttest (r : RodId) (q : Fin 16) (cid : BitVec 16) (s : State) : Host.Outcome State Fault Refusal :=
  onCmd 0x0C s r q cid noVerdict

/-- LOCK_ACQ (R222). -/
def execLockAcq (r : RodId) (q : Fin 16) (cid : BitVec 16) (s : State) : Host.Outcome State Fault Refusal :=
  onCmd 0x0D s r q cid noVerdict

/-- LOCK_REL (R222). -/
def execLockRel (r : RodId) (q : Fin 16) (cid : BitVec 16) (s : State) : Host.Outcome State Fault Refusal :=
  onCmd 0x0E s r q cid noVerdict

/-- REPORT_RING (R204). -/
def execReportRing (r : RodId) (q : Fin 16) (cid : BitVec 16) (s : State) : Host.Outcome State Fault Refusal :=
  onCmd 0x0F s r q cid noVerdict

/-- DMA_READ_COMPLETION (R211, R214). -/
def execDmaReadCompletion (r : RodId) (chan : Fin 2) (reply : ReadReply) (s : State) : Host.Outcome State Fault Refusal :=
  onRod s r fun ρ =>
    match reply with
    | .data addr bytes => ρ.dataIn chan.val addr.toNat bytes
    | .error addr type => if 1 ≤ type ∧ type ≤ 3 then ρ.dmaError chan.val addr.toNat type else ρ

/-- DMA_COMPLETION_TIMEOUT (R214). -/
def execDmaCompletionTimeout (r : RodId) (chan : HostRead) (s : State) : Host.Outcome State Fault Refusal :=
  onRod s r fun ρ => ρ.dmaError chan.chan.val chan.addr.toNat 4

/-- FORWARD_MESSAGE (R205). -/
def execForwardMessage (r src : RodId) (q : Fin 16) (desc : Desc) (bytes : List Byte) (s : State) :
    Host.Outcome State Fault Refusal := onQueue s r fun ρ => ρ.forwardIn s.rod src q.val desc bytes

/-- FORWARD_RESULT (R205). -/
def execForwardResult (r src : RodId) (q : Fin 16) (cid : BitVec 16) (status : Byte) (result : DWord) (bytes : List Byte)
    (s : State) : Host.Outcome State Fault Refusal :=
  onRod s r fun ρ => ρ.resultIn src q.val cid.toNat status.toNat result.toNat bytes

/-- FORWARD_TIMEOUT (R206). -/
def execForwardTimeout (r : RodId) (q : Fin 16) (cid : BitVec 16) (s : State) : Host.Outcome State Fault Refusal :=
  onRod s r fun ρ => ρ.forwardLate q.val cid.toNat

/-- FABRIC_GRANT (R216). -/
def execFabricGrant (r : RodId) (requests : FabricAsk) (s : State) : Host.Outcome State Fault Refusal :=
  onRod s r fun ρ => (ρ.fabricGrant requests.who.toNat requests.bulk.toNat requests.beats.val).burstMoves

/-- STARVATION (R218). -/
def execStarvation (r : RodId) (requester : Fin 28) (s : State) : Host.Outcome State Fault Refusal :=
  onRod s r fun ρ => ρ.starvation requester.val

/-- RANK_GRANT (R222). -/
def execRankGrant (r : RodId) (rank : Fin 4) (s : State) : Host.Outcome State Fault Refusal :=
  onQueue s r fun ρ => ρ.rankGrant s.rod (rank.val + 1)

/-- LOCK_TIMEOUT (R223). -/
def execLockTimeout (r : RodId) (rank : Fin 4) (s : State) : Host.Outcome State Fault Refusal :=
  onRod s r fun ρ => ρ.lockTimeout (rank.val + 1)

/-- RELAYED_RECORD (R191). -/
def execRelayedRecord (r : RodId) (record : FaultRec) (s : State) : Host.Outcome State Fault Refusal :=
  onRod s r fun ρ => ρ.relayIn record

/-- ADMIT_PROPOSAL (R237). -/
def execAdmitProposal (r src : RodId) (msg : AdmitProposal) (s : State) : Host.Outcome State Fault Refusal :=
  onQueue s r fun ρ => ρ.proposalIn src msg

/-- ADMIT_ANSWER (R237). -/
def execAdmitAnswer (r src : RodId) (msg : AdmitAnswer) (s : State) : Host.Outcome State Fault Refusal :=
  onQueue s r fun ρ => ρ.answerIn src msg

/-- ADMIT_PARTNER_TIMEOUT (R240). -/
def execAdmitPartnerTimeout (r : RodId) (index : Nat) (s : State) : Host.Outcome State Fault Refusal :=
  onQueue s r fun ρ => ρ.admitLate index

/-- PERST_N_ASSERT (R187). -/
def execPerstNAssert (r : RodId) (s : State) : Host.Outcome State Fault Refusal := onRod s r fun ρ => ρ.endpointDown 1

/-- LINK_LOSS (R187). -/
def execLinkLoss (r : RodId) (s : State) : Host.Outcome State Fault Refusal := onRod s r fun ρ => ρ.endpointDown 2

/-- HOT_RESET (R187). -/
def execHotReset (r : RodId) (s : State) : Host.Outcome State Fault Refusal := onRod s r fun ρ => ρ.endpointDown 3

/-- FLR (R187). -/
def execFlr (r : RodId) (s : State) : Host.Outcome State Fault Refusal := onRod s r fun ρ => ρ.endpointDown 4

/-- LINK_UP (R227). -/
def execLinkUp (r : RodId) (speed : Fin 4) (s : State) : Host.Outcome State Fault Refusal := onRod s r fun ρ => ρ.linkUpIn speed.val

/-- D3HOT_ENTRY (R189). -/
def execD3hotEntry (r : RodId) (s : State) : Host.Outcome State Fault Refusal :=
  onRod s r fun ρ => { ρ with hp := { ρ.hp with d3 := true } }

/-- D0_RETURN (R189). -/
def execD0Return (r : RodId) (s : State) : Host.Outcome State Fault Refusal :=
  onRod s r fun ρ => { ρ with hp := { ρ.hp with d3 := false } }

end Sys2Proof.Machine
end

