-- ==== Sys2Proof/Machine/Tick.lean ====
section
/-! DEFINITION. The tick: the sampling instant (R23, R126 to R133) and what begins at it in every block, the ADC words, the
triggers and the limits of the blocks, the dq frames and their receive window, the duty latch, and the records of the flash. -/

namespace Sys2Proof.Machine

/-! ### Torque copies and injections at cycle 0 -/

/-- The value of an injection at its target (Table 10.7), after INJ_VAL has been formed: POS is added to input 0, which the safety
monitor limits before it is written (R349); a sum outside the format is a free value. (DESIGN CHOICE, log entry 20) -/
def Rod.injPos (ρ : Rod) (n : Axis) (v : Int) : Rod :=
  match ρ.rk.inj.get n with
  | none => ρ
  | some i =>
    if i.tgt ≠ 1 ∨ i.off = true then ρ
    else
      let s := (ρ.rk.posRaw.get n).toInt + v
      let (w, q) : Word × Rod := if s = satW s then (wOfInt s, ρ) else
        ((BitVec.ofNat 32 (ρ.free 32).1), (ρ.free 32).2)
      q.sp (inputW n.val 0) (q.limitInput n 0 w)

/-- ID is added to ID_REF of the copy in force. (DESIGN CHOICE, log entry 20) -/
def Rod.injId (ρ : Rod) (n : Axis) (v : Int) : Rod :=
  match ρ.rk.inj.get n with
  | none => ρ
  | some i =>
    if i.tgt ≠ 3 ∨ i.off = true then ρ
    else
      let s := (ρ.rk.idBase.get n).toInt + v
      let (w, q) : Word × Rod := if s = satW s then (wOfInt s, ρ) else
        ((BitVec.ofNat 32 (ρ.free 32).1), (ρ.free 32).2)
      q.sp (torqueW n.val 4) w

/-- At the first tick of an outer cycle, or at the first tick of a switch-over, the pending copy becomes the copy in force
(R289, R493); answers whether it did. The references of a pump axis outside RUN are the sequencer's (Table 11.2). -/
def Rod.applyCopy (ρ : Rod) (n : Axis) : Rod × Bool :=
  if ρ.rk.ready.get n && (ρ.outerTick n || (ρ.rk.swCopy.get n).isSome) then
    let pend := ρ.rk.pend.get n
    let own := ρ.isPump n && ρ.pumpPhase n != PP.run
    let ws := if own then copyWords.drop 2 else copyWords
    let ρ1 := ρ.each ws fun w q => q.sp (torqueW n.val w) (Sparse.get (ρ.sg (torqueW n.val w)) pend w)
    ({ ρ1 with rk := { ρ1.rk with
        ready := ρ1.rk.ready.set n false
        swCopy := ρ1.rk.swCopy.set n none
        idBase := if own then ρ1.rk.idBase else ρ1.rk.idBase.set n (Sparse.get (ρ.rk.idBase.get n) pend 4) } }, true)
  else (ρ, false)

/-- Cycle 0 of a tick for one axis: the copy in force, a pump phase change, the injection into the references, and the share unit
where a new copy or a changed mask calls for it (R345, R354, R376). `old` is the healthy mask before, `v` the injection value. -/
def Rod.axisCycle0 (ρ : Rod) (n : Axis) (old : Nat) (v : Int) : Rod :=
  let (ρ1, copied) := ρ.applyCopy n
  let (ρ2, phase) := ρ1.pumpCycle0 n
  let mask := ρ2.healthyMask n
  let ρ3 := ρ2.when (mask != old && ρ2.isPump n && ρ2.pumpPhase n != PP.run) (·.pumpRefs n)
  let ρ4 := ρ3.injId n v
  let iq := match ρ4.rk.inj.get n with
    | some i => i.tgt == 2 && !i.off
    | none => false
  let ρ5 := if copied || phase || mask != old || iq then ρ4.shareUnit n (if iq then v else 0) else ρ4
  let ρ6 := ρ5.each allRods fun r q => q.setRecord n old mask r
  ρ6.sp (0x0034 + n.val) (ρ6.axstat n)

/-! ### Captures -/

/-- One sample of a running capture (R360, R361): at its first tick and at every DEC-th tick after it, into the staging buffer of
4 KiB. A record that finds no room ends the capture; the event goes to the page of every axis. (DESIGN CHOICE, log entry 53) -/
def Rod.captureSample (ρ : Rod) (ch q cid : Nat) : Rod :=
  match ρ.cmd q cid with
  | none => ρ
  | some c =>
    let d := c.desc
    let early := c.done == 0 && d.atFt && decide (ρ.ft < d.ft.toNat)
    let turn := c.done == 0 || (ρ.tick + 2 ^ 32 - c.from_) % 2 ^ 32 % max 1 (capDec d) == 0
    if d.opc ≠ 0x08#8 ∨ c.due = false ∨ c.ended = true ∨ early = true ∨ turn = false then ρ
    else
      let ws := BitVec.ofNat 32 ρ.tick :: ((capWords d).take (capN d)).map ρ.sg
      let bs := wordBytes ws
      if 4096 < c.buf.length + bs.length then
        (((ρ.modCmd q cid fun k => { k with ended := true }).flt 0x0920 sevWarn 0x070 [(0, 1, q), (2, 2, cid), (4, 4, c.done)]).each
          allAxes fun n w => w.irq (axisPage n) 4).captureDrain ch 0
      else
        ρ.modCmd q cid fun k =>
          { k with from_ := if k.done = 0 then ρ.tick else k.from_, done := k.done + 1, buf := k.buf ++ bs
                   ended := decide (k.done + 1 = capSamples d) }

/-- The captures that hold a write channel. (DESIGN CHOICE, log entry 53) -/
def Rod.captureTick (ρ : Rod) : Rod :=
  ρ.each [2, 3] fun ch q =>
    match (q.chan ch).head? with
    | none => q
    | some (k, cid) => q.captureSample ch k cid

/-! ### The sampling instant -/

/-- A new tick (R268): the FT of its sampling instant (TICK_FT), its number, what the tick before it has left (R134), and what is
counted and collected within one tick begins again (R269, R273, R284, R288). (DESIGN CHOICE, log entry 17) -/
def Rod.newTick (ρ : Rod) : Rod :=
  let was := 2 * (ρ.g Fl.TICK_FT_LO_FT + 2 ^ 32 * ρ.g Fl.TICK_FT_HI_FT)
  let ρ0 := (({ ρ with pwm := { ρ.pwm with prev := max was ρ.pwm.prev } }).p Fl.TICK_FT_LO_FT (ρ.ft % 2 ^ 32)).p
    Fl.TICK_FT_HI_FT (ρ.ft / 2 ^ 32)
  let ρ1 := (ρ0.when (!ρ0.runsBlocks) (·.dropBlocks)).p Fl.RK_TICK_TICK (25 * ρ.ftn / ρ.tickNow % 2 ^ 32)
  let ρ2 := ρ1.each allAxes fun n q => if q.rk.ovr.get n then q else q.p ⟨0x060, 0x7C, 8 * n.val, 8⟩ 0
  { ρ2 with rk := { ρ2.rk with fin := if ρ.tickDone then ρ.rk.sig else ρ.rk.fin, cyc0 := 4 * ρ.ck.up, fired := [], wlog := [],
                               dqSent := false, dqOpen := true, hid := Tri.rep none, ovr := Tri.rep false } }

/-- The injection values of a tick (R354): inputs 0 and 15 are written with the launches; the values are answered. -/
def Rod.injInputs (ρ : Rod) : Rod × Tri Int :=
  let step (acc : Rod × Tri Int) (n : Axis) : Rod × Tri Int :=
    let (v, q) := acc.1.injTick n
    (q.injPos n v, acc.2.set n v)
  allAxes.foldl step (ρ, Tri.rep 0)

/-- The words of the sample area that cycle 0 writes (Table 8.3). (DEDUCED, log entry 54) -/
def Rod.sampleWords (ρ : Rod) : Rod :=
  let t := ρ.ft
  ((ρ.sp 0x0030 (BitVec.ofNat 32 t)).sp 0x0031 (BitVec.ofNat 32 (t / 2 ^ 32))).sp 0x0032 (BitVec.ofNat 32 ρ.tick)

/-- The sample-area words that cycle 0 has written count as written in that cycle (R284, Table 8.3); `old` is the rod before it. -/
def Rod.logCycle0 (ρ old : Rod) : Rod :=
  let ws := ((List.range 40).map (· + 0x18)).filter fun w => ρ.sg w != old.sg w
  { ρ with rk := { ρ.rk with wlog := ρ.rk.wlog ++ ws.map fun w => (w, ρ.rk.cyc0, 4, old.sg w) } }

/-- The sampling instant at `ft` (R23, R126): banks and commits, then launches (R132), the words that trace and captures take as
they stand (R300), then the work of cycle 0. (DESIGN CHOICE, log entry 17) (DEDUCED, log entry 18) -/
def Rod.samplingInstant (ρ : Rod) (ps : RodId → Rod) (ft : Nat) : Rod :=
  let ρ0 := ρ.atFt ft
  if ρ.ticksRun = false ∨ ρ0.atInstant = false then ρ
  else
    let old : Tri Nat := ⟨ρ0.g (Fl.AX_SHARE_HEALTHY 0), ρ0.g (Fl.AX_SHARE_HEALTHY 1), ρ0.g (Fl.AX_SHARE_HEALTHY 2)⟩
    let ρ1 := (((((ρ0.newTick.when ρ0.atValley (·.valleyLoad)).swapBanks).tickCommits.boundary).ctReview ps).launches ps).shareTick
    let (ρ2, v) := ρ1.takeSetOn.injInputs
    let ρ3 := (ρ2.traceRecord).captureTick
    let ρ4 := (ρ3.sampleWords).each allAxes fun n q => ((((q.fbSample n).outerCheck n).tandemYield n).tandemTick n)
    let ρ5 := (((ρ4.plannedSwitch).updateTick ps).rejoinDone)
    let ρ6 := ρ5.each allAxes fun n q => q.axisCycle0 n (old.get n) (v.get n)
    (((((ρ6.logCycle0 ρ3).sfTick ps).stillTick ps).reviewMode).voteUpdate).updEn

/-- The ADC words of the tick (R282, Table 8.3), and what follows from them: the supply and the temperature of the drive die, the
observer and the decisions of a pump axis (R365, R368). (DEDUCED, log entry 54) -/
def Rod.adcConversion (ρ : Rod) (w : AdcWords) : Rod :=
  if ρ.ticksRun then
    let z (c : BitVec 16) : Word := c.setWidth 32
    let ρ1 := ρ.each allAxes fun n q => q.each allPhases fun p r =>
      let code := r.currentCode n ((w.cur.get n).get p)
      ((r.sp (3 * n.val + p.val) (BitVec.ofNat 32 code)).sp (0x0009 + 3 * n.val + p.val) (z ((w.volt.get n).get p))).putHalf n p
        { r.half n p with cur := code }
    let ρ2 := ((ρ1.sp 0x0012 (z w.vm)).sp 0x0013 (z w.vgd)).sp 0x0014 (z w.temp)
    (ρ2.senseDie w.vgd.toNat w.temp.toNat).each allAxes fun n q => q.pumpTick n
  else ρ

/-- The overrun count of an axis reaches POLICY_n.OVR_LIM (R273). -/
def Rod.overrunOff (ρ : Rod) (n : Axis) : Rod :=
  let lim := ρ.g (Fl.POLICY_OVR_LIM n.val)
  if ρ.rk.setOn.get n && decide (0 < lim) && decide (lim ≤ ρ.g ⟨0x060, 0x7C, 8 * n.val, 8⟩) then ρ.setGoesOff n 1 else ρ

/-! ### dq frames -/

/-- The CRC count of the link over which a partner's frames come: its own, or that of the relay (Table 14.8, R481). -/
def Rod.crcF (ρ : Rod) (src : RodId) : Fld :=
  if linkNo ρ.me (if ρ.linkUp src then src else ρ.me.third src) = 0 then Fl.CR_CNT_CRC_1 else Fl.CR_CNT_CRC_2

/-- A dq frame of a partner (R25, R288, R478, R485): taken into the hidden copy only with the current tick number, within the
window. A frame with a CRC error is only counted. (DEDUCED, log entry 38) -/
def Rod.dqReceive (ρ : Rod) (src : RodId) (f : DqFrame) : Rod :=
  if src = ρ.me then ρ
  else if f.crcOk = false then ρ.inc (ρ.crcF src)
  else
    let ρ1 := ρ.seeEpoch src f.epoch
    if ρ1.rk.dqOpen && f.tick.toNat == ρ1.tick then { ρ1 with rk := { ρ1.rk with hid := ρ1.rk.hid.set src.idx (some f) } } else ρ1

/-- FLAGS of a partner's slot (Table 8.4). (DEDUCED, log entry 21) -/
def flagsWord (fresh : Nat) (stale : Bool) (missing : Nat) : Word := BitVec.ofNat 32 (fresh + 2 ^ 4 * b2n stale + 2 ^ 8 * missing)

/-- The slot of one partner as the window closes (R25, R26, R288). (DEDUCED, log entry 21) -/
def Rod.slotSwap (ρ : Rod) (p : RodId) : Rod :=
  match ρ.rk.hid.get p.idx with
  | some f =>
    let ρ1 := ρ.each ((f.words.take 32).zip (List.range 32)) fun w q => q.sp (slotW p w.2) w.1
    let ρ2 := (ρ1.sp (slotW p 15) (flagsWord f.fresh.toNat false 0)).modRed fun d =>
      { d with missing := d.missing.set p.idx 0, dqHeard := d.dqHeard.set p.idx true, pflag := d.pflag.set p.idx f.resid.toNat }
    { ρ2 with rk := { ρ2.rk with dqOut := ρ2.rk.dqOut.set p.idx false } }
  | none =>
    let k := min 15 (ρ.red.missing.get p.idx + 1)
    ((ρ.sp (slotW p 15) (flagsWord 0 true k)).setBit Fl.CR_STAT_STALE_DQ p.code).modRed fun d => { d with missing := d.missing.set p.idx k }

/-- The receive window closes 2.4 µs after the sampling instant (R25, R288); the residual unit evaluates (R483), and the flags of
the frames are judged (R485). (DEDUCED, log entry 21) -/
def Rod.windowClose (ρ : Rod) : Rod :=
  if ρ.ticksRun && ρ.rk.dqOpen then
    let ρ1 := { ρ with rk := { ρ.rk with dqOpen := false } }.each ρ.me.partners fun p q => q.slotSwap p
    let ρ2 := if RS.serving ρ1.state then
        (ρ1.each allAxes fun n q => q.resEval n).each allAxes fun n q => q.resJudge n
      else ρ1
    ρ2.modRed fun d => { d with slots := ⟨ρ2.slotWords .x, ρ2.slotWords .y, ρ2.slotWords .z⟩ }
  else ρ

/-! ### The duty latch -/

/-- Whether the PWM unit uses the duty words of an axis (R374). (DEDUCED, log entry 40) -/
def Rod.dutyUsed (ρ : Rod) (n : Axis) : Bool := !ρ.isPump n || !(highZPhase (ρ.pumpPhase n) || ρ.pumpPhase n == PP.brake)

/-- Whether a duty word gives full duty (R433). (DEDUCED, log entries 40, 41) -/
def Rod.fullDuty (ρ : Rod) (n : Axis) (d : Nat) : Bool := ρ.dutyMax n == 0x10000 && decide (0xFF0000 ≤ d)

/-- Whether an unwritten duty word of an axis is an overrun (R272). -/
def Rod.dutyDue (ρ : Rod) (n : Axis) : Bool :=
  ρ.runsBlocks && ρ.connected ρ.me n && ρ.rk.setOn.get n && ρ.dutyUsed n &&
  (List.range 4).any fun c => (List.range 8).any fun t =>
    ρ.g (Fl.TRIG_CFG_SRC c t) != 0 && ρ.g (Fl.TRIG_CFG_AXIS c t) == n.val

/-- An overrun for an unwritten duty word: record 0x0810 with cause 2. The spec gives the record no column and trigger there: free
values. (DESIGN CHOICE, log entry 14) -/
def Rod.dutyMissed (ρ : Rod) (n : Axis) (p : Phase) : Rod :=
  let (w, ρ1) := ρ.free 16
  (ρ1.fltAP 0x0810 sevWarn 0x060 n.val p.val [(0, 1, w % 256), (1, 1, w / 256), (2, 1, n.val), (3, 1, 2),
                                               (4, 4, ρ.tick)]).countOverrun n.val

/-- The latch of one half-bridge (R27, R28, R272, R374, R434). A word written in the cycle of the latch (`late`) counts as written
and takes effect at the next latch, unless another word follows it. A PWM period counts as full when both its halves have full
duty; with double update the latch at a valley ends no half of it alone. (DEDUCED, log entry 40) -/
def Rod.latchHalf (ρ : Rod) (n : Axis) (p : Phase) (late : Bool) : Rod :=
  let h := ρ.half n p
  let kept := h.late.getD h.duty
  let new := if ρ.dutyUsed n then (if late then kept else h.written.getD kept) else if ρ.pumpPhase n = PP.brake then 0 else h.duty
  let valley := ρ.dblNow && ρ.tick % 2 == 1
  let full := if valley then h.full else if ρ.fullDuty n h.duty && ρ.fullDuty n new then h.full + 1 else 0
  let ρ1 := ρ.putHalf n p { h with duty := new, written := none, late := if late then h.written else none, full := full }
  if h.written.isNone && ρ.dutyDue n then ρ1.dutyMissed n p else ρ1

/-- The PWM unit latches the duties at the half-period boundary (R27), with DUTY_MAX and REFRESH_N (R436); no latch lies in the
stretched tick (R435). -/
def Rod.dutyLatch (ρ : Rod) (late : Tri (BitVec 3)) : Rod :=
  if ρ.ticksRun && !ρ.stretched then
    let ρ1 := { ρ with pwm := { ρ.pwm with duty := ⟨ρ.gw (Rg.DRV_DUTY 0), ρ.gw (Rg.DRV_DUTY 1), ρ.gw (Rg.DRV_DUTY 2)⟩ } }
    ρ1.eachHalf fun n p q => q.latchHalf n p ((late.get n).getLsbD p.val)
  else ρ

/-- A refresh at the valley that ends the REFRESH_N-th full-duty period (R434): the count starts again, and DRV_CNT.REFRESH counts
it (Table 13.9). (DEDUCED, log entry 41) -/
def Rod.refreshPulse (ρ : Rod) (n : Axis) (p : Phase) : Rod :=
  let h := ρ.half n p
  if decide (0 < h.full) && decide (ρ.refreshN n ≤ h.full) then (ρ.inc (Fl.DRV_CNT_REFRESH n.val)).putHalf n p { h with full := 0 }
  else ρ

/-! ### Flash and diagnostics -/

/-- The oldest record that waits for the flash copy is appended (R39). -/
def Rod.flashAppend (ρ : Rod) : Rod :=
  match ρ.flPend with
  | [] => ρ
  | r :: rs => { ρ with flPend := rs }.toFlash [r]

/-- An hour in which the rod was powered outside DORMANT (R72). (DEDUCED, log entry 52) -/
def Rod.operatingHour (ρ : Rod) : Rod :=
  if ρ.state ≠ RS.off ∧ ρ.aon.coreOff = false then ρ.inc Fl.ID_OPH_HOURS else ρ

/-- An error corrected in the supervisor SRAM, or bit errors corrected in a flash read: the count advances, unless it stands at its
top, with the ECC event (R73, R77). -/
def Rod.eccCorrected (ρ : Rod) (flash : Bool) : Rod :=
  let f := if flash then Fl.DIAG_ECC_FLASH else Fl.DIAG_ECC_SRAM
  if ρ.g f = 0xFFFF then ρ else (ρ.inc f).irq 0x0D0 2

/-! ### The commands -/

/-- FLASH_RECORD_APPEND (R39). -/
def execFlashRecordAppend (r : RodId) (s : State) : Host.Outcome State Fault Refusal := onRod s r fun ρ => ρ.flashAppend

/-- OPERATING_HOUR (R72). -/
def execOperatingHour (r : RodId) (s : State) : Host.Outcome State Fault Refusal := onRod s r fun ρ => ρ.operatingHour

/-- SAMPLING_INSTANT (R23). -/
def execSamplingInstant (r : RodId) (ft : DWord) (s : State) : Host.Outcome State Fault Refusal :=
  onRodA s r fun ps ρ => ρ.samplingInstant ps ft.toNat

/-- ADC_CONVERSION (R282). -/
def execAdcConversion (r : RodId) (words : AdcWords) (s : State) : Host.Outcome State Fault Refusal :=
  onRod s r fun ρ => ρ.adcConversion words

/-- TRIGGER_FIRE (R269). -/
def execTriggerFire (r : RodId) (col : Fin 4) (trig : Fin 8) (s : State) : Host.Outcome State Fault Refusal :=
  onRod s r fun ρ => ρ.triggerFire col trig

/-- BLOCK_LIMIT (R271). -/
def execBlockLimit (r : RodId) (col : Fin 4) (s : State) : Host.Outcome State Fault Refusal := onRod s r fun ρ => ρ.blockLimit col

/-- SET_OFF (R273). -/
def execSetOff (r : RodId) (axis : Axis) (s : State) : Host.Outcome State Fault Refusal := onRod s r fun ρ => ρ.overrunOff axis

/-- DQ_FRAME_SEND (R287). -/
def execDqFrameSend (r : RodId) (s : State) : Host.Outcome State Fault Refusal := onRod s r fun ρ => ρ.dqFrameSend ρ.resMask

/-- DQ_SEND_DEADLINE (R287). -/
def execDqSendDeadline (r : RodId) (s : State) : Host.Outcome State Fault Refusal := onRod s r fun ρ => ρ.dqSendDeadline ρ.resMask

/-- DQ_FRAME_RECEIVE (R25). -/
def execDqFrameReceive (r src : RodId) (frame : DqFrame) (s : State) : Host.Outcome State Fault Refusal :=
  onRodV s r fun _ ρ => ρ.dqReceive src frame

/-- RECEIVE_WINDOW_CLOSE (R288). -/
def execReceiveWindowClose (r : RodId) (s : State) : Host.Outcome State Fault Refusal := onRodV s r fun _ ρ => ρ.windowClose

/-- DUTY_LATCH (R27). -/
def execDutyLatch (r : LatchAt) (s : State) : Host.Outcome State Fault Refusal :=
  onRod s r.rod fun ρ => ρ.dutyLatch r.late

/-- REFRESH_PULSE (R434). -/
def execRefreshPulse (r : RodId) (axis : Axis) (phase : Phase) (s : State) : Host.Outcome State Fault Refusal :=
  onRod s r fun ρ => ρ.refreshPulse axis phase

/-- INJECTION_DONE (R357). -/
def execInjectionDone (r : RodId) (axis : Axis) (s : State) : Host.Outcome State Fault Refusal := onRod s r fun ρ => ρ.injDone axis

/-- CORRECTED_MEMORY_ERROR (R77). -/
def execCorrectedMemoryError (r : EccAt) (s : State) : Host.Outcome State Fault Refusal :=
  onRod s r.rod fun ρ => ρ.eccCorrected r.flash

end Sys2Proof.Machine
end

