-- ==== Sys2Proof/Machine/Debug.lean ====
section
/-! DEFINITION. The IEEE 1149.1 port of a rod (R660): which instructions act, and what they shift out. The spec gives neither the device
code nor the boundary register: both are open. -/

namespace Sys2Proof.Machine

/-- A rod whose pages are off executes nothing. -/
def Rod.debugOn (ρ : Rod) : Bool := ρ.state != RS.off

/-- BYPASS: the one-bit bypass register, which loads 0. (PRESUMED, log entry 10) -/
def Rod.bypass (ρ : Rod) : Rod := ρ.when ρ.debugOn (·.send (.tdo 1 0))

/-- IDCODE: the 32-bit device code. (PRESUMED, log entry 10) -/
def Rod.idcode (ρ : Rod) : Rod := ρ.when ρ.debugOn (·.send (.tdo 32 (Config.idcode ρ.me).toNat))

/-- SAMPLE/PRELOAD: the states of the balls at the instant, which no rule gives the rod: a free value. (PRESUMED, log entry 10) -/
def Rod.scanOut (ρ : Rod) : Rod :=
  ρ.when ρ.debugOn fun q => (q.free 64).2.send (.tdo Config.scanBits (q.free 64).1)

/-- EXTEST drives balls only at L2 in STANDBY (R660), and otherwise acts as BYPASS. -/
def Rod.extest (ρ : Rod) : Rod :=
  if ρ.g Fl.SEC_STAT_LEVEL = 2 ∧ ρ.mode = SM.standby then ρ.scanOut else ρ.bypass

/-- BYPASS (R660). -/
def execBypass (r : RodId) (s : State) : Host.Outcome State Fault Refusal := onRod s r fun ρ => ρ.bypass

/-- IDCODE (R660). -/
def execIdcode (r : RodId) (s : State) : Host.Outcome State Fault Refusal := onRod s r fun ρ => ρ.idcode

/-- SAMPLE/PRELOAD (R660). -/
def execSamplePreload (r : RodId) (s : State) : Host.Outcome State Fault Refusal := onRod s r fun ρ => ρ.scanOut

/-- EXTEST (R660). -/
def execExtest (r : RodId) (s : State) : Host.Outcome State Fault Refusal := onRod s r fun ρ => ρ.extest

end Sys2Proof.Machine
end

