-- ==== Sys2Proof/Machine/Dispatch.lean ====
section
/-! DEFINITION. One arm per command of spec/opcode_table.json, each a direct call of its meaning. -/

namespace Sys2Proof.Machine

def exec (i : Instr) (s : State) : Host.Outcome State Fault Refusal :=
  match i with
  | .registerWrite r path addr bytes data => Sys2Proof.Machine.execRegisterWrite r path addr bytes data s
  | .pairLoRead r addr => Sys2Proof.Machine.execPairLoRead r addr s
  | .pairHiWrite r path addr data => Sys2Proof.Machine.execPairHiWrite r path addr data s
  | .rcRead r addr events => Sys2Proof.Machine.execRcRead r addr events s
  | .w1cWrite r path addr data events => Sys2Proof.Machine.execW1cWrite r path addr data events s
  | .irqForce r path page data => Sys2Proof.Machine.execIrqForce r path page data s
  | .stgCommit r path page data => Sys2Proof.Machine.execStgCommit r path page data s
  | .stgOpen r path page data => Sys2Proof.Machine.execStgOpen r path page data s
  | .stgMode r path page data => Sys2Proof.Machine.execStgMode r path page data s
  | .stgFtArm r path page data => Sys2Proof.Machine.execStgFtArm r path page data s
  | .mismatchClear r path page => Sys2Proof.Machine.execMismatchClear r path page s
  | .stagedCommit r page => Sys2Proof.Machine.execStagedCommit r page s
  | .atFtCommit r page => Sys2Proof.Machine.execAtFtCommit r page s
  | .noTickCommit r page => Sys2Proof.Machine.execNoTickCommit r page s
  | .pageLockRequest r path page => Sys2Proof.Machine.execPageLockRequest r path page s
  | .pageLockRelease r path page => Sys2Proof.Machine.execPageLockRelease r path page s
  | .errcapClear r path page => Sys2Proof.Machine.execErrcapClear r path page s
  | .flAck r path data => Sys2Proof.Machine.execFlAck r path data s
  | .flashRecordAppend r => Sys2Proof.Machine.execFlashRecordAppend r s
  | .operatingHour r => Sys2Proof.Machine.execOperatingHour r s
  | .samplingInstant r ft => Sys2Proof.Machine.execSamplingInstant r ft s
  | .adcConversion r words => Sys2Proof.Machine.execAdcConversion r words s
  | .triggerFire r col trig => Sys2Proof.Machine.execTriggerFire r col trig s
  | .blockLimit r col => Sys2Proof.Machine.execBlockLimit r col s
  | .setOff r axis => Sys2Proof.Machine.execSetOff r axis s
  | .dqFrameSend r => Sys2Proof.Machine.execDqFrameSend r s
  | .dqSendDeadline r => Sys2Proof.Machine.execDqSendDeadline r s
  | .dqFrameReceive r src frame => Sys2Proof.Machine.execDqFrameReceive r src frame s
  | .receiveWindowClose r => Sys2Proof.Machine.execReceiveWindowClose r s
  | .residualWindowEnd r axis => Sys2Proof.Machine.execResidualWindowEnd r axis s
  | .dqSilent r src => Sys2Proof.Machine.execDqSilent r src s
  | .dutyLatch r => Sys2Proof.Machine.execDutyLatch r s
  | .refreshPulse r axis phase => Sys2Proof.Machine.execRefreshPulse r axis phase s
  | .injectionDone r axis => Sys2Proof.Machine.execInjectionDone r axis s
  | .injStop r path axis => Sys2Proof.Machine.execInjStop r path axis s
  | .sfReport r axis fn => Sys2Proof.Machine.execSfReport r axis fn s
  | .sfReportMessage r src msg => Sys2Proof.Machine.execSfReportMessage r src msg s
  | .sfUnconfirmed r axis fn reporter => Sys2Proof.Machine.execSfUnconfirmed r axis fn reporter s
  | .vehSpeedStale r => Sys2Proof.Machine.execVehSpeedStale r s
  | .setStateMessage r src msg => Sys2Proof.Machine.execSetStateMessage r src msg s
  | .torqueCopyReceive r src msg => Sys2Proof.Machine.execTorqueCopyReceive r src msg s
  | .stateCopyReceive r src msg => Sys2Proof.Machine.execStateCopyReceive r src msg s
  | .copyMissedNotice r src axis => Sys2Proof.Machine.execCopyMissedNotice r src axis s
  | .judgementMessage r src msg => Sys2Proof.Machine.execJudgementMessage r src msg s
  | .withdrawalNotice r src tick => Sys2Proof.Machine.execWithdrawalNotice r src tick s
  | .removal r target => Sys2Proof.Machine.execRemoval r target s
  | .removalOrder r src => Sys2Proof.Machine.execRemovalOrder r src s
  | .modeRequest r path data => Sys2Proof.Machine.execModeRequest r path data s
  | .modeRequestTimeout r => Sys2Proof.Machine.execModeRequestTimeout r s
  | .modeProposal r src mode => Sys2Proof.Machine.execModeProposal r src mode s
  | .modeChange r => Sys2Proof.Machine.execModeChange r s
  | .armRelease r path data => Sys2Proof.Machine.execArmRelease r path data s
  | .standstillReached r axis => Sys2Proof.Machine.execStandstillReached r axis s
  | .auxContact r closed => Sys2Proof.Machine.execAuxContact r closed s
  | .kauxTimeout r => Sys2Proof.Machine.execKauxTimeout r s
  | .osdStepEnd r nodes vm => Sys2Proof.Machine.execOsdStepEnd r nodes vm s
  | .prechargeEnd r low => Sys2Proof.Machine.execPrechargeEnd r low s
  | .syncTimeout r => Sys2Proof.Machine.execSyncTimeout r s
  | .bootComparatorTest r failed => Sys2Proof.Machine.execBootComparatorTest r failed s
  | .bootFirmwareVerify r verdict => Sys2Proof.Machine.execBootFirmwareVerify r verdict s
  | .bootImageVerify r law safety certs selfTest => Sys2Proof.Machine.execBootImageVerify r law safety certs selfTest s
  | .timeBaseFrame r frame => Sys2Proof.Machine.execTimeBaseFrame r frame s
  | .timeCapture r ft pos => Sys2Proof.Machine.execTimeCapture r ft pos s
  | .timeFrame r src msg => Sys2Proof.Machine.execTimeFrame r src msg s
  | .captureWindowClose r => Sys2Proof.Machine.execCaptureWindowClose r s
  | .lockAcquired r => Sys2Proof.Machine.execLockAcquired r s
  | .lockedClear r => Sys2Proof.Machine.execLockedClear r s
  | .srcExcluded r cluster => Sys2Proof.Machine.execSrcExcluded r cluster s
  | .srcReadmitted r cluster => Sys2Proof.Machine.execSrcReadmitted r cluster s
  | .holdExpired r => Sys2Proof.Machine.execHoldExpired r s
  | .xmodReturn r => Sys2Proof.Machine.execXmodReturn r s
  | .take r path => Sys2Proof.Machine.execTake r path s
  | .wakeup r path key => Sys2Proof.Machine.execWakeup r path key s
  | .mtsA r path key => Sys2Proof.Machine.execMtsA r path key s
  | .mtsB r path key => Sys2Proof.Machine.execMtsB r path key s
  | .frHalt r path key => Sys2Proof.Machine.execFrHalt r path key s
  | .restart r path key => Sys2Proof.Machine.execRestart r path key s
  | .wudop r path key => Sys2Proof.Machine.execWudop r path key s
  | .frFrameReceive r frame => Sys2Proof.Machine.execFrFrameReceive r frame s
  | .cycleStart r cycle => Sys2Proof.Machine.execCycleStart r cycle s
  | .mbReady r path buf => Sys2Proof.Machine.execMbReady r path buf s
  | .mbHold r path buf hold => Sys2Proof.Machine.execMbHold r path buf hold s
  | .coldstartAttempt r => Sys2Proof.Machine.execColdstartAttempt r s
  | .coldExhausted r => Sys2Proof.Machine.execColdExhausted r s
  | .clockCorrection r rate offset pairs nodes => Sys2Proof.Machine.execClockCorrection r rate offset pairs nodes s
  | .channelSilent r chan => Sys2Proof.Machine.execChannelSilent r chan s
  | .clusterLost r cause => Sys2Proof.Machine.execClusterLost r cause s
  | .clusterBack r => Sys2Proof.Machine.execClusterBack r s
  | .wakeRx r chan wudop => Sys2Proof.Machine.execWakeRx r chan wudop s
  | .wakeCollision r => Sys2Proof.Machine.execWakeCollision r s
  | .perstNAssert r => Sys2Proof.Machine.execPerstNAssert r s
  | .linkLoss r => Sys2Proof.Machine.execLinkLoss r s
  | .hotReset r => Sys2Proof.Machine.execHotReset r s
  | .flr r => Sys2Proof.Machine.execFlr r s
  | .linkUp r speed => Sys2Proof.Machine.execLinkUp r speed s
  | .d3hotEntry r => Sys2Proof.Machine.execD3hotEntry r s
  | .d0Return r => Sys2Proof.Machine.execD0Return r s
  | .sqTailDoorbell r path q data => Sys2Proof.Machine.execSqTailDoorbell r path q data s
  | .cqHeadDoorbell r path q data => Sys2Proof.Machine.execCqHeadDoorbell r path q data s
  | .descriptorFetch r q bytes => Sys2Proof.Machine.execDescriptorFetch r q bytes s
  | .atFtCommand r q cid => Sys2Proof.Machine.execAtFtCommand r q cid s
  | .completionPost r q => Sys2Proof.Machine.execCompletionPost r q s
  | .nop r q cid => Sys2Proof.Machine.execNop r q cid s
  | .setpoint r q cid => Sys2Proof.Machine.execSetpoint r q cid s
  | .regWrite r q cid => Sys2Proof.Machine.execRegWrite r q cid s
  | .regRead r q cid => Sys2Proof.Machine.execRegRead r q cid s
  | .memWrite r q cid => Sys2Proof.Machine.execMemWrite r q cid s
  | .memRead r q cid => Sys2Proof.Machine.execMemRead r q cid s
  | .imageStage r q cid => Sys2Proof.Machine.execImageStage r q cid s
  | .imageVerify r q cid verdict => Sys2Proof.Machine.execImageVerify r q cid verdict s
  | .capture r q cid => Sys2Proof.Machine.execCapture r q cid s
  | .faultExport r q cid => Sys2Proof.Machine.execFaultExport r q cid s
  | .contractAdmit r q cid => Sys2Proof.Machine.execContractAdmit r q cid s
  | .contractWithdraw r q cid => Sys2Proof.Machine.execContractWithdraw r q cid s
  | .attest r q cid => Sys2Proof.Machine.execAttest r q cid s
  | .lockAcq r q cid => Sys2Proof.Machine.execLockAcq r q cid s
  | .lockRel r q cid => Sys2Proof.Machine.execLockRel r q cid s
  | .reportRing r q cid => Sys2Proof.Machine.execReportRing r q cid s
  | .dmaReadCompletion r chan reply => Sys2Proof.Machine.execDmaReadCompletion r chan reply s
  | .dmaCompletionTimeout r chan => Sys2Proof.Machine.execDmaCompletionTimeout r chan s
  | .forwardMessage r src q desc bytes => Sys2Proof.Machine.execForwardMessage r src q desc bytes s
  | .forwardResult r src q cid status result bytes => Sys2Proof.Machine.execForwardResult r src q cid status result bytes s
  | .forwardTimeout r q cid => Sys2Proof.Machine.execForwardTimeout r q cid s
  | .fabricGrant r requests => Sys2Proof.Machine.execFabricGrant r requests s
  | .starvation r requester => Sys2Proof.Machine.execStarvation r requester s
  | .qpClass r path q data => Sys2Proof.Machine.execQpClass r path q data s
  | .rankGrant r rank => Sys2Proof.Machine.execRankGrant r rank s
  | .lockTimeout r rank => Sys2Proof.Machine.execLockTimeout r rank s
  | .relayedRecord r record => Sys2Proof.Machine.execRelayedRecord r record s
  | .admitProposal r src msg => Sys2Proof.Machine.execAdmitProposal r src msg s
  | .admitAnswer r src msg => Sys2Proof.Machine.execAdmitAnswer r src msg s
  | .admitPartnerTimeout r index => Sys2Proof.Machine.execAdmitPartnerTimeout r index s
  | .noticeIntervalEnd r => Sys2Proof.Machine.execNoticeIntervalEnd r s
  | .reportLatch r index => Sys2Proof.Machine.execReportLatch r index s
  | .carryLinkDown r partner => Sys2Proof.Machine.execCarryLinkDown r partner s
  | .carryLinkUp r partner => Sys2Proof.Machine.execCarryLinkUp r partner s
  | .setpointCopy r src copy => Sys2Proof.Machine.execSetpointCopy r src copy s
  | .memoryWindowWrite r path addr bytes data => Sys2Proof.Machine.execMemoryWindowWrite r path addr bytes data s
  | .coefSync r path => Sys2Proof.Machine.execCoefSync r path s
  | .coefSyncDone r => Sys2Proof.Machine.execCoefSyncDone r s
  | .trcCfg r path data => Sys2Proof.Machine.execTrcCfg r path data s
  | .clrMax r path col => Sys2Proof.Machine.execClrMax r path col s
  | .illegalOpcode r col opc f => Sys2Proof.Machine.execIllegalOpcode r col opc f s
  | .ld r col f => Sys2Proof.Machine.execLd r col f s
  | .ldx r col f => Sys2Proof.Machine.execLdx r col f s
  | .st r col f => Sys2Proof.Machine.execSt r col f s
  | .stx r col f => Sys2Proof.Machine.execStx r col f s
  | .mov r col f => Sys2Proof.Machine.execMov r col f s
  | .movi r col f => Sys2Proof.Machine.execMovi r col f s
  | .nopInstruction r col f => Sys2Proof.Machine.execNopInstruction r col f s
  | .rid r col f => Sys2Proof.Machine.execRid r col f s
  | .adds r col f => Sys2Proof.Machine.execAdds r col f s
  | .subs r col f => Sys2Proof.Machine.execSubs r col f s
  | .addw r col f => Sys2Proof.Machine.execAddw r col f s
  | .subw r col f => Sys2Proof.Machine.execSubw r col f s
  | .mulw r col f => Sys2Proof.Machine.execMulw r col f s
  | .negs r col f => Sys2Proof.Machine.execNegs r col f s
  | .abss r col f => Sys2Proof.Machine.execAbss r col f s
  | .min r col f => Sys2Proof.Machine.execMin r col f s
  | .max r col f => Sys2Proof.Machine.execMax r col f s
  | .clmp r col f => Sys2Proof.Machine.execClmp r col f s
  | .asr r col f => Sys2Proof.Machine.execAsr r col f s
  | .lsl r col f => Sys2Proof.Machine.execLsl r col f s
  | .and r col f => Sys2Proof.Machine.execAnd r col f s
  | .or r col f => Sys2Proof.Machine.execOr r col f s
  | .xor r col f => Sys2Proof.Machine.execXor r col f s
  | .clra r col f => Sys2Proof.Machine.execClra r col f s
  | .lda r col f => Sys2Proof.Machine.execLda r col f s
  | .macc r col f => Sys2Proof.Machine.execMacc r col f s
  | .mscc r col f => Sys2Proof.Machine.execMscc r col f s
  | .macv r col f => Sys2Proof.Machine.execMacv r col f s
  | .mscv r col f => Sys2Proof.Machine.execMscv r col f s
  | .bias r col f => Sys2Proof.Machine.execBias r col f s
  | .ext r col f => Sys2Proof.Machine.execExt r col f s
  | .sincos r col f => Sys2Proof.Machine.execSincos r col f s
  | .tli r col f => Sys2Proof.Machine.execTli r col f s
  | .clu r col f => Sys2Proof.Machine.execClu r col f s
  | .limc r col f => Sys2Proof.Machine.execLimc r col f s
  | .blt r col f => Sys2Proof.Machine.execBlt r col f s
  | .bge r col f => Sys2Proof.Machine.execBge r col f s
  | .beq r col f => Sys2Proof.Machine.execBeq r col f s
  | .bne r col f => Sys2Proof.Machine.execBne r col f s
  | .jmp r col f => Sys2Proof.Machine.execJmp r col f s
  | .repeatN r col f => Sys2Proof.Machine.execRepeatN r col f s
  | .clrf r col f => Sys2Proof.Machine.execClrf r col f s
  | .halt r col f => Sys2Proof.Machine.execHalt r col f s
  | .pumpPhaseMessage r src msg => Sys2Proof.Machine.execPumpPhaseMessage r src msg s
  | .pumpStatusReport r src msg => Sys2Proof.Machine.execPumpStatusReport r src msg s
  | .observerLock r axis => Sys2Proof.Machine.execObserverLock r axis s
  | .obsLost r axis cause => Sys2Proof.Machine.execObsLost r axis cause s
  | .catchNoLock r axis => Sys2Proof.Machine.execCatchNoLock r axis s
  | .restConfirmed r axis => Sys2Proof.Machine.execRestConfirmed r axis s
  | .brkTmoExpiry r axis => Sys2Proof.Machine.execBrkTmoExpiry r axis s
  | .alignTExpiry r axis => Sys2Proof.Machine.execAlignTExpiry r axis s
  | .rampHoldTimeout r axis => Sys2Proof.Machine.execRampHoldTimeout r axis s
  | .retryCountReset r axis => Sys2Proof.Machine.execRetryCountReset r axis s
  | .retry r path axis => Sys2Proof.Machine.execRetry r path axis s
  | .quadratureTransition r axis a b sample => Sys2Proof.Machine.execQuadratureTransition r axis a b sample s
  | .leakLimit r axis => Sys2Proof.Machine.execLeakLimit r axis s
  | .indexEvent r axis => Sys2Proof.Machine.execIndexEvent r axis s
  | .lineFault r axis line => Sys2Proof.Machine.execLineFault r axis line s
  | .spdTmo r axis => Sys2Proof.Machine.execSpdTmo r axis s
  | .leadInStepTimeout r axis step => Sys2Proof.Machine.execLeadInStepTimeout r axis step s
  | .serialTransferEnd r axis frame => Sys2Proof.Machine.execSerialTransferEnd r axis frame s
  | .serFault r axis => Sys2Proof.Machine.execSerFault r axis s
  | .trackFault r axis => Sys2Proof.Machine.execTrackFault r axis s
  | .rearm r path axis => Sys2Proof.Machine.execRearm r path axis s
  | .desaturation r axis phase => Sys2Proof.Machine.execDesaturation r axis phase s
  | .overcurrent r axis phase => Sys2Proof.Machine.execOvercurrent r axis phase s
  | .dieOvertemp r temp => Sys2Proof.Machine.execDieOvertemp r temp s
  | .bootUv r axis phase on => Sys2Proof.Machine.execBootUv r axis phase on s
  | .vgdUv r vgd => Sys2Proof.Machine.execVgdUv r vgd s
  | .gatePlaus r axis phase high cmdOn => Sys2Proof.Machine.execGatePlaus r axis phase high cmdOn s
  | .eEnded r axis phase => Sys2Proof.Machine.execEEnded r axis phase s
  | .tClr r path axis data => Sys2Proof.Machine.execTClr r path axis data s
  | .tClrPulseEnd r axis present => Sys2Proof.Machine.execTClrPulseEnd r axis present s
  | .disChange r asserted => Sys2Proof.Machine.execDisChange r asserted s
  | .ascChange r axis asserted => Sys2Proof.Machine.execAscChange r axis asserted s
  | .fenceLatch r => Sys2Proof.Machine.execFenceLatch r s
  | .fenceClr r path data coilMa => Sys2Proof.Machine.execFenceClr r path data coilMa s
  | .chopperOn r vm => Sys2Proof.Machine.execChopperOn r vm s
  | .chopperOff r onTime => Sys2Proof.Machine.execChopperOff r onTime s
  | .chopperFail r cause => Sys2Proof.Machine.execChopperFail r cause s
  | .supplyOv2 r vm => Sys2Proof.Machine.execSupplyOv2 r vm s
  | .vmUndervolt r vm => Sys2Proof.Machine.execVmUndervolt r vm s
  | .vmUvClear r => Sys2Proof.Machine.execVmUvClear r s
  | .dieTempWarn r temp => Sys2Proof.Machine.execDieTempWarn r temp s
  | .drvDiag r path axis data => Sys2Proof.Machine.execDrvDiag r path axis data s
  | .diagOnTime r axis sw => Sys2Proof.Machine.execDiagOnTime r axis sw s
  | .rejoinConsent r path data => Sys2Proof.Machine.execRejoinConsent r path data s
  | .rejoinEntry r selfTest => Sys2Proof.Machine.execRejoinEntry r selfTest s
  | .joinRequest r src req => Sys2Proof.Machine.execJoinRequest r src req s
  | .rejoinData r src data => Sys2Proof.Machine.execRejoinData r src data s
  | .rejoinTimeout r => Sys2Proof.Machine.execRejoinTimeout r s
  | .tandemCopyReceive r lane copy => Sys2Proof.Machine.execTandemCopyReceive r lane copy s
  | .witnessFrame r holder frame => Sys2Proof.Machine.execWitnessFrame r holder frame s
  | .witnessDecision r axis => Sys2Proof.Machine.execWitnessDecision r axis s
  | .tandemCopyLost r axis => Sys2Proof.Machine.execTandemCopyLost r axis s
  | .tandemLaneChange r lane up => Sys2Proof.Machine.execTandemLaneChange r lane up s
  | .uidExchange r src uid => Sys2Proof.Machine.execUidExchange r src uid s
  | .lockstepWindowEnd r pair core diff => Sys2Proof.Machine.execLockstepWindowEnd r pair core diff s
  | .comparatorTest r core diff => Sys2Proof.Machine.execComparatorTest r core diff s
  | .pairSplit r purpose => Sys2Proof.Machine.execPairSplit r purpose s
  | .pairRejoin r => Sys2Proof.Machine.execPairRejoin r s
  | .pairRestart r => Sys2Proof.Machine.execPairRestart r s
  | .xtest r path data => Sys2Proof.Machine.execXtest r path data s
  | .xtestDone r failed us => Sys2Proof.Machine.execXtestDone r failed us s
  | .sealRead r straps => Sys2Proof.Machine.execSealRead r straps s
  | .sealResend r => Sys2Proof.Machine.execSealResend r s
  | .sealMessage r src byte => Sys2Proof.Machine.execSealMessage r src byte s
  | .contactorOpen r => Sys2Proof.Machine.execContactorOpen r s
  | .contactorWelded r ms => Sys2Proof.Machine.execContactorWelded r ms s
  | .contactorTestDue r => Sys2Proof.Machine.execContactorTestDue r s
  | .settleDelayEnd r => Sys2Proof.Machine.execSettleDelayEnd r s
  | .crystalProven r => Sys2Proof.Machine.execCrystalProven r s
  | .pllLock r => Sys2Proof.Machine.execPllLock r s
  | .xtalFail r cause => Sys2Proof.Machine.execXtalFail r cause s
  | .pllAFail r cause domain => Sys2Proof.Machine.execPllAFail r cause domain s
  | .pllBFail r cause domain => Sys2Proof.Machine.execPllBFail r cause domain s
  | .rcFail r => Sys2Proof.Machine.execRcFail r s
  | .rcDetectorClear r => Sys2Proof.Machine.execRcDetectorClear r s
  | .refclkLost r cause => Sys2Proof.Machine.execRefclkLost r cause s
  | .carryClockLost r partner => Sys2Proof.Machine.execCarryClockLost r partner s
  | .tandemClockLost r cause => Sys2Proof.Machine.execTandemClockLost r cause s
  | .sourceBack r domain partner => Sys2Proof.Machine.execSourceBack r domain partner s
  | .clkMeasSel r path data => Sys2Proof.Machine.execClkMeasSel r path data s
  | .measDone r khz => Sys2Proof.Machine.execMeasDone r khz s
  | .ckoCfg r path data => Sys2Proof.Machine.execCkoCfg r path data s
  | .pwrHost r path data => Sys2Proof.Machine.execPwrHost r path data s
  | .domainPowerUp r dom => Sys2Proof.Machine.execDomainPowerUp r dom s
  | .domainPowerDown r dom => Sys2Proof.Machine.execDomainPowerDown r dom s
  | .coreSwitchOpen r => Sys2Proof.Machine.execCoreSwitchOpen r s
  | .domainFail r dom => Sys2Proof.Machine.execDomainFail r dom s
  | .supplyFail r rail => Sys2Proof.Machine.execSupplyFail r rail s
  | .powerOnResetRelease r xsd => Sys2Proof.Machine.execPowerOnResetRelease r xsd s
  | .wakeEvent r sources => Sys2Proof.Machine.execWakeEvent r sources s
  | .wake r => Sys2Proof.Machine.execWake r s
  | .reset r => Sys2Proof.Machine.execReset r s
  | .vaonLoss r => Sys2Proof.Machine.execVaonLoss r s
  | .close r path key => Sys2Proof.Machine.execClose r path key s
  | .openL1 r path key => Sys2Proof.Machine.execOpenL1 r path key s
  | .passwordCheckDone r ok => Sys2Proof.Machine.execPasswordCheckDone r ok s
  | .lockoutEnd r => Sys2Proof.Machine.execLockoutEnd r s
  | .accessIdleTimeout r => Sys2Proof.Machine.execAccessIdleTimeout r s
  | .challenge r path key random => Sys2Proof.Machine.execChallenge r path key random s
  | .challengeExpiry r => Sys2Proof.Machine.execChallengeExpiry r s
  | .respond r path key verdict => Sys2Proof.Machine.execRespond r path key verdict s
  | .applyManifest r path key verdict man => Sys2Proof.Machine.execApplyManifest r path key verdict man s
  | .setPassword r path key => Sys2Proof.Machine.execSetPassword r path key s
  | .updReq r path data => Sys2Proof.Machine.execUpdReq r path data s
  | .updateComplete r verdict => Sys2Proof.Machine.execUpdateComplete r verdict s
  | .bypass r => Sys2Proof.Machine.execBypass r s
  | .idcode r => Sys2Proof.Machine.execIdcode r s
  | .samplePreload r => Sys2Proof.Machine.execSamplePreload r s
  | .extest r => Sys2Proof.Machine.execExtest r s
  | .wakePortStop r => Sys2Proof.Machine.execWakePortStop r s
  | .discardedCommandByte r byte => Sys2Proof.Machine.execDiscardedCommandByte r byte s
  | .correctedMemoryError r => Sys2Proof.Machine.execCorrectedMemoryError r s

end Sys2Proof.Machine
end

