-- ==== Sys2Proof/Machine/Forms.lean ====
section
/-! DEFINITION. The canonical forms of the stored tables: every register at its reset value is unlisted, so equal contents are
equal data. -/

namespace Sys2Proof.Machine

/-- The register table, the signal memory and the fault log of a rod are in canonical form: addresses strictly rising, no entry at
the value an unlisted address reads as; the log has its 1,024 slots (R74). -/
def Rod.wf (ρ : Rod) : Bool :=
  Sparse.wf regReset ρ.regs && Sparse.wf (fun _ => 0#32) ρ.rk.sig && Sparse.rising ρ.log && ρ.log.all fun e => decide (e.1 < 1024)

/-- The three rods are in canonical form, and each is the rod its place names. -/
def State.wf (s : State) : Bool :=
  s.x.wf && s.y.wf && s.z.wf && decide (s.x.me = .x ∧ s.y.me = .y ∧ s.z.me = .z)

end Sys2Proof.Machine
end

