-- ==== Sys2Proof/WellFormed.lean ====
section
/-! DEFINITION. The rod a command reaches, and which commands are well formed: operands within the ranges the spec gives what they
stand for. `exec` answers for ill-formed commands as well; nothing rests on their being refused. -/

namespace Sys2Proof

/-- The code of a rod: 0 X, 1 Y, 2 Z (R47). -/
def RodId.num : RodId → Nat
  | .x => 0
  | .y => 1
  | .z => 2

/-- The rod a command reaches (R19). -/
def Instr.rod : Instr → RodId
  | .registerWrite r .. => r
  | .pairLoRead r .. => r
  | .pairHiWrite r .. => r
  | .rcRead r .. => r
  | .w1cWrite r .. => r
  | .irqForce r .. => r
  | .stgCommit r .. => r
  | .stgOpen r .. => r
  | .stgMode r .. => r
  | .stgFtArm r .. => r
  | .mismatchClear r .. => r
  | .stagedCommit r .. => r
  | .atFtCommit r .. => r
  | .noTickCommit r .. => r
  | .pageLockRequest r .. => r
  | .pageLockRelease r .. => r
  | .errcapClear r .. => r
  | .flAck r .. => r
  | .flashRecordAppend r .. => r
  | .operatingHour r .. => r
  | .samplingInstant r .. => r
  | .adcConversion r .. => r
  | .triggerFire r .. => r
  | .blockLimit r .. => r
  | .setOff r .. => r
  | .dqFrameSend r .. => r
  | .dqSendDeadline r .. => r
  | .dqFrameReceive r .. => r
  | .receiveWindowClose r .. => r
  | .residualWindowEnd r .. => r
  | .dqSilent r .. => r
  | .dutyLatch l => l.rod
  | .refreshPulse r .. => r
  | .injectionDone r .. => r
  | .injStop r .. => r
  | .sfReport r .. => r
  | .sfReportMessage r .. => r
  | .sfUnconfirmed r .. => r
  | .vehSpeedStale r .. => r
  | .setStateMessage r .. => r
  | .torqueCopyReceive r .. => r
  | .stateCopyReceive r .. => r
  | .copyMissedNotice r .. => r
  | .judgementMessage r .. => r
  | .withdrawalNotice r .. => r
  | .removal r .. => r
  | .removalOrder r .. => r
  | .modeRequest r .. => r
  | .modeRequestTimeout r .. => r
  | .modeProposal r .. => r
  | .modeChange r .. => r
  | .armRelease r .. => r
  | .standstillReached r .. => r
  | .auxContact r .. => r
  | .kauxTimeout r .. => r
  | .osdStepEnd r .. => r
  | .prechargeEnd r .. => r
  | .syncTimeout r .. => r
  | .bootComparatorTest r .. => r
  | .bootFirmwareVerify r .. => r
  | .bootImageVerify r .. => r
  | .timeBaseFrame r .. => r
  | .timeCapture r .. => r
  | .timeFrame r .. => r
  | .captureWindowClose r .. => r
  | .lockAcquired r .. => r
  | .lockedClear r .. => r
  | .srcExcluded r .. => r
  | .srcReadmitted r .. => r
  | .holdExpired r .. => r
  | .xmodReturn r .. => r
  | .take r .. => r
  | .wakeup r .. => r
  | .mtsA r .. => r
  | .mtsB r .. => r
  | .frHalt r .. => r
  | .restart r .. => r
  | .wudop r .. => r
  | .frFrameReceive r .. => r
  | .cycleStart r .. => r
  | .mbReady r .. => r
  | .mbHold r .. => r
  | .coldstartAttempt r .. => r
  | .coldExhausted r .. => r
  | .clockCorrection r .. => r
  | .channelSilent r .. => r
  | .clusterLost r .. => r
  | .clusterBack r .. => r
  | .wakeRx r .. => r
  | .wakeCollision r .. => r
  | .perstNAssert r .. => r
  | .linkLoss r .. => r
  | .hotReset r .. => r
  | .flr r .. => r
  | .linkUp r .. => r
  | .d3hotEntry r .. => r
  | .d0Return r .. => r
  | .sqTailDoorbell r .. => r
  | .cqHeadDoorbell r .. => r
  | .descriptorFetch r .. => r
  | .atFtCommand r .. => r
  | .completionPost r .. => r
  | .nop r .. => r
  | .setpoint r .. => r
  | .regWrite r .. => r
  | .regRead r .. => r
  | .memWrite r .. => r
  | .memRead r .. => r
  | .imageStage r .. => r
  | .imageVerify r .. => r
  | .capture r .. => r
  | .faultExport r .. => r
  | .contractAdmit r .. => r
  | .contractWithdraw r .. => r
  | .attest r .. => r
  | .lockAcq r .. => r
  | .lockRel r .. => r
  | .reportRing r .. => r
  | .dmaReadCompletion r .. => r
  | .dmaCompletionTimeout r .. => r
  | .forwardMessage r .. => r
  | .forwardResult r .. => r
  | .forwardTimeout r .. => r
  | .fabricGrant r .. => r
  | .starvation r .. => r
  | .qpClass r .. => r
  | .rankGrant r .. => r
  | .lockTimeout r .. => r
  | .relayedRecord r .. => r
  | .admitProposal r .. => r
  | .admitAnswer r .. => r
  | .admitPartnerTimeout r .. => r
  | .noticeIntervalEnd r .. => r
  | .reportLatch r .. => r
  | .carryLinkDown r .. => r
  | .carryLinkUp r .. => r
  | .setpointCopy r .. => r
  | .memoryWindowWrite r .. => r
  | .coefSync r .. => r
  | .coefSyncDone r .. => r
  | .trcCfg r .. => r
  | .clrMax r .. => r
  | .illegalOpcode r .. => r
  | .ld r .. => r
  | .ldx r .. => r
  | .st r .. => r
  | .stx r .. => r
  | .mov r .. => r
  | .movi r .. => r
  | .nopInstruction r .. => r
  | .rid r .. => r
  | .adds r .. => r
  | .subs r .. => r
  | .addw r .. => r
  | .subw r .. => r
  | .mulw r .. => r
  | .negs r .. => r
  | .abss r .. => r
  | .min r .. => r
  | .max r .. => r
  | .clmp r .. => r
  | .asr r .. => r
  | .lsl r .. => r
  | .and r .. => r
  | .or r .. => r
  | .xor r .. => r
  | .clra r .. => r
  | .lda r .. => r
  | .macc r .. => r
  | .mscc r .. => r
  | .macv r .. => r
  | .mscv r .. => r
  | .bias r .. => r
  | .ext r .. => r
  | .sincos r .. => r
  | .tli r .. => r
  | .clu r .. => r
  | .limc r .. => r
  | .blt r .. => r
  | .bge r .. => r
  | .beq r .. => r
  | .bne r .. => r
  | .jmp r .. => r
  | .repeatN r .. => r
  | .clrf r .. => r
  | .halt r .. => r
  | .pumpPhaseMessage r .. => r
  | .pumpStatusReport r .. => r
  | .observerLock r .. => r
  | .obsLost r .. => r
  | .catchNoLock r .. => r
  | .restConfirmed r .. => r
  | .brkTmoExpiry r .. => r
  | .alignTExpiry r .. => r
  | .rampHoldTimeout r .. => r
  | .retryCountReset r .. => r
  | .retry r .. => r
  | .quadratureTransition r .. => r
  | .leakLimit r .. => r
  | .indexEvent r .. => r
  | .lineFault r .. => r
  | .spdTmo r .. => r
  | .leadInStepTimeout r .. => r
  | .serialTransferEnd r .. => r
  | .serFault r .. => r
  | .trackFault r .. => r
  | .rearm r .. => r
  | .desaturation r .. => r
  | .overcurrent r .. => r
  | .dieOvertemp r .. => r
  | .bootUv r .. => r
  | .vgdUv r .. => r
  | .gatePlaus r .. => r
  | .eEnded r .. => r
  | .tClr r .. => r
  | .tClrPulseEnd r .. => r
  | .disChange r .. => r
  | .ascChange r .. => r
  | .fenceLatch r .. => r
  | .fenceClr r .. => r
  | .chopperOn r .. => r
  | .chopperOff r .. => r
  | .chopperFail r .. => r
  | .supplyOv2 r .. => r
  | .vmUndervolt r .. => r
  | .vmUvClear r .. => r
  | .dieTempWarn r .. => r
  | .drvDiag r .. => r
  | .diagOnTime r .. => r
  | .rejoinConsent r .. => r
  | .rejoinEntry r .. => r
  | .joinRequest r .. => r
  | .rejoinData r .. => r
  | .rejoinTimeout r .. => r
  | .tandemCopyReceive r .. => r
  | .witnessFrame r .. => r
  | .witnessDecision r .. => r
  | .tandemCopyLost r .. => r
  | .tandemLaneChange r .. => r
  | .uidExchange r .. => r
  | .lockstepWindowEnd r .. => r
  | .comparatorTest r .. => r
  | .pairSplit r .. => r
  | .pairRejoin r .. => r
  | .pairRestart r .. => r
  | .xtest r .. => r
  | .xtestDone r .. => r
  | .sealRead r .. => r
  | .sealResend r .. => r
  | .sealMessage r .. => r
  | .contactorOpen r .. => r
  | .contactorWelded r .. => r
  | .contactorTestDue r .. => r
  | .settleDelayEnd r .. => r
  | .crystalProven r .. => r
  | .pllLock r .. => r
  | .xtalFail r .. => r
  | .pllAFail r .. => r
  | .pllBFail r .. => r
  | .rcFail r .. => r
  | .rcDetectorClear r .. => r
  | .refclkLost r .. => r
  | .carryClockLost r .. => r
  | .tandemClockLost r .. => r
  | .sourceBack r .. => r
  | .clkMeasSel r .. => r
  | .measDone r .. => r
  | .ckoCfg r .. => r
  | .pwrHost r .. => r
  | .domainPowerUp r .. => r
  | .domainPowerDown r .. => r
  | .coreSwitchOpen r .. => r
  | .domainFail r .. => r
  | .supplyFail r .. => r
  | .powerOnResetRelease r .. => r
  | .wakeEvent r .. => r
  | .wake r .. => r
  | .reset r .. => r
  | .vaonLoss r .. => r
  | .close r .. => r
  | .openL1 r .. => r
  | .passwordCheckDone r .. => r
  | .lockoutEnd r .. => r
  | .accessIdleTimeout r .. => r
  | .challenge r .. => r
  | .challengeExpiry r .. => r
  | .respond r .. => r
  | .applyManifest r .. => r
  | .setPassword r .. => r
  | .updReq r .. => r
  | .updateComplete r .. => r
  | .bypass r .. => r
  | .idcode r .. => r
  | .samplePreload r .. => r
  | .extest r .. => r
  | .wakePortStop r .. => r
  | .discardedCommandByte r .. => r
  | .correctedMemoryError e => e.rod

/-! ### The checks -/

/-- A partner sends, not the rod itself. -/
def wfSrc (r src : RodId) : Bool := r != src

/-- A read of 1, 2, 4 or 8 bytes (R44) at an address of BAR0, which has 16 MiB, of BAR2 or of the configuration space, which lie
at 0x1000000 and 0x2000000. (DESIGN CHOICE, log entry 82) -/
def wfRead (addr bytes : Nat) : Bool :=
  (decide (addr < 2 ^ 24) || decide (0x1000000 ≤ addr ∧ addr < 0x1002000) || decide (0x2000000 ≤ addr ∧ addr < 0x2001000)) &&
    (bytes == 1 || bytes == 2 || bytes == 4 || bytes == 8)

/-- A write of 1, 2, 4 or 8 bytes at such an address, with data of that length. -/
def wfAccess (addr bytes : Nat) (data : DWord) : Bool := wfRead addr bytes && decide (data.toNat < 2 ^ (8 * bytes))

/-- A register address: 32-bit aligned, within the lower 1 MiB of BAR0, which holds the pages (R41). -/
def wfReg (addr : Nat) : Bool := addr % 4 == 0 && decide (addr < 0x100000)

/-- A page index (R41): the lower 1 MiB of BAR0 in steps of 0x1000. -/
def wfPage (page : Nat) : Bool := decide (page < 0x100)

/-- A list of exactly `n` words or bytes. -/
def wfLen {α : Type} (n : Nat) (l : List α) : Bool := l.length == n

/-- A code within a range of the spec's tables. (DESIGN CHOICE, log entry 62) -/
def wfCode (lo hi c : Nat) : Bool := decide (lo ≤ c ∧ c ≤ hi)

/-- A descriptor: 32 argument bytes (Table 6.3). -/
def wfDesc (d : Desc) : Bool := wfLen 32 d.arg

/-- A FlexRay slot: slot 1 to 2,047, something on a channel at least, a payload of at most 254 bytes in whole 16-bit words
(chapter 5). -/
def wfFrame (s : FrSlot) : Bool :=
  let ok (f : FrFrame) : Bool := decide (f.payload.length ≤ 254) && f.payload.length % 2 == 0
  wfCode 1 2047 s.slot && wfCode 0 0xFFFFFFFF s.cycle && s.a.all ok && s.b.all ok && (s.a.isSome || s.b.isSome)

/-- Whether a command is well formed. (DESIGN CHOICE, log entry 62) -/
def Instr.wf : Instr → Bool
  | .registerWrite _ _ addr bytes data => wfAccess addr bytes data
  | .pairLoRead _ a => wfRead a.addr a.bytes
  | .pairHiWrite _ _ addr _ => wfReg addr
  | .rcRead _ a _ => wfRead a.addr a.bytes
  | .w1cWrite _ _ addr _ _ => wfReg addr
  | .irqForce _ _ page _ => wfPage page
  | .stgCommit _ _ page _ => wfPage page
  | .stgOpen _ _ page _ => wfPage page
  | .stgMode _ _ page _ => wfPage page
  | .stgFtArm _ _ page _ => wfPage page
  | .mismatchClear _ _ page => wfPage page
  | .stagedCommit _ page => wfPage page
  | .atFtCommit _ page => wfPage page
  | .noTickCommit _ page => wfPage page
  | .pageLockRequest _ _ page => wfPage page
  | .pageLockRelease _ _ page => wfPage page
  | .errcapClear _ _ page => wfPage page
  | .flAck .. => true
  | .flashRecordAppend .. => true
  | .operatingHour .. => true
  | .samplingInstant .. => true
  | .adcConversion .. => true
  | .triggerFire .. => true
  | .blockLimit .. => true
  | .setOff .. => true
  | .dqFrameSend .. => true
  | .dqSendDeadline .. => true
  | .dqFrameReceive r src frame => wfSrc r src && wfLen 32 frame.words
  | .receiveWindowClose .. => true
  | .residualWindowEnd .. => true
  | .dqSilent r src => wfSrc r src
  | .dutyLatch .. => true
  | .refreshPulse .. => true
  | .injectionDone .. => true
  | .injStop .. => true
  | .sfReport _ _ fn => wfCode 1 3 fn
  | .sfReportMessage r src msg => wfSrc r src && wfCode 1 3 msg.fn
  | .sfUnconfirmed _ _ fn _ => wfCode 1 3 fn
  | .vehSpeedStale .. => true
  | .setStateMessage r src _ => wfSrc r src
  | .torqueCopyReceive r src msg => wfSrc r src && wfLen 16 msg.words
  | .stateCopyReceive r src msg => wfSrc r src && (!msg.complete || wfLen 128 msg.words)
  | .copyMissedNotice r src _ => wfSrc r src
  | .judgementMessage r src msg => wfSrc r src && wfCode 1 5 msg.kind
  | .withdrawalNotice r src _ => wfSrc r src
  | .removal .. => true
  | .removalOrder r src => wfSrc r src
  | .modeRequest .. => true
  | .modeRequestTimeout .. => true
  | .modeProposal r src mode => wfSrc r src && wfCode 0 5 mode
  | .modeChange .. => true
  | .armRelease .. => true
  | .standstillReached .. => true
  | .auxContact .. => true
  | .kauxTimeout .. => true
  | .osdStepEnd .. => true
  | .prechargeEnd .. => true
  | .syncTimeout .. => true
  | .bootComparatorTest .. => true
  | .bootFirmwareVerify .. => true
  | .bootImageVerify .. => true
  | .timeBaseFrame _ frame => wfFrame frame
  | .timeCapture _ ft _ => decide (ft.phase < 12500)
  | .timeFrame r src .. => wfSrc r src
  | .captureWindowClose .. => true
  | .lockAcquired .. => true
  | .lockedClear .. => true
  | .srcExcluded .. => true
  | .srcReadmitted .. => true
  | .holdExpired .. => true
  | .xmodReturn .. => true
  | .take .. => true
  | .wakeup .. => true
  | .mtsA .. => true
  | .mtsB .. => true
  | .frHalt .. => true
  | .restart .. => true
  | .wudop .. => true
  | .frFrameReceive _ frame => wfFrame frame
  | .cycleStart _ cycle => wfCode 0 0xFFFFFFFF cycle
  | .mbReady .. => true
  | .mbHold .. => true
  | .coldstartAttempt .. => true
  | .coldExhausted .. => true
  | .clockCorrection .. => true
  | .channelSilent .. => true
  | .clusterLost .. => true
  | .clusterBack .. => true
  | .wakeRx .. => true
  | .wakeCollision .. => true
  | .perstNAssert .. => true
  | .linkLoss .. => true
  | .hotReset .. => true
  | .flr .. => true
  | .linkUp .. => true
  | .d3hotEntry .. => true
  | .d0Return .. => true
  | .sqTailDoorbell .. => true
  | .cqHeadDoorbell .. => true
  | .descriptorFetch _ _ bytes => bytes.length % 64 == 0
  | .atFtCommand .. => true
  | .completionPost .. => true
  | .nop .. => true
  | .setpoint .. => true
  | .regWrite .. => true
  | .regRead .. => true
  | .memWrite .. => true
  | .memRead .. => true
  | .imageStage .. => true
  | .imageVerify .. => true
  | .capture .. => true
  | .faultExport .. => true
  | .contractAdmit .. => true
  | .contractWithdraw .. => true
  | .attest .. => true
  | .lockAcq .. => true
  | .lockRel .. => true
  | .reportRing .. => true
  | .dmaReadCompletion .. => true
  | .dmaCompletionTimeout .. => true
  | .forwardMessage r src _ desc _ => wfSrc r src && wfDesc desc
  | .forwardResult r src _ _ _ _ _ => wfSrc r src
  | .forwardTimeout .. => true
  | .fabricGrant .. => true
  | .starvation .. => true
  | .qpClass .. => true
  | .rankGrant .. => true
  | .lockTimeout .. => true
  | .relayedRecord .. => true
  | .admitProposal r src _ => wfSrc r src
  | .admitAnswer r src _ => wfSrc r src
  | .admitPartnerTimeout .. => true
  | .noticeIntervalEnd .. => true
  | .reportLatch .. => true
  | .carryLinkDown .. => true
  | .carryLinkUp .. => true
  | .setpointCopy r src copy => wfSrc r src && wfCode 1 6 copy.vals.length
  | .memoryWindowWrite _ _ addr bytes data => wfAccess addr bytes data
  | .coefSync .. => true
  | .coefSyncDone .. => true
  | .trcCfg .. => true
  | .clrMax .. => true
  | .illegalOpcode .. => true
  | .ld .. => true
  | .ldx .. => true
  | .st .. => true
  | .stx .. => true
  | .mov .. => true
  | .movi .. => true
  | .nopInstruction .. => true
  | .rid .. => true
  | .adds .. => true
  | .subs .. => true
  | .addw .. => true
  | .subw .. => true
  | .mulw .. => true
  | .negs .. => true
  | .abss .. => true
  | .min .. => true
  | .max .. => true
  | .clmp .. => true
  | .asr .. => true
  | .lsl .. => true
  | .and .. => true
  | .or .. => true
  | .xor .. => true
  | .clra .. => true
  | .lda .. => true
  | .macc .. => true
  | .mscc .. => true
  | .macv .. => true
  | .mscv .. => true
  | .bias .. => true
  | .ext .. => true
  | .sincos .. => true
  | .tli .. => true
  | .clu .. => true
  | .limc .. => true
  | .blt .. => true
  | .bge .. => true
  | .beq .. => true
  | .bne .. => true
  | .jmp .. => true
  | .repeatN .. => true
  | .clrf .. => true
  | .halt .. => true
  | .pumpPhaseMessage r src msg => wfSrc r src && wfCode 0 7 msg.phase
  | .pumpStatusReport r src _ => wfSrc r src
  | .observerLock .. => true
  | .obsLost _ _ cause => wfCode 1 3 cause
  | .catchNoLock .. => true
  | .restConfirmed .. => true
  | .brkTmoExpiry .. => true
  | .alignTExpiry .. => true
  | .rampHoldTimeout .. => true
  | .retryCountReset .. => true
  | .retry .. => true
  | .quadratureTransition .. => true
  | .leakLimit .. => true
  | .indexEvent .. => true
  | .lineFault .. => true
  | .spdTmo .. => true
  | .leadInStepTimeout _ _ step => wfCode 1 255 step
  | .serialTransferEnd .. => true
  | .serFault .. => true
  | .trackFault .. => true
  | .rearm .. => true
  | .desaturation .. => true
  | .overcurrent .. => true
  | .dieOvertemp .. => true
  | .bootUv .. => true
  | .vgdUv .. => true
  | .gatePlaus .. => true
  | .eEnded .. => true
  | .tClr .. => true
  | .tClrPulseEnd .. => true
  | .disChange .. => true
  | .ascChange .. => true
  | .fenceLatch .. => true
  | .fenceClr .. => true
  | .chopperOn .. => true
  | .chopperOff .. => true
  | .chopperFail .. => true
  | .supplyOv2 .. => true
  | .vmUndervolt .. => true
  | .vmUvClear .. => true
  | .dieTempWarn .. => true
  | .drvDiag .. => true
  | .diagOnTime .. => true
  | .rejoinConsent .. => true
  | .rejoinEntry .. => true
  | .joinRequest r src req => wfSrc r src && wfLen 7 req.crcs && wfLen 3 req.versions
  | .rejoinData r src data =>
    wfSrc r src && [data.state.e0, data.state.e1, data.state.e2].all (wfLen 128) && [data.torque.e0, data.torque.e1, data.torque.e2].all (wfLen 16)
  | .rejoinTimeout .. => true
  | .tandemCopyReceive _ _ copy => wfLen 128 copy.state && wfLen 13 copy.torque
  | .witnessFrame .. => true
  | .witnessDecision .. => true
  | .tandemCopyLost .. => true
  | .tandemLaneChange .. => true
  | .uidExchange r src _ => wfSrc r src
  | .lockstepWindowEnd .. => true
  | .comparatorTest .. => true
  | .pairSplit .. => true
  | .pairRejoin .. => true
  | .pairRestart .. => true
  | .xtest .. => true
  | .xtestDone .. => true
  | .sealRead .. => true
  | .sealResend .. => true
  | .sealMessage r src _ => wfSrc r src
  | .contactorOpen .. => true
  | .contactorWelded .. => true
  | .contactorTestDue .. => true
  | .settleDelayEnd .. => true
  | .crystalProven .. => true
  | .pllLock .. => true
  | .xtalFail .. => true
  | .pllAFail .. => true
  | .pllBFail .. => true
  | .rcFail .. => true
  | .rcDetectorClear .. => true
  | .refclkLost .. => true
  | .carryClockLost .. => true
  | .tandemClockLost .. => true
  | .sourceBack .. => true
  | .clkMeasSel .. => true
  | .measDone .. => true
  | .ckoCfg .. => true
  | .pwrHost .. => true
  | .domainPowerUp .. => true
  | .domainPowerDown .. => true
  | .coreSwitchOpen .. => true
  | .domainFail .. => true
  | .supplyFail .. => true
  | .powerOnResetRelease .. => true
  | .wakeEvent .. => true
  | .wake .. => true
  | .reset .. => true
  | .vaonLoss .. => true
  | .close .. => true
  | .openL1 .. => true
  | .passwordCheckDone .. => true
  | .lockoutEnd .. => true
  | .accessIdleTimeout .. => true
  | .challenge .. => true
  | .challengeExpiry .. => true
  | .respond .. => true
  | .applyManifest .. => true
  | .setPassword .. => true
  | .updReq .. => true
  | .updateComplete .. => true
  | .bypass .. => true
  | .idcode .. => true
  | .samplePreload .. => true
  | .extest .. => true
  | .wakePortStop .. => true
  | .discardedCommandByte .. => true
  | .correctedMemoryError .. => true

end Sys2Proof
end

