-- ==== Sys2Proof/Safety.lean ====
section
/-! DEFINITION. What counts as a safe run of the module, and the invariants its steps keep. -/

namespace Sys2Proof.Machine

/-- A step that neither faults nor is refused. -/
def safeStep (s : State) : Prop := ∃ t, step s = .next t

/-- A run of `n` steps is safe when each of them is. -/
def safeRun : Nat → State → Prop
  | 0, _ => True
  | n + 1, s => ∃ t, step s = .next t ∧ safeRun n t

/-- Every command that waits is well formed. -/
def State.queueWf (s : State) : Prop := ∀ c ∈ s.pending, c.wf = true

/-- Whether the effect of a command reaches the partners' state at once: the admission rows, a report posted in the queue of the rod
that admitted its contract (R197), a pump retry passed to the lead (R385), a carry link whose third rod relays (R249), and the rows
after which the checks of ARMING go on in every rod (Table 3.5). Of every other command the partners learn only by messages
(R19). -/
def Instr.shared : Instr → Bool
  | .registerWrite .. | .pairHiWrite .. | .retry .. => true
  | .atFtCommand .. | .forwardMessage .. | .rankGrant .. | .admitProposal .. | .admitAnswer .. | .admitPartnerTimeout .. => true
  | .nop .. | .setpoint .. | .regWrite .. | .regRead .. | .memWrite .. | .memRead .. | .imageStage .. | .imageVerify .. => true
  | .capture .. | .faultExport .. | .contractAdmit .. | .contractWithdraw .. | .attest .. | .lockAcq .. | .lockRel .. => true
  | .reportRing .. | .joinRequest .. | .reportLatch .. | .carryLinkDown .. | .carryLinkUp .. | .carryClockLost .. => true
  | .modeChange .. | .auxContact .. | .kauxTimeout .. | .osdStepEnd .. | .prechargeEnd .. | .contactorWelded .. => true
  | .samplingInstant .. => true
  | _ => false

/-- No rod holds back a fault record of the command before (R39): the records of a command are written before the next. -/
def State.quiet (s : State) : Prop := ∀ r, (s.rod r).recBuf = []

/-! ### What the statements are written with -/

/-- `exec` answers a next state, and `P` holds of it. -/
def completes (c : Instr) (s : State) (P : State → Prop) : Prop := ∃ t, exec c s = .next t ∧ P t

/-- Every register reads as before but those listed, and those the fault log writes (FL_SEQ and IRQ_RAW of page 0x0D0) where the
command writes a record. -/
def Rod.keepsRegs (ρ ρ' : Rod) (ex : List Nat) : Prop :=
  ∀ a, a ∉ ex → a ≠ Rg.FL_SEQ → a ≠ Rg.IRQ_RAW 0x0D0 → ρ'.gw a = ρ.gw a

/-- `ρ'` is `q` in everything but registers, messages sent (the MSI-X messages held as pending bits among them) and fault records. -/
def Rod.agrees (ρ' q : Rod) : Prop :=
  ρ' = { q with regs := ρ'.regs, out := ρ'.out, recBuf := ρ'.recBuf, log := ρ'.log, lost := ρ'.lost, lostSev := ρ'.lostSev
                flPend := ρ'.flPend, pba := ρ'.pba }

/-- Nothing changes but the registers listed (and what a record of the command writes), and what `q` has that `ρ` has not. -/
def Rod.only (ρ ρ' : Rod) (ex : List Nat) (q : Rod) : Prop := ρ.keepsRegs ρ' ex ∧ ρ'.agrees q

/-- A message of a partner that R477 lets in: of another rod, in the epoch this rod holds, and, where an axis is asked for, from the
rod that leads it. -/
abbrev Rod.lets (ρ : Rod) (src : RodId) (e : Epoch) (axis : Option Axis) : Prop :=
  src ≠ ρ.me ∧ e.valid = true ∧ e.num.toNat = ρ.g Fl.CR_EPOCH_EPOCH ∧ ρ.red.holds = true ∧ ∀ n, axis = some n → ρ.rk.lead.get n = src

/-- No record is written: the log and the registers it writes are as before. -/
def Rod.noRecord (ρ ρ' : Rod) : Prop :=
  ρ'.log = ρ.log ∧ ρ'.flPend = ρ.flPend ∧ ρ'.gw Rg.FL_SEQ = ρ.gw Rg.FL_SEQ

/-- A fault record of this code, severity, page and rod went out to the partners (R191), and so into the log. -/
def Rod.recorded (ρ' : Rod) (code sev page : Nat) : Prop :=
  ∃ e : FaultRec, Out.record e ∈ ρ'.out ∧ e.code = BitVec.ofNat 16 code ∧ e.sev = BitVec.ofNat 8 sev ∧ e.page = BitVec.ofNat 16 page ∧
    e.rod = BitVec.ofNat 8 ρ'.me.code

/-- IRQ_RAW bit `i` of page `p` is set. -/
abbrev Rod.raised (ρ : Rod) (p i : Nat) : Prop := wBit (ρ.gw (Rg.IRQ_RAW p)) i = true

/-- A 32-bit host write on a path reaches its register (R42, R45, R46, R54): the SYS domain answers, the page is listed and on, the
register has a bit that a write reaches, and no other path holds the page's LOCK. -/
abbrev Rod.accepts (ρ : Rod) (path : Path) (a : Nat) : Prop :=
  ρ.answers path.code = true ∧ a < 0x100000 ∧ a % 4 = 0 ∧ (pageInfo (a / 0x1000)).isSome = true ∧ ρ.writeError path.code a = (0, true)

/-- An instruction word issues (R267, R271, R309, R311, R316): a block runs on the column and is not past its limit, the program
holds the word at the PC, and every field the instruction does not use is 0. -/
abbrev Rod.reads (ρ : Rod) (c : Fin 4) (opc : Nat) (f : BitVec 56) (used : Nat) : Prop :=
  ρ.issues c opc f = true ∧ ρ.pcOf c < ρ.progLen ∧ f.toNat &&& (2 ^ 56 - 1 - used) = 0

/-- It issues and ends before the cycle in which the block would be stopped (R271, R314). -/
abbrev Rod.takes (ρ : Rod) (c : Fin 4) (opc : Nat) (f : BitVec 56) (used : Nat) : Prop := ρ.reads c opc f used ∧ ρ.fits c = true

/-- What an instruction leaves that took `cyc` cycles and goes on at `pc`: the column's value registers read `V`, its accumulators
`A`; the other columns, the signal memory, the memories and every register outside `ex` and COL_STAT are as before. The lockstep
copy of the column follows (R266, R523, R525). -/
def Rod.columnStep (ρ ρ' : Rod) (c : Fin 4) (cyc pc : Nat) (V : Nat → Word) (A : Nat → Int) (ex : List Nat) : Prop :=
  (∀ i, i < 32 → ρ'.v c i = V i) ∧ (∀ j, j < 4 → ρ'.acc c j = A j) ∧ (ρ'.col c).cyc = (ρ.col c).cyc + cyc ∧
  ρ'.pcOf c = pc % 2 ^ 14 ∧ ρ'.g (Fl.COL_STAT_BUSY c.val) = ρ.g (Fl.COL_STAT_BUSY c.val) ∧
  ρ'.g (Fl.COL_STAT_TRIG c.val) = ρ.g (Fl.COL_STAT_TRIG c.val) ∧ (∀ d, d ≠ c → ρ'.col d = ρ.col d) ∧
  ρ.keepsRegs ρ' (Rg.COL_STAT c.val :: ex) ∧ ρ'.agrees { ρ with rk := { ρ.rk with cols := ρ'.rk.cols }, ls := ρ'.ls }

/-- An exception has stopped the block of a column, or started its next waiting trigger: event and record, and nothing written by
the instruction (R324). -/
def Rod.trapped (ρ ρ' : Rod) (c : Fin 4) : Prop :=
  (∀ i, i < 32 → ρ'.v c i = ρ.v c i) ∧ (∀ j, j < 4 → ρ'.acc c j = ρ.acc c j) ∧ ρ'.rk.sig = ρ.rk.sig ∧
  ρ'.raised (colPage c) 4 ∧ ρ'.recorded 0x0840 sevWarn (colPage c) ∧
  ((ρ.col c).waiting = [] → ρ'.b (Fl.COL_STAT_BUSY c.val) = false) ∧ ρ'.gw (Rg.COL_FLAGS c.val) = ρ.gw (Rg.COL_FLAGS c.val)

/-- The value registers with register `d` replaced. -/
def Rod.vSet (ρ : Rod) (c : Fin 4) (d : Nat) (w : Word) (i : Nat) : Word := if i = d then w else ρ.v c i

/-- The accumulators with accumulator `d` replaced. -/
def Rod.accSet (ρ : Rod) (c : Fin 4) (d : Nat) (x : Int) (j : Nat) : Int := if j = d then x else ρ.acc c j

/-- The address after the instruction at the PC: the next one, or the top of a REPEAT body (R323). -/
def Rod.after (ρ : Rod) (c : Fin 4) : Nat := (nextPc (ρ.pcOf c) (ρ.col c).rep).1

/-- What a sticky flag of a column does (R278 to R280, R307): where `fires`, COL_FLAGS reads with the flag 1, and if it was 0 the
event bit of the page is set; nothing else of the two registers changes. -/
def Rod.sticks (ρ ρ' : Rod) (c : Fin 4) (f : Fld) (bit : Nat) (fires : Bool) : Prop :=
  ρ'.gw (Rg.COL_FLAGS c.val) = (if fires then wPut (ρ.gw (Rg.COL_FLAGS c.val)) f.lo 1 1 else ρ.gw (Rg.COL_FLAGS c.val)) ∧
  ρ'.gw (Rg.IRQ_RAW (colPage c)) =
    (if fires && !ρ.b f then ρ.gw (Rg.IRQ_RAW (colPage c)) ||| BitVec.ofNat 32 (2 ^ bit) else ρ.gw (Rg.IRQ_RAW (colPage c)))

/-- A command of a queue that waits there alone and can start at once in this rod (R199, R202): the queue runs with room in its
completion ring, the arguments and the state allow the command, and the DMA channels are free. -/
abbrev Rod.waitsAlone (ρ : Rod) (q : Fin 16) (cid : BitVec 16) (c : Cmd) : Prop :=
  ρ.qpOn q = true ∧ (ρ.qp q).cmds = [c] ∧ (ρ.qp q).held = [] ∧ 16 < ρ.cqFree q ∧
  ρ.addr64 (Fl.CQ_BASE_LO_ADDR q) (Fl.CQ_BASE_HI_ADDR q) % 16 = 0 ∧ c.desc.cid = cid ∧ c.run = false ∧ c.due = false ∧ c.ranks = 0 ∧
  ρ.target c.desc = ρ.me ∧ argStatus c.desc = 0 ∧ ρ.stateStatus q c.desc = 0 ∧ ∀ ch : Fin 4, ρ.chan ch = []

/-- No rank is held or waited for (R220, R222). -/
abbrev Rod.unranked (ρ : Rod) (q : Fin 16) : Prop :=
  (∀ k : Fin 4, ρ.holder (k.val + 1) = 0xFF) ∧ ρ.hp.ranks = [] ∧ ρ.g (Fl.QP_LOCKS_HELD q) = 0

/-- The completion of a command is written at CQ_TAIL, which moves on, and the command has left its queue (R197, R198, R200). -/
def Rod.posts (ρ ρ' : Rod) (q : Fin 16) (cid : BitVec 16) (status result : Nat) (irq : Bool) : Prop :=
  let n := max 1 (ρ.g (Fl.QP_SIZE_CQ_LEN q))
  let tail := ρ.g (Fl.CQ_TAIL_TAIL q)
  let phase := (ρ.qp q).phase
  Out.hostWrite (ρ.addr64 (Fl.CQ_BASE_LO_ADDR q) (Fl.CQ_BASE_HI_ADDR q) + 16 * tail)
      (leBytes 2 cid.toNat ++ leBytes 2 (ρ.g (Fl.SQ_HEAD_HEAD q)) ++ leBytes 4 (status + 2 ^ 31 * b2n phase) ++ leBytes 8 result) ∈ ρ'.out ∧
  ρ'.g (Fl.CQ_TAIL_TAIL q) = (tail + 1) % n % 4096 ∧ (ρ'.qp q).phase = (if tail + 1 = n then !phase else phase) ∧
  (ρ'.qp q).cmds = [] ∧ (ρ'.qp q).held = [] ∧ (irq = true → ρ'.raised (0x010 + q.val) 0)

/-- The registers that the end of a command of a queue writes. -/
def endRegs (q : Fin 16) : List Nat :=
  [Rg.CQ_TAIL q, Rg.IRQ_RAW (0x010 + q.val), Rg.RES_HOLD, Rg.DMA_STAT 0, Rg.DMA_STAT 1, Rg.DMA_STAT 2, Rg.DMA_STAT 3]

end Sys2Proof.Machine
end

