-- ==== Sys2Proof/Certificates/Slice0/Obligations.lean ====
section
/-! DEFINITION. The statements about the model, each with the rules of spec/ it rests on. -/

open Sys2Proof
open Sys2Proof.Machine

/-- Every command answers a next state, leaves the queue, and changes no rod but its own unless it is one that reaches the
partners (spec/01_architecture.md R19, spec/01_architecture.md R39). For every command and state exec answers a next state (no
command of this block faults or is refused); the waiting commands are as before; unless the command is one of those whose effect
reaches the partners at once (Instr.shared), the two other rods are exactly as before; and no record of the command is held back
in the rod it reached. -/
def Obligations.EveryCommandCompletesOnItsRod : Prop :=
  ∀ (c : Instr) (s : State), ∃ t, exec c s = .next t ∧ t.pending = s.pending ∧
    (Instr.shared c = false → ∀ q, q ≠ c.rod → t.rod q = s.rod q) ∧
    (s.quiet → t.quiet)

/-- A step runs the command at the front of the queue with the queue's rest (spec/00_scope.md). For every command c and state s,
step of s with c at the front of its queue is exec of c on s, whose queue is the rest. -/
def Obligations.StepRunsTheFrontCommand : Prop :=
  ∀ (c : Instr) (s : State), step { s with pending := c :: s.pending } = exec c s

/-- With no command waiting FT steps in every rod whose PWM clock runs, and the clocks that the model counts (the model's
choice, log entry 2) (spec/00_scope.md R9, spec/17_clocks.md Table 17.3, spec/05_flexray.md R175). With an empty queue the step
is next, and no command waits. Each rod whose PWM domain runs has its FT one step of 12.5 ns further, each that has started or
wakes its time since power-on, and the intervals of VAON that run go on; a wakeup pattern that comes to its end leaves POC
wakeup for ready. Nothing else of any rod changes. -/
def Obligations.EmptyQueueStepsTime : Prop :=
  ∀ s : State, s.pending = [] → ∃ t, step s = .next t ∧ t.pending = [] ∧ ∀ r,
    let ρ := s.rod r
    let on : Rod := { ρ with aon := ρ.aon.count, ftn := ρ.ftn + b2n (ρ.clkOn 3)
                             ck := { ρ.ck with up := ρ.ck.up + b2n (ρ.ck.started || ρ.aon.pewake) } }
    (ρ.fr.waking = false ∨ on.ck.up < ρ.fr.wakeEnd → ρ.recBuf = [] → t.rod r = on) ∧
    (ρ.fr.waking = true → ρ.fr.wakeEnd ≤ on.ck.up →
      (t.rod r).g Fl.FR_STAT_POC = 2 ∧ (t.rod r).fr.waking = false ∧
      on.only (t.rod r) [Rg.FR_STAT, Rg.IRQ_RAW 0x030] { on with fr := { on.fr with waking := false } })

/-- Between commands no fault record is held back and every waiting command is well formed: every step keeps it
(spec/01_architecture.md R39). From every state in which no rod holds back a record (R39) and every waiting command is well
formed, a step that answers a next state answers one of which the same holds. -/
def Obligations.EveryStepLeavesNoRecordBehind : Prop :=
  ∀ s t : State, s.quiet → s.queueWf → step s = .next t → t.quiet ∧ t.queueWf

/-- Reset: the invariants hold, no command waits, every rod is OFF in DORMANT, and each axis is led by its own rod
(spec/01_architecture.md R30, spec/03_operating_modes.md, spec/10_axis_control.md Table 10.12). In the reset state no record is
held back, every waiting command is well formed, the tables are in canonical form, the queue is empty, every rod shows state OFF
and mode DORMANT, and LEAD of axes 0, 1 and 2 is X, Y and Z. -/
def Obligations.ResetMeetsTheInvariants : Prop :=
  State.reset.quiet ∧ State.reset.queueWf ∧ State.reset.wf = true ∧ State.reset.pending = [] ∧
  ∀ r, (State.reset.rod r).me = r ∧ (State.reset.rod r).state = RS.off ∧ (State.reset.rod r).mode = SM.dormant ∧
    (State.reset.rod r).g (Fl.AX_CFG_LEAD 0) = 0 ∧ (State.reset.rod r).g (Fl.AX_CFG_LEAD 1) = 1 ∧
    (State.reset.rod r).g (Fl.AX_CFG_LEAD 2) = 2

/-- MOV, MOVI, RID, ADDW, SUBW, MULW, MIN, MAX, AND, OR, XOR and NOP issue, write their result and change nothing else
(spec/09_reckoner_instructions.md Table 9.2, spec/09_reckoner_instructions.md R311). Where its word issues (a block runs, the
program holds the word at the PC, unused fields are 0), each of these instructions answers a next state in which v[D] holds the
result of Table 9.2, the PC is at the next address (R323 within a REPEAT body), one cycle has passed, and every other value
register, every accumulator, every flag, every other register, the signal memory and every other column are as before. NOP
writes no register. Under these conditions, of state and operands alone, exec of MOV, MOVI, NOP_INSTRUCTION, RID, ADDW, SUBW,
MULW, MIN, MAX, AND, OR and XOR each answer a next state. -/
def Obligations.PlainInstructionsWriteOneRegister : Prop :=
  ∀ (s : State) (r : RodId) (c : Fin 4) (f : BitVec 56),
    let ρ := s.rod r
    let x := ρ.v c (fA f)
    let y := ρ.v c (fB f)
    let does (i : Instr) (opc used : Nat) (V : Nat → Word) : Prop :=
      ρ.takes c opc f used → completes i s fun t =>
        ρ.columnStep (t.rod r) c 1 (ρ.after c) V (ρ.acc c) [] ∧ (ρ.recBuf = [] → ρ.noRecord (t.rod r))
    does (.mov r c f) 0x05 (mD ||| mA) (ρ.vSet c (fD f) x) ∧
    does (.movi r c f) 0x06 (mD ||| mImm) (ρ.vSet c (fD f) (BitVec.ofNat 32 (fImm f))) ∧
    does (.nopInstruction r c f) 0x07 0 (ρ.v c) ∧
    does (.rid r c f) 0x08 mD (ρ.vSet c (fD f) (BitVec.ofNat 32 ρ.me.code)) ∧
    does (.addw r c f) 0x12 (mD ||| mA ||| mB) (ρ.vSet c (fD f) (x + y)) ∧
    does (.subw r c f) 0x13 (mD ||| mA ||| mB) (ρ.vSet c (fD f) (x - y)) ∧
    does (.mulw r c f) 0x14 (mD ||| mA ||| mB) (ρ.vSet c (fD f) (x * y)) ∧
    does (.min r c f) 0x17 (mD ||| mA ||| mB) (ρ.vSet c (fD f) (if x.toInt ≤ y.toInt then x else y)) ∧
    does (.max r c f) 0x18 (mD ||| mA ||| mB) (ρ.vSet c (fD f) (if x.toInt ≤ y.toInt then y else x)) ∧
    does (.and r c f) 0x1C (mD ||| mA ||| mB) (ρ.vSet c (fD f) (x &&& y)) ∧
    does (.or r c f) 0x1D (mD ||| mA ||| mB) (ρ.vSet c (fD f) (x ||| y)) ∧
    does (.xor r c f) 0x1E (mD ||| mA ||| mB) (ρ.vSet c (fD f) (x ^^^ y))

/-- ADDS, SUBS, NEGS, ABSS, TLI and CLU write the nearer 32-bit limit, and set SAT where they limit
(spec/09_reckoner_instructions.md R316, spec/09_reckoner_instructions.md R319, spec/09_reckoner_instructions.md R320,
spec/08_reckoner.md R307). Where its word issues with operands its table allows, each of these instructions answers a next state
in which v[D] holds the exact result limited to 32 bits; SAT is set, with its event and record 0x0820 where it was 0, exactly
where the result lies outside; the PC moves on, the cycles of Table 9.2 pass, and nothing else changes. Under these conditions,
of state and operands alone, exec of ADDS, SUBS, NEGS, ABSS, TLI and CLU each answer a next state. -/
def Obligations.SaturatingInstructionsSetSat : Prop :=
  ∀ (s : State) (r : RodId) (c : Fin 4) (f : BitVec 56),
    let ρ := s.rod r
    let x := (ρ.v c (fA f)).toInt
    let y := (ρ.v c (fB f)).toInt
    let does (i : Instr) (opc used cyc : Nat) (z : Int) : Prop :=
      ρ.takes c opc f used → completes i s fun t =>
        let w := clampI (-2147483648) 2147483647 z
        ρ.columnStep (t.rod r) c cyc (ρ.after c) (ρ.vSet c (fD f) (BitVec.ofInt 32 w)) (ρ.acc c)
          [Rg.COL_FLAGS c.val, Rg.IRQ_RAW (colPage c)] ∧
        ρ.sticks (t.rod r) c (Fl.COL_FLAGS_SAT c.val) 0 (decide (z ≠ w)) ∧
        (z ≠ w → ρ.b (Fl.COL_FLAGS_SAT c.val) = false → (t.rod r).recorded 0x0820 sevInfo (colPage c)) ∧
        (z = w → ρ.recBuf = [] → ρ.noRecord (t.rod r))
    does (.adds r c f) 0x10 (mD ||| mA ||| mB) 1 (x + y) ∧
    does (.subs r c f) 0x11 (mD ||| mA ||| mB) 1 (x - y) ∧
    does (.negs r c f) 0x15 (mD ||| mA) 1 (-x) ∧
    does (.abss r c f) 0x16 (mD ||| mA) 1 |x| ∧
    (fAx f < 3 → fTs f < 2 → does (.tli r c f) 0x31 (mD ||| mA ||| mAx ||| mTs) 3 (ρ.tliValue c (ρ.v c (fA f)) (fAx f) (fTs f))) ∧
    (fAx f < 3 → does (.clu r c f) 0x32 (mD ||| mA ||| mAx) 3
      (ρ.cluValue (bankBit ((ρ.col c).tblB.get (axisOf (fAx f))) 2) (ρ.v c (fA f)) (fAx f)))

/-- CLRA, LDA, MACC, MSCC, MACV, MSCV and BIAS write one accumulator, clamped to 72 bits with AOV (R277, R278). Where its word
issues (a coefficient address below 4,096), each answers a next state in which accumulator ACC holds the sum of Table 9.2: the
exact product shifted right arithmetically by 16 minus k places, added or subtracted, clamped to 72 bits; AOV is set, with its
event and record 0x0820 where it was 0, exactly where the sum lies outside; one cycle passes and nothing else changes. Under
these conditions, of state and operands alone, exec of CLRA, LDA, MACC, MSCC, MACV, MSCV and BIAS each answer a next state. -/
def Obligations.AccumulatorsClampAndSetAov : Prop :=
  ∀ (s : State) (r : RodId) (c : Fin 4) (f : BitVec 56),
    let ρ := s.rod r
    let x := (ρ.v c (fA f)).toInt
    let y := (ρ.v c (fB f)).toInt
    let old := ρ.acc c (fAcc f)
    let m := (ρ.coefOf c (fAddr f)).1
    let k := (ρ.coefOf c (fAddr f)).2
    let term (p k : Int) : Int := p / 2 ^ (16 - k).toNat
    let does (i : Instr) (opc used : Nat) (z : Int) : Prop :=
      ρ.takes c opc f used → completes i s fun t =>
        let w := clampI (-(2 ^ 71)) (2 ^ 71 - 1) z
        ρ.columnStep (t.rod r) c 1 (ρ.after c) (ρ.v c) (ρ.accSet c (fAcc f) w) [Rg.COL_FLAGS c.val, Rg.IRQ_RAW (colPage c)] ∧
        ρ.sticks (t.rod r) c (Fl.COL_FLAGS_AOV c.val) 1 (decide (z ≠ w)) ∧
        (z ≠ w → ρ.b (Fl.COL_FLAGS_AOV c.val) = false → (t.rod r).recorded 0x0820 sevInfo (colPage c)) ∧
        (z = w → ρ.recBuf = [] → ρ.noRecord (t.rod r))
    does (.clra r c f) 0x20 mAcc 0 ∧
    does (.lda r c f) 0x21 (mAcc ||| mA ||| mE) (x * 2 ^ fE f) ∧
    (fAddr f < 4096 → does (.macc r c f) 0x22 (mAcc ||| mA ||| mAddr) (old + term (x * m) k)) ∧
    (fAddr f < 4096 → does (.mscc r c f) 0x23 (mAcc ||| mA ||| mAddr) (old - term (x * m) k)) ∧
    does (.macv r c f) 0x24 (mAcc ||| mA ||| mB ||| mK) (old + term (x * y) (fK f)) ∧
    does (.mscv r c f) 0x25 (mAcc ||| mA ||| mB ||| mK) (old - term (x * y) (fK f)) ∧
    (fAddr f < 4096 → does (.bias r c f) 0x26 (mAcc ||| mAddr) (old + term (m * 2 ^ 31) k))

/-- EXT rounds half away from zero, limits to 32 bits with SAT, and sets N and Z from the final result (R279). Where its word
issues, EXT answers a next state in which v[D] holds acc times 2 to the power of minus e, rounded half away from zero and
limited to 32 bits; SAT is set where it was limited; N and Z are the sign and zero state of the final result; the other flags
stay; two cycles pass and nothing else changes. Under these conditions, of state and operands alone, exec of EXT answers a next
state. -/
def Obligations.ExtractionRoundsAndFlags : Prop :=
  ∀ (s : State) (r : RodId) (c : Fin 4) (f : BitVec 56),
    let ρ := s.rod r
    ρ.takes c 0x27 f (mD ||| mAcc ||| mE) → completes (.ext r c f) s fun t =>
      let a := ρ.acc c (fAcc f)
      let z := if 0 ≤ a then (2 * a + 2 ^ fE f) / (2 * 2 ^ fE f) else -((2 * -a + 2 ^ fE f) / (2 * 2 ^ fE f))
      let w := clampI (-2147483648) 2147483647 z
      ρ.columnStep (t.rod r) c 2 (ρ.after c) (ρ.vSet c (fD f) (BitVec.ofInt 32 w)) (ρ.acc c)
        [Rg.COL_FLAGS c.val, Rg.IRQ_RAW (colPage c)] ∧
      (t.rod r).b (Fl.COL_FLAGS_N c.val) = decide (w < 0) ∧ (t.rod r).b (Fl.COL_FLAGS_Z c.val) = decide (w = 0) ∧
      (t.rod r).b (Fl.COL_FLAGS_SAT c.val) = (ρ.b (Fl.COL_FLAGS_SAT c.val) || decide (z ≠ w)) ∧
      (t.rod r).g (Fl.COL_FLAGS_AOV c.val) = ρ.g (Fl.COL_FLAGS_AOV c.val) ∧
      (t.rod r).g (Fl.COL_FLAGS_PROT c.val) = ρ.g (Fl.COL_FLAGS_PROT c.val) ∧
      (t.rod r).g (Fl.COL_FLAGS_COLL c.val) = ρ.g (Fl.COL_FLAGS_COLL c.val) ∧
      (z = w → (t.rod r).gw (Rg.IRQ_RAW (colPage c)) = ρ.gw (Rg.IRQ_RAW (colPage c)))

/-- CLMP, ASR, LSL, SINCOS and LIMC write the registers Table 9.2 gives them and nothing else (spec/09_reckoner_instructions.md
Table 9.2, spec/09_reckoner_instructions.md R318, spec/09_reckoner_instructions.md R321). Where its word issues with the
operands the table allows (CLMP v[B] not negative, shifts of 0 to 31, D of 0 to 30 for SINCOS and LIMC, LIMC radius not
negative), each answers a next state with its results in v[D] (and v[D+1]), its cycles passed, and every other register, flag
and word as before. LIMC leaves a vector within the radius as it is. Under these conditions, of state and operands alone, exec
of CLMP, ASR, LSL, SINCOS and LIMC each answer a next state. -/
def Obligations.ShiftClampSincosLimcComplete : Prop :=
  ∀ (s : State) (r : RodId) (c : Fin 4) (f : BitVec 56),
    let ρ := s.rod r
    let x := (ρ.v c (fA f)).toInt
    let y := (ρ.v c (fB f)).toInt
    let a := (ρ.v c (fD f)).toInt
    let b := (ρ.v c (fD f + 1)).toInt
    let does (i : Instr) (opc used cyc : Nat) (V : Nat → Word) : Prop :=
      ρ.takes c opc f used → completes i s fun t =>
        ρ.columnStep (t.rod r) c cyc (ρ.after c) V (ρ.acc c) [] ∧ (ρ.recBuf = [] → ρ.noRecord (t.rod r))
    let two (u v : Word) (i : Nat) : Word := if i = fD f then u else if i = fD f + 1 then v else ρ.v c i
    (0 ≤ y → does (.clmp r c f) 0x19 (mD ||| mA ||| mB) 1 (ρ.vSet c (fD f) (BitVec.ofInt 32 (min (max x (-y)) y)))) ∧
    (fE f < 32 → does (.asr r c f) 0x1A (mD ||| mA ||| mE) 1 (ρ.vSet c (fD f) (BitVec.ofInt 32 (x / 2 ^ fE f)))) ∧
    (fE f < 32 → does (.lsl r c f) 0x1B (mD ||| mA ||| mE) 1 (ρ.vSet c (fD f) (ρ.v c (fA f) <<< fE f))) ∧
    (fD f < 31 → does (.sincos r c f) 0x30 (mD ||| mA) 4 (two (sinCos (ρ.v c (fA f))).1 (sinCos (ρ.v c (fA f))).2)) ∧
    (fD f < 31 → 0 ≤ x → a * a + b * b ≤ x * x → does (.limc r c f) 0x33 (mD ||| mA) 8 (ρ.v c)) ∧
    (fD f < 31 → 0 ≤ x → x * x < a * a + b * b → does (.limc r c f) 0x33 (mD ||| mA) 8
      (two (BitVec.ofInt 32 (limc a b x).1) (BitVec.ofInt 32 (limc a b x).2)))

/-- LD and LDX read signal memory as it stood before this cycle; ST and STX write a word the column may write, and any other
store sets PROT instead (spec/08_reckoner.md R284, spec/08_reckoner.md Table 8.2, spec/09_reckoner_instructions.md Table 9.2,
spec/08_reckoner.md R280, spec/08_reckoner.md R281). LD and LDX answer a next state with the word in v[D]: the stored word, or
where another column or the hardware has written it in this very cycle the value from before that write (R284). ST and STX of
general working memory that no other column writes in this cycle store v[B] at that word; every other word of signal memory,
every value register, flag and register is as before. A store by ST to the sample area, to an axis input, to a partner slot, to
a reserved word of the region map, or of a duty word with bits [31:24] not 0, leaves every word of signal memory as it was; PROT
reads 1, and where it was 0 its event is set and record 0x0831 written. Under these conditions, of state and operands alone,
exec of LD, LDX, ST and STX each answer a next state. -/
def Obligations.LoadsAndStoresReachSignalMemory : Prop :=
  (∀ (s : State) (r : RodId) (c : Fin 4) (f : BitVec 56),
    let ρ := s.rod r
    let idx := ((ρ.v c (fA f)).toNat + fAddr f) % 16384
    let before (w : Nat) : Word :=
      match ρ.rk.wlog.find? fun e => e.1 == w && e.2.1 == ρ.nowOf c && e.2.2.1 != c.val with
      | some e => e.2.2.2
      | none => ρ.sg w
    let loads (i : Instr) (opc used w : Nat) : Prop :=
      ρ.takes c opc f used → completes i s fun t =>
        ρ.columnStep (t.rod r) c 1 (ρ.after c) (ρ.vSet c (fD f) (before w)) (ρ.acc c) [] ∧ (ρ.recBuf = [] → ρ.noRecord (t.rod r))
    let stores (i : Instr) (opc used w : Nat) : Prop :=
      ρ.takes c opc f used → 0x800 ≤ w →
      (∀ e ∈ ρ.rk.wlog, e.1 = w → e.2.1 = ρ.nowOf c → e.2.2.1 = c.val ∨ 4 ≤ e.2.2.1) → completes i s fun t =>
        (t.rod r).sg w = ρ.v c (fB f) ∧ (∀ u, u < 16384 → u ≠ w → (t.rod r).sg u = ρ.sg u) ∧
        (∀ i, i < 32 → (t.rod r).v c i = ρ.v c i) ∧ (∀ j, j < 4 → (t.rod r).acc c j = ρ.acc c j) ∧
        (t.rod r).pcOf c = ρ.after c % 2 ^ 14 ∧ ((t.rod r).col c).cyc = (ρ.col c).cyc + 1 ∧
        ρ.keepsRegs (t.rod r) [Rg.COL_STAT c.val] ∧
        (t.rod r).agrees { ρ with rk := { ρ.rk with cols := (t.rod r).rk.cols, sig := (t.rod r).rk.sig, wlog := (t.rod r).rk.wlog }
                                  ls := (t.rod r).ls } ∧
        (ρ.recBuf = [] → ρ.noRecord (t.rod r))
    loads (.ld r c f) 0x01 (mD ||| mAddr) (fAddr f) ∧
    loads (.ldx r c f) 0x02 (mD ||| mA ||| mAddr) idx ∧
    stores (.st r c f) 0x03 (mB ||| mAddr) (fAddr f) ∧
    stores (.stx r c f) 0x04 (mA ||| mB ||| mAddr) idx) ∧
  (∀ (s : State) (r : RodId) (c : Fin 4) (f : BitVec 56),
    let ρ := s.rod r
    let w := fAddr f
    let v := ρ.v c (fB f)
    (w < 0x140 ∨ (0x309 ≤ w ∧ w < 0x400) ∨ (0x580 ≤ w ∧ w < 0x800) ∨
      (∃ p ∈ ρ.me.partners, slotW p 0 ≤ w ∧ w ≤ slotW p 31) ∨ (0x300 ≤ w ∧ w ≤ 0x308 ∧ 2 ^ 24 ≤ v.toNat)) →
    ρ.takes c 0x03 f (mB ||| mAddr) → completes (.st r c f) s fun t =>
      (∀ u, (t.rod r).sg u = ρ.sg u) ∧ (t.rod r).hb = ρ.hb ∧
      (∀ i, i < 32 → (t.rod r).v c i = ρ.v c i) ∧ (t.rod r).pcOf c = ρ.after c % 2 ^ 14 ∧
      ρ.sticks (t.rod r) c (Fl.COL_FLAGS_PROT c.val) 2 true ∧
      (ρ.b (Fl.COL_FLAGS_PROT c.val) = false → (t.rod r).recorded 0x0831 sevWarn (colPage c)) ∧
      ρ.keepsRegs (t.rod r) [Rg.COL_STAT c.val, Rg.COL_FLAGS c.val, Rg.IRQ_RAW (colPage c)] ∧
      (t.rod r).agrees { ρ with rk := { ρ.rk with cols := (t.rod r).rk.cols }, ls := (t.rod r).ls })

/-- A branch goes to its target if taken and on otherwise in two cycles, and traps if its target is not ahead and inside the
program (R322). Where BLT, BGE, BEQ, BNE or JMP issues outside a REPEAT body with a target above its own address and below the
program's length, it answers a next state whose PC is the target if its condition holds and the next address otherwise, two
cycles on, nothing else changed. A target that breaks this rule stops the block with record 0x0840 whether or not the branch is
taken. Under these conditions, of state and operands alone, exec of BLT, BGE, BEQ, BNE and JMP each answer a next state. -/
def Obligations.BranchesGoForwardOrTrap : Prop :=
  ∀ (s : State) (r : RodId) (c : Fin 4) (f : BitVec 56),
    let ρ := s.rod r
    let x := (ρ.v c (fA f)).toInt
    let y := (ρ.v c (fB f)).toInt
    let does (i : Instr) (opc used : Nat) (taken : Prop) : Prop :=
      ρ.takes c opc f used → (ρ.col c).rep = none →
        (ρ.pcOf c < fAddr f → fAddr f < ρ.progLen → completes i s fun t =>
          (taken → ρ.columnStep (t.rod r) c 2 (fAddr f) (ρ.v c) (ρ.acc c) []) ∧
          (¬taken → ρ.columnStep (t.rod r) c 2 (ρ.pcOf c + 1) (ρ.v c) (ρ.acc c) [])) ∧
        (fAddr f ≤ ρ.pcOf c ∨ ρ.progLen ≤ fAddr f → completes i s fun t => ρ.trapped (t.rod r) c)
    does (.blt r c f) 0x38 (mA ||| mB ||| mAddr) (x < y) ∧
    does (.bge r c f) 0x39 (mA ||| mB ||| mAddr) (y ≤ x) ∧
    does (.beq r c f) 0x3A (mA ||| mB ||| mAddr) (ρ.v c (fA f) = ρ.v c (fB f)) ∧
    does (.bne r c f) 0x3B (mA ||| mB ||| mAddr) (ρ.v c (fA f) ≠ ρ.v c (fB f)) ∧
    does (.jmp r c f) 0x3C mAddr True

/-- REPEAT arms its body, HALT ends the block, CLRF clears the four sticky flags (spec/09_reckoner_instructions.md R317,
spec/09_reckoner_instructions.md R323, spec/08_reckoner.md R270, spec/08_reckoner.md Table 8.10). REPEAT outside a body, whose
body lies within the program, answers a next state with the body of LEN instructions to run CNT + 1 times. HALT outside a body
with no trigger waiting, of a block that is not a lead's OUTER block, clears BUSY and shows the block's cycles. CLRF clears SAT,
AOV, PROT and COLL and leaves N and Z. Value registers and accumulators stay. Under these conditions, of state and operands
alone, exec of REPEAT, CLRF and HALT each answer a next state. -/
def Obligations.RepeatHaltAndClrfComplete : Prop :=
  ∀ (s : State) (r : RodId) (c : Fin 4) (f : BitVec 56),
    let ρ := s.rod r
    let n := fAddr f % 64 + 1
    (ρ.takes c 0x3D f (mCnt ||| 0x3F) → (ρ.col c).rep = none → ρ.pcOf c + n < ρ.progLen →
      completes (.repeatN r c f) s fun t =>
        ρ.columnStep (t.rod r) c 1 (ρ.pcOf c + 1) (ρ.v c) (ρ.acc c) [] ∧
        ((t.rod r).col c).rep = some (ρ.pcOf c + 1, n, fCnt f, true)) ∧
    (ρ.takes c 0x3E f 0 → completes (.clrf r c f) s fun t =>
      ρ.columnStep (t.rod r) c 1 (ρ.after c) (ρ.v c) (ρ.acc c) [Rg.COL_FLAGS c.val] ∧
      (t.rod r).gw (Rg.COL_FLAGS c.val) = ρ.gw (Rg.COL_FLAGS c.val) &&& 0x0FFFFFFF#32) ∧
    (ρ.takes c 0x3F f 0 → (ρ.col c).rep = none → (ρ.col c).waiting = [] → (ρ.col c).src ≠ 2 →
      completes (.halt r c f) s fun t =>
        (t.rod r).b (Fl.COL_STAT_BUSY c.val) = false ∧ (t.rod r).pcOf c = ρ.pcOf c ∧
        (t.rod r).g (Fl.TRIG_USE_LAST c.val (ρ.g (Fl.COL_STAT_TRIG c.val))) = min 0xFFFF ((ρ.col c).used + 1) ∧
        (∀ i, i < 32 → (t.rod r).v c i = ρ.v c i) ∧ (∀ j, j < 4 → (t.rod r).acc c j = ρ.acc c j) ∧
        ρ.keepsRegs (t.rod r) [Rg.COL_STAT c.val, Rg.TRIG_USE c.val (ρ.g (Fl.COL_STAT_TRIG c.val))] ∧
        (t.rod r).agrees { ρ with rk := { ρ.rk with cols := (t.rod r).rk.cols }, ls := (t.rod r).ls })

/-- An instruction that meets a condition of Table 9.4 writes nothing and stops its block with record 0x0840
(spec/09_reckoner_instructions.md R324, spec/09_reckoner_instructions.md Table 9.4). An opcode outside Table 9.2, a fetch past
the program, an unused field that is not 0, CLMP with a negative limit, a shift above 31, SINCOS or LIMC into register 31, LIMC
with a negative radius, and REPEAT or HALT inside a REPEAT body each answer a next state in which the block has stopped or the
next waiting trigger has started, event EXCEPTION is set and record 0x0840 written, and no value register, accumulator or word
of signal memory has changed. Under these conditions, of state and operands alone, exec of ILLEGAL_OPCODE answers a next state.
-/
def Obligations.ExceptionsStopTheBlock : Prop :=
  ∀ (s : State) (r : RodId) (c : Fin 4) (f : BitVec 56),
    let ρ := s.rod r
    let traps (i : Instr) : Prop := completes i s fun t => ρ.trapped (t.rod r) c
    (∀ opc : Byte, legalOpc opc.toNat = false → ρ.reads c opc.toNat f (2 ^ 56 - 1) → traps (.illegalOpcode r c opc f)) ∧
    (ρ.issues c 0x12 f = true → ρ.progLen ≤ ρ.pcOf c → traps (.addw r c f)) ∧
    (ρ.issues c 0x12 f = true → ρ.pcOf c < ρ.progLen → f.toNat &&& (2 ^ 56 - 1 - (mD ||| mA ||| mB)) ≠ 0 → traps (.addw r c f)) ∧
    (ρ.reads c 0x19 f (mD ||| mA ||| mB) → (ρ.v c (fB f)).toInt < 0 → traps (.clmp r c f)) ∧
    (ρ.reads c 0x1A f (mD ||| mA ||| mE) → 31 < fE f → traps (.asr r c f)) ∧
    (ρ.reads c 0x1B f (mD ||| mA ||| mE) → 31 < fE f → traps (.lsl r c f)) ∧
    (ρ.reads c 0x30 f (mD ||| mA) → fD f = 31 → traps (.sincos r c f)) ∧
    (ρ.reads c 0x33 f (mD ||| mA) → fD f = 31 ∨ (ρ.v c (fA f)).toInt < 0 → traps (.limc r c f)) ∧
    (ρ.reads c 0x3D f (mCnt ||| 0x3F) → (ρ.col c).rep.isSome = true → traps (.repeatN r c f)) ∧
    (ρ.reads c 0x3F f 0 → (ρ.col c).rep.isSome = true → traps (.halt r c f))

/-- A host write that is accepted changes its own register alone: an RW register in force, an RWS register in its shadow, a pair
at its upper half (spec/00_scope.md R8, spec/02_register_pages.md R56, spec/00_scope.md Table 0.3). Where a 32-bit write is
accepted, exec of REGISTER_WRITE and of PAIR_HI_WRITE answers a next state: REGISTER_WRITE of FAULT_IRQ, and of PG_CTRL of every
listed page, stores the writable bits and keeps the others; of any staged register of the FlexRay, axis and feedback pages it
leaves the value in force and stores the shadow, and of any plain RW register there its RW bits; of SQ_BASE_LO of a queue page
it waits; and PAIR_HI_WRITE of SQ_BASE_HI then sets both shadows from the waiting lower half, as one 64-bit REGISTER_WRITE of
the pair does. No other register changes, and no access error is captured. Under these conditions, of state and operands alone,
exec of REGISTER_WRITE and PAIR_HI_WRITE each answer a next state. -/
def Obligations.RegisterWriteReachesItsRegister : Prop :=
  ∀ (s : State) (r : RodId) (path : Path) (data : Word),
    let ρ := s.rod r
    (ρ.accepts path Rg.FAULT_IRQ → completes (.registerWrite r path Rg.FAULT_IRQ 4 (data.setWidth 64)) s fun t =>
      (t.rod r).gw Rg.FAULT_IRQ = (ρ.gw Rg.FAULT_IRQ &&& ~~~0x1F1F#32) ||| (data &&& 0x1F1F#32) ∧
      ρ.keepsRegs (t.rod r) [Rg.FAULT_IRQ] ∧ (t.rod r).agrees ρ) ∧
    (∀ p, ρ.accepts path (Rg.PG_CTRL p) → completes (.registerWrite r path (Rg.PG_CTRL p) 4 (data.setWidth 64)) s fun t =>
      (t.rod r).gw (Rg.PG_CTRL p) = (ρ.gw (Rg.PG_CTRL p) &&& ~~~0x101#32) ||| (data &&& 0x101#32) ∧
      ρ.keepsRegs (t.rod r) [Rg.PG_CTRL p] ∧ (t.rod r).agrees ρ) ∧
    (∀ a row, a / 0x1000 ∈ [0x030, 0x070, 0x071, 0x072, 0x080, 0x081, 0x082] → 0x40 ≤ a % 0x1000 → regRow a = some row → row.w1c = 0#32 →
      row.rwl = 0#32 → ρ.accepts path a →
      (row.rw = 0#32 → row.rws ≠ 0#32 → completes (.registerWrite r path a 4 (data.setWidth 64)) s fun t =>
        (t.rod r).shadowW a &&& rwsMask a = data &&& rwsMask a ∧ ρ.keepsRegs (t.rod r) [] ∧
        (t.rod r).agrees { ρ with shadow := (t.rod r).shadow }) ∧
      (row.rw ≠ 0#32 → row.rws = 0#32 → a ∉ [Rg.INJ_CMD 0, Rg.INJ_CMD 1, Rg.INJ_CMD 2] →
        completes (.registerWrite r path a 4 (data.setWidth 64)) s fun t =>
          (t.rod r).gw a = (ρ.gw a &&& ~~~row.rw) ||| (data &&& row.rw) ∧ ρ.keepsRegs (t.rod r) [a] ∧ (t.rod r).agrees ρ)) ∧
    (∀ q : Fin 16, ρ.accepts path (Rg.SQ_BASE_LO q.val) →
      completes (.registerWrite r path (Rg.SQ_BASE_LO q.val) 4 (data.setWidth 64)) s fun t =>
        Sparse.get 0#32 (t.rod r).loPend (Rg.SQ_BASE_LO q.val) = data ∧ ρ.keepsRegs (t.rod r) [] ∧
        (t.rod r).agrees { ρ with loPend := (t.rod r).loPend }) ∧
    (∀ (q : Fin 16) (lo : Word), ρ.accepts path (Rg.SQ_BASE_HI q.val) →
      ρ.loPend.find? (fun e => e.1 == Rg.SQ_BASE_LO q.val) = some (Rg.SQ_BASE_LO q.val, lo) →
      completes (.pairHiWrite r path (Rg.SQ_BASE_HI q.val) data) s fun t =>
        (t.rod r).shadowW (Rg.SQ_BASE_HI q.val) &&& rwsMask (Rg.SQ_BASE_HI q.val) = data &&& rwsMask (Rg.SQ_BASE_HI q.val) ∧
        (t.rod r).shadowW (Rg.SQ_BASE_LO q.val) &&& rwsMask (Rg.SQ_BASE_LO q.val) = lo &&& rwsMask (Rg.SQ_BASE_LO q.val) ∧
        ρ.keepsRegs (t.rod r) [] ∧
        (t.rod r).agrees { ρ with shadow := (t.rod r).shadow, loPend := (t.rod r).loPend }) ∧
    (∀ (q : Fin 16) (lo : Word), ρ.accepts path (Rg.SQ_BASE_LO q.val) → ρ.accepts path (Rg.SQ_BASE_HI q.val) →
      completes (.registerWrite r path (Rg.SQ_BASE_LO q.val) 8 (data ++ lo)) s fun t =>
        (t.rod r).shadowW (Rg.SQ_BASE_HI q.val) &&& rwsMask (Rg.SQ_BASE_HI q.val) = data &&& rwsMask (Rg.SQ_BASE_HI q.val) ∧
        (t.rod r).shadowW (Rg.SQ_BASE_LO q.val) &&& rwsMask (Rg.SQ_BASE_LO q.val) = lo &&& rwsMask (Rg.SQ_BASE_LO q.val) ∧
        ρ.keepsRegs (t.rod r) [] ∧
        (t.rod r).agrees { ρ with shadow := (t.rod r).shadow, loPend := (t.rod r).loPend })

/-- Writes to unlisted pages, stopped pages, read-only or locked registers, and of a wrong size are discarded and captured
(spec/02_register_pages.md R42, spec/02_register_pages.md R44, spec/02_register_pages.md R46, spec/02_register_pages.md R54,
spec/02_register_pages.md R55). Where the module answers and no error is held: a write to an unlisted page is captured on the
Fabric page with TYPE 1; of a size or alignment other than natural 32 or 64 bits on a listed page with TYPE 5; to a listed
register outside the SYS-served header of a page that is off with TYPE 3; to FL_SEQ, which is read-only, with TYPE 1; and to
FAULT_IRQ under a LOCK held on another path with TYPE 4. The error names the path and the offset, event 31 of the page is set,
and only those registers of that page change. A second error sets OVERFLOW alone. -/
def Obligations.AccessErrorsAreCaptured : Prop :=
  ∀ (s : State) (r : RodId) (path : Path) (a size : Nat) (data : DWord),
    let ρ := s.rod r
    let captured (p type : Nat) : Prop := completes (.registerWrite r path a size data) s fun t =>
      (ρ.b (Fl.ERRCAP_0_VALID p) = false →
        (t.rod r).b (Fl.ERRCAP_0_VALID p) = true ∧ (t.rod r).b (Fl.ERRCAP_0_OVERFLOW p) = false ∧
        (t.rod r).g (Fl.ERRCAP_0_TYPE p) = type ∧ (t.rod r).g (Fl.ERRCAP_0_PATH p) = path.code ∧
        (t.rod r).g (Fl.ERRCAP_0_OFFSET p) = a % 0x1000 ∧ (t.rod r).gw (Rg.ERRCAP_1 p) = data.setWidth 32 ∧ (t.rod r).raised p 31) ∧
      (ρ.b (Fl.ERRCAP_0_VALID p) = true → (t.rod r).b (Fl.ERRCAP_0_VALID p) = true ∧ (t.rod r).b (Fl.ERRCAP_0_OVERFLOW p) = true ∧
        (t.rod r).gw (Rg.ERRCAP_1 p) = ρ.gw (Rg.ERRCAP_1 p)) ∧
      ρ.keepsRegs (t.rod r) [Rg.ERRCAP_0 p, Rg.ERRCAP_1 p, Rg.IRQ_RAW p] ∧ (t.rod r).agrees ρ
    let o := a % 0x1000
    let served := o = 0x00 ∨ o = 0x04 ∨ o = 0x0C ∨ o = 0x30 ∨ o = 0x34 ∨ o = 0x38
    ρ.answers path.code = true → a < 0x100000 →
    (pageInfo (a / 0x1000) = none → captured 0x021 1) ∧
    ((pageInfo (a / 0x1000)).isSome = true → (size ≠ 4 ∧ size ≠ 8) ∨ a % size ≠ 0 → captured (a / 0x1000) 5) ∧
    (size = 4 → a % 4 = 0 → (pageInfo (a / 0x1000)).isSome = true → ¬served → ρ.pageOn (a / 0x1000) = false → captured (a / 0x1000) 3) ∧
    (size = 4 → a = Rg.FL_SEQ → ρ.pageOn 0x0D0 = true → captured 0x0D0 1) ∧
    (size = 4 → a = Rg.FAULT_IRQ → ρ.pageOn 0x021 = true → ρ.b (Fl.LOCK_HELD 0x021) = true →
      ρ.g (Fl.LOCK_PATH 0x021) ≠ path.code → captured 0x021 4)

/-- PAIR_LO_READ captures the upper half of the pair, RC_READ returns and clears its count, and both send the value read
(spec/00_scope.md R7, spec/00_scope.md R13). Where the own link is answered and the page is on: a read of FT_LO sends the low 32
bits of FT and holds the upper half of the same FT, which the read of FT_HI then sends; PAIR_LO_READ of any pair sends the lower
register and holds the upper one. RC_READ of any register with RC bits sends it, and those bits restart from the events of the
same cycle; those of DIAG_ECC raise event 2. No other register changes. Under these conditions, of state and operands alone,
exec of PAIR_LO_READ and RC_READ each answer a next state. -/
def Obligations.ReadsReturnRegistersAndClearOnRead : Prop :=
  ∀ (s : State) (r : RodId) (events : Word),
    let ρ := s.rod r
    ρ.answers (r.code + 1) = true →
    (ρ.pageOn 0x040 = true → ρ.hiCap.find? (fun e => e.1 == Rg.FT_LO) = none → completes (.pairLoRead r ⟨Rg.FT_LO, 4⟩) s fun t =>
      (ρ.recBuf = [] → (t.rod r).out = ρ.out ++ [.read (ρ.ft % 2 ^ 32)]) ∧
      Sparse.get 0#32 (t.rod r).hiCap Rg.FT_HI = BitVec.ofNat 32 (ρ.ft / 2 ^ 32) ∧ ρ.keepsRegs (t.rod r) [] ∧
      (t.rod r).agrees { ρ with hiCap := (t.rod r).hiCap }) ∧
    (∀ w, ρ.pageOn 0x040 = true → ρ.hiCap.find? (fun e => e.1 == Rg.FT_HI) = some (Rg.FT_HI, w) → completes (.rcRead r ⟨Rg.FT_HI, 4⟩ 0#32) s fun t =>
      (ρ.recBuf = [] → (t.rod r).out = ρ.out ++ [.read w.toNat]) ∧ ρ.keepsRegs (t.rod r) []) ∧
    (∀ a, a % 4 = 0 → (pageInfo (a / 0x1000)).isSome = true → sysServed (a % 0x1000) = true ∨ ρ.pageOn (a / 0x1000) = true →
      ρ.hiCap.find? (fun e => e.1 == a) = none →
      let rc := ((regRow a).map (·.rc)).getD 0#32
      (isLo a = true → rc = 0#32 → completes (.pairLoRead r ⟨a, 4⟩) s fun t =>
        Out.read (ρ.regView a).toNat ∈ (t.rod r).out ∧ Sparse.get 0#32 (t.rod r).hiCap (a + 4) = ρ.regView (a + 4) ∧
        ρ.keepsRegs (t.rod r) [] ∧ (t.rod r).agrees { ρ with hiCap := (t.rod r).hiCap }) ∧
      (rc ≠ 0#32 → completes (.rcRead r ⟨a, 4⟩ events) s fun t =>
        Out.read (ρ.regView a).toNat ∈ (t.rod r).out ∧ (t.rod r).gw a = (ρ.gw a &&& ~~~rc) ||| (events &&& rc) ∧
        ρ.keepsRegs (t.rod r) [a, Rg.IRQ_RAW 0x0D0] ∧ (t.rod r).agrees { ρ with hiCap := (t.rod r).hiCap })) ∧
    (ρ.pageOn 0x0D0 = true → ρ.hiCap.find? (fun e => e.1 == Rg.DIAG_ECC) = none → completes (.rcRead r ⟨Rg.DIAG_ECC, 4⟩ events) s fun t =>
      Out.read (ρ.gw Rg.DIAG_ECC).toNat ∈ (t.rod r).out ∧ (events ≠ 0#32 → (t.rod r).raised 0x0D0 2) ∧
      (t.rod r).gw Rg.DIAG_ECC = events ∧ ρ.keepsRegs (t.rod r) [Rg.DIAG_ECC] ∧
      (t.rod r).agrees { ρ with hiCap := (t.rod r).hiCap })

/-- IRQ_FORCE sets events, LOCK is taken and released, ERRCAP clears, FL_ACK acknowledges within the log, and a W1C write keeps
the event of its cycle (spec/02_register_pages.md R51, spec/02_register_pages.md R53, spec/02_register_pages.md R55,
spec/02_register_pages.md R75, R12). Where the write is accepted: IRQ_FORCE sets in IRQ_RAW the bits written; a request of a
free LOCK takes it for the path and the release by that path frees it, while a request of a held LOCK changes nothing; clearing
ERRCAP_0.VALID also clears OVERFLOW and ERRCAP_1; FL_ACK takes a value no further on than FL_SEQ, and one further on is captured
with TYPE 6. Nothing else of the rod changes. Where the write is accepted, W1C_WRITE of IRQ_RAW of a page leaves the bits
written as 1 cleared but for the events of the same cycle; no other register changes. Under these conditions, of state and
operands alone, exec of W1C_WRITE, IRQ_FORCE, PAGE_LOCK_REQUEST, PAGE_LOCK_RELEASE, ERRCAP_CLEAR and FL_ACK each answer a next
state. -/
def Obligations.PageHeaderWritesAct : Prop :=
  (∀ (s : State) (r : RodId) (path : Path) (p : Nat) (data : Word),
    let ρ := s.rod r
    let ahead (x : Nat) : Nat := (x + 2 ^ 32 - ρ.g Fl.FL_ACK_ACK) % 2 ^ 32
    s.quiet →
    (ρ.accepts path (Rg.IRQ_FORCE p) → completes (.irqForce r path p data) s fun t =>
      (t.rod r).gw (Rg.IRQ_RAW p) = ρ.gw (Rg.IRQ_RAW p) ||| data ∧
      (∀ a, a ≠ Rg.IRQ_RAW p → (t.rod r).gw a = ρ.gw a) ∧ (t.rod r).agrees ρ) ∧
    (ρ.accepts path (Rg.LOCK p) → ρ.b (Fl.LOCK_HELD p) = false → completes (.pageLockRequest r path p) s fun t =>
      (t.rod r).b (Fl.LOCK_HELD p) = true ∧ (t.rod r).g (Fl.LOCK_PATH p) = path.code ∧
      ρ.keepsRegs (t.rod r) [Rg.LOCK p] ∧ (t.rod r).agrees ρ) ∧
    (ρ.accepts path (Rg.LOCK p) → ρ.b (Fl.LOCK_HELD p) = true → completes (.pageLockRequest r path p) s fun t =>
      ρ.keepsRegs (t.rod r) [] ∧ (t.rod r).agrees ρ) ∧
    (ρ.accepts path (Rg.LOCK p) → ρ.b (Fl.LOCK_HELD p) = true → completes (.pageLockRelease r path p) s fun t =>
      (ρ.g (Fl.LOCK_PATH p) = path.code → (t.rod r).b (Fl.LOCK_HELD p) = false ∧ ρ.keepsRegs (t.rod r) [Rg.LOCK p]) ∧
      (ρ.g (Fl.LOCK_PATH p) ≠ path.code → ρ.keepsRegs (t.rod r) []) ∧ (t.rod r).agrees ρ) ∧
    (ρ.accepts path (Rg.ERRCAP_0 p) → completes (.errcapClear r path p) s fun t =>
      (t.rod r).b (Fl.ERRCAP_0_VALID p) = false ∧ (t.rod r).b (Fl.ERRCAP_0_OVERFLOW p) = false ∧ (t.rod r).gw (Rg.ERRCAP_1 p) = 0#32 ∧
      ρ.keepsRegs (t.rod r) [Rg.ERRCAP_0 p, Rg.ERRCAP_1 p] ∧ (t.rod r).agrees ρ) ∧
    (ρ.accepts path Rg.FL_ACK → ahead data.toNat ≤ ahead (ρ.g Fl.FL_SEQ_SEQ) → completes (.flAck r path data) s fun t =>
      (t.rod r).gw Rg.FL_ACK = data ∧ ρ.keepsRegs (t.rod r) [Rg.FL_ACK] ∧
      (data.toNat = ρ.g Fl.FL_SEQ_SEQ → (t.rod r).lost = false) ∧ (t.rod r).agrees ρ) ∧
    (ρ.accepts path Rg.FL_ACK → ahead (ρ.g Fl.FL_SEQ_SEQ) < ahead data.toNat → completes (.flAck r path data) s fun t =>
      (t.rod r).gw Rg.FL_ACK = ρ.gw Rg.FL_ACK ∧ (t.rod r).b (Fl.ERRCAP_0_VALID 0x0D0) = true ∧
      ρ.keepsRegs (t.rod r) [Rg.ERRCAP_0 0x0D0, Rg.ERRCAP_1 0x0D0] ∧ (t.rod r).agrees ρ)) ∧
  (∀ (s : State) (r : RodId) (path : Path) (p : Nat) (data events : Word),
    let ρ := s.rod r
    ρ.accepts path (Rg.IRQ_RAW p) → p ≠ 0x0D0 → completes (.w1cWrite r path (Rg.IRQ_RAW p) data events) s fun t =>
      (t.rod r).gw (Rg.IRQ_RAW p) = (ρ.gw (Rg.IRQ_RAW p) &&& ~~~data) ||| events ∧
      ρ.keepsRegs (t.rod r) [Rg.IRQ_RAW p] ∧ (t.rod r).agrees ρ)

/-- STG_CTRL sets OPEN, VIEW and MODE and requests a commit, STG_FT_HI arms, and clearing MISMATCH reloads the shadows
(spec/02_register_pages.md R56, spec/02_register_pages.md R58, spec/02_register_pages.md R60, spec/02_register_pages.md R64). On
a staged page whose write is accepted: STG_OPEN and STG_MODE set OPEN, VIEW and MODE, and a MODE other than AT_FT disarms;
STG_COMMIT in MANUAL mode with OPEN 0 requests the commit of the page, and with OPEN 1 is rejected with CODE 7; STG_FT_ARM in
AT_FT mode with a valid FT still to come arms it; MISMATCH_CLEAR clears MISMATCH and drops the page's shadows. No staged value
in force changes. Under these conditions, of state and operands alone, exec of STG_COMMIT, STG_OPEN, STG_MODE, STG_FT_ARM and
MISMATCH_CLEAR each answer a next state. -/
def Obligations.StagingHeaderActs : Prop :=
  ∀ (s : State) (r : RodId) (path : Path) (p : Nat) (data : Word),
    let ρ := s.rod r
    let mode := wBits data 4 2
    let set (t : State) : Prop := (t.rod r).g (Fl.STG_CTRL_OPEN p) = wBits data 31 1 ∧ (t.rod r).g (Fl.STG_CTRL_VIEW p) = wBits data 8 1 ∧
      (t.rod r).g (Fl.STG_CTRL_MODE p) = mode ∧ (mode ≠ 2 → (t.rod r).b (Fl.STG_STAT_ARMED p) = false) ∧
      ρ.keepsRegs (t.rod r) [Rg.STG_CTRL p, Rg.STG_STAT p]
    pageStaged p = true →
    (ρ.accepts path (Rg.STG_CTRL p) → mode ≠ 3 → wBit data 0 = false →
      completes (.stgOpen r path p data) s set ∧ completes (.stgMode r path p data) s set) ∧
    (ρ.accepts path (Rg.STG_CTRL p) → mode = 0 → ρ.b (Fl.STG_STAT_MISMATCH p) = false →
      (wBit data 31 = false → completes (.stgCommit r path p data) s fun t =>
        p ∈ (t.rod r).cmtReq ∧ (t.rod r).shadow = ρ.shadow ∧ ρ.keepsRegs (t.rod r) [Rg.STG_CTRL p, Rg.STG_STAT p]) ∧
      (wBit data 31 = true → completes (.stgCommit r path p data) s fun t =>
        (t.rod r).b (Fl.STG_STAT_MISMATCH p) = true ∧ (t.rod r).g (Fl.STG_STAT_CODE p) = 7 ∧ (t.rod r).dirty p = false ∧
        (t.rod r).recorded 0x01F7 sevWarn p ∧ ρ.keepsRegs (t.rod r) [Rg.STG_CTRL p, Rg.STG_STAT p, Rg.IRQ_RAW p])) ∧
    (ρ.accepts path (Rg.STG_FT_HI p) → ρ.g (Fl.STG_CTRL_MODE p) = 2 → ρ.b (Fl.STG_STAT_MISMATCH p) = false →
      ρ.b Fl.FT_STAT_VALID = true → ρ.ft < data.toNat * 2 ^ 32 + (Sparse.get (ρ.gw (Rg.STG_FT_LO p)) ρ.loPend (Rg.STG_FT_LO p)).toNat →
      completes (.stgFtArm r path p data) s fun t =>
        (t.rod r).b (Fl.STG_STAT_ARMED p) = true ∧
        Sparse.get 0 (t.rod r).armed p = data.toNat * 2 ^ 32 + (Sparse.get (ρ.gw (Rg.STG_FT_LO p)) ρ.loPend (Rg.STG_FT_LO p)).toNat ∧
        ρ.keepsRegs (t.rod r) [Rg.STG_STAT p, Rg.STG_FT_LO p, Rg.STG_FT_HI p]) ∧
    (ρ.accepts path (Rg.STG_STAT p) → ρ.b (Fl.STG_STAT_MISMATCH p) = true → completes (.mismatchClear r path p) s fun t =>
      (t.rod r).b (Fl.STG_STAT_MISMATCH p) = false ∧ (t.rod r).dirty p = false ∧ ρ.keepsRegs (t.rod r) [Rg.STG_STAT p])

/-- A commit that passes its checks takes all written fields of its page, one that fails changes none and sets MISMATCH
(spec/02_register_pages.md R57, spec/02_register_pages.md R62, spec/02_register_pages.md R65, spec/02_register_pages.md R66). At
the commit instant of a page on which a commit is due (MANUAL with a request, AT_TICK with DIRTY and OPEN 0, AT_FT with its FT
come; without ticks by NO_TICK_COMMIT), of the pages whose commit starts nothing else: where every check passes, every written
field takes the value in force, DIRTY clears, DONE is set, SEQ advances, GROUP is 0xFF and event 30 is set; where one fails, no
staged register changes, DIRTY clears, and MISMATCH, CODE, GROUP and the record of the code are set. Under these conditions, of
state and operands alone, exec of STAGED_COMMIT, AT_FT_COMMIT and NO_TICK_COMMIT each answer a next state. -/
def Obligations.CommitTakesAllOrNothing : Prop :=
  ∀ (s : State) (r : RodId) (p : Nat),
    let ρ := s.rod r
    let head := [Rg.STG_STAT p, Rg.IRQ_RAW p]
    let takes (i : Instr) : Prop :=
      (ρ.verdict (ρ.overlay [p]) p = none → completes i s fun t =>
        (∀ e ∈ ρ.shadow, e.1 / 0x1000 = p → 0x40 ≤ e.1 % 0x1000 → (t.rod r).gw e.1 = (ρ.overlay [p]).gw e.1) ∧ (t.rod r).dirty p = false ∧
        (t.rod r).b (Fl.STG_STAT_DONE p) = true ∧ (t.rod r).g (Fl.STG_STAT_SEQ p) = (ρ.g (Fl.STG_STAT_SEQ p) + 1) % 256 ∧
        (t.rod r).g (Fl.STG_STAT_GROUP p) = 0xFF ∧ (t.rod r).raised p 30 ∧
        (∀ a, a / 0x1000 ≠ p → a ≠ Rg.FL_SEQ → a ≠ Rg.IRQ_RAW 0x0D0 → (t.rod r).gw a = ρ.gw a)) ∧
      (∀ code group, ρ.verdict (ρ.overlay [p]) p = some (code, group) → completes i s fun t =>
        (t.rod r).b (Fl.STG_STAT_MISMATCH p) = true ∧ (t.rod r).g (Fl.STG_STAT_CODE p) = code % 256 ∧
        (t.rod r).g (Fl.STG_STAT_GROUP p) = group % 256 ∧ (t.rod r).dirty p = false ∧
        (t.rod r).recorded (0x01F0 + code) sevWarn p ∧ ρ.keepsRegs (t.rod r) head)
    p ∈ [0x001, 0x040, 0x060, 0x061, 0x062, 0x063, 0x064, 0x090, 0x091, 0x092, 0x093, 0x0A0, 0x0C1] → ρ.pageOn p = true →
    ρ.b (Fl.STG_STAT_MISMATCH p) = false →
    (ρ.ticksRun = true → (ρ.g (Fl.STG_CTRL_MODE p) = 0 ∧ p ∈ ρ.cmtReq) ∨
      (ρ.g (Fl.STG_CTRL_MODE p) = 1 ∧ ρ.dirty p = true ∧ ρ.b (Fl.STG_CTRL_OPEN p) = false) → takes (.stagedCommit r p)) ∧
    (ρ.ticksRun = false → (ρ.g (Fl.STG_CTRL_MODE p) = 0 ∧ p ∈ ρ.cmtReq) ∨
      (ρ.g (Fl.STG_CTRL_MODE p) = 1 ∧ ρ.dirty p = true ∧ ρ.b (Fl.STG_CTRL_OPEN p) = false) → takes (.noTickCommit r p)) ∧
    (ρ.g (Fl.STG_CTRL_MODE p) = 2 → Sparse.has ρ.armed p = true → Sparse.get 0 ρ.armed p ≤ ρ.ft → ρ.b (Fl.STG_CTRL_OPEN p) = false →
      takes (.atFtCommit r p))

/-- TRIGGER_FIRE starts its block at START, or waits for the one that runs, at most once a tick (spec/08_reckoner.md R267,
spec/08_reckoner.md R269, spec/08_reckoner.md R270). With blocks running in the rod and the trigger due by its SRC (an ordinary
trigger at every tick, an outer one at an outer-cycle tick of its axis, an OUTER trigger of a lead there alone, and of an axis
that does not wait in ARMING): on a column that is not busy BUSY is set with TRIG, the PC at ENTRY and the cycle at START; on a
busy column the trigger joins those that wait and the running block goes on. A trigger that has fired in the tick changes
nothing. Under these conditions, of state and operands alone, exec of TRIGGER_FIRE answers a next state. -/
def Obligations.TriggersStartBlocks : Prop :=
  ∀ (s : State) (r : RodId) (c : Fin 4) (t : Fin 8),
    let ρ := s.rod r
    let src := ρ.g (Fl.TRIG_CFG_SRC c.val t.val)
    let n := axisOf (ρ.g (Fl.TRIG_CFG_AXIS c.val t.val))
    let id := c.val * 8 + t.val
    let due := src = 1 ∨ (src = 3 ∧ ρ.outerTick n = true) ∨
      (src = 2 ∧ ρ.leads n = true ∧ ρ.tandemStandby n = false ∧ ρ.waits n = false ∧ ρ.outerTick n = true)
    let same (u : State) (cols : Sparse Col) : Rod :=
      { ρ with rk := { ρ.rk with cols := cols, fired := ρ.rk.fired ++ [id], swCopy := (u.rod r).rk.swCopy, swRun := (u.rod r).rk.swRun }
               ls := (u.rod r).ls }
    (ρ.runsBlocks = true → due → id ∉ ρ.rk.fired → ρ.b (Fl.COL_STAT_BUSY c.val) = false → completes (.triggerFire r c t) s fun u =>
      (u.rod r).b (Fl.COL_STAT_BUSY c.val) = true ∧ (u.rod r).g (Fl.COL_STAT_TRIG c.val) = t.val ∧
      (u.rod r).pcOf c = ρ.g (Fl.TRIG_CFG_ENTRY c.val t.val) ∧ ((u.rod r).col c).cyc = ρ.g (Fl.TRIG_LIM_START c.val t.val) ∧
      ((u.rod r).col c).used = 0 ∧ ((u.rod r).col c).rep = none ∧ (∀ i, i < 32 → (u.rod r).v c i = ρ.v c i) ∧
      (∀ d, d ≠ c → (u.rod r).col d = ρ.col d) ∧ ρ.only (u.rod r) [Rg.COL_STAT c.val] (same u (u.rod r).rk.cols)) ∧
    (ρ.runsBlocks = true → due → id ∉ ρ.rk.fired → ρ.b (Fl.COL_STAT_BUSY c.val) = true → completes (.triggerFire r c t) s fun u =>
      t.val ∈ ((u.rod r).col c).waiting ∧ ((u.rod r).col c).waiting.length = (ρ.col c).waiting.length + 1 ∧
      ((u.rod r).col c).cyc = (ρ.col c).cyc ∧ (∀ d, d ≠ c → (u.rod r).col d = ρ.col d) ∧
      ρ.only (u.rod r) [] (same u (u.rod r).rk.cols)) ∧
    (id ∈ ρ.rk.fired ∨ ρ.runsBlocks = false → completes (.triggerFire r c t) s fun u => ρ.only (u.rod r) [] ρ)

/-- BLOCK_LIMIT stops a block that is late with one overrun and its record, and SET_OFF drops a set at its overrun limit
(spec/08_reckoner.md R271, spec/08_reckoner.md R273, spec/10_axis_control.md R343). BLOCK_LIMIT of a busy column whose
instruction at the PC would not end before cycle START + LIMIT, and whose block is no OUTER block, with no trigger waiting,
clears BUSY, shows the cycles used, counts one overrun of the block's axis in this tick (saturating at 255) and writes record
0x0810; values and accumulators stay. Of a block that still has time to that cycle it stops nothing. SET_OFF of an axis whose
overrun count has reached a limit other than 0 clears SET_ON, tells the partners and writes record 0x0811 of severity DEGRADE.
Under these conditions, of state and operands alone, exec of BLOCK_LIMIT and SET_OFF each answer a next state. -/
def Obligations.LimitsStopBlocksAndSets : Prop :=
  ∀ (s : State) (r : RodId),
    let ρ := s.rod r
    let ovr (n : Axis) : Fld := ⟨0x060, 0x7C, 8 * n.val, 8⟩
    (∀ c : Fin 4, ρ.running c = true → ρ.fits c = true → completes (.blockLimit r c) s fun t => ρ.only (t.rod r) [] ρ) ∧
    (∀ c : Fin 4, ρ.running c = true → ρ.fits c = false → (ρ.col c).src ≠ 2 → (ρ.col c).waiting = [] →
      completes (.blockLimit r c) s fun t =>
        let k := ρ.g (Fl.COL_STAT_TRIG c.val)
        (t.rod r).b (Fl.COL_STAT_BUSY c.val) = false ∧ (t.rod r).g (Fl.TRIG_USE_LAST c.val k) = min 0xFFFF (ρ.col c).used ∧
        (∀ n : Axis, (ρ.col c).axis = n.val → ρ.rk.ovr.get n = false →
          (t.rod r).g (ovr n) = min 255 (ρ.g (ovr n) + 1) ∧ (t.rod r).raised 0x060 0) ∧
        (t.rod r).recorded 0x0810 sevWarn (colPage c) ∧
        (∀ i, i < 32 → (t.rod r).v c i = ρ.v c i) ∧ (∀ j, j < 4 → (t.rod r).acc c j = ρ.acc c j) ∧
        ρ.only (t.rod r) [Rg.COL_STAT c.val, Rg.TRIG_USE c.val k, Rg.OVR_CNT, Rg.IRQ_RAW 0x060]
          { ρ with rk := { ρ.rk with cols := (t.rod r).rk.cols, ovr := (t.rod r).rk.ovr }, ls := (t.rod r).ls }) ∧
    (∀ n : Axis, ρ.rk.setOn.get n = true → 0 < ρ.g (Fl.POLICY_OVR_LIM n.val) → ρ.g (Fl.POLICY_OVR_LIM n.val) ≤ ρ.g (ovr n) →
      completes (.setOff r n) s fun t =>
        (t.rod r).rk.setOn = ρ.rk.setOn.set n false ∧ Out.setState ⟨n, ρ.epoch, false, BitVec.ofNat 64 ρ.ft⟩ ∈ (t.rod r).out ∧
        (∀ p : Phase, ((t.rod r).half n p).en = false) ∧ (t.rod r).recorded 0x0811 sevDegrade 0x060 ∧ (t.rod r).raised 0x060 1 ∧
        ρ.only (t.rod r) [Rg.IRQ_RAW 0x060]
          { ρ with rk := { ρ.rk with setOn := (t.rod r).rk.setOn, setFt := (t.rod r).rk.setFt }, hb := (t.rod r).hb })

/-- The dq frame goes out once a tick with its 32 words: all sets fresh when complete, the late ones marked and recorded at the
deadline (spec/08_reckoner.md R287, spec/01_architecture.md R24). In READY, ACTIVE or REJOIN, with the window open and the slot
unsent: DQ_FRAME_SEND, when all three SEQ words hold the tick number, sends the tick number and the 32 words with FLAGS 7;
DQ_SEND_DEADLINE, when some do not, sends the slot with only the current sets marked fresh, with record 0x0812 and event 2. Only
FLAGS changes in signal memory. With the slot already sent both change nothing. Under these conditions, of state and operands
alone, exec of DQ_FRAME_SEND and DQ_SEND_DEADLINE each answer a next state. -/
def Obligations.DqFramesAreSentOncePerTick : Prop :=
  ∀ (s : State) (r : RodId),
    let ρ := s.rod r
    let sent (t : State) (m : Nat) : Prop :=
      (∃ f : DqFrame, Out.dq f ∈ (t.rod r).out ∧ f.tick = BitVec.ofNat 32 ρ.tick ∧ f.epoch = ρ.epoch ∧ f.fresh = BitVec.ofNat 3 m ∧
        f.words = (List.range 32).map fun w => if w = 15 then BitVec.ofNat 32 m else ρ.sg (slotW ρ.me w)) ∧
      (t.rod r).rk.dqSent = true ∧ (∀ u, u < 16384 → u ≠ slotW ρ.me 15 → (t.rod r).sg u = ρ.sg u) ∧
      (t.rod r).agrees { ρ with rk := { ρ.rk with sig := (t.rod r).rk.sig, dqSent := true } }
    (ρ.sendsDq = true → ρ.rk.dqSent = false → ρ.rk.dqOpen = true →
      (ρ.seqMask = 7 → completes (.dqFrameSend r) s (fun t => sent t 7 ∧ ρ.keepsRegs (t.rod r) []) ∧
        completes (.dqSendDeadline r) s (fun t => sent t 7 ∧ ρ.keepsRegs (t.rod r) [])) ∧
      (ρ.seqMask ≠ 7 → completes (.dqFrameSend r) s (fun t => ρ.only (t.rod r) [] ρ) ∧
        completes (.dqSendDeadline r) s fun t =>
          sent t ρ.seqMask ∧ (t.rod r).recorded 0x0812 sevWarn 0x060 ∧ (t.rod r).raised 0x060 2 ∧ ρ.keepsRegs (t.rod r) [Rg.IRQ_RAW 0x060])) ∧
    (ρ.rk.dqSent = true → completes (.dqFrameSend r) s (fun t => ρ.only (t.rod r) [] ρ) ∧
      completes (.dqSendDeadline r) s (fun t => ρ.only (t.rod r) [] ρ))

/-- A frame of the current tick waits in its hidden copy, and the close of the window swaps it in or marks the slot stale
(spec/01_architecture.md R25, spec/08_reckoner.md R288, spec/08_reckoner.md Table 8.4, spec/14_rod_redundancy.md Table 14.8).
DQ_FRAME_RECEIVE of a partner within the window, with the tick number and the epoch this rod holds, keeps the frame hidden and
changes no word and no register; a frame of another tick is dropped, and one with a CRC error counts in CR_CNT of the link it
came over and does nothing else (the model's reading of Table 14.8, log entry 38). RECEIVE_WINDOW_CLOSE writes the 32 words of
each frame held into that partner's slot with FLAGS the sets it marked fresh, clears the count of missing frames, and for a
partner without a frame sets STALE in FLAGS with the count (at most 15) and STALE_DQ; no other word of signal memory changes.
Under these conditions, of state and operands alone, exec of DQ_FRAME_RECEIVE and RECEIVE_WINDOW_CLOSE each answer a next state.
-/
def Obligations.DqFramesReachTheSlotsAtTheClose : Prop :=
  ∀ (s : State) (r : RodId),
    let ρ := (s.rod r).view s.rod
    (∀ (src : RodId) (f : DqFrame), src ≠ ρ.me → f.crcOk = false → completes (.dqFrameReceive r src f) s fun t =>
      (t.rod r).g (ρ.crcF src) = min 255 (ρ.g (ρ.crcF src) + 1) ∧ ρ.only (t.rod r) [Rg.CR_CNT] ρ) ∧
    (∀ (src : RodId) (f : DqFrame), src ≠ ρ.me → f.crcOk = true → f.epoch = ρ.epoch → ρ.rk.dqOpen = true →
      completes (.dqFrameReceive r src f) s fun t =>
        (f.tick.toNat = ρ.tick → (t.rod r).rk.hid.get src.idx = some f) ∧ (f.tick.toNat ≠ ρ.tick → (t.rod r).rk.hid = ρ.rk.hid) ∧
        ρ.only (t.rod r) [] { ρ with rk := { ρ.rk with hid := (t.rod r).rk.hid }, red := { ρ.red with epochs := (t.rod r).red.epochs } }) ∧
    (ρ.ticksRun = true → ρ.rk.dqOpen = true → completes (.receiveWindowClose r) s fun t =>
      (t.rod r).rk.dqOpen = false ∧
      (∀ p ∈ ρ.me.partners, ∀ f, ρ.rk.hid.get p.idx = some f → f.words.length = 32 →
        (∀ w, w < 32 → w ≠ 15 → (t.rod r).sg (slotW p w) = f.words.getD w 0#32) ∧
        (t.rod r).sg (slotW p 15) = BitVec.ofNat 32 f.fresh.toNat ∧ (t.rod r).red.missing.get p.idx = 0 ∧
        (t.rod r).rk.dqOut.get p.idx = false) ∧
      (∀ p ∈ ρ.me.partners, ρ.rk.hid.get p.idx = none →
        let k := min 15 (ρ.red.missing.get p.idx + 1)
        (∀ w, w < 32 → w ≠ 15 → (t.rod r).sg (slotW p w) = ρ.sg (slotW p w)) ∧
        (t.rod r).sg (slotW p 15) = BitVec.ofNat 32 (16 + 256 * k) ∧ (t.rod r).red.missing.get p.idx = k ∧
        (t.rod r).bitOf Fl.CR_STAT_STALE_DQ p.code = true) ∧
      (∀ u, u < 16384 → (∀ p ∈ ρ.me.partners, ¬(slotW p 0 ≤ u ∧ u ≤ slotW p 31)) → (t.rod r).sg u = ρ.sg u) ∧
      ρ.only (t.rod r) [Rg.CR_STAT, Rg.CR_JUDGE, Rg.IRQ_RAW 0x0A0]
        { ρ with rk := { ρ.rk with dqOpen := false, sig := (t.rod r).rk.sig, dqOut := (t.rod r).rk.dqOut }, red := (t.rod r).red })

/-- The sampling instant brings FT to its time in its rod alone, and what a tick collects begins again (spec/00_scope.md R9,
spec/01_architecture.md R23, spec/08_reckoner.md R268, spec/08_reckoner.md R288). Where ticks run and FT comes to a sampling
instant, SAMPLING_INSTANT answers a state in which the rod's FT stands at that instant or where it already was past it, no
trigger has fired and no column has written in the tick, the own dq slot is unsent and no partner's frame is held; the other
rods' FT stays. An instant that is not due leaves FT where it was. Under these conditions, of state and operands alone, exec of
SAMPLING_INSTANT answers a next state. -/
def Obligations.SamplingInstantsBeginATick : Prop :=
  ∀ (s : State) (r : RodId) (ft : DWord),
    let ρ := (s.rod r).view s.rod
    (∀ q, (s.rod q).me = q) →
    (ρ.ticksRun = true → (ρ.atFt ft.toNat).atInstant = true → completes (.samplingInstant r ft) s fun t =>
      (t.rod r).ftn = max (s.rod r).ftn ((2 * ft.toNat + 24) / 25) ∧
      (t.rod r).rk.fired = [] ∧ (∀ e ∈ (t.rod r).rk.wlog, e.2.2.1 = 4) ∧ (t.rod r).rk.dqSent = false ∧ (t.rod r).rk.hid = Tri.rep none ∧
      (∀ q, q ≠ r → (t.rod q).ftn = (s.rod q).ftn) ∧ (∀ q, (t.rod q).me = q)) ∧
    (ρ.ticksRun = false ∨ (ρ.atFt ft.toNat).atInstant = false → completes (.samplingInstant r ft) s fun t =>
      ∀ q, (t.rod q).ftn = (s.rod q).ftn)

/-- ADC_CONVERSION writes the 21 current, voltage, supply and temperature words of the sample area (spec/08_reckoner.md R282,
spec/08_reckoner.md Table 8.3, spec/10_axis_control.md R336). Where ticks run, ADC_CONVERSION leaves in words 0x0000 to 0x0014
of signal memory the phase currents, the phase voltages, VM, VGD and the temperature, each zero-extended: a current is the
nearest code to 32768 + 65536 x GAIN x V / 3.0 V, within 16 bits; and each half-bridge holds its current. Where no axis is a
pump axis no other word of signal memory changes. Where no ticks run nothing changes. Under these conditions, of state and
operands alone, exec of ADC_CONVERSION answers a next state. -/
def Obligations.AdcWordsReachTheSampleArea : Prop :=
  ∀ (s : State) (r : RodId) (w : AdcWords),
    let ρ := s.rod r
    -- in units of 1 / (2 x 3.0e9): the exact code, and the nearest whole number to it, a tie away from 32768 (log entry 54)
    let exact (n : Axis) (p : Phase) : Int := 2 * 65536 * (5 * 2 ^ ρ.g (Fl.AX_CFG_GAIN n.val)) * (w.cur.get n).get p
    let code (n : Axis) (p : Phase) : Nat :=
      let x := exact n p
      (clampI 0 65535 (32768 + if 0 ≤ x then (x + 3000000000) / 6000000000 else -((3000000000 - x) / 6000000000))).toNat
    (ρ.ticksRun = true → completes (.adcConversion r w) s fun t =>
      (∀ (n : Axis) (p : Phase), (t.rod r).sg (3 * n.val + p.val) = BitVec.ofNat 32 (code n p) ∧
        (t.rod r).sg (0x0009 + 3 * n.val + p.val) = ((w.volt.get n).get p).setWidth 32 ∧
        ((t.rod r).half n p).cur = code n p ∧ ((t.rod r).half n p).duty = (ρ.half n p).duty) ∧
      (t.rod r).sg 0x0012 = w.vm.setWidth 32 ∧ (t.rod r).sg 0x0013 = w.vgd.setWidth 32 ∧ (t.rod r).sg 0x0014 = w.temp.setWidth 32 ∧
      ((∀ n, ρ.isPump n = false) → (∀ u, 0x0014 < u → u < 16384 → (t.rod r).sg u = ρ.sg u) ∧
        ρ.only (t.rod r) [Rg.SUP_STAT]
          { ρ with rk := { ρ.rk with sig := (t.rod r).rk.sig }, hb := (t.rod r).hb, die := (t.rod r).die })) ∧
    (ρ.ticksRun = false → completes (.adcConversion r w) s fun t => ρ.only (t.rod r) [] ρ)

/-- DUTY_LATCH takes the duty words written, and REFRESH_PULSE restarts the count of full-duty periods (spec/01_architecture.md
R27, spec/01_architecture.md R28, spec/08_reckoner.md R272, spec/13_gate_drive.md R434). Where ticks run and no tick is
stretched, DUTY_LATCH puts the word written since the last latch (the one in force where none was written) into force in every
half-bridge of an axis that is no pump axis, and forgets it; a word written in the cycle of the latch is kept for the next
latch, which takes it where no other has been written. It brings DUTY_MAX and REFRESH_N into force. REFRESH_PULSE at REFRESH_N
or more full-duty periods restarts that half-bridge's count, leaves every other and is counted in DRV_CNT.REFRESH (the model's
reading of Table 13.9, log entry 41); below it nothing changes. Under these conditions, of state and operands alone, exec of
DUTY_LATCH and REFRESH_PULSE each answer a next state. -/
def Obligations.DutiesLatchAndRefresh : Prop :=
  ∀ (s : State) (r : RodId),
    let ρ := s.rod r
    (∀ late : Tri (BitVec 3), ρ.ticksRun = true → ρ.stretched = false → completes (.dutyLatch ⟨r, late⟩) s fun t =>
      (∀ n : Axis, (t.rod r).pwm.duty.get n = ρ.gw (Rg.DRV_DUTY n.val)) ∧
      (∀ (n : Axis) (p : Phase), ((t.rod r).half n p).written = none ∧
        (ρ.isPump n = false →
          let h := ρ.half n p
          let kept := h.late.getD h.duty
          ((late.get n).getLsbD p.val = false → ((t.rod r).half n p).duty = h.written.getD kept ∧ ((t.rod r).half n p).late = none) ∧
          ((late.get n).getLsbD p.val = true → ((t.rod r).half n p).duty = kept ∧ ((t.rod r).half n p).late = h.written)) ∧
        ((t.rod r).half n p).tCause = (ρ.half n p).tCause ∧ ((t.rod r).half n p).en = (ρ.half n p).en) ∧
      ρ.only (t.rod r) [Rg.OVR_CNT, Rg.IRQ_RAW 0x060]
        { ρ with hb := (t.rod r).hb, fresh := (t.rod r).fresh, rk := { ρ.rk with ovr := (t.rod r).rk.ovr }
                 pwm := { ρ.pwm with duty := (t.rod r).pwm.duty } }) ∧
    (∀ (n : Axis) (p : Phase),
      (0 < (ρ.half n p).full → ρ.refreshN n ≤ (ρ.half n p).full → completes (.refreshPulse r n p) s fun t =>
        (t.rod r).half n p = { ρ.half n p with full := 0 } ∧
        (∀ (m : Axis) (q : Phase), m ≠ n ∨ q ≠ p → (t.rod r).half m q = ρ.half m q) ∧
        (t.rod r).g (Fl.DRV_CNT_REFRESH n.val) = min 0xFF (ρ.g (Fl.DRV_CNT_REFRESH n.val) + 1) ∧
        ρ.only (t.rod r) [Rg.DRV_CNT n.val] { ρ with hb := (t.rod r).hb }) ∧
      ((ρ.half n p).full < ρ.refreshN n → completes (.refreshPulse r n p) s fun t => ρ.only (t.rod r) [] ρ))

/-- Messages that R477 lets in are taken and change no register; one of an epoch that is neither held nor later is discarded,
counted and recorded once (spec/10_axis_control.md R343, spec/08_reckoner.md R289, spec/08_reckoner.md R291,
spec/11_pump_axes.md R376, spec/14_rod_redundancy.md R477, spec/14_rod_redundancy.md R480, spec/14_rod_redundancy.md R478). With
the message of another rod in the epoch held, of the lead of its axis where one is asked for: SET_STATE_MESSAGE stores the
partner's SET_ON; TORQUE_COPY_RECEIVE makes the ten words of the lead the pending copy, and one whose T_AX is plausible judges
nobody; STATE_COPY_RECEIVE replaces the 128 words of the region if whole and none if not; PUMP_PHASE_MESSAGE sets the change of
the axis for the second tick after. COPY_MISSED_NOTICE of the lead counts as the copy of this outer cycle. TORQUE_COPY_RECEIVE,
STATE_COPY_RECEIVE, SET_STATE_MESSAGE and PUMP_PHASE_MESSAGE of another rod with a valid epoch that is neither the epoch held
nor later than it change no word of signal memory, no copy, no set state and no pump axis; CR_CNT.STALE counts (saturating), and
record 0x0C33 is written where this sender and epoch had none. Under these conditions, of state and operands alone, exec of
SET_STATE_MESSAGE, TORQUE_COPY_RECEIVE, STATE_COPY_RECEIVE, COPY_MISSED_NOTICE and PUMP_PHASE_MESSAGE each answer a next state.
-/
def Obligations.MessagesOfTheLeadAreTaken : Prop :=
  (∀ (s : State) (r src : RodId),
    let ρ := (s.rod r).view s.rod
    let red (t : State) : RedS := { ρ.red with epochs := (t.rod r).red.epochs }
    (∀ m : SetState, ρ.lets src m.epoch none → completes (.setStateMessage r src m) s fun t =>
      ((t.rod r).rk.pSet.get src.idx).get m.axis = m.on ∧
      (∀ n, n ≠ m.axis → ((t.rod r).rk.pSet.get src.idx).get n = (ρ.rk.pSet.get src.idx).get n) ∧
      ρ.only (t.rod r) [] { ρ with rk := { ρ.rk with pSet := (t.rod r).rk.pSet, pFt := (t.rod r).rk.pFt }, red := red t }) ∧
    (∀ m : TorqueCopy, ρ.lets src m.epoch (some m.axis) → ρ.tqOff m.axis (m.words.getD 3 0#32).toInt = false →
      completes (.torqueCopyReceive r src m) s fun t =>
        (∀ w ∈ copyWords, Sparse.get 0#32 ((t.rod r).rk.pend.get m.axis) w = m.words.getD w 0#32) ∧ (t.rod r).rk.ready.get m.axis = true ∧
        (∀ n, n ≠ m.axis → (t.rod r).rk.pend.get n = ρ.rk.pend.get n) ∧
        (t.rod r).red.tqBad.get m.axis = 0 ∧ (t.rod r).red.tqLast.get m.axis = some (m.words.getD 3 0#32).toInt ∧
        ρ.only (t.rod r) [] { ρ with rk := { ρ.rk with pend := (t.rod r).rk.pend, ready := (t.rod r).rk.ready }
                                     red := { red t with tqBad := (t.rod r).red.tqBad, tqLast := (t.rod r).red.tqLast } }) ∧
    (∀ m : StateCopy, ρ.lets src m.epoch (some m.axis) → m.words.length = 128 → completes (.stateCopyReceive r src m) s fun t =>
      (m.complete = true → (∀ w, w < 128 → (t.rod r).sg (stateW m.axis.val w) = m.words.getD w 0#32) ∧ (t.rod r).red.copyIn.get m.axis = true) ∧
      (∀ u, u < 16384 → (m.complete = false ∨ ¬(stateW m.axis.val 0 ≤ u ∧ u ≤ stateW m.axis.val 127)) → (t.rod r).sg u = ρ.sg u) ∧
      ρ.only (t.rod r) [] { ρ with rk := { ρ.rk with sig := (t.rod r).rk.sig }, red := { red t with copyIn := (t.rod r).red.copyIn } }) ∧
    (∀ m : PumpPhaseMsg, ρ.lets src m.epoch (some m.axis) → completes (.pumpPhaseMessage r src m) s fun t =>
      ((t.rod r).pmp.get m.axis).next = some (m.phase, (m.tick.toNat + 2) % 2 ^ 32, m.hoTq, m.ospd, m.cause) ∧
      (∀ n, n ≠ m.axis → (t.rod r).pmp.get n = ρ.pmp.get n) ∧ ρ.only (t.rod r) [] { ρ with pmp := (t.rod r).pmp, red := red t }) ∧
    (∀ n : Axis, src ≠ (s.rod r).me → (s.rod r).rk.lead.get n = src → completes (.copyMissedNotice r src n) s fun t =>
      (t.rod r).red.copyIn.get n = true ∧
      (s.rod r).only (t.rod r) [] { s.rod r with red := { (s.rod r).red with copyIn := (t.rod r).red.copyIn } })) ∧
  (∀ (s : State) (r src : RodId),
    let ρ := (s.rod r).view s.rod
    let old (e : Epoch) : Prop := src ≠ ρ.me ∧ e.valid = true ∧ e.num.toNat ≠ ρ.g Fl.CR_EPOCH_EPOCH ∧
      laterEpoch e.num.toNat ((ρ.g Fl.CR_EPOCH_EPOCH + ρ.removalsDue) % 65536) = false
    let drops (i : Instr) (e : Epoch) : Prop := completes i s fun t =>
      (t.rod r).g Fl.CR_CNT_STALE = min 0xFF (ρ.g Fl.CR_CNT_STALE + 1) ∧
      ((src, e.num.toNat) ∉ ρ.red.stale → (t.rod r).recorded 0x0C33 sevWarn 0x0A0 ∧ (src, e.num.toNat) ∈ (t.rod r).red.stale) ∧
      ((src, e.num.toNat) ∈ ρ.red.stale → (t.rod r).red.stale = ρ.red.stale) ∧
      ρ.only (t.rod r) [Rg.CR_CNT] { ρ with red := { ρ.red with epochs := (t.rod r).red.epochs, stale := (t.rod r).red.stale } }
    (∀ m : TorqueCopy, old m.epoch → drops (.torqueCopyReceive r src m) m.epoch) ∧
    (∀ m : StateCopy, old m.epoch → drops (.stateCopyReceive r src m) m.epoch) ∧
    (∀ m : SetState, old m.epoch → drops (.setStateMessage r src m) m.epoch) ∧
    (∀ m : PumpPhaseMsg, old m.epoch → drops (.pumpPhaseMessage r src m) m.epoch))

/-- Four ticks without a dq frame, or a second implausible torque copy, judge the partner: switch opened, record 0x0C10, the
third rod told (spec/14_rod_redundancy.md R482, spec/14_rod_redundancy.md R490, spec/14_rod_redundancy.md Table 14.1). For a
partner not yet judged: DQ_SILENT after four consecutive ticks without a frame of one that has sent frames since it last came
(log entry 22) takes its sets from the mask and judges it with kind 1; TORQUE_COPY_RECEIVE of the second implausible copy in a
row judges the lead with kind 3. The own fence switch for it opens, CR_JUDGE shows it, record 0x0C10 is written and the
judgement sent with the tick. Under these conditions, of state and operands alone, exec of DQ_SILENT and TORQUE_COPY_RECEIVE
each answer a next state. -/
def Obligations.SilentPartnersAreJudged : Prop :=
  ∀ (s : State) (r src : RodId),
    let ρ := (s.rod r).view s.rod
    let judged (t : State) (kind axis : Nat) : Prop :=
      (t.rod r).red.judged.get src.idx = some (kind, ρ.tick) ∧ (t.rod r).red.shut.get src.idx = true ∧
      (t.rod r).bitOf Fl.CR_JUDGE_JUDGED src.code = true ∧ (t.rod r).g Fl.CR_JUDGE_KIND = kind ∧
      (t.rod r).recorded 0x0C10 sevWarn 0x0A0 ∧ (t.rod r).raised 0x0A0 0 ∧
      Out.judgement ⟨src, kind, axis, BitVec.ofNat 32 ρ.tick⟩ ∈ (t.rod r).out ∧ ρ.keepsRegs (t.rod r) [Rg.CR_JUDGE, Rg.IRQ_RAW 0x0A0]
    src ≠ ρ.me → ρ.red.judged.get src.idx = none →
    (4 ≤ ρ.red.missing.get src.idx → RS.serving ρ.state = true → ρ.red.dqHeard.get src.idx = true → ρ.seen src ≠ RS.update →
      completes (.dqSilent r src) s fun t =>
      judged t 1 0xFF ∧ (t.rod r).rk.dqOut.get src.idx = true ∧
      (t.rod r).agrees { ρ with red := (t.rod r).red, rk := { ρ.rk with dqOut := (t.rod r).rk.dqOut, gone := (t.rod r).rk.gone } }) ∧
    (∀ m : TorqueCopy, ρ.lets src m.epoch (some m.axis) → ρ.tqOff m.axis (m.words.getD 3 0#32).toInt = true →
      1 ≤ ρ.red.tqBad.get m.axis → completes (.torqueCopyReceive r src m) s fun t => judged t 3 m.axis.val)

/-- Two judgements or a withdrawal notice set a removal for the next tick; a removal advances the epoch; orders of both partners
fence (spec/14_rod_redundancy.md R476, spec/14_rod_redundancy.md R482, spec/14_rod_redundancy.md R487, spec/14_rod_redundancy.md
R488, spec/14_rod_redundancy.md R492). JUDGEMENT_MESSAGE of the third rod is held, and with the own judgement of that rod sets
its removal for the tick after the later one and sends the removal order. WITHDRAWAL_NOTICE judges its sender and sets its
removal. REMOVAL that has come to its tick advances the epoch by 1 with record 0x0C11, shows the rod FENCED, and leaves the
leads of the axes that the rod did not lead. REMOVAL_ORDER of one partner changes no register; with that of the other the rod is
FENCED with DIS asserted and record 0x0C12. Under these conditions, of state and operands alone, exec of JUDGEMENT_MESSAGE,
WITHDRAWAL_NOTICE, REMOVAL and REMOVAL_ORDER each answer a next state. -/
def Obligations.JudgementsAndOrdersRemove : Prop :=
  ∀ (s : State) (r src : RodId),
    let σ := s.rod r
    let ρ := σ.view s.rod
    (∀ m : JudgeMsg, src ≠ σ.me → m.judged ≠ σ.me → m.judged ≠ src → completes (.judgementMessage r src m) s fun t =>
      (t.rod r).red.heard.get m.judged.idx = some (m.kind, m.tick.toNat) ∧
      (∀ k u, σ.red.judged.get m.judged.idx = some (k, u) → σ.red.due.get m.judged.idx = none →
        (t.rod r).red.due.get m.judged.idx = some ((laterTick u m.tick.toNat + 1) % 2 ^ 32, k) ∧
        Out.removalOrder m.judged ∈ (t.rod r).out) ∧
      (σ.red.judged.get m.judged.idx = none → (t.rod r).red.due = σ.red.due) ∧
      σ.only (t.rod r) [] { σ with red := { σ.red with heard := (t.rod r).red.heard, due := (t.rod r).red.due } }) ∧
    (∀ k : Word, src ≠ σ.me → RS.serving σ.state = true → completes (.withdrawalNotice r src k) s fun t =>
      ((t.rod r).red.judged.get src.idx).isSome = true ∧ ((t.rod r).red.due.get src.idx).isSome = true ∧
      (σ.red.judged.get src.idx = none → (t.rod r).recorded 0x0C10 sevWarn 0x0A0) ∧
      (σ.red.due.get src.idx = none → σ.red.heard.get src.idx = none →
        (t.rod r).red.due.get src.idx = some ((k.toNat + 1) % 2 ^ 32, 5)) ∧
      σ.only (t.rod r) [Rg.CR_JUDGE, Rg.IRQ_RAW 0x0A0] { σ with red := (t.rod r).red }) ∧
    (∀ k kind, ρ.red.due.get src.idx = some (k, kind) → (ρ.tick + 2 ^ 32 - k) % 2 ^ 32 < 2 ^ 31 → RS.serving ρ.state = true →
      completes (.removal r src) s fun t =>
        (t.rod r).red.due.get src.idx = none ∧ (t.rod r).red.out.get src.idx = true ∧
        (t.rod r).g Fl.CR_EPOCH_EPOCH = (ρ.g Fl.CR_EPOCH_EPOCH + 1) % 65536 ∧ (t.rod r).seen src = RS.fenced ∧
        (t.rod r).recorded 0x0C11 sevDegrade 0x0A0 ∧ (t.rod r).raised 0x0A0 1 ∧ (t.rod r).raised 0x0A0 2 ∧
        (∀ n, ρ.rk.lead.get n ≠ src → (t.rod r).rk.lead.get n = ρ.rk.lead.get n) ∧
        ρ.keepsRegs (t.rod r) [Rg.CR_EPOCH, Rg.IRQ_RAW 0x0A0, Rg.ROD_STATE, Rg.IRQ_RAW 0x001]) ∧
    (src ≠ σ.me → completes (.removalOrder r src) s fun t =>
      ((σ.me.partners.any fun p => p != src && !σ.red.orders.get p.idx) = true →
        σ.only (t.rod r) [] { σ with red := { σ.red with orders := σ.red.orders.set src.idx true } }) ∧
      ((σ.me.partners.all fun p => p == src || σ.red.orders.get p.idx) = true → RS.serving σ.state = true → σ.state ≠ RS.update →
        (t.rod r).state = RS.fenced ∧ (t.rod r).md.dis = true ∧ (t.rod r).recorded 0x0C12 sevWithdraw 0x0A0 ∧
        σ.keepsRegs (t.rod r) [Rg.ROD_STATE, Rg.IRQ_RAW 0x001]))

/-- A carry link that goes down or up shows in CR_STAT with its event and record, and the capacity follows; ACTIVE alone in
OPERATE is split control (spec/14_rod_redundancy.md R481, spec/14_rod_redundancy.md R498, spec/07_timing_contracts.md R248,
spec/04_counting_frame.md R670). CARRY_LINK_DOWN of a link that is up shows the link down with event 3 and record 0x0C50, and
keeps the time of the first loss while the other link is up; the loss of the second link of an ACTIVE rod in OPERATE or LIMP
begins split control with record 0x0C16, unless both went at one instant, which withdraws the rod with record 0x0C15.
CARRY_LINK_UP shows the link up with event 3 and record 0x0C51, and holds half the round trip of the alignment as its transit.
The capacity shown with one link is 16. Under these conditions, of state and operands alone, exec of CARRY_LINK_DOWN and
CARRY_LINK_UP each answer a next state. -/
def Obligations.CarryLinksGoDownAndUp : Prop :=
  ∀ (s : State) (r p : RodId),
    let σ := s.rod r
    let ρ := σ.view s.rod
    let other := if linkNo ρ.me p = 0 then Fl.CR_STAT_LINK_2 else Fl.CR_STAT_LINK_1
    p ≠ σ.me →
    (ρ.linkUp p = true → completes (.carryLinkDown r p) s fun t =>
      (t.rod r).b (linkF ρ.me p) = false ∧ (t.rod r).recorded 0x0C50 sevWarn 0x0A0 ∧ (t.rod r).raised 0x0A0 3 ∧
      (t.rod r).g other = ρ.g other ∧
      (ρ.b other = true → (t.rod r).red.cutFt = some ρ.ft ∧ (t.rod r).state = ρ.state ∧
        (t.rod r).g Fl.CT_STAT_CAP = 16) ∧
      (ρ.b other = false → ρ.state = RS.active → ρ.red.whole = true → ρ.red.cutFt = some ρ.ft →
        (t.rod r).state = RS.fenced ∧ (t.rod r).md.dis = true ∧ (t.rod r).recorded 0x0C15 sevWithdraw 0x0A0) ∧
      (ρ.b other = false → ρ.state = RS.active → ρ.red.whole = false ∨ ρ.red.cutFt ≠ some ρ.ft → ρ.mode = SM.operate ∨ ρ.mode = SM.limp →
        (t.rod r).b Fl.CR_STAT_SPLIT = true ∧ (t.rod r).recorded 0x0C16 sevDegrade 0x0A0)) ∧
    (∀ trip : Nat, σ.linkUp p = false → completes (.carryLinkUp r ⟨p, trip⟩) s fun t =>
      (t.rod r).b (linkF σ.me p) = true ∧ (t.rod r).recorded 0x0C51 sevInfo 0x0A0 ∧ (t.rod r).raised 0x0A0 3 ∧
      (t.rod r).red.tau.get p.idx = trip / 2 ∧
      (t.rod r).g (if linkNo σ.me p = 0 then Fl.CR_STAT_LINK_2 else Fl.CR_STAT_LINK_1) =
        σ.g (if linkNo σ.me p = 0 then Fl.CR_STAT_LINK_2 else Fl.CR_STAT_LINK_1))

/-- INJ_STOP marks the injection, INJECTION_DONE ends it with its values withdrawn; the flash copy, the hours and the corrected
errors count (spec/10_axis_control.md R357, spec/01_architecture.md R39, spec/02_register_pages.md R72,
spec/02_register_pages.md R77). INJ_STOP that is accepted marks a running injection to stop and changes no word. INJECTION_DONE
at its length, or once a STOP has come to its tick, clears RUN, sets DONE with event 2 and record 0x0911, and gives inputs 15
and 0 and ID_REF their own values again; before that it changes nothing. FLASH_RECORD_APPEND appends the oldest waiting record.
OPERATING_HOUR counts in a powered rod that is not OFF. CORRECTED_MEMORY_ERROR counts with event 2. Under these conditions, of
state and operands alone, exec of FLASH_RECORD_APPEND, OPERATING_HOUR, INJECTION_DONE, INJ_STOP and CORRECTED_MEMORY_ERROR each
answer a next state. -/
def Obligations.InjectionsEndAndDiagnosticsCount : Prop :=
  ∀ (s : State) (r : RodId),
    let ρ := s.rod r
    (∀ (path : Path) (n : Axis) (i : Inj), ρ.accepts path (Rg.INJ_CMD n.val) → ρ.rk.inj.get n = some i →
      completes (.injStop r path n) s fun t => (t.rod r).rk.inj.get n = some { i with stop := true } ∧
        (∀ m, m ≠ n → (t.rod r).rk.inj.get m = ρ.rk.inj.get m) ∧ ρ.only (t.rod r) [] { ρ with rk := { ρ.rk with inj := (t.rod r).rk.inj } }) ∧
    (∀ (n : Axis) (i : Inj), ρ.rk.inj.get n = some i →
      (i.len ≤ i.k ∨ i.off = true → completes (.injectionDone r n) s fun t =>
        (t.rod r).rk.inj.get n = none ∧ (t.rod r).b (Fl.INJ_STAT_RUN n.val) = false ∧ (t.rod r).b (Fl.INJ_STAT_DONE n.val) = true ∧
        (t.rod r).raised (axisPage n) 2 ∧ (t.rod r).recorded 0x0911 sevInfo (axisPage n) ∧
        (t.rod r).sg (inputW n.val 15) = 0#32 ∧ (t.rod r).sg (inputW n.val 0) = ρ.rk.posRaw.get n ∧
        (t.rod r).sg (torqueW n.val 4) = ρ.rk.idBase.get n ∧
        (∀ u, u < 16384 → u ≠ inputW n.val 15 → u ≠ inputW n.val 0 → ¬(torqueW n.val 0 ≤ u ∧ u ≤ torqueW n.val 7) → (t.rod r).sg u = ρ.sg u) ∧
        ρ.only (t.rod r) [Rg.INJ_STAT n.val, Rg.IRQ_RAW (axisPage n), Rg.AX_SHARE n.val, Rg.AX_TQ n.val, Rg.AX_SHORT n.val]
          { ρ with rk := { ρ.rk with inj := (t.rod r).rk.inj, sig := (t.rod r).rk.sig } }) ∧
      (i.k < i.len → i.off = false → completes (.injectionDone r n) s fun t => ρ.only (t.rod r) [] ρ)) ∧
    (∀ e es, ρ.recBuf = [] → ρ.flPend = e :: es → completes (.flashRecordAppend r) s fun t =>
      (t.rod r).flPend = es ∧ (t.rod r).flash.getLast? = some e ∧ (t.rod r).flash.length = min 64 (ρ.flash.length + 1) ∧
      ρ.only (t.rod r) [Rg.FL_FLASH] { ρ with flash := (t.rod r).flash }) ∧
    (ρ.state ≠ RS.off → ρ.aon.coreOff = false → completes (.operatingHour r) s fun t =>
      (t.rod r).g Fl.ID_OPH_HOURS = min (2 ^ 32 - 1) (ρ.g Fl.ID_OPH_HOURS + 1) ∧ ρ.only (t.rod r) [Rg.ID_OPH] ρ) ∧
    ∀ flash : Bool,
      let f := if flash then Fl.DIAG_ECC_FLASH else Fl.DIAG_ECC_SRAM
      (ρ.g f < 0xFFFF → completes (.correctedMemoryError ⟨r, flash⟩) s fun t =>
        (t.rod r).g f = ρ.g f + 1 ∧ (t.rod r).raised 0x0D0 2 ∧ ρ.only (t.rod r) [Rg.DIAG_ECC] ρ) ∧
      (ρ.g f = 0xFFFF → completes (.correctedMemoryError ⟨r, flash⟩) s fun t => ρ.only (t.rod r) [] ρ)

/-- The memory windows take working memory, coefficients of the bank not read, and tables; COEF_SYNC copies the bank; TRC_CFG
and CLR_MAX act (spec/08_reckoner.md R285, spec/08_reckoner.md R293, spec/08_reckoner.md R296, spec/08_reckoner.md R302,
spec/08_reckoner.md R306, spec/02_register_pages.md R43). With the windows served: MEMORY_WINDOW_WRITE stores a word of general
working memory; a 64-bit coefficient write stores its 40 bits in the bank the columns do not read; a table write stores in the
bank not read; a write of the sample area is captured with TYPE 1 and discarded. COEF_SYNC sets SYNC_BUSY, and COEF_SYNC_DONE
leaves the other bank equal to the one that was active at the start, where no write was held. TRC_CFG takes effect, restarting
the trace where EN rises. CLR_MAX clears the eight MAX values of a column. Under these conditions, of state and operands alone,
exec of MEMORY_WINDOW_WRITE, COEF_SYNC, COEF_SYNC_DONE, TRC_CFG and CLR_MAX each answer a next state. -/
def Obligations.WindowsBanksAndTraceAreWritten : Prop :=
  ∀ (s : State) (r : RodId) (path : Path),
    let ρ := s.rod r
    let open_ := ρ.answers path.code = true ∧ ρ.clkOn 1 = true ∧ ρ.bitOf Fl.PWR_STAT_PWR_OK 2 = true
    (∀ (i : Nat) (data : DWord), open_ → 0x800 ≤ i → i < 16384 → completes (.memoryWindowWrite r path (0x120000 + 4 * i) 4 data) s fun t =>
      (t.rod r).sg i = data.setWidth 32 ∧ (∀ u, u < 16384 → u ≠ i → (t.rod r).sg u = ρ.sg u) ∧
      ρ.only (t.rod r) [] { ρ with rk := { ρ.rk with sig := (t.rod r).rk.sig } }) ∧
    (∀ (i : Nat) (data : DWord), open_ → i < 0x800 → completes (.memoryWindowWrite r path (0x120000 + 4 * i) 4 data) s fun t =>
      (t.rod r).b (Fl.ERRCAP_0_VALID 0x021) = true ∧ (t.rod r).rk.sig = ρ.rk.sig ∧
      (ρ.b (Fl.ERRCAP_0_VALID 0x021) = false → (t.rod r).g (Fl.ERRCAP_0_TYPE 0x021) = 1 ∧ (t.rod r).g (Fl.ERRCAP_0_PATH 0x021) = path.code) ∧
      ρ.only (t.rod r) [Rg.ERRCAP_0 0x021, Rg.ERRCAP_1 0x021, Rg.IRQ_RAW 0x021] ρ) ∧
    (∀ (i : Nat) (data : DWord), open_ → i < 4096 → ρ.b Fl.COEF_STAT_SYNC_BUSY = false → ρ.rk.actCoef ≤ 1 →
      completes (.memoryWindowWrite r path (0x130000 + 8 * i) 8 data) s fun t =>
        (t.rod r).coefW (1 - ρ.rk.actCoef) i = data &&& 0xFFFFFFFFFF#64 ∧
        (∀ k j, k ≤ 1 → j < 4096 → (k ≠ 1 - ρ.rk.actCoef ∨ j ≠ i) → (t.rod r).coefW k j = ρ.coefW k j) ∧
        ρ.only (t.rod r) [] { ρ with rk := { ρ.rk with coef := (t.rod r).rk.coef }, loPend := (t.rod r).loPend }) ∧
    (∀ (n : Axis) (i : Nat) (data : DWord), open_ → i < 4096 → completes (.memoryWindowWrite r path (0x140000 + 0x4000 * n.val + 4 * i) 4 data) s fun t =>
      (t.rod r).tblW 0 n.val (1 - bankBit (ρ.rk.actTbl.get n) 0) i = data.setWidth 32 ∧
      (∀ j, (t.rod r).tblW 0 n.val (bankBit (ρ.rk.actTbl.get n) 0) (j % 4096) = ρ.tblW 0 n.val (bankBit (ρ.rk.actTbl.get n) 0) (j % 4096)) ∧
      ρ.only (t.rod r) [] { ρ with rk := { ρ.rk with tbl := (t.rod r).rk.tbl } }) ∧
    (ρ.accepts path Rg.COEF_CMD → completes (.coefSync r path) s fun t =>
      (t.rod r).b Fl.COEF_STAT_SYNC_BUSY = true ∧
      (t.rod r).rk.coefSrc = (if ρ.b Fl.COEF_STAT_SYNC_BUSY then ρ.rk.coefSrc else ρ.rk.actCoef) ∧
      ρ.only (t.rod r) [Rg.COEF_STAT] { ρ with rk := { ρ.rk with coefSrc := (t.rod r).rk.coefSrc } }) ∧
    (ρ.b Fl.COEF_STAT_SYNC_BUSY = true → ρ.rk.coefQ = [] → ρ.rk.coefSrc ≤ 1 → ρ.hp.owed = [] → (∀ q : Fin 16, (ρ.qp q).cmds = []) →
     completes (.coefSyncDone r) s fun t =>
      (t.rod r).b Fl.COEF_STAT_SYNC_BUSY = false ∧
      (∀ i, i < 4096 → (t.rod r).coefW (1 - ρ.rk.coefSrc) i = ρ.coefW ρ.rk.coefSrc i ∧ (t.rod r).coefW ρ.rk.coefSrc i = ρ.coefW ρ.rk.coefSrc i) ∧
      ρ.only (t.rod r) [Rg.COEF_STAT] { ρ with rk := { ρ.rk with coef := (t.rod r).rk.coef } }) ∧
    (∀ data : Word, ρ.accepts path Rg.TRC_CFG → completes (.trcCfg r path data) s fun t =>
      (t.rod r).gw Rg.TRC_CFG = data &&& 0x903F000F#32 ∧
      ((t.rod r).rk.traceRestart = (ρ.rk.traceRestart || (wBit data 31 && !ρ.b Fl.TRC_CFG_EN))) ∧
      ρ.only (t.rod r) [Rg.TRC_CFG] { ρ with rk := { ρ.rk with traceRestart := (t.rod r).rk.traceRestart } }) ∧
    (∀ c : Fin 4, ρ.accepts path (Rg.COL_CMD c.val) → completes (.clrMax r path c) s fun t =>
      (∀ k, k < 8 → (t.rod r).g (Fl.TRIG_USE_MAX c.val k) = 0 ∧ (t.rod r).g (Fl.TRIG_USE_LAST c.val k) = ρ.g (Fl.TRIG_USE_LAST c.val k)) ∧
      ρ.only (t.rod r) ((List.range 8).map (Rg.TRIG_USE c.val)) ρ)

/-- A legal edge counts by 1 in its direction, an illegal one counts an error; LEAK at its limit and a lost line fault the path;
SPD_TMO is standstill (spec/12_position_feedback.md R389, spec/12_position_feedback.md R391, spec/12_position_feedback.md R392,
spec/12_position_feedback.md R394, spec/12_position_feedback.md R390, spec/12_position_feedback.md R398,
spec/12_position_feedback.md R403). A level that has not stood for FILT + 1 samples is not accepted, and changes nothing. With
the quadrature path enabled and sound: an edge of Table 12.1 between accepted levels, no less than MIN_SP after the last, moves
the count by 1 (with DIR_INV the other way) within the soft limits; a transition of both lines counts ILL and LEAK and leaves
the count; no change of the lines changes nothing. LEAK_LIMIT at ERR_LIM and LINE_FAULT of a watched line fault the path with
event 0 and record 0x0A03. SPD_TMO sets STILL and keeps the count. INDEX_EVENT in mode 1, in the state of GATE, latches the
count. Under these conditions, of state and operands alone, exec of QUADRATURE_TRANSITION, LEAK_LIMIT, INDEX_EVENT, LINE_FAULT
and SPD_TMO each answer a next state. -/
def Obligations.QuadratureCountsEdges : Prop :=
  ∀ (s : State) (r : RodId) (n : Axis),
    let ρ := s.rod r
    let f := ρ.fb.get n
    let own (t : State) : Rod := { ρ with fb := (t.rod r).fb }
    let filt := ρ.g (Fl.FB_CFG_FILT n.val)
    (∀ (a b : Bool) (ha hb k : Nat), ha ≤ filt → hb ≤ filt → f.st < 4 → completes (.quadratureTransition r n ⟨a, ha⟩ ⟨b, hb⟩ k) s fun t =>
      ρ.only (t.rod r) [] ρ) ∧
    (∀ (a b : Bool) (ha hb k : Nat) (d : Int), filt < ha → filt < hb → ρ.qOk n = true → 2 * b2n a + b2n b ≠ f.st → quadStep f.st (2 * b2n a + b2n b) = some d →
      (∀ e, f.edge = some e → ρ.g (Fl.QD_CFG_MIN_SP n.val) ≤ k - e) →
      let c := ρ.count n + (if ρ.b (Fl.FB_CFG_DIR_INV n.val) then -d else d)
      ρ.cntMin n ≤ c → c ≤ ρ.cntMax n → completes (.quadratureTransition r n ⟨a, ha⟩ ⟨b, hb⟩ k) s fun t =>
        (t.rod r).count n = c ∧ ((t.rod r).fb.get n).st = 2 * b2n a + b2n b ∧ ((t.rod r).fb.get n).edge = some k ∧
        ((t.rod r).fb.get n).ill = false ∧ (∀ m, m ≠ n → (t.rod r).fb.get m = ρ.fb.get m) ∧
        ρ.only (t.rod r) [Rg.FB_CNT n.val, Rg.FB_STAT n.val] (own t)) ∧
    (∀ (a b : Bool) (ha hb k : Nat), filt < ha → filt < hb → ρ.qOk n = true → quadStep f.st (2 * b2n a + b2n b) = none → f.ill = false →
      (∀ e, f.edge = some e → ρ.g (Fl.QD_CFG_MIN_SP n.val) ≤ k - e) → completes (.quadratureTransition r n ⟨a, ha⟩ ⟨b, hb⟩ k) s fun t =>
        (t.rod r).count n = ρ.count n ∧ (t.rod r).g (Fl.ERR_CNT_ILL n.val) = min 0xFF (ρ.g (Fl.ERR_CNT_ILL n.val) + 1) ∧
        (t.rod r).g (Fl.FB_STAT_LEAK n.val) = min 0xFF (ρ.g (Fl.FB_STAT_LEAK n.val) + 1) ∧ ((t.rod r).fb.get n).ill = true ∧
        ρ.only (t.rod r) [Rg.ERR_CNT n.val, Rg.FB_STAT n.val] (own t)) ∧
    (∀ (a b : Bool) (ha hb k : Nat), filt < ha → filt < hb → 2 * b2n a + b2n b = f.st →
      completes (.quadratureTransition r n ⟨a, ha⟩ ⟨b, hb⟩ k) s fun t => ρ.only (t.rod r) [] ρ) ∧
    (let faulted (t : State) (cause : Nat) : Prop :=
       ((t.rod r).fb.get n).qFault = cause ∧ (t.rod r).b (Fl.FB_STAT_Q_OK n.val) = false ∧ (t.rod r).raised (fbPage n) 0 ∧
       (t.rod r).recorded 0x0A03 sevDegrade (fbPage n) ∧ (t.rod r).count n = ρ.count n ∧ ρ.keepsRegs (t.rod r) [Rg.FB_STAT n.val, Rg.IRQ_RAW (fbPage n)]
     (ρ.qOk n = true → ρ.g (Fl.QD_CFG_ERR_LIM n.val) ≤ ρ.g (Fl.FB_STAT_LEAK n.val) → completes (.leakLimit r n) s (faulted · 2)) ∧
     (∀ line : Fin 3, ρ.qOk n = true → line.val < 2 ∨ ρ.g (Fl.QD_CFG_IDX_MODE n.val) ≠ 0 → completes (.lineFault r n line) s (faulted · 3))) ∧
    ((∀ e, f.edge = some e → ρ.passed (e * 25 / 4) (ρ.g (Fl.SPD_TMO_TMO n.val) * 1000) = true) → completes (.spdTmo r n) s fun t => (t.rod r).b (Fl.FB_STAT_STILL n.val) = true ∧ ((t.rod r).fb.get n).run = 0 ∧
      (t.rod r).count n = ρ.count n ∧ ρ.only (t.rod r) [Rg.FB_STAT n.val] (own t)) ∧
    (ρ.g (Fl.QD_CFG_IDX_MODE n.val) = 1 → f.st = ρ.g (Fl.QD_CFG_GATE n.val) → completes (.indexEvent r n) s fun t =>
      (t.rod r).g (Fl.IDX_CNT_CNT n.val) = ρ.g (Fl.FB_CNT_CNT n.val) ∧ (t.rod r).raised (fbPage n) 4 ∧
      ρ.only (t.rod r) [Rg.IDX_CNT n.val, Rg.IRQ_RAW (fbPage n)] ρ)

/-- A serial transfer that passes its checks gives the position, one that fails counts SER_BAD; SER_LIM failures and TRK_N
differences fault; REARM arms the index (spec/12_position_feedback.md R405, spec/12_position_feedback.md R406,
spec/12_position_feedback.md R408, spec/12_position_feedback.md R410, spec/12_position_feedback.md R415,
spec/12_position_feedback.md R399). SERIAL_TRANSFER_END of a transfer in progress that answers within the delay and the start
timeout, with its CRC, error, stop and idle bits right, ends it and shows the position in SER_HI and SER_LO and in the sample
area; one that has not answered counts SER_BAD with cause 5. LEAD_IN_STEP_TIMEOUT goes on before START_TMO and fails at it.
SER_FAULT at SER_LIM failures and TRACK_FAULT at TRK_N differences fault their path with their records. REARM arms the index
reference. Under these conditions, of state and operands alone, exec of LEAD_IN_STEP_TIMEOUT, SERIAL_TRANSFER_END, SER_FAULT,
TRACK_FAULT and REARM each answer a next state. -/
def Obligations.SerialTransfersEndAndFault : Prop :=
  ∀ (s : State) (r : RodId) (n : Axis),
    let ρ := s.rod r
    let f := ρ.fb.get n
    let own (t : State) : Rod := { ρ with fb := (t.rod r).fb }
    let failed (t : State) (cause : Nat) (ex : List Nat) : Prop :=
      ((t.rod r).fb.get n).busy = false ∧ ((t.rod r).fb.get n).bad = f.bad + 1 ∧ ((t.rod r).fb.get n).badWhy = cause ∧
      (t.rod r).g (Fl.ERR_CNT_SER_BAD n.val) = min 0xFF (ρ.g (Fl.ERR_CNT_SER_BAD n.val) + 1) ∧
      (f.bad = 0 → f.sFault = false → (t.rod r).recorded 0x0A10 sevWarn (fbPage n)) ∧ ρ.only (t.rod r) (Rg.ERR_CNT n.val :: ex) (own t)
    (∀ k : SerialFrame, f.busy = true → k.ack = true → k.delay ≤ 320 → 2 ≤ k.step → k.step ≤ ρ.g (Fl.SER_TIM_START_TMO n.val) →
      ρ.b (Fl.SER_CFG_EW_EN n.val) = false → (ρ.b (Fl.SER_CFG_CRC_EN n.val) = true → k.crc.toNat = crc6 0 (msbBits (ρ.dlen n) k.pos.toNat) ^^^ 0x3F) →
      k.stop = true → k.idle = true → completes (.serialTransferEnd r n k) s fun t =>
        let p := ρ.framePos n k
        (t.rod r).g (Fl.SER_LO_POS n.val) = p % 2 ^ 32 ∧ (t.rod r).g (Fl.SER_HI_POS n.val) = p / 2 ^ 32 % 256 ∧
        (t.rod r).g (Fl.SER_DLY_D n.val) = k.delay ∧ (t.rod r).sg (0x0020 + 2 * n.val) = BitVec.ofNat 32 p ∧
        ((t.rod r).fb.get n).busy = false ∧ ((t.rod r).fb.get n).heldTick = some f.latTick ∧
        (∀ u, u < 16384 → u ≠ 0x0020 + 2 * n.val → u ≠ 0x0021 + 2 * n.val → u ≠ 0x0026 + n.val → (t.rod r).sg u = ρ.sg u)) ∧
    (∀ k : SerialFrame, f.busy = true → k.ack = false → completes (.serialTransferEnd r n k) s (failed · 5 [])) ∧
    (∀ k : SerialFrame, f.busy = false → completes (.serialTransferEnd r n k) s fun t => ρ.only (t.rod r) [] ρ) ∧
    (∀ k, f.busy = true → 2 ≤ k → (ρ.g (Fl.SER_TIM_START_TMO n.val) ≤ k → completes (.leadInStepTimeout r n k) s (failed · 3 [])) ∧
      (k < ρ.g (Fl.SER_TIM_START_TMO n.val) → completes (.leadInStepTimeout r n k) s fun t =>
        ((t.rod r).fb.get n).steps = k ∧ ((t.rod r).fb.get n).busy = true ∧ ρ.only (t.rod r) [] (own t))) ∧
    (ρ.sOk n = true → ρ.g (Fl.TRK_CFG_SER_LIM n.val) ≤ f.bad → completes (.serFault r n) s fun t =>
      ((t.rod r).fb.get n).sFault = true ∧ (t.rod r).b (Fl.FB_STAT_S_OK n.val) = false ∧ (t.rod r).raised (fbPage n) 1 ∧
      (t.rod r).recorded 0x0A12 sevDegrade (fbPage n) ∧ ρ.keepsRegs (t.rod r) [Rg.FB_STAT n.val, Rg.IRQ_RAW (fbPage n)]) ∧
    (ρ.qOk n = true → ρ.g (Fl.TRK_CFG_TRK_N n.val) ≤ f.trk → completes (.trackFault r n) s fun t =>
      ((t.rod r).fb.get n).qFault = 4 ∧ (t.rod r).b (Fl.FB_STAT_Q_OK n.val) = false ∧ (t.rod r).recorded 0x0A03 sevDegrade (fbPage n) ∧
      ρ.keepsRegs (t.rod r) [Rg.FB_STAT n.val, Rg.IRQ_RAW (fbPage n)]) ∧
    (∀ path : Path, ρ.accepts path (Rg.FB_CMD n.val) → completes (.rearm r path n) s fun t =>
      ((t.rod r).fb.get n).idxArm = true ∧ (∀ m, m ≠ n → (t.rod r).fb.get m = ρ.fb.get m) ∧ ρ.only (t.rod r) [] (own t))

/-- Time-base frames give the base, TIME_CAPTURE opens the window with the own error, TIME_FRAME brings a partner's, TAKE copies
FT (spec/04_counting_frame.md R112, spec/04_counting_frame.md R113, spec/04_counting_frame.md R114, spec/04_counting_frame.md
R115, spec/04_counting_frame.md R670, spec/04_counting_frame.md R137, spec/05_flexray.md R160). TIME_BASE_FRAME of the slot and
channel of TB_CFG, in a cycle that brought none before, whose counter matches its cycle is the new base where none is held, or
one within OUT_LIM of it; one away from it is kept as candidate with record 0x0267; one that does not match changes nothing.
TIME_CAPTURE at a capture instant from SYNC on brings FT to the capture, opens the window with the own error alone and sends
cluster time and FT, with an FT of sending within 5 microseconds (the value is free, log entry 67). TIME_FRAME of a partner
within 20 microseconds of the capture holds its error less the offset of the exchange. TAKE that is accepted shows FT in
SNAP_FT. Under these conditions, of state and operands alone, exec of TIME_BASE_FRAME, TIME_CAPTURE, TIME_FRAME and TAKE each
answer a next state. -/
def Obligations.CapturesTakeClusterTimes : Prop :=
  ∀ (s : State) (r : RodId),
    let ρ := s.rod r
    (∀ (f : FrSlot) (k : FrFrame), ρ.frRuns = true → ρ.poc ≠ Poc.startup →
      (if ρ.b Fl.TB_CFG_TB_CH then f.b else f.a) = some k → ρ.chanOn (if ρ.b Fl.TB_CFG_TB_CH then .b else .a) = true →
      k.err = 0 → ρ.frWindow f.slot k = true → f.slot = ρ.g Fl.TB_CFG_TB_SLOT → k.null = false →
      let base := leAt k.payload 0 8
      let counter := leAt k.payload 8 1
      (counter ≠ f.cycle % 64 → completes (.timeBaseFrame r f) s fun t => ρ.only (t.rod r) [] ρ) ∧
      (counter = f.cycle % 64 → ρ.tb.base = none → ρ.tb.cand = none → completes (.timeBaseFrame r f) s fun t =>
        ρ.only (t.rod r) [] { ρ with tb := { ρ.tb with base := some (base, f.cycle), cand := none } }) ∧
      (∀ b c, counter = f.cycle % 64 → ρ.tb.base = some (b, c) → c ≠ f.cycle → ρ.tb.cand = none →
        let off := ((base : Int) - ((b : Int) + ((f.cycle : Int) - c) * ρ.cycleNs)).natAbs
        (off ≤ ρ.g Fl.DISC_CFG_OUT_LIM → completes (.timeBaseFrame r f) s fun t =>
          ρ.only (t.rod r) [] { ρ with tb := { ρ.tb with base := some (base, f.cycle), cand := none } }) ∧
        (ρ.g Fl.DISC_CFG_OUT_LIM < off → completes (.timeBaseFrame r f) s fun t =>
          (t.rod r).recorded 0x0267 sevWarn 0x040 ∧ ρ.only (t.rod r) [] { ρ with tb := { ρ.tb with cand := some (base, f.cycle) } }))) ∧
    (∀ (ft : DWord) (pos : ClusterPos) (phase : Nat), RS.sync ≤ ρ.state → ρ.clkOn 3 = true → (ρ.atFt ft.toNat).atCapture = true →
      completes (.timeCapture r ⟨ft, phase⟩ pos) s fun t =>
        let q := ρ.atFt ft.toNat
        let v := q.ownTimeValid pos
        let ts := q.clusterTime pos
        let fts : Int := 12500 * q.ftn + phase
        (t.rod r).ftn = max ρ.ftn ((2 * ft.toNat + 24) / 25) ∧ (t.rod r).tb.open_ = true ∧
        (t.rod r).tb.errs = (Tri.rep none).set ρ.me.idx (if v then some (ts - fts) else none) ∧ (t.rod r).tb.offs = Tri.rep none ∧
        (∃ m : TimeMsg, Out.time m ∈ (t.rod r).out ∧ m.valid = v ∧ m.ts = ts ∧ m.fts = fts ∧ fts ≤ m.fttx ∧ m.fttx ≤ fts + 5000000) ∧
        ρ.only (t.rod r) [] { q with fresh := (t.rod r).fresh
                                     tb := { ρ.tb with open_ := true, capFt := q.ft, errs := (t.rod r).tb.errs, offs := (t.rod r).tb.offs } }) ∧
    (∀ (src : RodId) (ft : DWord) (m : TimeMsg),
      let ρ := ρ.view s.rod
      let q := ρ.atFt ft.toNat
      let δ : Int := 12500 * q.ftn - ρ.transit s.rod src - m.fttx
      ρ.tb.open_ = true → src ≠ ρ.me → q.ft ≤ ρ.tb.capFt + 20000 → completes (.timeFrame r src ⟨ft, m⟩) s fun t =>
        (t.rod r).tb.errs.get src.idx = (if m.valid then some (m.ts - m.fts - δ) else none) ∧ (t.rod r).tb.offs.get src.idx = some δ ∧
        (∀ i, i ≠ src.idx → (t.rod r).tb.errs.get i = ρ.tb.errs.get i ∧ (t.rod r).tb.offs.get i = ρ.tb.offs.get i) ∧
        ρ.only (t.rod r) [] { q with tb := { ρ.tb with errs := (t.rod r).tb.errs, offs := (t.rod r).tb.offs, takes := (t.rod r).tb.takes } }) ∧
    (∀ path : Path, ρ.accepts path Rg.SNAP_CTRL → completes (.take r path) s fun t =>
      (t.rod r).g Fl.SNAP_FT_LO_FT = ρ.ft % 2 ^ 32 ∧ (t.rod r).g Fl.SNAP_FT_HI_FT = ρ.ft / 2 ^ 32 % 2 ^ 32 ∧
      ρ.only (t.rod r) [Rg.SNAP_FT_LO, Rg.SNAP_FT_HI] ρ)

/-- The close of the window steps FT onto the reference in SYNC, shows the remainder and the rate, or enters holdover
(spec/04_counting_frame.md R116, spec/04_counting_frame.md R119, spec/04_counting_frame.md R121, spec/04_counting_frame.md R123,
spec/04_counting_frame.md R136). CAPTURE_WINDOW_CLOSE with the window open closes it and shows in SRC_MODE how many cluster
times agreed. Where the cluster times give a reference: a rod in SYNC without a valid FT steps FT to it, 12.5 ns at most below,
with VALID and record 0x0260; a rod with a valid FT that is not serving shows the remainder, clears HOLD and forms the rate from
the error and the integrator, both limited to SLEW_MAX. Where they give none and FT is valid HOLD is set. With the window closed
nothing changes. Under these conditions, of state and operands alone, exec of CAPTURE_WINDOW_CLOSE answers a next state. -/
def Obligations.WindowCloseDisciplinesTime : Prop :=
  ∀ (s : State) (r : RodId),
    let ρ := (s.rod r).view s.rod
    let ref := refOf (ρ.g Fl.DISC_CFG_OUT_LIM) ρ.sources
    (ρ.tb.open_ = false → completes (.captureWindowClose r) s fun t => ρ.only (t.rod r) [] ρ) ∧
    (ρ.tb.open_ = true → completes (.captureWindowClose r) s fun t =>
      (t.rod r).tb.open_ = false ∧ (t.rod r).g Fl.FT_STAT_SRC_MODE = ref.2 ∧ (t.rod r).me = ρ.me ∧ (t.rod r).rk.sig = ρ.rk.sig ∧
      (∀ e, ref.1 = some e → ρ.b Fl.FT_STAT_VALID = false → ρ.state = RS.sync →
        (t.rod r).ftn = ((12500 * (ρ.ftn : Int) + e) / 12500).toNat ∧ (t.rod r).b Fl.FT_STAT_VALID = true ∧
        (t.rod r).recorded 0x0260 sevInfo 0x040) ∧
      (∀ e, ref.1 = some e → ρ.b Fl.FT_STAT_VALID = true → RS.serving ρ.state = false →
        (t.rod r).ftn = ρ.ftn ∧ (t.rod r).b Fl.FT_STAT_HOLD = false ∧ (t.rod r).g Fl.REMAINDER_E = satWord e ∧
        (let lim : Int := ρ.g Fl.DISC_CFG_SLEW_MAX * 16000
         (t.rod r).tb.integ64 = clampI (-lim) lim (ρ.tb.integ64 + e) ∧
         (t.rod r).g Fl.RATE_CORR_RATE = natOfInt 32 (divRoundAway (clampI (-lim) lim (8 * e + (t.rod r).tb.integ64)) 16))) ∧
      (ref.1 = none → ρ.b Fl.FT_STAT_VALID = true → RS.serving ρ.state = false →
        (t.rod r).ftn = ρ.ftn ∧ (t.rod r).b Fl.FT_STAT_HOLD = true ∧
        (ρ.b Fl.FT_STAT_HOLD = false → (t.rod r).tb.holdFt = ρ.ft ∧ (t.rod r).recorded 0x0263 sevDegrade 0x040)) ∧
      (ref.1 = none → ρ.b Fl.FT_STAT_VALID = false → (t.rod r).ftn = ρ.ftn ∧ (t.rod r).b Fl.FT_STAT_VALID = false))

/-- LOCKED comes and goes with 16 captures, sources with 8, XMOD_OK with HOLD_LIM and 16 captures after; a first lock in SYNC is
READY (spec/04_counting_frame.md R117, spec/04_counting_frame.md R118, spec/04_counting_frame.md R120, spec/04_counting_frame.md
R124, spec/03_operating_modes.md R83, spec/03_operating_modes.md R85). LOCK_ACQUIRED after 16 near captures sets LOCKED with
event 0, and brings a rod in SYNC whose carry links are each aligned or reported silent to READY, or to FENCED where its
partners run without it; while a link is neither it stays in SYNC. LOCKED_CLEAR after 16 far ones clears it. SRC_EXCLUDED after
8 outliers excludes the cluster with record 0x0261; SRC_READMITTED after 8 near ones re-admits it with record 0x0262.
HOLD_EXPIRED in a holdover longer than HOLD_LIM clears XMOD_OK with record 0x0264, once; XMOD_RETURN sets it again 16 captures
after the end of holdover. SYNC_TIMEOUT records 0x0111. Under these conditions, of state and operands alone, exec of
SYNC_TIMEOUT, LOCK_ACQUIRED, LOCKED_CLEAR, SRC_EXCLUDED, SRC_READMITTED, HOLD_EXPIRED and XMOD_RETURN each answer a next state.
-/
def Obligations.LockAndSourcesFollowTheirCounts : Prop :=
  ∀ (s : State) (r c : RodId),
    let σ := s.rod r
    let ρ := σ.view s.rod
    (16 ≤ ρ.tb.good → ρ.b Fl.FT_STAT_LOCKED = false → completes (.lockAcquired r) s fun t =>
      (t.rod r).b Fl.FT_STAT_LOCKED = true ∧ (t.rod r).raised 0x040 0 ∧ (t.rod r).ftn = ρ.ftn ∧
      (ρ.state ≠ RS.sync → (t.rod r).state = ρ.state ∧ ρ.only (t.rod r) [Rg.FT_STAT, Rg.IRQ_RAW 0x040] ρ) ∧
      (ρ.state = RS.sync → ρ.linksKnown = false → (t.rod r).state = RS.sync) ∧
      (ρ.state = RS.sync → ρ.linksKnown = true → (t.rod r).red.holds = true ∧ ((t.rod r).state = RS.ready ∨ (t.rod r).state = RS.fenced) ∧
        ((∀ p ∈ ρ.me.partners, ρ.live p = true → (s.rod p).mode < SM.arming) → (t.rod r).state = RS.ready))) ∧
    (16 ≤ σ.tb.bad → σ.b Fl.FT_STAT_LOCKED = true → completes (.lockedClear r) s fun t =>
      (t.rod r).b Fl.FT_STAT_LOCKED = false ∧ (t.rod r).raised 0x040 0 ∧ σ.only (t.rod r) [Rg.FT_STAT, Rg.IRQ_RAW 0x040] σ) ∧
    (σ.b Fl.FT_STAT_VALID = true → 8 ≤ σ.tb.outN.get c.idx → σ.tb.excl.get c.idx = false → completes (.srcExcluded r c) s fun t =>
      (t.rod r).tb.excl.get c.idx = true ∧ (t.rod r).tb.used.get c.idx = false ∧ (t.rod r).bitOf Fl.FT_STAT_OUTLIER c.code = false ∧
      (t.rod r).recorded 0x0261 sevWarn 0x040 ∧ (∀ i, i ≠ c.idx → (t.rod r).tb.excl.get i = σ.tb.excl.get i) ∧
      σ.only (t.rod r) [Rg.FT_STAT] { σ with tb := (t.rod r).tb }) ∧
    (σ.b Fl.FT_STAT_VALID = true → 8 ≤ σ.tb.backN.get c.idx → σ.tb.excl.get c.idx = true → completes (.srcReadmitted r c) s fun t =>
      (t.rod r).tb.excl.get c.idx = false ∧ (t.rod r).recorded 0x0262 sevInfo 0x040 ∧
      (∀ i, i ≠ c.idx → (t.rod r).tb.excl.get i = σ.tb.excl.get i) ∧ σ.only (t.rod r) [] { σ with tb := (t.rod r).tb }) ∧
    (σ.b Fl.FT_STAT_HOLD = true → σ.tb.expired = false → σ.tb.holdFt + σ.g Fl.HOLD_CFG_HOLD_LIM * 1000000 < σ.ft →
      completes (.holdExpired r) s fun t =>
      (t.rod r).tb.expired = true ∧ (t.rod r).b Fl.FT_STAT_XMOD_OK = false ∧ (t.rod r).recorded 0x0264 sevDegrade 0x040 ∧
      (σ.b Fl.FT_STAT_XMOD_OK = true → (t.rod r).raised 0x040 4) ∧
      σ.only (t.rod r) [Rg.FT_STAT, Rg.IRQ_RAW 0x040] { σ with tb := { σ.tb with expired := true, xmod := 0 } }) ∧
    (σ.b Fl.FT_STAT_HOLD = false → σ.tb.expired = true → 16 ≤ σ.tb.xmod → completes (.xmodReturn r) s fun t =>
      (t.rod r).b Fl.FT_STAT_XMOD_OK = true ∧ σ.only (t.rod r) [Rg.FT_STAT] { σ with tb := { σ.tb with expired := false } }) ∧
    (σ.state = RS.sync → σ.b Fl.FT_STAT_VALID = false → completes (.syncTimeout r) s fun t =>
      (t.rod r).recorded 0x0111 sevWarn 0x001 ∧ σ.only (t.rod r) [] σ)

/-- Class-T faults latch the half-bridge with its cause, class-E faults start, both with their counts, events and records
(spec/13_gate_drive.md R442, spec/13_gate_drive.md R443, spec/13_gate_drive.md R448, spec/13_gate_drive.md R467,
spec/13_gate_drive.md R469, spec/13_gate_drive.md R470). DESATURATION, OVERCURRENT and DIE_OVERTEMP latch a class-T fault (cause
1, 2 and, in every half-bridge, 4) with its condition present; BOOT_UV, VGD_UV and GATE_PLAUS start a class-E fault (VGD in
every half-bridge, which keeps the low sides off). DRV_CAUSE shows the cause, DRV_CNT counts, the event of the page is set, the
record is written (0x0B01, 0x0B02 and 0x0B12 where the last of the kind is 1,024 ticks past), AXSTAT's fault flag is set and
POLICY.DRV_OFF takes the set off. Nothing of another half-bridge changes but that a set taken off loses its enables. Under these
conditions, of state and operands alone, exec of DESATURATION, OVERCURRENT, DIE_OVERTEMP, BOOT_UV, VGD_UV and GATE_PLAUS each
answer a next state. -/
def Obligations.DriveFaultsLatch : Prop :=
  ∀ (s : State) (r : RodId),
    let ρ := s.rod r
    let rest (t : State) (n : Axis) (p : Phase) : Prop :=
      (∀ (m : Axis) (q : Phase), m ≠ n ∨ q ≠ p → ((t.rod r).half m q).tCause = (ρ.half m q).tCause ∧
        ((t.rod r).half m q).tCond = (ρ.half m q).tCond ∧ ((t.rod r).half m q).eAct = (ρ.half m q).eAct ∧
        ((t.rod r).half m q).duty = (ρ.half m q).duty) ∧
      (t.rod r).rk.drvFlt.get n = true ∧ (ρ.b (Fl.POLICY_DRV_OFF n.val) = true → (t.rod r).rk.setOn.get n = false) ∧
      (ρ.b (Fl.POLICY_DRV_OFF n.val) = false → (t.rod r).rk.setOn = ρ.rk.setOn) ∧
      ρ.only (t.rod r) [Rg.DRV_CAUSE n.val, Rg.DRV_CNT n.val, Rg.IRQ_RAW (drivePage n), Rg.IRQ_RAW 0x060]
        { ρ with hb := (t.rod r).hb, rk := { ρ.rk with drvFlt := (t.rod r).rk.drvFlt, setOn := (t.rod r).rk.setOn, setFt := (t.rod r).rk.setFt } }
    let whole (t : State) (more : List Nat) (die : Die) : Prop :=
      ρ.only (t.rod r) ([Rg.DRV_CAUSE 0, Rg.DRV_CAUSE 1, Rg.DRV_CAUSE 2, Rg.IRQ_RAW 0x090, Rg.IRQ_RAW 0x091, Rg.IRQ_RAW 0x092,
          Rg.IRQ_RAW 0x060, Rg.IRQ_RAW 0x093] ++ more)
        { ρ with hb := (t.rod r).hb, die := die
                 rk := { ρ.rk with drvFlt := (t.rod r).rk.drvFlt, setOn := (t.rod r).rk.setOn, setFt := (t.rod r).rk.setFt } }
    let classT (i : Instr) (n : Axis) (p : Phase) (cause : Nat) (cnt : Fld) (code : Nat) (last : Option Nat) : Prop :=
      completes i s fun t =>
        ((t.rod r).half n p).tCause = cause ∧ ((t.rod r).half n p).tCond = true ∧ (t.rod r).g (tCauseF n p) = cause ∧
        (t.rod r).g cnt = min 0xFF (ρ.g cnt + 1) ∧ (t.rod r).raised (drivePage n) 0 ∧
        (ρ.recordDue last = true → (t.rod r).recorded code sevDegrade (drivePage n)) ∧ rest t n p
    let classE (i : Instr) (n : Axis) (p : Phase) (k : Fin 3) (code : Nat) (due : Bool) : Prop :=
      completes i s fun t =>
        ((t.rod r).half n p).eAct = (ρ.half n p).eAct.set k true ∧ ((t.rod r).half n p).eCond = (ρ.half n p).eCond.set k true ∧
        ((t.rod r).half n p).tCause = (ρ.half n p).tCause ∧ (t.rod r).g (eCauseF n p) = eCauseOf ((t.rod r).half n p) ∧
        (t.rod r).g (Fl.DRV_CNT_E n.val) = min 0xFF (ρ.g (Fl.DRV_CNT_E n.val) + 1) ∧ (t.rod r).raised (drivePage n) 1 ∧
        (due = true → (t.rod r).recorded code sevWarn (drivePage n)) ∧ rest t n p
    (∀ (n : Axis) (p : Phase),
      classT (.desaturation r n p) n p 1 (Fl.DRV_CNT_DESAT n.val) 0x0B01 (ρ.half n p).lastDs ∧
      classT (.overcurrent r n p) n p 2 (Fl.DRV_CNT_OC n.val) 0x0B02 (ρ.half n p).lastOc ∧
      (∀ on, classE (.bootUv r n p on) n p 0 0x0B10 true) ∧
      (∀ cmdOn, classE (.gatePlaus r n p true cmdOn) n p 2 0x0B12 (ρ.recordDue (ρ.half n p).lastPh) ∧
        classE (.gatePlaus r n p false cmdOn) n p 2 0x0B12 (ρ.recordDue (ρ.half n p).lastPl))) ∧
    (∀ temp, completes (.dieOvertemp r temp) s fun t =>
      (∀ (n : Axis) (p : Phase), ((t.rod r).half n p).tCause = 4 ∧ ((t.rod r).half n p).tCond = true ∧ (t.rod r).g (tCauseF n p) = 4) ∧
      (t.rod r).b Fl.SUP_STAT_OVERTEMP = true ∧ (t.rod r).raised 0x093 6 ∧ (t.rod r).recorded 0x0B04 sevDegrade 0x093 ∧
      whole t [Rg.SUP_STAT] { ρ.die with hot := true }) ∧
    (∀ vgd : BitVec 16,
      (vgd.toNat < 27853 → ρ.die.vgdUv = false → completes (.vgdUv r vgd) s fun t =>
        (∀ (n : Axis) (p : Phase) (pulse : Bool), ((t.rod r).half n p).eAct = (ρ.half n p).eAct.set 1 true ∧
          ((t.rod r).half n p).tCause = (ρ.half n p).tCause ∧ ((t.rod r).gates n p pulse).2 = false) ∧
        (∀ n : Axis, (t.rod r).g (Fl.DRV_CNT_E n.val) = min 0xFF (ρ.g (Fl.DRV_CNT_E n.val) + 3)) ∧
        (t.rod r).raised 0x093 3 ∧ (t.rod r).recorded 0x0B11 sevWarn 0x093 ∧
        whole t [Rg.DRV_CNT 0, Rg.DRV_CNT 1, Rg.DRV_CNT 2] { ρ.die with vgdUv := true }) ∧
      (27853 ≤ vgd.toNat ∨ ρ.die.vgdUv = true → completes (.vgdUv r vgd) s fun t => ρ.only (t.rod r) [] ρ))

/-- A class-E fault ends at a pulse edge, T_CLR lowers enables, and the end of its pulse clears a latch whose condition has gone
(spec/13_gate_drive.md R444, spec/13_gate_drive.md R445, spec/13_gate_drive.md R446, spec/13_gate_drive.md R428,
spec/13_gate_drive.md R466). E_ENDED ends every class-E fault of the half-bridge in force whose condition has gone (of the VGD
fault only where VGD has been seen back) with event 2 and record 0x0B13, and changes nothing where none ends. T_CLR with its KEY
lowers the enables named; with another KEY it is captured with TYPE 6. T_CLR_PULSE_END lets each half-bridge under a pulse rise
again: where the axis is enabled and its set stays on, the latch clears, or holds the condition found present; record 0x0B06 is
written. DIS_CHANGE and ASC_CHANGE set the input named and nothing else. Under these conditions, of state and operands alone,
exec of E_ENDED, T_CLR, T_CLR_PULSE_END, DIS_CHANGE and ASC_CHANGE each answer a next state. -/
def Obligations.DriveFaultsEndAndClear : Prop :=
  ∀ (s : State) (r : RodId),
    let ρ := s.rod r
    (∀ (n : Axis) (p : Phase), let h := ρ.half n p
      (h.eAct.get 0 = true ∨ h.eAct.get 2 = true → completes (.eEnded r n p) s fun t =>
        let h' := (t.rod r).half n p
        h'.eAct.get 0 = false ∧ h'.eAct.get 2 = false ∧ h'.eAct.get 1 = (h.eAct.get 1 && h.eCond.get 1) ∧ h'.tCause = h.tCause ∧
        (t.rod r).g (eCauseF n p) = eCauseOf h' ∧ (t.rod r).raised (drivePage n) 2 ∧ (t.rod r).recorded 0x0B13 sevInfo (drivePage n) ∧
        (∀ (m : Axis) (q : Phase), m ≠ n ∨ q ≠ p → (t.rod r).half m q = ρ.half m q) ∧
        ρ.only (t.rod r) [Rg.DRV_CAUSE n.val, Rg.IRQ_RAW (drivePage n)]
          { ρ with hb := (t.rod r).hb, rk := { ρ.rk with drvFlt := (t.rod r).rk.drvFlt } }) ∧
      (h.eAct.get 0 = false → h.eAct.get 2 = false → h.eAct.get 1 = false ∨ h.eCond.get 1 = true → completes (.eEnded r n p) s fun t =>
        ρ.only (t.rod r) [] ρ)) ∧
    (∀ (path : Path) (n : Axis) (data : Word), ρ.accepts path (Rg.DRV_CMD n.val) →
      (wBits data 8 8 = 0x5A → completes (.tClr r path n data) s fun t =>
        (∀ p : Phase, (wBit data p.val = true → (t.rod r).half n p = { ρ.half n p with clr := true, en := false } ∧
            (t.rod r).enable n p = false) ∧
          (wBit data p.val = false → (t.rod r).half n p = ρ.half n p)) ∧
        (∀ (m : Axis) (q : Phase), m ≠ n → (t.rod r).half m q = ρ.half m q) ∧ ρ.only (t.rod r) [] { ρ with hb := (t.rod r).hb }) ∧
      (wBits data 8 8 ≠ 0x5A → completes (.tClr r path n data) s fun t =>
        (t.rod r).b (Fl.ERRCAP_0_VALID (drivePage n)) = true ∧
        (ρ.b (Fl.ERRCAP_0_VALID (drivePage n)) = false → (t.rod r).g (Fl.ERRCAP_0_TYPE (drivePage n)) = 6) ∧
        ρ.only (t.rod r) [Rg.ERRCAP_0 (drivePage n), Rg.ERRCAP_1 (drivePage n), Rg.IRQ_RAW (drivePage n)] ρ)) ∧
    (∀ (n : Axis) (present : Tri Nat), (∃ p, (ρ.half n p).clr = true) → (∀ p, present.get p ≤ 4) →
      ρ.b (Fl.POLICY_DRV_OFF n.val) = false → completes (.tClrPulseEnd r n present) s fun t =>
        (∀ p : Phase, ((t.rod r).half n p).clr = false ∧
          ((ρ.half n p).clr = true → ρ.enableBut n = true → ((t.rod r).half n p).en = true ∧
            ((t.rod r).half n p).tCause = if (ρ.half n p).tCause = 0 then 0 else present.get p) ∧
          ((ρ.half n p).clr = true → ρ.enableBut n = false → ((t.rod r).half n p).tCause = (ρ.half n p).tCause) ∧
          ((ρ.half n p).clr = false → (t.rod r).half n p = ρ.half n p)) ∧
        (∀ (m : Axis) (q : Phase), m ≠ n → (t.rod r).half m q = ρ.half m q) ∧ (t.rod r).recorded 0x0B06 sevInfo (drivePage n) ∧
        ρ.only (t.rod r) [Rg.DRV_CAUSE n.val, Rg.DRV_CNT n.val, Rg.IRQ_RAW (drivePage n)]
          { ρ with hb := (t.rod r).hb, rk := { ρ.rk with drvFlt := (t.rod r).rk.drvFlt } }) ∧
    (∀ on : Bool, completes (.disChange r on) s fun t => ρ.only (t.rod r) [] { ρ with md := { ρ.md with dis := on } }) ∧
    (∀ (n : Axis) (on : Bool), completes (.ascChange r n on) s fun t => ρ.only (t.rod r) [] { ρ with md := { ρ.md with asc := ρ.md.asc.set n on } })

/-- The fence latch turns every half-bridge off; the supply short turns the low sides on; chopper, supply, temperature and
diagnostic mode act (spec/13_gate_drive.md R427, spec/13_gate_drive.md R429, spec/13_gate_drive.md R430, spec/13_gate_drive.md
R450, spec/13_gate_drive.md R451, spec/13_gate_drive.md R459, spec/13_gate_drive.md R460, spec/13_gate_drive.md R461,
spec/13_gate_drive.md R463, spec/13_gate_drive.md R465). FENCE_LATCH with the contactor commanded on latches, fences a serving
rod with DIS and record 0x0B40, and puts every half-bridge in row 1 of Table 13.1. FENCE_CLR in REJOIN with 40 mA clears it.
CHOPPER_ON and CHOPPER_OFF set and clear the chopper with its time counted. CHOPPER_FAIL and SUPPLY_OV2 take all sets off and,
where no fence, latch or undervoltage stands, turn the low sides on. VM_UNDERVOLT, VM_UV_CLEAR and DIE_TEMP_WARN move their
flags. DRV_DIAG is taken in STANDBY with access open and captured otherwise; DIAG_ON_TIME after ON_T turns its switch off. Under
these conditions, of state and operands alone, exec of FENCE_LATCH, FENCE_CLR, CHOPPER_ON, CHOPPER_OFF, CHOPPER_FAIL,
SUPPLY_OV2, VM_UNDERVOLT, VM_UV_CLEAR, DIE_TEMP_WARN, DRV_DIAG and DIAG_ON_TIME each answer a next state. -/
def Obligations.SupplyAndFenceAct : Prop :=
  ∀ (s : State) (r : RodId),
    let ρ := s.rod r
    let short (t : State) : Prop :=
      (∀ n, (t.rod r).rk.setOn.get n = false) ∧
      (∀ (n : Axis) (p : Phase) (pulse : Bool), ρ.die.fence = false → (ρ.half n p).tCause = 0 → ρ.die.vgdUv = false →
        (t.rod r).gates n p pulse = (false, true))
    (ρ.md.khs = true → ρ.die.fence = false → completes (.fenceLatch r) s fun t =>
      (t.rod r).die = { ρ.die with fence := true } ∧ (t.rod r).raised 0x093 7 ∧ (t.rod r).recorded 0x0B40 sevWithdraw 0x093 ∧
      (RS.serving ρ.state = true → (t.rod r).state = RS.fenced ∧ (t.rod r).md.dis = true) ∧
      (∀ (n : Axis) (p : Phase) (pulse : Bool), (t.rod r).gateRow n p = 1 ∧ (t.rod r).gates n p pulse = (false, false)) ∧
      ρ.only (t.rod r) [Rg.IRQ_RAW 0x093, Rg.ROD_STATE, Rg.IRQ_RAW 0x001]
        { ρ with die := (t.rod r).die, md := (t.rod r).md, sf := (t.rod r).sf }) ∧
    (ρ.md.khs = false ∨ ρ.die.fence = true → completes (.fenceLatch r) s fun t => ρ.only (t.rod r) [] ρ) ∧
    (∀ (path : Path) (data : Word) (ma : Nat), ρ.accepts path Rg.SUP_CMD → wBit data 0 = true →
      (wBits data 8 8 = 0x5A → ρ.state = RS.rejoin → 40 ≤ ma → completes (.fenceClr r path data ma) s fun t =>
        (t.rod r).die = { ρ.die with fence := false } ∧ (t.rod r).g Fl.FENCE_STAT_COIL_MA = min 0xFFFF ma ∧
        (ρ.die.fence = true → (t.rod r).recorded 0x0B41 sevInfo 0x093) ∧
        ρ.only (t.rod r) [Rg.FENCE_STAT] { ρ with die := (t.rod r).die }) ∧
      (wBits data 8 8 ≠ 0x5A ∨ ρ.state ≠ RS.rejoin ∨ ma < 40 → completes (.fenceClr r path data ma) s fun t =>
        (t.rod r).b (Fl.ERRCAP_0_VALID 0x093) = true ∧ ρ.only (t.rod r) [Rg.ERRCAP_0 0x093, Rg.ERRCAP_1 0x093, Rg.IRQ_RAW 0x093] ρ)) ∧
    (∀ vm : BitVec 16, ρ.b Fl.CHP_CFG_EN = true → supCode (ρ.g Fl.SUP_OV_OV1_ON) < vm.toNat → ρ.b Fl.SUP_STAT_OV1 = false →
      ρ.die.chopFail = false → completes (.chopperOn r vm) s fun t =>
        (t.rod r).b Fl.SUP_STAT_OV1 = true ∧ (t.rod r).b Fl.SUP_STAT_CHOP_ON = true ∧ (t.rod r).raised 0x093 0 ∧
        (ρ.die.lastChop = none → (t.rod r).recorded 0x0B30 sevInfo 0x093) ∧
        ρ.only (t.rod r) [Rg.SUP_STAT, Rg.IRQ_RAW 0x093] { ρ with die := (t.rod r).die }) ∧
    (∀ us : Nat, ρ.b Fl.SUP_STAT_CHOP_ON = true →
      (ρ.g Fl.CHP_CFG_MIN_ON ≤ us → completes (.chopperOff r us) s fun t =>
        (t.rod r).b Fl.SUP_STAT_OV1 = false ∧ (t.rod r).b Fl.SUP_STAT_CHOP_ON = false ∧
        (t.rod r).g Fl.CHP_TIME_T = min 0xFFFFFFFF (ρ.g Fl.CHP_TIME_T + us) ∧
        ρ.only (t.rod r) [Rg.SUP_STAT, Rg.CHP_TIME] { ρ with die := (t.rod r).die }) ∧
      (us < ρ.g Fl.CHP_CFG_MIN_ON → completes (.chopperOff r us) s fun t => ρ.only (t.rod r) [] ρ)) ∧
    (∀ cause : Nat, ρ.b Fl.CHP_CFG_EN = true → ρ.die.vgdUv = false → ρ.die.chopFail = false →
      ρ.b Fl.SUP_STAT_CHOP_ON = decide (cause = 1) → completes (.chopperFail r cause) s fun t =>
        (t.rod r).die = { ρ.die with chopFail := true, supAsc := true } ∧ (t.rod r).b Fl.SUP_STAT_CHOP_ON = false ∧
        (t.rod r).raised 0x093 2 ∧ (t.rod r).recorded 0x0B32 sevDegrade 0x093 ∧ short t ∧
        ρ.keepsRegs (t.rod r) [Rg.SUP_STAT, Rg.IRQ_RAW 0x093]) ∧
    (∀ vm : BitVec 16, supCode (ρ.g Fl.SUP_OV_OV2) < vm.toNat → completes (.supplyOv2 r vm) s fun t =>
      (t.rod r).die = { ρ.die with supAsc := true } ∧ (t.rod r).b Fl.SUP_STAT_OV2 = true ∧ (t.rod r).raised 0x093 1 ∧
      (t.rod r).recorded 0x0B31 sevDegrade 0x093 ∧ short t ∧ ρ.keepsRegs (t.rod r) [Rg.SUP_STAT, Rg.IRQ_RAW 0x093]) ∧
    (∀ vm : BitVec 16, vm.toNat < supCode (ρ.g Fl.SUP_UV_UV) → ρ.b Fl.SUP_STAT_VM_UV = false → completes (.vmUndervolt r vm) s fun t =>
      (t.rod r).b Fl.SUP_STAT_VM_UV = true ∧ (t.rod r).raised 0x093 4 ∧ (t.rod r).recorded 0x0B33 sevWarn 0x093 ∧
      ρ.only (t.rod r) [Rg.SUP_STAT, Rg.IRQ_RAW 0x093] ρ) ∧
    (completes (.vmUvClear r) s fun t => (t.rod r).b Fl.SUP_STAT_VM_UV = false ∧ ρ.only (t.rod r) [Rg.SUP_STAT] ρ) ∧
    (∀ temp : BitVec 16, tempCode (ρ.g Fl.SUP_TEMP_WARN) ≤ temp.toNat → ρ.b Fl.SUP_STAT_TEMP_WARN = false →
      completes (.dieTempWarn r temp) s fun t => (t.rod r).b Fl.SUP_STAT_TEMP_WARN = true ∧ (t.rod r).raised 0x093 5 ∧
        (t.rod r).recorded 0x0B05 sevWarn 0x093 ∧ ρ.only (t.rod r) [Rg.SUP_STAT, Rg.IRQ_RAW 0x093] ρ) ∧
    -- the write of a register that an access level guards counts for the 30 minutes of R633
    let used : Rod := { ρ with sec := { ρ.sec with useFt := ρ.ft } }
    (∀ (path : Path) (n : Axis) (data : Word), ρ.accepts path (Rg.DRV_DIAG n.val) →
      (ρ.accessOpen = true → ρ.mode = SM.standby →
        (wBit data 31 = false ∨ ∀ p : Phase, wBit data p.val = false ∨ wBit data (4 + p.val) = false) →
        completes (.drvDiag r path n data) s fun t =>
          (t.rod r).gw (Rg.DRV_DIAG n.val) = data &&& 0x80FF0077#32 ∧
          (∀ (m : Axis) (p : Phase), (t.rod r).half m p =
            { ρ.half m p with hiAt := ((t.rod r).half m p).hiAt, loAt := ((t.rod r).half m p).loAt }) ∧
          ρ.only (t.rod r) [Rg.DRV_DIAG n.val] { used with hb := (t.rod r).hb }) ∧
      (ρ.accessOpen = true → ρ.mode = SM.standby → wBit data 31 = true → completes (.drvDiag r path n data) s fun t =>
        ∀ p : Phase, wBit data p.val = true → wBit data (4 + p.val) = true → ((t.rod r).half n p).tCause = 3) ∧
      (ρ.accessOpen = false ∨ ρ.mode ≠ SM.standby → completes (.drvDiag r path n data) s fun t =>
        (t.rod r).b (Fl.ERRCAP_0_VALID (drivePage n)) = true ∧
        (ρ.b (Fl.ERRCAP_0_VALID (drivePage n)) = false → (t.rod r).g (Fl.ERRCAP_0_TYPE (drivePage n)) = 2) ∧
        ρ.only (t.rod r) [Rg.ERRCAP_0 (drivePage n), Rg.ERRCAP_1 (drivePage n), Rg.IRQ_RAW (drivePage n)] used)) ∧
    (∀ (n : Axis) (k : Fin 3),
      let us := 1000 * ρ.g (Fl.DRV_DIAG_ON_T n.val)
      (ρ.passed (ρ.half n k).hiAt us = true → completes (.diagOnTime r n ⟨k.val, by omega⟩) s fun t =>
        (t.rod r).bitOf (Fl.DRV_DIAG_GH n.val) k.val = false ∧ (t.rod r).g (Fl.DRV_DIAG_GL n.val) = ρ.g (Fl.DRV_DIAG_GL n.val) ∧
        ρ.only (t.rod r) [Rg.DRV_DIAG n.val] ρ) ∧
      (ρ.passed (ρ.half n k).loAt us = true → completes (.diagOnTime r n ⟨k.val + 3, by omega⟩) s fun t =>
        (t.rod r).bitOf (Fl.DRV_DIAG_GL n.val) k.val = false ∧ (t.rod r).g (Fl.DRV_DIAG_GH n.val) = ρ.g (Fl.DRV_DIAG_GH n.val) ∧
        ρ.only (t.rod r) [Rg.DRV_DIAG n.val] ρ))

/-- The lead of a pump axis decides its phase for the second tick after, on each timer and retry of Table 11.3, and tells its
partners (spec/11_pump_axes.md Table 11.3, spec/11_pump_axes.md R376, spec/11_pump_axes.md R377, spec/11_pump_axes.md R382,
spec/11_pump_axes.md R383, spec/11_pump_axes.md R385). In a lead with no change waiting: CATCH_NO_LOCK 20 ms after the entry to
CATCH, with a healthy rod without LOCK, decides BRAKE with cause 4; REST_CONFIRMED in BRAKE after 5 ms of REST in every healthy
rod decides ALIGN; BRK_TMO_EXPIRY after BRK_TMO decides FAULT with cause 2; ALIGN_T_EXPIRY after ALIGN_T decides RAMP with REQ
and IDLE without; RETRY in FAULT decides IDLE, also where it is written to a partner, and is captured with TYPE 6 in another
phase. The decision names the second tick after, is sent, and changes no register. A start retry in RUN (OBS_LOST) or after 200
ms at HO_SPD in RAMP (RAMP_HOLD_TIMEOUT) decides CATCH, or FAULT with cause 4 at RETRY_N; the count advances at the entry to
CATCH (log entry 73). Under these conditions, of state and operands alone, exec of OBS_LOST, CATCH_NO_LOCK, REST_CONFIRMED,
BRK_TMO_EXPIRY, ALIGN_T_EXPIRY, RAMP_HOLD_TIMEOUT and RETRY each answer a next state. -/
def Obligations.PumpPhasesAreDecidedByTheLead : Prop :=
  ∀ (s : State) (r : RodId) (n : Axis),
    let ρ := s.rod r
    let ph := ρ.pumpPhase n
    let lead := ρ.isPump n = true ∧ ρ.leads n = true ∧ (ρ.pmp.get n).next = none
    let decided (t : State) (q : RodId) (phase cause : Nat) : Prop :=
      ((t.rod q).pmp.get n).next = some (phase, ((s.rod q).tick + 2) % 2 ^ 32, 0#32, wOfInt ((s.rod q).ospd n), cause) ∧
      ((t.rod q).pmp.get n).decided = (s.rod q).tick ∧ (∀ m, m ≠ n → (t.rod q).pmp.get m = (s.rod q).pmp.get m) ∧
      Out.pumpPhase ⟨n, (s.rod q).epoch, phase, BitVec.ofNat 32 (s.rod q).tick, 0#32, wOfInt ((s.rod q).ospd n), cause⟩ ∈ (t.rod q).out
    let decides (i : Instr) (phase cause : Nat) : Prop :=
      completes i s fun t => decided t r phase cause ∧ ρ.only (t.rod r) [] { ρ with pmp := (t.rod r).pmp }
    let again (i : Instr) : Prop :=
      (ρ.g (Fl.PMP_STAT_RETRIES n.val) < ρ.g (Fl.PMP_START_RETRY_N n.val) → completes i s fun t => decided t r PP.catch_ 0 ∧
        (t.rod r).g (Fl.PMP_STAT_RETRIES n.val) = ρ.g (Fl.PMP_STAT_RETRIES n.val) ∧ (t.rod r).recorded 0x0934 sevWarn (axisPage n) ∧
        ρ.keepsRegs (t.rod r) [Rg.PMP_STAT n.val, Rg.PMP_CNT n.val, Rg.IRQ_RAW (axisPage n)]) ∧
      (ρ.g (Fl.PMP_START_RETRY_N n.val) ≤ ρ.g (Fl.PMP_STAT_RETRIES n.val) → completes i s fun t => decided t r PP.fault 4 ∧
        (t.rod r).g (Fl.PMP_STAT_RETRIES n.val) = ρ.g (Fl.PMP_STAT_RETRIES n.val) ∧
        (t.rod r).recorded 0x0934 sevWarn (axisPage n))
    let since (start ms : Nat) : Prop := ρ.passed start (1000000 * ms) = true
    (lead → ph = PP.catch_ → since (ρ.pmp.get n).at_ 20 → ρ.inEvery n (·.1) = false → decides (.catchNoLock r n) PP.brake 4) ∧
    (∀ t0, lead → ph = PP.brake → (ρ.pmp.get n).restAt = some t0 → since t0 5 → decides (.restConfirmed r n) PP.align 0) ∧
    (lead → ph = PP.brake → since (ρ.pmp.get n).at_ (ρ.g (Fl.PMP_START_BRK_TMO n.val)) → decides (.brkTmoExpiry r n) PP.fault 2) ∧
    (lead → ph = PP.align → since (ρ.pmp.get n).at_ (ρ.g (Fl.PMP_START_ALIGN_T n.val)) →
      decides (.alignTExpiry r n) (if ρ.b (Fl.PMP_STAT_REQ n.val) then PP.ramp else PP.idle) 0) ∧
    (∀ path : Path, ρ.accepts path (Rg.PMP_CMD n.val) →
      (lead → (∀ q, (s.rod q).me = q) → ph = PP.fault → decides (.retry r path n) PP.idle 0) ∧
      (∀ l, (∀ q, (s.rod q).me = q) → l ≠ r → ρ.rk.lead.get n = l → (s.rod l).rk.lead.get n = l → (s.rod l).isPump n = true →
        ((s.rod l).pmp.get n).next = none → (s.rod l).pumpPhase n = PP.fault → ph = PP.fault → completes (.retry r path n) s fun t =>
          decided t l PP.idle 0 ∧ ρ.only (t.rod r) [] ρ ∧ (s.rod l).only (t.rod l) [] { s.rod l with pmp := (t.rod l).pmp }) ∧
      (ph ≠ PP.fault → completes (.retry r path n) s fun t =>
        (t.rod r).b (Fl.ERRCAP_0_VALID (axisPage n)) = true ∧
        (ρ.b (Fl.ERRCAP_0_VALID (axisPage n)) = false → (t.rod r).g (Fl.ERRCAP_0_TYPE (axisPage n)) = 6) ∧
        ρ.only (t.rod r) [Rg.ERRCAP_0 (axisPage n), Rg.ERRCAP_1 (axisPage n), Rg.IRQ_RAW (axisPage n)] ρ)) ∧
    (∀ cause, lead → ph = PP.run → ρ.b (Fl.PMP_STAT_REQ n.val) = true → ρ.b (Fl.PMP_STAT_LOCK n.val) = true →
      ρ.lossHolds n cause = true → again (.obsLost r n cause)) ∧
    (∀ t0, lead → ph = PP.ramp → (ρ.pmp.get n).fullAt = some t0 → since t0 200 → again (.rampHoldTimeout r n))

/-- OBSERVER_LOCK sets LOCK after 64 good ticks; OBS_LOST of a cause that holds clears it, and a rod that does not lead takes
its set off in RUN (spec/11_pump_axes.md R369, spec/11_pump_axes.md R377, spec/11_pump_axes.md R382, spec/11_pump_axes.md R383,
spec/11_pump_axes.md R384). OBSERVER_LOCK on a pump axis outside OFF sets LOCK where the lock condition has held for 64 ticks,
and changes nothing else in PMP_STAT; before that it changes nothing. OBS_LOST of a cause of Table 11.4 that holds clears LOCK,
counts in LOSSES, and records 0x0934; in RUN a rod that does not lead takes its own set out of the mask; where the cause does
not hold nothing changes. RETRY_COUNT_RESET after 10 s in RUN clears the count. PUMP_STATUS_REPORT of a partner stores its LOCK,
DIR and REST. Under these conditions, of state and operands alone, exec of PUMP_STATUS_REPORT, OBSERVER_LOCK, OBS_LOST and
RETRY_COUNT_RESET each answer a next state. -/
def Obligations.ObserversLockAndLoseLock : Prop :=
  ∀ (s : State) (r : RodId) (n : Axis),
    let ρ := s.rod r
    let rest (t : State) (more : List Nat) : Prop :=
      (∀ u, u < 16384 → u ≠ 0x003E → (t.rod r).sg u = ρ.sg u) ∧ ρ.keepsRegs (t.rod r) (Rg.PMP_STAT n.val :: more) ∧
      (∀ m, m ≠ n → (t.rod r).pmp.get m = ρ.pmp.get m) ∧ ((t.rod r).pmp.get n).next = (ρ.pmp.get n).next
    (ρ.isPump n = true → ρ.pumpPhase n ≠ PP.off → ρ.b (Fl.PMP_STAT_LOCK n.val) = false →
      (64 ≤ (ρ.pmp.get n).lockN → completes (.observerLock r n) s fun t =>
        (t.rod r).b (Fl.PMP_STAT_LOCK n.val) = true ∧ (t.rod r).pumpPhase n = ρ.pumpPhase n ∧
        (((t.rod r).pmp.get n).reps.get ρ.me.idx).1 = true ∧ rest t []) ∧
      ((ρ.pmp.get n).lockN < 64 → completes (.observerLock r n) s fun t => ρ.only (t.rod r) [] ρ)) ∧
    (∀ cause, ρ.isPump n = true → ρ.leads n = false → ρ.b (Fl.PMP_STAT_LOCK n.val) = true →
      (ρ.lossHolds n cause = true → completes (.obsLost r n cause) s fun t =>
        (t.rod r).b (Fl.PMP_STAT_LOCK n.val) = false ∧ (t.rod r).pumpPhase n = ρ.pumpPhase n ∧
        (t.rod r).g (Fl.PMP_CNT_LOSSES n.val) = min 0xFFFF (ρ.g (Fl.PMP_CNT_LOSSES n.val) + 1) ∧
        (t.rod r).raised (axisPage n) 9 ∧ (t.rod r).recorded 0x0934 sevWarn (axisPage n) ∧
        (ρ.pumpPhase n = PP.run → (t.rod r).rk.setOn.get n = false) ∧ (ρ.pumpPhase n ≠ PP.run → (t.rod r).rk.setOn = ρ.rk.setOn) ∧
        rest t [Rg.PMP_CNT n.val, Rg.IRQ_RAW (axisPage n)]) ∧
      (ρ.lossHolds n cause = false → completes (.obsLost r n cause) s fun t => ρ.only (t.rod r) [] ρ)) ∧
    (ρ.pumpPhase n = PP.run → ρ.passed (ρ.pmp.get n).at_ 10000000000 = true → completes (.retryCountReset r n) s fun t =>
      (t.rod r).g (Fl.PMP_STAT_RETRIES n.val) = 0 ∧ (t.rod r).pumpPhase n = PP.run ∧ ρ.only (t.rod r) [Rg.PMP_STAT n.val] ρ) ∧
    (∀ (src : RodId) (m : PumpStatus), src ≠ ρ.me → completes (.pumpStatusReport r src m) s fun t =>
      ((t.rod r).pmp.get m.axis).reps.get src.idx = (m.lock, m.dir, m.rest) ∧
      (∀ q, q ≠ src → ((t.rod r).pmp.get m.axis).reps.get q.idx = (ρ.pmp.get m.axis).reps.get q.idx) ∧
      (∀ k, k ≠ m.axis → (t.rod r).pmp.get k = ρ.pmp.get k) ∧ ρ.only (t.rod r) [] { ρ with pmp := (t.rod r).pmp })

/-- MODE_REQUEST is refused with its reason or proposed, a timeout withdraws it, and an agreed change takes effect with what its
mode brings (spec/03_operating_modes.md R80, spec/03_operating_modes.md R88, spec/03_operating_modes.md R89,
spec/03_operating_modes.md R90, spec/03_operating_modes.md R105, spec/03_operating_modes.md Table 3.3). MODE_REQUEST: a wrong
KEY is captured with TYPE 6; without REQ only the register is written; a request that Tables 3.4 and 3.6 refuse ends REFUSED
with its reason, event 1 and record 0x0102; one for SAFE puts every axis in its role safe state and proposes SAFE; any other is
PENDING and proposed. MODE_REQUEST_TIMEOUT, 10 ms after the proposal, refuses with reason 2 and withdraws it. MODE_PROPOSAL
stores the partner's proposal. MODE_CHANGE that has come to its boundary enters the mode with SEQ, PREV and VOTERS, record
0x0101 and DONE, and with what STANDBY, OPERATE, LIMP and SAFE bring; before that the mode stays. Under these conditions, of
state and operands alone, exec of MODE_REQUEST, MODE_REQUEST_TIMEOUT, MODE_PROPOSAL and MODE_CHANGE each answer a next state. -/
def Obligations.ModesAreRequestedAndAgreed : Prop :=
  ∀ (s : State) (r : RodId),
    let σ := s.rod r
    let ρ := σ.view s.rod
    (∀ (path : Path) (data : Word), σ.accepts path Rg.MODE_REQ →
      let m := wBits data 0 3
      (wBit data 31 = true → wBits data 8 8 ≠ 0x5A → completes (.modeRequest r path data) s fun t =>
        (t.rod r).b (Fl.ERRCAP_0_VALID 0x001) = true ∧ (σ.b (Fl.ERRCAP_0_VALID 0x001) = false → (t.rod r).g (Fl.ERRCAP_0_TYPE 0x001) = 6) ∧
        σ.only (t.rod r) [Rg.ERRCAP_0 0x001, Rg.ERRCAP_1 0x001, Rg.IRQ_RAW 0x001] σ) ∧
      (wBit data 31 = false → completes (.modeRequest r path data) s fun t => σ.only (t.rod r) [Rg.MODE_REQ] σ) ∧
      (wBit data 31 = true → wBits data 8 8 = 0x5A →
        (σ.refuseReason m ≠ 0 → completes (.modeRequest r path data) s fun t =>
          (t.rod r).b Fl.REQ_STAT_REFUSED = true ∧ (t.rod r).b Fl.REQ_STAT_PENDING = false ∧ (t.rod r).b Fl.REQ_STAT_DONE = false ∧
          (t.rod r).g Fl.REQ_STAT_REASON = σ.refuseReason m ∧ (t.rod r).g Fl.REQ_STAT_TARGET = m ∧
          (t.rod r).raised 0x001 1 ∧ (t.rod r).recorded 0x0102 sevInfo 0x001 ∧
          σ.only (t.rod r) [Rg.MODE_REQ, Rg.REQ_STAT, Rg.IRQ_RAW 0x001] σ) ∧
        (σ.refuseReason m = 0 → completes (.modeRequest r path data) s fun t =>
          (t.rod r).b Fl.REQ_STAT_PENDING = true ∧ (t.rod r).b Fl.REQ_STAT_REFUSED = false ∧ (t.rod r).g Fl.REQ_STAT_TARGET = m ∧
          ((t.rod r).md.props.get σ.me.idx).map (·.1) = some m ∧
          (m = SM.safe → (t.rod r).md.safeReq = true ∧ ∀ n, (t.rod r).md.safeAx.get n = true) ∧
          (m ≠ SM.safe → (t.rod r).md.safeAx = σ.md.safeAx ∧ σ.only (t.rod r) [Rg.MODE_REQ, Rg.REQ_STAT] { σ with md := (t.rod r).md }) ∧
          σ.keepsRegs (t.rod r) [Rg.MODE_REQ, Rg.REQ_STAT]))) ∧
    (σ.b Fl.REQ_STAT_PENDING = true → σ.md.agreed = none → σ.g Fl.REQ_STAT_TARGET ≠ SM.safe →
      (∀ k t0, σ.md.props.get σ.me.idx = some (k, t0) → σ.passed t0 10000000 = true) → completes (.modeRequestTimeout r) s fun t =>
      (t.rod r).b Fl.REQ_STAT_REFUSED = true ∧ (t.rod r).b Fl.REQ_STAT_PENDING = false ∧ (t.rod r).g Fl.REQ_STAT_REASON = 2 ∧
      (t.rod r).md.props.get σ.me.idx = none ∧ (t.rod r).recorded 0x0102 sevInfo 0x001 ∧
      σ.only (t.rod r) [Rg.REQ_STAT, Rg.IRQ_RAW 0x001] { σ with md := (t.rod r).md }) ∧
    (∀ (src : RodId) (m : Nat), src ≠ ρ.me → (m ≠ SM.safe ∨ ρ.md.safeReq = true) → completes (.modeProposal r src m) s fun t =>
      (t.rod r).md.props.get src.idx = some (m, ρ.ft) ∧ (∀ q, q ≠ src → (t.rod r).md.props.get q.idx = ρ.md.props.get q.idx) ∧
      (∀ k, (t.rod r).md.agreed = some k → ρ.md.agreed = some k ∨ modeStep ρ.mode k.1 = true) ∧
      ρ.only (t.rod r) [] { ρ with md := (t.rod r).md }) ∧
    (∀ m k v, ρ.md.agreed = some (m, k, v) →
      (ρ.ticksRun = true → k ≠ 0 → completes (.modeChange r) s fun t => (t.rod r).mode = ρ.mode ∧ (t.rod r).md.agreed = some (m, k, v)) ∧
      ((ρ.ticksRun = false ∨ k = 0) → modeStep ρ.mode m = true → completes (.modeChange r) s fun t =>
        (t.rod r).mode = m ∧ (t.rod r).g Fl.SYS_MODE_PREV = ρ.mode ∧ (t.rod r).g Fl.SYS_MODE_SEQ = (ρ.g Fl.SYS_MODE_SEQ + 1) % 256 ∧
        (t.rod r).g Fl.SYS_MODE_VOTERS = v % 8 ∧ (t.rod r).md.agreed = none ∧ (t.rod r).raised 0x001 0 ∧
        (t.rod r).recorded 0x0101 sevInfo 0x001 ∧
        (ρ.b Fl.REQ_STAT_PENDING = true → ρ.g Fl.REQ_STAT_TARGET = m →
          (t.rod r).b Fl.REQ_STAT_DONE = true ∧ (t.rod r).b Fl.REQ_STAT_PENDING = false) ∧
        (m = SM.standby → (∀ n, (t.rod r).md.safeAx.get n = false) ∧ (t.rod r).md.safeReq = false ∧
          (ρ.state = RS.active → (t.rod r).state = RS.ready)) ∧
        (m = SM.arming → ρ.state = RS.ready → (t.rod r).state = RS.active ∨ (t.rod r).state = RS.fenced) ∧
        (m = SM.operate → ρ.mode = SM.arming → (t.rod r).g Fl.ARM_STAT_STEP = 6 ∧ (t.rod r).b Fl.ARM_STAT_RUN = false) ∧
        (m = SM.limp → (t.rod r).recorded 0x0130 sevDegrade 0x001) ∧
        (m = SM.safe → (∀ n, (t.rod r).md.safeAx.get n = true) ∧ (t.rod r).md.khs = false ∧ (t.rod r).recorded 0x0131 sevSafe 0x001 ∧
          (ρ.state = RS.active → (t.rod r).state = RS.ready)) ∧
        ∀ q, q ≠ r → (t.rod q).mode = (s.rod q).mode))

/-- The contact, the off-state diagnostics, the pre-charge and the waits of ARMING advance or fail in their rod as Table 3.5
says (spec/03_operating_modes.md R93, spec/03_operating_modes.md R95, spec/03_operating_modes.md R97, spec/03_operating_modes.md
R99, spec/13_gate_drive.md R454, spec/13_gate_drive.md R455, spec/13_gate_drive.md Table 13.4). ARM_RELEASE and
STANDSTILL_REACHED (below the threshold for one outer period) end the wait of their axes and of no other. AUX_CONTACT shows the
contact in K_STAT and FENCE_STAT. KAUX_TIMEOUT in step 2, KAUX_TMO after the coil was turned on and with the contact not in,
fails ARMING: FAIL, FCODE 0x0120, the rod FENCED with record 0x0120. OSD_STEP_END takes the diagnostics from Look (deferred
where the phases differ by more than a tenth) through the low and high tests to the result of the set. PRECHARGE_END ends the
pre-charge, passed where every armed axis charged, else failed with record 0x0B22 and FCODE 0x0121. Under these conditions, of
state and operands alone, exec of ARM_RELEASE, STANDSTILL_REACHED, AUX_CONTACT, KAUX_TIMEOUT, OSD_STEP_END and PRECHARGE_END
each answer a next state. -/
def Obligations.ArmingChecksAdvance : Prop :=
  ∀ (s : State) (r : RodId),
    let σ := s.rod r
    let ρ := σ.view s.rod
    let rising : List Nat := [Rg.ARM_STAT, Rg.DRV_CAUSE 0, Rg.DRV_CAUSE 1, Rg.DRV_CAUSE 2, Rg.DRV_CNT 0, Rg.DRV_CNT 1, Rg.DRV_CNT 2,
      Rg.IRQ_RAW 0x090, Rg.IRQ_RAW 0x091, Rg.IRQ_RAW 0x092, Rg.IRQ_RAW 0x060]
    (∀ (path : Path) (data : Word), σ.accepts path Rg.ARM_RELEASE → completes (.armRelease r path data) s fun t =>
      (∀ n : Axis, (wBit data n.val = true → (t.rod r).waits n = false ∧ (σ.waits n = true → (t.rod r).md.released.get n = true)) ∧
        (wBit data n.val = false → (t.rod r).waits n = σ.waits n ∧ (t.rod r).md.released.get n = σ.md.released.get n)) ∧
      (t.rod r).mode = σ.mode ∧ (t.rod r).state = σ.state ∧ σ.keepsRegs (t.rod r) rising) ∧
    (∀ n : Axis,
      (ρ.waits n = true → ρ.divisor n ≤ ρ.md.still.get n → completes (.standstillReached r n) s fun t =>
        (t.rod r).waits n = false ∧ (∀ m, m ≠ n → (t.rod r).waits m = ρ.waits m) ∧ (t.rod r).mode = ρ.mode ∧
        (t.rod r).state = ρ.state ∧ ρ.keepsRegs (t.rod r) rising) ∧
      (ρ.waits n = false ∨ ρ.md.still.get n < ρ.divisor n → completes (.standstillReached r n) s fun t => ρ.only (t.rod r) [] ρ)) ∧
    (∀ closed : Bool, completes (.auxContact r closed) s fun t =>
      (t.rod r).b Fl.K_STAT_AUX = closed ∧
      (ρ.b Fl.K_STAT_AUX ≠ closed → (t.rod r).b Fl.FENCE_STAT_KAUX = closed ∧ (t.rod r).raised 0x0C1 3)) ∧
    (ρ.md.khs = true → ρ.contactorIn = false → ρ.arming = true → ρ.g Fl.ARM_STAT_STEP = 2 →
      ρ.passed ρ.md.khsFt (1000000 * ρ.g Fl.ARM_CFG_KAUX_TMO) = true → completes (.kauxTimeout r) s fun t =>
      (t.rod r).b Fl.ARM_STAT_FAIL = true ∧ (t.rod r).b Fl.ARM_STAT_RUN = false ∧ (t.rod r).g Fl.ARM_STAT_FCODE = 0x0120 ∧
      (t.rod r).state = RS.fenced ∧ (t.rod r).md.dis = true ∧ (t.rod r).recorded 0x0120 sevWithdraw 0x001) ∧
    (∀ (nodes : Tri (BitVec 16)) (vm : BitVec 16) (n : Axis), ρ.md.osdSet = n.val → ρ.state = RS.active →
      let v (p : Phase) : Nat := (nodes.get p).toNat
      let far (a b : Nat) : Prop := vm.toNat < 10 * (max a b - min a b)
      (ρ.md.osdStep = 0 → ¬far (v 0) (v 1) → ¬far (v 1) (v 2) → ¬far (v 2) (v 0) → completes (.osdStepEnd r nodes vm) s fun t =>
        (t.rod r).md.osdStep = 1 ∧ (t.rod r).md.osdSet = n.val) ∧
      (ρ.md.osdStep = 0 → far (v 0) (v 1) ∨ far (v 1) (v 2) ∨ far (v 2) (v 0) → completes (.osdStepEnd r nodes vm) s fun t =>
        (t.rod r).md.osdSet = n.val + 1 ∧ (t.rod r).b (Fl.DRV_OSD_DEFERRED n.val) = true ∧ (t.rod r).b (Fl.DRV_OSD_DONE n.val) = true ∧
        (t.rod r).recorded 0x0B23 sevWarn (drivePage n)) ∧
      (ρ.md.osdStep = 1 → completes (.osdStepEnd r nodes vm) s fun t => (t.rod r).md.osdStep = 2 ∧
        ∀ p : Phase, (t.rod r).g (osdF n p) = if vm.toNat < 4 * v p then 2 else ρ.g (osdF n p)) ∧
      (ρ.md.osdStep = 2 → (∀ p : Phase, 3 * vm.toNat ≤ 4 * v p ∧ ρ.g (osdF n p) = 0) → completes (.osdStepEnd r nodes vm) s fun t =>
        (t.rod r).md.osdStep = 3 ∧ (t.rod r).md.osdSet = n.val) ∧
      (ρ.md.osdStep = 3 → completes (.osdStepEnd r nodes vm) s fun t =>
        (t.rod r).md.osdStep = 4 ∧ (t.rod r).md.osdFailC = decide (vm.toNat < 4 * v 0)) ∧
      (ρ.md.osdStep = 4 → ρ.md.osdFailC = false → 4 * v 1 ≤ vm.toNat → (∀ p : Phase, ρ.g (osdF n p) = 0) →
        completes (.osdStepEnd r nodes vm) s fun t => (t.rod r).md.osdSet = n.val + 1 ∧ (t.rod r).b (Fl.DRV_OSD_DONE n.val) = true ∧
          ∀ p : Phase, (t.rod r).g (osdF n p) = 1) ∧
      (ρ.md.osdStep = 4 → ρ.md.osdFailC = true → 4 * v 1 ≤ vm.toNat → (∀ p : Phase, ρ.g (osdF n p) = 0) →
        completes (.osdStepEnd r nodes vm) s fun t => (t.rod r).g (osdF n 0) = 4 ∧ (t.rod r).b (Fl.DRV_OSD_FAIL n.val) = true ∧
          (t.rod r).recorded 0x0B20 sevDegrade (drivePage n) ∧ (t.rod r).state = RS.fenced)) ∧
    (∀ low : Tri (BitVec 3), ρ.md.pre = true → ρ.arming = true →
      ((∀ n, ρ.axisArmed n = true → low.get n = 0#3) → completes (.prechargeEnd r low) s fun t =>
        (t.rod r).md.pre = false ∧ (t.rod r).md.preOk = true) ∧
      ((∃ n, ρ.axisArmed n = true ∧ low.get n ≠ 0#3) → completes (.prechargeEnd r low) s fun t =>
        (t.rod r).md.pre = false ∧ (t.rod r).md.preOk = false ∧ (t.rod r).g Fl.ARM_STAT_FCODE = 0x0121 ∧ (t.rod r).state = RS.fenced ∧
        (∃ n, (t.rod r).recorded 0x0B22 sevDegrade (drivePage n)) ∧ (t.rod r).recorded 0x0121 sevWithdraw 0x001))

/-- A violated safety function is reported; two live rods that report it within one tick decide it, with its reaction; one alone
is dropped (spec/16_safety_functions.md R549, spec/16_safety_functions.md R550, spec/16_safety_functions.md R552,
spec/16_safety_functions.md R554, spec/16_safety_functions.md R555). SF_REPORT of a monitored function whose filter is full sets
its OWN bit, holds and sends the report with record 0x0E30. SF_REPORT_MESSAGE holds the partner's report; with the own report of
a live rod within one tick it decides the violation: the flag of SF_STAT, event 0, record 0x0E32, and with reaction 1 the role
safe state of the axis; alone, where another live rod evaluates the axis, it decides nothing. SF_UNCONFIRMED drops an undecided
report of two ticks before with event 1 and record 0x0E31. VEH_SPEED_STALE at its time marks the vehicle speed stale, after
which the limits are those of the highest breakpoint. Under these conditions, of state and operands alone, exec of SF_REPORT,
SF_REPORT_MESSAGE, SF_UNCONFIRMED and VEH_SPEED_STALE each answer a next state. -/
def Obligations.SafetyFunctionsAreDecidedByTwo : Prop :=
  ∀ (s : State) (r : RodId),
    let ρ := s.rod r
    let held (q : Rod) (n : Axis) (fn : Nat) (p : RodId) : Option Nat := ((q.sf.rep.get n).get (sfIdx fn)).get p.idx
    (∀ (n : Axis) (fn : Nat), 1 ≤ fn → fn ≤ 3 → ρ.bitOf (Fl.SF_STAT_OWN n.val) (fn - 1) = false →
      (ρ.sfOn n fn = true → profFilt ρ.sf.prof ≤ (ρ.sf.viol.get n).get (sfIdx fn) → completes (.sfReport r n fn) s fun t =>
        (t.rod r).bitOf (Fl.SF_STAT_OWN n.val) (fn - 1) = true ∧ held (t.rod r) n fn ρ.me = some ρ.tick ∧
        Out.sfReport ⟨n, fn, BitVec.ofNat 32 ρ.tick⟩ ∈ (t.rod r).out ∧ (t.rod r).recorded 0x0E30 sevWarn 0x0C0 ∧
        ρ.keepsRegs (t.rod r) [Rg.SF_STAT n.val, Rg.IRQ_RAW 0x0C0]) ∧
      (ρ.sfOn n fn = false ∨ (ρ.sf.viol.get n).get (sfIdx fn) < profFilt ρ.sf.prof → completes (.sfReport r n fn) s fun t =>
        ρ.only (t.rod r) [] ρ)) ∧
    (∀ (src : RodId) (m : SfMsg), src ≠ ρ.me → 1 ≤ m.fn → m.fn ≤ 3 →
      (completes (.sfReportMessage r src m) s fun t => held (t.rod r) m.axis m.fn src = some m.tick.toNat ∧
        (∀ q, q ≠ src → held (t.rod r) m.axis m.fn q = held ρ m.axis m.fn q) ∧
        ρ.keepsRegs (t.rod r) [Rg.SF_STAT m.axis.val, Rg.IRQ_RAW 0x0C0]) ∧
      (∀ u, held ρ m.axis m.fn ρ.me = some u → u ≤ m.tick.toNat + 1 → m.tick.toNat ≤ u + 1 → ρ.live ρ.me = true → ρ.live src = true →
        (ρ.sf.dec.get m.axis).get (sfIdx m.fn) = false → completes (.sfReportMessage r src m) s fun t =>
          (t.rod r).b (sfBit m.axis m.fn) = true ∧ ((t.rod r).sf.dec.get m.axis).get (sfIdx m.fn) = true ∧ (t.rod r).raised 0x0C0 0 ∧
          (t.rod r).recorded 0x0E32 (if ρ.steerBrake m.axis then sevSafe else sevDegrade) 0x0C0 ∧
          (react ρ.sf.prof m.axis (m.fn - 1) = 1 → (t.rod r).md.safeAx.get m.axis = true)) ∧
      ((∀ q, q ≠ src → held ρ m.axis m.fn q = none) →
        (ρ.live src = false ∨ ∃ q, q ≠ src ∧ ρ.live q = true ∧ (s.rod q).evaluates m.axis = true) →
        completes (.sfReportMessage r src m) s fun t =>
        (t.rod r).md.safeAx = ρ.md.safeAx ∧ (t.rod r).sf.dec = ρ.sf.dec ∧ ρ.only (t.rod r) [] { ρ with sf := (t.rod r).sf })) ∧
    (∀ (n : Axis) (fn : Nat) (who : RodId) (u : Nat), 1 ≤ fn → fn ≤ 3 → held ρ n fn who = some u →
      2 ≤ (ρ.tick + 2 ^ 32 - u) % 2 ^ 32 →
      ((ρ.sf.dec.get n).get (sfIdx fn) = false → completes (.sfUnconfirmed r n fn who) s fun t =>
        held (t.rod r) n fn who = none ∧ (∀ q, q ≠ who → held (t.rod r) n fn q = held ρ n fn q) ∧ (t.rod r).raised 0x0C0 1 ∧
        (t.rod r).recorded 0x0E31 sevWarn 0x0C0 ∧ ρ.only (t.rod r) [Rg.IRQ_RAW 0x0C0] { ρ with sf := (t.rod r).sf }) ∧
      ((ρ.sf.dec.get n).get (sfIdx fn) = true → completes (.sfUnconfirmed r n fn who) s fun t => ρ.only (t.rod r) [] ρ)) ∧
    (ρ.sf.prof ≠ [] → ρ.b Fl.SF_PROF_VS_STALE = false →
      (ρ.passed ρ.sf.vsFt (10000000 * profVsTmo ρ.sf.prof) = true → completes (.vehSpeedStale r) s fun t =>
        (t.rod r).b Fl.SF_PROF_VS_STALE = true ∧ (t.rod r).raised 0x0C0 4 ∧ (t.rod r).recorded 0x0E33 sevWarn 0x0C0 ∧
        (∀ n, (t.rod r).slpLimit n = slpHw ρ.sf.prof n 7) ∧ ρ.only (t.rod r) [Rg.SF_PROF, Rg.IRQ_RAW 0x0C0] ρ) ∧
      (ρ.passed ρ.sf.vsFt (10000000 * profVsTmo ρ.sf.prof) = false → completes (.vehSpeedStale r) s fun t => ρ.only (t.rod r) [] ρ))

/-- A seal byte is accepted at its third equal read; contactor supervision sets its flags; a residual window gives its mean and
its flag (spec/16_safety_functions.md R541, spec/16_safety_functions.md R542, spec/16_safety_functions.md R558,
spec/16_safety_functions.md R559, spec/16_safety_functions.md R560, spec/14_rod_redundancy.md R484). SEAL_READ of the third
equal byte in a row accepts it where it is new, shows it in SF_SEAL, raises event 2 and sends it; earlier reads only count.
SEAL_RESEND sends the accepted byte again. SEAL_MESSAGE holds and shows the partner's. CONTACTOR_OPEN takes every set off with
STUCK_OPEN and record 0x0E40. CONTACTOR_WELDED from its limit on sets WELDED with record 0x0E41. CONTACTOR_TEST_DUE sets
TEST_DUE with record 0x0E43. RESIDUAL_WINDOW_END of a whole window without stale ticks shows the mean and counts windows above
RES_TH, the flag standing from RES_N of them on; a stale one only restarts. Under these conditions, of state and operands alone,
exec of RESIDUAL_WINDOW_END, SEAL_READ, SEAL_RESEND, SEAL_MESSAGE, CONTACTOR_OPEN, CONTACTOR_WELDED and CONTACTOR_TEST_DUE each
answer a next state. -/
def Obligations.SealsContactorsAndResiduals : Prop :=
  ∀ (s : State) (r : RodId),
    let ρ := s.rod r
    let ν := ρ.view s.rod
    (∀ b : Byte,
      (b = ρ.sf.strap → 2 ≤ ρ.sf.reads → ρ.sf.own ≠ some b → completes (.sealRead r b) s fun t =>
        (t.rod r).sf.own = some b ∧ (t.rod r).g Fl.SF_SEAL_OWN = b.toNat ∧ (t.rod r).raised 0x0C0 2 ∧ Out.seal b ∈ (t.rod r).out ∧
        ρ.only (t.rod r) [Rg.SF_SEAL, Rg.IRQ_RAW 0x0C0] { ρ with sf := (t.rod r).sf }) ∧
      (b ≠ ρ.sf.strap ∨ ρ.sf.reads < 2 ∨ ρ.sf.own = some b → completes (.sealRead r b) s fun t =>
        (t.rod r).sf.own = ρ.sf.own ∧ (t.rod r).sf.strap = b ∧
        (t.rod r).sf.reads = (if b = ρ.sf.strap ∧ 0 < ρ.sf.reads then min 3 (ρ.sf.reads + 1) else 1) ∧
        ρ.only (t.rod r) [] { ρ with sf := (t.rod r).sf })) ∧
    (∀ b : Byte, ρ.sf.own = some b → completes (.sealResend r) s fun t =>
      Out.seal b ∈ (t.rod r).out ∧ (t.rod r).sf.own = some b ∧ ρ.only (t.rod r) [] { ρ with sf := (t.rod r).sf }) ∧
    (∀ (src : RodId) (b : Byte), src ≠ ρ.me → completes (.sealMessage r src b) s fun t =>
      (t.rod r).sf.bytes.get src.idx = some b ∧
      (t.rod r).g (if linkNo ρ.me src = 0 then Fl.SF_SEAL_PART_1 else Fl.SF_SEAL_PART_2) = b.toNat ∧
      (t.rod r).g Fl.SF_SEAL_OWN = ρ.g Fl.SF_SEAL_OWN ∧ (t.rod r).g Fl.SF_SEAL_SEALED = ρ.g Fl.SF_SEAL_SEALED ∧
      (t.rod r).sf.own = ρ.sf.own ∧ ρ.only (t.rod r) [Rg.SF_SEAL] { ρ with sf := (t.rod r).sf }) ∧
    (ρ.md.khs = true → ρ.die.fence = false → ρ.sf.watch = true → ρ.b Fl.K_STAT_AUX = false → ρ.b Fl.K_STAT_STUCK_OPEN = false →
      completes (.contactorOpen r) s fun t =>
        (t.rod r).b Fl.K_STAT_STUCK_OPEN = true ∧ (t.rod r).raised 0x0C1 0 ∧ (t.rod r).recorded 0x0E40 sevDegrade 0x0C1 ∧
        (∀ n, (t.rod r).rk.setOn.get n = false) ∧
        ρ.only (t.rod r) [Rg.K_STAT, Rg.IRQ_RAW 0x0C1]
          { ρ with rk := { ρ.rk with setOn := (t.rod r).rk.setOn, setFt := (t.rod r).rk.setFt } }) ∧
    (∀ ms : Nat, ν.md.khs = false ∨ ν.die.fence = true → ν.b Fl.K_STAT_AUX = true → ν.b Fl.K_STAT_WELDED = false →
      ν.g Fl.K_CFG_KOPEN_TMO ≤ ms → completes (.contactorWelded r ms) s fun t =>
        (t.rod r).b Fl.K_STAT_WELDED = true ∧ (t.rod r).b Fl.K_STAT_AUX = true ∧ (t.rod r).raised 0x0C1 1 ∧
        (t.rod r).recorded 0x0E41 sevDegrade 0x0C1) ∧
    (ρ.g Fl.K_CFG_KTEST_H ≤ ρ.g Fl.K_CNT_HOURS → ρ.b Fl.K_STAT_TEST_DUE = false → completes (.contactorTestDue r) s fun t =>
      (t.rod r).b Fl.K_STAT_TEST_DUE = true ∧ (t.rod r).raised 0x0C1 2 ∧ (t.rod r).recorded 0x0E43 sevWarn 0x0C1 ∧
      ρ.only (t.rod r) [Rg.K_STAT, Rg.IRQ_RAW 0x0C1] ρ) ∧
    (∀ n : Axis, let win := ρ.g (Fl.CR_RES_CFG_RES_WIN n.val)
      ρ.b (Fl.CR_RES_CFG_EN n.val) = true → win ≠ 0 → ρ.red.rticks.get n = win →
      (ρ.red.rstale.get n = true → completes (.residualWindowEnd r n) s fun t => (t.rod r).red.flag = ρ.red.flag ∧
        (t.rod r).red.rcount = ρ.red.rcount ∧ ρ.only (t.rod r) [] { ρ with red := (t.rod r).red }) ∧
      (ρ.red.rstale.get n = false → completes (.residualWindowEnd r n) s fun t =>
        let k := if (ρ.g (Fl.CR_RES_CFG_RES_TH n.val) : Int) * win * 2 ^ 71 < ρ.red.rsum.get n then ρ.red.rcount.get n + 1 else 0
        (t.rod r).red.rcount.get n = k ∧ (t.rod r).red.flag.get n = decide (ρ.g (Fl.CR_RES_CFG_RES_N n.val) ≤ k) ∧
        (t.rod r).g (Fl.RES_VAL_MEAN n.val) = min 0x7FFF (ρ.red.rsum.get n / (win * 2 ^ 71)).toNat ∧
        ((t.rod r).red.flag.get n = true → ρ.red.flag.get n = false → (t.rod r).raised 0x0A0 6) ∧
        (∀ m, m ≠ n → (t.rod r).red.flag.get m = ρ.red.flag.get m) ∧
        ρ.only (t.rod r) [Rg.RES_VAL n.val, Rg.IRQ_RAW 0x0A0] { ρ with red := (t.rod r).red }))

/-- Consent, entry, join request, copies and timeout take a fenced rod through REJOIN or back to FENCED
(spec/14_rod_redundancy.md R499, spec/14_rod_redundancy.md R500, spec/14_rod_redundancy.md Table 14.3). REJOIN_CONSENT with its
KEY notes the consent for the rod it names; another KEY is captured with TYPE 6. REJOIN_ENTRY of a FENCED rod with consent and
an epoch of its partners, no partner ARMING, brings the rod into REJOIN at step 2 with the epoch, record 0x0C30 and a join
request; a rod fenced in ARMING waits until a partner is in OPERATE or LIMP; a failed self-test or no lock leaves it FENCED with
record 0x0C32. JOIN_REQUEST is answered with the copies where epoch, CRCs and versions agree; a refusal returns the asking rod
to FENCED. REJOIN_DATA takes the copies, and with the last commands the coil on at step 5. REJOIN_TIMEOUT fails from 150 ms on
and does nothing before. Under these conditions, of state and operands alone, exec of REJOIN_CONSENT, REJOIN_ENTRY,
JOIN_REQUEST, REJOIN_DATA and REJOIN_TIMEOUT each answer a next state. -/
def Obligations.RejoinStepsAdvance : Prop :=
  ∀ (s : State) (r : RodId),
    let σ := s.rod r
    let ρ := σ.view s.rod
    (∀ (path : Path) (data : Word), σ.accepts path Rg.RJ_CMD →
      (wBits data 8 8 = 0x5A → wBit data 0 = true → wBits data 16 2 < 3 → completes (.rejoinConsent r path data) s fun t =>
        (t.rod r).red.consent.get (RodId.ofCode (wBits data 16 2)).idx = some σ.ft ∧
        σ.only (t.rod r) [] { σ with red := { σ.red with consent := (t.rod r).red.consent } }) ∧
      (wBits data 8 8 ≠ 0x5A → completes (.rejoinConsent r path data) s fun t => (t.rod r).b (Fl.ERRCAP_0_VALID 0x0A0) = true ∧
        σ.only (t.rod r) [Rg.ERRCAP_0 0x0A0, Rg.ERRCAP_1 0x0A0, Rg.IRQ_RAW 0x0A0] σ)) ∧
    (∀ e, ρ.state = RS.fenced → ((ρ.me.partners.filter ρ.live).any fun p => (s.rod p).mode == SM.arming) = false →
      (ρ.md.armFenced = true → ((ρ.me.partners.filter ρ.live).any fun p => (s.rod p).mode == SM.operate || (s.rod p).mode == SM.limp) = true) →
      ρ.latestEpoch = some e →
      (ρ.consented s.rod = true → ρ.b Fl.FT_STAT_LOCKED = true → completes (.rejoinEntry r true) s fun t =>
        (t.rod r).state = RS.rejoin ∧ (t.rod r).md.dis = false ∧ (t.rod r).b Fl.RJ_STAT_RUN = true ∧ (t.rod r).b Fl.RJ_STAT_FAIL = false ∧
        (t.rod r).g Fl.RJ_STAT_STEP = 2 ∧ (t.rod r).g Fl.CR_EPOCH_EPOCH = e % 65536 ∧ (t.rod r).md.khs = false ∧
        (t.rod r).recorded 0x0C30 sevInfo 0x0A0 ∧ ∃ q, Out.join q ∈ (t.rod r).out ∧ q.epoch = BitVec.ofNat 16 e ∧ q.updated = 0) ∧
      (∀ ok, ρ.consented s.rod = true → ok = false ∨ ρ.b Fl.FT_STAT_LOCKED = false → completes (.rejoinEntry r ok) s fun t =>
        (t.rod r).state = RS.fenced ∧ (t.rod r).b Fl.RJ_STAT_FAIL = true ∧ (t.rod r).g Fl.RJ_STAT_STEP = 1 ∧
        (t.rod r).recorded 0x0C32 sevWarn 0x0A0 ∧ ρ.only (t.rod r) [Rg.RJ_STAT] ρ) ∧
      (∀ ok, ρ.consented s.rod = false → completes (.rejoinEntry r ok) s fun t => ρ.only (t.rod r) [] ρ)) ∧
    (ρ.state = RS.fenced → ρ.md.armFenced = true → (∀ p ∈ ρ.me.partners, (s.rod p).mode ≠ SM.operate ∧ (s.rod p).mode ≠ SM.limp) →
      ∀ ok, completes (.rejoinEntry r ok) s fun t => ρ.only (t.rod r) [] ρ) ∧
    (∀ (src : RodId) (q : JoinReq), r ≠ src → RS.serving σ.state = true → (s.rod src).state = RS.rejoin →
      (σ.joinOk q = true → completes (.joinRequest r src q) s fun t =>
        Out.joinAnswer src true ∈ (t.rod r).out ∧
        (∃ d, Out.rejoinData src d ∈ (t.rod r).out ∧ d.ledger = σ.ct.ledger ∧
          ∀ n : Axis, d.pump.get n = σ.pumpPhase n ∧ (d.state.get n) = σ.words ((List.range 128).map (stateW n.val))) ∧
        t.rod src = s.rod src ∧ σ.only (t.rod r) [] { σ with red := { σ.red with epochs := (t.rod r).red.epochs } }) ∧
      (σ.joinOk q = false → completes (.joinRequest r src q) s fun t =>
        Out.joinAnswer src false ∈ (t.rod r).out ∧ (t.rod src).state = RS.fenced ∧ (t.rod src).b Fl.RJ_STAT_FAIL = true ∧
        (t.rod src).recorded 0x0C32 sevWarn 0x0A0)) ∧
    (∀ (src : RodId) (d : RejoinData), ρ.state = RS.rejoin → src ≠ ρ.me → ρ.g Fl.RJ_STAT_STEP < 5 →
      (∀ n, (d.state.get n).length = 128 ∧ (d.torque.get n).length = 16) → completes (.rejoinData r src d) s fun t =>
        (t.rod r).ct.ledger = d.ledger ∧ (t.rod r).red.rjData.get src.idx = true ∧
        (∀ n : Axis, (∀ w, w < 128 → (t.rod r).sg (stateW n.val w) = (d.state.get n).getD w 0#32) ∧
          (∀ w, w < 16 → (t.rod r).sg (torqueW n.val w) = (d.torque.get n).getD w 0#32) ∧
          (ρ.isPump n = true → (t.rod r).pumpPhase n = d.pump.get n % 8)) ∧
        ((∀ p ∈ ρ.me.partners, ρ.live p = true → p = src ∨ ρ.red.rjData.get p.idx = true) →
          (t.rod r).g Fl.RJ_STAT_STEP = 5 ∧ (t.rod r).md.khs = true ∧ (t.rod r).state = RS.rejoin)) ∧
    (σ.state ≠ RS.rejoin ∨ σ.passed σ.red.rjFt 150000000 = false → completes (.rejoinTimeout r) s fun t =>
      σ.only (t.rod r) [] σ) ∧
    (σ.state = RS.rejoin → σ.passed σ.red.rjFt 150000000 = true → completes (.rejoinTimeout r) s fun t =>
      (t.rod r).state = RS.fenced ∧ (t.rod r).md.dis = true ∧ (t.rod r).b Fl.RJ_STAT_RUN = false ∧ (t.rod r).b Fl.RJ_STAT_FAIL = true ∧
      (t.rod r).raised 0x0A0 5 ∧ (t.rod r).recorded 0x0C32 sevWarn 0x0A0 ∧
      σ.only (t.rod r) [Rg.RJ_STAT, Rg.IRQ_RAW 0x0A0, Rg.ROD_STATE, Rg.IRQ_RAW 0x001] { σ with md := (t.rod r).md })

/-- Tandem copies of the epoch are taken, two equal witness frames decide, and a decision takes effect axis by axis
(spec/14_rod_redundancy.md R506, spec/14_rod_redundancy.md R508, spec/14_rod_redundancy.md R509, spec/14_rod_redundancy.md R510,
spec/14_rod_redundancy.md R512, spec/21_system_example.md R666, spec/14_rod_redundancy.md Table 14.10). TANDEM_COPY_RECEIVE on a
lane that is up, for an axis on standby with no copy pending, makes a whole copy of the epoch the pending one; a copy of another
epoch is rejected with record 0x0C43. In an active module a whole copy of a later epoch for a group axis becomes the pending one
and makes the module the standby one at its next outer-cycle tick (R666); any other copy does nothing there. WITNESS_FRAME is
held by its holder; with an equal frame of another holder that names this pair, the next epoch and module 0 or 1 it is the
decision. WITNESS_DECISION takes effect for one axis, at an outer-cycle tick that is not before the cycle after the decision's:
the first sets the epoch with record 0x0C40, the last sets ACTIVE. TANDEM_COPY_LOST from an age of 3 records 0x0C41.
TANDEM_LANE_CHANGE shows the lane with record 0x0C42. Under these conditions, of state and operands alone, exec of
TANDEM_COPY_RECEIVE, WITNESS_FRAME, WITNESS_DECISION, TANDEM_COPY_LOST and TANDEM_LANE_CHANGE each answer a next state. -/
def Obligations.TandemPairsDecideByWitness : Prop :=
  ∀ (s : State) (r : RodId),
    let ρ := s.rod r
    (∀ (lane : RodId) (m : TandemCopy),
      (ρ.bitOf Fl.TD_STAT_LANES lane.code = true → ρ.tandemStandby m.axis = true →
        (m.epoch.toNat = ρ.g Fl.TD_STAT_EPOCH → m.state.length = 128 → m.torque.length = 13 → ρ.red.tdState.get m.axis = none →
          completes (.tandemCopyReceive r lane m) s fun t =>
            (t.rod r).red.tdState.get m.axis = some m.state ∧ (t.rod r).rk.ready.get m.axis = true ∧
            (∀ w ∈ copyWords, Sparse.get 0#32 ((t.rod r).rk.pend.get m.axis) w = m.torque.getD (w - 3) 0#32) ∧
            ρ.only (t.rod r) [] { ρ with rk := { ρ.rk with pend := (t.rod r).rk.pend, ready := (t.rod r).rk.ready }
                                         red := { ρ.red with tdState := (t.rod r).red.tdState } }) ∧
        (m.epoch.toNat ≠ ρ.g Fl.TD_STAT_EPOCH → completes (.tandemCopyReceive r lane m) s fun t =>
          (t.rod r).raised 0x0A1 3 ∧ (t.rod r).recorded 0x0C43 sevWarn 0x0A1 ∧ ρ.only (t.rod r) [Rg.IRQ_RAW 0x0A1] ρ)) ∧
      (let yields : Prop := ρ.b Fl.TD_CFG_EN = true ∧ ρ.bitOf Fl.TD_CFG_GROUP m.axis.val = true ∧ m.state.length = 128 ∧
          m.torque.length = 13 ∧ laterEpoch m.epoch.toNat (ρ.g Fl.TD_STAT_EPOCH) = true
       (ρ.bitOf Fl.TD_STAT_LANES lane.code = true → ρ.tandemStandby m.axis = false → yields →
          completes (.tandemCopyReceive r lane m) s fun t =>
            (t.rod r).red.tdLate = some m.epoch.toNat ∧ (t.rod r).red.tdState.get m.axis = some m.state ∧
            (t.rod r).rk.ready.get m.axis = true ∧
            (∀ w ∈ copyWords, Sparse.get 0#32 ((t.rod r).rk.pend.get m.axis) w = m.torque.getD (w - 3) 0#32) ∧
            ρ.only (t.rod r) [] { ρ with rk := { ρ.rk with pend := (t.rod r).rk.pend, ready := (t.rod r).rk.ready }
                                         red := { ρ.red with tdState := (t.rod r).red.tdState, tdLate := (t.rod r).red.tdLate } }) ∧
       (ρ.bitOf Fl.TD_STAT_LANES lane.code = false ∨ (ρ.tandemStandby m.axis = false ∧ ¬yields) →
          completes (.tandemCopyReceive r lane m) s fun t => ρ.only (t.rod r) [] ρ))) ∧
    (∀ (holder : RodId) (f : WitFrame),
      (ρ.b Fl.TD_CFG_EN = true → ρ.red.tdDec = none → ∀ other, other ≠ holder → ρ.red.wit.get other.idx = some f →
        (f.pair = ρ.g Fl.TD_CFG_PAIR_ID → f.epoch.toNat = (ρ.g Fl.TD_STAT_EPOCH + 1) % 65536 → f.zero = true → f.active ≤ 1 →
          completes (.witnessFrame r holder f) s fun t => (t.rod r).red.wit.get holder.idx = some f ∧
            (t.rod r).red.tdDec = some (f.active, f.epoch.toNat, f.cycle) ∧ (∀ n, (t.rod r).red.tdDone.get n = false) ∧
            ρ.only (t.rod r) [] { ρ with red := (t.rod r).red }) ∧
        (f.pair ≠ ρ.g Fl.TD_CFG_PAIR_ID ∨ f.epoch.toNat ≠ (ρ.g Fl.TD_STAT_EPOCH + 1) % 65536 ∨ f.zero = false ∨ 1 < f.active →
          completes (.witnessFrame r holder f) s fun t => (t.rod r).red.tdDec = none ∧ (t.rod r).raised 0x0A1 3 ∧
            (t.rod r).recorded 0x0C43 sevWarn 0x0A1 ∧ ρ.only (t.rod r) [Rg.IRQ_RAW 0x0A1] { ρ with red := (t.rod r).red })) ∧
      (ρ.b Fl.TD_CFG_EN = false → completes (.witnessFrame r holder f) s fun t => ρ.only (t.rod r) [] ρ)) ∧
    (∀ n : Axis, ρ.red.tdDec = none ∨ ρ.outerTick n = false ∨ ρ.bitOf Fl.TD_CFG_GROUP n.val = false ∨ ρ.red.tdDone.get n = true →
      completes (.witnessDecision r n) s fun t => ρ.only (t.rod r) [] ρ) ∧
    (∀ (n : Axis) (a e c : Nat), ρ.red.tdDec = some (a, e, c) → ρ.poc = Poc.active → ρ.fr.cyc ≤ c →
      completes (.witnessDecision r n) s fun t => ρ.only (t.rod r) [] ρ) ∧
    (∀ (n : Axis) (a e c : Nat), ρ.red.tdDec = some (a, e, c) → ρ.bitOf Fl.TD_CFG_GROUP n.val = true → ρ.red.tdDone.get n = false →
      ρ.outerTick n = true → ρ.poc ≠ Poc.active ∨ c < ρ.fr.cyc → completes (.witnessDecision r n) s fun t =>
        ((∀ m, ρ.red.tdDone.get m = false) → (t.rod r).g Fl.TD_STAT_EPOCH = e % 65536 ∧
          (t.rod r).g Fl.TD_CNT_DECISIONS = min 0xFFFF (ρ.g Fl.TD_CNT_DECISIONS + 1) ∧ (t.rod r).raised 0x0A1 0 ∧
          (t.rod r).recorded 0x0C40 sevInfo 0x0A1) ∧
        ((∃ m, m ≠ n ∧ ρ.bitOf Fl.TD_CFG_GROUP m.val = true ∧ ρ.red.tdDone.get m = false) →
          (t.rod r).red.tdDone.get n = true ∧ (t.rod r).red.tdDec = some (a, e, c) ∧ (t.rod r).b Fl.TD_STAT_ACTIVE = ρ.b Fl.TD_STAT_ACTIVE) ∧
        ((∀ m, m ≠ n → ρ.bitOf Fl.TD_CFG_GROUP m.val = true → ρ.red.tdDone.get m = true) →
          (t.rod r).red.tdDec = none ∧ (t.rod r).b Fl.TD_STAT_ACTIVE = decide (a = ρ.g Fl.TD_CFG_MODULE)) ∧
        ρ.only (t.rod r) [Rg.TD_STAT, Rg.TD_CNT, Rg.IRQ_RAW 0x0A1]
          { ρ with red := (t.rod r).red, rk := { ρ.rk with swRun := (t.rod r).rk.swRun } }) ∧
    (∀ n : Axis, (ρ.tandemStandby n = true → 3 ≤ ρ.g Fl.TD_AGE_AGE → completes (.tandemCopyLost r n) s fun t =>
        (t.rod r).raised 0x0A1 1 ∧ (t.rod r).recorded 0x0C41 sevWarn 0x0A1 ∧ ρ.only (t.rod r) [Rg.IRQ_RAW 0x0A1] ρ) ∧
      (ρ.tandemStandby n = false ∨ ρ.g Fl.TD_AGE_AGE < 3 → completes (.tandemCopyLost r n) s fun t => ρ.only (t.rod r) [] ρ)) ∧
    (∀ (lane : RodId) (up : Bool), ρ.bitOf Fl.TD_STAT_LANES lane.code ≠ up → completes (.tandemLaneChange r lane up) s fun t =>
      (t.rod r).bitOf Fl.TD_STAT_LANES lane.code = up ∧
      (∀ l, l ≠ lane → (t.rod r).bitOf Fl.TD_STAT_LANES l.code = ρ.bitOf Fl.TD_STAT_LANES l.code) ∧
      (t.rod r).g Fl.TD_STAT_EPOCH = ρ.g Fl.TD_STAT_EPOCH ∧ (t.rod r).raised 0x0A1 2 ∧ (t.rod r).recorded 0x0C42 sevWarn 0x0A1 ∧
      ρ.only (t.rod r) [Rg.TD_STAT, Rg.IRQ_RAW 0x0A1] ρ)

/-- FR_CMD acts where its mode and POC state allow and shows CMD_REFUSED elsewhere; READY and HOLD, wakeup and coldstart move
their fields (spec/05_flexray.md R158, spec/05_flexray.md R161, spec/05_flexray.md R166, spec/05_flexray.md R167,
spec/05_flexray.md R174, spec/05_flexray.md R175, spec/05_flexray.md R176, spec/05_flexray.md R177, spec/05_flexray.md Table
5.5). With the KEY, WAKEUP (STANDBY, ready), MTS_A, MTS_B and WUDOP (active), FR_HALT (STANDBY, running) and RESTART (halt) act
and clear CMD_REFUSED; where mode or POC state do not allow them only CMD_REFUSED is set; another KEY is captured with TYPE 6.
MB_READY and MB_HOLD write their bit of MB_CTRL. WAKE_RX in a fitting POC state shows the channel with event 5 and record
0x0640. WAKE_COLLISION ends a wakeup pattern; a pattern that has been sent with its repetitions has ended before (`wakeDone`).
COLDSTART_ATTEMPT in startup takes one attempt; COLD_EXHAUSTED records 0x0621. How long a pattern takes is a free value (the
model's choice, log entry 69). Under these conditions, of state and operands alone, exec of WAKEUP, MTS_A, MTS_B, FR_HALT,
RESTART, WUDOP, MB_READY, MB_HOLD, COLDSTART_ATTEMPT, COLD_EXHAUSTED, WAKE_RX and WAKE_COLLISION each answer a next state. -/
def Obligations.FlexRayCommandsAct : Prop :=
  ∀ (s : State) (r : RodId) (path : Path),
    let σ := s.rod r
    let ρ := σ.wakeDone
    let refused (i : Instr) : Prop := completes i s fun t => (t.rod r).b Fl.FR_STAT_CMD_REFUSED = true ∧
      (t.rod r).poc = ρ.poc ∧ ρ.only (t.rod r) [Rg.FR_STAT] ρ
    let plain (i : Instr) (f : FrS) : Prop := completes i s fun t => (t.rod r).b Fl.FR_STAT_CMD_REFUSED = false ∧
      (t.rod r).poc = ρ.poc ∧ ρ.only (t.rod r) [Rg.FR_STAT] { ρ with fr := f }
    (σ.accepts path Rg.FR_CMD →
      (∀ key : Byte, key ≠ 0x5A#8 → ∀ i ∈ [Instr.wakeup r path key, .mtsA r path key, .mtsB r path key, .frHalt r path key,
          .restart r path key, .wudop r path key], completes i s fun t =>
        (t.rod r).b (Fl.ERRCAP_0_VALID 0x030) = true ∧ (ρ.b (Fl.ERRCAP_0_VALID 0x030) = false → (t.rod r).g (Fl.ERRCAP_0_TYPE 0x030) = 6) ∧
        ρ.only (t.rod r) [Rg.ERRCAP_0 0x030, Rg.ERRCAP_1 0x030, Rg.IRQ_RAW 0x030] ρ) ∧
      (ρ.poc = Poc.active → plain (.mtsA r path 0x5A#8) { ρ.fr with mtsA := true } ∧
        plain (.mtsB r path 0x5A#8) { ρ.fr with mtsB := true } ∧ plain (.wudop r path 0x5A#8) { ρ.fr with wudop := true }) ∧
      (ρ.poc ≠ Poc.active → refused (.mtsA r path 0x5A#8) ∧ refused (.mtsB r path 0x5A#8) ∧ refused (.wudop r path 0x5A#8)) ∧
      (ρ.mode = SM.standby → ρ.poc = Poc.ready → completes (.wakeup r path 0x5A#8) s fun t =>
        (t.rod r).poc = Poc.wakeup ∧ (t.rod r).b Fl.FR_STAT_CMD_REFUSED = false ∧ (t.rod r).recorded 0x0601 sevInfo 0x030 ∧
        (ρ.frDrives = true → Out.symbol (if ρ.b Fl.FR_START_WAKE_CH then .b else .a) (ρ.ftxen true) 2 (ρ.g Fl.FR_START_WUP_REP) ∈
          (t.rod r).out) ∧ ρ.ck.up ≤ (t.rod r).fr.wakeEnd ∧
        ρ.only (t.rod r) [Rg.FR_STAT, Rg.IRQ_RAW 0x030]
          { ρ with fresh := (t.rod r).fresh, fr := { ρ.fr with waking := true, wakeEnd := (t.rod r).fr.wakeEnd } }) ∧
      (ρ.mode ≠ SM.standby ∨ ρ.poc ≠ Poc.ready → refused (.wakeup r path 0x5A#8)) ∧
      (ρ.mode = SM.standby → ρ.poc ≠ 0 → ρ.poc ≠ Poc.halt → completes (.frHalt r path 0x5A#8) s fun t =>
        (t.rod r).poc = Poc.halt ∧ (t.rod r).b Fl.FR_STAT_CMD_REFUSED = false ∧ (t.rod r).recorded 0x0603 sevDegrade 0x030 ∧
        ρ.only (t.rod r) [Rg.FR_STAT, Rg.IRQ_RAW 0x030] ρ) ∧
      (ρ.mode ≠ SM.standby ∨ ρ.poc = 0 ∨ ρ.poc = Poc.halt → refused (.frHalt r path 0x5A#8)) ∧
      (ρ.poc = Poc.halt → ρ.clkOn 2 = true → RS.sync ≤ ρ.state → completes (.restart r path 0x5A#8) s fun t =>
        (t.rod r).poc = Poc.startup ∧ (t.rod r).b Fl.FR_STAT_CMD_REFUSED = false ∧ (t.rod r).g Fl.FR_SYNC_NOCORR = 0 ∧
        (t.rod r).g Fl.FR_COLD_ATT_LEFT = (if ρ.b Fl.FR_MODE_COLDSTART then ρ.g Fl.FR_START_COLD_ATT else 0) ∧
        ρ.only (t.rod r) [Rg.FR_STAT, Rg.FR_COLD, Rg.FR_SYNC, Rg.IRQ_RAW 0x030] { ρ with fr := (t.rod r).fr }) ∧
      (ρ.poc ≠ Poc.halt → ρ.fr.clash = false → refused (.restart r path 0x5A#8))) ∧
    (∀ b : Fin 128, σ.accepts path (Rg.MB_CTRL b.val) →
      (completes (.mbReady r path b) s fun t => (t.rod r).b (Fl.MB_CTRL_READY b.val) = true ∧
        (t.rod r).b (Fl.MB_CTRL_HOLD b.val) = σ.b (Fl.MB_CTRL_HOLD b.val) ∧ σ.only (t.rod r) [Rg.MB_CTRL b.val] σ) ∧
      ∀ on : Bool, completes (.mbHold r path b on) s fun t => (t.rod r).b (Fl.MB_CTRL_HOLD b.val) = on ∧
        (t.rod r).b (Fl.MB_CTRL_READY b.val) = σ.b (Fl.MB_CTRL_READY b.val) ∧ σ.only (t.rod r) [Rg.MB_CTRL b.val] σ) ∧
    (∀ (c : Chan) (wud : Bool),
      let f := if c = .a then Fl.FR_STAT_WAKE_RX_A else Fl.FR_STAT_WAKE_RX_B
      let fits := if wud then ρ.poc = Poc.active ∨ ρ.poc = Poc.passive else ρ.poc = Poc.ready ∨ ρ.poc = Poc.startup
      (fits → ρ.chanOn c = true → completes (.wakeRx r c wud) s fun t =>
        (t.rod r).b f = true ∧ (t.rod r).poc = ρ.poc ∧ (t.rod r).raised 0x030 5 ∧ (t.rod r).recorded 0x0640 sevInfo 0x030 ∧
        ρ.only (t.rod r) [Rg.FR_STAT, Rg.IRQ_RAW 0x030] ρ) ∧
      (¬fits ∨ ρ.chanOn c = false → completes (.wakeRx r c wud) s fun t => ρ.only (t.rod r) [] ρ)) ∧
    (ρ.fr.waking = true → completes (.wakeCollision r) s fun t =>
      (t.rod r).poc = Poc.ready ∧ (t.rod r).recorded 0x0641 sevInfo 0x030 ∧
      ρ.only (t.rod r) [Rg.FR_STAT, Rg.IRQ_RAW 0x030] { ρ with fr := { ρ.fr with waking := false } }) ∧
    (ρ.fr.waking = false → completes (.wakeCollision r) s fun t => ρ.only (t.rod r) [] ρ) ∧
    (σ.poc = Poc.startup → σ.b Fl.FR_MODE_COLDSTART = true → σ.g Fl.FR_COLD_ATT_LEFT ≠ 0 → completes (.coldstartAttempt r) s fun t =>
      (t.rod r).g Fl.FR_COLD_ATT_LEFT = σ.g Fl.FR_COLD_ATT_LEFT - 1 ∧ (t.rod r).fr.trying = true ∧
      (∀ c, σ.chanOn c = true → σ.frDrives = true → Out.symbol c (σ.ftxen true) 0 1 ∈ (t.rod r).out) ∧
      σ.only (t.rod r) [Rg.FR_COLD] { σ with fr := { σ.fr with trying := true, tries := σ.fr.tries + 1 } }) ∧
    (σ.poc ≠ Poc.startup ∨ σ.b Fl.FR_MODE_COLDSTART = false ∨ σ.g Fl.FR_COLD_ATT_LEFT = 0 → completes (.coldstartAttempt r) s fun t =>
      σ.only (t.rod r) [] σ) ∧
    (σ.poc = Poc.startup → σ.g Fl.FR_COLD_ATT_LEFT = 0 → σ.fr.tries ≠ 0 → completes (.coldExhausted r) s fun t =>
      (t.rod r).recorded 0x0621 sevWarn 0x030 ∧ σ.only (t.rod r) [] { σ with fr := { σ.fr with trying := false, tries := 0 } })

/-- Frames in their window are stored in their buffers, others are counted; a cycle sends what is ready; clock correction and
losses move the POC state (spec/05_flexray.md R149, spec/05_flexray.md R152, spec/05_flexray.md R156, spec/05_flexray.md R157,
spec/05_flexray.md R161, spec/05_flexray.md R169, spec/05_flexray.md R170, spec/05_flexray.md R171, spec/05_flexray.md R172,
spec/05_flexray.md R173, spec/05_flexray.md R178, spec/05_flexray.md R179). FR_FRAME_RECEIVE ends a slot: in normal operation it
stores a frame in its window in each matching receive buffer not on HOLD, that of channel A where both bring one, with its data,
channel, cycle and FT; a frame with an error is counted in FR_ERR, one outside the window in FR_SBV with event 3, and neither is
stored. CYCLE_START shows the cycle, takes the buffer configuration into force, and sends a ready buffer alone in its slot on
those of its channels that CH_USE enables, clearing READY: every due buffer in active, the key slot buffer in a startup that the
node takes part in. CLOCK_CORRECTION within its limits with two pairs clears NOCORR and ends startup; otherwise NOCORR counts
and active falls to passive at its limit. CHANNEL_SILENT, CLUSTER_LOST and CLUSTER_BACK set their flags and records. Under these
conditions, of state and operands alone, exec of FR_FRAME_RECEIVE, CYCLE_START, CLOCK_CORRECTION, CHANNEL_SILENT, CLUSTER_LOST
and CLUSTER_BACK each answer a next state. -/
def Obligations.FlexRayFramesAndClockAct : Prop :=
  ∀ (s : State) (r : RodId),
    let σ := s.rod r
    let ρ := σ.view s.rod
    let open_ := σ.clkOn 2 = true ∧ Poc.startup ≤ σ.poc ∧ σ.poc ≤ Poc.passive
    (∀ (sl : FrSlot) (f : FrFrame) (c : Chan), open_ → σ.chanOn c = true → (if c = .a then sl.a else sl.b) = some f →
      ((if c = .a then sl.b else sl.a) = none →
        (f.err ≠ 0 → completes (.frFrameReceive r sl) s fun t =>
          (t.rod r).g (frErrFld c f.err) = min 0xFF (σ.g (frErrFld c f.err) + 1) ∧ σ.only (t.rod r) [Rg.FR_ERR] σ) ∧
        (f.err = 0 → σ.frWindow sl.slot f = false → completes (.frFrameReceive r sl) s fun t =>
          (t.rod r).g (if c = .a then Fl.FR_SBV_SBV_A else Fl.FR_SBV_SBV_B) =
            min 0xFFFF (σ.g (if c = .a then Fl.FR_SBV_SBV_A else Fl.FR_SBV_SBV_B) + 1) ∧ (t.rod r).raised 0x030 3 ∧
          ((if c = .a then σ.fr.sbvA else σ.fr.sbvB) = none → (t.rod r).recorded 0x0630 sevWarn 0x030) ∧
          σ.only (t.rod r) [Rg.FR_SBV, Rg.IRQ_RAW 0x030] { σ with fr := (t.rod r).fr })) ∧
      (f.err = 0 → σ.frWindow sl.slot f = true → (c = .b → sl.a = none) →
        (∀ g, sl.b = some g → g.err = 0 ∧ σ.frWindow sl.slot g = true ∧ σ.chanOn .b = true) → σ.poc ≠ Poc.startup →
        σ.ct.ledger = [] → f.payload.length ≤ 254 → ∀ (b : Nat) (w : Word), b < 128 →
        σ.fr.cfg = [(b, w)] → mbEn w = true → mbTx w = false → mbUses w c = true → mbSlot w = sl.slot → mbDue w (sl.cycle % 64) = true →
        (σ.b (Fl.MB_CTRL_HOLD b) = false → completes (.frFrameReceive r sl) s fun t =>
          (t.rod r).b (Fl.MB_STAT_NEW b) = true ∧ (t.rod r).b (Fl.MB_STAT_NULL b) = f.null ∧
          (t.rod r).g (Fl.MB_STAT_CYCLE b) = sl.cycle % 64 ∧ (t.rod r).g (Fl.MB_STAT_RX_CH b) = (if c = .a then 1 else 2) ∧
          (t.rod r).g (Fl.MB_STAT_RX_PL b) = f.payload.length / 2 ∧
          (t.rod r).b (Fl.MB_STAT_DIFF b) = decide (c = .a ∧ mbCh w = 3 ∧ ∃ g ∈ sl.b, f.payload ≠ g.payload) ∧
          (t.rod r).b (Fl.MB_STAT_PASSIVE b) = decide (σ.poc = Poc.passive) ∧
          (t.rod r).g (Fl.MB_FT_LO_FT b) + 2 ^ 32 * (t.rod r).g (Fl.MB_FT_HI_FT b) = sl.ft.toNat ∧
          (∀ i, i < 64 → (t.rod r).gw (Rg.MB_DATA b i) = BitVec.ofNat 32 (leAt f.payload (4 * i) 4)) ∧
          (t.rod r).raised (0x031 + b / 9) (b % 9) ∧
          σ.keepsRegs (t.rod r) (Rg.MB_STAT b :: Rg.MB_FT_LO b :: Rg.MB_FT_HI b :: Rg.IRQ_RAW (0x031 + b / 9) :: Rg.IRQ_RAW 0x0A1 ::
            (List.range 64).map (Rg.MB_DATA b))) ∧
        (σ.b (Fl.MB_CTRL_HOLD b) = true → completes (.frFrameReceive r sl) s fun t =>
          (t.rod r).g (Fl.MB_STAT_LOST b) = min 0xFF (σ.g (Fl.MB_STAT_LOST b) + 1) ∧
          σ.only (t.rod r) [Rg.MB_STAT b, Rg.IRQ_RAW (0x031 + b / 9), Rg.IRQ_RAW 0x0A1]
            { σ with fr := (t.rod r).fr, tb := (t.rod r).tb, red := (t.rod r).red }))) ∧
    (∀ cycle : Nat, open_ → completes (.cycleStart r cycle) s fun t =>
      (t.rod r).g Fl.FR_CNT_CYCLE = cycle % 64 ∧ (t.rod r).g Fl.FR_CNT_MT = 0 ∧ (t.rod r).poc = σ.poc ∧
      (t.rod r).b Fl.FR_STAT_CH_A_OK = σ.fr.seenA ∧ (t.rod r).b Fl.FR_STAT_CH_B_OK = σ.fr.seenB ∧
      (∀ b, b < 128 → (t.rod r).mbWork b = σ.gw (Rg.MB_CFG b)) ∧
      (σ.poc ≠ Poc.active → σ.poc = Poc.passive ∨ σ.sendsStartup cycle = false →
        σ.only (t.rod r) [Rg.FR_CNT, Rg.FR_STAT] { σ with fr := (t.rod r).fr }) ∧
      (∀ b, b < 128 → σ.poc = Poc.active ∨ (σ.poc = Poc.startup ∧ σ.sendsStartup cycle = true ∧ b = 0) →
        let w := σ.gw (Rg.MB_CFG b)
        mbEn w = true → mbTx w = true → mbDue w cycle = true → σ.b (Fl.MB_CTRL_READY b) = true →
        (∀ a, a < 128 → a ≠ b → ¬(mbEn (σ.gw (Rg.MB_CFG a)) = true ∧ mbTx (σ.gw (Rg.MB_CFG a)) = true ∧ mbDue (σ.gw (Rg.MB_CFG a)) cycle = true)) →
        let key := b == 0 && σ.b Fl.FR_MODE_SYNC
        (t.rod r).b (Fl.MB_CTRL_READY b) = false ∧
        ∀ c, mbUses w c = true → σ.chanOn c = true → (t.rod r).b (Fl.MB_STAT_NEW b) = true ∧
          (σ.frDrives = true → ∃ h : FrHead, h.cycle = cycle % 64 ∧ h.null = false ∧ h.sync = key ∧
            h.startup = (key && σ.b Fl.FR_MODE_COLDSTART) ∧
            Out.frame c (σ.ftxen true) (mbSlot w) h ((wordBytes (σ.mbData b)).take (2 * mbPl w)) ∈ (t.rod r).out))) ∧
    (∀ (rate offset : Int) (pairs nodes : Nat), open_ →
      let good := rate.natAbs ≤ σ.g Fl.FR_CSYNC_0_RATE_OUT ∧ offset.natAbs ≤ σ.g Fl.FR_CSYNC_0_OFFS_OUT ∧ 2 ≤ pairs
      (good → completes (.clockCorrection r rate offset pairs nodes) s fun t =>
        (t.rod r).g Fl.FR_SYNC_NOCORR = 0 ∧ (t.rod r).g Fl.FR_CORR_RATE = natOfInt 16 rate % 65536 ∧
        (t.rod r).g Fl.FR_CORR_OFFSET = natOfInt 16 offset % 65536 ∧
        (σ.poc = Poc.startup → (t.rod r).poc = Poc.active ∧ (t.rod r).b Fl.FR_STAT_LEADER = σ.fr.trying) ∧
        (σ.poc = Poc.active → (t.rod r).poc = Poc.active) ∧
        (σ.poc = Poc.passive → (t.rod r).poc = if σ.g Fl.FR_CSYNC_1_P2A ≤ σ.fr.p2a + 1 then Poc.active else Poc.passive) ∧
        σ.only (t.rod r) [Rg.FR_SYNC, Rg.FR_CORR, Rg.FR_STAT, Rg.IRQ_RAW 0x030] { σ with fr := (t.rod r).fr }) ∧
      (¬good → σ.b Fl.FR_CSYNC_1_HALT_CLK = false → completes (.clockCorrection r rate offset pairs nodes) s fun t =>
        (t.rod r).g Fl.FR_SYNC_NOCORR = min 15 (σ.g Fl.FR_SYNC_NOCORR + 1) ∧ (t.rod r).raised 0x030 6 ∧ (t.rod r).fr.p2a = 0 ∧
        (σ.poc = Poc.active → σ.g Fl.FR_CSYNC_1_PASSIVE ≤ min 15 (σ.g Fl.FR_SYNC_NOCORR + 1) →
          (t.rod r).poc = Poc.passive ∧ (t.rod r).recorded 0x0602 sevDegrade 0x030) ∧
        (σ.poc ≠ Poc.active ∨ min 15 (σ.g Fl.FR_SYNC_NOCORR + 1) < σ.g Fl.FR_CSYNC_1_PASSIVE → (t.rod r).poc = σ.poc) ∧
        σ.only (t.rod r) [Rg.FR_SYNC, Rg.FR_CORR, Rg.FR_STAT, Rg.IRQ_RAW 0x030] { σ with fr := (t.rod r).fr })) ∧
    (∀ c : Chan, ρ.chanOn c = true → ρ.poc = Poc.active ∨ ρ.poc = Poc.passive →
      ρ.g Fl.FR_LOSS_LOSS_CYC ≤ (if c = .a then ρ.fr.quietA else ρ.fr.quietB) → (if c = .a then ρ.fr.silA else ρ.fr.silB) = false →
      completes (.channelSilent r c) s fun t => (if c = .a then (t.rod r).fr.silA else (t.rod r).fr.silB) = true ∧
        (t.rod r).recorded 0x0612 sevWarn 0x030) ∧
    (∀ cause : Nat, ρ.b Fl.FR_STAT_LOST = false →
      (cause = 1 ∧ ρ.poc ≠ Poc.active) ∨ (cause = 2 ∧ ρ.poc = Poc.active ∧ ρ.g Fl.FR_LOSS_LOSS_CYC ≤ ρ.fr.quietA ∧
        ρ.g Fl.FR_LOSS_LOSS_CYC ≤ ρ.fr.quietB) → completes (.clusterLost r cause) s fun t =>
        (t.rod r).b Fl.FR_STAT_LOST = true ∧ (t.rod r).poc = ρ.poc ∧ (t.rod r).raised 0x030 1 ∧ (t.rod r).recorded 0x0610 sevDegrade 0x030) ∧
    (σ.b Fl.FR_STAT_LOST = true → σ.poc = Poc.active → σ.g Fl.FR_LOSS_LOSS_CYC ≤ σ.fr.good → completes (.clusterBack r) s fun t =>
      (t.rod r).b Fl.FR_STAT_LOST = false ∧ (t.rod r).poc = Poc.active ∧ (t.rod r).raised 0x030 2 ∧
      (t.rod r).recorded 0x0611 sevInfo 0x030 ∧ σ.only (t.rod r) [Rg.FR_STAT, Rg.IRQ_RAW 0x030] σ)

/-- BOOT goes on or stops by its tests, a lockstep mismatch withdraws the rod, and pair 0 splits and rejoins as Chapter 15 says
(spec/03_operating_modes.md R83, spec/03_operating_modes.md R84, spec/15_lockstep.md R528, spec/15_lockstep.md R530,
spec/15_lockstep.md R531, spec/15_lockstep.md R532, spec/15_lockstep.md R533, spec/15_lockstep.md R535, spec/15_lockstep.md
R537, spec/19_security.md R616, spec/19_security.md R625). In BOOT, BOOT_COMPARATOR_TEST passed sets BOOT_OK and failed stops
the rod (records 0x0D10, 0x0110); BOOT_FIRMWARE_VERIFY and BOOT_IMAGE_VERIFY stop it at a failed step, else BOOT goes on and
SYNC is entered with UIDs sent. LOCKSTEP_WINDOW_END and, from TEST_INT after the last one on, COMPARATOR_TEST take the tallies
of a window, the next one starting from 0; tallies that differ are record 0x0D01, LS_LAST and the withdrawal; a test whose
tallies differ by the pattern sets TESTED; one without difference is 0x0D10. PAIR_SPLIT, PAIR_REJOIN, PAIR_RESTART, XTEST and
XTEST_DONE do as R533 to R537 say, with their records, and otherwise nothing. Under these conditions, of state and operands
alone, exec of BOOT_COMPARATOR_TEST, BOOT_FIRMWARE_VERIFY, BOOT_IMAGE_VERIFY, LOCKSTEP_WINDOW_END, COMPARATOR_TEST, PAIR_SPLIT,
PAIR_REJOIN, PAIR_RESTART, XTEST and XTEST_DONE each answer a next state. -/
def Obligations.BootAndLockstepAct : Prop :=
  ∀ (s : State) (r : RodId),
    let σ := s.rod r
    let stopped : Rod := { σ with md := { σ.md with stuck := true } }
    let leaves (i : Instr) (P : Rod → Prop) : Prop := completes i s fun t => P (t.rod r)
    let idle (i : Instr) : Prop := leaves i fun τ => σ.only τ [] σ
    let withdrawn (τ : Rod) : Prop := τ.md.dis = true ∧ τ.md.txOff = true ∧
      (RS.serving σ.state = true → τ.state = RS.fenced ∧ Out.withdrawn (BitVec.ofNat 32 σ.tick) ∈ τ.out) ∧
      (RS.serving σ.state = false → τ.state = σ.state)
    let reacts : List Nat := [Rg.LS_STAT, Rg.LS_LAST, Rg.IRQ_RAW 0x0B0, Rg.ROD_STATE, Rg.IRQ_RAW 0x001]
    let counted (τ : Rod) (p : Nat) (main : DWord) : Prop :=
      Sparse.get 0#64 τ.ls.tally p = main ∧ Sparse.has τ.ls.win p = true ∧
      (p ≠ 0 → Sparse.get Misr.init τ.ls.sums p = Misr.init) ∧
      (∀ q, q ≠ p → Sparse.get 0#64 τ.ls.tally q = Sparse.get 0#64 σ.ls.tally q ∧ Sparse.get 0 τ.ls.win q = Sparse.get 0 σ.ls.win q) ∧
      Sparse.get 0 τ.ls.win p = if Sparse.has σ.ls.win p then (Sparse.get 0 σ.ls.win p + 1) % 2 ^ 32 else 0
    (σ.state = RS.boot → σ.md.stuck = false →
      leaves (.bootComparatorTest r none) (fun τ => τ.b Fl.LS_STAT_BOOT_OK = true ∧ σ.only τ [Rg.LS_STAT] σ) ∧
      (∀ p why, leaves (.bootComparatorTest r (some (p, why))) fun τ => τ.raised 0x0B0 2 ∧ τ.recorded 0x0D10 sevWithdraw 0x0B0 ∧
        τ.recorded 0x0110 sevWithdraw 0x001 ∧ σ.only τ [Rg.IRQ_RAW 0x0B0] stopped) ∧
      (∀ v, σ.md.fwOk = false → σ.b Fl.LS_STAT_BOOT_OK = true →
        (σ.verifyImage 1 (σ.active 1) v = none → leaves (.bootFirmwareVerify r v) fun τ =>
          τ.md.fwOk = true ∧ τ.md.stuck = false ∧ τ.state = RS.boot ∧ σ.keepsRegs τ [Rg.IMG_FW]) ∧
        (∀ e, σ.verifyImage 1 (σ.active 1) v = some e → leaves (.bootFirmwareVerify r v) fun τ =>
          τ.recorded e.1 sevWarn e.2.1 ∧ τ.recorded 0x0110 sevWithdraw 0x001 ∧ σ.only τ [] stopped)) ∧
      (∀ law safety certs test, σ.md.fwOk = true →
        let ok : Prop := σ.verifyImage 2 (σ.active 2) law = none ∧ σ.verifyImage 3 (σ.active 3) safety = none ∧ certs = true ∧ test = true
        (ok → leaves (.bootImageVerify r law safety certs test) fun τ => τ.state = RS.sync ∧ τ.md.hold = false ∧ τ.raised 0x001 4 ∧
          ∀ p ∈ σ.me.partners, Out.uid p (Config.uid σ.me) ∈ τ.out) ∧
        (¬ok → leaves (.bootImageVerify r law safety certs test) fun τ =>
          τ.recorded 0x0110 sevWithdraw 0x001 ∧ σ.only τ [] stopped))) ∧
    (∀ (pair : Fin 5) (core : List (Nat × List LsEvent)) (diff : DWord),
      let main := σ.mainTally pair.val core
      let shadow := σ.shadowTally pair.val core ^^^ diff
      (σ.lsOn pair.val = false → idle (.lockstepWindowEnd r pair core diff)) ∧
      (σ.lsOn pair.val = true → main = shadow → leaves (.lockstepWindowEnd r pair core diff) fun τ =>
        counted τ pair.val main ∧ σ.only τ [] { σ with ls := τ.ls }) ∧
      (σ.lsOn pair.val = true → main ≠ shadow → leaves (.lockstepWindowEnd r pair core diff) fun τ =>
        counted τ pair.val main ∧ τ.b Fl.LS_LAST_VALID = true ∧ τ.g Fl.LS_LAST_PAIR = pair.val ∧ τ.b Fl.LS_LAST_TEST = false ∧
        τ.raised 0x0B0 3 ∧ τ.recorded 0x0D01 sevWithdraw 0x0B0 ∧ withdrawn τ ∧ σ.keepsRegs τ reacts)) ∧
    (∀ (core : List (Nat × List LsEvent)) (diff : DWord),
      let early : Prop := ∃ t, σ.ls.testAt = some t ∧ σ.passed t (σ.g Fl.LS_CFG_TEST_INT * 1000000) = false
      (σ.state < RS.sync ∨ early → idle (.comparatorTest r core diff)) ∧
      (RS.sync ≤ σ.state → ¬early → σ.g Fl.LS_STAT_NEXT < 5 →
        let p := if σ.g Fl.LS_STAT_NEXT = 0 ∧ σ.lsOn 0 = false then 1 else σ.g Fl.LS_STAT_NEXT
        let main := σ.mainTally p core
        let shadow := σ.shadowTally p core ^^^ diff ^^^ σ.lsPattern
        leaves (.comparatorTest r core diff) fun τ => counted τ p main ∧ τ.ls.alt = !σ.ls.alt ∧ τ.ls.testAt = some σ.ft ∧
          τ.g Fl.LS_STAT_NEXT = (p + 1) % 5 ∧ τ.bitOf Fl.LS_STAT_TESTED p = decide (main ^^^ shadow = σ.lsPattern) ∧
          (main ^^^ shadow = σ.lsPattern → τ.g Fl.LS_CNT_TESTS = min 0xFFFF (σ.g Fl.LS_CNT_TESTS + 1) ∧
            σ.only τ [Rg.LS_STAT, Rg.LS_CNT] { σ with ls := τ.ls }) ∧
          (main ^^^ shadow ≠ σ.lsPattern → withdrawn τ ∧ σ.keepsRegs τ reacts ∧
            (main = shadow → τ.raised 0x0B0 2 ∧ τ.recorded 0x0D10 sevWithdraw 0x0B0) ∧
            (main ≠ shadow → τ.b Fl.LS_LAST_VALID = true ∧ τ.g Fl.LS_LAST_PAIR = p ∧ τ.b Fl.LS_LAST_TEST = true ∧
              τ.raised 0x0B0 3 ∧ τ.recorded 0x0D01 sevWithdraw 0x0B0)))) ∧
    (∀ purpose,
      let may : Prop := (purpose = 1 ∧ σ.state = RS.update) ∨ (purpose = 2 ∧ σ.mode = SM.standby ∧ σ.b Fl.LS_STAT_XTEST_RUN = true)
      (may → σ.b Fl.LS_STAT_SPLIT = false → leaves (.pairSplit r purpose) fun τ => τ.b Fl.LS_STAT_SPLIT = true ∧
        τ.g Fl.LS_CNT_SPLITS = min 0xFFFF (σ.g Fl.LS_CNT_SPLITS + 1) ∧ τ.raised 0x0B0 0 ∧ τ.recorded 0x0D20 sevInfo 0x0B0 ∧
        σ.only τ [Rg.LS_STAT, Rg.LS_CNT, Rg.IRQ_RAW 0x0B0] { σ with md := { σ.md with dis := true }, ls := τ.ls }) ∧
      (¬may ∨ σ.b Fl.LS_STAT_SPLIT = true → idle (.pairSplit r purpose))) ∧
    (let may : Prop := σ.b Fl.LS_STAT_SPLIT = true ∧ σ.b Fl.LS_STAT_REJOINING = false;
      (may → leaves (.pairRejoin r) fun τ => τ.b Fl.LS_STAT_REJOINING = true ∧
        (σ.b Fl.LS_STAT_XTEST_RUN = true → σ.md.agreed ≠ none →
          τ.b Fl.LS_STAT_XTEST_RUN = false ∧ τ.raised 0x0B0 1 ∧ τ.recorded 0x0D24 sevInfo 0x0B0) ∧
        σ.only τ [Rg.LS_STAT, Rg.IRQ_RAW 0x0B0] σ) ∧
      (¬may → idle (.pairRejoin r))) ∧
    (σ.b Fl.LS_STAT_REJOINING = true → leaves (.pairRestart r) fun τ =>
      τ.b Fl.LS_STAT_REJOINING = false ∧ τ.b Fl.LS_STAT_SPLIT = false ∧ τ.md.dis = decide (σ.state = RS.fenced) ∧
      Sparse.has τ.ls.win 0 = false ∧ τ.raised 0x0B0 0 ∧ τ.recorded 0x0D21 sevInfo 0x0B0 ∧
      σ.only τ [Rg.LS_STAT, Rg.IRQ_RAW 0x0B0] { σ with md := τ.md, ls := τ.ls }) ∧
    (σ.b Fl.LS_STAT_REJOINING = false → idle (.pairRestart r)) ∧
    (∀ (path : Path) (data : Word), σ.accepts path Rg.LS_CMD →
      let may : Prop := wBits data 8 8 = 0x5A ∧ wBit data 0 = true ∧ σ.mode = SM.standby ∧ σ.state = RS.ready
      (may → leaves (.xtest r path data) fun τ => τ.b Fl.LS_STAT_XTEST_RUN = true ∧ σ.only τ [Rg.LS_STAT] σ) ∧
      (¬may → leaves (.xtest r path data) fun τ => τ.b (Fl.ERRCAP_0_VALID 0x0B0) = true ∧
        (σ.b (Fl.ERRCAP_0_VALID 0x0B0) = false → τ.g (Fl.ERRCAP_0_TYPE 0x0B0) = 6) ∧
        σ.only τ [Rg.ERRCAP_0 0x0B0, Rg.ERRCAP_1 0x0B0, Rg.IRQ_RAW 0x0B0] σ)) ∧
    (∀ us, (σ.b Fl.LS_STAT_XTEST_RUN = false → ∀ failed, idle (.xtestDone r failed us)) ∧
      (σ.b Fl.LS_STAT_XTEST_RUN = true →
        leaves (.xtestDone r none us) (fun τ => τ.b Fl.LS_STAT_XTEST_RUN = false ∧ τ.raised 0x0B0 1 ∧
          τ.recorded 0x0D23 sevInfo 0x0B0 ∧ σ.only τ [Rg.LS_STAT, Rg.IRQ_RAW 0x0B0] σ) ∧
        ∀ g code, leaves (.xtestDone r (some (g, code)) us) fun τ => τ.b Fl.LS_STAT_XTEST_RUN = false ∧ τ.raised 0x0B0 1 ∧
          τ.recorded 0x0D22 sevWithdraw 0x0B0 ∧ (RS.serving σ.state = true → τ.state = RS.fenced)))

/-- Access levels, challenges, manifests, passwords and updates change what Chapter 19 says, with its records, and nothing else
(spec/19_security.md R618, spec/19_security.md R619, spec/19_security.md R625, spec/19_security.md R630, spec/19_security.md
R631, spec/19_security.md R632, spec/19_security.md R633, spec/19_security.md R634, spec/19_security.md R636,
spec/19_security.md R637, spec/19_security.md R638). SEC_CMD with a wrong KEY is captured with TYPE 6; every other one starts
the 30 minutes of the idle timeout anew. CLOSE and the idle timeout, not before those 30 minutes, close open access (0x0421).
OPEN_L1 erases the password words and starts a check, unless locked out (0x0423), outside STANDBY, sealed or without a password.
A check opens L1 (0x0420) or counts a failure (0x0422), from the 8th on with a lockout; LOCKOUT_END ends it when it has run out.
CHALLENGE holds 32 random bytes until expiry after 10 minutes or a RESPOND, which opens L2 for a verified response.
APPLY_MANIFEST programs the slots or is refused (0x0441). SET_PASSWORD needs L1. UPD_REQ is taken or shows its REASON.
UPDATE_COMPLETE makes the image active (0x0451) or rejects it (0x0452) and leaves UPDATE. A UID outside the certificate silences
its link. Under these conditions, of state and operands alone, exec of UID_EXCHANGE, CLOSE, OPEN_L1, PASSWORD_CHECK_DONE,
LOCKOUT_END, ACCESS_IDLE_TIMEOUT, CHALLENGE, CHALLENGE_EXPIRY, RESPOND, APPLY_MANIFEST, SET_PASSWORD, UPD_REQ and
UPDATE_COMPLETE each answer a next state. -/
def Obligations.SecurityCommandsAct : Prop :=
  ∀ (s : State) (r : RodId),
    let σ := s.rod r
    let leaves (i : Instr) (P : Rod → Prop) : Prop := completes i s fun t => P (t.rod r)
    let access : List Nat := [Rg.SEC_STAT, Rg.IRQ_RAW 0x004]
    let used : SecS := { σ.sec with useFt := σ.ft }
    let closes (i : Instr) (sec : SecS) : Prop :=
      (σ.g Fl.SEC_STAT_LEVEL = 0 → leaves i fun τ => σ.only τ [] { σ with sec := sec }) ∧
      (σ.g Fl.SEC_STAT_LEVEL ≠ 0 → leaves i fun τ => τ.g Fl.SEC_STAT_LEVEL = 0 ∧ τ.raised 0x004 0 ∧
        τ.recorded 0x0421 sevInfo 0x004 ∧ σ.only τ access { σ with sec := sec })
    (∀ (path : Path) (random : BitVec 256) (v : Verdict) (m : Manifest), σ.accepts path Rg.SEC_CMD →
      let k := 0x5A#8
      (∀ key : Byte, key ≠ k → ∀ i ∈ [Instr.close r path key, .openL1 r path key, .challenge r path key random, .respond r path key v,
          .applyManifest r path key v m, .setPassword r path key],
        leaves i fun τ => τ.b (Fl.ERRCAP_0_VALID 0x004) = true ∧
          (σ.b (Fl.ERRCAP_0_VALID 0x004) = false → τ.g (Fl.ERRCAP_0_TYPE 0x004) = 6) ∧
          σ.only τ [Rg.ERRCAP_0 0x004, Rg.ERRCAP_1 0x004, Rg.IRQ_RAW 0x004] σ) ∧
      closes (.close r path k) used ∧
      leaves (.openL1 r path k) (fun τ => τ.sec.pw = [] ∧ τ.sec.useFt = σ.ft ∧ σ.only τ [] { σ with sec := τ.sec } ∧
        (σ.otp.lockEnd ≠ none → τ.recorded 0x0423 sevWarn 0x004 ∧ τ.sec.check = σ.sec.check) ∧
        (σ.otp.lockEnd = none → σ.mode ≠ SM.standby → τ.recorded 0x0421 sevInfo 0x004 ∧ τ.sec.check = σ.sec.check) ∧
        (σ.otp.lockEnd = none → σ.mode = SM.standby →
          τ.sec.check = (σ.sec.check || (σ.maint && σ.otp.pwSet)))) ∧
      leaves (.challenge r path k random) (fun τ => σ.only τ [] { σ with sec := τ.sec } ∧ τ.sec.chal.length = 8 ∧ τ.sec.useFt = σ.ft ∧ τ.sec.chalFt = σ.ft ∧
        ∀ i, i < 8 → τ.sec.chal.getD i 0#32 = random.extractLsb' (32 * i) 32) ∧
      leaves (.respond r path k v) (fun τ =>
        let may : Prop := σ.mode = SM.standby ∧ σ.maint = true ∧ σ.sec.chal ≠ []
        let body : List Byte := (σ.sec.staged.drop 0x10).take 0x30
        let right : Prop := σ.sec.staged ≠ [] ∧ body = wordBytes ((List.range 12).map σ.chalWord)
        τ.sec.chal = [] ∧ (¬may → σ.only τ [] { σ with sec := τ.sec }) ∧
        (may → σ.verifyImage 5 σ.sec.staged v ≠ none ∨ ¬right → τ.otp = σ.otp ∧ τ.g Fl.SEC_STAT_LEVEL = σ.g Fl.SEC_STAT_LEVEL) ∧
        (may → σ.verifyImage 5 σ.sec.staged v = none → right → τ.g Fl.SEC_STAT_LEVEL = 2 ∧ τ.otp.pwSet = false ∧
          τ.otp.wrap = min 128 (σ.otp.wrap + 1) ∧ τ.recorded 0x0424 sevDegrade 0x004 ∧ τ.recorded 0x0420 sevInfo 0x004 ∧
          τ.raised 0x004 0) ∧
        σ.only τ access { σ with sec := τ.sec, otp := τ.otp }) ∧
      leaves (.applyManifest r path k v m) (fun τ => σ.only τ [] { σ with otp := τ.otp, sec := used } ∧
        let may : Prop := σ.mode = SM.standby ∧ σ.g Fl.SEC_STAT_LEVEL ≠ 0
        let good : Prop := σ.verifyImage 4 σ.sec.staged v = none ∧ σ.sec.staged ≠ []
        (¬may → τ.recorded 0x0441 sevWarn 0x004 ∧ τ.otp = σ.otp) ∧
        (may → ¬good → τ.otp = σ.otp) ∧
        (may → good → σ.manifestFault m ≠ 0 → τ.recorded 0x0441 sevWarn 0x004 ∧ τ.otp = σ.otp) ∧
        (may → good → σ.manifestFault m = 0 → τ.recorded 0x0440 sevInfo 0x004 ∧ τ.otp.slots = slotsAfter σ.otp.slots m ∧
          τ.otp.pwSet = (σ.otp.pwSet || m.newPw) ∧
          Sparse.get 0 τ.otp.rb (imgRbIdx σ.sec.staged) = max (Sparse.get 0 σ.otp.rb (imgRbIdx σ.sec.staged)) (imgRbVal σ.sec.staged))) ∧
      leaves (.setPassword r path k) (fun τ => τ.sec.pw = [] ∧
        τ.otp.pwSet = (σ.otp.pwSet || (decide (σ.g Fl.SEC_STAT_LEVEL ≠ 0) && σ.password.isSome)) ∧
        σ.only τ [] { σ with sec := τ.sec, otp := { σ.otp with pwSet := τ.otp.pwSet } })) ∧
    (σ.passed σ.sec.useFt 1800000000000 = false → leaves (.accessIdleTimeout r) fun τ => σ.only τ [] σ) ∧
    (σ.passed σ.sec.useFt 1800000000000 = true → closes (.accessIdleTimeout r) σ.sec) ∧
    (∀ ok, (σ.sec.check = false → leaves (.passwordCheckDone r ok) fun τ => σ.only τ [] σ) ∧
      (σ.sec.check = true → leaves (.passwordCheckDone r ok) fun τ =>
        let f := σ.otp.fails + 1
        τ.sec.check = false ∧ σ.only τ access { σ with sec := τ.sec, otp := τ.otp } ∧
        (σ.mode ≠ SM.standby → τ.recorded 0x0421 sevInfo 0x004 ∧ τ.otp = σ.otp) ∧
        (σ.mode = SM.standby → ok = true → σ.sec.pwForm = true → τ.otp = { σ.otp with fails := 0 } ∧ τ.raised 0x004 0 ∧
          τ.g Fl.SEC_STAT_LEVEL = max 1 (σ.g Fl.SEC_STAT_LEVEL) ∧ τ.recorded 0x0420 sevInfo 0x004) ∧
        (σ.mode = SM.standby → ok = false ∨ σ.sec.pwForm = false → τ.recorded 0x0422 sevWarn 0x004 ∧ (8 ≤ f → τ.raised 0x004 1) ∧
          τ.g Fl.SEC_STAT_LEVEL = σ.g Fl.SEC_STAT_LEVEL ∧
          τ.otp = { σ.otp with
            fails := f, lockEnd := if f < 8 then σ.otp.lockEnd else some (σ.ft + 2 ^ min 16 (f - 8) * 1000000000) }))) ∧
    ((∀ e, σ.otp.lockEnd = some e → σ.passed e 0 = true) → leaves (.lockoutEnd r) fun τ =>
      σ.only τ [] { σ with otp := { σ.otp with lockEnd := none } }) ∧
    (∀ e, σ.otp.lockEnd = some e → σ.passed e 0 = false → leaves (.lockoutEnd r) fun τ => σ.only τ [] σ) ∧
    (σ.passed σ.sec.chalFt 600000000000 = true → leaves (.challengeExpiry r) fun τ =>
      σ.only τ [] { σ with sec := { σ.sec with chal := [] } }) ∧
    (σ.passed σ.sec.chalFt 600000000000 = false → leaves (.challengeExpiry r) fun τ => σ.only τ [] σ) ∧
    (∀ (path : Path) (data : Word), σ.accepts path Rg.UPD_REQ →
      (wBit data 31 = false → leaves (.updReq r path data) fun τ => σ.only τ [] σ) ∧
      (wBit data 31 = true → wBits data 8 8 ≠ 0x5A → leaves (.updReq r path data) fun τ =>
        τ.b (Fl.ERRCAP_0_VALID 0x004) = true ∧ σ.only τ [Rg.ERRCAP_0 0x004, Rg.ERRCAP_1 0x004, Rg.IRQ_RAW 0x004] σ) ∧
      (wBit data 31 = true → wBits data 8 8 = 0x5A → leaves (.updReq r path data) fun τ =>
        let t := wBits data 0 3
        let why := if σ.sec.req.isSome || (σ.red.upd.get σ.me.idx).isSome then 2 else σ.updateFault t
        τ.g Fl.UPD_STAT_REASON = why ∧
        σ.only τ [Rg.UPD_STAT] { σ with sec := { σ.sec with req := if why = 0 then some (t, σ.tick) else σ.sec.req } })) ∧
    (∀ v : Verdict,
      let ρ := σ.view s.rod
      (ρ.sec.upd = none ∨ ρ.state ≠ RS.update → leaves (.updateComplete r v) fun τ => ρ.only τ [] ρ) ∧
      (∀ t k, ρ.sec.upd = some (t, k) → ρ.state = RS.update → leaves (.updateComplete r v) fun τ =>
        τ.sec.upd = none ∧ τ.b Fl.LS_STAT_SPLIT = false ∧ τ.state = (if ρ.mode = SM.standby then RS.ready else RS.rejoin) ∧
        (ρ.verifyImage t ρ.sec.staged v = none → τ.b Fl.UPD_STAT_DONE = true ∧ τ.raised 0x004 2 ∧ τ.recorded 0x0451 sevInfo 0x004 ∧
          τ.active t = ρ.sec.staged ∧ τ.bankOf t = 1 - ρ.bankOf t) ∧
        (ρ.verifyImage t ρ.sec.staged v ≠ none → τ.b Fl.UPD_STAT_FAIL = true ∧ τ.raised 0x004 3 ∧ τ.recorded 0x0452 sevWarn 0x004 ∧
          τ.bankOf t = ρ.bankOf t ∧ τ.active t = ρ.active t))) ∧
    (∀ (src : RodId) (uid : BitVec 128),
      (src = σ.me ∨ σ.state < RS.sync → leaves (.uidExchange r src uid) fun τ => σ.only τ [] σ) ∧
      (src ≠ σ.me → RS.sync ≤ σ.state → leaves (.uidExchange r src uid) fun τ =>
        let known := allRods.any fun q => Config.certUid q == uid
        τ.sec.alien.get src.idx = !known ∧ (known = false → τ.recorded 0x0409 sevWithdraw 0x004) ∧
        σ.only τ [] { σ with sec := { σ.sec with alien := σ.sec.alien.set src.idx (!known) } }))

/-- The crystal is proven and the PLLs lock in order, a clock fault resets or falls back as Table 17.5 says, and the measurement
and output act (spec/17_clocks.md R570, spec/17_clocks.md R571, spec/17_clocks.md R576, spec/17_clocks.md R577,
spec/17_clocks.md R578, spec/17_clocks.md R579, spec/17_clocks.md R580, spec/17_clocks.md R581, spec/17_clocks.md R582,
spec/17_clocks.md R584, spec/17_clocks.md R586, spec/17_clocks.md R587). SETTLE_DELAY_END, CRYSTAL_PROVEN and PLL_LOCK each take
the start one step on, the last into BOOT. XTAL_FAIL and PLL_A_FAIL reset the die but SMN and VAON, keep their event, count a
restart and restart the crystal; PLL_B_FAIL takes the safe outputs and withdraws (0x0203); RC_FAIL holds the die in OFF until
RC_DETECTOR_CLEAR. With the die FT returns to 0, its reset value, and a lockout keeps the time it has left (the model's choice,
log entry 57). XTAL_FAIL of a crystal that is being proven restarts it alone. X_CKO follows what stops and starts clocks.
REFCLK_LOST, CARRY_CLOCK_LOST and TANDEM_CLOCK_LOST put their domain on its fall-back (0x0210 to 0x0212), with the link or lane
down; SOURCE_BACK returns it (0x0213). CLK_MEAS_SEL and MEAS_DONE measure, CKO_CFG sets the output or is captured. Each does
nothing where what it needs is absent. Under these conditions, of state and operands alone, exec of SETTLE_DELAY_END,
CRYSTAL_PROVEN, PLL_LOCK, XTAL_FAIL, PLL_A_FAIL, PLL_B_FAIL, RC_FAIL, RC_DETECTOR_CLEAR, REFCLK_LOST, CARRY_CLOCK_LOST,
TANDEM_CLOCK_LOST, SOURCE_BACK, CLK_MEAS_SEL, MEAS_DONE and CKO_CFG each answer a next state. -/
def Obligations.ClocksStartFailAndSwitch : Prop :=
  ∀ (s : State) (r : RodId),
    let σ := s.rod r
    let leaves (i : Instr) (P : Rod → Prop) : Prop := completes i s fun t => P (t.rod r)
    let idle (i : Instr) : Prop := leaves i fun τ => σ.only τ [] σ
    let xtal := σ.b Fl.CLK_STAT_XTAL_OK
    let rc := σ.b Fl.CLK_STAT_RC_OK
    let switched (τ : Rod) : Prop := τ.g Fl.CLK_CNT_SWITCHES = min 0xFFFF (σ.g Fl.CLK_CNT_SWITCHES + 1) ∧ τ.raised 0x002 1
    let out (τ : Rod) : Prop := τ.cko ≠ σ.cko → Out.cko τ.cko ∈ τ.out ∨ (τ.cko = none ∧ Out.cko none ∈ τ.out)
    let die (τ : Rod) (code b0 b1 : Nat) (mon : Bool) : Prop := τ.state = RS.off ∧
      τ.aon.clkEvts.getLast? = some { code := code, b0 := b0, b1 := b1, steps := 0, run := true } ∧
      τ.aon.clkEvts.length = min 4 (σ.aon.clkEvts.length + 1) ∧ τ.g Fl.LAST_WAKE_SHUT = 3 ∧
      (mon = true → τ.raised 0x002 0) ∧ τ.md.hold = true ∧ τ.md.khs = false ∧ τ.ck.settled = false ∧ τ.ck.owed = σ.ck.owed ∧
      τ.otp = (σ.moveFt 0).otp ∧ τ.slots = σ.slots ∧ τ.ftn = 0 ∧ out τ
    let restarts (τ : Rod) : Prop := τ.ck.started = true ∧ τ.b Fl.CLK_STAT_XTAL_OK = false ∧ τ.b Fl.CLK_STAT_PLL_A_LOCK = false ∧
      τ.b Fl.CLK_STAT_PLL_B_LOCK = false ∧ τ.g Fl.CLK_CNT_RESTARTS = min 0xFFFF (σ.g Fl.CLK_CNT_RESTARTS + 1)
    let errs (p : Nat) : List Nat := [Rg.ERRCAP_0 p, Rg.ERRCAP_1 p, Rg.IRQ_RAW p]
    (σ.ck.started = true ∧ rc = true ∧ xtal = false →
      leaves (.settleDelayEnd r) fun τ => σ.only τ [] { σ with ck := { σ.ck with settled := true } }) ∧
    (¬(σ.ck.started = true ∧ rc = true ∧ xtal = false) → idle (.settleDelayEnd r)) ∧
    (σ.ck.settled = true ∧ rc = true ∧ xtal = false →
      leaves (.crystalProven r) fun τ => τ.b Fl.CLK_STAT_XTAL_OK = true ∧ σ.only τ [Rg.CLK_STAT] σ) ∧
    (¬(σ.ck.settled = true ∧ rc = true ∧ xtal = false) → idle (.crystalProven r)) ∧
    (xtal = false → idle (.pllLock r)) ∧
    (xtal = true → leaves (.pllLock r) fun τ => τ.b Fl.CLK_STAT_PLL_A_LOCK = true ∧ τ.b Fl.CLK_STAT_PLL_B_LOCK = true ∧
      τ.clkOn 0 = true ∧ out τ ∧ (σ.state = RS.off → τ.state = RS.boot ∧ τ.raised 0x001 4 ∧
        τ.aon.clkEvts = σ.aon.clkEvts.map fun e => { e with run := false }) ∧
      (σ.state ≠ RS.off → σ.only τ [Rg.CLK_STAT] σ)) ∧
    (∀ cause, (xtal = false → σ.ck.started = false ∨ rc = false → idle (.xtalFail r cause)) ∧
      (xtal = false → σ.ck.started = true → rc = true → leaves (.xtalFail r cause) fun τ =>
        τ.g Fl.CLK_CNT_RESTARTS = min 0xFFFF (σ.g Fl.CLK_CNT_RESTARTS + 1) ∧
        σ.only τ [Rg.CLK_CNT] { σ with ck := { σ.ck with settled := false } }) ∧
      (xtal = true → leaves (.xtalFail r cause) fun τ => die τ 0x0201 cause 0 true ∧ restarts τ ∧ τ.b Fl.CLK_MON_XTAL = true)) ∧
    (∀ cause domain, (σ.b Fl.CLK_STAT_PLL_A_LOCK = false → idle (.pllAFail r cause domain)) ∧
      (σ.b Fl.CLK_STAT_PLL_A_LOCK = true → leaves (.pllAFail r cause domain) fun τ =>
        die τ 0x0202 cause domain (cause == 2) ∧ restarts τ ∧ (cause = 2 → domain < 13 → τ.bitOf Fl.CLK_MON_DOMAIN domain = true)) ∧
      (σ.b Fl.CLK_STAT_PLL_B_LOCK = false → idle (.pllBFail r cause domain)) ∧
      (σ.b Fl.CLK_STAT_PLL_B_LOCK = true → leaves (.pllBFail r cause domain) fun τ => τ.b Fl.CLK_STAT_PLL_B_LOCK = false ∧
        (cause = 2 → domain < 13 → τ.raised 0x002 0 ∧ τ.bitOf Fl.CLK_MON_DOMAIN domain = true) ∧ τ.clkOn 3 = false ∧ out τ ∧
        τ.recorded 0x0203 sevWithdraw 0x002 ∧ τ.md.hold = true ∧ τ.md.khs = false ∧ τ.md.park = false ∧
        τ.state = (if RS.serving σ.state then RS.fenced else σ.state))) ∧
    (rc = false ∨ σ.ck.started = false → idle (.rcFail r)) ∧
    (rc = true → σ.ck.started = true → leaves (.rcFail r) fun τ =>
      die τ (if xtal then 0x0204 else 0x0205) (if xtal then 0 else σ.g Fl.CLK_XSD_CODE) 0 true ∧ τ.b Fl.CLK_STAT_RC_OK = false ∧
      τ.b Fl.CLK_MON_RC = true ∧ τ.g Fl.CLK_XSD_CODE = σ.g Fl.CLK_XSD_CODE ∧ τ.ck.started = true) ∧
    (rc = true → idle (.rcDetectorClear r)) ∧
    (rc = false → leaves (.rcDetectorClear r) fun τ => τ.b Fl.CLK_STAT_RC_OK = true ∧ τ.clkOn 9 = true ∧
      σ.only τ [Rg.CLK_STAT] { σ with ck := { σ.ck with settled := false } }) ∧
    (∀ cause, (σ.b Fl.CLK_SRC_PCI_LOCAL = true → idle (.refclkLost r cause)) ∧
      (σ.b Fl.CLK_SRC_PCI_LOCAL = false → leaves (.refclkLost r cause) fun τ => τ.b Fl.CLK_SRC_PCI_LOCAL = true ∧ switched τ ∧
        τ.raised 0x002 0 ∧ τ.b Fl.CLK_STAT_REF_OK = false ∧ τ.recorded 0x0210 sevWarn 0x002 ∧ τ.recorded 0x0501 sevWarn 0x021 ∧
        τ.b Fl.LINK_STAT_UP = false ∧ (∀ q, τ.qpOn q = false) ∧ τ.state = σ.state) ∧
      (σ.b Fl.CLK_SRC_TDM_LOCAL = true → idle (.tandemClockLost r cause)) ∧
      (σ.b Fl.CLK_SRC_TDM_LOCAL = false → leaves (.tandemClockLost r cause) fun τ => τ.b Fl.CLK_SRC_TDM_LOCAL = true ∧ switched τ ∧
        τ.raised 0x002 0 ∧ τ.recorded 0x0212 sevWarn 0x002 ∧ τ.bitOf Fl.TD_STAT_LANES σ.me.code = false ∧
        σ.only τ [Rg.CLK_MON, Rg.CLK_SRC, Rg.CLK_CNT, Rg.IRQ_RAW 0x002, Rg.TD_STAT, Rg.IRQ_RAW 0x0A1] σ)) ∧
    (∀ p : RodId,
      let ρ := σ.view s.rod
      let f := if linkNo ρ.me p = 0 then Fl.CLK_SRC_CRY_A_LOCAL else Fl.CLK_SRC_CRY_B_LOCAL
      (p = ρ.me ∨ ρ.b f = true → leaves (.carryClockLost r p) fun τ => τ.gw Rg.CLK_SRC = ρ.gw Rg.CLK_SRC) ∧
      (p ≠ ρ.me → ρ.b f = false → leaves (.carryClockLost r p) fun τ => τ.b f = true ∧
        τ.g Fl.CLK_CNT_SWITCHES = min 0xFFFF (ρ.g Fl.CLK_CNT_SWITCHES + 1) ∧ τ.raised 0x002 1 ∧ τ.raised 0x002 0 ∧
        τ.recorded 0x0211 sevWarn 0x002 ∧ τ.linkUp p = false)) ∧
    (∀ domain (p : RodId),
      let f := if domain = 6 then Fl.CLK_SRC_PCI_LOCAL else if domain = 8 then Fl.CLK_SRC_TDM_LOCAL
        else if linkNo σ.me p = 0 then Fl.CLK_SRC_CRY_A_LOCAL else Fl.CLK_SRC_CRY_B_LOCAL
      let may : Prop := (domain = 6 ∨ domain = 8 ∨ domain = 7 ∧ p ≠ σ.me) ∧ σ.b f = true
      (¬may → idle (.sourceBack r domain p)) ∧
      (may → leaves (.sourceBack r domain p) fun τ => τ.b f = false ∧ switched τ ∧ τ.recorded 0x0213 sevInfo 0x002 ∧
        (domain = 6 → τ.b Fl.CLK_STAT_REF_OK = true) ∧
        σ.only τ [Rg.CLK_SRC, Rg.CLK_CNT, Rg.CLK_STAT, Rg.IRQ_RAW 0x002] σ)) ∧
    (∀ (path : Path) (data : Word),
      (σ.accepts path Rg.CLK_MEAS_SEL →
        (0xC ≤ wBits data 0 4 → leaves (.clkMeasSel r path data) fun τ => τ.b (Fl.ERRCAP_0_VALID 0x002) = true ∧ σ.only τ (errs 0x002) σ) ∧
        (wBits data 0 4 < 0xC → leaves (.clkMeasSel r path data) fun τ => τ.g Fl.CLK_MEAS_SEL_DOMAIN = wBits data 0 4 ∧
          τ.b Fl.CLK_MEAS_VALID = false ∧ σ.only τ [Rg.CLK_MEAS_SEL, Rg.CLK_MEAS] { σ with ck := { σ.ck with meas := true } })) ∧
      (σ.accepts path Rg.CKO_CFG →
        let bad : Prop := 0xC ≤ wBits data 16 4 ∨ wBit data 31 = true ∧ 100000 * (wBits data 0 16 + 1) < domainKHz (wBits data 16 4)
        (bad → leaves (.ckoCfg r path data) fun τ => τ.b (Fl.ERRCAP_0_VALID 0x002) = true ∧ σ.only τ (errs 0x002) σ) ∧
        (¬bad → leaves (.ckoCfg r path data) fun τ => out τ ∧ τ.b Fl.CKO_CFG_EN = wBit data 31 ∧ τ.g Fl.CKO_CFG_SRC = wBits data 16 4 ∧
          τ.g Fl.CKO_CFG_DIV = wBits data 0 16 ∧ σ.only τ [Rg.CKO_CFG] σ))) ∧
    (∀ khz, (σ.ck.meas = false → idle (.measDone r khz)) ∧
      (σ.ck.meas = true → leaves (.measDone r khz) fun τ => τ.b Fl.CLK_MEAS_VALID = true ∧ τ.g Fl.CLK_MEAS_FREQ = khz % 2 ^ 24 ∧
        τ.raised 0x002 2 ∧ σ.only τ [Rg.CLK_MEAS, Rg.IRQ_RAW 0x002] { σ with ck := { σ.ck with meas := false } }))

/-- Domains come up and go down, failures and the core switch leave what Chapter 18 says, and a wake source starts the bring-up
(spec/18_power_states.md R589, spec/18_power_states.md R590, spec/18_power_states.md R594, spec/18_power_states.md R595,
spec/18_power_states.md R596, spec/18_power_states.md R598, spec/18_power_states.md R600, spec/18_power_states.md R604,
spec/18_power_states.md R605, spec/17_clocks.md R569). PWR_HOST sets the host's votes. DOMAIN_POWER_UP and DOMAIN_POWER_DOWN end
a bring-up or a power-down in progress. DOMAIN_FAIL of a voted domain is record 0x0302 with PWR_EVT, the link or lane down or
the safe outputs and the withdrawal. SUPPLY_FAIL holds the rod in OFF and keeps the event. CORE_SWITCH_OPEN in DORMANT is record
0x0311 and leaves AON alone. WAKE_EVENT, WAKE and RESET at the wake port start the bring-up, or are held, refused (0x0313) or
without effect; POWER_ON_RESET_RELEASE starts the crystal and writes LAST_WAKE with what woke and what stopped the rod.
VAON_LOSS clears AON. A byte for WK_CMD begins a transfer, in which the port's registers stand still until WAKE_PORT_STOP;
another byte than WAKE or RESET is not acknowledged and counted. Where the die is reset, FT returns to 0 and a lockout keeps the
time it has left (the model's choice, log entry 57). Under these conditions, of state and operands alone, exec of PWR_HOST,
DOMAIN_POWER_UP, DOMAIN_POWER_DOWN, CORE_SWITCH_OPEN, DOMAIN_FAIL, SUPPLY_FAIL, POWER_ON_RESET_RELEASE, WAKE_EVENT, WAKE, RESET,
VAON_LOSS, WAKE_PORT_STOP and DISCARDED_COMMAND_BYTE each answer a next state. -/
def Obligations.PowerAndWakeAct : Prop :=
  ∀ (s : State) (r : RodId),
    let σ := s.rod r
    let leaves (i : Instr) (P : Rod → Prop) : Prop := completes i s fun t => P (t.rod r)
    let idle (i : Instr) : Prop := leaves i fun τ => σ.only τ [] σ
    let woken (τ : Rod) (src : Nat) : Prop := τ.aon.coreOff = false ∧ τ.aon.heldSrc = none ∧ τ.aon.nextSrc = some src ∧
      τ.aon.pewake = true ∧ τ.gw Rg.LAST_WAKE = σ.gw Rg.LAST_WAKE
    let stat := σ.state % 16 + (if σ.aon.coreOff then 0x80 else 0)
    let byte : Aon := { σ.aon with pointer := 2, xfer := true, wkStat := if σ.aon.xfer then σ.aon.wkStat else stat
                                   wkLast := if σ.aon.xfer then σ.aon.wkLast else σ.gw Rg.LAST_WAKE }
    let toDormant : Prop := σ.state ≠ RS.off ∧ σ.mode = SM.dormant ∧ σ.md.modeFt ≠ 0
    (∀ (path : Path) (data : Word), σ.accepts path Rg.PWR_HOST → leaves (.pwrHost r path data) fun τ =>
      τ.g Fl.PWR_HOST_VOTE = wBits data 0 6 ∧ τ.g Fl.PWR_VOTES_HOST = wBits data 0 6 ∧ τ.state = σ.state ∧ τ.mode = σ.mode) ∧
    (∀ d : Fin 6,
      (σ.bitOf Fl.PWR_STAT_UP d = false → idle (.domainPowerUp r d)) ∧
      (σ.bitOf Fl.PWR_STAT_UP d = true → leaves (.domainPowerUp r d) fun τ => τ.bitOf Fl.PWR_STAT_UP d = false ∧
        τ.raised 0x003 0 ∧ (σ.voted d = true → τ.bitOf Fl.PWR_STAT_PWR_OK d = true) ∧ τ.state = σ.state) ∧
      (σ.bitOf Fl.PWR_STAT_DOWN d = false → idle (.domainPowerDown r d)) ∧
      (σ.bitOf Fl.PWR_STAT_DOWN d = true → σ.bitOf Fl.PWR_STAT_PWR_OK d = false → leaves (.domainPowerDown r d) fun τ =>
        τ.bitOf Fl.PWR_STAT_DOWN d = false ∧ τ.bitOf Fl.PWR_STAT_PWR_OK d = false ∧ τ.state = σ.state) ∧
      (σ.bitOf Fl.PWR_STAT_PWR_OK d = false ∨ σ.voted d = false → idle (.domainFail r d)) ∧
      (σ.bitOf Fl.PWR_STAT_PWR_OK d = true → σ.voted d = true → leaves (.domainFail r d) fun τ =>
        τ.bitOf Fl.PWR_STAT_PWR_OK d = false ∧ τ.raised 0x003 0 ∧ τ.raised 0x003 1 ∧ τ.recorded 0x0302 sevWithdraw 0x003 ∧
        τ.b Fl.PWR_EVT_VALID = true ∧ τ.b Fl.PWR_EVT_DOMAIN = true ∧ τ.g Fl.PWR_EVT_DOM_MASK = 2 ^ d.val ∧ τ.g Fl.PWR_EVT_RAIL = 0 ∧
        (d = 0 → τ.b Fl.LINK_STAT_UP = false ∧ τ.recorded 0x0501 sevWarn 0x021 ∧ τ.state = σ.state) ∧
        (d = 5 → τ.bitOf Fl.TD_STAT_LANES σ.me.code = false ∧ τ.state = σ.state) ∧
        (d ≠ 0 → d ≠ 5 → τ.md.hold = true ∧ τ.md.khs = false ∧
          τ.state = (if RS.serving σ.state then RS.fenced else σ.state)))) ∧
    (∀ rail, (σ.aon.coreOff = true → idle (.supplyFail r rail)) ∧
      (σ.aon.coreOff = false → leaves (.supplyFail r rail) fun τ => τ.state = RS.off ∧
        τ.b Fl.PWR_EVT_VALID = true ∧ τ.b Fl.PWR_EVT_DOMAIN = false ∧ τ.g Fl.PWR_EVT_RAIL = rail % 8 ∧ τ.md.hold = true ∧
        τ.md.khs = false ∧ τ.otp = (σ.moveFt 0).otp ∧ τ.slots = σ.slots ∧ τ.ftn = 0 ∧
        τ.aon = { σ.aon with nextShut := some 2
                             supEvt := some { code := 0x0301, b0 := rail % 8, b1 := 0, steps := 0, run := true } } ∧
        τ.die = if rail = 4 then Die.init else (σ.moveFt 0).die)) ∧
    (let may : Prop := toDormant ∧ σ.g Fl.PWR_STAT_PWR_OK = 0 ∧ σ.g Fl.PWR_STAT_DOWN = 0 ∧ σ.g Fl.PWR_STAT_UP = 0;
      (¬may → idle (.coreSwitchOpen r)) ∧
      (may → leaves (.coreSwitchOpen r) fun τ => τ.state = RS.off ∧ τ.recorded 0x0311 sevInfo 0x003 ∧ τ.aon.nextShut = some 1 ∧
        τ.otp = (σ.moveFt 0).otp ∧
        (σ.aon.heldSrc = none → τ.aon = { σ.aon with coreOff := true, nextShut := some 1, pewake := false }) ∧
        (∀ k, σ.aon.heldSrc = some k → woken τ k))) ∧
    (∀ xsd : BitVec 2,
      let may : Prop := σ.state = RS.off ∧ σ.aon.coreOff = false ∧ σ.ck.started = false
      (¬may → idle (.powerOnResetRelease r xsd)) ∧
      (may → leaves (.powerOnResetRelease r xsd) fun τ => τ.ck.started = true ∧ τ.ck.settled = false ∧ τ.g Fl.CLK_XSD_CODE = xsd.toNat ∧
        (σ.b Fl.PWR_EVT_VALID = true → σ.b Fl.PWR_EVT_DOMAIN = false → τ.raised 0x003 2) ∧
        (∀ k, σ.aon.nextSrc = some k → τ.g Fl.LAST_WAKE_SRC = k % 16 ∧
          τ.g Fl.LAST_WAKE_WAKES = min 0xFFFF (σ.g Fl.LAST_WAKE_WAKES + 1)) ∧
        (σ.aon.nextSrc = none → τ.g Fl.LAST_WAKE_SRC = σ.g Fl.LAST_WAKE_SRC ∧ τ.g Fl.LAST_WAKE_WAKES = σ.g Fl.LAST_WAKE_WAKES) ∧
        (∀ k, σ.aon.nextShut = some k → τ.g Fl.LAST_WAKE_SHUT = k % 16) ∧
        (σ.aon.nextShut = none → τ.g Fl.LAST_WAKE_SHUT = σ.g Fl.LAST_WAKE_SHUT) ∧
        τ.aon = { σ.aon with nextSrc := none, nextShut := none, supEvt := σ.aon.supEvt.map fun e => { e with run := false } } ∧
        σ.only τ [Rg.CLK_XSD, Rg.IRQ_RAW 0x003, Rg.CLK_STAT, Rg.LAST_WAKE] { σ with ck := τ.ck, aon := τ.aon })) ∧
    (∀ src : BitVec 10,
      (σ.wakeSource src.toNat = none → idle (.wakeEvent r src)) ∧
      (∀ k, σ.wakeSource src.toNat = some k →
        (σ.aon.coreOff = true → leaves (.wakeEvent r src) fun τ => woken τ k ∧ σ.only τ [] { σ with aon := τ.aon }) ∧
        (σ.aon.coreOff = false → toDormant → leaves (.wakeEvent r src) fun τ =>
          σ.only τ [] { σ with aon := { σ.aon with heldSrc := some (σ.aon.heldSrc.getD k), pewake := true } }) ∧
        (σ.aon.coreOff = false → ¬toDormant → idle (.wakeEvent r src)))) ∧
    leaves (.wake r) (fun τ => Out.wakeAck true ∈ τ.out ∧
      τ.aon.pointer = 2 ∧ τ.aon.xfer = true ∧ τ.aon.wkStat = byte.wkStat ∧ τ.aon.wkLast = byte.wkLast ∧
      (σ.aon.coreOff = true → (σ.g Fl.PWR_CFG_WAKE_EN).testBit 0 = true → woken τ 2) ∧
      ((σ.aon.coreOff = false ∧ ¬toDormant) ∨ (σ.g Fl.PWR_CFG_WAKE_EN).testBit 0 = false → σ.only τ [] { σ with aon := byte })) ∧
    (let may : Prop := σ.state = RS.off ∨ σ.state = RS.boot ∨ σ.state = RS.fenced ∨ σ.mode = SM.standby ∨ σ.mode = SM.dormant;
      (may → leaves (.reset r) fun τ => Out.wakeAck true ∈ τ.out ∧ woken τ 9 ∧ τ.aon.nextShut = some 4 ∧ τ.aon.xfer = true ∧ τ.state = RS.off ∧
        τ.otp = (σ.moveFt 0).otp ∧ τ.slots = σ.slots) ∧
      (¬may → leaves (.reset r) fun τ => Out.wakeAck true ∈ τ.out ∧ τ.recorded 0x0313 sevWarn 0x003 ∧
        σ.only τ [] { σ with aon := { byte with wkErr := min 0xFF (σ.aon.wkErr + 1) } })) ∧
    leaves (.vaonLoss r) (fun τ => τ.aon = Aon.init ∧ τ.state = RS.off ∧ τ.gw Rg.PWR_EVT = 0#32 ∧
      τ.gw Rg.LAST_WAKE = regReset Rg.LAST_WAKE ∧ τ.gw Rg.PWR_CFG = regReset Rg.PWR_CFG ∧ τ.otp = (σ.moveFt 0).otp ∧
      τ.slots = σ.slots) ∧
    leaves (.wakePortStop r) (fun τ => σ.only τ [] { σ with
      aon := { σ.aon with xfer := false, wkStat := stat, wkLast := σ.gw Rg.LAST_WAKE } }) ∧
    (∀ b : Byte, (b = 0xA1#8 ∨ b = 0xA2#8 → idle (.discardedCommandByte r b)) ∧
      (b ≠ 0xA1#8 → b ≠ 0xA2#8 → leaves (.discardedCommandByte r b) fun τ => Out.wakeAck false ∈ τ.out ∧
        σ.only τ [] { σ with aon := { byte with wkErr := min 0xFF (σ.aon.wkErr + 1) } }))

/-- The debug instructions shift their register out and change nothing, EXTEST drives balls only at L2 in STANDBY, and a rod in
OFF stays silent (spec/20_balls_and_electrical.md R660). BYPASS shifts out its one bit and IDCODE the 32-bit device code;
SAMPLE/PRELOAD shifts out the boundary register, a free value; EXTEST does so at access level L2 in STANDBY and otherwise acts
as BYPASS. No instruction changes any register or state of the rod but the count of free values drawn. That the bypass register
loads 0 and that a rod in OFF is silent are the model's choice. Under these conditions, of state and operands alone, exec of
BYPASS, IDCODE, SAMPLE_PRELOAD and EXTEST each answer a next state. -/
def Obligations.DebugPortAnswers : Prop :=
  ∀ (s : State) (r : RodId),
    let σ := s.rod r
    let leaves (i : Instr) (P : Rod → Prop) : Prop := completes i s fun t => P (t.rod r)
    let scan : Rod → Prop := fun τ => (∃ v, Out.tdo Config.scanBits v ∈ τ.out) ∧ σ.only τ [] { σ with fresh := σ.fresh + 1 }
    let byp : Rod → Prop := fun τ => Out.tdo 1 0 ∈ τ.out ∧ σ.only τ [] σ
    (σ.state = RS.off → ∀ i ∈ [Instr.bypass r, .idcode r, .samplePreload r, .extest r], leaves i fun τ => σ.only τ [] σ) ∧
    (σ.state ≠ RS.off →
      leaves (.bypass r) byp ∧
      leaves (.idcode r) (fun τ => Out.tdo 32 (Config.idcode σ.me).toNat ∈ τ.out ∧ σ.only τ [] σ) ∧
      leaves (.samplePreload r) scan ∧
      (σ.g Fl.SEC_STAT_LEVEL = 2 → σ.mode = SM.standby → leaves (.extest r) scan) ∧
      (σ.g Fl.SEC_STAT_LEVEL ≠ 2 ∨ σ.mode ≠ SM.standby → leaves (.extest r) byp))

/-- The link comes up and goes down with what R187 resets, doorbells move the rings or are captured, and the fabric grants,
starves and times out (spec/06_host_port.md R187, spec/06_host_port.md R189, spec/06_host_port.md R191, spec/06_host_port.md
R193, spec/06_host_port.md R216, spec/06_host_port.md R218, spec/06_host_port.md R219, spec/06_host_port.md R223,
spec/06_host_port.md R227, spec/07_timing_contracts.md R244). PERST_N_ASSERT, LINK_LOSS, HOT_RESET and FLR are record 0x0501:
the queue pages read their reset values, no queue runs, its ranks are free, and what is of the SYS domain stays: the arbiter's
last grants, forwarded commands and the requests for ranks that no queue made; UP reads 0, but for FLR, through which the link
stays up. LINK_UP shows the speed (0x0502, 0x0503 below Gen3). D3HOT_ENTRY and D0_RETURN change that state alone. A doorbell in
range sets its index, any other is SQ_ERR and captured with TYPE 6. QP_CLASS sets URGENT; losing it breaks the K1 to K3
contracts the queue sources. FABRIC_GRANT grants the urgent before the normal, each in turn after the last, for at most 16 beats
and at most BURST for a DMA channel; bulk forwarded data asks as normal. STARVATION is 0x0520 once, LOCK_TIMEOUT frees a rank
held for LOCK_TMO (0x0522), RELAYED_RECORD logs a partner's record. Under these conditions, of state and operands alone, exec of
PERST_N_ASSERT, LINK_LOSS, HOT_RESET, FLR, LINK_UP, D3HOT_ENTRY, D0_RETURN, SQ_TAIL_DOORBELL, CQ_HEAD_DOORBELL, FABRIC_GRANT,
STARVATION, QP_CLASS, LOCK_TIMEOUT and RELAYED_RECORD each answer a next state. -/
def Obligations.EndpointAndFabricAct : Prop :=
  ∀ (s : State) (r : RodId),
    let σ := s.rod r
    let leaves (i : Instr) (P : Rod → Prop) : Prop := completes i s fun t => P (t.rod r)
    let idle (i : Instr) : Prop := leaves i fun τ => σ.only τ [] σ
    (∀ i ∈ [Instr.perstNAssert r, .linkLoss r, .hotReset r, .flr r], leaves i fun τ =>
      τ.b Fl.LINK_STAT_UP = (decide (i = .flr r) && σ.b Fl.LINK_STAT_UP) ∧ (∀ q, τ.qpOn q = false) ∧ τ.recorded 0x0501 sevWarn 0x021 ∧
      τ.hp.qs = [] ∧ τ.hp.chans = [] ∧ τ.hp.d3 = false ∧ τ.hp.cfg = [] ∧ τ.hp.bar2 = [] ∧ τ.pba = 0#64 ∧ τ.hp.fwd = σ.hp.fwd ∧
      τ.hp.sup = σ.hp.sup ∧ τ.hp.ranks = σ.hp.ranks.filter (fun e => decide (16 ≤ e.2)) ∧
      τ.hp.lastU = σ.hp.lastU ∧ τ.hp.lastN = σ.hp.lastN ∧
      (∀ k : Fin 4, τ.holder (k.val + 1) = if σ.holder (k.val + 1) < 16 then 0xFF else σ.holder (k.val + 1)) ∧
      ∀ a, a ≠ Rg.FL_SEQ → a ≠ Rg.IRQ_RAW 0x0D0 →
        (0x10000 ≤ a → a < 0x20000 → τ.gw a = regReset a) ∧
        (a < 0x10000 ∨ 0x20000 ≤ a → a ∉ [Rg.LINK_STAT, Rg.RES_HOLD, Rg.DMA_STAT 0, Rg.DMA_STAT 1, Rg.DMA_STAT 2, Rg.DMA_STAT 3] →
          τ.gw a = σ.gw a)) ∧
    (∀ speed : Fin 4,
      (speed = 0 ∨ σ.b Fl.LINK_STAT_UP = true → idle (.linkUp r speed)) ∧
      (speed ≠ 0 → σ.b Fl.LINK_STAT_UP = false → leaves (.linkUp r speed) fun τ => τ.b Fl.LINK_STAT_UP = true ∧
        τ.g Fl.LINK_STAT_SPEED = speed.val ∧ τ.g Fl.LINK_STAT_UP_CNT = min 0xFFFF (σ.g Fl.LINK_STAT_UP_CNT + 1) ∧ τ.raised 0x021 3 ∧
        τ.recorded 0x0502 sevInfo 0x021 ∧ (speed.val < 3 → τ.recorded 0x0503 sevWarn 0x021) ∧
        (σ.b Fl.CLK_SRC_PCI_LOCAL = false → τ.b Fl.CLK_STAT_REF_OK = true) ∧
        σ.only τ [Rg.LINK_STAT, Rg.IRQ_RAW 0x021, Rg.CLK_STAT, Rg.IRQ_RAW 0x002] { σ with aon := { σ.aon with pewake := false } })) ∧
    leaves (.d3hotEntry r) (fun τ => σ.only τ [] { σ with hp := { σ.hp with d3 := true } }) ∧
    leaves (.d0Return r) (fun τ => σ.only τ [] { σ with hp := { σ.hp with d3 := false } }) ∧
    (∀ (path : Path) (q : Fin 16) (data : Word),
      let v := wBits data 0 12
      let n := σ.g (Fl.QP_SIZE_CQ_LEN q)
      let from_ (x : Nat) : Nat := (x + n - σ.g (Fl.CQ_HEAD_HEAD q)) % n
      let page := 0x010 + q.val
      let bad (i : Instr) : Prop := leaves i fun τ => τ.b (Fl.QP_STAT_SQ_ERR q) = true ∧ τ.raised page 2 ∧
        τ.b (Fl.ERRCAP_0_VALID page) = true ∧ (σ.b (Fl.ERRCAP_0_VALID page) = false → τ.g (Fl.ERRCAP_0_TYPE page) = 6) ∧
        σ.only τ [Rg.QP_STAT q, Rg.ERRCAP_0 page, Rg.ERRCAP_1 page, Rg.IRQ_RAW page] σ
      (σ.accepts path (Rg.SQ_TAIL q) →
        (σ.qpOn q = true ∧ v < σ.g (Fl.QP_SIZE_SQ_LEN q) → leaves (.sqTailDoorbell r path q data) fun τ =>
          τ.g (Fl.SQ_TAIL_TAIL q) = v ∧ σ.only τ [Rg.SQ_TAIL q] σ) ∧
        (σ.qpOn q = false ∨ σ.g (Fl.QP_SIZE_SQ_LEN q) ≤ v → bad (.sqTailDoorbell r path q data))) ∧
      (σ.accepts path (Rg.CQ_HEAD q) →
        (σ.qpOn q = true ∧ v < n ∧ from_ v ≤ from_ (σ.g (Fl.CQ_TAIL_TAIL q)) → leaves (.cqHeadDoorbell r path q data) fun τ =>
          τ.g (Fl.CQ_HEAD_HEAD q) = v ∧ σ.only τ [Rg.CQ_HEAD q] σ) ∧
        (σ.qpOn q = false ∨ n ≤ v ∨ from_ (σ.g (Fl.CQ_TAIL_TAIL q)) < from_ v → bad (.cqHeadDoorbell r path q data))) ∧
      (σ.accepts path (Rg.QP_CLASS q) →
        (σ.b (Fl.QP_CLASS_URGENT q) = false ∨ wBit data 0 = true → leaves (.qpClass r path q data) fun τ =>
          τ.b (Fl.QP_CLASS_URGENT q) = wBit data 0 ∧ σ.only τ [Rg.QP_CLASS q] σ) ∧
        (σ.b (Fl.QP_CLASS_URGENT q) = true → wBit data 0 = false → leaves (.qpClass r path q data) fun τ =>
          τ.b (Fl.QP_CLASS_URGENT q) = false ∧
          ∀ i e, σ.entry i = some e → e.state = leActive ∨ e.state = leNotice → e.args.cls ≠ 0 →
            epType (e.args.src.get σ.me.idx) = 2 → epQueue (e.args.src.get σ.me.idx) = q.val →
            (τ.recorded 0x0711 sevDegrade 0x050 ∧ ∃ e', τ.entry i = some e' ∧ e'.state = leBroken ∧ e'.reason = 7 ∧ e'.args = e.args)))) ∧
    (∀ (req bulk : BitVec 28) (beats : Fin 17),
      let urgent (i : Nat) : Bool := if σ.hp.pend.testBit i then σ.hp.urgent.testBit i else
        if i < 16 then σ.b (Fl.QP_CLASS_URGENT i) else decide (20 ≤ i ∧ i ≤ 23) && !bulk.getLsbD i
      let most (i : Nat) : Nat := if 16 ≤ i ∧ i < 20 then σ.g (Fl.DMA_CTRL_BURST (i - 16)) else 16
      let turn (last i : Nat) : Nat := (i + 27 - last % 28) % 28
      leaves (.fabricGrant r ⟨req, bulk, beats⟩) fun τ => (σ.chan 2 = [] → σ.chan 3 = [] → σ.only τ [] { σ with hp := τ.hp }) ∧
        (req = 0#28 → τ.hp.grant = none) ∧
        (req ≠ 0#28 → ∃ i, i < 28 ∧ req.getLsbD i = true ∧ τ.hp.grant = some (i, min (max 1 beats.val) (most i)) ∧ τ.hp.pend = req.toNat - 2 ^ i ∧
          (urgent i = true → τ.hp.lastU = i ∧ τ.hp.lastN = σ.hp.lastN) ∧ (urgent i = false → τ.hp.lastN = i ∧ τ.hp.lastU = σ.hp.lastU) ∧
          ∀ j, j < 28 → req.getLsbD j = true →
            (urgent j = true → urgent i = true ∧ turn σ.hp.lastU i ≤ turn σ.hp.lastU j) ∧
            (urgent j = false → urgent i = false → turn σ.hp.lastN i ≤ turn σ.hp.lastN j))) ∧
    (∀ i : Fin 28,
      (σ.bitOf Fl.STARVE_REQ i = true → idle (.starvation r i)) ∧
      (σ.bitOf Fl.STARVE_REQ i = false → leaves (.starvation r i) fun τ => τ.bitOf Fl.STARVE_REQ i = true ∧ τ.raised 0x021 0 ∧
        τ.recorded 0x0520 sevWarn 0x021 ∧ σ.only τ [Rg.STARVE, Rg.IRQ_RAW 0x021] σ)) ∧
    (∀ k : Fin 4,
      let h := σ.holder (k.val + 1)
      let due := σ.passed (Sparse.get 0 σ.hp.since (k.val + 1)) (σ.g Fl.RES_CFG_LOCK_TMO * 1000000)
      (h = 0xFF ∨ due = false → idle (.lockTimeout r k)) ∧
      (h ≠ 0xFF → due = true → leaves (.lockTimeout r k) fun τ => τ.holder (k.val + 1) = 0xFF ∧ τ.raised 0x021 1 ∧ τ.recorded 0x0522 sevWarn 0x021 ∧
        (h < 16 → (τ.g (Fl.QP_LOCKS_HELD h)).testBit k.val = false) ∧
        (16 ≤ h → σ.only τ [Rg.RES_HOLD, Rg.IRQ_RAW 0x021] σ))) ∧
    (∀ rec : FaultRec, σ.recBuf = [] →
      let may : Prop := rec.rod.toNat < 3 ∧ rec.rod.toNat ≠ σ.me.code ∧ σ.bitOf Fl.FWD_CFG_RELAY rec.rod.toNat = true
      (may → leaves (.relayedRecord r rec) fun τ => τ.g Fl.FL_SEQ_SEQ = (σ.g Fl.FL_SEQ_SEQ + 1) % 2 ^ 32 ∧
        (τ.log.find? fun e => e.1 == σ.g Fl.FL_SEQ_SEQ % 1024) = some (σ.g Fl.FL_SEQ_SEQ % 1024, rec) ∧ σ.only τ [] σ) ∧
      (¬may → leaves (.relayedRecord r rec) fun τ => σ.noRecord τ ∧ σ.only τ [] σ))

/-- A command alone in its queue, with its ranks and channels free, completes with the status, result, data and effect of Table
6.5 (spec/06_host_port.md R197, spec/06_host_port.md R198, spec/06_host_port.md R201, spec/06_host_port.md R204,
spec/06_host_port.md R222, spec/06_host_port.md Table 6.5, spec/19_security.md R615, spec/19_security.md R626,
spec/19_security.md R628). NOP completes with the FT. REG_WRITE of FAULT_IRQ writes it. REG_READ of a page register without side
effect and MEM_READ of a window word write it to ADDR, and DMA_BYTES counts. FAULT_EXPORT of one entry writes the oldest record.
LOCK_ACQ takes its ranks and LOCK_REL releases those held; both answer what QP_LOCKS then holds. REPORT_RING sets the ring.
IMAGE_VERIFY answers 0 with STAGED_OK, or the code of the failed step. ATTEST answers its index, and REFUSED where none is left.
The completion is written at CQ_TAIL with the phase, CQ_TAIL moves on, and nothing else changes. Under these conditions, of
state and operands alone, exec of NOP, REG_WRITE, REG_READ, MEM_READ, IMAGE_VERIFY, FAULT_EXPORT, ATTEST, LOCK_ACQ, LOCK_REL and
REPORT_RING each answer a next state. -/
def Obligations.QueueCommandsComplete : Prop :=
  ∀ (s : State) (r : RodId) (q : Fin 16) (cid : BitVec 16) (c : Cmd),
    let σ := s.rod r
    let d := c.desc
    let opc := d.opc.toNat
    let addr := d.addr.toNat
    let wr := 2 + σ.g (Fl.QP_CTRL_WR_CH q)
    let ends (i : Instr) (result : Nat) (ex : List Nat) (Q : Rod → Rod) (P : Rod → Prop) : Prop := completes i s fun t =>
      σ.posts (t.rod r) q cid 0 result d.irq ∧ σ.only (t.rod r) (endRegs q ++ ex) { Q (t.rod r) with hp := (t.rod r).hp } ∧ P (t.rod r)
    let same : Rod → Rod := fun _ => σ
    let counts (τ : Rod) (n : Nat) : Prop := τ.g (Fl.DMA_BYTES_BYTES wr) = min 0xFFFFFFFF (σ.g (Fl.DMA_BYTES_BYTES wr) + n)
    σ.waitsAlone q cid c → d.atFt = false →
      (opc = 0x00 → ends (.nop r q cid) σ.ft [] same fun _ => True) ∧
      (∀ (path : Path) (v : Word), opc = 0x02 → regPairs d = [(Rg.FAULT_IRQ, v)] → σ.hp.d3 = false → path.code = σ.me.code + 1 →
        σ.accepts path Rg.FAULT_IRQ → ends (.regWrite r q cid) 0 [Rg.FAULT_IRQ] same fun τ =>
          τ.gw Rg.FAULT_IRQ = (σ.gw Rg.FAULT_IRQ &&& ~~~0x1F1F#32) ||| (v &&& 0x1F1F#32)) ∧
      (∀ a, opc = 0x03 → d.len = 4#32 → d.devOff.toNat = a → 0x22000 ≤ a → a < 0x100000 → addr % 4 = 0 →
        sysServed (a % 0x1000) = true ∨ σ.pageOn (a / 0x1000) = true → σ.hiCap.find? (fun e => e.1 == a) = none →
        ((regRow a).map (·.rc)).getD 0#32 = 0#32 →
        ends (.regRead r q cid) 0 [Rg.DMA_BYTES wr] (fun τ => { σ with hiCap := τ.hiCap }) fun τ =>
          Out.hostWrite addr (leBytes 4 (σ.regView a).toNat) ∈ τ.out ∧ counts τ 4) ∧
      (∀ a, opc = 0x05 → d.len = 4#32 → d.devOff.toNat = a → addr % 4 = 0 → winAt a ≠ .none → σ.winOn (winAt a) = true →
        ends (.memRead r q cid) 4 [Rg.DMA_BYTES wr] same fun τ =>
          Out.hostWrite addr (leBytes 4 (σ.winWord a).toNat) ∈ τ.out ∧ counts τ 4) ∧
      (opc = 0x09 → d.len = 32#32 → addr % 32 = 0 → σ.unranked q →
        let l := σ.logRecords (argAt d 0x20 1 == 1)
        (l = [] → ends (.faultExport r q cid) 0 [] same fun _ => True) ∧
        (∀ e, l.head? = some e → ends (.faultExport r q cid) 1 [Rg.DMA_BYTES wr] same fun τ =>
          Out.hostWrite addr (recBytes e) ∈ τ.out ∧ counts τ 32)) ∧
      (opc = 0x0D → σ.unranked q → let m := argAt d 0x20 1
        ends (.lockAcq r q cid) m [Rg.QP_LOCKS q] same fun τ => τ.g (Fl.QP_LOCKS_HELD q) = m ∧
          ∀ k : Fin 4, τ.holder (k.val + 1) = if m.testBit k.val then q.val else 0xFF) ∧
      (opc = 0x0E → let was := σ.g (Fl.QP_LOCKS_HELD q)
        let gone := was &&& argAt d 0x20 1
        ends (.lockRel r q cid) (was - gone) [Rg.QP_LOCKS q] same fun τ => τ.g (Fl.QP_LOCKS_HELD q) = was - gone ∧
          ∀ k : Fin 4, τ.holder (k.val + 1) =
            if gone.testBit k.val = true ∧ σ.holder (k.val + 1) = q.val then 0xFF else σ.holder (k.val + 1)) ∧
      (opc = 0x0F → let n := d.len.toNat / 64
        ends (.reportRing r q cid) n [] same fun τ => (τ.qp q).ring = if n = 0 then none else some (addr, n, 0)) ∧
      (∀ v : Verdict, opc = 0x07 → σ.unranked q →
        let t := σ.g Fl.SEC_STAT_STAGED_TYPE
        let upd (ok : Bool) (τ : Rod) : Prop := τ.b Fl.SEC_STAT_STAGED_OK = ok ∧ τ.raised 0x004 5
        let regs : List Nat := [Rg.SEC_STAT, Rg.IRQ_RAW 0x004]
        (σ.sec.staged = [] → ends (.imageVerify r q cid v) 0x0405 regs same fun τ => upd false τ ∧ τ.recorded 0x0405 sevWarn 0x004) ∧
        (σ.sec.staged ≠ [] → σ.verifyImage t σ.sec.staged v = none → ends (.imageVerify r q cid v) 0 regs same (upd true)) ∧
        (∀ e, σ.sec.staged ≠ [] → σ.verifyImage t σ.sec.staged v = some e → ends (.imageVerify r q cid v) e.1 regs same fun τ =>
          upd false τ ∧ τ.recorded e.1 sevWarn e.2.1)) ∧
      (opc = 0x0C → σ.unranked q →
        (σ.otp.hss < 1048576 → ends (.attest r q cid) σ.otp.hss [Rg.DMA_BYTES wr, Rg.IRQ_RAW 0x004]
          (fun _ => { σ with otp := { σ.otp with hss := σ.otp.hss + 1 } })
          fun τ => σ.otp.hss + 1 = 943719 → τ.raised 0x004 4 ∧ τ.recorded 0x0430 sevWarn 0x004) ∧
        (1048576 ≤ σ.otp.hss → completes (.attest r q cid) s fun t => σ.posts (t.rod r) q cid 9 0x0431 d.irq ∧
          (σ.otp.empty = false → (t.rod r).recorded 0x0431 sevDegrade 0x004) ∧
          σ.only (t.rod r) (endRegs q) { σ with otp := { σ.otp with empty := true }, hp := (t.rod r).hp }))

/-- Descriptors are fetched, transfers ask the host and end with their data or their error, and forwarded commands go, run,
answer or time out (spec/06_host_port.md R194, spec/06_host_port.md R199, spec/06_host_port.md R202, spec/06_host_port.md R205,
spec/06_host_port.md R206, spec/06_host_port.md R210, spec/06_host_port.md R211, spec/06_host_port.md R214, spec/06_host_port.md
R222, spec/10_axis_control.md R360, spec/14_rod_redundancy.md R471, spec/19_security.md R635). DESCRIPTOR_FETCH takes a good
descriptor, its 64 bytes read as little-endian fields, into its queue and advances SQ_HEAD. COMPLETION_POST writes the oldest
held completion once there is room. AT_FT_COMMAND runs a NOP whose FT has come. SETPOINT sends its copy to the partners and
waits as a launch; a copy of no K1 to K3 contract for which the tick has no capacity left waits for the next tick (how that is
counted is the model's choice, log entry 71). MEM_WRITE and IMAGE_STAGE ask the host for their data, or end where LEN is 0;
DMA_READ_COMPLETION writes the last data and completes, keeps data that comes ahead of its turn, an error or the timeout is
record 0x0510 with DMA_ERR and status 7. CAPTURE begins, and a grant to its channel moves its staging buffer to the host. A
forwarded NOP runs and its result goes back; FORWARD_RESULT completes the command it answers, FORWARD_TIMEOUT from FWD_TMO on
with status 0x0B (0x0530). RANK_GRANT gives a free rank to the first request. Under these conditions, of state and operands
alone, exec of DESCRIPTOR_FETCH, AT_FT_COMMAND, COMPLETION_POST, SETPOINT, MEM_WRITE, IMAGE_STAGE, CAPTURE, DMA_READ_COMPLETION,
DMA_COMPLETION_TIMEOUT, FORWARD_MESSAGE, FORWARD_RESULT, FORWARD_TIMEOUT, FABRIC_GRANT and RANK_GRANT each answer a next state.
-/
def Obligations.TransfersAndForwardingAct : Prop :=
  ∀ (s : State) (r : RodId) (q : Fin 16) (cid : BitVec 16) (c : Cmd),
    let σ := s.rod r
    let d := c.desc
    let opc := d.opc.toNat
    let addr := d.addr.toNat
    let leaves (i : Instr) (P : Rod → Prop) : Prop := completes i s fun t => P (t.rod r)
    let idle (i : Instr) : Prop := leaves i fun τ => σ.only τ [] σ
    let held (τ : Rod) (c' : Cmd) : Prop := (τ.qp q).cmds = [c']
    let rd := σ.g (Fl.QP_CTRL_RD_CH q)
    let n0 := min (min σ.maxRead (4096 - addr % 4096)) d.len.toNat
    let only := σ.qpOn q = true ∧ (σ.qp q).cmds = [c] ∧ (σ.qp q).held = [] ∧ 16 < σ.cqFree q ∧
      σ.addr64 (Fl.CQ_BASE_LO_ADDR q) (Fl.CQ_BASE_HI_ADDR q) % 16 = 0 ∧ c.desc.cid = cid ∧ c.due = true
    (∀ bs : List Byte,
      let e := descOf bs
      let n := max 1 (σ.g (Fl.QP_SIZE_SQ_LEN q))
      let may : Prop := σ.qpOn q = true ∧ σ.hp.d3 = false
      (¬may → idle (.descriptorFetch r q bs)) ∧ idle (.descriptorFetch r q []) ∧
      (may → bs.length = 64 → (σ.g (Fl.SQ_TAIL_TAIL q) + n - σ.g (Fl.SQ_HEAD_HEAD q)) % n ≠ 0 → σ.descStatus e = 0 → e.atFt = false ∨ σ.ft ≤ e.ft.toNat →
        leaves (.descriptorFetch r q bs) fun τ =>
          τ.g (Fl.SQ_HEAD_HEAD q) = (σ.g (Fl.SQ_HEAD_HEAD q) + 1) % n % 4096 ∧
          (∃ k, (τ.qp q).cmds = (σ.qp q).cmds ++ [k] ∧ k.desc = e ∧ k.run = false ∧ k.due = false ∧ k.ranks = 0) ∧
          e.opc.toNat = leAt bs 0 1 ∧ e.cid.toNat = leAt bs 4 2 ∧ e.ft.toNat = leAt bs 8 8 ∧ e.addr.toNat = leAt bs 0x10 8 ∧
          e.len.toNat = leAt bs 0x18 4 ∧ e.devOff.toNat = leAt bs 0x1C 4 ∧ e.arg = bs.drop 0x20 ∧
          σ.only τ [Rg.SQ_HEAD q] { σ with hp := τ.hp })) ∧
    (let may : Prop := σ.qpOn q = true ∧ 16 < σ.cqFree q;
      ((σ.qp q).held = [] ∨ ¬may → idle (.completionPost r q)) ∧
      (∀ p l, (σ.qp q).held = p :: l → may → leaves (.completionPost r q) fun τ => (τ.qp q).held = l ∧ (τ.qp q).cmds = (σ.qp q).cmds ∧
        τ.g (Fl.CQ_TAIL_TAIL q) = (σ.g (Fl.CQ_TAIL_TAIL q) + 1) % max 1 (σ.g (Fl.QP_SIZE_CQ_LEN q)) % 4096 ∧
        (p.irq = true → τ.raised (0x010 + q.val) 0) ∧
        σ.only τ [Rg.CQ_TAIL q, Rg.IRQ_RAW (0x010 + q.val)] { σ with hp := τ.hp })) ∧
    (σ.waitsAlone q cid c →
      (opc = 0x00 → d.atFt = true → (σ.ft < d.ft.toNat → idle (.atFtCommand r q cid)) ∧
        (d.ft.toNat ≤ σ.ft → leaves (.atFtCommand r q cid) fun τ => σ.posts τ q cid 0 σ.ft d.irq ∧
          σ.only τ (endRegs q) { σ with hp := τ.hp })) ∧
      (d.atFt = false → σ.unranked q →
        (∀ k, opc = 0x01 → σ.spCopy q d = some k →
          let best : Prop := ∀ i e, σ.byHandle k.handle.toNat = some (i, e) → e.args.cls = 0
          let off : Prop := ∃ i e, σ.byHandle k.handle.toNat = some (i, e) ∧ i ∈ σ.ct.susp
          let lacks : Prop := best ∧ σ.linked = true ∧ σ.room < k.vals.length
          let begun (τ : Rod) : Prop := held τ { c with run := true, need := 0, due := true, at_ := σ.ft }
          (¬off → ¬lacks → leaves (.setpoint r q cid) fun τ => Out.setpoint k ∈ τ.out ∧ begun τ ∧
            (∃ l ∈ τ.ct.wait, l.copies.get σ.me.idx = some k) ∧ (¬best ∨ σ.linked = false → τ.ct.spent = σ.ct.spent) ∧
            (best → σ.linked = true → τ.ct.spent = σ.ct.spent + k.vals.length) ∧
            σ.only τ [] { σ with hp := τ.hp, ct := { σ.ct with wait := τ.ct.wait, spent := τ.ct.spent } }) ∧
          (¬off → lacks → leaves (.setpoint r q cid) fun τ => begun τ ∧
            σ.only τ [] { σ with hp := τ.hp, ct := { σ.ct with later := σ.ct.later ++ [⟨k, some (q.val, cid.toNat, d.irq), none⟩] } }) ∧
          (off → leaves (.setpoint r q cid) fun τ => begun τ ∧ (∃ l ∈ τ.ct.wait, l.copies.get σ.me.idx = some k) ∧
            σ.only τ [] { σ with hp := τ.hp, ct := { σ.ct with wait := τ.ct.wait } })) ∧
        (opc = 0x04 → d.len = 0#32 → leaves (.memWrite r q cid) fun τ => σ.posts τ q cid 0 0 d.irq ∧
          σ.only τ (endRegs q) { σ with hp := τ.hp }) ∧
        (opc = 0x04 → d.len ≠ 0#32 → c.done = 0 → c.asked = 0 → 1 ≤ σ.g (Fl.DMA_CTRL_RD_OUT rd) → leaves (.memWrite r q cid) fun τ =>
          Out.hostRead rd addr n0 ∈ τ.out ∧ (∃ k, held τ k ∧ k.due = true ∧ n0 ≤ k.asked) ∧
          σ.only τ [Rg.RES_HOLD, Rg.DMA_STAT rd] { σ with hp := τ.hp }) ∧
        (opc = 0x06 → leaves (.imageStage r q cid) fun τ => τ.sec.staged = [] ∧ τ.b Fl.SEC_STAT_STAGED_OK = false ∧
          τ.g Fl.SEC_STAT_STAGED_TYPE = argAt d 0x20 1 ∧
          (d.len = 0#32 → σ.posts τ q cid 0 0 d.irq) ∧
          (d.len ≠ 0#32 → c.done = 0 → c.asked = 0 → 1 ≤ σ.g (Fl.DMA_CTRL_RD_OUT rd) →
            Out.hostRead rd addr n0 ∈ τ.out ∧ τ.holder 3 = q.val) ∧
          σ.only τ (Rg.SEC_STAT :: endRegs q) { σ with hp := τ.hp, sec := { σ.sec with staged := [] } }) ∧
        (opc = 0x08 → leaves (.capture r q cid) fun τ => held τ { c with run := true, need := 0, due := true, at_ := σ.ft } ∧
          σ.only τ [Rg.DMA_STAT (2 + σ.g (Fl.QP_CTRL_WR_CH q))] { σ with hp := τ.hp }))) ∧
    (∀ (ch : Fin 2) (at_ : DWord) (bs : List Byte),
      let here : Prop := at_.toNat = addr + c.done
      (σ.chan ch = [] → idle (.dmaReadCompletion r ch (.data at_ bs)) ∧ idle (.dmaCompletionTimeout r ⟨ch, at_⟩)) ∧
      (only → (σ.chan ch).head? = some (q.val, cid.toNat) → σ.target d = σ.me →
        (c.got = [] → bs.length = 4 → at_.toNat = addr + c.done + 4 → c.asked = c.done + 8 →
          leaves (.dmaReadCompletion r ch (.data at_ bs)) fun τ => (∃ k, held τ k ∧ k.got = [(c.done + 4, bs)] ∧ k.done = c.done) ∧
            σ.only τ [] { σ with hp := τ.hp }) ∧
        (c.got = [] → bs.length = 4 → here → c.asked = c.done + 4 → d.len.toNat = c.done + 4 →
          (opc = 0x06 → leaves (.dmaReadCompletion r ch (.data at_ bs)) fun τ => σ.posts τ q cid 0 d.len.toNat d.irq ∧
            τ.sec.staged = σ.sec.staged ++ bs ∧
            τ.g (Fl.DMA_BYTES_BYTES ch) = min 0xFFFFFFFF (σ.g (Fl.DMA_BYTES_BYTES ch) + 4) ∧
            σ.only τ (Rg.DMA_BYTES ch :: endRegs q) { σ with hp := τ.hp, sec := { σ.sec with staged := σ.sec.staged ++ bs } }) ∧
          (∀ k, opc = 0x04 → d.devOff.toNat + c.done = 0x120000 + 4 * k → 0x800 ≤ k → k < 0x4000 → σ.winOn (.signal k) = true →
            leaves (.dmaReadCompletion r ch (.data at_ bs)) fun τ => σ.posts τ q cid 0 d.len.toNat d.irq ∧
              τ.sg k = BitVec.ofNat 32 (leAt bs 0 4) ∧ σ.keepsRegs τ (Rg.DMA_BYTES ch :: endRegs q))) ∧
        (addr + c.done ≤ at_.toNat → at_.toNat < addr + c.asked → ∀ type, 1 ≤ type → type ≤ 4 →
          let i : Instr := if type = 4 then .dmaCompletionTimeout r ⟨ch, at_⟩ else .dmaReadCompletion r ch (.error at_ type)
          leaves i fun τ => σ.posts τ q cid 7 0 d.irq ∧ τ.b (Fl.DMA_ERR_VALID ch) = true ∧ τ.g (Fl.DMA_ERR_TYPE ch) = type ∧
            τ.g (Fl.DMA_ERR_QP ch) = q.val ∧ τ.g (Fl.DMA_ERR_CID ch) = cid.toNat ∧ τ.raised 0x020 ch ∧
            τ.recorded 0x0510 sevWarn 0x020 ∧ σ.only τ (Rg.DMA_ERR ch :: Rg.IRQ_RAW 0x020 :: endRegs q) { σ with hp := τ.hp }))) ∧
    (only → opc = 0x08 → (σ.chan 2).head? = some (q.val, cid.toNat) → c.ended = false → ∀ beats : Fin 17,
      let n := 16 * min (max 1 beats.val) (σ.g (Fl.DMA_CTRL_BURST 2))
      leaves (.fabricGrant r ⟨0x40000#28, 0#28, beats⟩) fun τ =>
        held τ { c with buf := c.buf.drop n, asked := c.asked + (c.buf.take n).length } ∧
        τ.g (Fl.DMA_BYTES_BYTES 2) = min 0xFFFFFFFF (σ.g (Fl.DMA_BYTES_BYTES 2) + (c.buf.take n).length) ∧
        (∀ b, c.buf = [b] → Out.hostWrite (addr + c.asked) [b] ∈ τ.out) ∧ σ.only τ [Rg.DMA_BYTES 2] { σ with hp := τ.hp }) ∧
    (∀ (src : RodId) (e : Desc), src ≠ σ.me → e.rod ≠ 3#2 → RodId.ofCode e.rod.toNat = σ.me → e.opc = 0#8 → e.atFt = false →
      σ.descStatus { e with rod := 3#2 } = 0 → leaves (.forwardMessage r src q e []) fun τ =>
        Out.forwardResult src q.val e.cid 0#8 (BitVec.ofNat 64 σ.ft) [] ∈ τ.out ∧ σ.only τ [] σ) ∧
    (only → σ.target d ≠ σ.me →
      (∀ (status : Byte) (result : DWord), leaves (.forwardResult r (σ.target d) q cid status result []) fun τ =>
        σ.posts τ q cid status.toNat result.toNat d.irq ∧ σ.only τ (endRegs q) { σ with hp := τ.hp }) ∧
      let late := σ.passed c.at_ (σ.g Fl.FWD_CFG_FWD_TMO * 1000)
      (late = false → idle (.forwardTimeout r q cid)) ∧
      (late = true → leaves (.forwardTimeout r q cid) fun τ => σ.posts τ q cid 0x0B 0 d.irq ∧ τ.b Fl.FWD_STAT_TMO = true ∧
        τ.g Fl.FWD_STAT_ROD = (σ.target d).code ∧ τ.raised 0x021 2 ∧ τ.recorded 0x0530 sevWarn 0x021 ∧
        σ.only τ (Rg.FWD_STAT :: Rg.IRQ_RAW 0x021 :: endRegs q) { σ with hp := τ.hp })) ∧
    (∀ k : Fin 4,
      (σ.holder (k.val + 1) ≠ 0xFF ∨ σ.hp.ranks = [] → idle (.rankGrant r k)) ∧
      (σ.holder (k.val + 1) = 0xFF → σ.hp.ranks = [(k.val + 1, q.val)] → (σ.qp q).cmds = [c] → c.run = true → c.desc.cid = cid →
        opc = 0x07 → c.need = 2 ^ k.val → leaves (.rankGrant r k) fun τ => τ.holder (k.val + 1) = q.val ∧ τ.hp.ranks = [] ∧
          held τ { c with need := 0, ranks := c.ranks ||| 2 ^ k.val } ∧ σ.only τ [Rg.RES_HOLD] { σ with hp := τ.hp }))

/-- Admission reserves, proposes, answers, activates or refuses in every live rod; withdrawal frees; notices revoke; reports and
set-point copies are taken (spec/07_timing_contracts.md R234, spec/07_timing_contracts.md R237, spec/07_timing_contracts.md
R238, spec/07_timing_contracts.md R239, spec/07_timing_contracts.md R240, spec/07_timing_contracts.md R242,
spec/07_timing_contracts.md R243, spec/07_timing_contracts.md R250, spec/07_timing_contracts.md R254, spec/14_rod_redundancy.md
R471). CONTRACT_ADMIT is REFUSED in a notice (reason 9); else a contract the rod itself admits is reserved and proposed, or
stands at once where no partner is live (0x0701). ADMIT_PROPOSAL waits for the ledger lock where it is taken, and else answers 9
in a notice, 7 for an index in use, or with the own check, reserving on 0. ADMIT_ANSWER is noted; the last one makes the
contract ACTIVE or, with a reason, frees it (0x0702), as ADMIT_PARTNER_TIMEOUT does. CONTRACT_WITHDRAW frees the entry here and
in every live partner. NOTICE_INTERVAL_END revokes the contracts of the oldest notice. REPORT_LATCH of a REPORT to a buffer, at
its latch instant, writes the words of the last finished tick and READY. SETPOINT_COPY of a partner joins the launches that
wait. Under these conditions, of state and operands alone, exec of CONTRACT_ADMIT, CONTRACT_WITHDRAW, ADMIT_PROPOSAL,
ADMIT_ANSWER, ADMIT_PARTNER_TIMEOUT, NOTICE_INTERVAL_END, REPORT_LATCH and SETPOINT_COPY each answer a next state. -/
def Obligations.ContractsAreAdmittedAndEnd : Prop :=
  ∀ (s : State) (r : RodId),
    let σ := s.rod r
    let leaves (i : Instr) (P : Rod → Prop) : Prop := completes i s fun t => P (t.rod r)
    let idle (i : Instr) : Prop := leaves i fun τ => σ.only τ [] σ
    let ctRegs : List Nat := [Rg.CT_STAT, Rg.CLASS_BOUND_1, Rg.CLASS_BOUND_2, Rg.CLASS_BOUND_3]
    let stands (τ : Rod) (i : Nat) (st : Nat) : Prop := ∃ e, τ.entry i = some e ∧ e.state = st
    let told (a : ContractArgs) (x : Nat) : Nat := if x = 0 ∧ σ.b Fl.CT_CFG_PLACEMENT = false then 0 else σ.boundOut a x
    (∀ (q : Fin 16) (cid : BitVec 16) (c : Cmd), σ.waitsAlone q cid c → c.desc.atFt = false → σ.unranked q →
      (c.desc.opc = 0x0A#8 →
        let a := admitArgs c.desc
        (σ.ct.notices ≠ [] → leaves (.contractAdmit r q cid) fun τ => 
          σ.posts τ q cid 9 (2 ^ 16 * 9 + 2 ^ 32 * told a (σ.boundOf a)) c.desc.irq ∧
          τ.raised 0x050 0 ∧ τ.recorded 0x0702 sevInfo 0x050 ∧ σ.only τ (Rg.IRQ_RAW 0x050 :: endRegs q) { σ with hp := τ.hp }) ∧
        (∀ i b a', σ.ct.notices = [] → σ.freeIndex = some i → σ.examine a = (0, b, a') →
          let gen := (Sparse.get 0 σ.ct.gens i + 1) % 256
          ((∃ p ∈ σ.me.partners, σ.live p = true) → leaves (.contractAdmit r q cid) fun τ =>
            stands τ i lePending ∧ Out.proposal { index := i, gen := gen, queue := q.val, args := a' } ∈ τ.out ∧
            (τ.qp q).cmds ≠ [] ∧ τ.holder 2 = 0xFF) ∧
          ((∀ p ∈ σ.me.partners, σ.live p = false) → leaves (.contractAdmit r q cid) fun τ =>
            (∃ e, τ.entry i = some e ∧ e.state = leActive ∧ e.args = a' ∧ e.admitter = σ.me ∧
              e.handle = BitVec.ofNat 16 (256 * gen + i)) ∧
            (τ.qp q).cmds = [] ∧ τ.raised 0x050 0 ∧ τ.recorded 0x0701 sevInfo 0x050))) ∧
      (c.desc.opc = 0x0B#8 → ∀ i e, σ.byHandle (argAt c.desc 0x20 2) = some (i, e) → completes (.contractWithdraw r q cid) s fun t =>
        σ.posts (t.rod r) q cid 0 0 c.desc.irq ∧ (t.rod r).entry i = none ∧ Out.contractGone i ∈ (t.rod r).out ∧
        (r ∉ σ.me.partners → ∀ j, j ≠ i → (t.rod r).entry j = σ.entry j) ∧ σ.keepsRegs (t.rod r) (ctRegs ++ endRegs q) ∧
        (∀ p ∈ σ.me.partners, p ≠ r → σ.live p = true → ∀ f ∈ (s.rod p).ct.ledger.find? (fun f => f.2.handle == e.handle && f.2.admitter == e.admitter),
          (t.rod p).entry f.1 = none))) ∧
    (∀ (src : RodId) (m : AdmitProposal),
      let answer (τ : Rod) (reason bound : Nat) (a : ContractArgs) : Prop :=
        Out.admitAnswer src { index := m.index, reason := reason, bound := bound, dst := a.dst.get σ.me.idx } ∈ τ.out
      (src = σ.me → idle (.admitProposal r src m)) ∧
      (src ≠ σ.me → σ.ledgerFree = false → leaves (.admitProposal r src m) fun τ =>
        σ.only τ [] { σ with hp := { σ.hp with ranks := σ.hp.ranks ++ [(2, 0x10)], sup := σ.hp.sup ++ [.proposal src m] } }) ∧
      (src ≠ σ.me → σ.ledgerFree = true →
        (∀ e, σ.entry m.index = some e → e.state ≠ lePending ∨ e.admitter.code ≤ src.code → leaves (.admitProposal r src m) fun τ =>
          answer τ 7 (σ.boundOf m.args) m.args ∧ σ.only τ [] σ) ∧
        (σ.entry m.index = none → σ.ct.notices ≠ [] → leaves (.admitProposal r src m) fun τ =>
          answer τ 9 (σ.boundOf m.args) m.args ∧ σ.only τ [] σ) ∧
        (σ.entry m.index = none → σ.ct.notices = [] → ∀ k b a', σ.examine m.args = (k, b, a') → leaves (.admitProposal r src m) fun τ =>
          answer τ k b (if k = 0 then a' else m.args) ∧ (k ≠ 0 → σ.only τ [] σ) ∧
          (k = 0 → (∃ e, τ.entry m.index = some e ∧ e.state = lePending ∧ e.admitter = src ∧ e.args = a' ∧
            e.handle = BitVec.ofNat 16 (256 * m.gen + m.index)) ∧ σ.only τ ctRegs { σ with ct := τ.ct })))) ∧
    (∀ (src : RodId) (msg : AdmitAnswer),
      (src = σ.me ∨ (∀ m ∈ σ.ct.admits, m.index ≠ msg.index) → idle (.admitAnswer r src msg)) ∧
      (∀ m e, src ≠ σ.me → σ.ct.admits.find? (fun m => m.index == msg.index) = some m → σ.entry msg.index = some e →
        ((∃ p ∈ σ.me.partners, p ≠ src ∧ σ.live p = true ∧ m.answers.get p.idx = none) → leaves (.admitAnswer r src msg) fun τ =>
          (∃ k ∈ τ.ct.admits, k.index = msg.index ∧ k.answers.get src.idx = some msg) ∧
          σ.only τ [] { σ with ct := { σ.ct with admits := τ.ct.admits } }) ∧
        ((∀ p ∈ σ.me.partners, p = src ∨ σ.live p = false ∨ ∃ x, m.answers.get p.idx = some x ∧ x.reason = 0) →
          (m.dead = true → leaves (.admitAnswer r src msg) fun τ => τ.entry msg.index = none ∧
            (∀ k ∈ τ.ct.admits, k.index ≠ msg.index) ∧ Out.contractGone msg.index ∈ τ.out) ∧
          (m.dead = false → msg.reason = 0 → leaves (.admitAnswer r src msg) fun τ => stands τ msg.index leActive ∧
            (∀ k ∈ τ.ct.admits, k.index ≠ msg.index) ∧ τ.raised 0x050 0 ∧ τ.recorded 0x0701 sevInfo 0x050) ∧
          (m.dead = false → msg.reason ≠ 0 → σ.live src = true → leaves (.admitAnswer r src msg) fun τ => τ.entry msg.index = none ∧
            (∀ k ∈ τ.ct.admits, k.index ≠ msg.index) ∧ Out.contractGone msg.index ∈ τ.out ∧ τ.raised 0x050 0 ∧
            τ.recorded 0x0702 sevInfo 0x050)))) ∧
    (∀ i, ((∀ m ∈ σ.ct.admits, m.index ≠ i) → idle (.admitPartnerTimeout r i)) ∧
      (∀ m e, σ.ct.admits.find? (fun m => m.index == i) = some m → σ.entry i = some e →
        m.dead = false → (∃ p ∈ σ.me.partners, σ.live p = true ∧ m.answers.get p.idx = none) → leaves (.admitPartnerTimeout r i) fun τ =>
          τ.entry i = none ∧ Out.contractGone i ∈ τ.out ∧ τ.raised 0x050 0 ∧ τ.recorded 0x0702 sevInfo 0x050)) ∧
    (σ.ct.notices = [] → idle (.noticeIntervalEnd r)) ∧
    (∀ l rest, σ.ct.notices = l :: rest → leaves (.noticeIntervalEnd r) fun τ => τ.ct.notices = rest ∧ τ.raised 0x050 3 ∧
      τ.ct.bulkOff = decide (rest ≠ []) ∧ σ.only τ (Rg.IRQ_RAW 0x050 :: ctRegs) { σ with ct := τ.ct } ∧
      ∀ i e, σ.entry i = some e → τ.entry i = some (if i ∈ l ∧ e.state = leNotice then { e with state := leRevoked } else e)) ∧
    (∀ i e, σ.entry i = some e → ∀ ft : DWord,
      let ρ := σ.atFt ft.toNat
      let due : Prop := latchAt e.args ft.toNat = true ∧ σ.ftn ≤ ftnOf ft.toNat
      let d := e.args.dst.get σ.me.idx
      let f := e.args.src.get σ.me.idx
      let b := epBuf d
      (σ.serves (i, e) = false ∨ ¬due → leaves (.reportLatch r ⟨i, ft⟩) fun τ => ρ.only τ [] ρ) ∧
      (σ.serves (i, e) = true → due → e.args.kind = kReport → epType d = 1 → epType f = 4 → e.args.count ≤ 12 →
        leaves (.reportLatch r ⟨i, ft⟩) fun τ => τ.b (Fl.MB_CTRL_READY b) = true ∧ τ.gw (Rg.MB_DATA b 0) = ρ.lastWord 0x0030 ∧
          τ.gw (Rg.MB_DATA b 1) = ρ.lastWord 0x0031 ∧
          τ.gw (Rg.MB_DATA b 2) = BitVec.ofNat 32 (e.handle.toNat + 2 ^ 16 * Sparse.get 0 σ.ct.seqs i) ∧
          τ.gw (Rg.MB_DATA b 3) = ρ.lastWord 0x0032 ∧
          (∀ j, j < e.args.count → τ.gw (Rg.MB_DATA b (4 + j)) = ρ.lastWord (0x0140 + 0x40 * epAxis f + epFirst f + j)) ∧
          ρ.keepsRegs τ (Rg.MB_CTRL b :: (List.range (4 + e.args.count)).map (Rg.MB_DATA b)))) ∧
    (∀ (src : RodId) (k : SetpointCopy),
      (src = σ.me → idle (.setpointCopy r src k)) ∧
      (src ≠ σ.me → leaves (.setpointCopy r src k) fun τ => (∃ l ∈ τ.ct.wait, l.copies.get src.idx = some k) ∧
        σ.only τ [] { σ with ct := { σ.ct with wait := τ.ct.wait } }))
end

