-- ==== Sys2Proof/Laws/Dispatch.lean ====
section
/-! SUPPORT. The arms of `exec`, one equation a command. -/

namespace Sys2Proof.Machine

@[simp] theorem exec_registerWrite (a0 : RodId) (a1 : Path) (a2 : Nat) (a3 : Nat) (a4 : DWord) (s : State) :
    exec (.registerWrite a0 a1 a2 a3 a4) s = execRegisterWrite a0 a1 a2 a3 a4 s := rfl
@[simp] theorem exec_pairLoRead (a0 : RodId) (a1 : ReadAt) (s : State) :
    exec (.pairLoRead a0 a1) s = execPairLoRead a0 a1 s := rfl
@[simp] theorem exec_pairHiWrite (a0 : RodId) (a1 : Path) (a2 : Nat) (a3 : Word) (s : State) :
    exec (.pairHiWrite a0 a1 a2 a3) s = execPairHiWrite a0 a1 a2 a3 s := rfl
@[simp] theorem exec_rcRead (a0 : RodId) (a1 : ReadAt) (a2 : Word) (s : State) :
    exec (.rcRead a0 a1 a2) s = execRcRead a0 a1 a2 s := rfl
@[simp] theorem exec_w1cWrite (a0 : RodId) (a1 : Path) (a2 : Nat) (a3 : Word) (a4 : Word) (s : State) :
    exec (.w1cWrite a0 a1 a2 a3 a4) s = execW1cWrite a0 a1 a2 a3 a4 s := rfl
@[simp] theorem exec_irqForce (a0 : RodId) (a1 : Path) (a2 : Nat) (a3 : Word) (s : State) :
    exec (.irqForce a0 a1 a2 a3) s = execIrqForce a0 a1 a2 a3 s := rfl
@[simp] theorem exec_stgCommit (a0 : RodId) (a1 : Path) (a2 : Nat) (a3 : Word) (s : State) :
    exec (.stgCommit a0 a1 a2 a3) s = execStgCommit a0 a1 a2 a3 s := rfl
@[simp] theorem exec_stgOpen (a0 : RodId) (a1 : Path) (a2 : Nat) (a3 : Word) (s : State) :
    exec (.stgOpen a0 a1 a2 a3) s = execStgOpen a0 a1 a2 a3 s := rfl
@[simp] theorem exec_stgMode (a0 : RodId) (a1 : Path) (a2 : Nat) (a3 : Word) (s : State) :
    exec (.stgMode a0 a1 a2 a3) s = execStgMode a0 a1 a2 a3 s := rfl
@[simp] theorem exec_stgFtArm (a0 : RodId) (a1 : Path) (a2 : Nat) (a3 : Word) (s : State) :
    exec (.stgFtArm a0 a1 a2 a3) s = execStgFtArm a0 a1 a2 a3 s := rfl
@[simp] theorem exec_mismatchClear (a0 : RodId) (a1 : Path) (a2 : Nat) (s : State) :
    exec (.mismatchClear a0 a1 a2) s = execMismatchClear a0 a1 a2 s := rfl
@[simp] theorem exec_stagedCommit (a0 : RodId) (a1 : Nat) (s : State) :
    exec (.stagedCommit a0 a1) s = execStagedCommit a0 a1 s := rfl
@[simp] theorem exec_atFtCommit (a0 : RodId) (a1 : Nat) (s : State) :
    exec (.atFtCommit a0 a1) s = execAtFtCommit a0 a1 s := rfl
@[simp] theorem exec_noTickCommit (a0 : RodId) (a1 : Nat) (s : State) :
    exec (.noTickCommit a0 a1) s = execNoTickCommit a0 a1 s := rfl
@[simp] theorem exec_pageLockRequest (a0 : RodId) (a1 : Path) (a2 : Nat) (s : State) :
    exec (.pageLockRequest a0 a1 a2) s = execPageLockRequest a0 a1 a2 s := rfl
@[simp] theorem exec_pageLockRelease (a0 : RodId) (a1 : Path) (a2 : Nat) (s : State) :
    exec (.pageLockRelease a0 a1 a2) s = execPageLockRelease a0 a1 a2 s := rfl
@[simp] theorem exec_errcapClear (a0 : RodId) (a1 : Path) (a2 : Nat) (s : State) :
    exec (.errcapClear a0 a1 a2) s = execErrcapClear a0 a1 a2 s := rfl
@[simp] theorem exec_flAck (a0 : RodId) (a1 : Path) (a2 : Word) (s : State) :
    exec (.flAck a0 a1 a2) s = execFlAck a0 a1 a2 s := rfl
@[simp] theorem exec_flashRecordAppend (a0 : RodId) (s : State) :
    exec (.flashRecordAppend a0) s = execFlashRecordAppend a0 s := rfl
@[simp] theorem exec_operatingHour (a0 : RodId) (s : State) :
    exec (.operatingHour a0) s = execOperatingHour a0 s := rfl
@[simp] theorem exec_samplingInstant (a0 : RodId) (a1 : DWord) (s : State) :
    exec (.samplingInstant a0 a1) s = execSamplingInstant a0 a1 s := rfl
@[simp] theorem exec_adcConversion (a0 : RodId) (a1 : AdcWords) (s : State) :
    exec (.adcConversion a0 a1) s = execAdcConversion a0 a1 s := rfl
@[simp] theorem exec_triggerFire (a0 : RodId) (a1 : Fin 4) (a2 : Fin 8) (s : State) :
    exec (.triggerFire a0 a1 a2) s = execTriggerFire a0 a1 a2 s := rfl
@[simp] theorem exec_blockLimit (a0 : RodId) (a1 : Fin 4) (s : State) :
    exec (.blockLimit a0 a1) s = execBlockLimit a0 a1 s := rfl
@[simp] theorem exec_setOff (a0 : RodId) (a1 : Axis) (s : State) :
    exec (.setOff a0 a1) s = execSetOff a0 a1 s := rfl
@[simp] theorem exec_dqFrameSend (a0 : RodId) (s : State) :
    exec (.dqFrameSend a0) s = execDqFrameSend a0 s := rfl
@[simp] theorem exec_dqSendDeadline (a0 : RodId) (s : State) :
    exec (.dqSendDeadline a0) s = execDqSendDeadline a0 s := rfl
@[simp] theorem exec_dqFrameReceive (a0 : RodId) (a1 : RodId) (a2 : DqFrame) (s : State) :
    exec (.dqFrameReceive a0 a1 a2) s = execDqFrameReceive a0 a1 a2 s := rfl
@[simp] theorem exec_receiveWindowClose (a0 : RodId) (s : State) :
    exec (.receiveWindowClose a0) s = execReceiveWindowClose a0 s := rfl
@[simp] theorem exec_residualWindowEnd (a0 : RodId) (a1 : Axis) (s : State) :
    exec (.residualWindowEnd a0 a1) s = execResidualWindowEnd a0 a1 s := rfl
@[simp] theorem exec_dqSilent (a0 : RodId) (a1 : RodId) (s : State) :
    exec (.dqSilent a0 a1) s = execDqSilent a0 a1 s := rfl
@[simp] theorem exec_dutyLatch (a0 : LatchAt) (s : State) :
    exec (.dutyLatch a0) s = execDutyLatch a0 s := rfl
@[simp] theorem exec_refreshPulse (a0 : RodId) (a1 : Axis) (a2 : Phase) (s : State) :
    exec (.refreshPulse a0 a1 a2) s = execRefreshPulse a0 a1 a2 s := rfl
@[simp] theorem exec_injectionDone (a0 : RodId) (a1 : Axis) (s : State) :
    exec (.injectionDone a0 a1) s = execInjectionDone a0 a1 s := rfl
@[simp] theorem exec_injStop (a0 : RodId) (a1 : Path) (a2 : Axis) (s : State) :
    exec (.injStop a0 a1 a2) s = execInjStop a0 a1 a2 s := rfl
@[simp] theorem exec_sfReport (a0 : RodId) (a1 : Axis) (a2 : Nat) (s : State) :
    exec (.sfReport a0 a1 a2) s = execSfReport a0 a1 a2 s := rfl
@[simp] theorem exec_sfReportMessage (a0 : RodId) (a1 : RodId) (a2 : SfMsg) (s : State) :
    exec (.sfReportMessage a0 a1 a2) s = execSfReportMessage a0 a1 a2 s := rfl
@[simp] theorem exec_sfUnconfirmed (a0 : RodId) (a1 : Axis) (a2 : Nat) (a3 : RodId) (s : State) :
    exec (.sfUnconfirmed a0 a1 a2 a3) s = execSfUnconfirmed a0 a1 a2 a3 s := rfl
@[simp] theorem exec_vehSpeedStale (a0 : RodId) (s : State) :
    exec (.vehSpeedStale a0) s = execVehSpeedStale a0 s := rfl
@[simp] theorem exec_setStateMessage (a0 : RodId) (a1 : RodId) (a2 : SetState) (s : State) :
    exec (.setStateMessage a0 a1 a2) s = execSetStateMessage a0 a1 a2 s := rfl
@[simp] theorem exec_torqueCopyReceive (a0 : RodId) (a1 : RodId) (a2 : TorqueCopy) (s : State) :
    exec (.torqueCopyReceive a0 a1 a2) s = execTorqueCopyReceive a0 a1 a2 s := rfl
@[simp] theorem exec_stateCopyReceive (a0 : RodId) (a1 : RodId) (a2 : StateCopy) (s : State) :
    exec (.stateCopyReceive a0 a1 a2) s = execStateCopyReceive a0 a1 a2 s := rfl
@[simp] theorem exec_copyMissedNotice (a0 : RodId) (a1 : RodId) (a2 : Axis) (s : State) :
    exec (.copyMissedNotice a0 a1 a2) s = execCopyMissedNotice a0 a1 a2 s := rfl
@[simp] theorem exec_judgementMessage (a0 : RodId) (a1 : RodId) (a2 : JudgeMsg) (s : State) :
    exec (.judgementMessage a0 a1 a2) s = execJudgementMessage a0 a1 a2 s := rfl
@[simp] theorem exec_withdrawalNotice (a0 : RodId) (a1 : RodId) (a2 : Word) (s : State) :
    exec (.withdrawalNotice a0 a1 a2) s = execWithdrawalNotice a0 a1 a2 s := rfl
@[simp] theorem exec_removal (a0 : RodId) (a1 : RodId) (s : State) :
    exec (.removal a0 a1) s = execRemoval a0 a1 s := rfl
@[simp] theorem exec_removalOrder (a0 : RodId) (a1 : RodId) (s : State) :
    exec (.removalOrder a0 a1) s = execRemovalOrder a0 a1 s := rfl
@[simp] theorem exec_modeRequest (a0 : RodId) (a1 : Path) (a2 : Word) (s : State) :
    exec (.modeRequest a0 a1 a2) s = execModeRequest a0 a1 a2 s := rfl
@[simp] theorem exec_modeRequestTimeout (a0 : RodId) (s : State) :
    exec (.modeRequestTimeout a0) s = execModeRequestTimeout a0 s := rfl
@[simp] theorem exec_modeProposal (a0 : RodId) (a1 : RodId) (a2 : Nat) (s : State) :
    exec (.modeProposal a0 a1 a2) s = execModeProposal a0 a1 a2 s := rfl
@[simp] theorem exec_modeChange (a0 : RodId) (s : State) :
    exec (.modeChange a0) s = execModeChange a0 s := rfl
@[simp] theorem exec_armRelease (a0 : RodId) (a1 : Path) (a2 : Word) (s : State) :
    exec (.armRelease a0 a1 a2) s = execArmRelease a0 a1 a2 s := rfl
@[simp] theorem exec_standstillReached (a0 : RodId) (a1 : Axis) (s : State) :
    exec (.standstillReached a0 a1) s = execStandstillReached a0 a1 s := rfl
@[simp] theorem exec_auxContact (a0 : RodId) (a1 : Bool) (s : State) :
    exec (.auxContact a0 a1) s = execAuxContact a0 a1 s := rfl
@[simp] theorem exec_kauxTimeout (a0 : RodId) (s : State) :
    exec (.kauxTimeout a0) s = execKauxTimeout a0 s := rfl
@[simp] theorem exec_osdStepEnd (a0 : RodId) (a1 : Tri (BitVec 16)) (a2 : BitVec 16) (s : State) :
    exec (.osdStepEnd a0 a1 a2) s = execOsdStepEnd a0 a1 a2 s := rfl
@[simp] theorem exec_prechargeEnd (a0 : RodId) (a1 : Tri (BitVec 3)) (s : State) :
    exec (.prechargeEnd a0 a1) s = execPrechargeEnd a0 a1 s := rfl
@[simp] theorem exec_syncTimeout (a0 : RodId) (s : State) :
    exec (.syncTimeout a0) s = execSyncTimeout a0 s := rfl
@[simp] theorem exec_bootComparatorTest (a0 : RodId) (a1 : Option (Nat × Nat)) (s : State) :
    exec (.bootComparatorTest a0 a1) s = execBootComparatorTest a0 a1 s := rfl
@[simp] theorem exec_bootFirmwareVerify (a0 : RodId) (a1 : Verdict) (s : State) :
    exec (.bootFirmwareVerify a0 a1) s = execBootFirmwareVerify a0 a1 s := rfl
@[simp] theorem exec_bootImageVerify (a0 : RodId) (a1 : Verdict) (a2 : Verdict) (a3 : Bool) (a4 : Bool) (s : State) :
    exec (.bootImageVerify a0 a1 a2 a3 a4) s = execBootImageVerify a0 a1 a2 a3 a4 s := rfl
@[simp] theorem exec_timeBaseFrame (a0 : RodId) (a1 : FrSlot) (s : State) :
    exec (.timeBaseFrame a0 a1) s = execTimeBaseFrame a0 a1 s := rfl
@[simp] theorem exec_timeCapture (a0 : RodId) (a1 : CaptureAt) (a2 : ClusterPos) (s : State) :
    exec (.timeCapture a0 a1 a2) s = execTimeCapture a0 a1 a2 s := rfl
@[simp] theorem exec_timeFrame (a0 : RodId) (a1 : RodId) (a2 : TimeArrival) (s : State) :
    exec (.timeFrame a0 a1 a2) s = execTimeFrame a0 a1 a2 s := rfl
@[simp] theorem exec_captureWindowClose (a0 : RodId) (s : State) :
    exec (.captureWindowClose a0) s = execCaptureWindowClose a0 s := rfl
@[simp] theorem exec_lockAcquired (a0 : RodId) (s : State) :
    exec (.lockAcquired a0) s = execLockAcquired a0 s := rfl
@[simp] theorem exec_lockedClear (a0 : RodId) (s : State) :
    exec (.lockedClear a0) s = execLockedClear a0 s := rfl
@[simp] theorem exec_srcExcluded (a0 : RodId) (a1 : RodId) (s : State) :
    exec (.srcExcluded a0 a1) s = execSrcExcluded a0 a1 s := rfl
@[simp] theorem exec_srcReadmitted (a0 : RodId) (a1 : RodId) (s : State) :
    exec (.srcReadmitted a0 a1) s = execSrcReadmitted a0 a1 s := rfl
@[simp] theorem exec_holdExpired (a0 : RodId) (s : State) :
    exec (.holdExpired a0) s = execHoldExpired a0 s := rfl
@[simp] theorem exec_xmodReturn (a0 : RodId) (s : State) :
    exec (.xmodReturn a0) s = execXmodReturn a0 s := rfl
@[simp] theorem exec_take (a0 : RodId) (a1 : Path) (s : State) :
    exec (.take a0 a1) s = execTake a0 a1 s := rfl
@[simp] theorem exec_wakeup (a0 : RodId) (a1 : Path) (a2 : Byte) (s : State) :
    exec (.wakeup a0 a1 a2) s = execWakeup a0 a1 a2 s := rfl
@[simp] theorem exec_mtsA (a0 : RodId) (a1 : Path) (a2 : Byte) (s : State) :
    exec (.mtsA a0 a1 a2) s = execMtsA a0 a1 a2 s := rfl
@[simp] theorem exec_mtsB (a0 : RodId) (a1 : Path) (a2 : Byte) (s : State) :
    exec (.mtsB a0 a1 a2) s = execMtsB a0 a1 a2 s := rfl
@[simp] theorem exec_frHalt (a0 : RodId) (a1 : Path) (a2 : Byte) (s : State) :
    exec (.frHalt a0 a1 a2) s = execFrHalt a0 a1 a2 s := rfl
@[simp] theorem exec_restart (a0 : RodId) (a1 : Path) (a2 : Byte) (s : State) :
    exec (.restart a0 a1 a2) s = execRestart a0 a1 a2 s := rfl
@[simp] theorem exec_wudop (a0 : RodId) (a1 : Path) (a2 : Byte) (s : State) :
    exec (.wudop a0 a1 a2) s = execWudop a0 a1 a2 s := rfl
@[simp] theorem exec_frFrameReceive (a0 : RodId) (a1 : FrSlot) (s : State) :
    exec (.frFrameReceive a0 a1) s = execFrFrameReceive a0 a1 s := rfl
@[simp] theorem exec_cycleStart (a0 : RodId) (a1 : Nat) (s : State) :
    exec (.cycleStart a0 a1) s = execCycleStart a0 a1 s := rfl
@[simp] theorem exec_mbReady (a0 : RodId) (a1 : Path) (a2 : Fin 128) (s : State) :
    exec (.mbReady a0 a1 a2) s = execMbReady a0 a1 a2 s := rfl
@[simp] theorem exec_mbHold (a0 : RodId) (a1 : Path) (a2 : Fin 128) (a3 : Bool) (s : State) :
    exec (.mbHold a0 a1 a2 a3) s = execMbHold a0 a1 a2 a3 s := rfl
@[simp] theorem exec_coldstartAttempt (a0 : RodId) (s : State) :
    exec (.coldstartAttempt a0) s = execColdstartAttempt a0 s := rfl
@[simp] theorem exec_coldExhausted (a0 : RodId) (s : State) :
    exec (.coldExhausted a0) s = execColdExhausted a0 s := rfl
@[simp] theorem exec_clockCorrection (a0 : RodId) (a1 : Int) (a2 : Int) (a3 : Nat) (a4 : Nat) (s : State) :
    exec (.clockCorrection a0 a1 a2 a3 a4) s = execClockCorrection a0 a1 a2 a3 a4 s := rfl
@[simp] theorem exec_channelSilent (a0 : RodId) (a1 : Chan) (s : State) :
    exec (.channelSilent a0 a1) s = execChannelSilent a0 a1 s := rfl
@[simp] theorem exec_clusterLost (a0 : RodId) (a1 : Nat) (s : State) :
    exec (.clusterLost a0 a1) s = execClusterLost a0 a1 s := rfl
@[simp] theorem exec_clusterBack (a0 : RodId) (s : State) :
    exec (.clusterBack a0) s = execClusterBack a0 s := rfl
@[simp] theorem exec_wakeRx (a0 : RodId) (a1 : Chan) (a2 : Bool) (s : State) :
    exec (.wakeRx a0 a1 a2) s = execWakeRx a0 a1 a2 s := rfl
@[simp] theorem exec_wakeCollision (a0 : RodId) (s : State) :
    exec (.wakeCollision a0) s = execWakeCollision a0 s := rfl
@[simp] theorem exec_perstNAssert (a0 : RodId) (s : State) :
    exec (.perstNAssert a0) s = execPerstNAssert a0 s := rfl
@[simp] theorem exec_linkLoss (a0 : RodId) (s : State) :
    exec (.linkLoss a0) s = execLinkLoss a0 s := rfl
@[simp] theorem exec_hotReset (a0 : RodId) (s : State) :
    exec (.hotReset a0) s = execHotReset a0 s := rfl
@[simp] theorem exec_flr (a0 : RodId) (s : State) :
    exec (.flr a0) s = execFlr a0 s := rfl
@[simp] theorem exec_linkUp (a0 : RodId) (a1 : Fin 4) (s : State) :
    exec (.linkUp a0 a1) s = execLinkUp a0 a1 s := rfl
@[simp] theorem exec_d3hotEntry (a0 : RodId) (s : State) :
    exec (.d3hotEntry a0) s = execD3hotEntry a0 s := rfl
@[simp] theorem exec_d0Return (a0 : RodId) (s : State) :
    exec (.d0Return a0) s = execD0Return a0 s := rfl
@[simp] theorem exec_sqTailDoorbell (a0 : RodId) (a1 : Path) (a2 : Fin 16) (a3 : Word) (s : State) :
    exec (.sqTailDoorbell a0 a1 a2 a3) s = execSqTailDoorbell a0 a1 a2 a3 s := rfl
@[simp] theorem exec_cqHeadDoorbell (a0 : RodId) (a1 : Path) (a2 : Fin 16) (a3 : Word) (s : State) :
    exec (.cqHeadDoorbell a0 a1 a2 a3) s = execCqHeadDoorbell a0 a1 a2 a3 s := rfl
@[simp] theorem exec_descriptorFetch (a0 : RodId) (a1 : Fin 16) (a2 : List Byte) (s : State) :
    exec (.descriptorFetch a0 a1 a2) s = execDescriptorFetch a0 a1 a2 s := rfl
@[simp] theorem exec_atFtCommand (a0 : RodId) (a1 : Fin 16) (a2 : BitVec 16) (s : State) :
    exec (.atFtCommand a0 a1 a2) s = execAtFtCommand a0 a1 a2 s := rfl
@[simp] theorem exec_completionPost (a0 : RodId) (a1 : Fin 16) (s : State) :
    exec (.completionPost a0 a1) s = execCompletionPost a0 a1 s := rfl
@[simp] theorem exec_nop (a0 : RodId) (a1 : Fin 16) (a2 : BitVec 16) (s : State) :
    exec (.nop a0 a1 a2) s = execNop a0 a1 a2 s := rfl
@[simp] theorem exec_setpoint (a0 : RodId) (a1 : Fin 16) (a2 : BitVec 16) (s : State) :
    exec (.setpoint a0 a1 a2) s = execSetpoint a0 a1 a2 s := rfl
@[simp] theorem exec_regWrite (a0 : RodId) (a1 : Fin 16) (a2 : BitVec 16) (s : State) :
    exec (.regWrite a0 a1 a2) s = execRegWrite a0 a1 a2 s := rfl
@[simp] theorem exec_regRead (a0 : RodId) (a1 : Fin 16) (a2 : BitVec 16) (s : State) :
    exec (.regRead a0 a1 a2) s = execRegRead a0 a1 a2 s := rfl
@[simp] theorem exec_memWrite (a0 : RodId) (a1 : Fin 16) (a2 : BitVec 16) (s : State) :
    exec (.memWrite a0 a1 a2) s = execMemWrite a0 a1 a2 s := rfl
@[simp] theorem exec_memRead (a0 : RodId) (a1 : Fin 16) (a2 : BitVec 16) (s : State) :
    exec (.memRead a0 a1 a2) s = execMemRead a0 a1 a2 s := rfl
@[simp] theorem exec_imageStage (a0 : RodId) (a1 : Fin 16) (a2 : BitVec 16) (s : State) :
    exec (.imageStage a0 a1 a2) s = execImageStage a0 a1 a2 s := rfl
@[simp] theorem exec_imageVerify (a0 : RodId) (a1 : Fin 16) (a2 : BitVec 16) (a3 : Verdict) (s : State) :
    exec (.imageVerify a0 a1 a2 a3) s = execImageVerify a0 a1 a2 a3 s := rfl
@[simp] theorem exec_capture (a0 : RodId) (a1 : Fin 16) (a2 : BitVec 16) (s : State) :
    exec (.capture a0 a1 a2) s = execCapture a0 a1 a2 s := rfl
@[simp] theorem exec_faultExport (a0 : RodId) (a1 : Fin 16) (a2 : BitVec 16) (s : State) :
    exec (.faultExport a0 a1 a2) s = execFaultExport a0 a1 a2 s := rfl
@[simp] theorem exec_contractAdmit (a0 : RodId) (a1 : Fin 16) (a2 : BitVec 16) (s : State) :
    exec (.contractAdmit a0 a1 a2) s = execContractAdmit a0 a1 a2 s := rfl
@[simp] theorem exec_contractWithdraw (a0 : RodId) (a1 : Fin 16) (a2 : BitVec 16) (s : State) :
    exec (.contractWithdraw a0 a1 a2) s = execContractWithdraw a0 a1 a2 s := rfl
@[simp] theorem exec_attest (a0 : RodId) (a1 : Fin 16) (a2 : BitVec 16) (s : State) :
    exec (.attest a0 a1 a2) s = execAttest a0 a1 a2 s := rfl
@[simp] theorem exec_lockAcq (a0 : RodId) (a1 : Fin 16) (a2 : BitVec 16) (s : State) :
    exec (.lockAcq a0 a1 a2) s = execLockAcq a0 a1 a2 s := rfl
@[simp] theorem exec_lockRel (a0 : RodId) (a1 : Fin 16) (a2 : BitVec 16) (s : State) :
    exec (.lockRel a0 a1 a2) s = execLockRel a0 a1 a2 s := rfl
@[simp] theorem exec_reportRing (a0 : RodId) (a1 : Fin 16) (a2 : BitVec 16) (s : State) :
    exec (.reportRing a0 a1 a2) s = execReportRing a0 a1 a2 s := rfl
@[simp] theorem exec_dmaReadCompletion (a0 : RodId) (a1 : Fin 2) (a2 : ReadReply) (s : State) :
    exec (.dmaReadCompletion a0 a1 a2) s = execDmaReadCompletion a0 a1 a2 s := rfl
@[simp] theorem exec_dmaCompletionTimeout (a0 : RodId) (a1 : HostRead) (s : State) :
    exec (.dmaCompletionTimeout a0 a1) s = execDmaCompletionTimeout a0 a1 s := rfl
@[simp] theorem exec_forwardMessage (a0 : RodId) (a1 : RodId) (a2 : Fin 16) (a3 : Desc) (a4 : List Byte) (s : State) :
    exec (.forwardMessage a0 a1 a2 a3 a4) s = execForwardMessage a0 a1 a2 a3 a4 s := rfl
@[simp] theorem exec_forwardResult (a0 : RodId) (a1 : RodId) (a2 : Fin 16) (a3 : BitVec 16) (a4 : Byte) (a5 : DWord) (a6 : List Byte) (s : State) :
    exec (.forwardResult a0 a1 a2 a3 a4 a5 a6) s = execForwardResult a0 a1 a2 a3 a4 a5 a6 s := rfl
@[simp] theorem exec_forwardTimeout (a0 : RodId) (a1 : Fin 16) (a2 : BitVec 16) (s : State) :
    exec (.forwardTimeout a0 a1 a2) s = execForwardTimeout a0 a1 a2 s := rfl
@[simp] theorem exec_fabricGrant (a0 : RodId) (a1 : FabricAsk) (s : State) :
    exec (.fabricGrant a0 a1) s = execFabricGrant a0 a1 s := rfl
@[simp] theorem exec_starvation (a0 : RodId) (a1 : Fin 28) (s : State) :
    exec (.starvation a0 a1) s = execStarvation a0 a1 s := rfl
@[simp] theorem exec_qpClass (a0 : RodId) (a1 : Path) (a2 : Fin 16) (a3 : Word) (s : State) :
    exec (.qpClass a0 a1 a2 a3) s = execQpClass a0 a1 a2 a3 s := rfl
@[simp] theorem exec_rankGrant (a0 : RodId) (a1 : Fin 4) (s : State) :
    exec (.rankGrant a0 a1) s = execRankGrant a0 a1 s := rfl
@[simp] theorem exec_lockTimeout (a0 : RodId) (a1 : Fin 4) (s : State) :
    exec (.lockTimeout a0 a1) s = execLockTimeout a0 a1 s := rfl
@[simp] theorem exec_relayedRecord (a0 : RodId) (a1 : FaultRec) (s : State) :
    exec (.relayedRecord a0 a1) s = execRelayedRecord a0 a1 s := rfl
@[simp] theorem exec_admitProposal (a0 : RodId) (a1 : RodId) (a2 : AdmitProposal) (s : State) :
    exec (.admitProposal a0 a1 a2) s = execAdmitProposal a0 a1 a2 s := rfl
@[simp] theorem exec_admitAnswer (a0 : RodId) (a1 : RodId) (a2 : AdmitAnswer) (s : State) :
    exec (.admitAnswer a0 a1 a2) s = execAdmitAnswer a0 a1 a2 s := rfl
@[simp] theorem exec_admitPartnerTimeout (a0 : RodId) (a1 : Nat) (s : State) :
    exec (.admitPartnerTimeout a0 a1) s = execAdmitPartnerTimeout a0 a1 s := rfl
@[simp] theorem exec_noticeIntervalEnd (a0 : RodId) (s : State) :
    exec (.noticeIntervalEnd a0) s = execNoticeIntervalEnd a0 s := rfl
@[simp] theorem exec_reportLatch (a0 : RodId) (a1 : ReportAt) (s : State) :
    exec (.reportLatch a0 a1) s = execReportLatch a0 a1 s := rfl
@[simp] theorem exec_carryLinkDown (a0 : RodId) (a1 : RodId) (s : State) :
    exec (.carryLinkDown a0 a1) s = execCarryLinkDown a0 a1 s := rfl
@[simp] theorem exec_carryLinkUp (a0 : RodId) (a1 : LinkAlign) (s : State) :
    exec (.carryLinkUp a0 a1) s = execCarryLinkUp a0 a1 s := rfl
@[simp] theorem exec_setpointCopy (a0 : RodId) (a1 : RodId) (a2 : SetpointCopy) (s : State) :
    exec (.setpointCopy a0 a1 a2) s = execSetpointCopy a0 a1 a2 s := rfl
@[simp] theorem exec_memoryWindowWrite (a0 : RodId) (a1 : Path) (a2 : Nat) (a3 : Nat) (a4 : DWord) (s : State) :
    exec (.memoryWindowWrite a0 a1 a2 a3 a4) s = execMemoryWindowWrite a0 a1 a2 a3 a4 s := rfl
@[simp] theorem exec_coefSync (a0 : RodId) (a1 : Path) (s : State) :
    exec (.coefSync a0 a1) s = execCoefSync a0 a1 s := rfl
@[simp] theorem exec_coefSyncDone (a0 : RodId) (s : State) :
    exec (.coefSyncDone a0) s = execCoefSyncDone a0 s := rfl
@[simp] theorem exec_trcCfg (a0 : RodId) (a1 : Path) (a2 : Word) (s : State) :
    exec (.trcCfg a0 a1 a2) s = execTrcCfg a0 a1 a2 s := rfl
@[simp] theorem exec_clrMax (a0 : RodId) (a1 : Path) (a2 : Fin 4) (s : State) :
    exec (.clrMax a0 a1 a2) s = execClrMax a0 a1 a2 s := rfl
@[simp] theorem exec_illegalOpcode (a0 : RodId) (a1 : Fin 4) (a2 : Byte) (a3 : BitVec 56) (s : State) :
    exec (.illegalOpcode a0 a1 a2 a3) s = execIllegalOpcode a0 a1 a2 a3 s := rfl
@[simp] theorem exec_ld (a0 : RodId) (a1 : Fin 4) (a2 : BitVec 56) (s : State) :
    exec (.ld a0 a1 a2) s = execLd a0 a1 a2 s := rfl
@[simp] theorem exec_ldx (a0 : RodId) (a1 : Fin 4) (a2 : BitVec 56) (s : State) :
    exec (.ldx a0 a1 a2) s = execLdx a0 a1 a2 s := rfl
@[simp] theorem exec_st (a0 : RodId) (a1 : Fin 4) (a2 : BitVec 56) (s : State) :
    exec (.st a0 a1 a2) s = execSt a0 a1 a2 s := rfl
@[simp] theorem exec_stx (a0 : RodId) (a1 : Fin 4) (a2 : BitVec 56) (s : State) :
    exec (.stx a0 a1 a2) s = execStx a0 a1 a2 s := rfl
@[simp] theorem exec_mov (a0 : RodId) (a1 : Fin 4) (a2 : BitVec 56) (s : State) :
    exec (.mov a0 a1 a2) s = execMov a0 a1 a2 s := rfl
@[simp] theorem exec_movi (a0 : RodId) (a1 : Fin 4) (a2 : BitVec 56) (s : State) :
    exec (.movi a0 a1 a2) s = execMovi a0 a1 a2 s := rfl
@[simp] theorem exec_nopInstruction (a0 : RodId) (a1 : Fin 4) (a2 : BitVec 56) (s : State) :
    exec (.nopInstruction a0 a1 a2) s = execNopInstruction a0 a1 a2 s := rfl
@[simp] theorem exec_rid (a0 : RodId) (a1 : Fin 4) (a2 : BitVec 56) (s : State) :
    exec (.rid a0 a1 a2) s = execRid a0 a1 a2 s := rfl
@[simp] theorem exec_adds (a0 : RodId) (a1 : Fin 4) (a2 : BitVec 56) (s : State) :
    exec (.adds a0 a1 a2) s = execAdds a0 a1 a2 s := rfl
@[simp] theorem exec_subs (a0 : RodId) (a1 : Fin 4) (a2 : BitVec 56) (s : State) :
    exec (.subs a0 a1 a2) s = execSubs a0 a1 a2 s := rfl
@[simp] theorem exec_addw (a0 : RodId) (a1 : Fin 4) (a2 : BitVec 56) (s : State) :
    exec (.addw a0 a1 a2) s = execAddw a0 a1 a2 s := rfl
@[simp] theorem exec_subw (a0 : RodId) (a1 : Fin 4) (a2 : BitVec 56) (s : State) :
    exec (.subw a0 a1 a2) s = execSubw a0 a1 a2 s := rfl
@[simp] theorem exec_mulw (a0 : RodId) (a1 : Fin 4) (a2 : BitVec 56) (s : State) :
    exec (.mulw a0 a1 a2) s = execMulw a0 a1 a2 s := rfl
@[simp] theorem exec_negs (a0 : RodId) (a1 : Fin 4) (a2 : BitVec 56) (s : State) :
    exec (.negs a0 a1 a2) s = execNegs a0 a1 a2 s := rfl
@[simp] theorem exec_abss (a0 : RodId) (a1 : Fin 4) (a2 : BitVec 56) (s : State) :
    exec (.abss a0 a1 a2) s = execAbss a0 a1 a2 s := rfl
@[simp] theorem exec_min (a0 : RodId) (a1 : Fin 4) (a2 : BitVec 56) (s : State) :
    exec (.min a0 a1 a2) s = execMin a0 a1 a2 s := rfl
@[simp] theorem exec_max (a0 : RodId) (a1 : Fin 4) (a2 : BitVec 56) (s : State) :
    exec (.max a0 a1 a2) s = execMax a0 a1 a2 s := rfl
@[simp] theorem exec_clmp (a0 : RodId) (a1 : Fin 4) (a2 : BitVec 56) (s : State) :
    exec (.clmp a0 a1 a2) s = execClmp a0 a1 a2 s := rfl
@[simp] theorem exec_asr (a0 : RodId) (a1 : Fin 4) (a2 : BitVec 56) (s : State) :
    exec (.asr a0 a1 a2) s = execAsr a0 a1 a2 s := rfl
@[simp] theorem exec_lsl (a0 : RodId) (a1 : Fin 4) (a2 : BitVec 56) (s : State) :
    exec (.lsl a0 a1 a2) s = execLsl a0 a1 a2 s := rfl
@[simp] theorem exec_and (a0 : RodId) (a1 : Fin 4) (a2 : BitVec 56) (s : State) :
    exec (.and a0 a1 a2) s = execAnd a0 a1 a2 s := rfl
@[simp] theorem exec_or (a0 : RodId) (a1 : Fin 4) (a2 : BitVec 56) (s : State) :
    exec (.or a0 a1 a2) s = execOr a0 a1 a2 s := rfl
@[simp] theorem exec_xor (a0 : RodId) (a1 : Fin 4) (a2 : BitVec 56) (s : State) :
    exec (.xor a0 a1 a2) s = execXor a0 a1 a2 s := rfl
@[simp] theorem exec_clra (a0 : RodId) (a1 : Fin 4) (a2 : BitVec 56) (s : State) :
    exec (.clra a0 a1 a2) s = execClra a0 a1 a2 s := rfl
@[simp] theorem exec_lda (a0 : RodId) (a1 : Fin 4) (a2 : BitVec 56) (s : State) :
    exec (.lda a0 a1 a2) s = execLda a0 a1 a2 s := rfl
@[simp] theorem exec_macc (a0 : RodId) (a1 : Fin 4) (a2 : BitVec 56) (s : State) :
    exec (.macc a0 a1 a2) s = execMacc a0 a1 a2 s := rfl
@[simp] theorem exec_mscc (a0 : RodId) (a1 : Fin 4) (a2 : BitVec 56) (s : State) :
    exec (.mscc a0 a1 a2) s = execMscc a0 a1 a2 s := rfl
@[simp] theorem exec_macv (a0 : RodId) (a1 : Fin 4) (a2 : BitVec 56) (s : State) :
    exec (.macv a0 a1 a2) s = execMacv a0 a1 a2 s := rfl
@[simp] theorem exec_mscv (a0 : RodId) (a1 : Fin 4) (a2 : BitVec 56) (s : State) :
    exec (.mscv a0 a1 a2) s = execMscv a0 a1 a2 s := rfl
@[simp] theorem exec_bias (a0 : RodId) (a1 : Fin 4) (a2 : BitVec 56) (s : State) :
    exec (.bias a0 a1 a2) s = execBias a0 a1 a2 s := rfl
@[simp] theorem exec_ext (a0 : RodId) (a1 : Fin 4) (a2 : BitVec 56) (s : State) :
    exec (.ext a0 a1 a2) s = execExt a0 a1 a2 s := rfl
@[simp] theorem exec_sincos (a0 : RodId) (a1 : Fin 4) (a2 : BitVec 56) (s : State) :
    exec (.sincos a0 a1 a2) s = execSincos a0 a1 a2 s := rfl
@[simp] theorem exec_tli (a0 : RodId) (a1 : Fin 4) (a2 : BitVec 56) (s : State) :
    exec (.tli a0 a1 a2) s = execTli a0 a1 a2 s := rfl
@[simp] theorem exec_clu (a0 : RodId) (a1 : Fin 4) (a2 : BitVec 56) (s : State) :
    exec (.clu a0 a1 a2) s = execClu a0 a1 a2 s := rfl
@[simp] theorem exec_limc (a0 : RodId) (a1 : Fin 4) (a2 : BitVec 56) (s : State) :
    exec (.limc a0 a1 a2) s = execLimc a0 a1 a2 s := rfl
@[simp] theorem exec_blt (a0 : RodId) (a1 : Fin 4) (a2 : BitVec 56) (s : State) :
    exec (.blt a0 a1 a2) s = execBlt a0 a1 a2 s := rfl
@[simp] theorem exec_bge (a0 : RodId) (a1 : Fin 4) (a2 : BitVec 56) (s : State) :
    exec (.bge a0 a1 a2) s = execBge a0 a1 a2 s := rfl
@[simp] theorem exec_beq (a0 : RodId) (a1 : Fin 4) (a2 : BitVec 56) (s : State) :
    exec (.beq a0 a1 a2) s = execBeq a0 a1 a2 s := rfl
@[simp] theorem exec_bne (a0 : RodId) (a1 : Fin 4) (a2 : BitVec 56) (s : State) :
    exec (.bne a0 a1 a2) s = execBne a0 a1 a2 s := rfl
@[simp] theorem exec_jmp (a0 : RodId) (a1 : Fin 4) (a2 : BitVec 56) (s : State) :
    exec (.jmp a0 a1 a2) s = execJmp a0 a1 a2 s := rfl
@[simp] theorem exec_repeatN (a0 : RodId) (a1 : Fin 4) (a2 : BitVec 56) (s : State) :
    exec (.repeatN a0 a1 a2) s = execRepeatN a0 a1 a2 s := rfl
@[simp] theorem exec_clrf (a0 : RodId) (a1 : Fin 4) (a2 : BitVec 56) (s : State) :
    exec (.clrf a0 a1 a2) s = execClrf a0 a1 a2 s := rfl
@[simp] theorem exec_halt (a0 : RodId) (a1 : Fin 4) (a2 : BitVec 56) (s : State) :
    exec (.halt a0 a1 a2) s = execHalt a0 a1 a2 s := rfl
@[simp] theorem exec_pumpPhaseMessage (a0 : RodId) (a1 : RodId) (a2 : PumpPhaseMsg) (s : State) :
    exec (.pumpPhaseMessage a0 a1 a2) s = execPumpPhaseMessage a0 a1 a2 s := rfl
@[simp] theorem exec_pumpStatusReport (a0 : RodId) (a1 : RodId) (a2 : PumpStatus) (s : State) :
    exec (.pumpStatusReport a0 a1 a2) s = execPumpStatusReport a0 a1 a2 s := rfl
@[simp] theorem exec_observerLock (a0 : RodId) (a1 : Axis) (s : State) :
    exec (.observerLock a0 a1) s = execObserverLock a0 a1 s := rfl
@[simp] theorem exec_obsLost (a0 : RodId) (a1 : Axis) (a2 : Nat) (s : State) :
    exec (.obsLost a0 a1 a2) s = execObsLost a0 a1 a2 s := rfl
@[simp] theorem exec_catchNoLock (a0 : RodId) (a1 : Axis) (s : State) :
    exec (.catchNoLock a0 a1) s = execCatchNoLock a0 a1 s := rfl
@[simp] theorem exec_restConfirmed (a0 : RodId) (a1 : Axis) (s : State) :
    exec (.restConfirmed a0 a1) s = execRestConfirmed a0 a1 s := rfl
@[simp] theorem exec_brkTmoExpiry (a0 : RodId) (a1 : Axis) (s : State) :
    exec (.brkTmoExpiry a0 a1) s = execBrkTmoExpiry a0 a1 s := rfl
@[simp] theorem exec_alignTExpiry (a0 : RodId) (a1 : Axis) (s : State) :
    exec (.alignTExpiry a0 a1) s = execAlignTExpiry a0 a1 s := rfl
@[simp] theorem exec_rampHoldTimeout (a0 : RodId) (a1 : Axis) (s : State) :
    exec (.rampHoldTimeout a0 a1) s = execRampHoldTimeout a0 a1 s := rfl
@[simp] theorem exec_retryCountReset (a0 : RodId) (a1 : Axis) (s : State) :
    exec (.retryCountReset a0 a1) s = execRetryCountReset a0 a1 s := rfl
@[simp] theorem exec_retry (a0 : RodId) (a1 : Path) (a2 : Axis) (s : State) :
    exec (.retry a0 a1 a2) s = execRetry a0 a1 a2 s := rfl
@[simp] theorem exec_quadratureTransition (a0 : RodId) (a1 : Axis) (a2 : LineLevel) (a3 : LineLevel) (a4 : Nat) (s : State) :
    exec (.quadratureTransition a0 a1 a2 a3 a4) s = execQuadratureTransition a0 a1 a2 a3 a4 s := rfl
@[simp] theorem exec_leakLimit (a0 : RodId) (a1 : Axis) (s : State) :
    exec (.leakLimit a0 a1) s = execLeakLimit a0 a1 s := rfl
@[simp] theorem exec_indexEvent (a0 : RodId) (a1 : Axis) (s : State) :
    exec (.indexEvent a0 a1) s = execIndexEvent a0 a1 s := rfl
@[simp] theorem exec_lineFault (a0 : RodId) (a1 : Axis) (a2 : Fin 3) (s : State) :
    exec (.lineFault a0 a1 a2) s = execLineFault a0 a1 a2 s := rfl
@[simp] theorem exec_spdTmo (a0 : RodId) (a1 : Axis) (s : State) :
    exec (.spdTmo a0 a1) s = execSpdTmo a0 a1 s := rfl
@[simp] theorem exec_leadInStepTimeout (a0 : RodId) (a1 : Axis) (a2 : Nat) (s : State) :
    exec (.leadInStepTimeout a0 a1 a2) s = execLeadInStepTimeout a0 a1 a2 s := rfl
@[simp] theorem exec_serialTransferEnd (a0 : RodId) (a1 : Axis) (a2 : SerialFrame) (s : State) :
    exec (.serialTransferEnd a0 a1 a2) s = execSerialTransferEnd a0 a1 a2 s := rfl
@[simp] theorem exec_serFault (a0 : RodId) (a1 : Axis) (s : State) :
    exec (.serFault a0 a1) s = execSerFault a0 a1 s := rfl
@[simp] theorem exec_trackFault (a0 : RodId) (a1 : Axis) (s : State) :
    exec (.trackFault a0 a1) s = execTrackFault a0 a1 s := rfl
@[simp] theorem exec_rearm (a0 : RodId) (a1 : Path) (a2 : Axis) (s : State) :
    exec (.rearm a0 a1 a2) s = execRearm a0 a1 a2 s := rfl
@[simp] theorem exec_desaturation (a0 : RodId) (a1 : Axis) (a2 : Phase) (s : State) :
    exec (.desaturation a0 a1 a2) s = execDesaturation a0 a1 a2 s := rfl
@[simp] theorem exec_overcurrent (a0 : RodId) (a1 : Axis) (a2 : Phase) (s : State) :
    exec (.overcurrent a0 a1 a2) s = execOvercurrent a0 a1 a2 s := rfl
@[simp] theorem exec_dieOvertemp (a0 : RodId) (a1 : BitVec 16) (s : State) :
    exec (.dieOvertemp a0 a1) s = execDieOvertemp a0 a1 s := rfl
@[simp] theorem exec_bootUv (a0 : RodId) (a1 : Axis) (a2 : Phase) (a3 : Bool) (s : State) :
    exec (.bootUv a0 a1 a2 a3) s = execBootUv a0 a1 a2 a3 s := rfl
@[simp] theorem exec_vgdUv (a0 : RodId) (a1 : BitVec 16) (s : State) :
    exec (.vgdUv a0 a1) s = execVgdUv a0 a1 s := rfl
@[simp] theorem exec_gatePlaus (a0 : RodId) (a1 : Axis) (a2 : Phase) (a3 : Bool) (a4 : Bool) (s : State) :
    exec (.gatePlaus a0 a1 a2 a3 a4) s = execGatePlaus a0 a1 a2 a3 a4 s := rfl
@[simp] theorem exec_eEnded (a0 : RodId) (a1 : Axis) (a2 : Phase) (s : State) :
    exec (.eEnded a0 a1 a2) s = execEEnded a0 a1 a2 s := rfl
@[simp] theorem exec_tClr (a0 : RodId) (a1 : Path) (a2 : Axis) (a3 : Word) (s : State) :
    exec (.tClr a0 a1 a2 a3) s = execTClr a0 a1 a2 a3 s := rfl
@[simp] theorem exec_tClrPulseEnd (a0 : RodId) (a1 : Axis) (a2 : Tri Nat) (s : State) :
    exec (.tClrPulseEnd a0 a1 a2) s = execTClrPulseEnd a0 a1 a2 s := rfl
@[simp] theorem exec_disChange (a0 : RodId) (a1 : Bool) (s : State) :
    exec (.disChange a0 a1) s = execDisChange a0 a1 s := rfl
@[simp] theorem exec_ascChange (a0 : RodId) (a1 : Axis) (a2 : Bool) (s : State) :
    exec (.ascChange a0 a1 a2) s = execAscChange a0 a1 a2 s := rfl
@[simp] theorem exec_fenceLatch (a0 : RodId) (s : State) :
    exec (.fenceLatch a0) s = execFenceLatch a0 s := rfl
@[simp] theorem exec_fenceClr (a0 : RodId) (a1 : Path) (a2 : Word) (a3 : Nat) (s : State) :
    exec (.fenceClr a0 a1 a2 a3) s = execFenceClr a0 a1 a2 a3 s := rfl
@[simp] theorem exec_chopperOn (a0 : RodId) (a1 : BitVec 16) (s : State) :
    exec (.chopperOn a0 a1) s = execChopperOn a0 a1 s := rfl
@[simp] theorem exec_chopperOff (a0 : RodId) (a1 : Nat) (s : State) :
    exec (.chopperOff a0 a1) s = execChopperOff a0 a1 s := rfl
@[simp] theorem exec_chopperFail (a0 : RodId) (a1 : Nat) (s : State) :
    exec (.chopperFail a0 a1) s = execChopperFail a0 a1 s := rfl
@[simp] theorem exec_supplyOv2 (a0 : RodId) (a1 : BitVec 16) (s : State) :
    exec (.supplyOv2 a0 a1) s = execSupplyOv2 a0 a1 s := rfl
@[simp] theorem exec_vmUndervolt (a0 : RodId) (a1 : BitVec 16) (s : State) :
    exec (.vmUndervolt a0 a1) s = execVmUndervolt a0 a1 s := rfl
@[simp] theorem exec_vmUvClear (a0 : RodId) (s : State) :
    exec (.vmUvClear a0) s = execVmUvClear a0 s := rfl
@[simp] theorem exec_dieTempWarn (a0 : RodId) (a1 : BitVec 16) (s : State) :
    exec (.dieTempWarn a0 a1) s = execDieTempWarn a0 a1 s := rfl
@[simp] theorem exec_drvDiag (a0 : RodId) (a1 : Path) (a2 : Axis) (a3 : Word) (s : State) :
    exec (.drvDiag a0 a1 a2 a3) s = execDrvDiag a0 a1 a2 a3 s := rfl
@[simp] theorem exec_diagOnTime (a0 : RodId) (a1 : Axis) (a2 : Fin 6) (s : State) :
    exec (.diagOnTime a0 a1 a2) s = execDiagOnTime a0 a1 a2 s := rfl
@[simp] theorem exec_rejoinConsent (a0 : RodId) (a1 : Path) (a2 : Word) (s : State) :
    exec (.rejoinConsent a0 a1 a2) s = execRejoinConsent a0 a1 a2 s := rfl
@[simp] theorem exec_rejoinEntry (a0 : RodId) (a1 : Bool) (s : State) :
    exec (.rejoinEntry a0 a1) s = execRejoinEntry a0 a1 s := rfl
@[simp] theorem exec_joinRequest (a0 : RodId) (a1 : RodId) (a2 : JoinReq) (s : State) :
    exec (.joinRequest a0 a1 a2) s = execJoinRequest a0 a1 a2 s := rfl
@[simp] theorem exec_rejoinData (a0 : RodId) (a1 : RodId) (a2 : RejoinData) (s : State) :
    exec (.rejoinData a0 a1 a2) s = execRejoinData a0 a1 a2 s := rfl
@[simp] theorem exec_rejoinTimeout (a0 : RodId) (s : State) :
    exec (.rejoinTimeout a0) s = execRejoinTimeout a0 s := rfl
@[simp] theorem exec_tandemCopyReceive (a0 : RodId) (a1 : RodId) (a2 : TandemCopy) (s : State) :
    exec (.tandemCopyReceive a0 a1 a2) s = execTandemCopyReceive a0 a1 a2 s := rfl
@[simp] theorem exec_witnessFrame (a0 : RodId) (a1 : RodId) (a2 : WitFrame) (s : State) :
    exec (.witnessFrame a0 a1 a2) s = execWitnessFrame a0 a1 a2 s := rfl
@[simp] theorem exec_witnessDecision (a0 : RodId) (a1 : Axis) (s : State) :
    exec (.witnessDecision a0 a1) s = execWitnessDecision a0 a1 s := rfl
@[simp] theorem exec_tandemCopyLost (a0 : RodId) (a1 : Axis) (s : State) :
    exec (.tandemCopyLost a0 a1) s = execTandemCopyLost a0 a1 s := rfl
@[simp] theorem exec_tandemLaneChange (a0 : RodId) (a1 : RodId) (a2 : Bool) (s : State) :
    exec (.tandemLaneChange a0 a1 a2) s = execTandemLaneChange a0 a1 a2 s := rfl
@[simp] theorem exec_uidExchange (a0 : RodId) (a1 : RodId) (a2 : BitVec 128) (s : State) :
    exec (.uidExchange a0 a1 a2) s = execUidExchange a0 a1 a2 s := rfl
@[simp] theorem exec_lockstepWindowEnd (a0 : RodId) (a1 : Fin 5) (a2 : List (Nat × List LsEvent)) (a3 : DWord) (s : State) :
    exec (.lockstepWindowEnd a0 a1 a2 a3) s = execLockstepWindowEnd a0 a1 a2 a3 s := rfl
@[simp] theorem exec_comparatorTest (a0 : RodId) (a1 : List (Nat × List LsEvent)) (a2 : DWord) (s : State) :
    exec (.comparatorTest a0 a1 a2) s = execComparatorTest a0 a1 a2 s := rfl
@[simp] theorem exec_pairSplit (a0 : RodId) (a1 : Nat) (s : State) :
    exec (.pairSplit a0 a1) s = execPairSplit a0 a1 s := rfl
@[simp] theorem exec_pairRejoin (a0 : RodId) (s : State) :
    exec (.pairRejoin a0) s = execPairRejoin a0 s := rfl
@[simp] theorem exec_pairRestart (a0 : RodId) (s : State) :
    exec (.pairRestart a0) s = execPairRestart a0 s := rfl
@[simp] theorem exec_xtest (a0 : RodId) (a1 : Path) (a2 : Word) (s : State) :
    exec (.xtest a0 a1 a2) s = execXtest a0 a1 a2 s := rfl
@[simp] theorem exec_xtestDone (a0 : RodId) (a1 : Option (Nat × Nat)) (a2 : Nat) (s : State) :
    exec (.xtestDone a0 a1 a2) s = execXtestDone a0 a1 a2 s := rfl
@[simp] theorem exec_sealRead (a0 : RodId) (a1 : Byte) (s : State) :
    exec (.sealRead a0 a1) s = execSealRead a0 a1 s := rfl
@[simp] theorem exec_sealResend (a0 : RodId) (s : State) :
    exec (.sealResend a0) s = execSealResend a0 s := rfl
@[simp] theorem exec_sealMessage (a0 : RodId) (a1 : RodId) (a2 : Byte) (s : State) :
    exec (.sealMessage a0 a1 a2) s = execSealMessage a0 a1 a2 s := rfl
@[simp] theorem exec_contactorOpen (a0 : RodId) (s : State) :
    exec (.contactorOpen a0) s = execContactorOpen a0 s := rfl
@[simp] theorem exec_contactorWelded (a0 : RodId) (a1 : Nat) (s : State) :
    exec (.contactorWelded a0 a1) s = execContactorWelded a0 a1 s := rfl
@[simp] theorem exec_contactorTestDue (a0 : RodId) (s : State) :
    exec (.contactorTestDue a0) s = execContactorTestDue a0 s := rfl
@[simp] theorem exec_settleDelayEnd (a0 : RodId) (s : State) :
    exec (.settleDelayEnd a0) s = execSettleDelayEnd a0 s := rfl
@[simp] theorem exec_crystalProven (a0 : RodId) (s : State) :
    exec (.crystalProven a0) s = execCrystalProven a0 s := rfl
@[simp] theorem exec_pllLock (a0 : RodId) (s : State) :
    exec (.pllLock a0) s = execPllLock a0 s := rfl
@[simp] theorem exec_xtalFail (a0 : RodId) (a1 : Nat) (s : State) :
    exec (.xtalFail a0 a1) s = execXtalFail a0 a1 s := rfl
@[simp] theorem exec_pllAFail (a0 : RodId) (a1 : Nat) (a2 : Nat) (s : State) :
    exec (.pllAFail a0 a1 a2) s = execPllAFail a0 a1 a2 s := rfl
@[simp] theorem exec_pllBFail (a0 : RodId) (a1 : Nat) (a2 : Nat) (s : State) :
    exec (.pllBFail a0 a1 a2) s = execPllBFail a0 a1 a2 s := rfl
@[simp] theorem exec_rcFail (a0 : RodId) (s : State) :
    exec (.rcFail a0) s = execRcFail a0 s := rfl
@[simp] theorem exec_rcDetectorClear (a0 : RodId) (s : State) :
    exec (.rcDetectorClear a0) s = execRcDetectorClear a0 s := rfl
@[simp] theorem exec_refclkLost (a0 : RodId) (a1 : Nat) (s : State) :
    exec (.refclkLost a0 a1) s = execRefclkLost a0 a1 s := rfl
@[simp] theorem exec_carryClockLost (a0 : RodId) (a1 : RodId) (s : State) :
    exec (.carryClockLost a0 a1) s = execCarryClockLost a0 a1 s := rfl
@[simp] theorem exec_tandemClockLost (a0 : RodId) (a1 : Nat) (s : State) :
    exec (.tandemClockLost a0 a1) s = execTandemClockLost a0 a1 s := rfl
@[simp] theorem exec_sourceBack (a0 : RodId) (a1 : Nat) (a2 : RodId) (s : State) :
    exec (.sourceBack a0 a1 a2) s = execSourceBack a0 a1 a2 s := rfl
@[simp] theorem exec_clkMeasSel (a0 : RodId) (a1 : Path) (a2 : Word) (s : State) :
    exec (.clkMeasSel a0 a1 a2) s = execClkMeasSel a0 a1 a2 s := rfl
@[simp] theorem exec_measDone (a0 : RodId) (a1 : Nat) (s : State) :
    exec (.measDone a0 a1) s = execMeasDone a0 a1 s := rfl
@[simp] theorem exec_ckoCfg (a0 : RodId) (a1 : Path) (a2 : Word) (s : State) :
    exec (.ckoCfg a0 a1 a2) s = execCkoCfg a0 a1 a2 s := rfl
@[simp] theorem exec_pwrHost (a0 : RodId) (a1 : Path) (a2 : Word) (s : State) :
    exec (.pwrHost a0 a1 a2) s = execPwrHost a0 a1 a2 s := rfl
@[simp] theorem exec_domainPowerUp (a0 : RodId) (a1 : Fin 6) (s : State) :
    exec (.domainPowerUp a0 a1) s = execDomainPowerUp a0 a1 s := rfl
@[simp] theorem exec_domainPowerDown (a0 : RodId) (a1 : Fin 6) (s : State) :
    exec (.domainPowerDown a0 a1) s = execDomainPowerDown a0 a1 s := rfl
@[simp] theorem exec_coreSwitchOpen (a0 : RodId) (s : State) :
    exec (.coreSwitchOpen a0) s = execCoreSwitchOpen a0 s := rfl
@[simp] theorem exec_domainFail (a0 : RodId) (a1 : Fin 6) (s : State) :
    exec (.domainFail a0 a1) s = execDomainFail a0 a1 s := rfl
@[simp] theorem exec_supplyFail (a0 : RodId) (a1 : Nat) (s : State) :
    exec (.supplyFail a0 a1) s = execSupplyFail a0 a1 s := rfl
@[simp] theorem exec_powerOnResetRelease (a0 : RodId) (a1 : BitVec 2) (s : State) :
    exec (.powerOnResetRelease a0 a1) s = execPowerOnResetRelease a0 a1 s := rfl
@[simp] theorem exec_wakeEvent (a0 : RodId) (a1 : BitVec 10) (s : State) :
    exec (.wakeEvent a0 a1) s = execWakeEvent a0 a1 s := rfl
@[simp] theorem exec_wake (a0 : RodId) (s : State) :
    exec (.wake a0) s = execWake a0 s := rfl
@[simp] theorem exec_reset (a0 : RodId) (s : State) :
    exec (.reset a0) s = execReset a0 s := rfl
@[simp] theorem exec_vaonLoss (a0 : RodId) (s : State) :
    exec (.vaonLoss a0) s = execVaonLoss a0 s := rfl
@[simp] theorem exec_close (a0 : RodId) (a1 : Path) (a2 : Byte) (s : State) :
    exec (.close a0 a1 a2) s = execClose a0 a1 a2 s := rfl
@[simp] theorem exec_openL1 (a0 : RodId) (a1 : Path) (a2 : Byte) (s : State) :
    exec (.openL1 a0 a1 a2) s = execOpenL1 a0 a1 a2 s := rfl
@[simp] theorem exec_passwordCheckDone (a0 : RodId) (a1 : Bool) (s : State) :
    exec (.passwordCheckDone a0 a1) s = execPasswordCheckDone a0 a1 s := rfl
@[simp] theorem exec_lockoutEnd (a0 : RodId) (s : State) :
    exec (.lockoutEnd a0) s = execLockoutEnd a0 s := rfl
@[simp] theorem exec_accessIdleTimeout (a0 : RodId) (s : State) :
    exec (.accessIdleTimeout a0) s = execAccessIdleTimeout a0 s := rfl
@[simp] theorem exec_challenge (a0 : RodId) (a1 : Path) (a2 : Byte) (a3 : BitVec 256) (s : State) :
    exec (.challenge a0 a1 a2 a3) s = execChallenge a0 a1 a2 a3 s := rfl
@[simp] theorem exec_challengeExpiry (a0 : RodId) (s : State) :
    exec (.challengeExpiry a0) s = execChallengeExpiry a0 s := rfl
@[simp] theorem exec_respond (a0 : RodId) (a1 : Path) (a2 : Byte) (a3 : Verdict) (s : State) :
    exec (.respond a0 a1 a2 a3) s = execRespond a0 a1 a2 a3 s := rfl
@[simp] theorem exec_applyManifest (a0 : RodId) (a1 : Path) (a2 : Byte) (a3 : Verdict) (a4 : Manifest) (s : State) :
    exec (.applyManifest a0 a1 a2 a3 a4) s = execApplyManifest a0 a1 a2 a3 a4 s := rfl
@[simp] theorem exec_setPassword (a0 : RodId) (a1 : Path) (a2 : Byte) (s : State) :
    exec (.setPassword a0 a1 a2) s = execSetPassword a0 a1 a2 s := rfl
@[simp] theorem exec_updReq (a0 : RodId) (a1 : Path) (a2 : Word) (s : State) :
    exec (.updReq a0 a1 a2) s = execUpdReq a0 a1 a2 s := rfl
@[simp] theorem exec_updateComplete (a0 : RodId) (a1 : Verdict) (s : State) :
    exec (.updateComplete a0 a1) s = execUpdateComplete a0 a1 s := rfl
@[simp] theorem exec_bypass (a0 : RodId) (s : State) :
    exec (.bypass a0) s = execBypass a0 s := rfl
@[simp] theorem exec_idcode (a0 : RodId) (s : State) :
    exec (.idcode a0) s = execIdcode a0 s := rfl
@[simp] theorem exec_samplePreload (a0 : RodId) (s : State) :
    exec (.samplePreload a0) s = execSamplePreload a0 s := rfl
@[simp] theorem exec_extest (a0 : RodId) (s : State) :
    exec (.extest a0) s = execExtest a0 s := rfl
@[simp] theorem exec_wakePortStop (a0 : RodId) (s : State) :
    exec (.wakePortStop a0) s = execWakePortStop a0 s := rfl
@[simp] theorem exec_discardedCommandByte (a0 : RodId) (a1 : Byte) (s : State) :
    exec (.discardedCommandByte a0 a1) s = execDiscardedCommandByte a0 a1 s := rfl
@[simp] theorem exec_correctedMemoryError (a0 : EccAt) (s : State) :
    exec (.correctedMemoryError a0) s = execCorrectedMemoryError a0 s := rfl

end Sys2Proof.Machine
end

