-- ==== Sys2Proof/Laws/Sparse.lean ====
section
/-! SUPPORT. The laws of the sparse tables: a read after a write, and the canonical form, which every operation keeps. -/

namespace Sys2Proof

@[simp] theorem Sparse.get_nil {α : Type} (d : α) (k : Nat) : Sparse.get d [] k = d := rfl

theorem Sparse.get_put {α : Type} (d v : α) (m : Sparse α) (k i : Nat) :
    Sparse.get d (Sparse.put m k v) i = if i = k then v else Sparse.get d m i := by
  induction m with
  | nil => simp [Sparse.put, Sparse.get]
  | cons e t ih =>
    obtain ⟨j, u⟩ := e
    by_cases h : k = j
    · subst h; by_cases h' : i = k <;> simp [Sparse.put, Sparse.get, h']
    · by_cases hl : k < j
      · by_cases h' : i = k <;> simp [Sparse.put, Sparse.get, h, hl, h']
      · by_cases h' : i = k
        · subst h'; simp [Sparse.put, Sparse.get, h, hl, ih]
        · by_cases h'' : i = j <;> simp [Sparse.put, Sparse.get, h, hl, ih, h', h'']
          intro e; omega

theorem Sparse.get_del {α : Type} (d : α) (m : Sparse α) (k i : Nat) :
    Sparse.get d (Sparse.del m k) i = if i = k then d else Sparse.get d m i := by
  induction m with
  | nil => simp [Sparse.del, Sparse.get]
  | cons e t ih =>
    obtain ⟨j, u⟩ := e
    by_cases h : k = j
    · subst h; by_cases h' : i = k
      · subst h'; simpa [Sparse.del] using ih
      · simp [Sparse.del, Sparse.get, ih, h']
    · by_cases h' : i = j
      · subst h'; simp [Sparse.del, Sparse.get, h, Ne.symm h]
      · simp [Sparse.del, Sparse.get, h, ih, h']

/-- What a table reads after a write: the value written at its key, and elsewhere what it read before. -/
theorem Sparse.get_set {α : Type} [DecidableEq α] (d e v : α) (m : Sparse α) (k i : Nat) (he : i = k → e = d) :
    Sparse.get e (Sparse.set d m k v) i = if i = k then v else Sparse.get e m i := by
  unfold Sparse.set
  by_cases hv : v = d
  · rw [if_pos hv, Sparse.get_del]
    by_cases hi : i = k
    · simp [hi, hv, he hi]
    · simp [hi]
  · rw [if_neg hv, Sparse.get_put]

theorem Sparse.above_put {α : Type} (m : Sparse α) (j k : Nat) (v : α) (hj : j < k) (h : Sparse.above j m = true) :
    Sparse.above j (Sparse.put m k v) = true := by
  induction m with
  | nil => simpa [Sparse.put, Sparse.above] using hj
  | cons e t ih =>
    obtain ⟨i, u⟩ := e
    simp only [Sparse.above, Bool.and_eq_true, decide_eq_true_eq] at h
    unfold Sparse.put
    split
    · simp [Sparse.above, hj, h.2]
    · split
      · simp [Sparse.above, hj, h]
      · simp [Sparse.above, h.1, ih h.2]

theorem Sparse.above_del {α : Type} (m : Sparse α) (j k : Nat) (h : Sparse.above j m = true) :
    Sparse.above j (Sparse.del m k) = true := by
  induction m with
  | nil => exact h
  | cons e t ih =>
    obtain ⟨i, u⟩ := e
    simp only [Sparse.above, Bool.and_eq_true, decide_eq_true_eq] at h
    unfold Sparse.del
    split
    · exact ih h.2
    · simp [Sparse.above, h.1, ih h.2]

theorem Sparse.above_mono {α : Type} (m : Sparse α) (i j : Nat) (hij : i < j) (h : Sparse.above j m = true) :
    Sparse.above i m = true := by
  induction m with
  | nil => rfl
  | cons e t ih =>
    simp only [Sparse.above, Bool.and_eq_true, decide_eq_true_eq] at h ⊢
    exact ⟨by omega, ih h.2⟩

theorem Sparse.wf_put {α : Type} [DecidableEq α] (d : Nat → α) (m : Sparse α) (k : Nat) (v : α) (hv : v ≠ d k)
    (h : Sparse.wf d m = true) : Sparse.wf d (Sparse.put m k v) = true := by
  induction m with
  | nil => simp [Sparse.put, Sparse.wf, Sparse.above, hv]
  | cons e t ih =>
    obtain ⟨j, u⟩ := e
    simp only [Sparse.wf, Bool.and_eq_true, decide_eq_true_eq] at h
    unfold Sparse.put
    split
    · rename_i hk; subst hk; simp [Sparse.wf, hv, h.1.2, h.2]
    · split
      · rename_i hl
        simp [Sparse.wf, Sparse.above, hv, h, hl, Sparse.above_mono t k j hl h.1.2]
      · simp [Sparse.wf, h.1.1, ih h.2, Sparse.above_put t j k v (by omega) h.1.2]

theorem Sparse.wf_del {α : Type} [DecidableEq α] (d : Nat → α) (m : Sparse α) (k : Nat)
    (h : Sparse.wf d m = true) : Sparse.wf d (Sparse.del m k) = true := by
  induction m with
  | nil => exact h
  | cons e t ih =>
    obtain ⟨j, u⟩ := e
    simp only [Sparse.wf, Bool.and_eq_true, decide_eq_true_eq] at h
    unfold Sparse.del
    split
    · exact ih h.2
    · simp [Sparse.wf, h.1.1, ih h.2, Sparse.above_del t j k h.1.2]

/-- A write keeps the canonical form. -/
theorem Sparse.wf_set {α : Type} [DecidableEq α] (d : Nat → α) (m : Sparse α) (k : Nat) (v : α)
    (h : Sparse.wf d m = true) : Sparse.wf d (Sparse.set (d k) m k v) = true := by
  unfold Sparse.set
  split
  · exact Sparse.wf_del d m k h
  · rename_i hv; exact Sparse.wf_put d m k v hv h

theorem Sparse.rising_put {α : Type} (m : Sparse α) (k : Nat) (v : α) (h : Sparse.rising m = true) :
    Sparse.rising (Sparse.put m k v) = true := by
  induction m with
  | nil => rfl
  | cons e t ih =>
    obtain ⟨j, u⟩ := e
    simp only [Sparse.rising, Bool.and_eq_true] at h
    unfold Sparse.put
    split
    · rename_i hk; subst hk; simp [Sparse.rising, h]
    · split
      · rename_i hl
        simp [Sparse.rising, Sparse.above, h, hl, Sparse.above_mono t k j hl h.1]
      · simp [Sparse.rising, ih h.2, Sparse.above_put t j k v (by omega) h.1]

theorem Sparse.get_above {α : Type} (d : α) (m : Sparse α) (k i : Nat) (h : Sparse.above k m = true) (hi : i ≤ k) :
    Sparse.get d m i = d := by
  induction m with
  | nil => rfl
  | cons e t ih =>
    obtain ⟨j, u⟩ := e
    simp only [Sparse.above, Bool.and_eq_true, decide_eq_true_eq] at h
    have hne : i ≠ j := by omega
    simp [Sparse.get, hne, ih h.2]

/-- In canonical form, tables that read alike are equal: equal contents are equal data. -/
theorem Sparse.eq_of_get {α : Type} [DecidableEq α] (d : Nat → α) (m m' : Sparse α) (h : Sparse.wf d m = true)
    (h' : Sparse.wf d m' = true) (hg : ∀ k, Sparse.get (d k) m k = Sparse.get (d k) m' k) : m = m' := by
  induction m generalizing m' with
  | nil =>
    cases m' with
    | nil => rfl
    | cons e t =>
      obtain ⟨j, u⟩ := e
      simp only [Sparse.wf, Bool.and_eq_true, decide_eq_true_eq] at h'
      exact absurd (by simpa [Sparse.get] using (hg j).symm) h'.1.1
  | cons e t ih =>
    obtain ⟨j, u⟩ := e
    simp only [Sparse.wf, Bool.and_eq_true, decide_eq_true_eq] at h
    cases m' with
    | nil => exact absurd (by simpa [Sparse.get] using hg j) h.1.1
    | cons e' t' =>
      obtain ⟨j', u'⟩ := e'
      simp only [Sparse.wf, Bool.and_eq_true, decide_eq_true_eq] at h'
      have hj : j = j' := by
        rcases Nat.lt_trichotomy j j' with hl | he | hl
        · have := hg j
          have hne : j ≠ j' := by omega
          simp only [Sparse.get, if_true, if_neg hne] at this
          exact absurd (this.trans (Sparse.get_above _ t' j' j h'.1.2 (by omega))) h.1.1
        · exact he
        · have := hg j'
          have hne : j' ≠ j := by omega
          simp only [Sparse.get, if_true, if_neg hne] at this
          exact absurd (this.symm.trans (Sparse.get_above _ t j j' h.1.2 (by omega))) h'.1.1
      subst hj
      have hu : u = u' := by simpa [Sparse.get] using hg j
      subst hu
      refine congrArg _ (ih t' h.2 h'.2 fun k => ?_)
      by_cases hk : k = j
      · subst hk
        rw [Sparse.get_above _ t k k h.1.2 (by omega), Sparse.get_above _ t' k k h'.1.2 (by omega)]
      · simpa [Sparse.get, hk] using hg k

end Sys2Proof
end

