-- ==== Sys2Proof/Laws/State.lean ====
section
/-! SUPPORT. What each update of the state leaves of each of its fields, one lemma a field, true by computation. -/

namespace Sys2Proof.Machine

/-! ### The module -/

@[simp] theorem State.rod_putRod (s : State) (r : RodId) (ρ : Rod) : (s.putRod r ρ).rod r = ρ := by cases r <;> rfl
theorem State.rod_putRod_ne (s : State) (r q : RodId) (ρ : Rod) (h : q ≠ r) : (s.putRod r ρ).rod q = s.rod q := by
  cases r <;> cases q <;> first | rfl | exact absurd rfl h
@[simp] theorem State.pending_putRod (s : State) (r : RodId) (ρ : Rod) : (s.putRod r ρ).pending = s.pending := by
  cases r <;> rfl
@[simp] theorem State.putRod_rod (s : State) (r : RodId) : s.putRod r (s.rod r) = s := by cases r <;> rfl
@[simp] theorem State.putRod_putRod (s : State) (r : RodId) (ρ ρ' : Rod) : (s.putRod r ρ).putRod r ρ' = s.putRod r ρ' := by
  cases r <;> rfl
theorem State.rod_pending (s : State) (r : RodId) (l : List Instr) : ({ s with pending := l } : State).rod r = s.rod r := by
  cases r <;> rfl

/-! ### Registers -/

@[simp] theorem Rod.pw_me (ρ : Rod) (a : Nat) (v : Word) : (ρ.pw a v).me = ρ.me := rfl
@[simp] theorem Rod.pw_ftn (ρ : Rod) (a : Nat) (v : Word) : (ρ.pw a v).ftn = ρ.ftn := rfl
@[simp] theorem Rod.pw_regs (ρ : Rod) (a : Nat) (v : Word) : (ρ.pw a v).regs = Sparse.set (regReset a) ρ.regs a v := rfl
@[simp] theorem Rod.pw_shadow (ρ : Rod) (a : Nat) (v : Word) : (ρ.pw a v).shadow = ρ.shadow := rfl
@[simp] theorem Rod.pw_hiCap (ρ : Rod) (a : Nat) (v : Word) : (ρ.pw a v).hiCap = ρ.hiCap := rfl
@[simp] theorem Rod.pw_loPend (ρ : Rod) (a : Nat) (v : Word) : (ρ.pw a v).loPend = ρ.loPend := rfl
@[simp] theorem Rod.pw_cmtReq (ρ : Rod) (a : Nat) (v : Word) : (ρ.pw a v).cmtReq = ρ.cmtReq := rfl
@[simp] theorem Rod.pw_armed (ρ : Rod) (a : Nat) (v : Word) : (ρ.pw a v).armed = ρ.armed := rfl
@[simp] theorem Rod.pw_out (ρ : Rod) (a : Nat) (v : Word) : (ρ.pw a v).out = ρ.out := rfl
@[simp] theorem Rod.pw_fresh (ρ : Rod) (a : Nat) (v : Word) : (ρ.pw a v).fresh = ρ.fresh := rfl
@[simp] theorem Rod.pw_recBuf (ρ : Rod) (a : Nat) (v : Word) : (ρ.pw a v).recBuf = ρ.recBuf := rfl
@[simp] theorem Rod.pw_log (ρ : Rod) (a : Nat) (v : Word) : (ρ.pw a v).log = ρ.log := rfl
@[simp] theorem Rod.pw_lost (ρ : Rod) (a : Nat) (v : Word) : (ρ.pw a v).lost = ρ.lost := rfl
@[simp] theorem Rod.pw_lostSev (ρ : Rod) (a : Nat) (v : Word) : (ρ.pw a v).lostSev = ρ.lostSev := rfl
@[simp] theorem Rod.pw_flash (ρ : Rod) (a : Nat) (v : Word) : (ρ.pw a v).flash = ρ.flash := rfl
@[simp] theorem Rod.pw_flPend (ρ : Rod) (a : Nat) (v : Word) : (ρ.pw a v).flPend = ρ.flPend := rfl
@[simp] theorem Rod.pw_tb (ρ : Rod) (a : Nat) (v : Word) : (ρ.pw a v).tb = ρ.tb := rfl
@[simp] theorem Rod.pw_md (ρ : Rod) (a : Nat) (v : Word) : (ρ.pw a v).md = ρ.md := rfl
@[simp] theorem Rod.pw_aon (ρ : Rod) (a : Nat) (v : Word) : (ρ.pw a v).aon = ρ.aon := rfl
@[simp] theorem Rod.pw_ck (ρ : Rod) (a : Nat) (v : Word) : (ρ.pw a v).ck = ρ.ck := rfl
@[simp] theorem Rod.pw_hb (ρ : Rod) (a : Nat) (v : Word) : (ρ.pw a v).hb = ρ.hb := rfl
@[simp] theorem Rod.pw_die (ρ : Rod) (a : Nat) (v : Word) : (ρ.pw a v).die = ρ.die := rfl
@[simp] theorem Rod.pw_fb (ρ : Rod) (a : Nat) (v : Word) : (ρ.pw a v).fb = ρ.fb := rfl
@[simp] theorem Rod.pw_pmp (ρ : Rod) (a : Nat) (v : Word) : (ρ.pw a v).pmp = ρ.pmp := rfl
@[simp] theorem Rod.pw_sf (ρ : Rod) (a : Nat) (v : Word) : (ρ.pw a v).sf = ρ.sf := rfl
@[simp] theorem Rod.pw_red (ρ : Rod) (a : Nat) (v : Word) : (ρ.pw a v).red = ρ.red := rfl
@[simp] theorem Rod.pw_hp (ρ : Rod) (a : Nat) (v : Word) : (ρ.pw a v).hp = ρ.hp := rfl
@[simp] theorem Rod.pw_ct (ρ : Rod) (a : Nat) (v : Word) : (ρ.pw a v).ct = ρ.ct := rfl
@[simp] theorem Rod.pw_fr (ρ : Rod) (a : Nat) (v : Word) : (ρ.pw a v).fr = ρ.fr := rfl
@[simp] theorem Rod.pw_ls (ρ : Rod) (a : Nat) (v : Word) : (ρ.pw a v).ls = ρ.ls := rfl
@[simp] theorem Rod.pw_sec (ρ : Rod) (a : Nat) (v : Word) : (ρ.pw a v).sec = ρ.sec := rfl
@[simp] theorem Rod.pw_otp (ρ : Rod) (a : Nat) (v : Word) : (ρ.pw a v).otp = ρ.otp := rfl
@[simp] theorem Rod.pw_slots (ρ : Rod) (a : Nat) (v : Word) : (ρ.pw a v).slots = ρ.slots := rfl
@[simp] theorem Rod.pw_rk (ρ : Rod) (a : Nat) (v : Word) : (ρ.pw a v).rk = ρ.rk := rfl
@[simp] theorem Rod.pw_pwm (ρ : Rod) (a : Nat) (v : Word) : (ρ.pw a v).pwm = ρ.pwm := rfl
@[simp] theorem Rod.pw_pba (ρ : Rod) (a : Nat) (v : Word) : (ρ.pw a v).pba = ρ.pba := rfl

@[simp] theorem Rod.p_me (ρ : Rod) (f : Fld) (v : Nat) : (ρ.p f v).me = ρ.me := rfl
@[simp] theorem Rod.p_ftn (ρ : Rod) (f : Fld) (v : Nat) : (ρ.p f v).ftn = ρ.ftn := rfl
@[simp] theorem Rod.p_shadow (ρ : Rod) (f : Fld) (v : Nat) : (ρ.p f v).shadow = ρ.shadow := rfl
@[simp] theorem Rod.p_hiCap (ρ : Rod) (f : Fld) (v : Nat) : (ρ.p f v).hiCap = ρ.hiCap := rfl
@[simp] theorem Rod.p_loPend (ρ : Rod) (f : Fld) (v : Nat) : (ρ.p f v).loPend = ρ.loPend := rfl
@[simp] theorem Rod.p_cmtReq (ρ : Rod) (f : Fld) (v : Nat) : (ρ.p f v).cmtReq = ρ.cmtReq := rfl
@[simp] theorem Rod.p_armed (ρ : Rod) (f : Fld) (v : Nat) : (ρ.p f v).armed = ρ.armed := rfl
@[simp] theorem Rod.p_out (ρ : Rod) (f : Fld) (v : Nat) : (ρ.p f v).out = ρ.out := rfl
@[simp] theorem Rod.p_fresh (ρ : Rod) (f : Fld) (v : Nat) : (ρ.p f v).fresh = ρ.fresh := rfl
@[simp] theorem Rod.p_recBuf (ρ : Rod) (f : Fld) (v : Nat) : (ρ.p f v).recBuf = ρ.recBuf := rfl
@[simp] theorem Rod.p_log (ρ : Rod) (f : Fld) (v : Nat) : (ρ.p f v).log = ρ.log := rfl
@[simp] theorem Rod.p_lost (ρ : Rod) (f : Fld) (v : Nat) : (ρ.p f v).lost = ρ.lost := rfl
@[simp] theorem Rod.p_lostSev (ρ : Rod) (f : Fld) (v : Nat) : (ρ.p f v).lostSev = ρ.lostSev := rfl
@[simp] theorem Rod.p_flash (ρ : Rod) (f : Fld) (v : Nat) : (ρ.p f v).flash = ρ.flash := rfl
@[simp] theorem Rod.p_flPend (ρ : Rod) (f : Fld) (v : Nat) : (ρ.p f v).flPend = ρ.flPend := rfl
@[simp] theorem Rod.p_tb (ρ : Rod) (f : Fld) (v : Nat) : (ρ.p f v).tb = ρ.tb := rfl
@[simp] theorem Rod.p_md (ρ : Rod) (f : Fld) (v : Nat) : (ρ.p f v).md = ρ.md := rfl
@[simp] theorem Rod.p_aon (ρ : Rod) (f : Fld) (v : Nat) : (ρ.p f v).aon = ρ.aon := rfl
@[simp] theorem Rod.p_ck (ρ : Rod) (f : Fld) (v : Nat) : (ρ.p f v).ck = ρ.ck := rfl
@[simp] theorem Rod.p_hb (ρ : Rod) (f : Fld) (v : Nat) : (ρ.p f v).hb = ρ.hb := rfl
@[simp] theorem Rod.p_die (ρ : Rod) (f : Fld) (v : Nat) : (ρ.p f v).die = ρ.die := rfl
@[simp] theorem Rod.p_fb (ρ : Rod) (f : Fld) (v : Nat) : (ρ.p f v).fb = ρ.fb := rfl
@[simp] theorem Rod.p_pmp (ρ : Rod) (f : Fld) (v : Nat) : (ρ.p f v).pmp = ρ.pmp := rfl
@[simp] theorem Rod.p_sf (ρ : Rod) (f : Fld) (v : Nat) : (ρ.p f v).sf = ρ.sf := rfl
@[simp] theorem Rod.p_red (ρ : Rod) (f : Fld) (v : Nat) : (ρ.p f v).red = ρ.red := rfl
@[simp] theorem Rod.p_hp (ρ : Rod) (f : Fld) (v : Nat) : (ρ.p f v).hp = ρ.hp := rfl
@[simp] theorem Rod.p_ct (ρ : Rod) (f : Fld) (v : Nat) : (ρ.p f v).ct = ρ.ct := rfl
@[simp] theorem Rod.p_fr (ρ : Rod) (f : Fld) (v : Nat) : (ρ.p f v).fr = ρ.fr := rfl
@[simp] theorem Rod.p_ls (ρ : Rod) (f : Fld) (v : Nat) : (ρ.p f v).ls = ρ.ls := rfl
@[simp] theorem Rod.p_sec (ρ : Rod) (f : Fld) (v : Nat) : (ρ.p f v).sec = ρ.sec := rfl
@[simp] theorem Rod.p_otp (ρ : Rod) (f : Fld) (v : Nat) : (ρ.p f v).otp = ρ.otp := rfl
@[simp] theorem Rod.p_slots (ρ : Rod) (f : Fld) (v : Nat) : (ρ.p f v).slots = ρ.slots := rfl
@[simp] theorem Rod.p_rk (ρ : Rod) (f : Fld) (v : Nat) : (ρ.p f v).rk = ρ.rk := rfl
@[simp] theorem Rod.p_pwm (ρ : Rod) (f : Fld) (v : Nat) : (ρ.p f v).pwm = ρ.pwm := rfl
@[simp] theorem Rod.p_pba (ρ : Rod) (f : Fld) (v : Nat) : (ρ.p f v).pba = ρ.pba := rfl

/-! ### Messages and records -/

@[simp] theorem Rod.send_me (ρ : Rod) (o : Out) : (ρ.send o).me = ρ.me := rfl
@[simp] theorem Rod.send_ftn (ρ : Rod) (o : Out) : (ρ.send o).ftn = ρ.ftn := rfl
@[simp] theorem Rod.send_regs (ρ : Rod) (o : Out) : (ρ.send o).regs = ρ.regs := rfl
@[simp] theorem Rod.send_shadow (ρ : Rod) (o : Out) : (ρ.send o).shadow = ρ.shadow := rfl
@[simp] theorem Rod.send_hiCap (ρ : Rod) (o : Out) : (ρ.send o).hiCap = ρ.hiCap := rfl
@[simp] theorem Rod.send_loPend (ρ : Rod) (o : Out) : (ρ.send o).loPend = ρ.loPend := rfl
@[simp] theorem Rod.send_cmtReq (ρ : Rod) (o : Out) : (ρ.send o).cmtReq = ρ.cmtReq := rfl
@[simp] theorem Rod.send_armed (ρ : Rod) (o : Out) : (ρ.send o).armed = ρ.armed := rfl
@[simp] theorem Rod.send_out (ρ : Rod) (o : Out) : (ρ.send o).out = ρ.out ++ [o] := rfl
@[simp] theorem Rod.send_fresh (ρ : Rod) (o : Out) : (ρ.send o).fresh = ρ.fresh := rfl
@[simp] theorem Rod.send_recBuf (ρ : Rod) (o : Out) : (ρ.send o).recBuf = ρ.recBuf := rfl
@[simp] theorem Rod.send_log (ρ : Rod) (o : Out) : (ρ.send o).log = ρ.log := rfl
@[simp] theorem Rod.send_lost (ρ : Rod) (o : Out) : (ρ.send o).lost = ρ.lost := rfl
@[simp] theorem Rod.send_lostSev (ρ : Rod) (o : Out) : (ρ.send o).lostSev = ρ.lostSev := rfl
@[simp] theorem Rod.send_flash (ρ : Rod) (o : Out) : (ρ.send o).flash = ρ.flash := rfl
@[simp] theorem Rod.send_flPend (ρ : Rod) (o : Out) : (ρ.send o).flPend = ρ.flPend := rfl
@[simp] theorem Rod.send_tb (ρ : Rod) (o : Out) : (ρ.send o).tb = ρ.tb := rfl
@[simp] theorem Rod.send_md (ρ : Rod) (o : Out) : (ρ.send o).md = ρ.md := rfl
@[simp] theorem Rod.send_aon (ρ : Rod) (o : Out) : (ρ.send o).aon = ρ.aon := rfl
@[simp] theorem Rod.send_ck (ρ : Rod) (o : Out) : (ρ.send o).ck = ρ.ck := rfl
@[simp] theorem Rod.send_hb (ρ : Rod) (o : Out) : (ρ.send o).hb = ρ.hb := rfl
@[simp] theorem Rod.send_die (ρ : Rod) (o : Out) : (ρ.send o).die = ρ.die := rfl
@[simp] theorem Rod.send_fb (ρ : Rod) (o : Out) : (ρ.send o).fb = ρ.fb := rfl
@[simp] theorem Rod.send_pmp (ρ : Rod) (o : Out) : (ρ.send o).pmp = ρ.pmp := rfl
@[simp] theorem Rod.send_sf (ρ : Rod) (o : Out) : (ρ.send o).sf = ρ.sf := rfl
@[simp] theorem Rod.send_red (ρ : Rod) (o : Out) : (ρ.send o).red = ρ.red := rfl
@[simp] theorem Rod.send_hp (ρ : Rod) (o : Out) : (ρ.send o).hp = ρ.hp := rfl
@[simp] theorem Rod.send_ct (ρ : Rod) (o : Out) : (ρ.send o).ct = ρ.ct := rfl
@[simp] theorem Rod.send_fr (ρ : Rod) (o : Out) : (ρ.send o).fr = ρ.fr := rfl
@[simp] theorem Rod.send_ls (ρ : Rod) (o : Out) : (ρ.send o).ls = ρ.ls := rfl
@[simp] theorem Rod.send_sec (ρ : Rod) (o : Out) : (ρ.send o).sec = ρ.sec := rfl
@[simp] theorem Rod.send_otp (ρ : Rod) (o : Out) : (ρ.send o).otp = ρ.otp := rfl
@[simp] theorem Rod.send_slots (ρ : Rod) (o : Out) : (ρ.send o).slots = ρ.slots := rfl
@[simp] theorem Rod.send_rk (ρ : Rod) (o : Out) : (ρ.send o).rk = ρ.rk := rfl
@[simp] theorem Rod.send_pwm (ρ : Rod) (o : Out) : (ρ.send o).pwm = ρ.pwm := rfl
@[simp] theorem Rod.send_pba (ρ : Rod) (o : Out) : (ρ.send o).pba = ρ.pba := rfl

@[simp] theorem Rod.fltAP_me (ρ : Rod) (c sv pg ax ph : Nat) (d : List (Nat × Nat × Nat)) : (ρ.fltAP c sv pg ax ph d).me = ρ.me := rfl
@[simp] theorem Rod.fltAP_ftn (ρ : Rod) (c sv pg ax ph : Nat) (d : List (Nat × Nat × Nat)) : (ρ.fltAP c sv pg ax ph d).ftn = ρ.ftn := rfl
@[simp] theorem Rod.fltAP_regs (ρ : Rod) (c sv pg ax ph : Nat) (d : List (Nat × Nat × Nat)) : (ρ.fltAP c sv pg ax ph d).regs = ρ.regs := rfl
@[simp] theorem Rod.fltAP_shadow (ρ : Rod) (c sv pg ax ph : Nat) (d : List (Nat × Nat × Nat)) : (ρ.fltAP c sv pg ax ph d).shadow = ρ.shadow := rfl
@[simp] theorem Rod.fltAP_hiCap (ρ : Rod) (c sv pg ax ph : Nat) (d : List (Nat × Nat × Nat)) : (ρ.fltAP c sv pg ax ph d).hiCap = ρ.hiCap := rfl
@[simp] theorem Rod.fltAP_loPend (ρ : Rod) (c sv pg ax ph : Nat) (d : List (Nat × Nat × Nat)) : (ρ.fltAP c sv pg ax ph d).loPend = ρ.loPend := rfl
@[simp] theorem Rod.fltAP_cmtReq (ρ : Rod) (c sv pg ax ph : Nat) (d : List (Nat × Nat × Nat)) : (ρ.fltAP c sv pg ax ph d).cmtReq = ρ.cmtReq := rfl
@[simp] theorem Rod.fltAP_armed (ρ : Rod) (c sv pg ax ph : Nat) (d : List (Nat × Nat × Nat)) : (ρ.fltAP c sv pg ax ph d).armed = ρ.armed := rfl
@[simp] theorem Rod.fltAP_out (ρ : Rod) (c sv pg ax ph : Nat) (d : List (Nat × Nat × Nat)) : (ρ.fltAP c sv pg ax ph d).out = ρ.out := rfl
@[simp] theorem Rod.fltAP_fresh (ρ : Rod) (c sv pg ax ph : Nat) (d : List (Nat × Nat × Nat)) : (ρ.fltAP c sv pg ax ph d).fresh = ρ.fresh := rfl
@[simp] theorem Rod.fltAP_log (ρ : Rod) (c sv pg ax ph : Nat) (d : List (Nat × Nat × Nat)) : (ρ.fltAP c sv pg ax ph d).log = ρ.log := rfl
@[simp] theorem Rod.fltAP_lost (ρ : Rod) (c sv pg ax ph : Nat) (d : List (Nat × Nat × Nat)) : (ρ.fltAP c sv pg ax ph d).lost = ρ.lost := rfl
@[simp] theorem Rod.fltAP_lostSev (ρ : Rod) (c sv pg ax ph : Nat) (d : List (Nat × Nat × Nat)) : (ρ.fltAP c sv pg ax ph d).lostSev = ρ.lostSev := rfl
@[simp] theorem Rod.fltAP_flash (ρ : Rod) (c sv pg ax ph : Nat) (d : List (Nat × Nat × Nat)) : (ρ.fltAP c sv pg ax ph d).flash = ρ.flash := rfl
@[simp] theorem Rod.fltAP_flPend (ρ : Rod) (c sv pg ax ph : Nat) (d : List (Nat × Nat × Nat)) : (ρ.fltAP c sv pg ax ph d).flPend = ρ.flPend := rfl
@[simp] theorem Rod.fltAP_tb (ρ : Rod) (c sv pg ax ph : Nat) (d : List (Nat × Nat × Nat)) : (ρ.fltAP c sv pg ax ph d).tb = ρ.tb := rfl
@[simp] theorem Rod.fltAP_md (ρ : Rod) (c sv pg ax ph : Nat) (d : List (Nat × Nat × Nat)) : (ρ.fltAP c sv pg ax ph d).md = ρ.md := rfl
@[simp] theorem Rod.fltAP_aon (ρ : Rod) (c sv pg ax ph : Nat) (d : List (Nat × Nat × Nat)) : (ρ.fltAP c sv pg ax ph d).aon = ρ.aon := rfl
@[simp] theorem Rod.fltAP_ck (ρ : Rod) (c sv pg ax ph : Nat) (d : List (Nat × Nat × Nat)) : (ρ.fltAP c sv pg ax ph d).ck = ρ.ck := rfl
@[simp] theorem Rod.fltAP_hb (ρ : Rod) (c sv pg ax ph : Nat) (d : List (Nat × Nat × Nat)) : (ρ.fltAP c sv pg ax ph d).hb = ρ.hb := rfl
@[simp] theorem Rod.fltAP_die (ρ : Rod) (c sv pg ax ph : Nat) (d : List (Nat × Nat × Nat)) : (ρ.fltAP c sv pg ax ph d).die = ρ.die := rfl
@[simp] theorem Rod.fltAP_fb (ρ : Rod) (c sv pg ax ph : Nat) (d : List (Nat × Nat × Nat)) : (ρ.fltAP c sv pg ax ph d).fb = ρ.fb := rfl
@[simp] theorem Rod.fltAP_pmp (ρ : Rod) (c sv pg ax ph : Nat) (d : List (Nat × Nat × Nat)) : (ρ.fltAP c sv pg ax ph d).pmp = ρ.pmp := rfl
@[simp] theorem Rod.fltAP_sf (ρ : Rod) (c sv pg ax ph : Nat) (d : List (Nat × Nat × Nat)) : (ρ.fltAP c sv pg ax ph d).sf = ρ.sf := rfl
@[simp] theorem Rod.fltAP_red (ρ : Rod) (c sv pg ax ph : Nat) (d : List (Nat × Nat × Nat)) : (ρ.fltAP c sv pg ax ph d).red = ρ.red := rfl
@[simp] theorem Rod.fltAP_hp (ρ : Rod) (c sv pg ax ph : Nat) (d : List (Nat × Nat × Nat)) : (ρ.fltAP c sv pg ax ph d).hp = ρ.hp := rfl
@[simp] theorem Rod.fltAP_ct (ρ : Rod) (c sv pg ax ph : Nat) (d : List (Nat × Nat × Nat)) : (ρ.fltAP c sv pg ax ph d).ct = ρ.ct := rfl
@[simp] theorem Rod.fltAP_fr (ρ : Rod) (c sv pg ax ph : Nat) (d : List (Nat × Nat × Nat)) : (ρ.fltAP c sv pg ax ph d).fr = ρ.fr := rfl
@[simp] theorem Rod.fltAP_ls (ρ : Rod) (c sv pg ax ph : Nat) (d : List (Nat × Nat × Nat)) : (ρ.fltAP c sv pg ax ph d).ls = ρ.ls := rfl
@[simp] theorem Rod.fltAP_sec (ρ : Rod) (c sv pg ax ph : Nat) (d : List (Nat × Nat × Nat)) : (ρ.fltAP c sv pg ax ph d).sec = ρ.sec := rfl
@[simp] theorem Rod.fltAP_otp (ρ : Rod) (c sv pg ax ph : Nat) (d : List (Nat × Nat × Nat)) : (ρ.fltAP c sv pg ax ph d).otp = ρ.otp := rfl
@[simp] theorem Rod.fltAP_slots (ρ : Rod) (c sv pg ax ph : Nat) (d : List (Nat × Nat × Nat)) : (ρ.fltAP c sv pg ax ph d).slots = ρ.slots := rfl
@[simp] theorem Rod.fltAP_rk (ρ : Rod) (c sv pg ax ph : Nat) (d : List (Nat × Nat × Nat)) : (ρ.fltAP c sv pg ax ph d).rk = ρ.rk := rfl
@[simp] theorem Rod.fltAP_pwm (ρ : Rod) (c sv pg ax ph : Nat) (d : List (Nat × Nat × Nat)) : (ρ.fltAP c sv pg ax ph d).pwm = ρ.pwm := rfl
@[simp] theorem Rod.fltAP_pba (ρ : Rod) (c sv pg ax ph : Nat) (d : List (Nat × Nat × Nat)) : (ρ.fltAP c sv pg ax ph d).pba = ρ.pba := rfl

end Sys2Proof.Machine
end

