-- ==== Sys2Proof/Laws/Ops.lean ====
section
/-! SUPPORT. The shared operations over one rod, one law each: what a register or field reads after a write, and what an
interrupt, a captured error and the records of a command change and leave. -/

namespace Sys2Proof.Machine

/-! ### Fields of words -/

theorem natBits_testBit (x lo w i : Nat) : (natBits x lo w).testBit i = (decide (i < w) && x.testBit (lo + i)) := by
  unfold natBits
  rw [Nat.testBit_mod_two_pow, Nat.testBit_div_two_pow, Nat.add_comm]

theorem wMask_getLsbD (lo w i : Nat) (h : lo + w ≤ 32) :
    (wMask lo w).getLsbD i = (decide (lo ≤ i) && decide (i < lo + w)) := by
  unfold wMask
  rw [BitVec.getLsbD_shiftLeft]
  simp only [BitVec.getLsbD_ofNat, Nat.testBit_two_pow_sub_one]
  by_cases h1 : lo ≤ i <;> by_cases h2 : i < lo + w <;> simp [h1, h2] <;> omega

theorem wPut_getLsbD (x : Word) (lo w v i : Nat) (h : lo + w ≤ 32) :
    (wPut x lo w v).getLsbD i =
      if lo ≤ i ∧ i < lo + w then v.testBit (i - lo) else x.getLsbD i := by
  unfold wPut
  simp only [BitVec.getLsbD_or, BitVec.getLsbD_and, BitVec.getLsbD_not, wMask_getLsbD _ _ _ h,
    BitVec.getLsbD_shiftLeft, BitVec.getLsbD_ofNat, Nat.testBit_mod_two_pow]
  by_cases hi : i < 32
  · by_cases h1 : lo ≤ i <;> by_cases h2 : i < lo + w
    · have h3 : i - lo < w := by omega
      have h4 : i - lo < 32 := by omega
      have h5 : ¬ i < lo := by omega
      simp [hi, h1, h2, h3, h4, h5]
    · have h3 : ¬ i - lo < w := by omega
      simp [hi, h1, h2, h3]
    · have h5 : i < lo := by omega
      simp [hi, h1, h2, h5]
    · have h5 : i < lo := by omega
      simp [hi, h1, h2, h5]
  · have h1 : ¬ i < lo + w := by omega
    have h2 : x.getLsbD i = false := BitVec.getLsbD_of_ge x i (by omega)
    simp [hi, h1, h2]

theorem wBits_testBit (x : Word) (lo w i : Nat) :
    (wBits x lo w).testBit i = (decide (i < w) && x.getLsbD (lo + i)) := by
  unfold wBits
  rw [natBits_testBit, BitVec.testBit_toNat]

/-- A field reads the value written to it. -/
theorem wBits_wPut (x : Word) (lo w v : Nat) (h : lo + w ≤ 32) : wBits (wPut x lo w v) lo w = v % 2 ^ w := by
  apply Nat.eq_of_testBit_eq
  intro i
  rw [wBits_testBit, wPut_getLsbD _ _ _ _ _ h, Nat.testBit_mod_two_pow]
  by_cases hi : i < w
  · simp [hi]
  · simp [hi]

/-- A write to one field leaves a field that shares no bit with it. -/
theorem wBits_wPut_ne (x : Word) (lo w v lo' w' : Nat) (h : lo + w ≤ 32) (hd : lo' + w' ≤ lo ∨ lo + w ≤ lo') :
    wBits (wPut x lo w v) lo' w' = wBits x lo' w' := by
  apply Nat.eq_of_testBit_eq
  intro i
  rw [wBits_testBit, wBits_testBit, wPut_getLsbD _ _ _ _ _ h]
  by_cases hi : i < w'
  · rw [if_neg (by omega)]
  · simp [hi]

theorem wBits_lt (x : Word) (lo w : Nat) : wBits x lo w < 2 ^ w := Nat.mod_lt _ (Nat.two_pow_pos w)

/-! ### Registers -/

theorem Rod.gw_pw (ρ : Rod) (a i : Nat) (v : Word) : (ρ.pw a v).gw i = if i = a then v else ρ.gw i := by
  unfold Rod.gw
  rw [Rod.pw_regs, Sparse.get_set _ _ _ _ _ _ (fun h => by rw [h])]

@[simp] theorem Rod.gw_pw_same (ρ : Rod) (a : Nat) (v : Word) : (ρ.pw a v).gw a = v := by rw [Rod.gw_pw, if_pos rfl]

theorem Rod.gw_pw_ne (ρ : Rod) (a i : Nat) (v : Word) (h : i ≠ a) : (ρ.pw a v).gw i = ρ.gw i := by
  rw [Rod.gw_pw, if_neg h]

theorem Rod.gw_p_ne (ρ : Rod) (f : Fld) (i v : Nat) (h : i ≠ f.addr) : (ρ.p f v).gw i = ρ.gw i :=
  Rod.gw_pw_ne _ _ _ _ h

/-- A field reads the value written to it, cut to its width. -/
theorem Rod.g_p (ρ : Rod) (f : Fld) (v : Nat) (h : f.lo + f.w ≤ 32) : (ρ.p f v).g f = v % 2 ^ f.w := by
  unfold Rod.g Rod.p
  rw [Rod.gw_pw_same, wBits_wPut _ _ _ _ h]

theorem Rod.g_p_addr (ρ : Rod) (f f' : Fld) (v : Nat) (h : f'.addr ≠ f.addr) : (ρ.p f v).g f' = ρ.g f' := by
  unfold Rod.g
  rw [Rod.gw_p_ne _ _ _ _ h]

/-- A write to one field leaves every field that shares no bit with it. -/
theorem Rod.g_p_ne (ρ : Rod) (f f' : Fld) (v : Nat) (h : f.lo + f.w ≤ 32)
    (hd : f'.addr ≠ f.addr ∨ f'.lo + f'.w ≤ f.lo ∨ f.lo + f.w ≤ f'.lo) : (ρ.p f v).g f' = ρ.g f' := by
  by_cases ha : f'.addr = f.addr
  · unfold Rod.g Rod.p
    rw [ha, Rod.gw_pw_same]
    exact wBits_wPut_ne _ _ _ _ _ _ h (hd.resolve_left (fun k => k ha))
  · exact Rod.g_p_addr _ _ _ _ ha

/-- What reading a field needs of a rod: its registers. -/
theorem Rod.gw_congr (ρ ρ' : Rod) (h : ρ'.regs = ρ.regs) (a : Nat) : ρ'.gw a = ρ.gw a := by unfold Rod.gw; rw [h]

theorem Rod.g_congr (ρ ρ' : Rod) (f : Fld) (h : ρ'.regs = ρ.regs) : ρ'.g f = ρ.g f := by
  unfold Rod.g; rw [Rod.gw_congr ρ ρ' h]

@[simp] theorem Rod.gw_send (ρ : Rod) (o : Out) (a : Nat) : (ρ.send o).gw a = ρ.gw a := rfl
@[simp] theorem Rod.g_send (ρ : Rod) (o : Out) (f : Fld) : (ρ.send o).g f = ρ.g f := rfl
@[simp] theorem Rod.gw_fltAP (ρ : Rod) (c sv pg ax ph : Nat) (d : List (Nat × Nat × Nat)) (a : Nat) :
    (ρ.fltAP c sv pg ax ph d).gw a = ρ.gw a := rfl
@[simp] theorem Rod.g_fltAP (ρ : Rod) (c sv pg ax ph : Nat) (d : List (Nat × Nat × Nat)) (f : Fld) :
    (ρ.fltAP c sv pg ax ph d).g f = ρ.g f := rfl
@[simp] theorem Rod.flt_eq (ρ : Rod) (c sv pg : Nat) (d : List (Nat × Nat × Nat)) :
    ρ.flt c sv pg d = ρ.fltAP c sv pg 0xFF 0xFF d := rfl
@[simp] theorem Rod.fltA_eq (ρ : Rod) (c sv pg : Nat) (n : Axis) (d : List (Nat × Nat × Nat)) :
    ρ.fltA c sv pg n d = ρ.fltAP c sv pg n.val 0xFF d := rfl

@[simp] theorem Rod.when_true (ρ : Rod) (f : Rod → Rod) : ρ.when true f = f ρ := rfl
@[simp] theorem Rod.when_false (ρ : Rod) (f : Rod → Rod) : ρ.when false f = ρ := rfl

/-- A part of the state that one turn of a loop keeps, the loop keeps. -/
theorem Rod.each_keeps {α β : Type} (P : Rod → β) (f : α → Rod → Rod) (h : ∀ a r, P (f a r) = P r) (l : List α) (ρ : Rod) :
    P (ρ.each l f) = P ρ := by
  unfold Rod.each
  induction l generalizing ρ with
  | nil => rfl
  | cons a t ih => rw [List.foldl_cons, ih, h]

theorem Rod.when_keeps {β : Type} (P : Rod → β) (f : Rod → Rod) (c : Bool) (ρ : Rod) (h : ∀ r, P (f r) = P r) :
    P (ρ.when c f) = P ρ := by
  cases c
  · rfl
  · exact h ρ

theorem Rod.gw_when (ρ : Rod) (c : Bool) (f : Rod → Rod) (a : Nat) (h : ∀ r : Rod, (f r).gw a = r.gw a) :
    (ρ.when c f).gw a = ρ.gw a := by
  cases c
  · rfl
  · exact h ρ

/-! ### Interrupts -/

/-- A message on a vector goes out, or is held as a pending bit, or there is none: nothing else changes. -/
theorem Rod.msix_cases (ρ : Rod) (v : Nat) : ∃ b l, ρ.msix v = { ρ with pba := b, out := ρ.out ++ l } := by
  unfold Rod.msix
  split
  · exact ⟨ρ.pba, [], by rw [List.append_nil]⟩
  · split
    · exact ⟨_, [], by rw [List.append_nil]⟩
    · exact ⟨ρ.pba, _, rfl⟩

/-- An interrupt event writes IRQ_RAW of its page and may send the page's message: nothing else. -/
theorem Rod.irqMask_cases (ρ : Rod) (p : Nat) (m : Word) : ∃ b l,
    ρ.irqMask p m = { ρ.pw (Rg.IRQ_RAW p) (ρ.gw (Rg.IRQ_RAW p) ||| m) with pba := b, out := ρ.out ++ l } := by
  unfold Rod.irqMask Rod.pageMsg
  dsimp only
  split
  · split
    · exact ⟨ρ.pba, [], by rw [List.append_nil]; rfl⟩
    · exact Rod.msix_cases _ _
  · exact ⟨ρ.pba, [], by rw [List.append_nil]; rfl⟩

theorem Rod.gw_irqMask (ρ : Rod) (p i : Nat) (m : Word) :
    (ρ.irqMask p m).gw i = if i = Rg.IRQ_RAW p then ρ.gw i ||| m else ρ.gw i := by
  have h : (ρ.irqMask p m).gw i = (ρ.pw (Rg.IRQ_RAW p) (ρ.gw (Rg.IRQ_RAW p) ||| m)).gw i := by
    obtain ⟨b, l, e⟩ := Rod.irqMask_cases ρ p m
    rw [e]
    rfl
  rw [h, Rod.gw_pw]
  by_cases hi : i = Rg.IRQ_RAW p
  · rw [if_pos hi, if_pos hi, hi]
  · rw [if_neg hi, if_neg hi]

theorem Rod.gw_irqMask_ne (ρ : Rod) (p i : Nat) (m : Word) (h : i ≠ Rg.IRQ_RAW p) : (ρ.irqMask p m).gw i = ρ.gw i := by
  rw [Rod.gw_irqMask, if_neg h]

theorem Rod.g_irqMask_ne (ρ : Rod) (p : Nat) (f : Fld) (m : Word) (h : f.addr ≠ Rg.IRQ_RAW p) :
    (ρ.irqMask p m).g f = ρ.g f := by
  unfold Rod.g; rw [Rod.gw_irqMask_ne _ _ _ _ h]

theorem Rod.gw_irq_ne (ρ : Rod) (p i j : Nat) (h : i ≠ Rg.IRQ_RAW p) : (ρ.irq p j).gw i = ρ.gw i :=
  Rod.gw_irqMask_ne _ _ _ _ h

theorem Rod.g_irq_ne (ρ : Rod) (p j : Nat) (f : Fld) (h : f.addr ≠ Rg.IRQ_RAW p) : (ρ.irq p j).g f = ρ.g f :=
  Rod.g_irqMask_ne _ _ _ _ h

/-- An interrupt event sets its IRQ_RAW bit. -/
theorem Rod.irq_sets (ρ : Rod) (p j : Nat) (h : j < 32) : ((ρ.irq p j).gw (Rg.IRQ_RAW p)).getLsbD j = true := by
  unfold Rod.irq
  rw [Rod.gw_irqMask, if_pos rfl, BitVec.getLsbD_or, BitVec.getLsbD_ofNat, Nat.testBit_two_pow_self]
  simp [h]

@[simp] theorem Rod.irqMask_me (ρ : Rod) (p : Nat) (m : Word) : (ρ.irqMask p m).me = ρ.me := by
  obtain ⟨b, l, e⟩ := Rod.irqMask_cases ρ p m; rw [e]; rfl
@[simp] theorem Rod.irqMask_ftn (ρ : Rod) (p : Nat) (m : Word) : (ρ.irqMask p m).ftn = ρ.ftn := by
  obtain ⟨b, l, e⟩ := Rod.irqMask_cases ρ p m; rw [e]; rfl
@[simp] theorem Rod.irqMask_shadow (ρ : Rod) (p : Nat) (m : Word) : (ρ.irqMask p m).shadow = ρ.shadow := by
  obtain ⟨b, l, e⟩ := Rod.irqMask_cases ρ p m; rw [e]; rfl
@[simp] theorem Rod.irqMask_hiCap (ρ : Rod) (p : Nat) (m : Word) : (ρ.irqMask p m).hiCap = ρ.hiCap := by
  obtain ⟨b, l, e⟩ := Rod.irqMask_cases ρ p m; rw [e]; rfl
@[simp] theorem Rod.irqMask_loPend (ρ : Rod) (p : Nat) (m : Word) : (ρ.irqMask p m).loPend = ρ.loPend := by
  obtain ⟨b, l, e⟩ := Rod.irqMask_cases ρ p m; rw [e]; rfl
@[simp] theorem Rod.irqMask_cmtReq (ρ : Rod) (p : Nat) (m : Word) : (ρ.irqMask p m).cmtReq = ρ.cmtReq := by
  obtain ⟨b, l, e⟩ := Rod.irqMask_cases ρ p m; rw [e]; rfl
@[simp] theorem Rod.irqMask_armed (ρ : Rod) (p : Nat) (m : Word) : (ρ.irqMask p m).armed = ρ.armed := by
  obtain ⟨b, l, e⟩ := Rod.irqMask_cases ρ p m; rw [e]; rfl
@[simp] theorem Rod.irqMask_fresh (ρ : Rod) (p : Nat) (m : Word) : (ρ.irqMask p m).fresh = ρ.fresh := by
  obtain ⟨b, l, e⟩ := Rod.irqMask_cases ρ p m; rw [e]; rfl
@[simp] theorem Rod.irqMask_recBuf (ρ : Rod) (p : Nat) (m : Word) : (ρ.irqMask p m).recBuf = ρ.recBuf := by
  obtain ⟨b, l, e⟩ := Rod.irqMask_cases ρ p m; rw [e]; rfl
@[simp] theorem Rod.irqMask_log (ρ : Rod) (p : Nat) (m : Word) : (ρ.irqMask p m).log = ρ.log := by
  obtain ⟨b, l, e⟩ := Rod.irqMask_cases ρ p m; rw [e]; rfl
@[simp] theorem Rod.irqMask_lost (ρ : Rod) (p : Nat) (m : Word) : (ρ.irqMask p m).lost = ρ.lost := by
  obtain ⟨b, l, e⟩ := Rod.irqMask_cases ρ p m; rw [e]; rfl
@[simp] theorem Rod.irqMask_lostSev (ρ : Rod) (p : Nat) (m : Word) : (ρ.irqMask p m).lostSev = ρ.lostSev := by
  obtain ⟨b, l, e⟩ := Rod.irqMask_cases ρ p m; rw [e]; rfl
@[simp] theorem Rod.irqMask_flash (ρ : Rod) (p : Nat) (m : Word) : (ρ.irqMask p m).flash = ρ.flash := by
  obtain ⟨b, l, e⟩ := Rod.irqMask_cases ρ p m; rw [e]; rfl
@[simp] theorem Rod.irqMask_flPend (ρ : Rod) (p : Nat) (m : Word) : (ρ.irqMask p m).flPend = ρ.flPend := by
  obtain ⟨b, l, e⟩ := Rod.irqMask_cases ρ p m; rw [e]; rfl
@[simp] theorem Rod.irqMask_tb (ρ : Rod) (p : Nat) (m : Word) : (ρ.irqMask p m).tb = ρ.tb := by
  obtain ⟨b, l, e⟩ := Rod.irqMask_cases ρ p m; rw [e]; rfl
@[simp] theorem Rod.irqMask_md (ρ : Rod) (p : Nat) (m : Word) : (ρ.irqMask p m).md = ρ.md := by
  obtain ⟨b, l, e⟩ := Rod.irqMask_cases ρ p m; rw [e]; rfl
@[simp] theorem Rod.irqMask_aon (ρ : Rod) (p : Nat) (m : Word) : (ρ.irqMask p m).aon = ρ.aon := by
  obtain ⟨b, l, e⟩ := Rod.irqMask_cases ρ p m; rw [e]; rfl
@[simp] theorem Rod.irqMask_ck (ρ : Rod) (p : Nat) (m : Word) : (ρ.irqMask p m).ck = ρ.ck := by
  obtain ⟨b, l, e⟩ := Rod.irqMask_cases ρ p m; rw [e]; rfl
@[simp] theorem Rod.irqMask_hb (ρ : Rod) (p : Nat) (m : Word) : (ρ.irqMask p m).hb = ρ.hb := by
  obtain ⟨b, l, e⟩ := Rod.irqMask_cases ρ p m; rw [e]; rfl
@[simp] theorem Rod.irqMask_die (ρ : Rod) (p : Nat) (m : Word) : (ρ.irqMask p m).die = ρ.die := by
  obtain ⟨b, l, e⟩ := Rod.irqMask_cases ρ p m; rw [e]; rfl
@[simp] theorem Rod.irqMask_fb (ρ : Rod) (p : Nat) (m : Word) : (ρ.irqMask p m).fb = ρ.fb := by
  obtain ⟨b, l, e⟩ := Rod.irqMask_cases ρ p m; rw [e]; rfl
@[simp] theorem Rod.irqMask_pmp (ρ : Rod) (p : Nat) (m : Word) : (ρ.irqMask p m).pmp = ρ.pmp := by
  obtain ⟨b, l, e⟩ := Rod.irqMask_cases ρ p m; rw [e]; rfl
@[simp] theorem Rod.irqMask_sf (ρ : Rod) (p : Nat) (m : Word) : (ρ.irqMask p m).sf = ρ.sf := by
  obtain ⟨b, l, e⟩ := Rod.irqMask_cases ρ p m; rw [e]; rfl
@[simp] theorem Rod.irqMask_red (ρ : Rod) (p : Nat) (m : Word) : (ρ.irqMask p m).red = ρ.red := by
  obtain ⟨b, l, e⟩ := Rod.irqMask_cases ρ p m; rw [e]; rfl
@[simp] theorem Rod.irqMask_hp (ρ : Rod) (p : Nat) (m : Word) : (ρ.irqMask p m).hp = ρ.hp := by
  obtain ⟨b, l, e⟩ := Rod.irqMask_cases ρ p m; rw [e]; rfl
@[simp] theorem Rod.irqMask_ct (ρ : Rod) (p : Nat) (m : Word) : (ρ.irqMask p m).ct = ρ.ct := by
  obtain ⟨b, l, e⟩ := Rod.irqMask_cases ρ p m; rw [e]; rfl
@[simp] theorem Rod.irqMask_fr (ρ : Rod) (p : Nat) (m : Word) : (ρ.irqMask p m).fr = ρ.fr := by
  obtain ⟨b, l, e⟩ := Rod.irqMask_cases ρ p m; rw [e]; rfl
@[simp] theorem Rod.irqMask_ls (ρ : Rod) (p : Nat) (m : Word) : (ρ.irqMask p m).ls = ρ.ls := by
  obtain ⟨b, l, e⟩ := Rod.irqMask_cases ρ p m; rw [e]; rfl
@[simp] theorem Rod.irqMask_sec (ρ : Rod) (p : Nat) (m : Word) : (ρ.irqMask p m).sec = ρ.sec := by
  obtain ⟨b, l, e⟩ := Rod.irqMask_cases ρ p m; rw [e]; rfl
@[simp] theorem Rod.irqMask_otp (ρ : Rod) (p : Nat) (m : Word) : (ρ.irqMask p m).otp = ρ.otp := by
  obtain ⟨b, l, e⟩ := Rod.irqMask_cases ρ p m; rw [e]; rfl
@[simp] theorem Rod.irqMask_slots (ρ : Rod) (p : Nat) (m : Word) : (ρ.irqMask p m).slots = ρ.slots := by
  obtain ⟨b, l, e⟩ := Rod.irqMask_cases ρ p m; rw [e]; rfl
@[simp] theorem Rod.irqMask_rk (ρ : Rod) (p : Nat) (m : Word) : (ρ.irqMask p m).rk = ρ.rk := by
  obtain ⟨b, l, e⟩ := Rod.irqMask_cases ρ p m; rw [e]; rfl
@[simp] theorem Rod.irqMask_pwm (ρ : Rod) (p : Nat) (m : Word) : (ρ.irqMask p m).pwm = ρ.pwm := by
  obtain ⟨b, l, e⟩ := Rod.irqMask_cases ρ p m; rw [e]; rfl

@[simp] theorem Rod.irq_me (ρ : Rod) (p j : Nat) : (ρ.irq p j).me = ρ.me := Rod.irqMask_me ρ p _
@[simp] theorem Rod.irq_ftn (ρ : Rod) (p j : Nat) : (ρ.irq p j).ftn = ρ.ftn := Rod.irqMask_ftn ρ p _
@[simp] theorem Rod.irq_shadow (ρ : Rod) (p j : Nat) : (ρ.irq p j).shadow = ρ.shadow := Rod.irqMask_shadow ρ p _
@[simp] theorem Rod.irq_hiCap (ρ : Rod) (p j : Nat) : (ρ.irq p j).hiCap = ρ.hiCap := Rod.irqMask_hiCap ρ p _
@[simp] theorem Rod.irq_loPend (ρ : Rod) (p j : Nat) : (ρ.irq p j).loPend = ρ.loPend := Rod.irqMask_loPend ρ p _
@[simp] theorem Rod.irq_cmtReq (ρ : Rod) (p j : Nat) : (ρ.irq p j).cmtReq = ρ.cmtReq := Rod.irqMask_cmtReq ρ p _
@[simp] theorem Rod.irq_armed (ρ : Rod) (p j : Nat) : (ρ.irq p j).armed = ρ.armed := Rod.irqMask_armed ρ p _
@[simp] theorem Rod.irq_fresh (ρ : Rod) (p j : Nat) : (ρ.irq p j).fresh = ρ.fresh := Rod.irqMask_fresh ρ p _
@[simp] theorem Rod.irq_recBuf (ρ : Rod) (p j : Nat) : (ρ.irq p j).recBuf = ρ.recBuf := Rod.irqMask_recBuf ρ p _
@[simp] theorem Rod.irq_log (ρ : Rod) (p j : Nat) : (ρ.irq p j).log = ρ.log := Rod.irqMask_log ρ p _
@[simp] theorem Rod.irq_lost (ρ : Rod) (p j : Nat) : (ρ.irq p j).lost = ρ.lost := Rod.irqMask_lost ρ p _
@[simp] theorem Rod.irq_lostSev (ρ : Rod) (p j : Nat) : (ρ.irq p j).lostSev = ρ.lostSev := Rod.irqMask_lostSev ρ p _
@[simp] theorem Rod.irq_flash (ρ : Rod) (p j : Nat) : (ρ.irq p j).flash = ρ.flash := Rod.irqMask_flash ρ p _
@[simp] theorem Rod.irq_flPend (ρ : Rod) (p j : Nat) : (ρ.irq p j).flPend = ρ.flPend := Rod.irqMask_flPend ρ p _
@[simp] theorem Rod.irq_tb (ρ : Rod) (p j : Nat) : (ρ.irq p j).tb = ρ.tb := Rod.irqMask_tb ρ p _
@[simp] theorem Rod.irq_md (ρ : Rod) (p j : Nat) : (ρ.irq p j).md = ρ.md := Rod.irqMask_md ρ p _
@[simp] theorem Rod.irq_aon (ρ : Rod) (p j : Nat) : (ρ.irq p j).aon = ρ.aon := Rod.irqMask_aon ρ p _
@[simp] theorem Rod.irq_ck (ρ : Rod) (p j : Nat) : (ρ.irq p j).ck = ρ.ck := Rod.irqMask_ck ρ p _
@[simp] theorem Rod.irq_hb (ρ : Rod) (p j : Nat) : (ρ.irq p j).hb = ρ.hb := Rod.irqMask_hb ρ p _
@[simp] theorem Rod.irq_die (ρ : Rod) (p j : Nat) : (ρ.irq p j).die = ρ.die := Rod.irqMask_die ρ p _
@[simp] theorem Rod.irq_fb (ρ : Rod) (p j : Nat) : (ρ.irq p j).fb = ρ.fb := Rod.irqMask_fb ρ p _
@[simp] theorem Rod.irq_pmp (ρ : Rod) (p j : Nat) : (ρ.irq p j).pmp = ρ.pmp := Rod.irqMask_pmp ρ p _
@[simp] theorem Rod.irq_sf (ρ : Rod) (p j : Nat) : (ρ.irq p j).sf = ρ.sf := Rod.irqMask_sf ρ p _
@[simp] theorem Rod.irq_red (ρ : Rod) (p j : Nat) : (ρ.irq p j).red = ρ.red := Rod.irqMask_red ρ p _
@[simp] theorem Rod.irq_hp (ρ : Rod) (p j : Nat) : (ρ.irq p j).hp = ρ.hp := Rod.irqMask_hp ρ p _
@[simp] theorem Rod.irq_ct (ρ : Rod) (p j : Nat) : (ρ.irq p j).ct = ρ.ct := Rod.irqMask_ct ρ p _
@[simp] theorem Rod.irq_fr (ρ : Rod) (p j : Nat) : (ρ.irq p j).fr = ρ.fr := Rod.irqMask_fr ρ p _
@[simp] theorem Rod.irq_ls (ρ : Rod) (p j : Nat) : (ρ.irq p j).ls = ρ.ls := Rod.irqMask_ls ρ p _
@[simp] theorem Rod.irq_sec (ρ : Rod) (p j : Nat) : (ρ.irq p j).sec = ρ.sec := Rod.irqMask_sec ρ p _
@[simp] theorem Rod.irq_otp (ρ : Rod) (p j : Nat) : (ρ.irq p j).otp = ρ.otp := Rod.irqMask_otp ρ p _
@[simp] theorem Rod.irq_slots (ρ : Rod) (p j : Nat) : (ρ.irq p j).slots = ρ.slots := Rod.irqMask_slots ρ p _
@[simp] theorem Rod.irq_rk (ρ : Rod) (p j : Nat) : (ρ.irq p j).rk = ρ.rk := Rod.irqMask_rk ρ p _
@[simp] theorem Rod.irq_pwm (ρ : Rod) (p j : Nat) : (ρ.irq p j).pwm = ρ.pwm := Rod.irqMask_pwm ρ p _

/-! ### Fault records -/

/-- The registers that writing a record touches (R39, R74, R77). -/
def logRegs : List Nat := [Rg.FL_SEQ, Rg.IRQ_RAW 0x0D0]

theorem Rod.logStore_gw (ρ : Rod) (r : FaultRec) (own : Bool) (a : Nat) (h : a ≠ Rg.FL_SEQ) :
    (ρ.logStore r own).gw a = ρ.gw a := Rod.gw_p_ne _ _ _ _ h

theorem Rod.sevMsg_cases (ρ : Rod) (sev : Nat) (own : Bool) :
    ∃ b l, ρ.sevMsg sev own = { ρ with pba := b, out := ρ.out ++ l } := by
  unfold Rod.sevMsg
  cases ρ.bitOf (if own then Fl.FAULT_IRQ_OWN_EN else Fl.FAULT_IRQ_RELAY_EN) sev
  · exact ⟨ρ.pba, [], by rw [List.append_nil]; rfl⟩
  · exact Rod.msix_cases _ _

theorem Rod.writeRec_gw (ρ : Rod) (r : FaultRec) (own : Bool) (a : Nat) (h : a ∉ logRegs) :
    (ρ.writeRec r own).gw a = ρ.gw a := by
  have h1 : a ≠ Rg.FL_SEQ := fun e => h (by simp [logRegs, e])
  have h2 : a ≠ Rg.IRQ_RAW 0x0D0 := fun e => h (by simp [logRegs, e])
  have h3 (q : Rod) (v : Nat) : (q.sevMsg v own).gw a = q.gw a := by
    obtain ⟨b, l, e⟩ := Rod.sevMsg_cases q v own
    rw [e]
    rfl
  unfold Rod.writeRec
  rw [Rod.gw_when _ _ _ _ (by exact fun _ => rfl), h3, Rod.gw_when _ _ _ _ (by exact fun q => Rod.gw_irq_ne q _ _ _ h2),
    Rod.gw_when _ _ _ _ (by exact fun q => Rod.gw_irq_ne q _ _ _ h2), Rod.logStore_gw _ _ _ _ h1]

/-- A part of the state that storing a record, a message and an interrupt keep, writing a record keeps. -/
theorem Rod.writeRec_keeps {β : Type} (P : Rod → β) (hs : ∀ (q : Rod) r own, P (q.logStore r own) = P q)
    (hm : ∀ (q : Rod) b l, P { q with pba := b, out := l } = P q) (hi : ∀ (q : Rod) p j, P (q.irq p j) = P q) (ρ : Rod) (r : FaultRec)
    (own : Bool) : P (ρ.writeRec r own) = P ρ := by
  have h3 (q : Rod) (v : Nat) : P (q.sevMsg v own) = P q := by
    obtain ⟨b, l, e⟩ := Rod.sevMsg_cases q v own
    rw [e]
    exact hm _ _ _
  have hw (q : Rod) (c : Bool) (f : Rod → Rod) (h : ∀ q, P (f q) = P q) : P (q.when c f) = P q := Rod.when_keeps P f c q h
  unfold Rod.writeRec
  rw [hw _ _ _ (by exact fun q => hm q q.pba _), h3, hw _ _ _ (by exact fun q => hi q _ _), hw _ _ _ (by exact fun q => hi q _ _), hs]

@[simp] theorem Rod.writeRec_me (ρ : Rod) (r : FaultRec) (own : Bool) : (ρ.writeRec r own).me = ρ.me :=
  Rod.writeRec_keeps (·.me) (fun _ _ _ => Rod.p_me _ Fl.FL_SEQ_SEQ _) (fun _ _ _ => rfl) (fun _ _ _ => Rod.irq_me _ _ _) ρ r own
@[simp] theorem Rod.writeRec_ftn (ρ : Rod) (r : FaultRec) (own : Bool) : (ρ.writeRec r own).ftn = ρ.ftn :=
  Rod.writeRec_keeps (·.ftn) (fun _ _ _ => Rod.p_ftn _ Fl.FL_SEQ_SEQ _) (fun _ _ _ => rfl) (fun _ _ _ => Rod.irq_ftn _ _ _) ρ r own
@[simp] theorem Rod.writeRec_shadow (ρ : Rod) (r : FaultRec) (own : Bool) : (ρ.writeRec r own).shadow = ρ.shadow :=
  Rod.writeRec_keeps (·.shadow) (fun _ _ _ => Rod.p_shadow _ Fl.FL_SEQ_SEQ _) (fun _ _ _ => rfl) (fun _ _ _ => Rod.irq_shadow _ _ _) ρ r own
@[simp] theorem Rod.writeRec_hiCap (ρ : Rod) (r : FaultRec) (own : Bool) : (ρ.writeRec r own).hiCap = ρ.hiCap :=
  Rod.writeRec_keeps (·.hiCap) (fun _ _ _ => Rod.p_hiCap _ Fl.FL_SEQ_SEQ _) (fun _ _ _ => rfl) (fun _ _ _ => Rod.irq_hiCap _ _ _) ρ r own
@[simp] theorem Rod.writeRec_loPend (ρ : Rod) (r : FaultRec) (own : Bool) : (ρ.writeRec r own).loPend = ρ.loPend :=
  Rod.writeRec_keeps (·.loPend) (fun _ _ _ => Rod.p_loPend _ Fl.FL_SEQ_SEQ _) (fun _ _ _ => rfl) (fun _ _ _ => Rod.irq_loPend _ _ _) ρ r own
@[simp] theorem Rod.writeRec_cmtReq (ρ : Rod) (r : FaultRec) (own : Bool) : (ρ.writeRec r own).cmtReq = ρ.cmtReq :=
  Rod.writeRec_keeps (·.cmtReq) (fun _ _ _ => Rod.p_cmtReq _ Fl.FL_SEQ_SEQ _) (fun _ _ _ => rfl) (fun _ _ _ => Rod.irq_cmtReq _ _ _) ρ r own
@[simp] theorem Rod.writeRec_armed (ρ : Rod) (r : FaultRec) (own : Bool) : (ρ.writeRec r own).armed = ρ.armed :=
  Rod.writeRec_keeps (·.armed) (fun _ _ _ => Rod.p_armed _ Fl.FL_SEQ_SEQ _) (fun _ _ _ => rfl) (fun _ _ _ => Rod.irq_armed _ _ _) ρ r own
@[simp] theorem Rod.writeRec_fresh (ρ : Rod) (r : FaultRec) (own : Bool) : (ρ.writeRec r own).fresh = ρ.fresh :=
  Rod.writeRec_keeps (·.fresh) (fun _ _ _ => Rod.p_fresh _ Fl.FL_SEQ_SEQ _) (fun _ _ _ => rfl) (fun _ _ _ => Rod.irq_fresh _ _ _) ρ r own
@[simp] theorem Rod.writeRec_recBuf (ρ : Rod) (r : FaultRec) (own : Bool) : (ρ.writeRec r own).recBuf = ρ.recBuf :=
  Rod.writeRec_keeps (·.recBuf) (fun _ _ _ => Rod.p_recBuf _ Fl.FL_SEQ_SEQ _) (fun _ _ _ => rfl) (fun _ _ _ => Rod.irq_recBuf _ _ _) ρ r own
@[simp] theorem Rod.writeRec_flash (ρ : Rod) (r : FaultRec) (own : Bool) : (ρ.writeRec r own).flash = ρ.flash :=
  Rod.writeRec_keeps (·.flash) (fun _ _ _ => Rod.p_flash _ Fl.FL_SEQ_SEQ _) (fun _ _ _ => rfl) (fun _ _ _ => Rod.irq_flash _ _ _) ρ r own
@[simp] theorem Rod.writeRec_tb (ρ : Rod) (r : FaultRec) (own : Bool) : (ρ.writeRec r own).tb = ρ.tb :=
  Rod.writeRec_keeps (·.tb) (fun _ _ _ => Rod.p_tb _ Fl.FL_SEQ_SEQ _) (fun _ _ _ => rfl) (fun _ _ _ => Rod.irq_tb _ _ _) ρ r own
@[simp] theorem Rod.writeRec_md (ρ : Rod) (r : FaultRec) (own : Bool) : (ρ.writeRec r own).md = ρ.md :=
  Rod.writeRec_keeps (·.md) (fun _ _ _ => Rod.p_md _ Fl.FL_SEQ_SEQ _) (fun _ _ _ => rfl) (fun _ _ _ => Rod.irq_md _ _ _) ρ r own
@[simp] theorem Rod.writeRec_aon (ρ : Rod) (r : FaultRec) (own : Bool) : (ρ.writeRec r own).aon = ρ.aon :=
  Rod.writeRec_keeps (·.aon) (fun _ _ _ => Rod.p_aon _ Fl.FL_SEQ_SEQ _) (fun _ _ _ => rfl) (fun _ _ _ => Rod.irq_aon _ _ _) ρ r own
@[simp] theorem Rod.writeRec_ck (ρ : Rod) (r : FaultRec) (own : Bool) : (ρ.writeRec r own).ck = ρ.ck :=
  Rod.writeRec_keeps (·.ck) (fun _ _ _ => Rod.p_ck _ Fl.FL_SEQ_SEQ _) (fun _ _ _ => rfl) (fun _ _ _ => Rod.irq_ck _ _ _) ρ r own
@[simp] theorem Rod.writeRec_hb (ρ : Rod) (r : FaultRec) (own : Bool) : (ρ.writeRec r own).hb = ρ.hb :=
  Rod.writeRec_keeps (·.hb) (fun _ _ _ => Rod.p_hb _ Fl.FL_SEQ_SEQ _) (fun _ _ _ => rfl) (fun _ _ _ => Rod.irq_hb _ _ _) ρ r own
@[simp] theorem Rod.writeRec_die (ρ : Rod) (r : FaultRec) (own : Bool) : (ρ.writeRec r own).die = ρ.die :=
  Rod.writeRec_keeps (·.die) (fun _ _ _ => Rod.p_die _ Fl.FL_SEQ_SEQ _) (fun _ _ _ => rfl) (fun _ _ _ => Rod.irq_die _ _ _) ρ r own
@[simp] theorem Rod.writeRec_fb (ρ : Rod) (r : FaultRec) (own : Bool) : (ρ.writeRec r own).fb = ρ.fb :=
  Rod.writeRec_keeps (·.fb) (fun _ _ _ => Rod.p_fb _ Fl.FL_SEQ_SEQ _) (fun _ _ _ => rfl) (fun _ _ _ => Rod.irq_fb _ _ _) ρ r own
@[simp] theorem Rod.writeRec_pmp (ρ : Rod) (r : FaultRec) (own : Bool) : (ρ.writeRec r own).pmp = ρ.pmp :=
  Rod.writeRec_keeps (·.pmp) (fun _ _ _ => Rod.p_pmp _ Fl.FL_SEQ_SEQ _) (fun _ _ _ => rfl) (fun _ _ _ => Rod.irq_pmp _ _ _) ρ r own
@[simp] theorem Rod.writeRec_sf (ρ : Rod) (r : FaultRec) (own : Bool) : (ρ.writeRec r own).sf = ρ.sf :=
  Rod.writeRec_keeps (·.sf) (fun _ _ _ => Rod.p_sf _ Fl.FL_SEQ_SEQ _) (fun _ _ _ => rfl) (fun _ _ _ => Rod.irq_sf _ _ _) ρ r own
@[simp] theorem Rod.writeRec_red (ρ : Rod) (r : FaultRec) (own : Bool) : (ρ.writeRec r own).red = ρ.red :=
  Rod.writeRec_keeps (·.red) (fun _ _ _ => Rod.p_red _ Fl.FL_SEQ_SEQ _) (fun _ _ _ => rfl) (fun _ _ _ => Rod.irq_red _ _ _) ρ r own
@[simp] theorem Rod.writeRec_hp (ρ : Rod) (r : FaultRec) (own : Bool) : (ρ.writeRec r own).hp = ρ.hp :=
  Rod.writeRec_keeps (·.hp) (fun _ _ _ => Rod.p_hp _ Fl.FL_SEQ_SEQ _) (fun _ _ _ => rfl) (fun _ _ _ => Rod.irq_hp _ _ _) ρ r own
@[simp] theorem Rod.writeRec_ct (ρ : Rod) (r : FaultRec) (own : Bool) : (ρ.writeRec r own).ct = ρ.ct :=
  Rod.writeRec_keeps (·.ct) (fun _ _ _ => Rod.p_ct _ Fl.FL_SEQ_SEQ _) (fun _ _ _ => rfl) (fun _ _ _ => Rod.irq_ct _ _ _) ρ r own
@[simp] theorem Rod.writeRec_fr (ρ : Rod) (r : FaultRec) (own : Bool) : (ρ.writeRec r own).fr = ρ.fr :=
  Rod.writeRec_keeps (·.fr) (fun _ _ _ => Rod.p_fr _ Fl.FL_SEQ_SEQ _) (fun _ _ _ => rfl) (fun _ _ _ => Rod.irq_fr _ _ _) ρ r own
@[simp] theorem Rod.writeRec_ls (ρ : Rod) (r : FaultRec) (own : Bool) : (ρ.writeRec r own).ls = ρ.ls :=
  Rod.writeRec_keeps (·.ls) (fun _ _ _ => Rod.p_ls _ Fl.FL_SEQ_SEQ _) (fun _ _ _ => rfl) (fun _ _ _ => Rod.irq_ls _ _ _) ρ r own
@[simp] theorem Rod.writeRec_sec (ρ : Rod) (r : FaultRec) (own : Bool) : (ρ.writeRec r own).sec = ρ.sec :=
  Rod.writeRec_keeps (·.sec) (fun _ _ _ => Rod.p_sec _ Fl.FL_SEQ_SEQ _) (fun _ _ _ => rfl) (fun _ _ _ => Rod.irq_sec _ _ _) ρ r own
@[simp] theorem Rod.writeRec_otp (ρ : Rod) (r : FaultRec) (own : Bool) : (ρ.writeRec r own).otp = ρ.otp :=
  Rod.writeRec_keeps (·.otp) (fun _ _ _ => Rod.p_otp _ Fl.FL_SEQ_SEQ _) (fun _ _ _ => rfl) (fun _ _ _ => Rod.irq_otp _ _ _) ρ r own
@[simp] theorem Rod.writeRec_slots (ρ : Rod) (r : FaultRec) (own : Bool) : (ρ.writeRec r own).slots = ρ.slots :=
  Rod.writeRec_keeps (·.slots) (fun _ _ _ => Rod.p_slots _ Fl.FL_SEQ_SEQ _) (fun _ _ _ => rfl) (fun _ _ _ => Rod.irq_slots _ _ _) ρ r own
@[simp] theorem Rod.writeRec_rk (ρ : Rod) (r : FaultRec) (own : Bool) : (ρ.writeRec r own).rk = ρ.rk :=
  Rod.writeRec_keeps (·.rk) (fun _ _ _ => Rod.p_rk _ Fl.FL_SEQ_SEQ _) (fun _ _ _ => rfl) (fun _ _ _ => Rod.irq_rk _ _ _) ρ r own
@[simp] theorem Rod.writeRec_pwm (ρ : Rod) (r : FaultRec) (own : Bool) : (ρ.writeRec r own).pwm = ρ.pwm :=
  Rod.writeRec_keeps (·.pwm) (fun _ _ _ => Rod.p_pwm _ Fl.FL_SEQ_SEQ _) (fun _ _ _ => rfl) (fun _ _ _ => Rod.irq_pwm _ _ _) ρ r own

/-- Writing the records of a command touches FL_SEQ and IRQ_RAW of page 0x0D0 alone of all registers. -/
theorem Rod.flush_gw (ρ : Rod) (a : Nat) (h : a ∉ logRegs) : ρ.flush.gw a = ρ.gw a := by
  unfold Rod.flush
  exact Rod.each_keeps (fun q => q.gw a) _ (fun r q => Rod.writeRec_gw q r true a h) _ _

theorem Rod.flush_g (ρ : Rod) (f : Fld) (h : f.addr ∉ logRegs) : ρ.flush.g f = ρ.g f := by
  unfold Rod.g; rw [Rod.flush_gw _ _ h]

/-- Every record of the command is written: none is left behind. -/
@[simp] theorem Rod.flush_recBuf (ρ : Rod) : ρ.flush.recBuf = [] := by
  unfold Rod.flush
  exact Rod.each_keeps (fun q => q.recBuf) _ (fun r q => Rod.writeRec_recBuf q r true) _ _

/-- Without a record, nothing is written. -/
theorem Rod.flush_nil (ρ : Rod) (h : ρ.recBuf = []) : ρ.flush = ρ := by
  unfold Rod.flush
  rw [h]
  cases ρ
  simp only at h
  subst h
  rfl

@[simp] theorem Rod.flush_me (ρ : Rod) : ρ.flush.me = ρ.me := by
  unfold Rod.flush
  exact Rod.each_keeps (fun q => q.me) _ (fun r q => Rod.writeRec_me q r true) _ _
@[simp] theorem Rod.flush_ftn (ρ : Rod) : ρ.flush.ftn = ρ.ftn := by
  unfold Rod.flush
  exact Rod.each_keeps (fun q => q.ftn) _ (fun r q => Rod.writeRec_ftn q r true) _ _
@[simp] theorem Rod.flush_shadow (ρ : Rod) : ρ.flush.shadow = ρ.shadow := by
  unfold Rod.flush
  exact Rod.each_keeps (fun q => q.shadow) _ (fun r q => Rod.writeRec_shadow q r true) _ _
@[simp] theorem Rod.flush_hiCap (ρ : Rod) : ρ.flush.hiCap = ρ.hiCap := by
  unfold Rod.flush
  exact Rod.each_keeps (fun q => q.hiCap) _ (fun r q => Rod.writeRec_hiCap q r true) _ _
@[simp] theorem Rod.flush_loPend (ρ : Rod) : ρ.flush.loPend = ρ.loPend := by
  unfold Rod.flush
  exact Rod.each_keeps (fun q => q.loPend) _ (fun r q => Rod.writeRec_loPend q r true) _ _
@[simp] theorem Rod.flush_cmtReq (ρ : Rod) : ρ.flush.cmtReq = ρ.cmtReq := by
  unfold Rod.flush
  exact Rod.each_keeps (fun q => q.cmtReq) _ (fun r q => Rod.writeRec_cmtReq q r true) _ _
@[simp] theorem Rod.flush_armed (ρ : Rod) : ρ.flush.armed = ρ.armed := by
  unfold Rod.flush
  exact Rod.each_keeps (fun q => q.armed) _ (fun r q => Rod.writeRec_armed q r true) _ _
@[simp] theorem Rod.flush_fresh (ρ : Rod) : ρ.flush.fresh = ρ.fresh := by
  unfold Rod.flush
  exact Rod.each_keeps (fun q => q.fresh) _ (fun r q => Rod.writeRec_fresh q r true) _ _
@[simp] theorem Rod.flush_flash (ρ : Rod) : ρ.flush.flash = ρ.flash := by
  unfold Rod.flush
  exact Rod.each_keeps (fun q => q.flash) _ (fun r q => Rod.writeRec_flash q r true) _ _
@[simp] theorem Rod.flush_tb (ρ : Rod) : ρ.flush.tb = ρ.tb := by
  unfold Rod.flush
  exact Rod.each_keeps (fun q => q.tb) _ (fun r q => Rod.writeRec_tb q r true) _ _
@[simp] theorem Rod.flush_md (ρ : Rod) : ρ.flush.md = ρ.md := by
  unfold Rod.flush
  exact Rod.each_keeps (fun q => q.md) _ (fun r q => Rod.writeRec_md q r true) _ _
@[simp] theorem Rod.flush_aon (ρ : Rod) : ρ.flush.aon = ρ.aon := by
  unfold Rod.flush
  exact Rod.each_keeps (fun q => q.aon) _ (fun r q => Rod.writeRec_aon q r true) _ _
@[simp] theorem Rod.flush_ck (ρ : Rod) : ρ.flush.ck = ρ.ck := by
  unfold Rod.flush
  exact Rod.each_keeps (fun q => q.ck) _ (fun r q => Rod.writeRec_ck q r true) _ _
@[simp] theorem Rod.flush_hb (ρ : Rod) : ρ.flush.hb = ρ.hb := by
  unfold Rod.flush
  exact Rod.each_keeps (fun q => q.hb) _ (fun r q => Rod.writeRec_hb q r true) _ _
@[simp] theorem Rod.flush_die (ρ : Rod) : ρ.flush.die = ρ.die := by
  unfold Rod.flush
  exact Rod.each_keeps (fun q => q.die) _ (fun r q => Rod.writeRec_die q r true) _ _
@[simp] theorem Rod.flush_fb (ρ : Rod) : ρ.flush.fb = ρ.fb := by
  unfold Rod.flush
  exact Rod.each_keeps (fun q => q.fb) _ (fun r q => Rod.writeRec_fb q r true) _ _
@[simp] theorem Rod.flush_pmp (ρ : Rod) : ρ.flush.pmp = ρ.pmp := by
  unfold Rod.flush
  exact Rod.each_keeps (fun q => q.pmp) _ (fun r q => Rod.writeRec_pmp q r true) _ _
@[simp] theorem Rod.flush_sf (ρ : Rod) : ρ.flush.sf = ρ.sf := by
  unfold Rod.flush
  exact Rod.each_keeps (fun q => q.sf) _ (fun r q => Rod.writeRec_sf q r true) _ _
@[simp] theorem Rod.flush_red (ρ : Rod) : ρ.flush.red = ρ.red := by
  unfold Rod.flush
  exact Rod.each_keeps (fun q => q.red) _ (fun r q => Rod.writeRec_red q r true) _ _
@[simp] theorem Rod.flush_hp (ρ : Rod) : ρ.flush.hp = ρ.hp := by
  unfold Rod.flush
  exact Rod.each_keeps (fun q => q.hp) _ (fun r q => Rod.writeRec_hp q r true) _ _
@[simp] theorem Rod.flush_ct (ρ : Rod) : ρ.flush.ct = ρ.ct := by
  unfold Rod.flush
  exact Rod.each_keeps (fun q => q.ct) _ (fun r q => Rod.writeRec_ct q r true) _ _
@[simp] theorem Rod.flush_fr (ρ : Rod) : ρ.flush.fr = ρ.fr := by
  unfold Rod.flush
  exact Rod.each_keeps (fun q => q.fr) _ (fun r q => Rod.writeRec_fr q r true) _ _
@[simp] theorem Rod.flush_ls (ρ : Rod) : ρ.flush.ls = ρ.ls := by
  unfold Rod.flush
  exact Rod.each_keeps (fun q => q.ls) _ (fun r q => Rod.writeRec_ls q r true) _ _
@[simp] theorem Rod.flush_sec (ρ : Rod) : ρ.flush.sec = ρ.sec := by
  unfold Rod.flush
  exact Rod.each_keeps (fun q => q.sec) _ (fun r q => Rod.writeRec_sec q r true) _ _
@[simp] theorem Rod.flush_otp (ρ : Rod) : ρ.flush.otp = ρ.otp := by
  unfold Rod.flush
  exact Rod.each_keeps (fun q => q.otp) _ (fun r q => Rod.writeRec_otp q r true) _ _
@[simp] theorem Rod.flush_slots (ρ : Rod) : ρ.flush.slots = ρ.slots := by
  unfold Rod.flush
  exact Rod.each_keeps (fun q => q.slots) _ (fun r q => Rod.writeRec_slots q r true) _ _
@[simp] theorem Rod.flush_rk (ρ : Rod) : ρ.flush.rk = ρ.rk := by
  unfold Rod.flush
  exact Rod.each_keeps (fun q => q.rk) _ (fun r q => Rod.writeRec_rk q r true) _ _
@[simp] theorem Rod.flush_pwm (ρ : Rod) : ρ.flush.pwm = ρ.pwm := by
  unfold Rod.flush
  exact Rod.each_keeps (fun q => q.pwm) _ (fun r q => Rod.writeRec_pwm q r true) _ _

theorem Rod.irq_out (ρ : Rod) (p j : Nat) : ∃ l, (ρ.irq p j).out = ρ.out ++ l := by
  unfold Rod.irq
  obtain ⟨b, l, e⟩ := Rod.irqMask_cases ρ p (BitVec.ofNat 32 (2 ^ j))
  exact ⟨l, by rw [e]⟩

theorem Rod.when_out (ρ : Rod) (c : Bool) (f : Rod → Rod) (h : ∀ q : Rod, ∃ l, (f q).out = q.out ++ l) :
    ∃ l, (ρ.when c f).out = ρ.out ++ l := by
  cases c
  · exact ⟨[], (List.append_nil _).symm⟩
  · exact h ρ

/-- What a record adds to the rod's messages: it keeps the earlier ones, and the record itself goes out (R191). -/
theorem Rod.writeRec_out (ρ : Rod) (r : FaultRec) : ∃ l, (ρ.writeRec r true).out = ρ.out ++ l ∧ Out.record r ∈ l := by
  unfold Rod.writeRec
  rw [Rod.when_true, Rod.when_true, Rod.send_out]
  obtain ⟨l1, e1⟩ := Rod.when_out (ρ.logStore r true) (ρ.logLoses && !ρ.lost) (·.irq 0x0D0 1) (fun q => Rod.irq_out q _ _)
  generalize (ρ.logStore r true).when (ρ.logLoses && !ρ.lost) (·.irq 0x0D0 1) = q1 at e1
  obtain ⟨l2, e2⟩ := Rod.irq_out q1 0x0D0 0
  generalize q1.irq 0x0D0 0 = q2 at e2
  have h3 : ∃ l, (q2.sevMsg r.sev.toNat true).out = q2.out ++ l := by
    obtain ⟨b, l, e⟩ := Rod.sevMsg_cases q2 r.sev.toNat true
    exact ⟨l, by rw [e]⟩
  obtain ⟨l3, e3⟩ := h3
  refine ⟨l1 ++ l2 ++ l3 ++ [.record r], ?_, by simp⟩
  rw [e3, e2, e1]
  have : (ρ.logStore r true).out = ρ.out := Rod.p_out _ Fl.FL_SEQ_SEQ _
  rw [this]
  simp only [List.append_assoc]

theorem Rod.flush_out_aux (l : List FaultRec) (ρ : Rod) :
    ∃ m, (ρ.each l fun r q => q.writeRec r true).out = ρ.out ++ m ∧ ∀ r ∈ l, Out.record r ∈ m := by
  induction l generalizing ρ with
  | nil => exact ⟨[], by simp [Rod.each]⟩
  | cons r t ih =>
    obtain ⟨m1, h1, hr⟩ := Rod.writeRec_out ρ r
    obtain ⟨m2, h2, ht⟩ := ih (ρ.writeRec r true)
    refine ⟨m1 ++ m2, ?_, ?_⟩
    · have : (ρ.each (r :: t) fun r q => q.writeRec r true) = ((ρ.writeRec r true).each t fun r q => q.writeRec r true) := rfl
      rw [this, h2, h1, List.append_assoc]
    · intro q hq
      rcases List.mem_cons.1 hq with e | e
      · subst e; exact List.mem_append_left _ hr
      · exact List.mem_append_right _ (ht q e)

/-- Every record of the command goes out to the partners, after what the rod had sent before (R191). -/
theorem Rod.flush_out (ρ : Rod) : ∃ m, ρ.flush.out = ρ.out ++ m ∧ ∀ r ∈ ρ.recBuf, Out.record r ∈ m :=
  Rod.flush_out_aux ρ.recBuf { ρ with recBuf := [] }

theorem insertRec_mem (r q : FaultRec) (l : List FaultRec) : q ∈ insertRec r l ↔ q = r ∨ q ∈ l := by
  induction l with
  | nil => simp [insertRec]
  | cons h t ih =>
    unfold insertRec
    split
    · simp
    · simp only [List.mem_cons, ih]
      constructor
      · rintro (e | e | e) <;> simp [e]
      · rintro (e | e | e) <;> simp [e]

/-- A detected fault is among the records of the command. -/
theorem Rod.fltAP_mem (ρ : Rod) (c sv pg ax ph : Nat) (d : List (Nat × Nat × Nat)) :
    (⟨BitVec.ofNat 64 ρ.ft, BitVec.ofNat 16 c, BitVec.ofNat 16 pg, BitVec.ofNat 8 ρ.me.code, BitVec.ofNat 8 ax,
      BitVec.ofNat 8 ph, BitVec.ofNat 8 sv, recData d⟩ : FaultRec) ∈ (ρ.fltAP c sv pg ax ph d).recBuf :=
  (insertRec_mem _ _ _).2 (.inl rfl)

/-! ### The canonical forms -/

end Sys2Proof.Machine
end

