-- ==== Sys2Proof/Laws/Forms.lean ====
section
/-! SUPPORT. Every operation over the stored tables keeps their canonical forms, and reset has them. -/

namespace Sys2Proof.Machine

/-- The parts of `Rod.wf`. -/
theorem Rod.wf_iff (ρ : Rod) : ρ.wf = true ↔ Sparse.wf regReset ρ.regs = true ∧ Sparse.wf (fun _ => 0#32) ρ.rk.sig = true ∧
    Sparse.rising ρ.log = true ∧ ∀ e ∈ ρ.log, e.1 < 1024 := by
  simp only [Rod.wf, Bool.and_eq_true, List.all_eq_true, decide_eq_true_eq, and_assoc]

/-- What keeps the registers, the Reckoner and the log keeps the canonical forms. -/
theorem Rod.wf_congr (ρ ρ' : Rod) (h1 : ρ'.regs = ρ.regs) (h2 : ρ'.rk.sig = ρ.rk.sig) (h3 : ρ'.log = ρ.log)
    (h : ρ.wf = true) : ρ'.wf = true := by
  rw [Rod.wf_iff] at h ⊢
  rwa [h1, h2, h3]

/-- Writing a register keeps the canonical forms. -/
theorem Rod.wf_pw (ρ : Rod) (a : Nat) (v : Word) (h : ρ.wf = true) : (ρ.pw a v).wf = true := by
  rw [Rod.wf_iff] at h ⊢
  exact ⟨Sparse.wf_set regReset _ _ _ h.1, h.2⟩

theorem Rod.wf_p (ρ : Rod) (f : Fld) (v : Nat) (h : ρ.wf = true) : (ρ.p f v).wf = true := Rod.wf_pw _ _ _ h

/-- Writing a word of signal memory keeps the canonical forms. -/
theorem Rod.wf_sp (ρ : Rod) (w : Nat) (v : Word) (h : ρ.wf = true) : (ρ.sp w v).wf = true := by
  rw [Rod.wf_iff] at h ⊢
  exact ⟨h.1, Sparse.wf_set (fun _ => 0#32) _ _ _ h.2.1, h.2.2⟩

theorem Rod.wf_send (ρ : Rod) (o : Out) (h : ρ.wf = true) : (ρ.send o).wf = true := h

theorem Rod.wf_fltAP (ρ : Rod) (c sv pg ax ph : Nat) (d : List (Nat × Nat × Nat)) (h : ρ.wf = true) :
    (ρ.fltAP c sv pg ax ph d).wf = true := h

theorem Rod.wf_when (ρ : Rod) (c : Bool) (f : Rod → Rod) (hf : ∀ q : Rod, q.wf = true → (f q).wf = true)
    (h : ρ.wf = true) : (ρ.when c f).wf = true := by
  cases c
  · exact h
  · exact hf ρ h

theorem Rod.wf_each {α : Type} (l : List α) (f : α → Rod → Rod) (hf : ∀ a (q : Rod), q.wf = true → (f a q).wf = true)
    (ρ : Rod) (h : ρ.wf = true) : (ρ.each l f).wf = true := by
  unfold Rod.each
  induction l generalizing ρ with
  | nil => exact h
  | cons a t ih => exact ih _ (hf a ρ h)

/-- An interrupt event keeps the canonical forms. -/
theorem Rod.wf_irqMask (ρ : Rod) (p : Nat) (m : Word) (h : ρ.wf = true) : (ρ.irqMask p m).wf = true := by
  obtain ⟨b, l, e⟩ := Rod.irqMask_cases ρ p m
  rw [e]
  exact Rod.wf_pw _ _ _ h

theorem Rod.wf_irq (ρ : Rod) (p j : Nat) (h : ρ.wf = true) : (ρ.irq p j).wf = true := Rod.wf_irqMask _ _ _ h

theorem Sparse.mem_put {α : Type} (m : Sparse α) (k : Nat) (v : α) (e : Nat × α) (h : e ∈ Sparse.put m k v) :
    e = (k, v) ∨ e ∈ m := by
  induction m with
  | nil => simpa [Sparse.put] using h
  | cons a t ih =>
    unfold Sparse.put at h
    split at h
    · rcases List.mem_cons.1 h with h | h <;> simp [h]
    · split at h
      · rcases List.mem_cons.1 h with h | h
        · simp [h]
        · exact .inr h
      · rcases List.mem_cons.1 h with h | h
        · simp [h]
        · rcases ih h with h | h <;> simp [h]

/-- A record in a slot keeps the order of the log and its 1,024 slots. -/
theorem putSlot_form (r : FaultRec) (seq : Nat) (l : Sparse FaultRec) (h : Sparse.rising l = true ∧ ∀ e ∈ l, e.1 < 1024) :
    Sparse.rising (Sparse.put l (seq % 1024) r) = true ∧ ∀ e ∈ Sparse.put l (seq % 1024) r, e.1 < 1024 := by
  refine ⟨Sparse.rising_put _ _ _ h.1, fun e he => ?_⟩
  rcases Sparse.mem_put _ _ _ _ he with e' | e'
  · rw [e']; exact Nat.mod_lt _ (by decide)
  · exact h.2 e e'

/-- Placing a record keeps the order of the log and its 1,024 slots. -/
theorem placeRec_form (me : RodId) (r : FaultRec) (n seq : Nat) (l : Sparse FaultRec)
    (h : Sparse.rising l = true ∧ ∀ e ∈ l, e.1 < 1024) :
    Sparse.rising (placeRec me r n seq l) = true ∧ ∀ e ∈ placeRec me r n seq l, e.1 < 1024 := by
  induction n generalizing seq l with
  | zero => exact putSlot_form r seq l h
  | succ n ih =>
    unfold placeRec
    split
    · exact putSlot_form r seq l h
    · split
      · exact ih _ _ (putSlot_form _ seq l h)
      · exact putSlot_form r seq l h

/-- Storing a record keeps the canonical forms. -/
theorem Rod.wf_logStore (ρ : Rod) (r : FaultRec) (own : Bool) (h : ρ.wf = true) : (ρ.logStore r own).wf = true := by
  unfold Rod.logStore Rod.incMod
  apply Rod.wf_p
  rw [Rod.wf_iff] at h ⊢
  refine ⟨h.1, h.2.1, ?_⟩
  dsimp only
  split
  · exact placeRec_form _ _ _ _ _ h.2.2
  · exact putSlot_form _ _ _ h.2.2

/-- Writing a record keeps the canonical forms. -/
theorem Rod.wf_writeRec (ρ : Rod) (r : FaultRec) (own : Bool) (h : ρ.wf = true) : (ρ.writeRec r own).wf = true := by
  have hm (q : Rod) (v : Nat) (hq : q.wf = true) : (q.sevMsg v own).wf = true := by
    obtain ⟨b, l, e⟩ := Rod.sevMsg_cases q v own
    rw [e]
    exact hq
  unfold Rod.writeRec
  apply Rod.wf_when _ _ _ (fun _ hq => Rod.wf_send _ _ hq)
  apply hm
  apply Rod.wf_when _ _ _ (fun _ hq => Rod.wf_irq _ _ _ hq)
  apply Rod.wf_when _ _ _ (fun _ hq => Rod.wf_irq _ _ _ hq)
  exact Rod.wf_logStore _ _ _ h

/-- Writing the records of a command keeps the canonical forms. -/
theorem Rod.wf_flush (ρ : Rod) (h : ρ.wf = true) : ρ.flush.wf = true :=
  Rod.wf_each _ _ (fun r q hq => Rod.wf_writeRec q r true hq) _ h

/-- Reset has the canonical forms. -/
theorem Rod.wf_init (r : RodId) : (Rod.init r).wf = true := by cases r <;> rfl

end Sys2Proof.Machine
end

