-- ==== Sys2Proof/Laws/PerInstr.lean ====
section
/-! SUPPORT. What holds of every command as syntax: a command that a partner sends comes from another rod than the one it reaches
(R19). -/

namespace Sys2Proof

/-- The rod that sends a command: the partner whose message it is; `none` for the host, a pin, a timer or the rod itself. -/
def Instr.sender : Instr → Option RodId
  | .registerWrite .. => none
  | .pairLoRead .. => none
  | .pairHiWrite .. => none
  | .rcRead .. => none
  | .w1cWrite .. => none
  | .irqForce .. => none
  | .stgCommit .. => none
  | .stgOpen .. => none
  | .stgMode .. => none
  | .stgFtArm .. => none
  | .mismatchClear .. => none
  | .stagedCommit .. => none
  | .atFtCommit .. => none
  | .noTickCommit .. => none
  | .pageLockRequest .. => none
  | .pageLockRelease .. => none
  | .errcapClear .. => none
  | .flAck .. => none
  | .flashRecordAppend .. => none
  | .operatingHour .. => none
  | .samplingInstant .. => none
  | .adcConversion .. => none
  | .triggerFire .. => none
  | .blockLimit .. => none
  | .setOff .. => none
  | .dqFrameSend .. => none
  | .dqSendDeadline .. => none
  | .dqFrameReceive _ src .. => some src
  | .receiveWindowClose .. => none
  | .residualWindowEnd .. => none
  | .dqSilent _ src => some src
  | .dutyLatch .. => none
  | .refreshPulse .. => none
  | .injectionDone .. => none
  | .injStop .. => none
  | .sfReport .. => none
  | .sfReportMessage _ src .. => some src
  | .sfUnconfirmed .. => none
  | .vehSpeedStale .. => none
  | .setStateMessage _ src .. => some src
  | .torqueCopyReceive _ src .. => some src
  | .stateCopyReceive _ src .. => some src
  | .copyMissedNotice _ src .. => some src
  | .judgementMessage _ src .. => some src
  | .withdrawalNotice _ src .. => some src
  | .removal .. => none
  | .removalOrder _ src => some src
  | .modeRequest .. => none
  | .modeRequestTimeout .. => none
  | .modeProposal _ src .. => some src
  | .modeChange .. => none
  | .armRelease .. => none
  | .standstillReached .. => none
  | .auxContact .. => none
  | .kauxTimeout .. => none
  | .osdStepEnd .. => none
  | .prechargeEnd .. => none
  | .syncTimeout .. => none
  | .bootComparatorTest .. => none
  | .bootFirmwareVerify .. => none
  | .bootImageVerify .. => none
  | .timeBaseFrame .. => none
  | .timeCapture .. => none
  | .timeFrame _ src .. => some src
  | .captureWindowClose .. => none
  | .lockAcquired .. => none
  | .lockedClear .. => none
  | .srcExcluded .. => none
  | .srcReadmitted .. => none
  | .holdExpired .. => none
  | .xmodReturn .. => none
  | .take .. => none
  | .wakeup .. => none
  | .mtsA .. => none
  | .mtsB .. => none
  | .frHalt .. => none
  | .restart .. => none
  | .wudop .. => none
  | .frFrameReceive .. => none
  | .cycleStart .. => none
  | .mbReady .. => none
  | .mbHold .. => none
  | .coldstartAttempt .. => none
  | .coldExhausted .. => none
  | .clockCorrection .. => none
  | .channelSilent .. => none
  | .clusterLost .. => none
  | .clusterBack .. => none
  | .wakeRx .. => none
  | .wakeCollision .. => none
  | .perstNAssert .. => none
  | .linkLoss .. => none
  | .hotReset .. => none
  | .flr .. => none
  | .linkUp .. => none
  | .d3hotEntry .. => none
  | .d0Return .. => none
  | .sqTailDoorbell .. => none
  | .cqHeadDoorbell .. => none
  | .descriptorFetch .. => none
  | .atFtCommand .. => none
  | .completionPost .. => none
  | .nop .. => none
  | .setpoint .. => none
  | .regWrite .. => none
  | .regRead .. => none
  | .memWrite .. => none
  | .memRead .. => none
  | .imageStage .. => none
  | .imageVerify .. => none
  | .capture .. => none
  | .faultExport .. => none
  | .contractAdmit .. => none
  | .contractWithdraw .. => none
  | .attest .. => none
  | .lockAcq .. => none
  | .lockRel .. => none
  | .reportRing .. => none
  | .dmaReadCompletion .. => none
  | .dmaCompletionTimeout .. => none
  | .forwardMessage _ src .. => some src
  | .forwardResult _ src .. => some src
  | .forwardTimeout .. => none
  | .fabricGrant .. => none
  | .starvation .. => none
  | .qpClass .. => none
  | .rankGrant .. => none
  | .lockTimeout .. => none
  | .relayedRecord .. => none
  | .admitProposal _ src .. => some src
  | .admitAnswer _ src .. => some src
  | .admitPartnerTimeout .. => none
  | .noticeIntervalEnd .. => none
  | .reportLatch .. => none
  | .carryLinkDown .. => none
  | .carryLinkUp .. => none
  | .setpointCopy _ src .. => some src
  | .memoryWindowWrite .. => none
  | .coefSync .. => none
  | .coefSyncDone .. => none
  | .trcCfg .. => none
  | .clrMax .. => none
  | .illegalOpcode .. => none
  | .ld .. => none
  | .ldx .. => none
  | .st .. => none
  | .stx .. => none
  | .mov .. => none
  | .movi .. => none
  | .nopInstruction .. => none
  | .rid .. => none
  | .adds .. => none
  | .subs .. => none
  | .addw .. => none
  | .subw .. => none
  | .mulw .. => none
  | .negs .. => none
  | .abss .. => none
  | .min .. => none
  | .max .. => none
  | .clmp .. => none
  | .asr .. => none
  | .lsl .. => none
  | .and .. => none
  | .or .. => none
  | .xor .. => none
  | .clra .. => none
  | .lda .. => none
  | .macc .. => none
  | .mscc .. => none
  | .macv .. => none
  | .mscv .. => none
  | .bias .. => none
  | .ext .. => none
  | .sincos .. => none
  | .tli .. => none
  | .clu .. => none
  | .limc .. => none
  | .blt .. => none
  | .bge .. => none
  | .beq .. => none
  | .bne .. => none
  | .jmp .. => none
  | .repeatN .. => none
  | .clrf .. => none
  | .halt .. => none
  | .pumpPhaseMessage _ src .. => some src
  | .pumpStatusReport _ src .. => some src
  | .observerLock .. => none
  | .obsLost .. => none
  | .catchNoLock .. => none
  | .restConfirmed .. => none
  | .brkTmoExpiry .. => none
  | .alignTExpiry .. => none
  | .rampHoldTimeout .. => none
  | .retryCountReset .. => none
  | .retry .. => none
  | .quadratureTransition .. => none
  | .leakLimit .. => none
  | .indexEvent .. => none
  | .lineFault .. => none
  | .spdTmo .. => none
  | .leadInStepTimeout .. => none
  | .serialTransferEnd .. => none
  | .serFault .. => none
  | .trackFault .. => none
  | .rearm .. => none
  | .desaturation .. => none
  | .overcurrent .. => none
  | .dieOvertemp .. => none
  | .bootUv .. => none
  | .vgdUv .. => none
  | .gatePlaus .. => none
  | .eEnded .. => none
  | .tClr .. => none
  | .tClrPulseEnd .. => none
  | .disChange .. => none
  | .ascChange .. => none
  | .fenceLatch .. => none
  | .fenceClr .. => none
  | .chopperOn .. => none
  | .chopperOff .. => none
  | .chopperFail .. => none
  | .supplyOv2 .. => none
  | .vmUndervolt .. => none
  | .vmUvClear .. => none
  | .dieTempWarn .. => none
  | .drvDiag .. => none
  | .diagOnTime .. => none
  | .rejoinConsent .. => none
  | .rejoinEntry .. => none
  | .joinRequest _ src .. => some src
  | .rejoinData _ src .. => some src
  | .rejoinTimeout .. => none
  | .tandemCopyReceive .. => none
  | .witnessFrame .. => none
  | .witnessDecision .. => none
  | .tandemCopyLost .. => none
  | .tandemLaneChange .. => none
  | .uidExchange _ src .. => some src
  | .lockstepWindowEnd .. => none
  | .comparatorTest .. => none
  | .pairSplit .. => none
  | .pairRejoin .. => none
  | .pairRestart .. => none
  | .xtest .. => none
  | .xtestDone .. => none
  | .sealRead .. => none
  | .sealResend .. => none
  | .sealMessage _ src .. => some src
  | .contactorOpen .. => none
  | .contactorWelded .. => none
  | .contactorTestDue .. => none
  | .settleDelayEnd .. => none
  | .crystalProven .. => none
  | .pllLock .. => none
  | .xtalFail .. => none
  | .pllAFail .. => none
  | .pllBFail .. => none
  | .rcFail .. => none
  | .rcDetectorClear .. => none
  | .refclkLost .. => none
  | .carryClockLost .. => none
  | .tandemClockLost .. => none
  | .sourceBack .. => none
  | .clkMeasSel .. => none
  | .measDone .. => none
  | .ckoCfg .. => none
  | .pwrHost .. => none
  | .domainPowerUp .. => none
  | .domainPowerDown .. => none
  | .coreSwitchOpen .. => none
  | .domainFail .. => none
  | .supplyFail .. => none
  | .powerOnResetRelease .. => none
  | .wakeEvent .. => none
  | .wake .. => none
  | .reset .. => none
  | .vaonLoss .. => none
  | .close .. => none
  | .openL1 .. => none
  | .passwordCheckDone .. => none
  | .lockoutEnd .. => none
  | .accessIdleTimeout .. => none
  | .challenge .. => none
  | .challengeExpiry .. => none
  | .respond .. => none
  | .applyManifest .. => none
  | .setPassword .. => none
  | .updReq .. => none
  | .updateComplete .. => none
  | .bypass .. => none
  | .idcode .. => none
  | .samplePreload .. => none
  | .extest .. => none
  | .wakePortStop .. => none
  | .discardedCommandByte .. => none
  | .correctedMemoryError .. => none

/-- A well-formed command comes from no rod but a partner of the one it reaches. -/
def Laws.Sender.Statement (i : Instr) : Prop := i.wf = true → ∀ p, i.sender = some p → p ≠ i.rod

/-- What `wfSrc` says of the sender. -/
theorem wfSrc_ne (r src : RodId) (h : wfSrc r src = true) : src ≠ r := by
  intro e; subst e; simp [wfSrc] at h

namespace Laws.Sender

theorem registerWrite (a0 : RodId) (a1 : Path) (a2 : Nat) (a3 : Nat) (a4 : DWord) :
    Statement (.registerWrite a0 a1 a2 a3 a4) := fun _ _ h => nomatch h
theorem pairLoRead (a0 : RodId) (a1 : ReadAt) :
    Statement (.pairLoRead a0 a1) := fun _ _ h => nomatch h
theorem pairHiWrite (a0 : RodId) (a1 : Path) (a2 : Nat) (a3 : Word) :
    Statement (.pairHiWrite a0 a1 a2 a3) := fun _ _ h => nomatch h
theorem rcRead (a0 : RodId) (a1 : ReadAt) (a2 : Word) :
    Statement (.rcRead a0 a1 a2) := fun _ _ h => nomatch h
theorem w1cWrite (a0 : RodId) (a1 : Path) (a2 : Nat) (a3 : Word) (a4 : Word) :
    Statement (.w1cWrite a0 a1 a2 a3 a4) := fun _ _ h => nomatch h
theorem irqForce (a0 : RodId) (a1 : Path) (a2 : Nat) (a3 : Word) :
    Statement (.irqForce a0 a1 a2 a3) := fun _ _ h => nomatch h
theorem stgCommit (a0 : RodId) (a1 : Path) (a2 : Nat) (a3 : Word) :
    Statement (.stgCommit a0 a1 a2 a3) := fun _ _ h => nomatch h
theorem stgOpen (a0 : RodId) (a1 : Path) (a2 : Nat) (a3 : Word) :
    Statement (.stgOpen a0 a1 a2 a3) := fun _ _ h => nomatch h
theorem stgMode (a0 : RodId) (a1 : Path) (a2 : Nat) (a3 : Word) :
    Statement (.stgMode a0 a1 a2 a3) := fun _ _ h => nomatch h
theorem stgFtArm (a0 : RodId) (a1 : Path) (a2 : Nat) (a3 : Word) :
    Statement (.stgFtArm a0 a1 a2 a3) := fun _ _ h => nomatch h
theorem mismatchClear (a0 : RodId) (a1 : Path) (a2 : Nat) :
    Statement (.mismatchClear a0 a1 a2) := fun _ _ h => nomatch h
theorem stagedCommit (a0 : RodId) (a1 : Nat) :
    Statement (.stagedCommit a0 a1) := fun _ _ h => nomatch h
theorem atFtCommit (a0 : RodId) (a1 : Nat) :
    Statement (.atFtCommit a0 a1) := fun _ _ h => nomatch h
theorem noTickCommit (a0 : RodId) (a1 : Nat) :
    Statement (.noTickCommit a0 a1) := fun _ _ h => nomatch h
theorem pageLockRequest (a0 : RodId) (a1 : Path) (a2 : Nat) :
    Statement (.pageLockRequest a0 a1 a2) := fun _ _ h => nomatch h
theorem pageLockRelease (a0 : RodId) (a1 : Path) (a2 : Nat) :
    Statement (.pageLockRelease a0 a1 a2) := fun _ _ h => nomatch h
theorem errcapClear (a0 : RodId) (a1 : Path) (a2 : Nat) :
    Statement (.errcapClear a0 a1 a2) := fun _ _ h => nomatch h
theorem flAck (a0 : RodId) (a1 : Path) (a2 : Word) :
    Statement (.flAck a0 a1 a2) := fun _ _ h => nomatch h
theorem flashRecordAppend (a0 : RodId) :
    Statement (.flashRecordAppend a0) := fun _ _ h => nomatch h
theorem operatingHour (a0 : RodId) :
    Statement (.operatingHour a0) := fun _ _ h => nomatch h
theorem samplingInstant (a0 : RodId) (a1 : DWord) :
    Statement (.samplingInstant a0 a1) := fun _ _ h => nomatch h
theorem adcConversion (a0 : RodId) (a1 : AdcWords) :
    Statement (.adcConversion a0 a1) := fun _ _ h => nomatch h
theorem triggerFire (a0 : RodId) (a1 : Fin 4) (a2 : Fin 8) :
    Statement (.triggerFire a0 a1 a2) := fun _ _ h => nomatch h
theorem blockLimit (a0 : RodId) (a1 : Fin 4) :
    Statement (.blockLimit a0 a1) := fun _ _ h => nomatch h
theorem setOff (a0 : RodId) (a1 : Axis) :
    Statement (.setOff a0 a1) := fun _ _ h => nomatch h
theorem dqFrameSend (a0 : RodId) :
    Statement (.dqFrameSend a0) := fun _ _ h => nomatch h
theorem dqSendDeadline (a0 : RodId) :
    Statement (.dqSendDeadline a0) := fun _ _ h => nomatch h
theorem dqFrameReceive (a0 : RodId) (a1 : RodId) (a2 : DqFrame) :
    Statement (.dqFrameReceive a0 a1 a2) := by
  intro h p hp; cases hp
  apply wfSrc_ne; simp only [Instr.wf, Bool.and_eq_true] at h; exact h.1
theorem receiveWindowClose (a0 : RodId) :
    Statement (.receiveWindowClose a0) := fun _ _ h => nomatch h
theorem residualWindowEnd (a0 : RodId) (a1 : Axis) :
    Statement (.residualWindowEnd a0 a1) := fun _ _ h => nomatch h
theorem dqSilent (a0 : RodId) (a1 : RodId) :
    Statement (.dqSilent a0 a1) := by
  intro h p hp; cases hp
  apply wfSrc_ne; exact h
theorem dutyLatch (a0 : LatchAt) :
    Statement (.dutyLatch a0) := fun _ _ h => nomatch h
theorem refreshPulse (a0 : RodId) (a1 : Axis) (a2 : Phase) :
    Statement (.refreshPulse a0 a1 a2) := fun _ _ h => nomatch h
theorem injectionDone (a0 : RodId) (a1 : Axis) :
    Statement (.injectionDone a0 a1) := fun _ _ h => nomatch h
theorem injStop (a0 : RodId) (a1 : Path) (a2 : Axis) :
    Statement (.injStop a0 a1 a2) := fun _ _ h => nomatch h
theorem sfReport (a0 : RodId) (a1 : Axis) (a2 : Nat) :
    Statement (.sfReport a0 a1 a2) := fun _ _ h => nomatch h
theorem sfReportMessage (a0 : RodId) (a1 : RodId) (a2 : SfMsg) :
    Statement (.sfReportMessage a0 a1 a2) := by
  intro h p hp; cases hp
  apply wfSrc_ne; simp only [Instr.wf, Bool.and_eq_true] at h; exact h.1
theorem sfUnconfirmed (a0 : RodId) (a1 : Axis) (a2 : Nat) (a3 : RodId) :
    Statement (.sfUnconfirmed a0 a1 a2 a3) := fun _ _ h => nomatch h
theorem vehSpeedStale (a0 : RodId) :
    Statement (.vehSpeedStale a0) := fun _ _ h => nomatch h
theorem setStateMessage (a0 : RodId) (a1 : RodId) (a2 : SetState) :
    Statement (.setStateMessage a0 a1 a2) := by
  intro h p hp; cases hp
  apply wfSrc_ne; exact h
theorem torqueCopyReceive (a0 : RodId) (a1 : RodId) (a2 : TorqueCopy) :
    Statement (.torqueCopyReceive a0 a1 a2) := by
  intro h p hp; cases hp
  apply wfSrc_ne; simp only [Instr.wf, Bool.and_eq_true] at h; exact h.1
theorem stateCopyReceive (a0 : RodId) (a1 : RodId) (a2 : StateCopy) :
    Statement (.stateCopyReceive a0 a1 a2) := by
  intro h p hp; cases hp
  apply wfSrc_ne; simp only [Instr.wf, Bool.and_eq_true] at h; exact h.1
theorem copyMissedNotice (a0 : RodId) (a1 : RodId) (a2 : Axis) :
    Statement (.copyMissedNotice a0 a1 a2) := by
  intro h p hp; cases hp
  apply wfSrc_ne; exact h
theorem judgementMessage (a0 : RodId) (a1 : RodId) (a2 : JudgeMsg) :
    Statement (.judgementMessage a0 a1 a2) := by
  intro h p hp; cases hp
  apply wfSrc_ne; simp only [Instr.wf, Bool.and_eq_true] at h; exact h.1
theorem withdrawalNotice (a0 : RodId) (a1 : RodId) (a2 : Word) :
    Statement (.withdrawalNotice a0 a1 a2) := by
  intro h p hp; cases hp
  apply wfSrc_ne; exact h
theorem removal (a0 : RodId) (a1 : RodId) :
    Statement (.removal a0 a1) := fun _ _ h => nomatch h
theorem removalOrder (a0 : RodId) (a1 : RodId) :
    Statement (.removalOrder a0 a1) := by
  intro h p hp; cases hp
  apply wfSrc_ne; exact h
theorem modeRequest (a0 : RodId) (a1 : Path) (a2 : Word) :
    Statement (.modeRequest a0 a1 a2) := fun _ _ h => nomatch h
theorem modeRequestTimeout (a0 : RodId) :
    Statement (.modeRequestTimeout a0) := fun _ _ h => nomatch h
theorem modeProposal (a0 : RodId) (a1 : RodId) (a2 : Nat) :
    Statement (.modeProposal a0 a1 a2) := by
  intro h p hp; cases hp
  apply wfSrc_ne; simp only [Instr.wf, Bool.and_eq_true] at h; exact h.1
theorem modeChange (a0 : RodId) :
    Statement (.modeChange a0) := fun _ _ h => nomatch h
theorem armRelease (a0 : RodId) (a1 : Path) (a2 : Word) :
    Statement (.armRelease a0 a1 a2) := fun _ _ h => nomatch h
theorem standstillReached (a0 : RodId) (a1 : Axis) :
    Statement (.standstillReached a0 a1) := fun _ _ h => nomatch h
theorem auxContact (a0 : RodId) (a1 : Bool) :
    Statement (.auxContact a0 a1) := fun _ _ h => nomatch h
theorem kauxTimeout (a0 : RodId) :
    Statement (.kauxTimeout a0) := fun _ _ h => nomatch h
theorem osdStepEnd (a0 : RodId) (a1 : Tri (BitVec 16)) (a2 : BitVec 16) :
    Statement (.osdStepEnd a0 a1 a2) := fun _ _ h => nomatch h
theorem prechargeEnd (a0 : RodId) (a1 : Tri (BitVec 3)) :
    Statement (.prechargeEnd a0 a1) := fun _ _ h => nomatch h
theorem syncTimeout (a0 : RodId) :
    Statement (.syncTimeout a0) := fun _ _ h => nomatch h
theorem bootComparatorTest (a0 : RodId) (a1 : Option (Nat × Nat)) :
    Statement (.bootComparatorTest a0 a1) := fun _ _ h => nomatch h
theorem bootFirmwareVerify (a0 : RodId) (a1 : Verdict) :
    Statement (.bootFirmwareVerify a0 a1) := fun _ _ h => nomatch h
theorem bootImageVerify (a0 : RodId) (a1 : Verdict) (a2 : Verdict) (a3 : Bool) (a4 : Bool) :
    Statement (.bootImageVerify a0 a1 a2 a3 a4) := fun _ _ h => nomatch h
theorem timeBaseFrame (a0 : RodId) (a1 : FrSlot) :
    Statement (.timeBaseFrame a0 a1) := fun _ _ h => nomatch h
theorem timeCapture (a0 : RodId) (a1 : CaptureAt) (a2 : ClusterPos) :
    Statement (.timeCapture a0 a1 a2) := fun _ _ h => nomatch h
theorem timeFrame (a0 : RodId) (a1 : RodId) (a2 : TimeArrival) :
    Statement (.timeFrame a0 a1 a2) := by
  intro h p hp; cases hp
  apply wfSrc_ne; exact h
theorem captureWindowClose (a0 : RodId) :
    Statement (.captureWindowClose a0) := fun _ _ h => nomatch h
theorem lockAcquired (a0 : RodId) :
    Statement (.lockAcquired a0) := fun _ _ h => nomatch h
theorem lockedClear (a0 : RodId) :
    Statement (.lockedClear a0) := fun _ _ h => nomatch h
theorem srcExcluded (a0 : RodId) (a1 : RodId) :
    Statement (.srcExcluded a0 a1) := fun _ _ h => nomatch h
theorem srcReadmitted (a0 : RodId) (a1 : RodId) :
    Statement (.srcReadmitted a0 a1) := fun _ _ h => nomatch h
theorem holdExpired (a0 : RodId) :
    Statement (.holdExpired a0) := fun _ _ h => nomatch h
theorem xmodReturn (a0 : RodId) :
    Statement (.xmodReturn a0) := fun _ _ h => nomatch h
theorem take (a0 : RodId) (a1 : Path) :
    Statement (.take a0 a1) := fun _ _ h => nomatch h
theorem wakeup (a0 : RodId) (a1 : Path) (a2 : Byte) :
    Statement (.wakeup a0 a1 a2) := fun _ _ h => nomatch h
theorem mtsA (a0 : RodId) (a1 : Path) (a2 : Byte) :
    Statement (.mtsA a0 a1 a2) := fun _ _ h => nomatch h
theorem mtsB (a0 : RodId) (a1 : Path) (a2 : Byte) :
    Statement (.mtsB a0 a1 a2) := fun _ _ h => nomatch h
theorem frHalt (a0 : RodId) (a1 : Path) (a2 : Byte) :
    Statement (.frHalt a0 a1 a2) := fun _ _ h => nomatch h
theorem restart (a0 : RodId) (a1 : Path) (a2 : Byte) :
    Statement (.restart a0 a1 a2) := fun _ _ h => nomatch h
theorem wudop (a0 : RodId) (a1 : Path) (a2 : Byte) :
    Statement (.wudop a0 a1 a2) := fun _ _ h => nomatch h
theorem frFrameReceive (a0 : RodId) (a1 : FrSlot) :
    Statement (.frFrameReceive a0 a1) := fun _ _ h => nomatch h
theorem cycleStart (a0 : RodId) (a1 : Nat) :
    Statement (.cycleStart a0 a1) := fun _ _ h => nomatch h
theorem mbReady (a0 : RodId) (a1 : Path) (a2 : Fin 128) :
    Statement (.mbReady a0 a1 a2) := fun _ _ h => nomatch h
theorem mbHold (a0 : RodId) (a1 : Path) (a2 : Fin 128) (a3 : Bool) :
    Statement (.mbHold a0 a1 a2 a3) := fun _ _ h => nomatch h
theorem coldstartAttempt (a0 : RodId) :
    Statement (.coldstartAttempt a0) := fun _ _ h => nomatch h
theorem coldExhausted (a0 : RodId) :
    Statement (.coldExhausted a0) := fun _ _ h => nomatch h
theorem clockCorrection (a0 : RodId) (a1 : Int) (a2 : Int) (a3 : Nat) (a4 : Nat) :
    Statement (.clockCorrection a0 a1 a2 a3 a4) := fun _ _ h => nomatch h
theorem channelSilent (a0 : RodId) (a1 : Chan) :
    Statement (.channelSilent a0 a1) := fun _ _ h => nomatch h
theorem clusterLost (a0 : RodId) (a1 : Nat) :
    Statement (.clusterLost a0 a1) := fun _ _ h => nomatch h
theorem clusterBack (a0 : RodId) :
    Statement (.clusterBack a0) := fun _ _ h => nomatch h
theorem wakeRx (a0 : RodId) (a1 : Chan) (a2 : Bool) :
    Statement (.wakeRx a0 a1 a2) := fun _ _ h => nomatch h
theorem wakeCollision (a0 : RodId) :
    Statement (.wakeCollision a0) := fun _ _ h => nomatch h
theorem perstNAssert (a0 : RodId) :
    Statement (.perstNAssert a0) := fun _ _ h => nomatch h
theorem linkLoss (a0 : RodId) :
    Statement (.linkLoss a0) := fun _ _ h => nomatch h
theorem hotReset (a0 : RodId) :
    Statement (.hotReset a0) := fun _ _ h => nomatch h
theorem flr (a0 : RodId) :
    Statement (.flr a0) := fun _ _ h => nomatch h
theorem linkUp (a0 : RodId) (a1 : Fin 4) :
    Statement (.linkUp a0 a1) := fun _ _ h => nomatch h
theorem d3hotEntry (a0 : RodId) :
    Statement (.d3hotEntry a0) := fun _ _ h => nomatch h
theorem d0Return (a0 : RodId) :
    Statement (.d0Return a0) := fun _ _ h => nomatch h
theorem sqTailDoorbell (a0 : RodId) (a1 : Path) (a2 : Fin 16) (a3 : Word) :
    Statement (.sqTailDoorbell a0 a1 a2 a3) := fun _ _ h => nomatch h
theorem cqHeadDoorbell (a0 : RodId) (a1 : Path) (a2 : Fin 16) (a3 : Word) :
    Statement (.cqHeadDoorbell a0 a1 a2 a3) := fun _ _ h => nomatch h
theorem descriptorFetch (a0 : RodId) (a1 : Fin 16) (a2 : List Byte) :
    Statement (.descriptorFetch a0 a1 a2) := fun _ _ h => nomatch h
theorem atFtCommand (a0 : RodId) (a1 : Fin 16) (a2 : BitVec 16) :
    Statement (.atFtCommand a0 a1 a2) := fun _ _ h => nomatch h
theorem completionPost (a0 : RodId) (a1 : Fin 16) :
    Statement (.completionPost a0 a1) := fun _ _ h => nomatch h
theorem nop (a0 : RodId) (a1 : Fin 16) (a2 : BitVec 16) :
    Statement (.nop a0 a1 a2) := fun _ _ h => nomatch h
theorem setpoint (a0 : RodId) (a1 : Fin 16) (a2 : BitVec 16) :
    Statement (.setpoint a0 a1 a2) := fun _ _ h => nomatch h
theorem regWrite (a0 : RodId) (a1 : Fin 16) (a2 : BitVec 16) :
    Statement (.regWrite a0 a1 a2) := fun _ _ h => nomatch h
theorem regRead (a0 : RodId) (a1 : Fin 16) (a2 : BitVec 16) :
    Statement (.regRead a0 a1 a2) := fun _ _ h => nomatch h
theorem memWrite (a0 : RodId) (a1 : Fin 16) (a2 : BitVec 16) :
    Statement (.memWrite a0 a1 a2) := fun _ _ h => nomatch h
theorem memRead (a0 : RodId) (a1 : Fin 16) (a2 : BitVec 16) :
    Statement (.memRead a0 a1 a2) := fun _ _ h => nomatch h
theorem imageStage (a0 : RodId) (a1 : Fin 16) (a2 : BitVec 16) :
    Statement (.imageStage a0 a1 a2) := fun _ _ h => nomatch h
theorem imageVerify (a0 : RodId) (a1 : Fin 16) (a2 : BitVec 16) (a3 : Verdict) :
    Statement (.imageVerify a0 a1 a2 a3) := fun _ _ h => nomatch h
theorem capture (a0 : RodId) (a1 : Fin 16) (a2 : BitVec 16) :
    Statement (.capture a0 a1 a2) := fun _ _ h => nomatch h
theorem faultExport (a0 : RodId) (a1 : Fin 16) (a2 : BitVec 16) :
    Statement (.faultExport a0 a1 a2) := fun _ _ h => nomatch h
theorem contractAdmit (a0 : RodId) (a1 : Fin 16) (a2 : BitVec 16) :
    Statement (.contractAdmit a0 a1 a2) := fun _ _ h => nomatch h
theorem contractWithdraw (a0 : RodId) (a1 : Fin 16) (a2 : BitVec 16) :
    Statement (.contractWithdraw a0 a1 a2) := fun _ _ h => nomatch h
theorem attest (a0 : RodId) (a1 : Fin 16) (a2 : BitVec 16) :
    Statement (.attest a0 a1 a2) := fun _ _ h => nomatch h
theorem lockAcq (a0 : RodId) (a1 : Fin 16) (a2 : BitVec 16) :
    Statement (.lockAcq a0 a1 a2) := fun _ _ h => nomatch h
theorem lockRel (a0 : RodId) (a1 : Fin 16) (a2 : BitVec 16) :
    Statement (.lockRel a0 a1 a2) := fun _ _ h => nomatch h
theorem reportRing (a0 : RodId) (a1 : Fin 16) (a2 : BitVec 16) :
    Statement (.reportRing a0 a1 a2) := fun _ _ h => nomatch h
theorem dmaReadCompletion (a0 : RodId) (a1 : Fin 2) (a2 : ReadReply) :
    Statement (.dmaReadCompletion a0 a1 a2) := fun _ _ h => nomatch h
theorem dmaCompletionTimeout (a0 : RodId) (a1 : HostRead) :
    Statement (.dmaCompletionTimeout a0 a1) := fun _ _ h => nomatch h
theorem forwardMessage (a0 : RodId) (a1 : RodId) (a2 : Fin 16) (a3 : Desc) (a4 : List Byte) :
    Statement (.forwardMessage a0 a1 a2 a3 a4) := by
  intro h p hp; cases hp
  apply wfSrc_ne; simp only [Instr.wf, Bool.and_eq_true] at h; exact h.1
theorem forwardResult (a0 : RodId) (a1 : RodId) (a2 : Fin 16) (a3 : BitVec 16) (a4 : Byte) (a5 : DWord) (a6 : List Byte) :
    Statement (.forwardResult a0 a1 a2 a3 a4 a5 a6) := by
  intro h p hp; cases hp
  apply wfSrc_ne; exact h
theorem forwardTimeout (a0 : RodId) (a1 : Fin 16) (a2 : BitVec 16) :
    Statement (.forwardTimeout a0 a1 a2) := fun _ _ h => nomatch h
theorem fabricGrant (a0 : RodId) (a1 : FabricAsk) :
    Statement (.fabricGrant a0 a1) := fun _ _ h => nomatch h
theorem starvation (a0 : RodId) (a1 : Fin 28) :
    Statement (.starvation a0 a1) := fun _ _ h => nomatch h
theorem qpClass (a0 : RodId) (a1 : Path) (a2 : Fin 16) (a3 : Word) :
    Statement (.qpClass a0 a1 a2 a3) := fun _ _ h => nomatch h
theorem rankGrant (a0 : RodId) (a1 : Fin 4) :
    Statement (.rankGrant a0 a1) := fun _ _ h => nomatch h
theorem lockTimeout (a0 : RodId) (a1 : Fin 4) :
    Statement (.lockTimeout a0 a1) := fun _ _ h => nomatch h
theorem relayedRecord (a0 : RodId) (a1 : FaultRec) :
    Statement (.relayedRecord a0 a1) := fun _ _ h => nomatch h
theorem admitProposal (a0 : RodId) (a1 : RodId) (a2 : AdmitProposal) :
    Statement (.admitProposal a0 a1 a2) := by
  intro h p hp; cases hp
  apply wfSrc_ne; exact h
theorem admitAnswer (a0 : RodId) (a1 : RodId) (a2 : AdmitAnswer) :
    Statement (.admitAnswer a0 a1 a2) := by
  intro h p hp; cases hp
  apply wfSrc_ne; exact h
theorem admitPartnerTimeout (a0 : RodId) (a1 : Nat) :
    Statement (.admitPartnerTimeout a0 a1) := fun _ _ h => nomatch h
theorem noticeIntervalEnd (a0 : RodId) :
    Statement (.noticeIntervalEnd a0) := fun _ _ h => nomatch h
theorem reportLatch (a0 : RodId) (a1 : ReportAt) :
    Statement (.reportLatch a0 a1) := fun _ _ h => nomatch h
theorem carryLinkDown (a0 : RodId) (a1 : RodId) :
    Statement (.carryLinkDown a0 a1) := fun _ _ h => nomatch h
theorem carryLinkUp (a0 : RodId) (a1 : LinkAlign) :
    Statement (.carryLinkUp a0 a1) := fun _ _ h => nomatch h
theorem setpointCopy (a0 : RodId) (a1 : RodId) (a2 : SetpointCopy) :
    Statement (.setpointCopy a0 a1 a2) := by
  intro h p hp; cases hp
  apply wfSrc_ne; simp only [Instr.wf, Bool.and_eq_true] at h; exact h.1
theorem memoryWindowWrite (a0 : RodId) (a1 : Path) (a2 : Nat) (a3 : Nat) (a4 : DWord) :
    Statement (.memoryWindowWrite a0 a1 a2 a3 a4) := fun _ _ h => nomatch h
theorem coefSync (a0 : RodId) (a1 : Path) :
    Statement (.coefSync a0 a1) := fun _ _ h => nomatch h
theorem coefSyncDone (a0 : RodId) :
    Statement (.coefSyncDone a0) := fun _ _ h => nomatch h
theorem trcCfg (a0 : RodId) (a1 : Path) (a2 : Word) :
    Statement (.trcCfg a0 a1 a2) := fun _ _ h => nomatch h
theorem clrMax (a0 : RodId) (a1 : Path) (a2 : Fin 4) :
    Statement (.clrMax a0 a1 a2) := fun _ _ h => nomatch h
theorem illegalOpcode (a0 : RodId) (a1 : Fin 4) (a2 : Byte) (a3 : BitVec 56) :
    Statement (.illegalOpcode a0 a1 a2 a3) := fun _ _ h => nomatch h
theorem ld (a0 : RodId) (a1 : Fin 4) (a2 : BitVec 56) :
    Statement (.ld a0 a1 a2) := fun _ _ h => nomatch h
theorem ldx (a0 : RodId) (a1 : Fin 4) (a2 : BitVec 56) :
    Statement (.ldx a0 a1 a2) := fun _ _ h => nomatch h
theorem st (a0 : RodId) (a1 : Fin 4) (a2 : BitVec 56) :
    Statement (.st a0 a1 a2) := fun _ _ h => nomatch h
theorem stx (a0 : RodId) (a1 : Fin 4) (a2 : BitVec 56) :
    Statement (.stx a0 a1 a2) := fun _ _ h => nomatch h
theorem mov (a0 : RodId) (a1 : Fin 4) (a2 : BitVec 56) :
    Statement (.mov a0 a1 a2) := fun _ _ h => nomatch h
theorem movi (a0 : RodId) (a1 : Fin 4) (a2 : BitVec 56) :
    Statement (.movi a0 a1 a2) := fun _ _ h => nomatch h
theorem nopInstruction (a0 : RodId) (a1 : Fin 4) (a2 : BitVec 56) :
    Statement (.nopInstruction a0 a1 a2) := fun _ _ h => nomatch h
theorem rid (a0 : RodId) (a1 : Fin 4) (a2 : BitVec 56) :
    Statement (.rid a0 a1 a2) := fun _ _ h => nomatch h
theorem adds (a0 : RodId) (a1 : Fin 4) (a2 : BitVec 56) :
    Statement (.adds a0 a1 a2) := fun _ _ h => nomatch h
theorem subs (a0 : RodId) (a1 : Fin 4) (a2 : BitVec 56) :
    Statement (.subs a0 a1 a2) := fun _ _ h => nomatch h
theorem addw (a0 : RodId) (a1 : Fin 4) (a2 : BitVec 56) :
    Statement (.addw a0 a1 a2) := fun _ _ h => nomatch h
theorem subw (a0 : RodId) (a1 : Fin 4) (a2 : BitVec 56) :
    Statement (.subw a0 a1 a2) := fun _ _ h => nomatch h
theorem mulw (a0 : RodId) (a1 : Fin 4) (a2 : BitVec 56) :
    Statement (.mulw a0 a1 a2) := fun _ _ h => nomatch h
theorem negs (a0 : RodId) (a1 : Fin 4) (a2 : BitVec 56) :
    Statement (.negs a0 a1 a2) := fun _ _ h => nomatch h
theorem abss (a0 : RodId) (a1 : Fin 4) (a2 : BitVec 56) :
    Statement (.abss a0 a1 a2) := fun _ _ h => nomatch h
theorem min (a0 : RodId) (a1 : Fin 4) (a2 : BitVec 56) :
    Statement (.min a0 a1 a2) := fun _ _ h => nomatch h
theorem max (a0 : RodId) (a1 : Fin 4) (a2 : BitVec 56) :
    Statement (.max a0 a1 a2) := fun _ _ h => nomatch h
theorem clmp (a0 : RodId) (a1 : Fin 4) (a2 : BitVec 56) :
    Statement (.clmp a0 a1 a2) := fun _ _ h => nomatch h
theorem asr (a0 : RodId) (a1 : Fin 4) (a2 : BitVec 56) :
    Statement (.asr a0 a1 a2) := fun _ _ h => nomatch h
theorem lsl (a0 : RodId) (a1 : Fin 4) (a2 : BitVec 56) :
    Statement (.lsl a0 a1 a2) := fun _ _ h => nomatch h
theorem and (a0 : RodId) (a1 : Fin 4) (a2 : BitVec 56) :
    Statement (.and a0 a1 a2) := fun _ _ h => nomatch h
theorem or (a0 : RodId) (a1 : Fin 4) (a2 : BitVec 56) :
    Statement (.or a0 a1 a2) := fun _ _ h => nomatch h
theorem xor (a0 : RodId) (a1 : Fin 4) (a2 : BitVec 56) :
    Statement (.xor a0 a1 a2) := fun _ _ h => nomatch h
theorem clra (a0 : RodId) (a1 : Fin 4) (a2 : BitVec 56) :
    Statement (.clra a0 a1 a2) := fun _ _ h => nomatch h
theorem lda (a0 : RodId) (a1 : Fin 4) (a2 : BitVec 56) :
    Statement (.lda a0 a1 a2) := fun _ _ h => nomatch h
theorem macc (a0 : RodId) (a1 : Fin 4) (a2 : BitVec 56) :
    Statement (.macc a0 a1 a2) := fun _ _ h => nomatch h
theorem mscc (a0 : RodId) (a1 : Fin 4) (a2 : BitVec 56) :
    Statement (.mscc a0 a1 a2) := fun _ _ h => nomatch h
theorem macv (a0 : RodId) (a1 : Fin 4) (a2 : BitVec 56) :
    Statement (.macv a0 a1 a2) := fun _ _ h => nomatch h
theorem mscv (a0 : RodId) (a1 : Fin 4) (a2 : BitVec 56) :
    Statement (.mscv a0 a1 a2) := fun _ _ h => nomatch h
theorem bias (a0 : RodId) (a1 : Fin 4) (a2 : BitVec 56) :
    Statement (.bias a0 a1 a2) := fun _ _ h => nomatch h
theorem ext (a0 : RodId) (a1 : Fin 4) (a2 : BitVec 56) :
    Statement (.ext a0 a1 a2) := fun _ _ h => nomatch h
theorem sincos (a0 : RodId) (a1 : Fin 4) (a2 : BitVec 56) :
    Statement (.sincos a0 a1 a2) := fun _ _ h => nomatch h
theorem tli (a0 : RodId) (a1 : Fin 4) (a2 : BitVec 56) :
    Statement (.tli a0 a1 a2) := fun _ _ h => nomatch h
theorem clu (a0 : RodId) (a1 : Fin 4) (a2 : BitVec 56) :
    Statement (.clu a0 a1 a2) := fun _ _ h => nomatch h
theorem limc (a0 : RodId) (a1 : Fin 4) (a2 : BitVec 56) :
    Statement (.limc a0 a1 a2) := fun _ _ h => nomatch h
theorem blt (a0 : RodId) (a1 : Fin 4) (a2 : BitVec 56) :
    Statement (.blt a0 a1 a2) := fun _ _ h => nomatch h
theorem bge (a0 : RodId) (a1 : Fin 4) (a2 : BitVec 56) :
    Statement (.bge a0 a1 a2) := fun _ _ h => nomatch h
theorem beq (a0 : RodId) (a1 : Fin 4) (a2 : BitVec 56) :
    Statement (.beq a0 a1 a2) := fun _ _ h => nomatch h
theorem bne (a0 : RodId) (a1 : Fin 4) (a2 : BitVec 56) :
    Statement (.bne a0 a1 a2) := fun _ _ h => nomatch h
theorem jmp (a0 : RodId) (a1 : Fin 4) (a2 : BitVec 56) :
    Statement (.jmp a0 a1 a2) := fun _ _ h => nomatch h
theorem repeatN (a0 : RodId) (a1 : Fin 4) (a2 : BitVec 56) :
    Statement (.repeatN a0 a1 a2) := fun _ _ h => nomatch h
theorem clrf (a0 : RodId) (a1 : Fin 4) (a2 : BitVec 56) :
    Statement (.clrf a0 a1 a2) := fun _ _ h => nomatch h
theorem halt (a0 : RodId) (a1 : Fin 4) (a2 : BitVec 56) :
    Statement (.halt a0 a1 a2) := fun _ _ h => nomatch h
theorem pumpPhaseMessage (a0 : RodId) (a1 : RodId) (a2 : PumpPhaseMsg) :
    Statement (.pumpPhaseMessage a0 a1 a2) := by
  intro h p hp; cases hp
  apply wfSrc_ne; simp only [Instr.wf, Bool.and_eq_true] at h; exact h.1
theorem pumpStatusReport (a0 : RodId) (a1 : RodId) (a2 : PumpStatus) :
    Statement (.pumpStatusReport a0 a1 a2) := by
  intro h p hp; cases hp
  apply wfSrc_ne; exact h
theorem observerLock (a0 : RodId) (a1 : Axis) :
    Statement (.observerLock a0 a1) := fun _ _ h => nomatch h
theorem obsLost (a0 : RodId) (a1 : Axis) (a2 : Nat) :
    Statement (.obsLost a0 a1 a2) := fun _ _ h => nomatch h
theorem catchNoLock (a0 : RodId) (a1 : Axis) :
    Statement (.catchNoLock a0 a1) := fun _ _ h => nomatch h
theorem restConfirmed (a0 : RodId) (a1 : Axis) :
    Statement (.restConfirmed a0 a1) := fun _ _ h => nomatch h
theorem brkTmoExpiry (a0 : RodId) (a1 : Axis) :
    Statement (.brkTmoExpiry a0 a1) := fun _ _ h => nomatch h
theorem alignTExpiry (a0 : RodId) (a1 : Axis) :
    Statement (.alignTExpiry a0 a1) := fun _ _ h => nomatch h
theorem rampHoldTimeout (a0 : RodId) (a1 : Axis) :
    Statement (.rampHoldTimeout a0 a1) := fun _ _ h => nomatch h
theorem retryCountReset (a0 : RodId) (a1 : Axis) :
    Statement (.retryCountReset a0 a1) := fun _ _ h => nomatch h
theorem retry (a0 : RodId) (a1 : Path) (a2 : Axis) :
    Statement (.retry a0 a1 a2) := fun _ _ h => nomatch h
theorem quadratureTransition (a0 : RodId) (a1 : Axis) (a2 : LineLevel) (a3 : LineLevel) (a4 : Nat) :
    Statement (.quadratureTransition a0 a1 a2 a3 a4) := fun _ _ h => nomatch h
theorem leakLimit (a0 : RodId) (a1 : Axis) :
    Statement (.leakLimit a0 a1) := fun _ _ h => nomatch h
theorem indexEvent (a0 : RodId) (a1 : Axis) :
    Statement (.indexEvent a0 a1) := fun _ _ h => nomatch h
theorem lineFault (a0 : RodId) (a1 : Axis) (a2 : Fin 3) :
    Statement (.lineFault a0 a1 a2) := fun _ _ h => nomatch h
theorem spdTmo (a0 : RodId) (a1 : Axis) :
    Statement (.spdTmo a0 a1) := fun _ _ h => nomatch h
theorem leadInStepTimeout (a0 : RodId) (a1 : Axis) (a2 : Nat) :
    Statement (.leadInStepTimeout a0 a1 a2) := fun _ _ h => nomatch h
theorem serialTransferEnd (a0 : RodId) (a1 : Axis) (a2 : SerialFrame) :
    Statement (.serialTransferEnd a0 a1 a2) := fun _ _ h => nomatch h
theorem serFault (a0 : RodId) (a1 : Axis) :
    Statement (.serFault a0 a1) := fun _ _ h => nomatch h
theorem trackFault (a0 : RodId) (a1 : Axis) :
    Statement (.trackFault a0 a1) := fun _ _ h => nomatch h
theorem rearm (a0 : RodId) (a1 : Path) (a2 : Axis) :
    Statement (.rearm a0 a1 a2) := fun _ _ h => nomatch h
theorem desaturation (a0 : RodId) (a1 : Axis) (a2 : Phase) :
    Statement (.desaturation a0 a1 a2) := fun _ _ h => nomatch h
theorem overcurrent (a0 : RodId) (a1 : Axis) (a2 : Phase) :
    Statement (.overcurrent a0 a1 a2) := fun _ _ h => nomatch h
theorem dieOvertemp (a0 : RodId) (a1 : BitVec 16) :
    Statement (.dieOvertemp a0 a1) := fun _ _ h => nomatch h
theorem bootUv (a0 : RodId) (a1 : Axis) (a2 : Phase) (a3 : Bool) :
    Statement (.bootUv a0 a1 a2 a3) := fun _ _ h => nomatch h
theorem vgdUv (a0 : RodId) (a1 : BitVec 16) :
    Statement (.vgdUv a0 a1) := fun _ _ h => nomatch h
theorem gatePlaus (a0 : RodId) (a1 : Axis) (a2 : Phase) (a3 : Bool) (a4 : Bool) :
    Statement (.gatePlaus a0 a1 a2 a3 a4) := fun _ _ h => nomatch h
theorem eEnded (a0 : RodId) (a1 : Axis) (a2 : Phase) :
    Statement (.eEnded a0 a1 a2) := fun _ _ h => nomatch h
theorem tClr (a0 : RodId) (a1 : Path) (a2 : Axis) (a3 : Word) :
    Statement (.tClr a0 a1 a2 a3) := fun _ _ h => nomatch h
theorem tClrPulseEnd (a0 : RodId) (a1 : Axis) (a2 : Tri Nat) :
    Statement (.tClrPulseEnd a0 a1 a2) := fun _ _ h => nomatch h
theorem disChange (a0 : RodId) (a1 : Bool) :
    Statement (.disChange a0 a1) := fun _ _ h => nomatch h
theorem ascChange (a0 : RodId) (a1 : Axis) (a2 : Bool) :
    Statement (.ascChange a0 a1 a2) := fun _ _ h => nomatch h
theorem fenceLatch (a0 : RodId) :
    Statement (.fenceLatch a0) := fun _ _ h => nomatch h
theorem fenceClr (a0 : RodId) (a1 : Path) (a2 : Word) (a3 : Nat) :
    Statement (.fenceClr a0 a1 a2 a3) := fun _ _ h => nomatch h
theorem chopperOn (a0 : RodId) (a1 : BitVec 16) :
    Statement (.chopperOn a0 a1) := fun _ _ h => nomatch h
theorem chopperOff (a0 : RodId) (a1 : Nat) :
    Statement (.chopperOff a0 a1) := fun _ _ h => nomatch h
theorem chopperFail (a0 : RodId) (a1 : Nat) :
    Statement (.chopperFail a0 a1) := fun _ _ h => nomatch h
theorem supplyOv2 (a0 : RodId) (a1 : BitVec 16) :
    Statement (.supplyOv2 a0 a1) := fun _ _ h => nomatch h
theorem vmUndervolt (a0 : RodId) (a1 : BitVec 16) :
    Statement (.vmUndervolt a0 a1) := fun _ _ h => nomatch h
theorem vmUvClear (a0 : RodId) :
    Statement (.vmUvClear a0) := fun _ _ h => nomatch h
theorem dieTempWarn (a0 : RodId) (a1 : BitVec 16) :
    Statement (.dieTempWarn a0 a1) := fun _ _ h => nomatch h
theorem drvDiag (a0 : RodId) (a1 : Path) (a2 : Axis) (a3 : Word) :
    Statement (.drvDiag a0 a1 a2 a3) := fun _ _ h => nomatch h
theorem diagOnTime (a0 : RodId) (a1 : Axis) (a2 : Fin 6) :
    Statement (.diagOnTime a0 a1 a2) := fun _ _ h => nomatch h
theorem rejoinConsent (a0 : RodId) (a1 : Path) (a2 : Word) :
    Statement (.rejoinConsent a0 a1 a2) := fun _ _ h => nomatch h
theorem rejoinEntry (a0 : RodId) (a1 : Bool) :
    Statement (.rejoinEntry a0 a1) := fun _ _ h => nomatch h
theorem joinRequest (a0 : RodId) (a1 : RodId) (a2 : JoinReq) :
    Statement (.joinRequest a0 a1 a2) := by
  intro h p hp; cases hp
  apply wfSrc_ne; simp only [Instr.wf, Bool.and_eq_true] at h; exact h.1.1
theorem rejoinData (a0 : RodId) (a1 : RodId) (a2 : RejoinData) :
    Statement (.rejoinData a0 a1 a2) := by
  intro h p hp; cases hp
  apply wfSrc_ne; simp only [Instr.wf, Bool.and_eq_true] at h; exact h.1.1
theorem rejoinTimeout (a0 : RodId) :
    Statement (.rejoinTimeout a0) := fun _ _ h => nomatch h
theorem tandemCopyReceive (a0 : RodId) (a1 : RodId) (a2 : TandemCopy) :
    Statement (.tandemCopyReceive a0 a1 a2) := fun _ _ h => nomatch h
theorem witnessFrame (a0 : RodId) (a1 : RodId) (a2 : WitFrame) :
    Statement (.witnessFrame a0 a1 a2) := fun _ _ h => nomatch h
theorem witnessDecision (a0 : RodId) (a1 : Axis) :
    Statement (.witnessDecision a0 a1) := fun _ _ h => nomatch h
theorem tandemCopyLost (a0 : RodId) (a1 : Axis) :
    Statement (.tandemCopyLost a0 a1) := fun _ _ h => nomatch h
theorem tandemLaneChange (a0 : RodId) (a1 : RodId) (a2 : Bool) :
    Statement (.tandemLaneChange a0 a1 a2) := fun _ _ h => nomatch h
theorem uidExchange (a0 : RodId) (a1 : RodId) (a2 : BitVec 128) :
    Statement (.uidExchange a0 a1 a2) := by
  intro h p hp; cases hp
  apply wfSrc_ne; exact h
theorem lockstepWindowEnd (a0 : RodId) (a1 : Fin 5) (a2 : List (Nat × List LsEvent)) (a3 : DWord) :
    Statement (.lockstepWindowEnd a0 a1 a2 a3) := fun _ _ h => nomatch h
theorem comparatorTest (a0 : RodId) (a1 : List (Nat × List LsEvent)) (a2 : DWord) :
    Statement (.comparatorTest a0 a1 a2) := fun _ _ h => nomatch h
theorem pairSplit (a0 : RodId) (a1 : Nat) :
    Statement (.pairSplit a0 a1) := fun _ _ h => nomatch h
theorem pairRejoin (a0 : RodId) :
    Statement (.pairRejoin a0) := fun _ _ h => nomatch h
theorem pairRestart (a0 : RodId) :
    Statement (.pairRestart a0) := fun _ _ h => nomatch h
theorem xtest (a0 : RodId) (a1 : Path) (a2 : Word) :
    Statement (.xtest a0 a1 a2) := fun _ _ h => nomatch h
theorem xtestDone (a0 : RodId) (a1 : Option (Nat × Nat)) (a2 : Nat) :
    Statement (.xtestDone a0 a1 a2) := fun _ _ h => nomatch h
theorem sealRead (a0 : RodId) (a1 : Byte) :
    Statement (.sealRead a0 a1) := fun _ _ h => nomatch h
theorem sealResend (a0 : RodId) :
    Statement (.sealResend a0) := fun _ _ h => nomatch h
theorem sealMessage (a0 : RodId) (a1 : RodId) (a2 : Byte) :
    Statement (.sealMessage a0 a1 a2) := by
  intro h p hp; cases hp
  apply wfSrc_ne; exact h
theorem contactorOpen (a0 : RodId) :
    Statement (.contactorOpen a0) := fun _ _ h => nomatch h
theorem contactorWelded (a0 : RodId) (a1 : Nat) :
    Statement (.contactorWelded a0 a1) := fun _ _ h => nomatch h
theorem contactorTestDue (a0 : RodId) :
    Statement (.contactorTestDue a0) := fun _ _ h => nomatch h
theorem settleDelayEnd (a0 : RodId) :
    Statement (.settleDelayEnd a0) := fun _ _ h => nomatch h
theorem crystalProven (a0 : RodId) :
    Statement (.crystalProven a0) := fun _ _ h => nomatch h
theorem pllLock (a0 : RodId) :
    Statement (.pllLock a0) := fun _ _ h => nomatch h
theorem xtalFail (a0 : RodId) (a1 : Nat) :
    Statement (.xtalFail a0 a1) := fun _ _ h => nomatch h
theorem pllAFail (a0 : RodId) (a1 : Nat) (a2 : Nat) :
    Statement (.pllAFail a0 a1 a2) := fun _ _ h => nomatch h
theorem pllBFail (a0 : RodId) (a1 : Nat) (a2 : Nat) :
    Statement (.pllBFail a0 a1 a2) := fun _ _ h => nomatch h
theorem rcFail (a0 : RodId) :
    Statement (.rcFail a0) := fun _ _ h => nomatch h
theorem rcDetectorClear (a0 : RodId) :
    Statement (.rcDetectorClear a0) := fun _ _ h => nomatch h
theorem refclkLost (a0 : RodId) (a1 : Nat) :
    Statement (.refclkLost a0 a1) := fun _ _ h => nomatch h
theorem carryClockLost (a0 : RodId) (a1 : RodId) :
    Statement (.carryClockLost a0 a1) := fun _ _ h => nomatch h
theorem tandemClockLost (a0 : RodId) (a1 : Nat) :
    Statement (.tandemClockLost a0 a1) := fun _ _ h => nomatch h
theorem sourceBack (a0 : RodId) (a1 : Nat) (a2 : RodId) :
    Statement (.sourceBack a0 a1 a2) := fun _ _ h => nomatch h
theorem clkMeasSel (a0 : RodId) (a1 : Path) (a2 : Word) :
    Statement (.clkMeasSel a0 a1 a2) := fun _ _ h => nomatch h
theorem measDone (a0 : RodId) (a1 : Nat) :
    Statement (.measDone a0 a1) := fun _ _ h => nomatch h
theorem ckoCfg (a0 : RodId) (a1 : Path) (a2 : Word) :
    Statement (.ckoCfg a0 a1 a2) := fun _ _ h => nomatch h
theorem pwrHost (a0 : RodId) (a1 : Path) (a2 : Word) :
    Statement (.pwrHost a0 a1 a2) := fun _ _ h => nomatch h
theorem domainPowerUp (a0 : RodId) (a1 : Fin 6) :
    Statement (.domainPowerUp a0 a1) := fun _ _ h => nomatch h
theorem domainPowerDown (a0 : RodId) (a1 : Fin 6) :
    Statement (.domainPowerDown a0 a1) := fun _ _ h => nomatch h
theorem coreSwitchOpen (a0 : RodId) :
    Statement (.coreSwitchOpen a0) := fun _ _ h => nomatch h
theorem domainFail (a0 : RodId) (a1 : Fin 6) :
    Statement (.domainFail a0 a1) := fun _ _ h => nomatch h
theorem supplyFail (a0 : RodId) (a1 : Nat) :
    Statement (.supplyFail a0 a1) := fun _ _ h => nomatch h
theorem powerOnResetRelease (a0 : RodId) (a1 : BitVec 2) :
    Statement (.powerOnResetRelease a0 a1) := fun _ _ h => nomatch h
theorem wakeEvent (a0 : RodId) (a1 : BitVec 10) :
    Statement (.wakeEvent a0 a1) := fun _ _ h => nomatch h
theorem wake (a0 : RodId) :
    Statement (.wake a0) := fun _ _ h => nomatch h
theorem reset (a0 : RodId) :
    Statement (.reset a0) := fun _ _ h => nomatch h
theorem vaonLoss (a0 : RodId) :
    Statement (.vaonLoss a0) := fun _ _ h => nomatch h
theorem close (a0 : RodId) (a1 : Path) (a2 : Byte) :
    Statement (.close a0 a1 a2) := fun _ _ h => nomatch h
theorem openL1 (a0 : RodId) (a1 : Path) (a2 : Byte) :
    Statement (.openL1 a0 a1 a2) := fun _ _ h => nomatch h
theorem passwordCheckDone (a0 : RodId) (a1 : Bool) :
    Statement (.passwordCheckDone a0 a1) := fun _ _ h => nomatch h
theorem lockoutEnd (a0 : RodId) :
    Statement (.lockoutEnd a0) := fun _ _ h => nomatch h
theorem accessIdleTimeout (a0 : RodId) :
    Statement (.accessIdleTimeout a0) := fun _ _ h => nomatch h
theorem challenge (a0 : RodId) (a1 : Path) (a2 : Byte) (a3 : BitVec 256) :
    Statement (.challenge a0 a1 a2 a3) := fun _ _ h => nomatch h
theorem challengeExpiry (a0 : RodId) :
    Statement (.challengeExpiry a0) := fun _ _ h => nomatch h
theorem respond (a0 : RodId) (a1 : Path) (a2 : Byte) (a3 : Verdict) :
    Statement (.respond a0 a1 a2 a3) := fun _ _ h => nomatch h
theorem applyManifest (a0 : RodId) (a1 : Path) (a2 : Byte) (a3 : Verdict) (a4 : Manifest) :
    Statement (.applyManifest a0 a1 a2 a3 a4) := fun _ _ h => nomatch h
theorem setPassword (a0 : RodId) (a1 : Path) (a2 : Byte) :
    Statement (.setPassword a0 a1 a2) := fun _ _ h => nomatch h
theorem updReq (a0 : RodId) (a1 : Path) (a2 : Word) :
    Statement (.updReq a0 a1 a2) := fun _ _ h => nomatch h
theorem updateComplete (a0 : RodId) (a1 : Verdict) :
    Statement (.updateComplete a0 a1) := fun _ _ h => nomatch h
theorem bypass (a0 : RodId) :
    Statement (.bypass a0) := fun _ _ h => nomatch h
theorem idcode (a0 : RodId) :
    Statement (.idcode a0) := fun _ _ h => nomatch h
theorem samplePreload (a0 : RodId) :
    Statement (.samplePreload a0) := fun _ _ h => nomatch h
theorem extest (a0 : RodId) :
    Statement (.extest a0) := fun _ _ h => nomatch h
theorem wakePortStop (a0 : RodId) :
    Statement (.wakePortStop a0) := fun _ _ h => nomatch h
theorem discardedCommandByte (a0 : RodId) (a1 : Byte) :
    Statement (.discardedCommandByte a0 a1) := fun _ _ h => nomatch h
theorem correctedMemoryError (a0 : EccAt) :
    Statement (.correctedMemoryError a0) := fun _ _ h => nomatch h

end Laws.Sender

end Sys2Proof
end

