-- ==== Sys2Proof/Laws/Reckoner.lean ====
section
/-! SUPPORT. The laws of the Reckoner's columns: what a column's registers read after each operation over them, and how an
instruction word that issues acts. -/

namespace Sys2Proof.Machine

/-! ### A column's state -/

theorem Rod.col_putCol (ρ : Rod) (c d : Fin 4) (k : Col) : (ρ.putCol c k).col d = if d = c then k else ρ.col d := by
  unfold Rod.putCol Rod.col
  dsimp only
  rw [Sparse.get_set _ _ _ _ _ _ (fun _ => rfl)]
  by_cases h : d = c
  · simp [h]
  · have : ¬ d.val = c.val := fun e => h (Fin.ext e)
    simp [h, this]

@[simp] theorem Rod.col_putCol_same (ρ : Rod) (c : Fin 4) (k : Col) : (ρ.putCol c k).col c = k := by
  rw [Rod.col_putCol, if_pos rfl]

@[simp] theorem Rod.gw_putCol (ρ : Rod) (c : Fin 4) (k : Col) (a : Nat) : (ρ.putCol c k).gw a = ρ.gw a := rfl
@[simp] theorem Rod.g_putCol (ρ : Rod) (c : Fin 4) (k : Col) (f : Fld) : (ρ.putCol c k).g f = ρ.g f := rfl
@[simp] theorem Rod.col_p (ρ : Rod) (f : Fld) (v : Nat) (c : Fin 4) : (ρ.p f v).col c = ρ.col c := rfl
@[simp] theorem Rod.col_flush (ρ : Rod) (c : Fin 4) : ρ.flush.col c = ρ.col c := by unfold Rod.col; rw [Rod.flush_rk]

/-- An event in a tally changes the lockstep state alone. -/
theorem Rod.note_eq (ρ : Rod) (c : Fin 4) (t : Nat) (e : LsEvent) : ρ.note c t e = { ρ with ls := (ρ.note c t e).ls } := rfl

@[simp] theorem Rod.col_note (ρ : Rod) (c d : Fin 4) (t : Nat) (e : LsEvent) : (ρ.note c t e).col d = ρ.col d := rfl
@[simp] theorem Rod.gw_note (ρ : Rod) (c : Fin 4) (t : Nat) (e : LsEvent) (a : Nat) : (ρ.note c t e).gw a = ρ.gw a := rfl

/-- The lockstep state is no part of a column. -/
@[simp] theorem Rod.col_ls (ρ : Rod) (l : LsS) (c : Fin 4) : ({ ρ with ls := l } : Rod).col c = ρ.col c := rfl
@[simp] theorem Rod.gw_ls (ρ : Rod) (l : LsS) (a : Nat) : ({ ρ with ls := l } : Rod).gw a = ρ.gw a := rfl

/-- What a column does and its shadow repeats is what the column does, but for the lockstep state (R266). -/
theorem Rod.both_eq (ρ : Rod) (c : Fin 4) (g : Rod → Rod) : ρ.both c g = { g ρ with ls := (ρ.both c g).ls } := rfl

/-! ### Value registers and accumulators -/

theorem Rod.v_setV (ρ : Rod) (c : Fin 4) (d i : Nat) (w : Word) (h : i < 32) :
    (ρ.setV c d w).v c i = if i = d % 32 then w else ρ.v c i := by
  unfold Rod.setV Rod.v
  rw [Rod.col_note, Rod.col_putCol_same]
  dsimp only
  rw [Sparse.get_set _ _ _ _ _ _ (fun _ => rfl), Nat.mod_eq_of_lt h]

@[simp] theorem Rod.acc_setV (ρ : Rod) (c : Fin 4) (d j : Nat) (w : Word) : (ρ.setV c d w).acc c j = ρ.acc c j := by
  unfold Rod.setV Rod.acc
  rw [Rod.col_note, Rod.col_putCol_same]

@[simp] theorem Rod.cyc_setV (ρ : Rod) (c : Fin 4) (d : Nat) (w : Word) : ((ρ.setV c d w).col c).cyc = (ρ.col c).cyc := by
  unfold Rod.setV
  rw [Rod.col_note, Rod.col_putCol_same]

@[simp] theorem Rod.rep_setV (ρ : Rod) (c : Fin 4) (d : Nat) (w : Word) : ((ρ.setV c d w).col c).rep = (ρ.col c).rep := by
  unfold Rod.setV
  rw [Rod.col_note, Rod.col_putCol_same]

/-- What moving past an instruction leaves and changes (R311). -/
theorem Rod.advance_spec (ρ : Rod) (c : Fin 4) (cyc : Nat) :
    (∀ i, (ρ.advance c cyc).v c i = ρ.v c i) ∧ (∀ j, (ρ.advance c cyc).acc c j = ρ.acc c j) ∧
    ((ρ.advance c cyc).col c).cyc = (ρ.col c).cyc + cyc ∧
    (ρ.advance c cyc).pcOf c = (nextPc (ρ.pcOf c) (ρ.col c).rep).1 % 2 ^ 14 ∧
    (∀ d, d ≠ c → (ρ.advance c cyc).col d = ρ.col d) ∧
    (∀ a, a ≠ Rg.COL_STAT c.val → (ρ.advance c cyc).gw a = ρ.gw a) := by
  unfold Rod.advance
  refine ⟨fun i => ?_, fun j => ?_, ?_, ?_, fun d h => ?_, fun a h => ?_⟩
  · simp [Rod.v]
  · simp [Rod.acc]
  · simp
  · exact Rod.g_p _ _ _ (show 0 + 14 ≤ 32 by decide)
  · simp [Rod.col_putCol, h]
  · exact Rod.gw_p_ne _ _ _ _ h

/-- An instruction word that issues and fits acts: its meaning runs, or its exception stops the block (R309, R311, R324). -/
theorem Rod.issue_eq (ρ : Rod) (c : Fin 4) (opc : Nat) (f : BitVec 56) (used : Nat) (m : Rod → Except Nat Rod)
    (hi : ρ.issues c opc f = true) (hp : ρ.pcOf c < ρ.progLen) (hu : f.toNat &&& (2 ^ 56 - 1 - used) = 0) (hf : ρ.fits c = true) :
    ∃ l, ρ.issue c opc f used m = { (match m ρ with | .ok ρ' => ρ' | .error code => ρ.exception c code : Rod) with ls := l } := by
  refine ⟨(ρ.both c fun q => q.instr c f used m).ls, ?_⟩
  unfold Rod.issue
  rw [if_pos hi, Rod.both_eq]
  have e : ρ.instr c f used m = (match m ρ with | .ok ρ' => ρ' | .error code => ρ.exception c code : Rod) := by
    unfold Rod.instr
    rw [if_neg (by omega), if_neg (by rw [hu]; simp)]
    cases m ρ
    · rfl
    · simp only [hf, if_true]
  rw [e]

/-- A plain instruction word that issues and fits acts and moves on. -/
theorem Rod.plain_eq (ρ : Rod) (c : Fin 4) (opc : Nat) (f : BitVec 56) (used cyc : Nat) (m : Rod → Rod)
    (hi : ρ.issues c opc f = true) (hp : ρ.pcOf c < ρ.progLen) (hu : f.toNat &&& (2 ^ 56 - 1 - used) = 0) (hf : ρ.fits c = true) :
    ∃ l, ρ.plain c opc f used cyc m = { (m ρ).advance c cyc with ls := l } :=
  Rod.issue_eq ρ c opc f used _ hi hp hu hf

end Sys2Proof.Machine
end

