-- ==== Sys2Proof/Laws/Words.lean ====
section
/-! SUPPORT. The laws of the words the statements are written with: which parts of a rod a change leaves, and how a host write that
is accepted acts. -/

namespace Sys2Proof.Machine

/-! ### What a change leaves -/

theorem Rod.agrees_iff (ρ' q : Rod) : ρ'.agrees q ↔
    ρ'.me = q.me ∧ ρ'.ftn = q.ftn ∧ ρ'.shadow = q.shadow ∧ ρ'.hiCap = q.hiCap ∧ ρ'.loPend = q.loPend ∧ ρ'.cmtReq = q.cmtReq ∧ ρ'.armed = q.armed ∧ ρ'.fresh = q.fresh ∧ ρ'.flash = q.flash ∧ ρ'.tb = q.tb ∧ ρ'.md = q.md ∧ ρ'.aon = q.aon ∧ ρ'.ck = q.ck ∧ ρ'.hb = q.hb ∧ ρ'.die = q.die ∧ ρ'.fb = q.fb ∧ ρ'.pmp = q.pmp ∧ ρ'.sf = q.sf ∧ ρ'.red = q.red ∧ ρ'.hp = q.hp ∧ ρ'.ct = q.ct ∧ ρ'.fr = q.fr ∧ ρ'.ls = q.ls ∧ ρ'.sec = q.sec ∧ ρ'.otp = q.otp ∧ ρ'.slots = q.slots ∧ ρ'.rk = q.rk ∧ ρ'.pwm = q.pwm := by
  unfold Rod.agrees
  constructor
  · intro h
    rw [h]
    exact ⟨rfl, rfl, rfl, rfl, rfl, rfl, rfl, rfl, rfl, rfl, rfl, rfl, rfl, rfl, rfl, rfl, rfl, rfl, rfl, rfl, rfl, rfl, rfl, rfl, rfl, rfl, rfl, rfl⟩
  · obtain ⟨⟩ := ρ'
    obtain ⟨⟩ := q
    simp only
    rintro ⟨rfl, rfl, rfl, rfl, rfl, rfl, rfl, rfl, rfl, rfl, rfl, rfl, rfl, rfl, rfl, rfl, rfl, rfl, rfl, rfl, rfl, rfl, rfl, rfl, rfl, rfl, rfl, rfl⟩
    rfl

theorem Rod.agrees_refl (ρ : Rod) : ρ.agrees ρ := rfl

/-- Writing the records of a command changes registers, messages and the log alone. -/
theorem Rod.agrees_flush (ρ : Rod) : ρ.flush.agrees ρ := by
  rw [Rod.agrees_iff]
  exact ⟨Rod.flush_me ρ, Rod.flush_ftn ρ, Rod.flush_shadow ρ, Rod.flush_hiCap ρ, Rod.flush_loPend ρ, Rod.flush_cmtReq ρ, Rod.flush_armed ρ, Rod.flush_fresh ρ, Rod.flush_flash ρ, Rod.flush_tb ρ, Rod.flush_md ρ, Rod.flush_aon ρ, Rod.flush_ck ρ, Rod.flush_hb ρ, Rod.flush_die ρ, Rod.flush_fb ρ, Rod.flush_pmp ρ, Rod.flush_sf ρ, Rod.flush_red ρ, Rod.flush_hp ρ, Rod.flush_ct ρ, Rod.flush_fr ρ, Rod.flush_ls ρ, Rod.flush_sec ρ, Rod.flush_otp ρ, Rod.flush_slots ρ, Rod.flush_rk ρ, Rod.flush_pwm ρ⟩

theorem Rod.agrees_trans (a b c : Rod) (h1 : a.agrees b) (h2 : b.agrees c) : a.agrees c := by
  unfold Rod.agrees at *
  rw [h1, h2]

theorem Rod.agrees_pw (ρ : Rod) (a : Nat) (v : Word) : (ρ.pw a v).agrees ρ := rfl
theorem Rod.agrees_p (ρ : Rod) (f : Fld) (v : Nat) : (ρ.p f v).agrees ρ := rfl
theorem Rod.agrees_send (ρ : Rod) (o : Out) : (ρ.send o).agrees ρ := rfl
theorem Rod.agrees_fltAP (ρ : Rod) (c sv pg ax ph : Nat) (d : List (Nat × Nat × Nat)) : (ρ.fltAP c sv pg ax ph d).agrees ρ := rfl

theorem Rod.agrees_irqMask (ρ : Rod) (p : Nat) (m : Word) : (ρ.irqMask p m).agrees ρ := by
  obtain ⟨b, l, e⟩ := Rod.irqMask_cases ρ p m; rw [e]; rfl

theorem Rod.agrees_irq (ρ : Rod) (p j : Nat) : (ρ.irq p j).agrees ρ := Rod.agrees_irqMask _ _ _

theorem Rod.agrees_when (ρ : Rod) (c : Bool) (f : Rod → Rod) (h : ∀ q : Rod, (f q).agrees q) : (ρ.when c f).agrees ρ := by
  cases c
  · rfl
  · exact h ρ

theorem Rod.agrees_each {α : Type} (l : List α) (f : α → Rod → Rod) (h : ∀ a (q : Rod), (f a q).agrees q) (ρ : Rod) :
    (ρ.each l f).agrees ρ := by
  unfold Rod.each
  induction l generalizing ρ with
  | nil => rfl
  | cons a t ih => exact Rod.agrees_trans _ _ _ (ih _) (h a ρ)

theorem Rod.keepsRegs_refl (ρ : Rod) (ex : List Nat) : ρ.keepsRegs ρ ex := fun _ _ _ _ => rfl

/-- The log's registers apart, writing the records of a command changes no register. -/
theorem Rod.keepsRegs_flush (ρ q : Rod) (ex : List Nat) (h : ρ.keepsRegs q ex) : ρ.keepsRegs q.flush ex := by
  intro a ha h1 h2
  rw [Rod.flush_gw q a (by simp [logRegs, h1, h2]), h a ha h1 h2]

theorem Rod.keepsRegs_pw (ρ q : Rod) (ex : List Nat) (i : Nat) (v : Word) (hi : i ∈ ex) (h : ρ.keepsRegs q ex) :
    ρ.keepsRegs (q.pw i v) ex := by
  intro a ha h1 h2
  rw [Rod.gw_pw_ne q i a v (fun e => ha (by rw [e]; exact hi)), h a ha h1 h2]

theorem Rod.keepsRegs_p (ρ q : Rod) (ex : List Nat) (f : Fld) (v : Nat) (hi : f.addr ∈ ex) (h : ρ.keepsRegs q ex) :
    ρ.keepsRegs (q.p f v) ex := Rod.keepsRegs_pw ρ q ex _ _ hi h

theorem Rod.keepsRegs_irqMask (ρ q : Rod) (ex : List Nat) (p : Nat) (m : Word) (hi : Rg.IRQ_RAW p ∈ ex) (h : ρ.keepsRegs q ex) :
    ρ.keepsRegs (q.irqMask p m) ex := by
  intro a ha h1 h2
  rw [Rod.gw_irqMask_ne q p a m (fun e => ha (by rw [e]; exact hi)), h a ha h1 h2]

theorem Rod.keepsRegs_irq (ρ q : Rod) (ex : List Nat) (p j : Nat) (hi : Rg.IRQ_RAW p ∈ ex) (h : ρ.keepsRegs q ex) :
    ρ.keepsRegs (q.irq p j) ex := Rod.keepsRegs_irqMask ρ q ex p _ hi h

/-- A change that touches the registers only through its own list keeps what is outside it. -/
theorem Rod.keepsRegs_regs (ρ q q' : Rod) (ex : List Nat) (e : q'.regs = q.regs) (h : ρ.keepsRegs q ex) : ρ.keepsRegs q' ex := by
  intro a ha h1 h2
  rw [Rod.gw_congr q q' e, h a ha h1 h2]

/-- A command that detects no fault writes no record. -/
theorem Rod.noRecord_flush (ρ q : Rod) (h : q.recBuf = []) (hl : q.log = ρ.log) (hf : q.flPend = ρ.flPend)
    (hs : q.gw Rg.FL_SEQ = ρ.gw Rg.FL_SEQ) : ρ.noRecord q.flush := by
  rw [Rod.flush_nil q h]
  exact ⟨hl, hf, hs⟩

/-- A fault detected last is recorded. -/
theorem Rod.recorded_flush (q : Rod) (e : FaultRec) (h : e ∈ q.recBuf) (code sev page : Nat) (hc : e.code = BitVec.ofNat 16 code)
    (hs : e.sev = BitVec.ofNat 8 sev) (hp : e.page = BitVec.ofNat 16 page) (hr : e.rod = BitVec.ofNat 8 q.me.code) :
    q.flush.recorded code sev page := by
  obtain ⟨m, hm, hr'⟩ := Rod.flush_out q
  refine ⟨e, ?_, hc, hs, hp, ?_⟩
  · rw [hm]; exact List.mem_append_right _ (hr' e h)
  · rw [Rod.flush_me]; exact hr

/-! ### Column steps -/

theorem colStat_not_log (c : Fin 4) : Rg.COL_STAT c.val ∉ logRegs := by
  revert c; decide

theorem Rod.g_of_gw (ρ ρ' : Rod) (f : Fld) (h : ρ'.gw f.addr = ρ.gw f.addr) : ρ'.g f = ρ.g f := by
  unfold Rod.g; rw [h]

theorem Rod.pcOf_flush (ρ : Rod) (c : Fin 4) : ρ.flush.pcOf c = ρ.pcOf c := Rod.flush_g _ _ (colStat_not_log c)

/-- A change of the columns and the lockstep state after another is a change of the columns and the lockstep state. -/
theorem Rod.agrees_cols (ρ q q' : Rod) (h : q.agrees { ρ with rk := { ρ.rk with cols := q.rk.cols }, ls := q.ls })
    (k : q'.agrees { q with rk := { q.rk with cols := q'.rk.cols }, ls := q'.ls }) :
    q'.agrees { ρ with rk := { ρ.rk with cols := q'.rk.cols }, ls := q'.ls } := by
  unfold Rod.agrees at *
  rw [h] at k
  exact k

/-- What a column step shows that moves on past its instruction: it is the step of what the instruction itself has done. -/
theorem Rod.columnStep_advance (ρ q : Rod) (c : Fin 4) (cyc : Nat) (V : Nat → Word) (A : Nat → Int) (ex : List Nat)
    (hv : ∀ i, i < 32 → q.v c i = V i) (ha : ∀ j, j < 4 → q.acc c j = A j) (hc : (q.col c).cyc = (ρ.col c).cyc)
    (hr : (q.col c).rep = (ρ.col c).rep) (hp : q.gw (Rg.COL_STAT c.val) = ρ.gw (Rg.COL_STAT c.val))
    (ho : ∀ d, d ≠ c → q.col d = ρ.col d) (hk : ρ.keepsRegs q ex)
    (hg : q.agrees { ρ with rk := { ρ.rk with cols := q.rk.cols }, ls := q.ls }) (l : LsS) :
    ρ.columnStep ({ q.advance c cyc with ls := l } : Rod).flush c cyc (ρ.after c) V A ex := by
  obtain ⟨h1, h2, h3, h4, h5, h6⟩ := Rod.advance_spec q c cyc
  have hpc : q.pcOf c = ρ.pcOf c := Rod.g_of_gw ρ q (Fl.COL_STAT_PC c.val) hp
  refine ⟨fun i hi => ?_, fun j hj => ?_, ?_, ?_, ?_, ?_, fun e he => ?_, ?_, ?_⟩
  · rw [← hv i hi, ← h1 i]; unfold Rod.v; rw [Rod.col_flush, Rod.col_ls]
  · rw [← ha j hj, ← h2 j]; unfold Rod.acc; rw [Rod.col_flush, Rod.col_ls]
  · rw [Rod.col_flush, Rod.col_ls, h3, hc]
  · rw [Rod.pcOf_flush, show ({ q.advance c cyc with ls := l } : Rod).pcOf c = _ from h4, hpc, hr]; rfl
  · rw [Rod.flush_g _ (Fl.COL_STAT_BUSY c.val) (colStat_not_log c)]
    exact (Rod.g_p_ne _ (Fl.COL_STAT_PC c.val) (Fl.COL_STAT_BUSY c.val) _ (show 0 + 14 ≤ 32 by decide) (.inr (.inr (show 0 + 14 ≤ 31 by decide)))).trans
      (Rod.g_of_gw ρ q (Fl.COL_STAT_BUSY c.val) hp)
  · rw [Rod.flush_g _ (Fl.COL_STAT_TRIG c.val) (colStat_not_log c)]
    exact (Rod.g_p_ne _ (Fl.COL_STAT_PC c.val) (Fl.COL_STAT_TRIG c.val) _ (show 0 + 14 ≤ 32 by decide) (.inr (.inr (show 0 + 14 ≤ 24 by decide)))).trans
      (Rod.g_of_gw ρ q (Fl.COL_STAT_TRIG c.val) hp)
  · rw [Rod.col_flush, Rod.col_ls, h5 e he, ho e he]
  · apply Rod.keepsRegs_flush
    intro a ha1 h7 h8
    rw [Rod.gw_ls, h6 a (fun e => ha1 (by simp [e])), hk a (fun e => ha1 (by simp [e])) h7 h8]
  · refine Rod.agrees_trans _ _ _ (Rod.agrees_flush _) ?_
    rw [Rod.flush_rk, Rod.flush_ls]
    exact Rod.agrees_cols ρ q _ hg rfl

/-! ### Host writes -/

/-- A 32-bit host write that is accepted does what its register does (R8, R42 to R46), and one of an RWL field keeps maintenance
access open (R633). -/
theorem write32_accepts (s : State) (r : RodId) (path : Path) (a : Nat) (data : Word) (h : (s.rod r).accepts path a)
    (hr : retryAxis a (data.setWidth 64) = none) :
    write32 s r path a data = .next (s.putRod r
      (((s.rod r).when ((regRow a).any fun k => k.rwl != 0#32) (·.accessUsed)).writeReg s.rod path.code a data).flush) := by
  obtain ⟨h1, h2, h4, h5, h6⟩ := h
  have hd : (data.setWidth 64).setWidth 32 = data := by
    ext i hi; simp
  unfold write32 State.hostWrite Rod.hostWrite Rod.writeWord Rod.gate State.passRetry
  have hb : ¬ bar2Base ≤ a := fun e => absurd (Nat.lt_of_le_of_lt e h2) (by decide)
  simp [h1, h4, h6, hr, hd, hb, Nat.not_le.2 h2, Option.isSome_iff_ne_none.1 h5]

end Sys2Proof.Machine
end

