-- ==== Sys2Proof/Tests/Slice0.lean ====
section
/-! SUPPORT. The model's own tests: ill-formed commands that the checks refuse, single commands with the results the spec gives them,
and for every statement states and operands that meet its hypotheses. -/

namespace Sys2Proof.Tests

open Sys2Proof Sys2Proof.Machine

set_option Elab.async false

/-! ### The states of the tests -/

/-- A rod at reset but for the fields listed. -/
def rod (r : RodId) (l : List (Fld × Nat)) : Rod := l.foldl (fun ρ e => ρ.p e.1 e.2) (Rod.init r)

/-- The fields of a rod that runs: all clocks and domains on, all rods ACTIVE in OPERATE, carry links up, ticks of 100 us. -/
def running : List (Fld × Nat) :=
  [(Fl.CLK_STAT_RUN, 0x1FFF), (Fl.PWR_STAT_PWR_OK, 0x3F), (Fl.ROD_STATE_ROD_X, 4), (Fl.ROD_STATE_ROD_Y, 4), (Fl.ROD_STATE_ROD_Z, 4),
   (Fl.SYS_MODE_MODE, 3), (Fl.CR_STAT_LINK_1, 1), (Fl.CR_STAT_LINK_2, 1), (Fl.CR_EPOCH_EPOCH, 7), (Fl.RK_TICK_TICK, 100),
   (Fl.FT_STAT_VALID, 1), (Fl.FT_STAT_LOCKED, 1)]

/-- A running rod with more fields set. -/
def up (r : RodId) (l : List (Fld × Nat)) : Rod :=
  let ρ := rod r (running ++ l)
  { ρ with ftn := 80000, red := { ρ.red with holds := true }, md := { ρ.md with hold := false, modeFt := 5 } }

/-- The module with rod X as given and two running partners. -/
def one (ρ : Rod) : State := { x := ρ, y := up .y [], z := up .z [], pending := [] }

/-- Rod X as a step that sees its partners takes it. -/
def seen (ρ : Rod) : Rod := ((one ρ).rod .x).view (one ρ).rod

/-- The next state of rod X has a property. -/
def after (i : Instr) (ρ : Rod) (P : Rod → Bool) : Bool :=
  match exec i (one ρ) with
  | .next t => P t.x
  | _ => false

/-- Whether a rod has sent a fault record of a code. -/
def hasRec (ρ : Rod) (code : Nat) : Bool :=
  ρ.out.any fun o => match o with
    | .record e => e.code == BitVec.ofNat 16 code
    | _ => false

/-! ### The Reckoner -/

/-- Instruction fields by their lowest bit (Table 9.1). -/
def enc (l : List (Nat × Nat)) : BitVec 56 := BitVec.ofNat 56 ((l.map fun e => e.2 * 2 ^ e.1).sum)

/-- A running rod whose column 0 is at address 0 of a program of 16 words, the first as given; v1 = 7, v2 = -3, v3 = 0x7FFFFFFF. -/
def col (opc : Nat) (f : BitVec 56) : Rod :=
  let ρ := up .x [(Fl.COL_STAT_BUSY 0, 1), (Fl.RK_STAT_IMG_OK, 1), (Fl.RK_IMG_LENGTH, 16), (Fl.TRIG_LIM_LIMIT 0 0, 99)]
  { ρ with rk := { ρ.rk with prog := [(0, BitVec.ofNat 64 (opc * 2 ^ 56 + f.toNat))]
                             cols := [(0, { Col.init with v := [(1, 7#32), (2, BitVec.ofInt 32 (-3)), (3, 0x7FFFFFFF#32)], acc := [(1, 2 ^ 71 - 1)] })] } }

/-- The same within a REPEAT body. -/
def colRep (opc : Nat) (f : BitVec 56) : Rod :=
  let ρ := col opc f
  { ρ with rk := { ρ.rk with cols := [(0, { Col.init with rep := some (0, 1, 2, true) })] } }

/-- D = 5, A = 1, B = 2. -/
def dab : BitVec 56 := enc [(51, 5), (46, 1), (41, 2)]
def da : BitVec 56 := enc [(51, 5), (46, 1)]

/-- The words of PlainInstructionsWriteOneRegister issue; MOVI with every immediate bit 1. -/
theorem witness_PlainInstructionsWriteOneRegister :
    ∀ e ∈ [(0x05, da, mD ||| mA), (0x06, enc [(51, 31), (0, 0xFFFFFFFF)], mD ||| mImm), (0x07, 0#56, 0), (0x08, enc [(51, 5)], mD),
      (0x12, dab, mD ||| mA ||| mB), (0x13, dab, mD ||| mA ||| mB), (0x14, dab, mD ||| mA ||| mB), (0x17, dab, mD ||| mA ||| mB),
      (0x18, dab, mD ||| mA ||| mB), (0x1C, dab, mD ||| mA ||| mB), (0x1D, dab, mD ||| mA ||| mB), (0x1E, dab, mD ||| mA ||| mB)],
      (col e.1 e.2.1).takes 0 e.1 e.2.1 e.2.2 := by decide +kernel

theorem witness_SaturatingInstructionsSetSat :
    ∀ e ∈ [(0x10, enc [(51, 5), (46, 3), (41, 1)], mD ||| mA ||| mB), (0x11, enc [(51, 5), (46, 2), (41, 3)], mD ||| mA ||| mB), (0x15, da, mD ||| mA),
      (0x16, da, mD ||| mA), (0x31, enc [(51, 5), (46, 1), (26, 2), (24, 1)], mD ||| mA ||| mAx ||| mTs), (0x32, enc [(51, 5), (46, 1), (26, 2)], mD ||| mA ||| mAx)],
      (col e.1 e.2.1).takes 0 e.1 e.2.1 e.2.2 ∧ fAx e.2.1 < 3 ∧ fTs e.2.1 < 2 := by decide +kernel

theorem witness_AccumulatorsClampAndSetAov :
    ∀ e ∈ [(0x20, enc [(39, 3)], mAcc), (0x21, enc [(39, 1), (46, 1), (33, 63)], mAcc ||| mA ||| mE), (0x22, enc [(39, 1), (46, 1), (0, 4095)], mAcc ||| mA ||| mAddr),
      (0x23, enc [(39, 1), (46, 1), (0, 4095)], mAcc ||| mA ||| mAddr), (0x24, enc [(39, 1), (46, 3), (41, 3), (28, 15)], mAcc ||| mA ||| mB ||| mK),
      (0x25, enc [(39, 1), (46, 3), (41, 3), (28, 16)], mAcc ||| mA ||| mB ||| mK), (0x26, enc [(39, 1), (0, 4095)], mAcc ||| mAddr)],
      (col e.1 e.2.1).takes 0 e.1 e.2.1 e.2.2 ∧ fAddr e.2.1 < 4096 := by decide +kernel

theorem witness_ExtractionRoundsAndFlags :
    (col 0x27 (enc [(51, 5), (39, 1), (33, 63)])).takes 0 0x27 (enc [(51, 5), (39, 1), (33, 63)]) (mD ||| mAcc ||| mE) := by decide +kernel

/-- CLMP with a limit of 7, shifts by 31, SINCOS and LIMC into register 30, LIMC within its radius and outside it. -/
theorem witness_ShiftClampSincosLimcComplete :
    ((col 0x19 (enc [(51, 5), (46, 2), (41, 1)])).takes 0 0x19 (enc [(51, 5), (46, 2), (41, 1)]) (mD ||| mA ||| mB) ∧
      0 ≤ ((col 0x19 0).v 0 1).toInt) ∧
    ((col 0x1A (enc [(51, 5), (46, 2), (33, 31)])).takes 0 0x1A (enc [(51, 5), (46, 2), (33, 31)]) (mD ||| mA ||| mE) ∧ fE (enc [(33, 31)]) < 32) ∧
    ((col 0x1B (enc [(51, 5), (46, 2), (33, 31)])).takes 0 0x1B (enc [(51, 5), (46, 2), (33, 31)]) (mD ||| mA ||| mE)) ∧
    ((col 0x30 (enc [(51, 30), (46, 2)])).takes 0 0x30 (enc [(51, 30), (46, 2)]) (mD ||| mA) ∧ fD (enc [(51, 30)]) < 31) ∧
    ((col 0x33 (enc [(51, 30), (46, 4)])).takes 0 0x33 (enc [(51, 30), (46, 4)]) (mD ||| mA) ∧ 0 ≤ ((col 0x33 0).v 0 4).toInt ∧
      ((col 0x33 0).v 0 30).toInt ^ 2 + ((col 0x33 0).v 0 31).toInt ^ 2 ≤ ((col 0x33 0).v 0 4).toInt ^ 2) ∧
    ((col 0x33 (enc [(51, 1), (46, 1)])).takes 0 0x33 (enc [(51, 1), (46, 1)]) (mD ||| mA) ∧ 0 ≤ ((col 0x33 0).v 0 1).toInt ∧
      ((col 0x33 0).v 0 1).toInt ^ 2 < ((col 0x33 0).v 0 1).toInt ^ 2 + ((col 0x33 0).v 0 2).toInt ^ 2) := by
  and_intros <;> decide +kernel

/-- Loads and stores at both ends of general working memory, and stores at the ends of each protected area. -/
theorem witness_LoadsAndStoresReachSignalMemory :
    (∀ e ∈ [(0x01, enc [(51, 5), (0, 0x3FFF)], mD ||| mAddr), (0x02, enc [(51, 5), (46, 1), (0, 0x3FFF)], mD ||| mA ||| mAddr)],
      (col e.1 e.2.1).takes 0 e.1 e.2.1 e.2.2) ∧
    (∀ e ∈ [(0x03, enc [(41, 1), (0, 0x800)], mB ||| mAddr, 0x800), (0x03, enc [(41, 1), (0, 0x3FFF)], mB ||| mAddr, 0x3FFF),
      (0x04, enc [(41, 2), (46, 1), (0, 0x7F9)], mA ||| mB ||| mAddr, 0x800)],
      (col e.1 e.2.1).takes 0 e.1 e.2.1 e.2.2.1 ∧ 0x800 ≤ e.2.2.2 ∧ (col e.1 e.2.1).rk.wlog = []) ∧
    (∀ w ∈ [0, 0x13F, 0x309, 0x3FF, 0x580, 0x7FF, 0x300, 0x308, slotW .y 0, slotW .z 31],
      (col 0x03 (enc [(41, 3), (0, w)])).takes 0 0x03 (enc [(41, 3), (0, w)]) (mB ||| mAddr) ∧ 2 ^ 24 ≤ ((col 0x03 0).v 0 3).toNat) := by
  and_intros <;> decide +kernel

/-- Branches to the next address, to the last of the program, to themselves and past the program. -/
theorem witness_BranchesGoForwardOrTrap :
    ∀ e ∈ [(0x38, mA ||| mB ||| mAddr), (0x39, mA ||| mB ||| mAddr), (0x3A, mA ||| mB ||| mAddr), (0x3B, mA ||| mB ||| mAddr), (0x3C, mAddr)],
      ∀ t ∈ [1, 15, 0, 16], (col e.1 (enc [(0, t)])).takes 0 e.1 (enc [(0, t)]) e.2 ∧ ((col 0 0).col 0).rep = none ∧ (col 0 0).progLen = 16 := by
  decide +kernel

theorem witness_RepeatHaltAndClrfComplete :
    ((col 0x3D (enc [(16, 255), (0, 14)])).takes 0 0x3D (enc [(16, 255), (0, 14)]) (mCnt ||| 0x3F) ∧ ((col 0 0).col 0).rep = none ∧
      (col 0 0).pcOf 0 + (14 % 64 + 1) < (col 0 0).progLen) ∧
    (col 0x3E 0).takes 0 0x3E 0 0 ∧
    ((col 0x3F 0).takes 0 0x3F 0 0 ∧ ((col 0x3F 0).col 0).rep = none ∧ ((col 0x3F 0).col 0).waiting = [] ∧ ((col 0x3F 0).col 0).src ≠ 2) := by
  and_intros <;> decide +kernel

/-- A column past the end of its program: address 16 of 16. -/
def colPast : Rod := (col 0 0).p (Fl.COL_STAT_PC 0) 16

theorem witness_ExceptionsStopTheBlock :
    (∀ o ∈ [0x00, 0x09, 0x0F, 0x1F, 0x28, 0x34, 0x40, 0xFF], legalOpc o = false ∧ (col o da).reads 0 o da (2 ^ 56 - 1)) ∧
    (colPast.issues 0 0x12 0#56 = true ∧ colPast.progLen ≤ colPast.pcOf 0) ∧
    ((col 0x12 1).issues 0 0x12 1#56 = true ∧ (col 0x12 1).pcOf 0 < (col 0x12 1).progLen ∧ (1 : Nat) &&& (2 ^ 56 - 1 - (mD ||| mA ||| mB)) ≠ 0) ∧
    ((col 0x19 (enc [(41, 2)])).reads 0 0x19 (enc [(41, 2)]) (mD ||| mA ||| mB) ∧ ((col 0 0).v 0 2).toInt < 0) ∧
    ((col 0x1A (enc [(33, 32)])).reads 0 0x1A (enc [(33, 32)]) (mD ||| mA ||| mE) ∧ 31 < fE (enc [(33, 32)])) ∧
    (col 0x1B (enc [(33, 32)])).reads 0 0x1B (enc [(33, 32)]) (mD ||| mA ||| mE) ∧
    ((col 0x30 (enc [(51, 31)])).reads 0 0x30 (enc [(51, 31)]) (mD ||| mA) ∧ fD (enc [(51, 31)]) = 31) ∧
    (col 0x33 (enc [(51, 31)])).reads 0 0x33 (enc [(51, 31)]) (mD ||| mA) ∧
    ((col 0x33 (enc [(51, 5), (46, 2)])).reads 0 0x33 (enc [(51, 5), (46, 2)]) (mD ||| mA) ∧ ((col 0 0).v 0 2).toInt < 0) ∧
    ((colRep 0x3D 0).reads 0 0x3D 0 (mCnt ||| 0x3F) ∧ ((colRep 0 0).col 0).rep.isSome = true) ∧
    (colRep 0x3F 0).reads 0 0x3F 0 0 := by
  and_intros <;> decide +kernel

/-! ### Register pages and staging -/

/-- A rod whose page 0x060 waits for nothing, with the lower half of SQ_BASE of queue 15 written. -/
def rLo : Rod := { up .x [] with loPend := [(Rg.SQ_BASE_LO 15, 0xFFFFFFFF#32)] }

/-- The accepted writes of a running rod, on its own link. -/
theorem witness_RegisterWriteReachesItsRegister :
    (up .x []).accepts .linkX Rg.FAULT_IRQ ∧ (up .x []).accepts .linkX (Rg.AX_ILIM 2 2) ∧ (up .x []).accepts .linkX (Rg.SQ_BASE_LO 15) ∧
    (rLo.accepts .linkX (Rg.SQ_BASE_HI 15) ∧
      rLo.loPend.find? (fun e => e.1 == Rg.SQ_BASE_LO 15) = some (Rg.SQ_BASE_LO 15, 0xFFFFFFFF#32)) := by
  and_intros <;> decide +kernel

/-- LOCK of page 0x021 held by the firmware; the PWR_OK of domain 0 off. -/
def rLocked : Rod := up .x [(Fl.LOCK_HELD 0x021, 1), (Fl.LOCK_PATH 0x021, 0)]
def rPage0Off : Rod := up .x [(Fl.PWR_STAT_PWR_OK, 0x3E)]

/-- The last unlisted page, a size of 4 at an address off by 1 and one of 2, the first register after the served header of a page that
is off, FL_SEQ, and FAULT_IRQ under another path's LOCK. -/
theorem witness_AccessErrorsAreCaptured :
    (up .x []).answers Path.linkX.code = true ∧
    (pageInfo (0xFFFFC / 0x1000) = none ∧ 0xFFFFC < 0x100000) ∧
    ((pageInfo (Rg.FAULT_IRQ / 0x1000)).isSome = true ∧ (Rg.FAULT_IRQ + 1) % 4 ≠ 0 ∧ (2 ≠ 4 ∧ 2 ≠ 8)) ∧
    (rPage0Off.answers Path.linkX.code = true ∧ 0x10008 % 4 = 0 ∧ (pageInfo (0x10008 / 0x1000)).isSome = true ∧
      ¬(0x08 = 0x00 ∨ 0x08 = 0x04 ∨ 0x08 = 0x0C ∨ 0x08 = 0x30 ∨ 0x08 = 0x34 ∨ 0x08 = 0x38) ∧ rPage0Off.pageOn (0x10008 / 0x1000) = false) ∧
    (up .x []).pageOn 0x0D0 = true ∧
    (rLocked.pageOn 0x021 = true ∧ rLocked.b (Fl.LOCK_HELD 0x021) = true ∧ rLocked.g (Fl.LOCK_PATH 0x021) ≠ Path.linkX.code) := by
  and_intros <;> decide +kernel

def rHi : Rod := { up .x [] with hiCap := [(Rg.FT_HI, 5#32)] }

theorem witness_ReadsReturnRegistersAndClearOnRead :
    (up .x []).answers ((up .x []).me.code + 1) = true ∧
    ((up .x []).pageOn 0x040 = true ∧ (up .x []).hiCap.find? (fun e => e.1 == Rg.FT_LO) = none) ∧
    (rHi.pageOn 0x040 = true ∧ rHi.hiCap.find? (fun e => e.1 == Rg.FT_HI) = some (Rg.FT_HI, 5#32)) ∧
    ((up .x []).pageOn 0x0D0 = true ∧ (up .x []).hiCap.find? (fun e => e.1 == Rg.DIAG_ECC) = none) := by
  and_intros <;> decide +kernel

/-- A log at its end: FL_SEQ and FL_ACK at 0xFFFFFFFF. -/
def rLog : Rod := up .x [(Fl.FL_SEQ_SEQ, 0xFFFFFFFF), (Fl.FL_ACK_ACK, 0xFFFFFFFE)]

theorem witness_PageHeaderWritesAct :
    (one rLocked).quiet ∧
    (up .x []).accepts .linkX (Rg.IRQ_FORCE 0x021) ∧
    ((up .x []).accepts .linkX (Rg.LOCK 0x021) ∧ (up .x []).b (Fl.LOCK_HELD 0x021) = false) ∧
    (rLocked.accepts .firmware (Rg.LOCK 0x021) ∧ rLocked.b (Fl.LOCK_HELD 0x021) = true) ∧
    (up .x []).accepts .linkX (Rg.ERRCAP_0 0x0D0) ∧
    (rLog.accepts .linkX Rg.FL_ACK ∧ (0xFFFFFFFF + 2 ^ 32 - rLog.g Fl.FL_ACK_ACK) % 2 ^ 32 ≤ (rLog.g Fl.FL_SEQ_SEQ + 2 ^ 32 - rLog.g Fl.FL_ACK_ACK) % 2 ^ 32) ∧
    (rLog.g Fl.FL_SEQ_SEQ + 2 ^ 32 - rLog.g Fl.FL_ACK_ACK) % 2 ^ 32 < (0 + 2 ^ 32 - rLog.g Fl.FL_ACK_ACK) % 2 ^ 32 ∧
    ((up .x []).accepts .linkX (Rg.IRQ_RAW 0x021) ∧ 0x021 ≠ 0x0D0) := by
  refine ⟨fun r => by cases r <;> decide +kernel, ?_⟩
  and_intros <;> decide +kernel

/-- Page 0x060 with a rejected commit, and in AT_FT mode with the lower half of STG_FT waiting. -/
def rMis : Rod := up .x [(Fl.STG_STAT_MISMATCH 0x060, 1)]
def rAtFt : Rod := { up .x [(Fl.STG_CTRL_MODE 0x060, 2)] with loPend := [(Rg.STG_FT_LO 0x060, 1000001#32)] }

theorem witness_StagingHeaderActs :
    pageStaged 0x060 = true ∧
    ((up .x []).accepts .linkX (Rg.STG_CTRL 0x060) ∧ wBits 0x80000120#32 4 2 ≠ 3 ∧ wBit 0x80000120#32 0 = false) ∧
    (wBits 0x00000001#32 4 2 = 0 ∧ (up .x []).b (Fl.STG_STAT_MISMATCH 0x060) = false ∧ wBit 0x00000001#32 31 = false) ∧
    (wBits 0x80000001#32 4 2 = 0 ∧ wBit 0x80000001#32 31 = true) ∧
    (rAtFt.accepts .linkX (Rg.STG_FT_HI 0x060) ∧ rAtFt.g (Fl.STG_CTRL_MODE 0x060) = 2 ∧ rAtFt.b (Fl.STG_STAT_MISMATCH 0x060) = false ∧
      rAtFt.b Fl.FT_STAT_VALID = true ∧
      rAtFt.ft < 0 * 2 ^ 32 + (Sparse.get (rAtFt.gw (Rg.STG_FT_LO 0x060)) rAtFt.loPend (Rg.STG_FT_LO 0x060)).toNat) ∧
    (rMis.accepts .linkX (Rg.STG_STAT 0x060) ∧ rMis.b (Fl.STG_STAT_MISMATCH 0x060) = true) := by
  and_intros <;> decide +kernel

/-- Page 0x040 with OUT_LIM written as 1999, one below LOSS_LIM, and a commit requested; with a lone DISC_CFG beyond its range; in AT_TICK mode; without
ticks; and in AT_FT mode with its FT come. -/
def rCmt : Rod := { up .x [] with shadow := [(Rg.DISC_CFG, 0x006407CF#32), (Rg.HOLD_CFG, 0x07D00064#32)], cmtReq := [0x040] }
def rCmtBad : Rod := { up .x [] with shadow := [(Rg.DISC_CFG, 0xFFFF0000#32)], cmtReq := [0x040] }
def rCmtTick : Rod := { rCmt.p (Fl.STG_CTRL_MODE 0x040) 1 with cmtReq := [] }
def rCmtSync : Rod := rCmt.p Fl.ROD_STATE_ROD_X 2
def rCmtSyncBad : Rod := rCmtBad.p Fl.ROD_STATE_ROD_X 2
def rCmtFt : Rod := { rCmt.p (Fl.STG_CTRL_MODE 0x040) 2 with armed := [(0x040, 1000000)], cmtReq := [] }

theorem witness_CommitTakesAllOrNothing :
    (∀ ρ ∈ [rCmt, rCmtTick, rCmtSync, rCmtFt], ρ.verdict (ρ.overlay [0x040]) 0x040 = none ∧ ρ.pageOn 0x040 = true ∧
      ρ.b (Fl.STG_STAT_MISMATCH 0x040) = false) ∧
    (∀ ρ ∈ [rCmtBad, rCmtSyncBad], ∃ e ∈ (ρ.verdict (ρ.overlay [0x040]) 0x040).toList, e.1 ≠ 0) ∧
    (rCmt.ticksRun = true ∧ rCmt.g (Fl.STG_CTRL_MODE 0x040) = 0 ∧ 0x040 ∈ rCmt.cmtReq) ∧
    (rCmtTick.ticksRun = true ∧ rCmtTick.g (Fl.STG_CTRL_MODE 0x040) = 1 ∧ rCmtTick.dirty 0x040 = true ∧ rCmtTick.b (Fl.STG_CTRL_OPEN 0x040) = false) ∧
    rCmtSync.ticksRun = false ∧
    (rCmtFt.g (Fl.STG_CTRL_MODE 0x040) = 2 ∧ Sparse.has rCmtFt.armed 0x040 = true ∧ Sparse.get 0 rCmtFt.armed 0x040 ≤ rCmtFt.ft ∧
      rCmtFt.b (Fl.STG_CTRL_OPEN 0x040) = false) := by
  and_intros <;> decide +kernel

/-! ### Ticks, frames and messages -/

/-- Trigger 7 of column 3 on every tick (SRC 1), its column free or busy; the trigger fired; an OUTER trigger of the led axis 0. -/
def rTrig : Rod := up .x [(Fl.TRIG_CFG_SRC 3 7, 1), (Fl.RK_STAT_IMG_OK, 1), (Fl.TRIG_CFG_ENTRY 3 7, 16383), (Fl.TRIG_LIM_START 3 7, 200)]
def rTrigBusy : Rod := rTrig.p (Fl.COL_STAT_BUSY 3) 1
def rTrigFired : Rod := { rTrig with rk := { rTrig.rk with fired := [31] } }
def rTrigOuter : Rod := (rTrig.p (Fl.TRIG_CFG_SRC 3 7) 2).p (Fl.TRIG_CFG_AXIS 3 7) 0

theorem witness_TriggersStartBlocks :
    (rTrig.runsBlocks = true ∧ rTrig.g (Fl.TRIG_CFG_SRC 3 7) = 1 ∧ 3 * 8 + 7 ∉ rTrig.rk.fired ∧ rTrig.b (Fl.COL_STAT_BUSY 3) = false) ∧
    (rTrigOuter.runsBlocks = true ∧ rTrigOuter.g (Fl.TRIG_CFG_SRC 3 7) = 2 ∧ rTrigOuter.leads (axisOf 0) = true ∧
      rTrigOuter.tandemStandby (axisOf 0) = false ∧ rTrigOuter.waits (axisOf 0) = false ∧ rTrigOuter.outerTick (axisOf 0) = true) ∧
    (rTrigBusy.runsBlocks = true ∧ rTrigBusy.b (Fl.COL_STAT_BUSY 3) = true) ∧
    3 * 8 + 7 ∈ rTrigFired.rk.fired := by
  and_intros <;> decide +kernel

/-- Column 3 at the last cycle but one of START + LIMIT, and at the last; axis 2 at its overrun limit of 1 and of 255. -/
def rCol3 (cyc : Nat) : Rod :=
  let ρ := up .x [(Fl.COL_STAT_BUSY 3, 1), (Fl.RK_STAT_IMG_OK, 1), (Fl.RK_IMG_LENGTH, 16), (Fl.TRIG_LIM_START 3 0, 50), (Fl.TRIG_LIM_LIMIT 3 0, 50)]
  { ρ with rk := { ρ.rk with prog := [(0, 0x0700000000000000#64)], cols := [(3, { Col.init with cyc := cyc })] } }
def rOvr (lim n : Nat) : Rod := up .x [(Fl.POLICY_OVR_LIM 2, lim), (⟨0x060, 0x7C, 16, 8⟩, n)]

theorem witness_LimitsStopBlocksAndSets :
    ((rCol3 99).running 3 = true ∧ (rCol3 99).fits 3 = true) ∧
    ((rCol3 100).running 3 = true ∧ (rCol3 100).fits 3 = false ∧ ((rCol3 100).col 3).src ≠ 2 ∧ ((rCol3 100).col 3).waiting = []) ∧
    ((rOvr 1 1).rk.setOn.get (2 : Axis) = true ∧ 0 < (rOvr 1 1).g (Fl.POLICY_OVR_LIM 2) ∧
      (rOvr 1 1).g (Fl.POLICY_OVR_LIM 2) ≤ (rOvr 1 1).g ⟨0x060, 0x7C, 8 * 2, 8⟩) ∧
    (rOvr 15 255).g (Fl.POLICY_OVR_LIM 2) ≤ (rOvr 15 255).g ⟨0x060, 0x7C, 8 * 2, 8⟩ := by
  and_intros <;> decide +kernel

/-- The own slot complete at tick 100, and with two sets late; the slot sent. -/
def rDq : Rod :=
  let ρ := up .x [(Fl.RK_STAT_IMG_OK, 1)]
  { ρ with rk := { ρ.rk with dqOpen := true, sig := [(slotW .x 12, 100#32), (slotW .x 13, 100#32), (slotW .x 14, 100#32)] } }
def rDqLate : Rod := { rDq with rk := { rDq.rk with sig := [(slotW .x 13, 100#32)] } }
def rDqSent : Rod := { rDq with rk := { rDq.rk with dqSent := true } }

theorem witness_DqFramesAreSentOncePerTick :
    (rDq.sendsDq = true ∧ rDq.rk.dqSent = false ∧ rDq.rk.dqOpen = true ∧ rDq.seqMask = 7) ∧
    (rDqLate.sendsDq = true ∧ rDqLate.rk.dqSent = false ∧ rDqLate.rk.dqOpen = true ∧ rDqLate.seqMask ≠ 7) ∧
    rDqSent.rk.dqSent = true := by
  and_intros <;> decide +kernel

/-- A frame of tick 100 in epoch 7 from Y, held back; the frame of Z missing for the sixteenth time. -/
def frameOf (tick : Nat) : DqFrame := { crcOk := true, tick := BitVec.ofNat 32 tick, epoch := ⟨7#16, true⟩, fresh := 5#3, resid := 2#3, words := (List.range 32).map (BitVec.ofNat 32) }
def rHid : Rod := { rDq with rk := { rDq.rk with hid := ⟨none, some (frameOf 100), none⟩ }, red := { rDq.red with missing := ⟨0, 0, 15⟩ } }

theorem witness_DqFramesReachTheSlotsAtTheClose :
    (RodId.y ≠ (seen rDq).me ∧ { frameOf 100 with crcOk := false }.crcOk = false) ∧
    (RodId.y ≠ (seen rDq).me ∧ (frameOf 100).crcOk = true ∧ (frameOf 100).epoch = (seen rDq).epoch ∧ (seen rDq).rk.dqOpen = true ∧ (frameOf 100).tick.toNat = (seen rDq).tick) ∧
    (frameOf 99).tick.toNat ≠ (seen rDq).tick ∧
    ((seen rHid).ticksRun = true ∧ (seen rHid).rk.dqOpen = true) ∧
    (RodId.y ∈ (seen rHid).me.partners ∧ (seen rHid).rk.hid.get RodId.y.idx = some (frameOf 100) ∧ (frameOf 100).words.length = 32) ∧
    (RodId.z ∈ (seen rHid).me.partners ∧ (seen rHid).rk.hid.get RodId.z.idx = none) := by
  and_intros <;> decide +kernel

theorem witness_SamplingInstantsBeginATick :
    (∀ q, ((one (up .x [])).rod q).me = q) ∧
    ((seen (up .x [])).ticksRun = true ∧ ((seen (up .x [])).atFt (1100000#64).toNat).atInstant = true) ∧
    ((seen (up .x [])).atFt (1100001#64).toNat).atInstant = false ∧
    (seen (rod .x [])).ticksRun = false := by
  refine ⟨fun q => by cases q <;> rfl, ?_⟩
  and_intros <;> decide +kernel

theorem witness_AdcWordsReachTheSampleArea :
    ((up .x []).ticksRun = true ∧ ∀ n, (up .x []).isPump n = false) ∧ (rod .x []).ticksRun = false := by
  and_intros <;> decide +kernel

/-- Half-bridge W of axis 2 with a duty word written and one full-duty period, REFRESH_N 1; none yet. -/
def rDuty : Rod :=
  let ρ := up .x [(Fl.DRV_DUTY_REFRESH_N 2, 1), (Fl.DRV_CNT_REFRESH 2, 255)]
  { ρ with hb := ρ.hb.set (2 : Axis) ((ρ.hb.get (2 : Axis)).set (2 : Phase) { Hb.init with written := some 0x00FFFFFF, full := 1 })
           pwm := { ρ.pwm with duty := ⟨0#32, 0#32, 0x01000000#32⟩ } }

theorem witness_DutiesLatchAndRefresh :
    (rDuty.ticksRun = true ∧ rDuty.stretched = false ∧ rDuty.isPump 2 = false) ∧
    (0 < (rDuty.half 2 2).full ∧ rDuty.refreshN 2 ≤ (rDuty.half 2 2).full) ∧
    (rDuty.half 2 1).full < rDuty.refreshN 2 := by
  and_intros <;> decide +kernel

/-- Rod Y leads axis 1 at reset; its messages of the epoch held, and of an earlier one that another sender has been recorded with. -/
def held : Epoch := ⟨7#16, true⟩
def stale : Epoch := ⟨6#16, true⟩
def tqCopy (e : Epoch) (t : Word) : TorqueCopy := ⟨1, e, [0#32, 0#32, 0#32, t] ++ List.replicate 12 1#32⟩
def stCopy (e : Epoch) (whole : Bool) : StateCopy := ⟨1, e, whole, (List.range 128).map (BitVec.ofNat 32)⟩
def setMsg (e : Epoch) : SetState := ⟨2, e, false, 1000000#64⟩
def pumpMsg (e : Epoch) : PumpPhaseMsg := ⟨1, e, 3, 0xFFFFFFFF#32, 0#32, 0#32, 0⟩
def rStale : Rod := let ρ := up .x [(Fl.CR_CNT_STALE, 255)]; { ρ with red := { ρ.red with stale := [(.y, 6)] } }

theorem witness_MessagesOfTheLeadAreTaken :
    (seen (up .x [])).lets .y (setMsg held).epoch none ∧
    ((seen (up .x [])).lets .y (tqCopy held 0).epoch (some 1) ∧ (seen (up .x [])).tqOff 1 ((tqCopy held 0).words.getD 3 0#32).toInt = false) ∧
    ((seen (up .x [])).lets .y (stCopy held true).epoch (some 1) ∧ (stCopy held true).words.length = 128) ∧
    (seen (up .x [])).lets .y (pumpMsg held).epoch (some 1) ∧
    (RodId.y ≠ (up .x []).me ∧ (up .x []).rk.lead.get (1 : Axis) = .y) ∧
    (RodId.y ≠ (seen (up .x [])).me ∧ stale.valid = true ∧ stale.num.toNat ≠ (seen (up .x [])).g Fl.CR_EPOCH_EPOCH ∧
      laterEpoch stale.num.toNat (((seen (up .x [])).g Fl.CR_EPOCH_EPOCH + (seen (up .x [])).removalsDue) % 65536) = false) ∧
    ((RodId.y, stale.num.toNat) ∉ (seen (up .x [])).red.stale ∧ (RodId.y, stale.num.toNat) ∈ (seen rStale).red.stale) := by
  and_intros <;> decide +kernel

/-- The fourth missing frame of Y; the second implausible copy of the lead of axis 1. -/
def rSilent : Rod := let ρ := up .x []; { ρ with red := { ρ.red with missing := ⟨0, 4, 0⟩, tqBad := ⟨0, 1, 0⟩, dqHeard := ⟨false, true, false⟩ } }

theorem witness_SilentPartnersAreJudged :
    (RodId.y ≠ (seen rSilent).me ∧ (seen rSilent).red.judged.get RodId.y.idx = none) ∧
    (4 ≤ (seen rSilent).red.missing.get RodId.y.idx ∧ RS.serving (seen rSilent).state = true ∧
      (seen rSilent).red.dqHeard.get RodId.y.idx = true ∧ (seen rSilent).seen .y ≠ RS.update) ∧
    ((seen rSilent).lets .y held (some 1) ∧ (seen rSilent).tqOff 1 ((tqCopy held 1).words.getD 3 0#32).toInt = true ∧
      1 ≤ (seen rSilent).red.tqBad.get (1 : Axis)) := by
  and_intros <;> decide +kernel

/-- Rod Y judged by X; its removal due at the tick in force; one order of removal held. -/
def rJudged : Rod := let ρ := up .x []; { ρ with red := { ρ.red with judged := ⟨none, some (1, 0xFFFFFFFF), none⟩ } }
def rDue : Rod := let ρ := up .x []; { ρ with red := { ρ.red with due := ⟨none, some (100, 1), none⟩ } }
def rOrdered : Rod := let ρ := up .x []; { ρ with red := { ρ.red with orders := ⟨false, false, true⟩ } }

theorem witness_JudgementsAndOrdersRemove :
    (RodId.z ≠ (up .x []).me ∧ RodId.y ≠ (up .x []).me ∧ RodId.y ≠ RodId.z ∧ (up .x []).red.judged.get RodId.y.idx = none) ∧
    (rJudged.red.judged.get RodId.y.idx = some (1, 0xFFFFFFFF) ∧ rJudged.red.due.get RodId.y.idx = none) ∧
    (RS.serving (up .x []).state = true ∧ (up .x []).red.due.get RodId.y.idx = none ∧ (up .x []).red.heard.get RodId.y.idx = none) ∧
    ((seen rDue).red.due.get RodId.y.idx = some (100, 1) ∧ ((seen rDue).tick + 2 ^ 32 - 100) % 2 ^ 32 < 2 ^ 31 ∧ RS.serving (seen rDue).state = true) ∧
    ((up .x []).me.partners.any fun p => p != .y && !(up .x []).red.orders.get p.idx) = true ∧
    ((rOrdered.me.partners.all fun p => p == .y || rOrdered.red.orders.get p.idx) = true ∧ RS.serving rOrdered.state = true ∧
      rOrdered.state ≠ RS.update) := by
  and_intros <;> decide +kernel

/-- Rod X with its link to Z down: split control at the loss of Y. -/
def rAlone : Rod := up .x [(Fl.CR_STAT_LINK_2, 0)]

/-- The same where both links went at one instant. -/
def rCut : Rod := { rAlone with red := { rAlone.red with whole := true, cutFt := some (up .x []).ft } }

theorem witness_CarryLinksGoDownAndUp :
    (RodId.y ≠ (up .x []).me ∧ (seen (up .x [])).linkUp .y = true ∧ (seen (up .x [])).b Fl.CR_STAT_LINK_2 = true) ∧
    ((seen rAlone).linkUp .y = true ∧ (seen rAlone).b Fl.CR_STAT_LINK_2 = false ∧ (seen rAlone).state = RS.active ∧
      (seen rAlone).red.cutFt ≠ some (seen rAlone).ft ∧ (seen rAlone).mode = SM.operate) ∧
    ((seen rCut).linkUp .y = true ∧ (seen rCut).b Fl.CR_STAT_LINK_2 = false ∧ (seen rCut).state = RS.active ∧ (seen rCut).red.whole = true ∧
      (seen rCut).red.cutFt = some (seen rCut).ft) ∧
    (rAlone.linkUp .z = false ∧ RodId.z ≠ rAlone.me) := by
  and_intros <;> decide +kernel

/-! ### Memories, feedback and the counting frame -/

/-- A running injection of three ticks on axis 2, at its start, at its end and stopped; a record waiting for the flash. -/
def injAt (k : Nat) (off : Bool) : Inj :=
  { k := k, len := 3, phi := 0, inc0 := 0, inc1 := 0, lfsr := 1, bit := false, mask := 7, lead := .z, tgt := 0, stop := false, off := off }
def rInj (k : Nat) (off : Bool) : Rod := let ρ := up .x [(Fl.INJ_STAT_RUN 2, 1)]; { ρ with rk := { ρ.rk with inj := ⟨none, none, some (injAt k off)⟩ } }
def aRec : FaultRec := ⟨0#64, 0x0B01#16, 0x090#16, 0#8, 0#8, 0#8, 2#8, 0#128⟩
def rPend : Rod := { up .x [(Fl.ID_OPH_HOURS, 0xFFFFFFFF), (Fl.DIAG_ECC_SRAM, 0xFFFF)] with flPend := [aRec] }

theorem witness_InjectionsEndAndDiagnosticsCount :
    ((rInj 0 false).accepts .linkX (Rg.INJ_CMD 2) ∧ (rInj 0 false).rk.inj.get (2 : Axis) = some (injAt 0 false)) ∧
    (injAt 3 false).len ≤ (injAt 3 false).k ∧ (injAt 0 true).off = true ∧
    ((injAt 2 false).k < (injAt 2 false).len ∧ (injAt 2 false).off = false) ∧
    (rPend.recBuf = [] ∧ rPend.flPend = [aRec]) ∧ (rPend.state ≠ RS.off ∧ rPend.aon.coreOff = false) := by
  and_intros <;> decide +kernel

def rSync : Rod := up .x [(Fl.COEF_STAT_SYNC_BUSY, 1)]

theorem witness_WindowsBanksAndTraceAreWritten :
    ((up .x []).answers Path.linkX.code = true ∧ (up .x []).clkOn 1 = true ∧ (up .x []).bitOf Fl.PWR_STAT_PWR_OK 2 = true) ∧
    (0x800 ≤ 0x3FFF ∧ 0x3FFF < 16384 ∧ 0x7FF < 0x800 ∧ 4095 < 4096) ∧
    ((up .x []).b Fl.COEF_STAT_SYNC_BUSY = false ∧ (up .x []).rk.actCoef ≤ 1) ∧
    (up .x []).accepts .linkX Rg.COEF_CMD ∧ (rSync.b Fl.COEF_STAT_SYNC_BUSY = true ∧ rSync.rk.coefQ = [] ∧ rSync.rk.coefSrc ≤ 1 ∧ rSync.hp.owed = [] ∧ ∀ q : Fin 16, (rSync.qp q).cmds = []) ∧
    (up .x []).accepts .linkX Rg.TRC_CFG ∧ (up .x []).accepts .linkX (Rg.COL_CMD 3) := by
  and_intros <;> decide +kernel

/-- The quadrature path of axis 2 enabled, one below its upper limit with the last edge at sample 1000. -/
def rQuad (more : List (Fld × Nat)) : Rod :=
  let ρ := up .x ([(Fl.QD_CFG_QEN 2, 1), (Fl.QD_CFG_MIN_SP 2, 4), (Fl.FB_CNT_CNT 2, 99), (Fl.CNT_MAX_LIM 2, 100), (Fl.CNT_MIN_LIM 2, 0xFFFFFF9C), (Fl.QD_CFG_ERR_LIM 2, 8)] ++ more)
  { ρ with fb := ρ.fb.set (2 : Axis) { Fb.init with edge := some 1000 } }

theorem witness_QuadratureCountsEdges :
    (0 ≤ (rQuad []).g (Fl.FB_CFG_FILT 2) ∧ (rQuad []).g (Fl.FB_CFG_FILT 2) < 16 ∧ ((rQuad []).fb.get (2 : Axis)).st < 4) ∧
    ((rQuad []).qOk 2 = true ∧ 2 * b2n true + b2n false ≠ ((rQuad []).fb.get (2 : Axis)).st ∧
      quadStep ((rQuad []).fb.get (2 : Axis)).st (2 * b2n true + b2n false) = some 1 ∧
      (∀ e ∈ (((rQuad []).fb.get (2 : Axis)).edge).toList, (rQuad []).g (Fl.QD_CFG_MIN_SP 2) ≤ 1004 - e) ∧
      (rQuad []).cntMin 2 ≤ (rQuad []).count 2 + 1 ∧ (rQuad []).count 2 + 1 ≤ (rQuad []).cntMax 2 ∧ (rQuad []).b (Fl.FB_CFG_DIR_INV 2) = false) ∧
    (quadStep ((rQuad []).fb.get (2 : Axis)).st (2 * b2n true + b2n true) = none ∧ ((rQuad []).fb.get (2 : Axis)).ill = false) ∧
    2 * b2n false + b2n false = ((rQuad []).fb.get (2 : Axis)).st ∧
    ((rQuad [(Fl.FB_STAT_LEAK 2, 8)]).qOk 2 = true ∧
      (rQuad [(Fl.FB_STAT_LEAK 2, 8)]).g (Fl.QD_CFG_ERR_LIM 2) ≤ (rQuad [(Fl.FB_STAT_LEAK 2, 8)]).g (Fl.FB_STAT_LEAK 2)) ∧
    ((rQuad [(Fl.QD_CFG_IDX_MODE 2, 1), (Fl.QD_CFG_GATE 2, 0)]).qOk 2 = true ∧ (rQuad [(Fl.QD_CFG_IDX_MODE 2, 1), (Fl.QD_CFG_GATE 2, 0)]).g (Fl.QD_CFG_IDX_MODE 2) ≠ 0) ∧
    ((rQuad [(Fl.SPD_TMO_TMO 2, 5)]).passed (1000 * 25 / 4) ((rQuad [(Fl.SPD_TMO_TMO 2, 5)]).g (Fl.SPD_TMO_TMO 2) * 1000) = true) ∧
    ((rQuad [(Fl.QD_CFG_IDX_MODE 2, 1), (Fl.QD_CFG_GATE 2, 0)]).g (Fl.QD_CFG_IDX_MODE 2) = 1 ∧
      ((rQuad [(Fl.QD_CFG_IDX_MODE 2, 1), (Fl.QD_CFG_GATE 2, 0)]).fb.get (2 : Axis)).st = (rQuad [(Fl.QD_CFG_IDX_MODE 2, 1), (Fl.QD_CFG_GATE 2, 0)]).g (Fl.QD_CFG_GATE 2)) := by
  and_intros <;> decide +kernel

/-- A transfer of axis 2 in progress, 24 bits with CRC; a frame answered at the last lead-in step with the longest delay. -/
def rSer (bad trk : Nat) : Rod :=
  let ρ := up .x [(Fl.SER_CFG_EN 2, 1), (Fl.SER_CFG_CRC_EN 2, 1), (Fl.SER_CFG_EW_EN 2, 0), (Fl.SER_CFG_DLEN 2, 24), (Fl.SER_TIM_START_TMO 2, 40), (Fl.TRK_CFG_SER_LIM 2, 3),
    (Fl.TRK_CFG_TRK_N 2, 5), (Fl.QD_CFG_QEN 2, 1)]
  { ρ with fb := ρ.fb.set (2 : Axis) { Fb.init with busy := true, latTick := 100, bad := bad, trk := trk } }
def serFrame : SerialFrame :=
  { pos := 0x123456#40, nErr := true, nWarn := true, crc := BitVec.ofNat 6 (crc6 0 (msbBits 24 0x123456) ^^^ 0x3F), stop := true, step := 40, delay := 320, ack := true, idle := true }

theorem witness_SerialTransfersEndAndFault :
    (((rSer 0 0).fb.get (2 : Axis)).busy = true ∧ serFrame.ack = true ∧ serFrame.delay ≤ 320 ∧ 2 ≤ serFrame.step ∧
      serFrame.step ≤ (rSer 0 0).g (Fl.SER_TIM_START_TMO 2) ∧ (rSer 0 0).b (Fl.SER_CFG_EW_EN 2) = false ∧ (rSer 0 0).b (Fl.SER_CFG_CRC_EN 2) = true ∧
      serFrame.crc.toNat = crc6 0 (msbBits ((rSer 0 0).dlen 2) serFrame.pos.toNat) ^^^ 0x3F ∧ serFrame.stop = true ∧ serFrame.idle = true) ∧
    ({ serFrame with ack := false }).ack = false ∧ ((up .x []).fb.get (2 : Axis)).busy = false ∧
    ((rSer 0 0).g (Fl.SER_TIM_START_TMO 2) ≤ 40 ∧ 39 < (rSer 0 0).g (Fl.SER_TIM_START_TMO 2)) ∧
    ((rSer 3 0).sOk 2 = true ∧ (rSer 3 0).g (Fl.TRK_CFG_SER_LIM 2) ≤ ((rSer 3 0).fb.get (2 : Axis)).bad) ∧
    ((rSer 0 5).qOk 2 = true ∧ (rSer 0 5).g (Fl.TRK_CFG_TRK_N 2) ≤ ((rSer 0 5).fb.get (2 : Axis)).trk) ∧
    (rSer 0 0).accepts .linkX (Rg.FB_CMD 2) := by
  and_intros <;> decide +kernel

/-- A base of 1 ms at cycle 63; OUT_LIM at its reset value; the receive window of the capture at 1 ms open; a time-base frame in slot 2. -/
def rBase : Rod :=
  let ρ := up .x [(Fl.FR_STAT_POC, Poc.active), (Fl.FR_MODE_CH_USE, 3), (Fl.TB_CFG_TB_SLOT, 2)]
  { ρ with tb := { ρ.tb with base := some (1000000, 63), open_ := true, capFt := 1000000 } }
def rNoBase : Rod := { rBase with tb := { rBase.tb with base := none } }
def tbSlot (base counter : Nat) : FrSlot :=
  { slot := 2, cycle := 64, ft := 0
    a := some { err := 0, null := false, sync := false, startup := false, preamble := false, offset := 0, idle := true
                payload := leBytes 8 base ++ leBytes 1 counter }
    b := none }

theorem witness_CapturesTakeClusterTimes :
    (rBase.frRuns = true ∧ rBase.poc ≠ Poc.startup ∧ rBase.b Fl.TB_CFG_TB_CH = false ∧ rBase.chanOn .a = true ∧
      ∀ k ∈ (tbSlot 1000000 0).a.toList, k.err = 0 ∧ rBase.frWindow 2 k = true ∧ 2 = rBase.g Fl.TB_CFG_TB_SLOT ∧ k.null = false ∧ leAt k.payload 8 1 = 64 % 64) ∧
    (∀ k ∈ (tbSlot 1000000 5).a.toList, leAt k.payload 8 1 ≠ 64 % 64) ∧ (rNoBase.frRuns = true ∧ rNoBase.tb.base = none ∧ rNoBase.tb.cand = none) ∧
    (rBase.tb.base = some (1000000, 63) ∧ rBase.tb.cand = none ∧
      (((1000000 : Int) + rBase.cycleNs + rBase.g Fl.DISC_CFG_OUT_LIM) - (1000000 + (64 - 63) * rBase.cycleNs)).natAbs ≤ rBase.g Fl.DISC_CFG_OUT_LIM ∧
      rBase.g Fl.DISC_CFG_OUT_LIM < (((1000000 : Int) + rBase.cycleNs + rBase.g Fl.DISC_CFG_OUT_LIM + 1) - (1000000 + (64 - 63) * rBase.cycleNs)).natAbs) ∧
    (RS.sync ≤ (up .x []).state ∧ (up .x []).clkOn 3 = true ∧ ((up .x []).atFt (1000000#64).toNat).atCapture = true) ∧
    ((seen rBase).tb.open_ = true ∧ RodId.y ≠ (seen rBase).me ∧ ((seen rBase).atFt (1020000#64).toNat).ft ≤ (seen rBase).tb.capFt + 20000) ∧ rBase.accepts .linkX Rg.SNAP_CTRL := by
  and_intros <;> decide +kernel

/-- Three cluster errors around the median of 1 us; a rod in SYNC without FT; a rod whose clusters disagree, in FENCED. -/
def rRef (l : List (Fld × Nat)) (errs : Tri (Option Int)) : Rod := let ρ := up .x l; { ρ with tb := { ρ.tb with open_ := true, errs := errs } }
def three : Tri (Option Int) := ⟨some 1000000, some 0, some 40000000⟩

theorem witness_WindowCloseDisciplinesTime :
    (seen (up .x [])).tb.open_ = false ∧ (seen (rRef [] three)).tb.open_ = true ∧
    ((refOf ((seen (rRef [(Fl.ROD_STATE_ROD_X, 2), (Fl.FT_STAT_VALID, 0)] three)).g Fl.DISC_CFG_OUT_LIM)
        (seen (rRef [(Fl.ROD_STATE_ROD_X, 2), (Fl.FT_STAT_VALID, 0)] three)).sources).1 = some 1000000 ∧
      (seen (rRef [(Fl.ROD_STATE_ROD_X, 2), (Fl.FT_STAT_VALID, 0)] three)).b Fl.FT_STAT_VALID = false ∧
      (seen (rRef [(Fl.ROD_STATE_ROD_X, 2), (Fl.FT_STAT_VALID, 0)] three)).state = RS.sync) ∧
    ((refOf ((seen (rRef [(Fl.ROD_STATE_ROD_X, 5)] three)).g Fl.DISC_CFG_OUT_LIM) (seen (rRef [(Fl.ROD_STATE_ROD_X, 5)] three)).sources).1 = some 1000000 ∧
      (seen (rRef [(Fl.ROD_STATE_ROD_X, 5)] three)).b Fl.FT_STAT_VALID = true ∧ RS.serving (seen (rRef [(Fl.ROD_STATE_ROD_X, 5)] three)).state = false) ∧
    (refOf ((seen (rRef [(Fl.ROD_STATE_ROD_X, 5)] (Tri.rep none))).g Fl.DISC_CFG_OUT_LIM) (seen (rRef [(Fl.ROD_STATE_ROD_X, 5)] (Tri.rep none))).sources).1 = none := by
  and_intros <;> decide +kernel

/-- Counts of the counting frame at their limits. -/
def rLock (l : List (Fld × Nat)) (f : TimeB → TimeB) : Rod := let ρ := up .x l; { ρ with tb := f ρ.tb }

theorem witness_LockAndSourcesFollowTheirCounts :
    (16 ≤ (rLock [(Fl.FT_STAT_LOCKED, 0)] ({ · with good := 16 })).tb.good ∧ (rLock [(Fl.FT_STAT_LOCKED, 0)] ({ · with good := 16 })).b Fl.FT_STAT_LOCKED = false) ∧
    (seen (rLock [(Fl.FT_STAT_LOCKED, 0), (Fl.ROD_STATE_ROD_X, 2)] ({ · with good := 16 }))).state = RS.sync ∧
    ((seen (rLock [(Fl.FT_STAT_LOCKED, 0), (Fl.ROD_STATE_ROD_X, 2)] ({ · with good := 16 }))).linksKnown = true ∧
      (seen (rLock [(Fl.FT_STAT_LOCKED, 0), (Fl.ROD_STATE_ROD_X, 2), (Fl.CR_STAT_LINK_1, 0)] ({ · with good := 16 }))).linksKnown = false) ∧
    (16 ≤ (rLock [] ({ · with bad := 16 })).tb.bad ∧ (rLock [] ({ · with bad := 16 })).b Fl.FT_STAT_LOCKED = true) ∧
    (8 ≤ (rLock [] ({ · with outN := ⟨0, 0, 8⟩ })).tb.outN.get RodId.z.idx ∧ (rLock [] ({ · with outN := ⟨0, 0, 8⟩ })).tb.excl.get RodId.z.idx = false) ∧
    (8 ≤ (rLock [] ({ · with backN := ⟨0, 0, 8⟩, excl := ⟨false, false, true⟩ })).tb.backN.get RodId.z.idx ∧
      (rLock [] ({ · with backN := ⟨0, 0, 8⟩, excl := ⟨false, false, true⟩ })).tb.excl.get RodId.z.idx = true) ∧
    ((rLock [(Fl.FT_STAT_HOLD, 1), (Fl.HOLD_CFG_HOLD_LIM, 1)] ({ · with holdFt := 0 })).b Fl.FT_STAT_HOLD = true ∧
      (rLock [(Fl.FT_STAT_HOLD, 1), (Fl.HOLD_CFG_HOLD_LIM, 0)] ({ · with holdFt := 999999 })).tb.expired = false ∧
      (rLock [(Fl.FT_STAT_HOLD, 1), (Fl.HOLD_CFG_HOLD_LIM, 0)] ({ · with holdFt := 999999 })).tb.holdFt +
        (rLock [(Fl.FT_STAT_HOLD, 1), (Fl.HOLD_CFG_HOLD_LIM, 0)] id).g Fl.HOLD_CFG_HOLD_LIM * 1000000 < (rLock [] id).ft) ∧
    ((rLock [] ({ · with expired := true, xmod := 16 })).b Fl.FT_STAT_HOLD = false ∧ (rLock [] ({ · with expired := true, xmod := 16 })).tb.expired = true ∧
      16 ≤ (rLock [] ({ · with expired := true, xmod := 16 })).tb.xmod) ∧
    ((rod .x [(Fl.ROD_STATE_ROD_X, 2)]).state = RS.sync ∧ (rod .x [(Fl.ROD_STATE_ROD_X, 2)]).b Fl.FT_STAT_VALID = false) := by
  and_intros <;> decide +kernel

/-! ### Gate drive and motor supply -/

/-- Half-bridge W of axis 2 as given, in a running rod. -/
def rHb (l : List (Fld × Nat)) (h : Hb) : Rod :=
  let ρ := up .x l
  { ρ with hb := ρ.hb.set (2 : Axis) ((ρ.hb.get (2 : Axis)).set (2 : Phase) h) }

/-- The records of a cause 1,023 and 1,024 ticks after the last; VGD one below its threshold, and at it. -/
theorem witness_DriveFaultsLatch :
    ((up .x []).recordDue none = true ∧ (rod .x [(Fl.RK_TICK_TICK, 1024)]).recordDue (some 0) = true ∧ (rod .x [(Fl.RK_TICK_TICK, 1023)]).recordDue (some 0) = false) ∧
    ((27852#16).toNat < 27853 ∧ (up .x []).die.vgdUv = false) ∧ 27853 ≤ (27853#16).toNat := by
  and_intros <;> decide +kernel

def rE : Rod := rHb [] { Hb.init with eAct := ⟨true, true, false⟩, eCond := ⟨false, true, false⟩ }
def rEv : Rod := rHb [] { Hb.init with eAct := ⟨false, true, false⟩, eCond := ⟨false, true, false⟩ }
/-- A clearing pulse on a latched half-bridge; the same in a rod that does not drive its gates. -/
def rClr : Rod := rHb [(Fl.POLICY_DRV_OFF 2, 0)] { Hb.init with clr := true, tCause := 1, tCond := true }
def rClrOff : Rod := rHb [(Fl.POLICY_DRV_OFF 2, 0), (Fl.ROD_STATE_ROD_X, 3)] { Hb.init with clr := true, tCause := 1 }

theorem witness_DriveFaultsEndAndClear :
    ((rE.half 2 2).eAct.get 0 = true ∨ (rE.half 2 2).eAct.get 2 = true) ∧
    ((rEv.half 2 2).eAct.get 0 = false ∧ (rEv.half 2 2).eAct.get 2 = false ∧ (rEv.half 2 2).eCond.get 1 = true) ∧
    ((up .x []).accepts .linkX (Rg.DRV_CMD 2) ∧ wBits 0x00005A07#32 8 8 = 0x5A ∧ wBits 0x00005B07#32 8 8 ≠ 0x5A) ∧
    ((rClr.half 2 2).clr = true ∧ (∀ p : Phase, (⟨0, 0, 4⟩ : Tri Nat).get p ≤ 4) ∧ rClr.b (Fl.POLICY_DRV_OFF 2) = false ∧ rClrOff.enableBut 2 = false) := by
  and_intros <;> decide +kernel

/-- Contactor commanded on; in REJOIN; the chopper enabled, on and failed; access open in STANDBY. -/
def rKhs : Rod := let ρ := up .x []; { ρ with md := { ρ.md with khs := true } }
def rRejoin : Rod := let ρ := up .x [(Fl.ROD_STATE_ROD_X, 6)]; { ρ with die := { ρ.die with fence := true } }
def rChop (on : Nat) : Rod := up .x [(Fl.CHP_CFG_EN, 1), (Fl.CHP_CFG_MIN_ON, 31), (Fl.SUP_OV_OV1_ON, 900), (Fl.SUP_OV_OV2, 1000), (Fl.SUP_UV_UV, 300), (Fl.SUP_TEMP_WARN, 100),
  (Fl.SUP_STAT_CHOP_ON, on), (Fl.CHP_TIME_T, 0xFFFFFFFF)]
def rDiag : Rod := up .x [(Fl.SEC_STAT_LEVEL, 1), (Fl.SYS_MODE_MODE, 1)]

theorem witness_SupplyAndFenceAct :
    (rKhs.md.khs = true ∧ rKhs.die.fence = false) ∧ (up .x []).md.khs = false ∧
    (rRejoin.accepts .linkX Rg.SUP_CMD ∧ wBit 0x00005A01#32 0 = true ∧ wBits 0x00005A01#32 8 8 = 0x5A ∧ rRejoin.state = RS.rejoin ∧ 40 ≤ 40) ∧
    (39 < 40 ∧ (up .x []).accepts .linkX Rg.SUP_CMD ∧ (up .x []).state ≠ RS.rejoin ∧ wBits 0x00000001#32 8 8 ≠ 0x5A) ∧
    ((rChop 0).b Fl.CHP_CFG_EN = true ∧ supCode ((rChop 0).g Fl.SUP_OV_OV1_ON) < (57601#16).toNat ∧ (rChop 0).b Fl.SUP_STAT_OV1 = false ∧
      (rChop 0).die.chopFail = false) ∧
    ((rChop 1).b Fl.SUP_STAT_CHOP_ON = true ∧ (rChop 1).g Fl.CHP_CFG_MIN_ON ≤ 31 ∧ 30 < (rChop 1).g Fl.CHP_CFG_MIN_ON) ∧
    ((rChop 1).die.vgdUv = false ∧ (rChop 1).die.chopFail = false ∧ (rChop 1).b Fl.CHP_CFG_EN = true ∧ (rChop 1).b Fl.SUP_STAT_CHOP_ON = decide (1 = 1) ∧ (rChop 0).b Fl.SUP_STAT_CHOP_ON = decide (2 = 1)) ∧
    supCode ((rChop 0).g Fl.SUP_OV_OV2) < (64001#16).toNat ∧
    ((19199#16).toNat < supCode ((rChop 0).g Fl.SUP_UV_UV) ∧ (rChop 0).b Fl.SUP_STAT_VM_UV = false) ∧
    (tempCode ((rChop 0).g Fl.SUP_TEMP_WARN) ≤ (41984#16).toNat ∧ (rChop 0).b Fl.SUP_STAT_TEMP_WARN = false) ∧
    (rDiag.accepts .linkX (Rg.DRV_DIAG 2) ∧ rDiag.accessOpen = true ∧ rDiag.mode = SM.standby ∧ wBit 0x80000021#32 31 = true ∧
      ∀ p : Phase, wBit 0x80000021#32 p.val = false ∨ wBit 0x80000021#32 (4 + p.val) = false) ∧
    (wBit 0x80000044#32 31 = true ∧ wBit 0x80000044#32 2 = true ∧ wBit 0x80000044#32 (4 + 2) = true) ∧
    rDiag.passed (rDiag.half 2 0).hiAt (1000 * rDiag.g (Fl.DRV_DIAG_ON_T 2)) = true ∧
    ((up .x []).accepts .linkX (Rg.DRV_DIAG 2) ∧ (up .x []).accessOpen = false ∧ (up .x []).mode ≠ SM.standby) := by
  and_intros <;> decide +kernel

/-! ### Pumps and modes -/

/-- Axis 0, which X leads, as a pump axis in a phase. -/
def rPump (phase : Nat) (l : List (Fld × Nat)) (f : Pmp → Pmp) : Rod :=
  let ρ := up .x ([(Fl.AX_CFG_ROLE 0, 3), (Fl.PMP_STAT_PHASE 0, phase), (Fl.PMP_START_RETRY_N 0, 3)] ++ l)
  { ρ with pmp := ρ.pmp.set (0 : Axis) (f (ρ.pmp.get (0 : Axis))) }
def rests : Pmp → Pmp := ({ · with reps := Tri.rep (false, false, true) })
/-- Axis 1, which Y leads, as a pump axis in both rods. -/
def rFollow (phase : Nat) (l : List (Fld × Nat)) (f : Pmp → Pmp) : Rod :=
  let ρ := up .x ([(Fl.AX_CFG_ROLE 1, 3), (Fl.PMP_STAT_PHASE 1, phase)] ++ l)
  { ρ with pmp := ρ.pmp.set (1 : Axis) (f (ρ.pmp.get (1 : Axis))) }
def sFollow : State := { one (rFollow 7 [] id) with y := up .y [(Fl.AX_CFG_ROLE 1, 3), (Fl.PMP_STAT_PHASE 1, 7)] }

theorem witness_PumpPhasesAreDecidedByTheLead :
    (∀ e ∈ [(2, PP.catch_), (3, PP.brake), (4, PP.align), (5, PP.ramp), (6, PP.run), (7, PP.fault)],
      (rPump e.1 [] id).isPump 0 = true ∧ (rPump e.1 [] id).leads 0 = true ∧ ((rPump e.1 [] id).pmp.get (0 : Axis)).next = none ∧
      (rPump e.1 [] id).pumpPhase 0 = e.2) ∧
    ((rPump 2 [] id).inEvery 0 (·.1) = false ∧ { rPump 2 [] id with ftn := 1600000 }.passed ((rPump 2 [] id).pmp.get (0 : Axis)).at_ (1000000 * 20) = true ∧
      ((rPump 3 [] ({ · with restAt := some 0 })).pmp.get (0 : Axis)).restAt = some 0 ∧ { rPump 3 [] id with ftn := 400000 }.passed 0 (1000000 * 5) = true ∧
      { rPump 4 [(Fl.PMP_START_BRK_TMO 0, 5), (Fl.PMP_START_ALIGN_T 0, 5)] id with ftn := 400000 }.passed 0
        (1000000 * (rPump 4 [(Fl.PMP_START_BRK_TMO 0, 5), (Fl.PMP_START_ALIGN_T 0, 5)] id).g (Fl.PMP_START_BRK_TMO 0)) = true ∧
      ((rPump 5 [] ({ · with fullAt := some 0 })).pmp.get (0 : Axis)).fullAt = some 0 ∧ { rPump 5 [] id with ftn := 16000000 }.passed 0 (1000000 * 200) = true) ∧
    ((rPump 4 [(Fl.PMP_STAT_REQ 0, 1)] id).b (Fl.PMP_STAT_REQ 0) = true ∧ (rPump 4 [] id).b (Fl.PMP_STAT_REQ 0) = false) ∧
    ((rPump 7 [] id).accepts .linkX (Rg.PMP_CMD 0) ∧ (rPump 6 [] id).pumpPhase 0 ≠ PP.fault) ∧
    ((sFollow.rod .x).rk.lead.get (1 : Axis) = .y ∧ (sFollow.rod .y).rk.lead.get (1 : Axis) = .y ∧ (sFollow.rod .y).isPump 1 = true ∧
      ((sFollow.rod .y).pmp.get (1 : Axis)).next = none ∧ (sFollow.rod .y).pumpPhase 1 = PP.fault ∧ (sFollow.rod .x).pumpPhase 1 = PP.fault) ∧
    ((rPump 6 [(Fl.PMP_STAT_REQ 0, 1), (Fl.PMP_STAT_LOCK 0, 1)] ({ · with c1 := 16 })).lossHolds 0 1 = true ∧
      (rPump 6 [(Fl.PMP_STAT_REQ 0, 1), (Fl.PMP_STAT_LOCK 0, 1)] ({ · with c1 := 16 })).b (Fl.PMP_STAT_LOCK 0) = true ∧
      (rPump 6 [(Fl.PMP_STAT_RETRIES 0, 2)] id).g (Fl.PMP_STAT_RETRIES 0) < (rPump 6 [(Fl.PMP_STAT_RETRIES 0, 2)] id).g (Fl.PMP_START_RETRY_N 0)) ∧
    (rPump 5 [(Fl.PMP_STAT_RETRIES 0, 3)] id).g (Fl.PMP_START_RETRY_N 0) ≤ (rPump 5 [(Fl.PMP_STAT_RETRIES 0, 3)] id).g (Fl.PMP_STAT_RETRIES 0) := by
  and_intros <;> decide +kernel

theorem witness_PumpPhasesAreDecidedByTheLead_rods : ∀ q, (sFollow.rod q).me = q := by intro q; cases q <;> decide +kernel

theorem witness_ObserversLockAndLoseLock :
    ((rPump 2 [] ({ · with lockN := 64 })).isPump 0 = true ∧ (rPump 2 [] ({ · with lockN := 64 })).pumpPhase 0 ≠ PP.off ∧
      (rPump 2 [] ({ · with lockN := 64 })).b (Fl.PMP_STAT_LOCK 0) = false ∧ 64 ≤ ((rPump 2 [] ({ · with lockN := 64 })).pmp.get (0 : Axis)).lockN) ∧
    ((rPump 2 [] ({ · with lockN := 63 })).pmp.get (0 : Axis)).lockN < 64 ∧
    ((rFollow 6 [(Fl.PMP_STAT_LOCK 1, 1)] ({ · with c1 := 16 })).isPump 1 = true ∧ (rFollow 6 [(Fl.PMP_STAT_LOCK 1, 1)] ({ · with c1 := 16 })).leads 1 = false ∧
      (rFollow 6 [(Fl.PMP_STAT_LOCK 1, 1)] ({ · with c1 := 16 })).b (Fl.PMP_STAT_LOCK 1) = true ∧
      (rFollow 6 [(Fl.PMP_STAT_LOCK 1, 1)] ({ · with c1 := 16 })).lossHolds 1 1 = true) ∧
    (rFollow 6 [(Fl.PMP_STAT_LOCK 1, 1)] ({ · with c1 := 15 })).lossHolds 1 1 = false ∧
    (rPump 6 [] id).pumpPhase 0 = PP.run ∧ RodId.y ≠ (rPump 6 [] id).me ∧
    { rPump 6 [] id with ftn := 800000000 }.passed ((rPump 6 [] id).pmp.get (0 : Axis)).at_ 10000000000 = true := by
  and_intros <;> decide +kernel

/-- A rod in STANDBY that asks for ARMING alone is refused; in ARMING it asks for SAFE; a request that waits; a change agreed. -/
def rReq (l : List (Fld × Nat)) (f : ModeS → ModeS) : Rod := let ρ := up .x l; { ρ with md := f ρ.md }

theorem witness_ModesAreRequestedAndAgreed :
    ((up .x []).accepts .linkX Rg.MODE_REQ ∧ wBit 0x80005B05#32 31 = true ∧ wBits 0x80005B05#32 8 8 ≠ 0x5A ∧ wBit 0x00005A05#32 31 = false) ∧
    (wBit 0x80005A00#32 31 = true ∧ wBits 0x80005A00#32 8 8 = 0x5A ∧ (up .x []).refuseReason (wBits 0x80005A00#32 0 3) ≠ 0) ∧
    (up .x []).refuseReason (wBits 0x80005A05#32 0 3) = 0 ∧ (up .x []).refuseReason (wBits 0x80005A01#32 0 3) = 0 ∧
    ((rReq [(Fl.REQ_STAT_PENDING, 1), (Fl.REQ_STAT_TARGET, 1)] id).b Fl.REQ_STAT_PENDING = true ∧
      (rReq [(Fl.REQ_STAT_PENDING, 1), (Fl.REQ_STAT_TARGET, 1)] id).md.agreed = none ∧
      (rReq [(Fl.REQ_STAT_PENDING, 1), (Fl.REQ_STAT_TARGET, 1)] id).g Fl.REQ_STAT_TARGET ≠ SM.safe ∧
      { rReq [] ({ · with props := ⟨some (1, 0), none, none⟩ }) with ftn := 800000 }.passed 0 10000000 = true) ∧
    (RodId.y ≠ (seen (up .x [])).me ∧ (4 ≠ SM.safe ∨ (seen (up .x [])).md.safeReq = true)) ∧
    ((seen (rReq [] ({ · with agreed := some (4, 1, 7) }))).md.agreed = some (4, 1, 7) ∧ (seen (rReq [] ({ · with agreed := some (4, 1, 7) }))).ticksRun = true) ∧
    (∀ m ∈ [1, 4, 5], (seen (rReq [] ({ · with agreed := some (m, 0, 7) }))).md.agreed = some (m, 0, 7) ∧
      modeStep (seen (rReq [] ({ · with agreed := some (m, 0, 7) }))).mode m = true) ∧
    modeStep (seen (rReq [(Fl.SYS_MODE_MODE, 2)] ({ · with agreed := some (3, 0, 7) }))).mode 3 = true := by
  and_intros <;> decide +kernel

/-- ARMING in step 2, with the contactor commanded on; diagnostics of set 2 at a step; the pre-charge running. -/
def rArm (l : List (Fld × Nat)) (f : ModeS → ModeS) : Rod :=
  let ρ := up .x ([(Fl.SYS_MODE_MODE, 2), (Fl.ARM_STAT_RUN, 1), (Fl.ARM_STAT_STEP, 2), (Fl.ARM_CFG_AXES, 4), (Fl.ARM_STAT_WAIT_AXES, 4)] ++ l)
  { ρ with md := f ρ.md }
def rOsd (step : Nat) (failC : Bool) : Rod := rArm [] ({ · with osdSet := 2, osdStep := step, osdFailC := failC })

theorem witness_ArmingChecksAdvance :
    (rArm [] id).accepts .linkX Rg.ARM_RELEASE ∧
    ((seen (rArm [] ({ · with still := ⟨0, 0, 64⟩ }))).waits 2 = true ∧
      (seen (rArm [] ({ · with still := ⟨0, 0, 64⟩ }))).divisor 2 ≤ (seen (rArm [] ({ · with still := ⟨0, 0, 64⟩ }))).md.still.get (2 : Axis)) ∧
    ((seen (rArm [] id)).waits 1 = false ∧ (seen (rArm [] id)).md.still.get (2 : Axis) < (seen (rArm [] id)).divisor 2) ∧
    (seen (rArm [] id)).b Fl.K_STAT_AUX ≠ true ∧
    ((seen (rArm [] ({ · with khs := true }))).md.khs = true ∧ (seen (rArm [] ({ · with khs := true }))).contactorIn = false ∧
      (seen (rArm [(Fl.ARM_CFG_KAUX_TMO, 1)] ({ · with khs := true }))).passed 0
        (1000000 * (seen (rArm [(Fl.ARM_CFG_KAUX_TMO, 1)] ({ · with khs := true }))).g Fl.ARM_CFG_KAUX_TMO) = true ∧
      (seen (rArm [] ({ · with khs := true }))).arming = true ∧ (seen (rArm [] ({ · with khs := true }))).g Fl.ARM_STAT_STEP = 2) ∧
    (∀ k ∈ [0, 1, 2, 3, 4], (seen (rOsd k false)).md.osdSet = (2 : Axis).val ∧ (seen (rOsd k false)).state = RS.active ∧ (seen (rOsd k false)).md.osdStep = k) ∧
    ((seen (rOsd 4 true)).md.osdFailC = true ∧ (seen (rOsd 4 false)).md.osdFailC = false ∧ ∀ p : Phase, (seen (rOsd 4 true)).g (osdF 2 p) = 0) ∧
    (¬(1000 < 10 * (max 100 200 - min 100 200)) ∧ 1000 < 10 * (max 100 201 - min 100 201) ∧ 3 * 1000 ≤ 4 * 750 ∧ 4 * 250 ≤ 1000) ∧
    ((seen (rArm [] ({ · with pre := true }))).md.pre = true ∧ (seen (rArm [] ({ · with pre := true }))).arming = true ∧
      (seen (rArm [] ({ · with pre := true }))).axisArmed 2 = true ∧ (⟨7#3, 7#3, 0#3⟩ : Tri (BitVec 3)).get (2 : Axis) = 0#3 ∧
      (⟨0#3, 0#3, 1#3⟩ : Tri (BitVec 3)).get (2 : Axis) ≠ 0#3) := by
  and_intros <;> decide +kernel

/-! ### Safety functions, contactors, rejoin and tandem pairs -/

/-- A profile of 296 bytes with FILT 2 and VS_TMO 1, every reaction the role safe state. -/
def profBytes : List Byte := [0#8, 2#8, 10#8, 1#8] ++ List.replicate 92 0#8 ++ [0x15#8] ++ List.replicate 199 0x15#8
def rSf (l : List (Fld × Nat)) (f : SafS → SafS) : Rod :=
  let ρ := up .x ([(Fl.ARM_CFG_AXES, 7), (Fl.SF_PROF_BOUND, 1), (Fl.SF_STAT_EN 2, 7)] ++ l)
  { ρ with sf := f { ρ.sf with prof := profBytes } }
def three3 (k : Option Nat) : Tri (Tri (Tri (Option Nat))) := ⟨Tri.rep (Tri.rep none), Tri.rep (Tri.rep none), ⟨Tri.rep none, Tri.rep none, ⟨k, none, none⟩⟩⟩

theorem witness_SafetyFunctionsAreDecidedByTwo :
    ((rSf [] ({ · with viol := Tri.rep (Tri.rep 2) })).bitOf (Fl.SF_STAT_OWN 2) (3 - 1) = false ∧ (rSf [] ({ · with viol := Tri.rep (Tri.rep 2) })).sfOn 2 3 = true ∧
      profFilt (rSf [] ({ · with viol := Tri.rep (Tri.rep 2) })).sf.prof ≤ ((rSf [] ({ · with viol := Tri.rep (Tri.rep 2) })).sf.viol.get (2 : Axis)).get (sfIdx 3)) ∧
    (((rSf [] ({ · with viol := Tri.rep (Tri.rep 1) })).sf.viol.get (2 : Axis)).get (sfIdx 3) < profFilt profBytes ∧ (up .x []).sfOn 2 1 = false) ∧
    ((((rSf [] ({ · with rep := three3 (some 99) })).sf.rep.get (2 : Axis)).get (sfIdx 3)).get RodId.x.idx = some 99 ∧ 99 ≤ 100 + 1 ∧ 100 ≤ 99 + 1 ∧
      (rSf [] id).live .x = true ∧ (rSf [] id).live .y = true ∧ ((rSf [] id).sf.dec.get (2 : Axis)).get (sfIdx 3) = false) ∧
    (∀ q ∈ [RodId.x, .y, .z], (((rSf [] id).sf.rep.get (2 : Axis)).get (sfIdx 3)).get q.idx = none) ∧
    ((rSf [(Fl.ROD_STATE_ROD_Y, 5)] id).live .y = false ∧ (rSf [(Fl.SYS_MODE_MODE, 3)] id).live .z = true ∧ (rSf [(Fl.SYS_MODE_MODE, 3)] id).evaluates 2 = true) ∧
    ((((rSf [] ({ · with rep := three3 (some 98) })).sf.rep.get (2 : Axis)).get (sfIdx 3)).get RodId.x.idx = some 98 ∧
      2 ≤ ((rSf [] id).tick + 2 ^ 32 - 98) % 2 ^ 32) ∧
    ((rSf [] ({ · with dec := Tri.rep (Tri.rep true) })).sf.dec.get (2 : Axis)).get (sfIdx 3) = true ∧
    ((rSf [] ({ · with vsFt := 0 })).sf.prof ≠ [] ∧ (rSf [] id).b Fl.SF_PROF_VS_STALE = false ∧
      { rSf [] id with ftn := 800000 }.passed 0 (10000000 * profVsTmo profBytes) = true ∧ (rSf [] id).passed 0 (10000000 * profVsTmo profBytes) = false) := by
  and_intros <;> decide +kernel

/-- The straps read twice as 0xA5; a byte accepted; the contactor commanded on with the contact seen; the test due; a whole residual
window of 4 ticks. -/
def rSeal (f : SafS → SafS) : Rod := let ρ := up .x []; { ρ with sf := f { ρ.sf with strap := 0xA5#8, reads := 2 } }
def rCon : Rod := let ρ := rSeal ({ · with watch := true }); { ρ with md := { ρ.md with khs := true } }
def rRes (stale : Bool) (sum : Int) : Rod :=
  let ρ := up .x [(Fl.CR_RES_CFG_EN 2, 1), (Fl.CR_RES_CFG_RES_WIN 2, 4), (Fl.CR_RES_CFG_RES_TH 2, 1), (Fl.CR_RES_CFG_RES_N 2, 1)]
  { ρ with red := { ρ.red with rticks := ⟨0, 0, 4⟩, rstale := ⟨false, false, stale⟩, rsum := ⟨0, 0, sum⟩ } }

theorem witness_SealsContactorsAndResiduals :
    (0xA5#8 = (rSeal id).sf.strap ∧ 2 ≤ (rSeal id).sf.reads ∧ (rSeal id).sf.own ≠ some 0xA5#8) ∧
    (0xA4#8 ≠ (rSeal id).sf.strap ∧ (rSeal ({ · with reads := 1 })).sf.reads < 2 ∧ (rSeal ({ · with own := some 0xA5#8 })).sf.own = some 0xA5#8) ∧
    RodId.y ≠ (rSeal id).me ∧
    (rCon.md.khs = true ∧ rCon.die.fence = false ∧ rCon.sf.watch = true ∧ rCon.b Fl.K_STAT_AUX = false ∧ rCon.b Fl.K_STAT_STUCK_OPEN = false) ∧
    ((seen (up .x [(Fl.K_STAT_AUX, 1)])).md.khs = false ∧ (seen (up .x [(Fl.K_STAT_AUX, 1)])).b Fl.K_STAT_AUX = true ∧
      (seen (up .x [(Fl.K_STAT_AUX, 1)])).b Fl.K_STAT_WELDED = false ∧
      (seen (up .x [(Fl.K_STAT_AUX, 1)])).g Fl.K_CFG_KOPEN_TMO ≤ (seen (up .x [(Fl.K_STAT_AUX, 1)])).g Fl.K_CFG_KOPEN_TMO) ∧
    ((up .x [(Fl.K_CFG_KTEST_H, 5), (Fl.K_CNT_HOURS, 5)]).g Fl.K_CFG_KTEST_H ≤ (up .x [(Fl.K_CFG_KTEST_H, 5), (Fl.K_CNT_HOURS, 5)]).g Fl.K_CNT_HOURS ∧
      (up .x []).b Fl.K_STAT_TEST_DUE = false) ∧
    (∀ ρ ∈ [rRes true 0, rRes false (4 * 2 ^ 71), rRes false (4 * 2 ^ 71 + 1)], ρ.b (Fl.CR_RES_CFG_EN 2) = true ∧ ρ.g (Fl.CR_RES_CFG_RES_WIN 2) ≠ 0 ∧
      ρ.red.rticks.get (2 : Axis) = ρ.g (Fl.CR_RES_CFG_RES_WIN 2)) ∧
    ((rRes true 0).red.rstale.get (2 : Axis) = true ∧ (rRes false 0).red.rstale.get (2 : Axis) = false) := by
  and_intros <;> decide +kernel

/-- Rod X FENCED with the consent of both partners for it; the same asked of Y, whose partner X is in REJOIN. -/
def rFenced : Rod := let ρ := up .x [(Fl.ROD_STATE_ROD_X, 5)]; { ρ with red := { ρ.red with epochs := ⟨none, some 7, some 7⟩ } }
def consent (ρ : Rod) (t : Nat) : Rod := { ρ with red := { ρ.red with consent := ⟨some t, none, none⟩ } }
def sJoin (t : Nat) : State := { one rFenced with y := consent (up .y []) 0, z := consent (up .z []) t }
def rRej (l : List (Fld × Nat)) : Rod := up .x ([(Fl.ROD_STATE_ROD_X, 6), (Fl.RJ_STAT_STEP, 4), (Fl.RJ_STAT_RUN, 1)] ++ l)
def sRej (l : List (Fld × Nat)) : State :=
  { x := { rRej l with red := { (rRej l).red with rjData := ⟨false, false, true⟩ } }, y := up .y [(Fl.ROD_STATE_ROD_X, 6)], z := up .z [(Fl.ROD_STATE_ROD_X, 6)], pending := [] }
/-- A rod fenced in ARMING, its partners in a mode. -/
def sArmF (m : Nat) : State :=
  { one { rFenced with md := { rFenced.md with armFenced := true } } with y := up .y [(Fl.SYS_MODE_MODE, m)], z := up .z [(Fl.SYS_MODE_MODE, m)] }
def joinOf (ρ : Rod) (e : BitVec 16) : JoinReq :=
  { epoch := e, crcs := joinPages.map fun p => ρ.gw (Rg.PG_CRC p), versions := ρ.versions, updated := 0 }
def rjData : RejoinData := ⟨[], [], Tri.rep (List.replicate 128 5#32), Tri.rep (List.replicate 16 6#32), ⟨1, 2, 3⟩⟩

theorem witness_RejoinStepsAdvance :
    ((up .x []).accepts .linkX Rg.RJ_CMD ∧ wBits 0x00025A01#32 8 8 = 0x5A ∧ wBit 0x00025A01#32 0 = true ∧ wBits 0x00025A01#32 16 2 < 3 ∧
      wBits 0x00025B01#32 8 8 ≠ 0x5A) ∧
    (let ρ := ((sJoin 10000000).rod .x).view (sJoin 10000000).rod;
      ρ.state = RS.fenced ∧ ((ρ.me.partners.filter ρ.live).any fun p => ((sJoin 10000000).rod p).mode == SM.arming) = false ∧ ρ.latestEpoch = some 7 ∧
      ρ.consented (sJoin 10000000).rod = true ∧ ρ.b Fl.FT_STAT_LOCKED = true) ∧
    (((sJoin 10000001).rod .x).view (sJoin 10000001).rod).consented (sJoin 10000001).rod = false ∧
    (RodId.y ≠ .x ∧ RS.serving ((sRej []).rod .y).state = true ∧ ((sRej []).rod .x).state = RS.rejoin ∧
      ((sRej []).rod .y).joinOk (joinOf ((sRej []).rod .y) 7#16) = true ∧ ((sRej []).rod .y).joinOk (joinOf ((sRej []).rod .y) 6#16) = false) ∧
    (∀ l ∈ [[], [(Fl.SYS_MODE_MODE, 1)]], let ρ := ((sRej l).rod .x).view (sRej l).rod;
      ρ.state = RS.rejoin ∧ RodId.y ≠ ρ.me ∧ ρ.g Fl.RJ_STAT_STEP < 5 ∧ (∀ n : Axis, (rjData.state.get n).length = 128 ∧ (rjData.torque.get n).length = 16) ∧
      ∀ p ∈ ρ.me.partners, ρ.live p = true → p = .y ∨ ρ.red.rjData.get p.idx = true) ∧
    (let ρ := ((sArmF 3).rod .x).view (sArmF 3).rod; ρ.state = RS.fenced ∧ ρ.md.armFenced = true ∧
      ((ρ.me.partners.filter ρ.live).any fun p => ((sArmF 3).rod p).mode == SM.operate || ((sArmF 3).rod p).mode == SM.limp) = true) ∧
    (let ρ := ((sArmF 2).rod .x).view (sArmF 2).rod; ρ.state = RS.fenced ∧ ρ.md.armFenced = true ∧
      ∀ p ∈ ρ.me.partners, ((sArmF 2).rod p).mode ≠ SM.operate ∧ ((sArmF 2).rod p).mode ≠ SM.limp) ∧
    ((rRej []).state = RS.rejoin ∧ (rRej []).passed (rRej []).red.rjFt 150000000 = false) ∧
    ({ rRej [] with ftn := 12000000 }.state = RS.rejoin ∧ { rRej [] with ftn := 12000000 }.passed (rRej []).red.rjFt 150000000 = true) := by
  and_intros <;> decide +kernel

/-- A tandem pair with its lane up, on standby for axis 2; a decision of which one axis is left; frames of the pair. -/
def rTd (l : List (Fld × Nat)) (f : RedS → RedS) : Rod :=
  let ρ := up .x ([(Fl.TD_CFG_EN, 1), (Fl.TD_CFG_GROUP, 6), (Fl.TD_CFG_PAIR_ID, 0xAB), (Fl.TD_STAT_LANES, 1), (Fl.TD_STAT_EPOCH, 0xFFFF)] ++ l)
  { ρ with red := f ρ.red }
def tdCopy (e : BitVec 16) : TandemCopy := ⟨2, e, List.replicate 128 1#32, List.replicate 13 2#32⟩
def wit (e : BitVec 16) (active : Nat) : WitFrame := ⟨0, 0xAB, active, e, true⟩

theorem witness_TandemPairsDecideByWitness :
    ((rTd [] id).bitOf Fl.TD_STAT_LANES RodId.x.code = true ∧ (rTd [] id).tandemStandby 2 = true ∧ (tdCopy 0xFFFF#16).epoch.toNat = (rTd [] id).g Fl.TD_STAT_EPOCH ∧
      (tdCopy 0xFFFF#16).state.length = 128 ∧ (tdCopy 0xFFFF#16).torque.length = 13 ∧ (rTd [] id).red.tdState.get (2 : Axis) = none) ∧
    ((tdCopy 0#16).epoch.toNat ≠ (rTd [] id).g Fl.TD_STAT_EPOCH ∧ (rTd [] id).bitOf Fl.TD_STAT_LANES RodId.y.code = false ∧ (rTd [] id).tandemStandby 0 = false) ∧
    ((rTd [] ({ · with wit := ⟨none, some (wit 0#16 1), none⟩ })).b Fl.TD_CFG_EN = true ∧ (rTd [] ({ · with wit := ⟨none, some (wit 0#16 1), none⟩ })).red.tdDec = none ∧
      (rTd [] ({ · with wit := ⟨none, some (wit 0#16 1), none⟩ })).red.wit.get RodId.y.idx = some (wit 0#16 1) ∧
      (wit 0#16 1).pair = (rTd [] id).g Fl.TD_CFG_PAIR_ID ∧ (wit 0#16 1).epoch.toNat = ((rTd [] id).g Fl.TD_STAT_EPOCH + 1) % 65536 ∧
      (wit 0#16 1).zero = true ∧ (wit 0#16 1).active ≤ 1) ∧
    ((wit 1#16 1).epoch.toNat ≠ ((rTd [] id).g Fl.TD_STAT_EPOCH + 1) % 65536 ∧ 1 < (wit 0#16 2).active ∧ (up .x []).b Fl.TD_CFG_EN = false) ∧
    (∀ d ∈ [Tri.rep false, ⟨true, true, false⟩], (rTd [] ({ · with tdDec := some (1, 0, 0), tdDone := d })).red.tdDec = some (1, 0, 0) ∧
      (rTd [] id).bitOf Fl.TD_CFG_GROUP 2 = true ∧ (rTd [] ({ · with tdDec := some (1, 0, 0), tdDone := d })).red.tdDone.get (2 : Axis) = false ∧
      (rTd [] id).outerTick 2 = true ∧ (rTd [] id).poc ≠ Poc.active) ∧
    ((rTd [(Fl.FR_STAT_POC, 5)] id).poc = Poc.active ∧ (rTd [(Fl.FR_STAT_POC, 5)] id).fr.cyc ≤ 0) ∧
    ((rTd [(Fl.TD_STAT_ACTIVE, 1)] id).tandemStandby 2 = false ∧ laterEpoch (tdCopy 0#16).epoch.toNat ((rTd [(Fl.TD_STAT_ACTIVE, 1)] id).g Fl.TD_STAT_EPOCH) = true ∧
      laterEpoch (tdCopy 0xFFFF#16).epoch.toNat ((rTd [(Fl.TD_STAT_ACTIVE, 1)] id).g Fl.TD_STAT_EPOCH) = false) ∧
    ((rTd [(Fl.TD_AGE_AGE, 3)] id).tandemStandby 2 = true ∧ 3 ≤ (rTd [(Fl.TD_AGE_AGE, 3)] id).g Fl.TD_AGE_AGE ∧ (rTd [(Fl.TD_AGE_AGE, 2)] id).g Fl.TD_AGE_AGE < 3) ∧
    (rTd [] id).bitOf Fl.TD_STAT_LANES RodId.z.code ≠ true := by
  and_intros <;> decide +kernel

/-! ### FlexRay, boot and lockstep -/

/-- A rod whose FlexRay controller is in a state, both channels in use. -/
def rFr (poc : Nat) (l : List (Fld × Nat)) (f : FrS → FrS) : Rod :=
  let ρ := up .x ([(Fl.FR_STAT_POC, poc), (Fl.FR_MODE_CH_USE, 3), (Fl.FR_MODE_COLDSTART, 1)] ++ l)
  { ρ with fr := f ρ.fr }
def standby : Fld × Nat := (Fl.SYS_MODE_MODE, 1)

theorem witness_FlexRayCommandsAct :
    ((rFr 5 [] id).accepts .linkX Rg.FR_CMD ∧ (rFr 5 [] id).poc = Poc.active ∧ (rFr 6 [] id).poc ≠ Poc.active) ∧
    ((rFr 2 [standby] id).mode = SM.standby ∧ (rFr 2 [standby] id).poc = Poc.ready ∧ (rFr 2 [standby] id).frDrives = true ∧
      (rFr 2 [] id).mode ≠ SM.standby ∧ (rFr 4 [standby] id).poc ≠ Poc.ready ∧ (rFr 4 [standby] id).fr.waking = false) ∧
    ((rFr 5 [standby] id).poc ≠ 0 ∧ (rFr 5 [standby] id).poc ≠ Poc.halt) ∧ (rFr 0 [standby] id).poc = 0 ∧
    ((rFr 7 [standby] id).poc = Poc.halt ∧ (rFr 7 [standby] id).clkOn 2 = true ∧ RS.sync ≤ (rFr 7 [standby] id).state ∧ (rFr 6 [] id).fr.clash = false) ∧
    (∀ b ∈ [0, 127], (rFr 5 [] id).accepts .linkX (Rg.MB_CTRL b)) ∧
    (∀ c, (rFr 5 [] id).chanOn c = true ∧ (rFr 5 [(Fl.FR_MODE_CH_USE, 0)] id).chanOn c = false) ∧
    ((rFr 3 [standby] ({ · with waking := true, wakeEnd := 1 })).wakeDone.fr.waking = true ∧
      (rFr 3 [standby] ({ · with waking := true, wakeEnd := 0 })).wakeDone.fr.waking = false) ∧
    ((rFr 4 [(Fl.FR_COLD_ATT_LEFT, 1)] id).poc = Poc.startup ∧ (rFr 4 [] id).b Fl.FR_MODE_COLDSTART = true ∧
      (rFr 4 [(Fl.FR_COLD_ATT_LEFT, 1)] id).g Fl.FR_COLD_ATT_LEFT ≠ 0) ∧
    ((rFr 4 [] ({ · with tries := 1 })).g Fl.FR_COLD_ATT_LEFT = 0 ∧ (rFr 4 [] ({ · with tries := 1 })).fr.tries ≠ 0) := by
  and_intros <;> first | decide +kernel | (intro c; cases c <;> decide +kernel)

/-- Buffer 127 receives slot 9 of both channels in every cycle; buffer 10 sends 4 bytes in slot 9 of channel A. -/
def mbRx : Word := 0xB0000009#32
def mbTxW : Word := 0xD0001009#32
def frm (off : Int) (idle : Bool) : FrFrame :=
  { err := 0, null := false, sync := false, startup := false, preamble := false, offset := off, idle := idle, payload := [1#8, 2#8, 3#8, 4#8] }
/-- Slot 9 of cycle 3 with a frame on each channel. -/
def slot9 (a b : Option FrFrame) : FrSlot := { slot := 9, cycle := 3, ft := 77#64, a := a, b := b }
def rRx (poc : Nat) (l : List (Fld × Nat)) : Rod := rFr poc l ({ · with cfg := [(127, mbRx)] })
def rTx0 (cycle : Nat) : Rod :=
  (rFr 4 [(Fl.FR_COLD_ATT_LEFT, 2), (Fl.FR_MODE_SYNC, 1), (Fl.MB_CTRL_READY 0, 1)] ({ · with trying := true, tries := 1, cyc := cycle })).pw (Rg.MB_CFG 0) 0xF0001009#32
def rTx : Rod := ((rFr 5 [(Fl.MB_CTRL_READY 10, 1)] ({ · with seenA := true })).pw (Rg.MB_CFG 10) mbTxW)
def limits : List (Fld × Nat) := [(Fl.FR_CSYNC_0_RATE_OUT, 600), (Fl.FR_CSYNC_0_OFFS_OUT, 300), (Fl.FR_CSYNC_1_PASSIVE, 3), (Fl.FR_LOSS_LOSS_CYC, 4)]

theorem witness_FlexRayFramesAndClockAct :
    (((slot9 (some { frm 0 true with err := 2 }) none).a = some { frm 0 true with err := 2 } ∧ ({ frm 0 true with err := 2 }).err ≠ 0 ∧ (frm 0 true).err = 0) ∧
      ((slot9 (some (frm 0 true)) (some { frm 0 true with payload := [] })).b = some { frm 0 true with payload := [] } ∧
        (rRx 5 []).frWindow 9 { frm 0 true with payload := [] } = true ∧ (rRx 5 []).chanOn .b = true ∧ (rRx 5 []).poc ≠ Poc.startup)) ∧
    ((rRx 5 []).clkOn 2 = true ∧ Poc.startup ≤ (rRx 5 []).poc ∧ (rRx 5 []).poc ≤ Poc.passive ∧ (rRx 5 []).chanOn .a = true) ∧
    ((rRx 5 []).frWindow 9 (frm 0 false) = false ∧ (rRx 5 []).fr.sbvA = none) ∧
    ((rRx 5 []).frWindow 9 (frm 0 true) = true ∧ (rRx 5 []).ct.ledger = [] ∧ (frm 0 true).payload.length ≤ 254 ∧ (rRx 5 []).fr.cfg = [(127, mbRx)] ∧
      mbEn mbRx = true ∧ mbTx mbRx = false ∧ mbUses mbRx .a = true ∧ mbSlot mbRx = 9 ∧ mbDue mbRx 3 = true ∧
      (rRx 5 []).b (Fl.MB_CTRL_HOLD 127) = false ∧ (rRx 5 [(Fl.MB_CTRL_HOLD 127, 1)]).b (Fl.MB_CTRL_HOLD 127) = true) ∧
    (let w := rTx.gw (Rg.MB_CFG 10);
      rTx.poc = Poc.active ∧ mbEn w = true ∧ mbTx w = true ∧ mbDue w 63 = true ∧ rTx.b (Fl.MB_CTRL_READY 10) = true ∧ mbUses w .a = true ∧ rTx.frDrives = true ∧
      rTx.chanOn .a = true ∧ ∀ a ∈ List.range 128, a ≠ 10 → mbEn (rTx.gw (Rg.MB_CFG a)) = false) ∧
    (let w := (rTx0 4).gw (Rg.MB_CFG 0);
      (rTx0 4).poc = Poc.startup ∧ (rTx0 4).sendsStartup 4 = true ∧ mbEn w = true ∧ mbTx w = true ∧ mbDue w 4 = true ∧ (rTx0 4).b (Fl.MB_CTRL_READY 0) = true) ∧
    ((rFr 6 [] id).poc = Poc.passive ∧ (rFr 4 [] id).poc ≠ Poc.active ∧ (rFr 4 [] id).sendsStartup 4 = false) ∧
    ((600 : Int).natAbs ≤ (rFr 4 limits id).g Fl.FR_CSYNC_0_RATE_OUT ∧ (-300 : Int).natAbs ≤ (rFr 4 limits id).g Fl.FR_CSYNC_0_OFFS_OUT ∧
      ¬(601 : Int).natAbs ≤ (rFr 4 limits id).g Fl.FR_CSYNC_0_RATE_OUT ∧ (rFr 4 limits id).poc = Poc.startup) ∧
    ((rFr 5 (limits ++ [(Fl.FR_SYNC_NOCORR, 2)]) id).g Fl.FR_CSYNC_1_PASSIVE ≤ min 15 ((rFr 5 (limits ++ [(Fl.FR_SYNC_NOCORR, 2)]) id).g Fl.FR_SYNC_NOCORR + 1) ∧
      min 15 ((rFr 5 (limits ++ [(Fl.FR_SYNC_NOCORR, 1)]) id).g Fl.FR_SYNC_NOCORR + 1) < (rFr 5 (limits ++ [(Fl.FR_SYNC_NOCORR, 1)]) id).g Fl.FR_CSYNC_1_PASSIVE) ∧
    ((seen (rFr 5 limits ({ · with quietA := 4, quietB := 4 }))).chanOn .b = true ∧
      (seen (rFr 5 limits ({ · with quietA := 4, quietB := 4 }))).g Fl.FR_LOSS_LOSS_CYC ≤ (seen (rFr 5 limits ({ · with quietA := 4, quietB := 4 }))).fr.quietB ∧
      (seen (rFr 5 limits ({ · with quietA := 4, quietB := 4 }))).fr.silB = false ∧
      (seen (rFr 5 limits ({ · with quietA := 4, quietB := 4 }))).b Fl.FR_STAT_LOST = false) ∧
    ((seen (rFr 7 [] id)).b Fl.FR_STAT_LOST = false ∧ (seen (rFr 7 [] id)).poc ≠ Poc.active) ∧
    ((rFr 5 (limits ++ [(Fl.FR_STAT_LOST, 1)]) ({ · with good := 4 })).b Fl.FR_STAT_LOST = true ∧
      (rFr 5 (limits ++ [(Fl.FR_STAT_LOST, 1)]) ({ · with good := 4 })).g Fl.FR_LOSS_LOSS_CYC ≤ (rFr 5 (limits ++ [(Fl.FR_STAT_LOST, 1)]) ({ · with good := 4 })).fr.good) := by
  and_intros <;> decide +kernel

/-! ### Boot, lockstep and security -/

def good : Verdict := ⟨true, true, true, true, 0#8⟩
def bad : Verdict := { good with ecdsaOk := false }
/-- A rod in BOOT. -/
def rBoot (l : List (Fld × Nat)) (fw : Bool) : Rod :=
  let ρ := up .x ([(Fl.ROD_STATE_ROD_X, 1), (Fl.SYS_MODE_MODE, 0)] ++ l)
  { ρ with md := { ρ.md with fwOk := fw } }

theorem witness_BootAndLockstepAct :
    ((rBoot [(Fl.LS_STAT_BOOT_OK, 1)] false).state = RS.boot ∧ (rBoot [(Fl.LS_STAT_BOOT_OK, 1)] false).md.stuck = false ∧
      (rBoot [(Fl.LS_STAT_BOOT_OK, 1)] false).b Fl.LS_STAT_BOOT_OK = true ∧
      (rBoot [] false).verifyImage 1 ((rBoot [] false).active 1) good = none ∧
      ((rBoot [] false).verifyImage 1 ((rBoot [] false).active 1) bad).isSome = true) ∧
    ((rBoot [] true).md.fwOk = true ∧ (rBoot [] true).verifyImage 2 ((rBoot [] true).active 2) good = none ∧
      (rBoot [] true).verifyImage 3 ((rBoot [] true).active 3) good = none) ∧
    ((up .x []).lsOn 0 = true ∧ (up .x [(Fl.LS_STAT_SPLIT, 1)]).lsOn 0 = false ∧
      ∀ p ∈ [0, 1, 4], (up .x []).mainTally p [] = (up .x []).shadowTally p [] ^^^ 0#64 ∧ (up .x []).mainTally p [] ≠ (up .x []).shadowTally p [] ^^^ 1#64) ∧
    (({ up .x [] with ls := { (up .x []).ls with testAt := some 1000000 } }).passed 1000000 ((up .x [(Fl.LS_CFG_TEST_INT, 10)]).g Fl.LS_CFG_TEST_INT * 1000000) = false ∧
      (up .x []).passed 0 0 = true ∧ (up .x []).ls.testAt = none) ∧
    ((rBoot [] true).state < RS.sync ∧ RS.sync ≤ (up .x [(Fl.LS_STAT_NEXT, 4)]).state ∧ (up .x [(Fl.LS_STAT_NEXT, 4)]).g Fl.LS_STAT_NEXT < 5 ∧
      0#64 ^^^ 0x5555555555555555#64 = (up .x []).lsPattern) ∧
    ((up .x [(Fl.ROD_STATE_ROD_X, 7)]).state = RS.update ∧ (up .x [standby, (Fl.LS_STAT_XTEST_RUN, 1)]).mode = SM.standby ∧
      (up .x [standby, (Fl.LS_STAT_XTEST_RUN, 1)]).b Fl.LS_STAT_XTEST_RUN = true ∧ (up .x []).b Fl.LS_STAT_SPLIT = false) ∧
    ((up .x [(Fl.LS_STAT_SPLIT, 1)]).b Fl.LS_STAT_SPLIT = true ∧ (up .x [(Fl.LS_STAT_SPLIT, 1)]).b Fl.LS_STAT_REJOINING = false ∧
      (up .x [(Fl.LS_STAT_REJOINING, 1)]).b Fl.LS_STAT_REJOINING = true) ∧
    ((up .x [standby, (Fl.ROD_STATE_ROD_X, 3)]).accepts .linkX Rg.LS_CMD ∧ wBits 0x5A01#32 8 8 = 0x5A ∧ wBit 0x5A01#32 0 = true ∧
      (up .x [standby, (Fl.ROD_STATE_ROD_X, 3)]).mode = SM.standby ∧ (up .x [standby, (Fl.ROD_STATE_ROD_X, 3)]).state = RS.ready ∧
      wBits 0x5B01#32 8 8 ≠ 0x5A) := by
  and_intros <;> decide +kernel

/-- A staged image of 336 bytes: a 64-byte header and an empty body, signed by a slot. -/
def image (t rb rbv slot : Nat) : List Byte :=
  leBytes 4 0x4C4B4352 ++ leBytes 1 t ++ leBytes 1 1 ++ leBytes 2 0 ++ leBytes 2 3 ++ leBytes 1 rb ++ leBytes 1 0 ++ leBytes 4 rbv ++
    List.replicate 32 0#8 ++ leBytes 4 64 ++ List.replicate 12 0#8 ++ leBytes 4 0x53474E32 ++ leBytes 1 slot ++ List.replicate 267 0#8
def rSec (l : List (Fld × Nat)) (f : SecS → SecS) (g : Otp → Otp) : Rod :=
  let ρ := up .x l
  { ρ with sec := f ρ.sec, otp := g ρ.otp }
/-- A rod with a challenge of eight words 7, and the same with a response staged that carries it and the rod's UID. -/
def rChal0 : Rod :=
  let ρ := rSec [standby] ({ · with chal := List.replicate 8 7#32 }) id
  { ρ with sf := { ρ.sf with own := some 0x80#8, bytes := Tri.rep (some 0x80#8) } }
def response : List Byte := (image 5 0 0 0).take 16 ++ (wordBytes ((List.range 12).map rChal0.chalWord) ++ List.replicate 4 0#8)
def rChal : Rod := { rChal0 with sec := { rChal0.sec with staged := response } }
def man (prov revoke : BitVec 4) : Manifest := ⟨prov, revoke, [List.replicate 96 1#8], true⟩
def rMan (slots : Nat) : Rod := rSec [standby, (Fl.SEC_STAT_LEVEL, 1)] ({ · with staged := image 4 3 1 (if slots = 0 then 0x80 else 0) }) ({ · with slots := slots })
/-- A rod in UPDATE with safety parameters staged. -/
def rUpd (l : List (Fld × Nat)) : Rod := rSec ([(Fl.ROD_STATE_ROD_X, 7)] ++ l) ({ · with upd := some (3, 0), staged := image 3 4 1 0 }) ({ · with slots := 1 })
def rUpdReq : Rod := rSec [(Fl.SEC_STAT_STAGED_OK, 1), (Fl.SEC_STAT_STAGED_TYPE, 2)] ({ · with staged := image 2 4 1 0 }) id

theorem witness_SecurityCommandsAct_access :
    ((up .x []).accepts .linkX Rg.SEC_CMD ∧ (0x5B#8 ≠ 0x5A#8) ∧ (up .x []).g Fl.SEC_STAT_LEVEL = 0 ∧ (up .x [(Fl.SEC_STAT_LEVEL, 1)]).g Fl.SEC_STAT_LEVEL ≠ 0) ∧
    ((rSec [] id ({ · with lockEnd := some 5 })).otp.lockEnd ≠ none ∧ (up .x []).otp.lockEnd = none ∧ (up .x []).mode ≠ SM.standby ∧
      (up .x [standby]).mode = SM.standby) ∧
    ((up .x []).passed (up .x []).sec.useFt 1800000000000 = false ∧ { up .x [] with ftn := 144000000000 }.passed 0 1800000000000 = true ∧
      (up .x []).passed 5 0 = true ∧ (up .x []).passed 2000000 0 = false ∧
      (up .x []).passed (up .x []).sec.chalFt 600000000000 = false ∧ { up .x [] with ftn := 48000000000 }.passed 0 600000000000 = true) ∧
    ((rSec [standby] ({ · with check := true, pwForm := true }) id).sec.pwForm = true ∧ (rSec [standby] ({ · with check := true }) id).sec.pwForm = false) ∧
    ((rSec [standby] ({ · with check := true }) id).sec.check = true ∧ (up .x [standby]).sec.check = false ∧
      (8 ≤ (rSec [standby] ({ · with check := true }) ({ · with fails := 7 })).otp.fails + 1) ∧ ¬(8 ≤ (rSec [standby] ({ · with check := true }) ({ · with fails := 6 })).otp.fails + 1)) ∧
    ((up .x []).accepts .linkX Rg.UPD_REQ ∧ wBit 0x80005A02#32 31 = true ∧ wBits 0x80005A02#32 8 8 = 0x5A ∧ wBits 0x80005B02#32 8 8 ≠ 0x5A ∧
      wBit 0x5A02#32 31 = false) ∧
    ((rUpd [standby]).sec.upd = some (3, 0) ∧ (rUpd [standby]).state = RS.update ∧ (up .x []).sec.upd = none ∧ RodId.y ≠ (up .x []).me ∧
      RS.sync ≤ (up .x []).state ∧ RodId.x = (up .x []).me) := by
  and_intros <;> decide +kernel

theorem witness_SecurityCommandsAct_images :
    (rChal.mode = SM.standby ∧ rChal.maint = true ∧ rChal.sec.chal ≠ [] ∧ rChal.sec.staged ≠ []) ∧
    ((rMan 0).mode = SM.standby ∧ (rMan 0).g Fl.SEC_STAT_LEVEL ≠ 0 ∧ (rMan 0).verifyImage 4 (rMan 0).sec.staged good = none ∧
      (rMan 0).sec.staged ≠ [] ∧ (rMan 0).manifestFault (man 1 0) = 0 ∧ (rMan 0).manifestFault (man 2 0) ≠ 0) ∧
    ((rUpd []).verifyImage 3 (rUpd []).sec.staged good = none ∧ (rUpd []).verifyImage 3 (rUpd []).sec.staged bad ≠ none) := by
  and_intros <;> decide +kernel

/-- The rod's UID is opaque: the response carries it, and is verified, whatever it is. -/
theorem witness_SecurityCommandsAct_response :
    (rChal.sec.staged.drop 0x10).take 0x30 = wordBytes ((List.range 12).map rChal.chalWord) ∧
    rChal.verifyImage 5 rChal.sec.staged good = none := by
  refine ⟨?_, by decide +kernel⟩
  have e : rChal.chalWord = rChal0.chalWord := by funext i; simp only [rChal, Rod.chalWord, Rod.uidWord]; exact if_congr Iff.rfl rfl rfl
  have h : rChal.sec.staged = response := by simp only [rChal]
  have m : ((image 5 0 0 0).take 16).length = 0x10 := by decide +kernel
  have n : ∀ f : Nat → Word, (wordBytes ((List.range 12).map f)).length = 0x30 := fun _ => rfl
  rw [e, h, response, List.drop_left' m, List.take_left' (n _)]

/-! ### Clocks, power and the debug port -/

/-- All sources run. -/
def clocks : List (Fld × Nat) :=
  [(Fl.CLK_STAT_RC_OK, 1), (Fl.CLK_STAT_XTAL_OK, 1), (Fl.CLK_STAT_PLL_A_LOCK, 1), (Fl.CLK_STAT_PLL_B_LOCK, 1), (Fl.CLK_STAT_REF_OK, 1)]
def rClk (l : List (Fld × Nat)) : Rod := up .x (clocks ++ l)
/-- A rod in OFF whose crystal starts. -/
def rStart (l : List (Fld × Nat)) (settled : Bool) : Rod :=
  { rod .x ([(Fl.CLK_STAT_RC_OK, 1)] ++ l) with ck := { ClkS.init with started := true, settled := settled } }

theorem witness_ClocksStartFailAndSwitch :
    ((rStart [] false).ck.started = true ∧ (rStart [] false).b Fl.CLK_STAT_RC_OK = true ∧ (rStart [] false).b Fl.CLK_STAT_XTAL_OK = false ∧
      (rStart [] true).ck.settled = true) ∧
    ((rStart [(Fl.CLK_STAT_XTAL_OK, 1)] true).b Fl.CLK_STAT_XTAL_OK = true ∧ (rStart [(Fl.CLK_STAT_XTAL_OK, 1)] true).state = RS.off ∧
      (rClk []).state ≠ RS.off ∧ (rClk []).b Fl.CLK_STAT_PLL_A_LOCK = true ∧ (rClk []).b Fl.CLK_STAT_PLL_B_LOCK = true ∧ (rClk []).b Fl.CLK_STAT_RC_OK = true) ∧
    ((rClk [(Fl.CLK_STAT_RC_OK, 0)]).b Fl.CLK_STAT_RC_OK = false ∧ (up .x []).b Fl.CLK_STAT_PLL_A_LOCK = false ∧ (up .x []).b Fl.CLK_STAT_PLL_B_LOCK = false) ∧
    ((rClk []).b Fl.CLK_SRC_PCI_LOCAL = false ∧ (rClk []).b Fl.CLK_SRC_TDM_LOCAL = false ∧ (rClk [(Fl.CLK_SRC_PCI_LOCAL, 1)]).b Fl.CLK_SRC_PCI_LOCAL = true ∧
      (rClk [(Fl.CLK_SRC_TDM_LOCAL, 1)]).b Fl.CLK_SRC_TDM_LOCAL = true) ∧
    (RodId.y ≠ (seen (rClk [])).me ∧ linkNo (seen (rClk [])).me .y = 0 ∧ (seen (rClk [])).b Fl.CLK_SRC_CRY_A_LOCAL = false ∧
      (seen (rClk [(Fl.CLK_SRC_CRY_B_LOCAL, 1)])).b Fl.CLK_SRC_CRY_B_LOCAL = true ∧ linkNo (seen (rClk [])).me .z ≠ 0) ∧
    ((rClk []).accepts .linkX Rg.CLK_MEAS_SEL ∧ (rClk []).accepts .linkX Rg.CKO_CFG ∧ wBits 0xB#32 0 4 < 0xC ∧ 0xC ≤ wBits 0xC#32 0 4 ∧
      ¬(0xC ≤ wBits 0x80000003#32 16 4 ∨ wBit 0x80000003#32 31 = true ∧ 100000 * (wBits 0x80000003#32 0 16 + 1) < domainKHz (wBits 0x80000003#32 16 4)) ∧
      100000 * (wBits 0x80000002#32 0 16 + 1) < domainKHz (wBits 0x80000002#32 16 4)) ∧
    ({ rClk [] with ck := { ClkS.init with meas := true } }).ck.meas = true := by
  and_intros <;> decide +kernel

/-- A rod in DORMANT, its core switch open or still to open; a source held. -/
def rDorm (l : List (Fld × Nat)) (f : Aon → Aon) : Rod :=
  let ρ := up .x ([(Fl.SYS_MODE_MODE, 0), (Fl.PWR_STAT_PWR_OK, 0)] ++ l)
  { ρ with aon := f ρ.aon }
def rOff (l : List (Fld × Nat)) (f : Aon → Aon) : Rod := let ρ := rod .x l; { ρ with aon := f ρ.aon }

theorem witness_PowerAndWakeAct :
    ((up .x []).accepts .linkX Rg.PWR_HOST ∧ (up .x []).bitOf Fl.PWR_STAT_UP 5 = false ∧ (up .x [(Fl.PWR_STAT_UP, 0x3F)]).bitOf Fl.PWR_STAT_UP 5 = true ∧
      (up .x [(Fl.PWR_STAT_DOWN, 1)]).bitOf Fl.PWR_STAT_DOWN 0 = true ∧ (rDorm [(Fl.PWR_STAT_DOWN, 1)] id).bitOf Fl.PWR_STAT_PWR_OK 0 = false) ∧
    ((up .x [(Fl.PWR_VOTES_HOST, 0x3F)]).bitOf Fl.PWR_STAT_PWR_OK 0 = true ∧ (up .x [(Fl.PWR_VOTES_HOST, 0x3F)]).voted 0 = true ∧
      (up .x [(Fl.PWR_VOTES_HOST, 0x3F)]).voted 5 = true ∧ (up .x []).voted 5 = false) ∧
    ((rDorm [] id).aon.coreOff = false ∧ (rDorm [] ({ · with coreOff := true })).aon.coreOff = true) ∧
    ((rDorm [] id).state ≠ RS.off ∧ (rDorm [] id).mode = SM.dormant ∧ (rDorm [] id).md.modeFt ≠ 0 ∧ (rDorm [] id).g Fl.PWR_STAT_PWR_OK = 0 ∧
      (rDorm [] id).g Fl.PWR_STAT_DOWN = 0 ∧ (rDorm [] id).g Fl.PWR_STAT_UP = 0 ∧ (rDorm [] ({ · with heldSrc := some 9 })).aon.heldSrc = some 9) ∧
    ((rOff [] ({ · with nextSrc := some 9, nextShut := some 4 })).aon.nextSrc = some 9 ∧ (rOff [] id).aon.nextShut = none ∧
      (rOff [(Fl.PWR_EVT_VALID, 1)] id).b Fl.PWR_EVT_VALID = true ∧ (rOff [] id).b Fl.PWR_EVT_DOMAIN = false) ∧
    ((rOff [] id).state = RS.off ∧ (rOff [] id).aon.coreOff = false ∧ (rOff [] id).ck.started = false) ∧
    ((up .x []).wakeSource (0x002#10).toNat = some 1 ∧ (up .x []).wakeSource (0x001#10).toNat = none) ∧
    ((rDorm [(Fl.PWR_CFG_WAKE_EN, 1)] ({ · with coreOff := true })).g Fl.PWR_CFG_WAKE_EN).testBit 0 = true ∧
    ((up .x [standby]).mode = SM.standby ∧ (up .x [(Fl.ROD_STATE_ROD_X, 5)]).state = RS.fenced ∧ (up .x []).state ≠ RS.fenced ∧ (up .x []).mode ≠ SM.standby) ∧
    (0xA3#8 ≠ 0xA1#8 ∧ 0xA3#8 ≠ 0xA2#8) := by
  and_intros <;> decide +kernel

theorem witness_DebugPortAnswers :
    (rOff [] id).state = RS.off ∧ (up .x []).state ≠ RS.off ∧ (up .x [standby, (Fl.SEC_STAT_LEVEL, 2)]).g Fl.SEC_STAT_LEVEL = 2 ∧
    (up .x [standby, (Fl.SEC_STAT_LEVEL, 2)]).mode = SM.standby ∧ (up .x [(Fl.SEC_STAT_LEVEL, 2)]).mode ≠ SM.standby := by
  and_intros <;> decide +kernel

/-! ### The host port -/

/-- Queue 3 runs with 16 entries each way in a rod whose link is up. -/
def rQ (l : List (Fld × Nat)) (cmds : List Cmd) : Rod :=
  let ρ := up .x ([(Fl.LINK_STAT_UP, 1), (Fl.QP_CTRL_EN 3, 1), (Fl.QP_SIZE_SQ_LEN 3, 16), (Fl.QP_SIZE_CQ_LEN 3, 32), (Fl.CQ_BASE_LO_ADDR 3, 0x1000),
    (Fl.DMA_CTRL_RD_OUT 0, 4), (Fl.QP_CLASS_URGENT 3, 1)] ++ l)
  { ρ with hp := { ρ.hp with qs := [(3, { Qp.init with cmds := cmds })] } }
/-- A descriptor of an operation with its argument bytes, and its command. -/
def dsc (opc : BitVec 8) (len off : Nat) (arg : List Byte) : Desc :=
  { opc := opc, fence := false, irq := true, atFt := false, rod := 3#2, rsv := 0#32, cid := 7#16, ft := 0#64, addr := 0x2000#64
    len := BitVec.ofNat 32 len, devOff := BitVec.ofNat 32 off, arg := arg }
def cmd (d : Desc) : Cmd :=
  { desc := d, run := false, due := false, done := 0, asked := 0, got := [], buf := [], ranks := 0, need := 0, from_ := 0, ended := false, at_ := 0 }
def b1 (n : Nat) : List Byte := leBytes 1 n ++ List.replicate 31 0#8
def faultIrq : List Byte := leBytes 4 Rg.FAULT_IRQ ++ leBytes 4 0xFFFFFFFF ++ leBytes 4 0xFFFFFFFF ++ List.replicate 20 0#8

theorem witness_EndpointAndFabricAct :
    (∀ k : Fin 4, (rQ [] []).holder (k.val + 1) = 0xFF ∧ (rQ [(rankF (k.val + 1), 3)] []).holder (k.val + 1) ≠ 0xFF) ∧
    ((rQ [(Fl.RES_CFG_LOCK_TMO, 1)] []).passed (Sparse.get 0 (rQ [(Fl.RES_CFG_LOCK_TMO, 1)] []).hp.since 4) ((rQ [(Fl.RES_CFG_LOCK_TMO, 1)] []).g Fl.RES_CFG_LOCK_TMO * 1000000) = true ∧
      (rQ [(Fl.RES_CFG_LOCK_TMO, 2)] []).passed 0 ((rQ [(Fl.RES_CFG_LOCK_TMO, 2)] []).g Fl.RES_CFG_LOCK_TMO * 1000000) = false) ∧
    ((rQ [] []).chan 2 = [] ∧ (rQ [] []).chan 3 = []) ∧
    ((3 : Fin 4) ≠ 0 ∧ (up .x []).b Fl.LINK_STAT_UP = false ∧ (rQ [] []).b Fl.LINK_STAT_UP = true) ∧
    ((rQ [] []).accepts .linkX (Rg.SQ_TAIL 3) ∧ (rQ [] []).qpOn 3 = true ∧ wBits 15#32 0 12 < (rQ [] []).g (Fl.QP_SIZE_SQ_LEN 3) ∧
      (rQ [] []).g (Fl.QP_SIZE_SQ_LEN 3) ≤ wBits 16#32 0 12 ∧ (rQ [] []).qpOn 4 = false) ∧
    ((rQ [] []).accepts .linkX (Rg.CQ_HEAD 3) ∧ (rQ [(Fl.CQ_TAIL_TAIL 3, 2)] []).g (Fl.CQ_TAIL_TAIL 3) = 2) ∧
    ((rQ [] []).accepts .linkX (Rg.QP_CLASS 3) ∧ (rQ [] []).b (Fl.QP_CLASS_URGENT 3) = true ∧ wBit 0#32 0 = false) ∧
    ((rQ [] []).bitOf Fl.STARVE_REQ 27 = false ∧ (rQ [(Fl.STARVE_REQ, 0xFFFFFFF)] []).bitOf Fl.STARVE_REQ 27 = true ∧ 3#28 ≠ 0#28) ∧
    ((rQ [] []).recBuf = [] ∧ (rQ [(Fl.FWD_CFG_RELAY, 7)] []).bitOf Fl.FWD_CFG_RELAY 2 = true ∧ 2 ≠ (rQ [] []).me.code) := by
  and_intros <;> decide +kernel

theorem witness_QueueCommandsComplete :
    (∀ d ∈ [dsc 0x00 0 0 (b1 0), dsc 0x02 0 0 faultIrq, dsc 0x03 4 0x50044 (b1 0), dsc 0x05 4 0x120000 (b1 0), dsc 0x09 32 0 (b1 0), dsc 0x0D 0 0 (b1 5),
      dsc 0x0E 0 0 (b1 5), dsc 0x0F 64 0 (b1 0), dsc 0x07 0 0 (b1 0), dsc 0x0C 3380 0 (b1 0)],
      (rQ [] [cmd d]).waitsAlone 3 7#16 (cmd d) ∧ (cmd d).desc.atFt = false ∧ (rQ [] [cmd d]).unranked 3) ∧
    (regPairs (dsc 0x02 0 0 faultIrq) = [(Rg.FAULT_IRQ, 0xFFFFFFFF#32)] ∧ (rQ [] []).hp.d3 = false ∧ Path.linkX.code = (rQ [] []).me.code + 1 ∧
      (rQ [] []).accepts .linkX Rg.FAULT_IRQ) ∧
    ((dsc 0x03 4 0x50044 (b1 0)).devOff.toNat = 0x50044 ∧ sysServed (0x50044 % 0x1000) = false ∧ (rQ [] []).pageOn 0x50 = true ∧
      (rQ [] []).hiCap.find? (fun e => e.1 == 0x50044) = none ∧ ((regRow 0x50044).map (·.rc)).getD 0#32 = 0#32) ∧
    (winAt 0x120000 ≠ .none ∧ (rQ [] []).winOn (winAt 0x120000) = true) ∧
    ((rQ [] []).logRecords false = [] ∧ (rQ [] []).sec.staged = [] ∧ (rMan 1).sec.staged ≠ [] ∧ (rQ [] []).otp.hss < 1048576 ∧
      1048576 ≤ (rSec [] id ({ · with hss := 1048576 })).otp.hss) := by
  and_intros <;> decide +kernel

/-- A command due at its FT, running, its last four bytes asked of the host; the DMA channel is its own. -/
def cmdDue (d : Desc) : Cmd := { cmd d with run := true, due := true, asked := 4 }
def rDma (d : Desc) : Rod := let ρ := rQ [] [cmdDue d]; { ρ with hp := { ρ.hp with chans := [(0, [(3, 7)])] } }
def atFt (n : Nat) : Desc := { dsc 0x00 0 0 (b1 0) with atFt := true, ft := BitVec.ofNat 64 n }
def spArg : List Byte := leBytes 1 0 ++ leBytes 1 3 ++ leBytes 2 2 ++ leBytes 4 11 ++ leBytes 4 12 ++ List.replicate 16 0#8 ++ leBytes 2 0xFFFF ++ leBytes 2 0
def capArg : List Byte := leBytes 4 0x0101 ++ leBytes 2 0x800 ++ List.replicate 14 0#8 ++ leBytes 4 8 ++ List.replicate 8 0#8
def rHeld : Rod := let ρ := rQ [] []; { ρ with hp := { ρ.hp with qs := [(3, { Qp.init with held := [⟨7, 0, 0, 5, true⟩] })] } }
/-- A NOP with CID 7 as it stands in host memory. -/
def nopBytes : List Byte := [0#8, 2#8, 3#8, 0#8, 7#8] ++ List.replicate 59 0#8
def rRank (d : Desc) : Rod :=
  let ρ := rQ [] [{ cmd d with run := true, need := 8 }]
  { ρ with hp := { ρ.hp with ranks := [(4, 3)] } }

/-- A suspended K0 contract; a command whose first data is still out; a capture on channel 2. -/
def stream0 : ContractArgs := ⟨0, 0, 200000, 100000, 0, ⟨0x2003, 0x2003, 0x1005⟩, ⟨0x3003, 0x3003, 0x3003⟩, 2⟩
def rOff8 : Rod :=
  let ρ := rQ [] []
  { ρ with ct := { ρ.ct with susp := [2], ledger := [(2, ⟨.x, leActive, 0x0102, 9, 0, 3, 0, 0, stream0⟩)] } }
def cmdAhead : Cmd := { cmdDue (dsc 0x04 8 0x122000 (b1 0)) with asked := 8 }
def rCap : Rod := let ρ := rQ [] [cmdDue (dsc 0x08 64 0 capArg)]; { ρ with hp := { ρ.hp with chans := [(2, [(3, 7)])] } }

theorem witness_TransfersAndForwardingAct :
    ((rQ [(Fl.SQ_TAIL_TAIL 3, 1)] []).qpOn 3 = true ∧ (rQ [] []).hp.d3 = false ∧
      ((rQ [(Fl.SQ_TAIL_TAIL 3, 1)] []).g (Fl.SQ_TAIL_TAIL 3) + 16 - (rQ [] []).g (Fl.SQ_HEAD_HEAD 3)) % 16 ≠ 0 ∧
      (rQ [] []).descStatus (descOf nopBytes) = 0 ∧ (descOf nopBytes).atFt = false ∧ nopBytes.length = 64) ∧
    ((rHeld.qp 3).held = [⟨7, 0, 0, 5, true⟩] ∧ rHeld.qpOn 3 = true ∧ 16 < rHeld.cqFree 3) ∧
    (∀ d ∈ [atFt 0, atFt (2 ^ 64 - 1), dsc 0x01 0 0 spArg, dsc 0x04 0 0x122000 (b1 0), dsc 0x04 8 0x122000 (b1 0), dsc 0x06 0 0 (b1 3), dsc 0x06 8 0 (b1 3),
      dsc 0x08 64 0 capArg],
      (rQ [] [cmd d]).waitsAlone 3 7#16 (cmd d) ∧ (rQ [] [cmd d]).unranked 3) ∧
    ((atFt 0).ft.toNat ≤ (rQ [] []).ft ∧ (rQ [] []).ft < (atFt (2 ^ 64 - 1)).ft.toNat ∧ ((rQ [] []).spCopy 3 (dsc 0x01 0 0 spArg)).isSome = true ∧
      ((rQ [] []).byHandle 0xFFFF = none ∧ (rQ [] []).linked = true ∧ 2 ≤ (rQ [] []).room ∧ ({ rQ [] [] with ct := { (rQ [] []).ct with spent := 32 } }).room < 2) ∧
      1 ≤ (rQ [] []).g (Fl.DMA_CTRL_RD_OUT ((rQ [] []).g (Fl.QP_CTRL_RD_CH 3)))) ∧
    (∀ d ∈ [dsc 0x06 4 0 (b1 3), dsc 0x04 4 0x122000 (b1 0), { dsc 0x00 4 0 (b1 0) with rod := 1#2 }],
      (rDma d).qpOn 3 = true ∧ ((rDma d).qp 3).cmds = [cmdDue d] ∧ ((rDma d).qp 3).held = [] ∧ 16 < (rDma d).cqFree 3 ∧
      (rDma d).addr64 (Fl.CQ_BASE_LO_ADDR 3) (Fl.CQ_BASE_HI_ADDR 3) % 16 = 0 ∧ (cmdDue d).due = true) ∧
    (((rDma (dsc 0x06 4 0 (b1 3))).chan 0).head? = some (3, 7) ∧ (rDma (dsc 0x06 4 0 (b1 3))).target (dsc 0x06 4 0 (b1 3)) = .x ∧
      (rQ [] []).target { dsc 0x00 4 0 (b1 0) with rod := 1#2 } ≠ .x ∧ (rQ [] []).winOn (.signal 0x800) = true) ∧
    ((rOff8.byHandle 0x0102).map (·.1) = some 2 ∧ 2 ∈ rOff8.ct.susp) ∧
    (∀ k ∈ [cmdAhead, cmdDue (dsc 0x04 8 0x122000 (b1 0))], k.got = [] ∧ k.done = 0 ∧ (k.asked = 8 ∨ k.asked = 4)) ∧
    (((rCap.chan 2).head? = some (3, 7)) ∧ (rCap.qp 3).cmds = [cmdDue (dsc 0x08 64 0 capArg)] ∧ (cmdDue (dsc 0x08 64 0 capArg)).ended = false) ∧
    ((rQ [(Fl.FWD_CFG_FWD_TMO, 1000)] []).passed 0 ((rQ [(Fl.FWD_CFG_FWD_TMO, 1000)] []).g Fl.FWD_CFG_FWD_TMO * 1000) = true ∧
      (rQ [(Fl.FWD_CFG_FWD_TMO, 1100)] []).passed 0 ((rQ [(Fl.FWD_CFG_FWD_TMO, 1100)] []).g Fl.FWD_CFG_FWD_TMO * 1000) = false) ∧
    (RodId.y ≠ (rQ [] []).me ∧ (rQ [] []).descStatus { dsc 0x00 0 0 (b1 0) with rod := 3#2 } = 0 ∧ RodId.ofCode (0#2).toNat = (rQ [] []).me) ∧
    ((rRank (dsc 0x07 0 0 (b1 0))).holder 4 = 0xFF ∧ (rRank (dsc 0x07 0 0 (b1 0))).hp.ranks = [(4, 3)] ∧ (8 : Nat) = 2 ^ 3) := by
  and_intros <;> decide +kernel

/-- A stream from queues 3 of X and Y and buffer 5 of Z to input 3 of axis 0, of class 1; a report of axis 0 to buffer 5. -/
def stream : ContractArgs := ⟨0, 1, 200000, 100000, 0, ⟨0x2003, 0x2003, 0x1005⟩, ⟨0x3003, 0x3003, 0x3003⟩, 2⟩
def report : ContractArgs := ⟨1, 0, 200000, 100000, 0, ⟨0x4000, 0x4000, 0⟩, ⟨0x1005, 0, 0⟩, 4⟩
def admitArg (a : ContractArgs) : List Byte :=
  leBytes 1 a.kind ++ leBytes 1 a.cls ++ leBytes 2 0 ++ leBytes 4 a.period ++ leBytes 4 a.deadline ++ leBytes 4 a.offset ++
    (a.src.list ++ a.dst.list).flatMap (fun e => leBytes 2 e.toNat) ++ leBytes 1 a.count ++ leBytes 3 0
def entry (st : Nat) (by_ : RodId) (a : ContractArgs) : LedgerEntry :=
  { admitter := by_, state := st, handle := 0x0102, bound := 9, reason := 0, queue := 3, late := 0, order := 0, args := a }
def rCt (l : List (Fld × Nat)) (cmds : List Cmd) (f : CtS → CtS) : Rod :=
  let ρ := rQ ([(Fl.RK_TICK_TICK, 10000)] ++ l) cmds
  { ρ with ct := f ρ.ct }
def alone_ : List (Fld × Nat) := [(Fl.ROD_STATE_ROD_Y, 5), (Fl.ROD_STATE_ROD_Z, 5)]
def admitC : Cmd := cmd (dsc 0x0A 0 0 (admitArg stream))
def withdrawC : Cmd := cmd (dsc 0x0B 0 0 (leBytes 2 0x0102 ++ List.replicate 30 0#8))
def has2 (st : Nat) (by_ : RodId) (a : ContractArgs) : CtS → CtS := ({ · with ledger := [(2, entry st by_ a)] })
def asks (ans : Tri (Option AdmitAnswer)) (dead : Bool) : CtS → CtS := ({ · with
  ledger := [(2, entry lePending .x stream)], admits := [{ index := 2, queue := 3, cid := 7, irq := true, args := stream, bound := 9, answers := ans, dead := dead }] })

theorem witness_ContractsAreAdmittedAndEnd :
    ((rCt [] [admitC] id).waitsAlone 3 7#16 admitC ∧ (rCt [] [admitC] id).unranked 3 ∧ (rCt [] [withdrawC] (has2 2 .x stream)).waitsAlone 3 7#16 withdrawC) ∧
    ((rCt [] [admitC] ({ · with notices := [[2]] })).ct.notices ≠ [] ∧ (rCt [] [admitC] id).ct.notices = [] ∧
      (rCt [] [admitC] id).freeIndex = some 0 ∧ ((rCt [] [admitC] id).examine (admitArgs admitC.desc)).1 = 0 ∧ (rCt [] [admitC] id).live .y = true ∧
      (rCt alone_ [admitC] id).live .y = false ∧ (rCt alone_ [admitC] id).live .z = false ∧ ((rCt alone_ [admitC] id).examine (admitArgs admitC.desc)).1 = 0) ∧
    ((rCt [] [withdrawC] (has2 2 .x stream)).byHandle (argAt withdrawC.desc 0x20 2) = some (2, entry 2 .x stream)) ∧
    (RodId.y ≠ (rCt [] [] id).me ∧ (rCt [] [] id).holder 2 = 0xFF ∧ (rCt [] [] id).entry 2 = none ∧
      (rCt [] [] (has2 2 .x stream)).entry 2 = some (entry 2 .x stream) ∧ entry 2 .x stream ≠ entry lePending .x stream ∧
      ((rCt [] [] id).examine stream).1 = 0 ∧ ((rCt [] [] id).examine { stream with deadline := 0 }).1 ≠ 0) ∧
    (∀ dead ∈ [false, true], (rCt [] [] (asks (Tri.rep none) dead)).ct.admits.any (·.index == 2) = true ∧
      (rCt [] [] (asks (Tri.rep none) dead)).entry 2 = some (entry lePending .x stream) ∧ (rCt [] [] (asks (Tri.rep none) dead)).live .z = true ∧
      ((rCt [] [] (asks (Tri.rep (some ⟨2, 0, 9, 0x1005#16⟩)) dead)).ct.admits.all fun m => m.dead == dead && m.answers.get RodId.z.idx == some ⟨2, 0, 9, 0x1005#16⟩) = true) ∧
    ((rCt [] [] id).ledgerFree = true ∧ (rCt [(rankF 2, 3)] [] id).ledgerFree = false) ∧
    (latchAt report 1000000 = true ∧ (rCt [] [] id).ftn ≤ ftnOf 1000000 ∧ latchAt report 1000001 = false ∧ ¬((rCt [] [] id).ftn ≤ ftnOf 800000)) ∧
    ((rCt [] [] (has2 3 .x stream)).ct.notices = [] ∧ (rCt [] [] ({ · with notices := [[2], []] })).ct.notices = [[2], []]) ∧
    ((rCt [] [] (has2 2 .x report)).serves (2, entry 2 .x report) = true ∧ (rCt [] [] (has2 4 .x report)).serves (2, entry 4 .x report) = false ∧
      report.kind = kReport ∧ epType (report.dst.get RodId.x.idx) = 1 ∧ epType (report.src.get RodId.x.idx) = 4 ∧ report.count ≤ 12) := by
  and_intros <;> decide +kernel

/-! ### The invariants and the empty queue -/

theorem witness_EmptyQueueStepsTime : State.reset.pending = [] := by decide +kernel

theorem witness_EveryCommandCompletesOnItsRod : Instr.shared (.pllLock .x) = false ∧ ∀ r, (State.reset.rod r).recBuf = [] :=
  ⟨by decide +kernel, by intro r; cases r <;> rfl⟩

/-- The state after reset with the crystal of rod X proven next. -/
theorem witness_EveryStepLeavesNoRecordBehind :
    let s : State := { State.reset with pending := [.pllLock .x] }
    s.quiet ∧ s.queueWf ∧ ∃ t, step s = .next t := by
  refine ⟨?_, ?_, _, rfl⟩
  · intro r; cases r <;> rfl
  · intro c h; rw [List.mem_singleton.mp h]; decide +kernel

/-! ### Ill-formed commands are refused by the checks -/

theorem smoke_wfSrc : (Instr.dqSilent .x .x).wf = false := by decide +kernel
theorem smoke_wfAccess : (Instr.registerWrite .x .linkX 0x3000000 4 0#64).wf = false ∧ (Instr.registerWrite .x .linkX 0 3 0#64).wf = false ∧
    (Instr.memoryWindowWrite .x .linkX 0x100000 4 0x100000000#64).wf = false := by decide +kernel
theorem smoke_wfReg : (Instr.rcRead .x ⟨0x1000, 3⟩ 0#32).wf = false ∧ (Instr.pairLoRead .x ⟨0x3000000, 4⟩).wf = false ∧ (Instr.pairHiWrite .x .linkX 0x1002 0#32).wf = false := by decide +kernel
theorem smoke_wfPage : (Instr.stagedCommit .x 0x100).wf = false := by decide +kernel
theorem smoke_wfLen : (Instr.dqFrameReceive .x .y { crcOk := true, tick := 0, epoch := ⟨0, true⟩, fresh := 0, resid := 0, words := [0#32] }).wf = false := by
  decide +kernel
theorem smoke_wfCode : (Instr.modeProposal .x .y 6).wf = false ∧ (Instr.sfReport .x 0 0).wf = false := by decide +kernel
theorem smoke_wfDesc : (Instr.descriptorFetch .x 0 (List.replicate 63 0#8)).wf = false ∧ (Instr.forwardMessage .x .y 0 (dsc 0 0 0 []) []).wf = false := by decide +kernel
theorem smoke_wfFrame : (Instr.frFrameReceive .x { slot9 (some (frm 0 true)) none with slot := 0 }).wf = false ∧
    (Instr.frFrameReceive .x (slot9 none none)).wf = false ∧ (Instr.frFrameReceive .x (slot9 (some { frm 0 true with payload := [1#8] }) none)).wf = false := by decide +kernel

/-! ### Single steps, with values from the spec -/

/-- A word of Table 9.3 has the fields the table names. -/
theorem test_encoding_examples :
    (fA (0x00400000000000#56), fAcc (0x00400000000000#56), fAddr (0x00400000000000#56)) = (1, 0, 0) ∧
    (fD (0x30009E00000000#56), fAcc (0x30009E00000000#56), fE (0x30009E00000000#56)) = (6, 1, 15) ∧
    (fD (0x48000000800000#56), (0x48000000800000#56).setWidth 32) = (9, 0x00800000#32) := by decide +kernel

/-- Column 0 with the registers and accumulators given, coefficient 5 being m = 0x60000000, k = -1. -/
def colV (opc : Nat) (f : BitVec 56) (v : List (Nat × Word)) (acc : List (Nat × Int)) : Rod :=
  let ρ := col opc f
  { ρ with rk := { ρ.rk with coef := [(5, 0x1F60000000#64)], cols := [(0, { Col.init with v := v, acc := acc })] } }

/-- The example under R279: 0.5 times 0.75 · 2^-1. -/
theorem test_macc : after (.macc .x 0 (enc [(46, 1), (0, 5)])) (colV 0x22 (enc [(46, 1), (0, 5)]) [(1, 0x40000000#32)] [])
    (fun ρ => ρ.acc 0 0 == 3 * 2 ^ 42) = true := by decide +kernel
theorem test_macv : after (.macv .x 0 (enc [(46, 1), (41, 2), (28, 31)])) (colV 0x24 (enc [(46, 1), (41, 2), (28, 31)]) [(1, 0x40000000#32), (2, 0x60000000#32)] [])
    (fun ρ => ρ.acc 0 0 == 3 * 2 ^ 42) = true := by decide +kernel
theorem test_mscc_rounds_down : after (.mscc .x 0 (enc [(46, 1), (0, 5)])) (colV 0x23 (enc [(46, 1), (0, 5)]) [(1, 1#32)] [])
    (fun ρ => ρ.acc 0 0 == -12288) = true := by decide +kernel
theorem test_ext : after (.ext .x 0 (enc [(51, 6), (33, 15)])) (colV 0x27 (enc [(51, 6), (33, 15)]) [] [(0, 3 * 2 ^ 42)])
    (fun ρ => ρ.v 0 6 == 0x18000000#32 && !ρ.b (Fl.COL_FLAGS_N 0)) = true := by decide +kernel
theorem test_ext_half_away : after (.ext .x 0 (enc [(51, 6), (33, 15)])) (colV 0x27 (enc [(51, 6), (33, 15)]) [] [(0, -49152)])
    (fun ρ => ρ.v 0 6 == BitVec.ofInt 32 (-2) && ρ.b (Fl.COL_FLAGS_N 0)) = true := by decide +kernel
theorem test_adds_saturates : after (.adds .x 0 (enc [(51, 5), (46, 3), (41, 1)])) (col 0x10 (enc [(51, 5), (46, 3), (41, 1)]))
    (fun ρ => ρ.v 0 5 == 0x7FFFFFFF#32 && ρ.b (Fl.COL_FLAGS_SAT 0)) = true := by decide +kernel
theorem test_addw_wraps : after (.addw .x 0 (enc [(51, 3), (46, 3), (41, 1)])) (col 0x12 (enc [(51, 3), (46, 3), (41, 1)]))
    (fun ρ => ρ.v 0 3 == 0x80000006#32 && !ρ.b (Fl.COL_FLAGS_SAT 0)) = true := by decide +kernel
theorem test_subw : after (.subw .x 0 (enc [(51, 5), (46, 2), (41, 1)])) (col 0x13 (enc [(51, 5), (46, 2), (41, 1)]))
    (fun ρ => ρ.v 0 5 == BitVec.ofInt 32 (-10)) = true := by decide +kernel
theorem test_subs_saturates : after (.subs .x 0 (enc [(51, 5), (46, 2), (41, 3)])) (colV 0x11 (enc [(51, 5), (46, 2), (41, 3)]) [(2, 0x80000000#32), (3, 1#32)] [])
    (fun ρ => ρ.v 0 5 == 0x80000000#32 && ρ.b (Fl.COL_FLAGS_SAT 0)) = true := by decide +kernel
theorem test_mulw : after (.mulw .x 0 (enc [(51, 5), (46, 1), (41, 2)])) (col 0x14 (enc [(51, 5), (46, 1), (41, 2)]))
    (fun ρ => ρ.v 0 5 == BitVec.ofInt 32 (-21)) = true := by decide +kernel
theorem test_negs_saturates : after (.negs .x 0 (enc [(51, 5), (46, 2)])) (colV 0x15 (enc [(51, 5), (46, 2)]) [(2, 0x80000000#32)] [])
    (fun ρ => ρ.v 0 5 == 0x7FFFFFFF#32 && ρ.b (Fl.COL_FLAGS_SAT 0)) = true := by decide +kernel
theorem test_abss : after (.abss .x 0 (enc [(51, 5), (46, 2)])) (col 0x16 (enc [(51, 5), (46, 2)]))
    (fun ρ => ρ.v 0 5 == 3#32) = true := by decide +kernel
theorem test_min_is_signed : after (.min .x 0 (enc [(51, 5), (46, 1), (41, 2)])) (col 0x17 (enc [(51, 5), (46, 1), (41, 2)]))
    (fun ρ => ρ.v 0 5 == BitVec.ofInt 32 (-3)) = true := by decide +kernel
theorem test_clmp_low : after (.clmp .x 0 (enc [(51, 5), (46, 2), (41, 1)])) (colV 0x19 (enc [(51, 5), (46, 2), (41, 1)]) [(1, 2#32), (2, BitVec.ofInt 32 (-3))] [])
    (fun ρ => ρ.v 0 5 == BitVec.ofInt 32 (-2)) = true := by decide +kernel
theorem test_asr_floors : after (.asr .x 0 (enc [(51, 5), (46, 2), (33, 1)])) (col 0x1A (enc [(51, 5), (46, 2), (33, 1)]))
    (fun ρ => ρ.v 0 5 == BitVec.ofInt 32 (-2)) = true := by decide +kernel
theorem test_lsl_wraps : after (.lsl .x 0 (enc [(51, 5), (46, 2), (33, 31)])) (col 0x1B (enc [(51, 5), (46, 2), (33, 31)]))
    (fun ρ => ρ.v 0 5 == 0x80000000#32) = true := by decide +kernel
theorem test_lda : after (.lda .x 0 (enc [(39, 1), (46, 2), (33, 63)])) (col 0x21 (enc [(39, 1), (46, 2), (33, 63)]))
    (fun ρ => ρ.acc 0 1 == -3 * 2 ^ 63 && !ρ.b (Fl.COL_FLAGS_AOV 0)) = true := by decide +kernel
theorem test_bias : after (.bias .x 0 (enc [(0, 5)])) (colV 0x26 (enc [(0, 5)]) [] []) (fun ρ => ρ.acc 0 0 == 0x60000000 * 2 ^ 14) = true := by
  decide +kernel
theorem test_macc_clamps : after (.macc .x 0 (enc [(46, 1), (0, 5)])) (colV 0x22 (enc [(46, 1), (0, 5)]) [(1, 0x40000000#32)] [(0, 2 ^ 71 - 2)])
    (fun ρ => ρ.acc 0 0 == 2 ^ 71 - 1 && ρ.b (Fl.COL_FLAGS_AOV 0)) = true := by decide +kernel
/-- R318: 45 degrees; a quarter turn, where the sine is limited. -/
theorem test_sincos : after (.sincos .x 0 (enc [(51, 8), (46, 1)])) (colV 0x30 (enc [(51, 8), (46, 1)]) [(1, 0x20000000#32)] [])
    (fun ρ => ρ.v 0 8 == 0x5A82799A#32 && ρ.v 0 9 == 0x5A82799A#32) = true := by decide +kernel
theorem test_sincos_limits : after (.sincos .x 0 (enc [(51, 8), (46, 1)])) (colV 0x30 (enc [(51, 8), (46, 1)]) [(1, 0xC0000000#32)] [])
    (fun ρ => ρ.v 0 8 == 0x80000001#32 && ρ.v 0 9 == 0#32) = true := by decide +kernel
theorem test_limc : after (.limc .x 0 (enc [(51, 8), (46, 1)])) (colV 0x33 (enc [(51, 8), (46, 1)]) [(1, 5#32), (8, 6#32), (9, BitVec.ofInt 32 (-8))] [])
    (fun ρ => ρ.v 0 8 == 3#32 && ρ.v 0 9 == BitVec.ofInt 32 (-4)) = true := by decide +kernel
theorem test_rid : after (.rid .x 0 (enc [(51, 5)])) (colV 0x08 (enc [(51, 5)]) [(5, 9#32)] []) (fun ρ => ρ.v 0 5 == 0#32) = true := by decide +kernel
theorem test_movi : after (.movi .x 0 (enc [(51, 9), (0, 0x00800000)])) (col 0x06 (enc [(51, 9), (0, 0x00800000)]))
    (fun ρ => ρ.v 0 9 == 0x00800000#32 && ρ.pcOf 0 == 1) = true := by decide +kernel
theorem test_blt_is_signed : after (.blt .x 0 (enc [(46, 2), (41, 1), (0, 9)])) (col 0x38 (enc [(46, 2), (41, 1), (0, 9)]))
    (fun ρ => ρ.pcOf 0 == 9) = true := by decide +kernel
theorem test_bge_falls_through : after (.bge .x 0 (enc [(46, 2), (41, 1), (0, 9)])) (col 0x39 (enc [(46, 2), (41, 1), (0, 9)]))
    (fun ρ => ρ.pcOf 0 == 1) = true := by decide +kernel
theorem test_branch_back_stops : after (.jmp .x 0 0) (col 0x3C 0) (fun ρ => !ρ.b (Fl.COL_STAT_BUSY 0) && hasRec ρ 0x0840) = true := by decide +kernel
theorem test_repeat : after (.repeatN .x 0 (enc [(16, 2), (0, 1)])) (col 0x3D (enc [(16, 2), (0, 1)]))
    (fun ρ => (ρ.col 0).rep.isSome && ρ.pcOf 0 == 1) = true := by decide +kernel
theorem test_halt : after (.halt .x 0 0) (col 0x3F 0) (fun ρ => !ρ.b (Fl.COL_STAT_BUSY 0)) = true := by decide +kernel
theorem test_ldx_wraps : after (.ldx .x 0 (enc [(51, 5), (46, 2), (0, 2)]))
    (let ρ := col 0x02 (enc [(51, 5), (46, 2), (0, 2)]); { ρ with rk := { ρ.rk with sig := [(0x3FFF, 0xABC#32)] } }) (fun ρ => ρ.v 0 5 == 0xABC#32) = true := by
  decide +kernel

/-- Single commands of the other families, with values from the spec's rules and worked examples. -/
theorem test_irq_force : after (.irqForce .x .linkX 0x030 0x20#32) (up .x []) (fun ρ => ρ.gw (Rg.IRQ_RAW 0x030) == 0x20#32) = true := by decide +kernel
theorem test_staged_write_waits : after (.registerWrite .x .linkX Rg.DISC_CFG 4 0x006407CF#64) (up .x [])
    (fun ρ => ρ.gw Rg.DISC_CFG == (up .x []).gw Rg.DISC_CFG && ρ.dirty 0x040) = true := by decide +kernel
theorem test_commit_applies : after (.stagedCommit .x 0x040) rCmt (fun ρ => ρ.g Fl.DISC_CFG_OUT_LIM == 1999 && !ρ.dirty 0x040) = true := by decide +kernel
/-- After Table 8.1: a Park block to cycle 448 and a block at START 400 on one column. -/
theorem test_overlapping_triggers_are_rejected : after (.stagedCommit .x 0x061)
    ({ up .x [(Fl.RK_STAT_IMG_OK, 1), (Fl.RK_IMG_LENGTH, 16), (Fl.TRIG_CFG_SRC 0 0, 1), (Fl.TRIG_LIM_START 0 0, 352), (Fl.TRIG_LIM_LIMIT 0 0, 96), (Fl.TRIG_CFG_SRC 0 1, 1),
        (Fl.TRIG_LIM_START 0 1, 768), (Fl.TRIG_LIM_LIMIT 0 1, 2000)] with
      shadow := [(Rg.TRIG_LIM 0 1, BitVec.ofNat 32 (400 * 65536 + 2000))], cmtReq := [0x061] })
    (fun ρ => ρ.g (Fl.STG_STAT_CODE 0x061) == 3 && ρ.g (Fl.TRIG_LIM_START 0 1) == 768) = true := by decide +kernel
theorem test_locked_page_refuses_another_path : after (.registerWrite .x .linkY Rg.FWD_CFG 4 1#64) rLocked
    (fun ρ => ρ.gw Rg.FWD_CFG == rLocked.gw Rg.FWD_CFG && ρ.b (Fl.ERRCAP_0_VALID 0x021)) = true := by decide +kernel
theorem test_memory_window_write : after (.memoryWindowWrite .x .linkX 0x122004 4 0x55#64) (up .x []) (fun ρ => ρ.sg 0x801 == 0x55#32) = true := by
  decide +kernel
theorem test_clear_max : after (.clrMax .x .linkX 3) (up .x [(Fl.TRIG_USE_MAX 3 7, 777)]) (fun ρ => ρ.g (Fl.TRIG_USE_MAX 3 7) == 0) = true := by decide +kernel

/-- Table 4.3, at t0 and at t2. -/
theorem test_median_of_clusters : after (.captureWindowClose .x) (rRef [(Fl.ROD_STATE_ROD_X, 4)] ⟨some 12000, some (-4000), some 30000⟩)
    (fun ρ => ρ.g Fl.REMAINDER_E == 12000 && ρ.g Fl.FT_STAT_SRC_MODE == 0) = true := by decide +kernel
theorem test_midpoint_of_clusters : after (.captureWindowClose .x) (rRef [(Fl.ROD_STATE_ROD_X, 4)] ⟨some 10000, none, some 28000⟩)
    (fun ρ => ρ.g Fl.REMAINDER_E == 19000 && ρ.g Fl.FT_STAT_SRC_MODE == 1) = true := by decide +kernel
theorem test_take_snapshot : after (.take .x .linkX) (up .x []) (fun ρ => ρ.g Fl.SNAP_FT_LO_FT == 1000000) = true := by decide +kernel

/-- The example under R171: APO 2 with macroticks of 1 us. -/
theorem test_frame_within_its_window : after (.frFrameReceive .x (slot9 (some (frm 1900 true)) none)) (rRx 5 [(Fl.FR_TIMING_MT, 1), (Fl.FR_STATIC_N_STATIC, 20), (Fl.FR_TAIL_APO, 2)])
    (fun ρ => ρ.b (Fl.MB_STAT_NEW 127) && ρ.gw (Rg.MB_DATA 127 0) == 0x04030201#32) = true := by decide +kernel
theorem test_frame_outside_its_window : after (.frFrameReceive .x (slot9 (some (frm 2600 true)) none)) (rRx 5 [(Fl.FR_TIMING_MT, 1), (Fl.FR_STATIC_N_STATIC, 20), (Fl.FR_TAIL_APO, 2)])
    (fun ρ => !ρ.b (Fl.MB_STAT_NEW 127) && ρ.g Fl.FR_SBV_SBV_A == 1) = true := by decide +kernel
theorem test_correction_is_clamped : after (.clockCorrection .x 700 0 5 7) (rFr 5 limits id) (fun ρ => ρ.g Fl.FR_CORR_RATE == 600 && ρ.g Fl.FR_SYNC_NOCORR == 1) = true := by
  decide +kernel
theorem test_third_failure_is_passive : after (.clockCorrection .x 0 (-301) 5 7) (rFr 5 (limits ++ [(Fl.FR_SYNC_NOCORR, 2)]) id)
    (fun ρ => ρ.poc == Poc.passive && hasRec ρ 0x0602) = true := by decide +kernel
theorem test_cycle_sends : after (.cycleStart .x 5) rTx (fun ρ => (ρ.out.any fun o => match o with | .frame .a _ 9 h bs => bs == [0#8, 0#8, 0#8, 0#8] && h.cycle == 5 && !h.null | _ => false) && !ρ.b (Fl.MB_CTRL_READY 10)) = true := by
  decide +kernel

/-- The example under R224: LOCK_ACQ of mask 0x02, then MEM_WRITE to the friction table of axis 1. -/
theorem test_rank_order : after (.memWrite .x 3 7#16) (rQ [(Fl.QP_LOCKS_HELD 3, 2), (rankF 2, 3)] [cmd (dsc 0x04 8 0x144000 (b1 0))])
    (fun ρ => hasRec ρ 0x0521 && (ρ.qp 3).cmds.isEmpty) = true := by decide +kernel
theorem test_lock_acq : after (.lockAcq .x 3 7#16) (rQ [] [cmd (dsc 0x0D 0 0 (b1 3))]) (fun ρ => ρ.holder 1 == 3 && ρ.holder 2 == 3 && ρ.holder 3 == 0xFF) = true := by
  decide +kernel
theorem test_grant_is_round_robin : after (.fabricGrant .x ⟨0x9#28, 0#28, 16⟩) { rQ [] [] with hp := { HpS.init with lastN := 0 } } (fun ρ => ρ.hp.grant == some (3, 16)) = true := by decide +kernel
theorem test_doorbell_out_of_range : after (.sqTailDoorbell .x .linkX 3 16#32) (rQ [] []) (fun ρ => ρ.b (Fl.QP_STAT_SQ_ERR 3) && ρ.g (Fl.SQ_TAIL_TAIL 3) == 0) = true := by
  decide +kernel
/-- The example of chapter 7: 9.5 us from buffers, 13.5 us with a queue and HOST_LAT of 4 us. -/
theorem test_bound_of_buffers : (rCt [(Fl.CT_HOST_LAT_HOST_LAT, 4000)] [] id).boundPart { stream with src := ⟨0x100A, 0x100A, 0x100A⟩ } = 9500 := by decide +kernel
theorem test_bound_of_a_queue : (rCt [(Fl.CT_HOST_LAT_HOST_LAT, 4000)] [] id).boundPart { stream with src := ⟨0x2004, 0x100A, 0x100A⟩ } = 13500 := by decide +kernel
theorem test_deadline_below_bound_is_refused : after (.admitProposal .x .y ⟨4, 1, 3, { stream with deadline := 10000 }⟩) (rCt [(Fl.CT_HOST_LAT_HOST_LAT, 4000)] [] id)
    (fun ρ => ρ.out.contains (.admitAnswer .y ⟨4, 4, 13500, 0x3003#16⟩)) = true := by decide +kernel

/-- The example of R32. -/
theorem test_shares : place 4 90 [(.x, 40), (.y, 40), (.z, 20)] = [(.z, 20), (.x, 35), (.y, 35)] := by decide +kernel
/-- The example before Table 16.5: at 3.5 m/s the limit is 1,050 mrad/s. -/
theorem test_rate_limit : limitAt ([0, 200, 500, 1000, 1000, 1000, 1000, 1000].getD · 0) ([1500, 1500, 600, 300, 300, 300, 300, 300].getD · 0) (some 350) = 1050 := by
  decide +kernel
/-- The example of R401: 383.5 mrad/s of 125,000. -/
theorem test_speed_word : ({ up .x [(Fl.SPD_FS_FS 0, 125000)] with rk := { RkS.init with sig := [(0x1C, 0x006487ED#32)] } }).speedMrad 0 = 383 := by decide +kernel
theorem test_edge_counts : after (.quadratureTransition .x 2 ⟨true, 16⟩ ⟨false, 16⟩ 1004) (rQuad []) (fun ρ => ρ.count 2 == 100) = true := by decide +kernel
theorem test_edge_at_the_limit_is_suppressed : after (.quadratureTransition .x 2 ⟨true, 16⟩ ⟨false, 16⟩ 1004) (rQuad [(Fl.FB_CNT_CNT 2, 100)]) (fun ρ => ρ.count 2 == 100) = true := by
  decide +kernel

theorem test_desaturation_latches : after (.desaturation .x 2 2) (up .x []) (fun ρ => (ρ.half 2 2).tCause != 0 && hasRec ρ 0x0B01) = true := by decide +kernel
theorem test_fence_latch : after (.fenceLatch .x) rKhs (fun ρ => ρ.die.fence && hasRec ρ 0x0B40) = true := by decide +kernel
theorem test_fourth_silence_is_judged : after (.dqSilent .x .y) rSilent (fun ρ => (ρ.red.judged.get RodId.y.idx).isSome) = true := by decide +kernel
theorem test_partner_is_not_judged_early : after (.dqSilent .x .z) rSilent (fun ρ => (ρ.red.judged.get RodId.z.idx).isNone) = true := by decide +kernel
theorem test_request_needs_its_key : after (.modeRequest .x .linkX 0x80005B05#32) (up .x []) (fun ρ => ρ.b (Fl.ERRCAP_0_VALID 0x001) && !ρ.b Fl.REQ_STAT_PENDING) = true := by
  decide +kernel
theorem test_third_equal_strap_read_is_accepted : after (.sealRead .x 0xA5#8) (rSeal id) (fun ρ => ρ.sf.own == some 0xA5#8 && ρ.out.contains (.seal 0xA5#8)) = true := by
  decide +kernel

theorem test_comparator_test : after (.comparatorTest .x [] 0#64) (up .x []) (fun ρ => ρ.g Fl.LS_CNT_TESTS == 1 && ρ.g Fl.LS_STAT_NEXT == 1) = true := by
  decide +kernel
/-- Table 15.4: the mismatch of pair 3 withdraws the rod. -/
theorem test_mismatch_withdraws : after (.lockstepWindowEnd .x 3 [] 1#64) (up .x []) (fun ρ => ρ.state == RS.fenced && ρ.md.dis && hasRec ρ 0x0D01) = true := by
  decide +kernel
theorem test_crystal_failure : after (.xtalFail .x 1) (rClk []) (fun ρ => ρ.state == RS.off && ρ.md.hold && ρ.aon.clkEvts.contains ⟨0x0201, 1, 0, 0, true⟩) = true := by
  decide +kernel
theorem test_lock_enters_boot : after (.pllLock .x) (rStart [(Fl.CLK_STAT_XTAL_OK, 1)] true) (fun ρ => ρ.state == RS.boot) = true := by decide +kernel
/-- Table 18.7: SRC 2 in the rod whose port took WAKE, SRC 6 in a rod that saw activity of its first partner. -/
theorem test_wake_by_port : after (.wake .x) (rDorm [(Fl.PWR_CFG_WAKE_EN, 0xFF)] ({ · with coreOff := true })) (fun ρ => ρ.aon.nextSrc == some 2 && !ρ.aon.coreOff) = true := by
  decide +kernel
theorem test_wake_by_partner : after (.wakeEvent .x 0x040#10) (rDorm [(Fl.PWR_CFG_WAKE_EN, 0xFF)] ({ · with coreOff := true }))
    (fun ρ => ρ.aon.nextSrc == some 6 && !ρ.aon.coreOff) = true := by decide +kernel
/-- R632: the eighth failure locks out for one second. -/
theorem test_eighth_failure_locks : after (.passwordCheckDone .x false) (rSec [standby] ({ · with check := true }) ({ · with fails := 7 }))
    (fun ρ => ρ.otp.fails == 8 && ρ.otp.lockEnd == some 1001000000) = true := by decide +kernel
theorem test_first_manifest_provisions : after (.applyManifest .x .linkX 0x5A#8 good (man 1 0)) (rMan 0) (fun ρ => ρ.otp.slots == 1 && hasRec ρ 0x0440) = true := by
  decide +kernel
theorem test_update_of_another_type_is_refused : after (.updReq .x .linkX 0x80005A03#32) rUpdReq (fun ρ => ρ.g Fl.UPD_STAT_REASON == 1) = true := by decide +kernel
theorem test_bypass : after (.bypass .x) (up .x []) (fun ρ => ρ.out.contains (.tdo 1 0)) = true := by decide +kernel

end Sys2Proof.Tests
end

section
/-! Time on an empty queue: what one step of `idle` does to one rod, and the state change of the FlexRay controller that ends a
wakeup pattern. -/

namespace Sys2Proof.Machine

/-! ### A state change of the FlexRay controller -/

/-- The controller stands in the state it enters (R182). -/
theorem Rod.poc_setPoc (ρ : Rod) (p : Nat) (h : p < 8) : (ρ.setPoc p).g Fl.FR_STAT_POC = p := by
  unfold Rod.setPoc
  split
  · assumption
  · rw [Rod.flt_eq, Rod.g_fltAP, Rod.g_irq_ne _ _ _ _ (by decide), Rod.g_p _ _ _ (by decide)]
    exact Nat.mod_eq_of_lt (Nat.lt_of_lt_of_le h (by decide))

/-- A state change of the controller writes FR_STAT and the event of its page alone of all registers. -/
theorem Rod.keepsRegs_setPoc (ρ q : Rod) (ex : List Nat) (p : Nat) (hs : Rg.FR_STAT ∈ ex) (hi : Rg.IRQ_RAW 0x030 ∈ ex)
    (h : ρ.keepsRegs q ex) : ρ.keepsRegs (q.setPoc p) ex := by
  unfold Rod.setPoc
  split
  · exact h
  · exact Rod.keepsRegs_regs _ _ _ _ rfl (Rod.keepsRegs_irq _ _ _ _ _ hi (Rod.keepsRegs_p _ _ _ _ _ hs h))

theorem Rod.agrees_setPoc (ρ : Rod) (p : Nat) : (ρ.setPoc p).agrees ρ := by
  unfold Rod.setPoc
  split
  · exact Rod.agrees_refl ρ
  · rw [Rod.flt_eq]
    exact Rod.agrees_trans _ _ _ (Rod.agrees_fltAP _ _ _ _ _ _ _) (Rod.agrees_trans _ _ _ (Rod.agrees_irq _ _ _) (Rod.agrees_p _ _ _))

/-! ### One step on an empty queue -/

/-- The clocks of a rod one step of 12.5 ns further: FT where the PWM clock runs, the time since power-on where it is counted, and
the intervals of VAON (log entry 2). -/
def Rod.clocksOn (ρ : Rod) : Rod :=
  { ρ with aon := ρ.aon.count, ftn := ρ.ftn + b2n (ρ.clkOn 3)
           ck := { ρ.ck with up := ρ.ck.up + b2n (ρ.ck.started || ρ.aon.pewake) } }

/-- What `idle` does to each rod: its clocks go on, and a wakeup pattern that is being sent may have come to its end. -/
theorem idle_rod (s : State) (r : RodId) :
    (idle s).rod r = (s.rod r).clocksOn.when (s.rod r).fr.waking fun q => q.wakeDone.flush := by
  cases r
  all_goals
    unfold idle State.rod Rod.clocksOn b2n
    dsimp only
    split <;> split <;> rfl

/-- A wakeup pattern that is not at its end goes on (R175). -/
theorem Rod.wakeDone_eq_self (ρ : Rod) (h : ρ.ck.up < ρ.fr.wakeEnd) : ρ.wakeDone = ρ := by
  unfold Rod.wakeDone
  rw [if_neg (fun k => Nat.not_le.2 h k.2)]

/-- A wakeup pattern at its end leaves POC wakeup for ready (R175). -/
theorem Rod.wakeDone_eq_ready (ρ : Rod) (hw : ρ.fr.waking = true) (h : ρ.fr.wakeEnd ≤ ρ.ck.up) :
    ρ.wakeDone = Rod.setPoc { ρ with fr := { ρ.fr with waking := false } } Poc.ready := by
  unfold Rod.wakeDone
  rw [if_pos ⟨hw, h⟩]
  rfl

/-- What the end of a wakeup pattern leaves of the rod. -/
theorem Rod.wakeDone_ends (ρ : Rod) (hw : ρ.fr.waking = true) (h : ρ.fr.wakeEnd ≤ ρ.ck.up) :
    ρ.wakeDone.flush.g Fl.FR_STAT_POC = 2 ∧ ρ.wakeDone.flush.fr.waking = false ∧
    ρ.only ρ.wakeDone.flush [Rg.FR_STAT, Rg.IRQ_RAW 0x030] { ρ with fr := { ρ.fr with waking := false } } := by
  rw [Rod.wakeDone_eq_ready ρ hw h]
  let q : Rod := { ρ with fr := { ρ.fr with waking := false } }
  have hq : (q.setPoc Poc.ready).flush.agrees q := Rod.agrees_trans _ _ _ (Rod.agrees_flush _) (Rod.agrees_setPoc _ _)
  refine ⟨?_, ?_, ?_, hq⟩
  · rw [Rod.flush_g _ _ (by decide)]
    exact Rod.poc_setPoc q 2 (by decide)
  · rw [hq]
  · have hk : ρ.keepsRegs q [Rg.FR_STAT, Rg.IRQ_RAW 0x030] := Rod.keepsRegs_regs ρ ρ q _ rfl (Rod.keepsRegs_refl _ _)
    exact Rod.keepsRegs_flush _ _ _ (Rod.keepsRegs_setPoc _ _ _ _ (by simp) (by simp) hk)

/-- Settles O3: `idle` moves the clocks of every rod on, and what else it does is the end of a wakeup pattern. -/
theorem emptyQueueStepsTime : Obligations.EmptyQueueStepsTime := by
  unfold Obligations.EmptyQueueStepsTime
  intro s hs
  refine ⟨idle s, by simp only [step, hs], hs, fun r => ?_⟩
  dsimp only
  rw [idle_rod]
  constructor
  · intro hw hr
    cases hwk : (s.rod r).fr.waking with
    | false => rfl
    | true =>
      have hlt : (s.rod r).clocksOn.ck.up < (s.rod r).clocksOn.fr.wakeEnd := hw.resolve_left (by simp [hwk])
      rw [Rod.when_true, Rod.wakeDone_eq_self _ hlt, Rod.flush_nil _ (by exact hr)]
      rfl
  · intro hw hend
    rw [hw]
    exact Rod.wakeDone_ends (s.rod r).clocksOn hw hend

end Sys2Proof.Machine
end

section
/-! Reads of the register pages: which row a register has, and what a served read returns and leaves. -/

namespace Sys2Proof.Machine

/-! ### Rows and pages -/

theorem findRow_holds (l : List RegRow) (o : Nat) (row : RegRow) (h : findRow l o = some row) : row ∈ l ∧ row.holds o = true := by
  induction l with
  | nil => cases h
  | cons x t ih =>
    unfold findRow at h
    split at h
    · next hx => cases h; exact ⟨List.mem_cons_self, hx⟩
    · obtain ⟨hm, ho⟩ := ih h; exact ⟨List.mem_cons_of_mem _ hm, ho⟩

/-- A register below the common header that is no buffer's is one of its page's rows. -/
theorem regRow_mem (a : Nat) (row : RegRow) (i : PageInfo) (hp : pageInfo (a / 0x1000) = some i) (hf : i.first ≠ 0x031)
    (ho : 0x40 ≤ a % 0x1000) (h : regRow a = some row) : row ∈ i.rows ∧ row.holds (a % 0x1000) = true := by
  unfold regRow at h
  simp only [hp, if_neg (Nat.not_lt.2 ho), if_neg hf] at h
  exact findRow_holds _ _ _ h

theorem pageInfo_lt (p : Nat) (h : (pageInfo p).isSome = true) : p < 0xD1 := by
  by_contra hp
  have : pageInfo p = none := by
    unfold pageInfo
    repeat rw [if_neg (by omega)]
  rw [this] at h
  cases h

/-- The RC bits of a register (Table 0.3). -/
def rcMask (a : Nat) : Word := ((regRow a).map (·.rc)).getD 0#32

/-- The log's registers have no RC bits. -/
theorem not_log_of_rcMask (a : Nat) (h : rcMask a ≠ 0#32) : a ∉ logRegs := by
  intro hm
  simp only [logRegs, List.mem_cons, List.not_mem_nil, or_false] at hm
  rcases hm with rfl | rfl <;> exact h (by decide)

/-! ### Reads -/

/-- The upper halves held after a read (R7): that of the register read is used up, and a lower half captures its own. -/
def Rod.heldAfter (ρ : Rod) (a : Nat) : Sparse Word :=
  if isLo a then Sparse.put (Sparse.del ρ.hiCap a) (a + 4) (ρ.regView (a + 4)) else Sparse.del ρ.hiCap a

theorem Rod.heldAfter_lo (ρ : Rod) (a : Nat) (h : isLo a = true) : Sparse.get 0#32 (ρ.heldAfter a) (a + 4) = ρ.regView (a + 4) := by
  unfold Rod.heldAfter
  rw [if_pos h, Sparse.get_put, if_pos rfl]

/-- The word that a read of a register returns: an upper half held for it, or the register as it is seen. -/
def Rod.wordRead (ρ : Rod) (a : Nat) : Word :=
  match ρ.hiCap.find? fun e => e.1 == a with
  | some e => e.2
  | none => ρ.regView a

/-- Whether the page serves a read of the register (R42, R46). -/
def Rod.serves32 (ρ : Rod) (a : Nat) : Prop :=
  (pageInfo (a / 0x1000)).isSome = true ∧ (sysServed (a % 0x1000) = true ∨ ρ.pageOn (a / 0x1000) = true)

/-- A served read returns its word; the RC bits of the register restart from the events of the cycle (R13), and those of DIAG_ECC
raise event 2 (R77). -/
theorem Rod.readWord_served (ρ : Rod) (path a : Nat) (events : Word) (h : ρ.serves32 a) :
    let q : Rod := { ρ with hiCap := ρ.heldAfter a }
    ρ.readWord path a events = (ρ.wordRead a,
      (if rcMask a = 0#32 then q else q.pw a ((ρ.gw a &&& ~~~(rcMask a)) ||| (events &&& rcMask a))).when
        (decide (a = Rg.DIAG_ECC) && events != 0#32) (·.irq 0x0D0 2)) := by
  obtain ⟨hp, ho⟩ := h
  have hs : (!sysServed (a % 0x1000) && !ρ.pageOn (a / 0x1000)) = false := by rcases ho with h | h <;> simp [h]
  unfold Rod.readWord Rod.heldAfter
  simp only [Option.isNone_eq_false_iff.2 hp, hs]
  cases isLo a <;> rfl

/-- A read of a register without RC bits changes nothing but the held upper halves (R7). -/
theorem Rod.readWord_plain (ρ : Rod) (path a : Nat) (events : Word) (h : ρ.serves32 a) (hc : rcMask a = 0#32) :
    ρ.readWord path a events = (ρ.wordRead a, { ρ with hiCap := ρ.heldAfter a }) := by
  have hne : a ≠ Rg.DIAG_ECC := by rintro rfl; exact absurd hc (by decide)
  simp only [Rod.readWord_served ρ path a events h, if_pos hc, decide_eq_false hne, Bool.false_and, Rod.when_false]

/-- A 32-bit read that the rod answers sends the word read (R42). -/
theorem Rod.readOut_served (ρ : Rod) (path a : Nat) (events : Word) (ha : ρ.answers path = true) (h4 : a % 4 = 0)
    (h : ρ.serves32 a) :
    ρ.readOut path a 4 events = (ρ.readWord path a events).2.send (.read (ρ.readWord path a events).1.toNat) := by
  have hlt : a < 0x100000 := by have := pageInfo_lt _ h.1; omega
  have hb : ¬ bar2Base ≤ a := Nat.not_le.2 (Nat.lt_trans hlt (by decide))
  unfold Rod.readOut Rod.hostRead Rod.read32
  rw [if_neg hb, if_pos ha, if_neg (by omega), if_neg (Nat.not_le.2 hlt)]
  rfl

/-- What a read over the rod's own link leaves of its rod. -/
theorem exec_rcRead_served (s : State) (r : RodId) (a : Nat) (events : Word) (ha : (s.rod r).answers (r.code + 1) = true)
    (h4 : a % 4 = 0) (h : (s.rod r).serves32 a) : ∃ t, exec (.rcRead r ⟨a, 4⟩ events) s = .next t ∧
      t.rod r = (((s.rod r).readWord (r.code + 1) a events).2.send (.read ((s.rod r).readWord (r.code + 1) a events).1.toNat)).flush := by
  refine ⟨_, rfl, ?_⟩
  rw [State.rod_putRod, ← Rod.readOut_served _ _ _ _ ha h4 h]

/-- PAIR_LO_READ is the read of a register in whose cycle no event falls. -/
theorem completes_pairLoRead (s : State) (r : RodId) (a : Nat) (P : State → Prop)
    (h : completes (.rcRead r ⟨a, 4⟩ 0#32) s P) : completes (.pairLoRead r ⟨a, 4⟩) s P := h

/-- What is sent last is among the messages once the records are written. -/
theorem Rod.flush_send_mem (ρ : Rod) (o : Out) : o ∈ (ρ.send o).flush.out := by
  obtain ⟨m, hm, -⟩ := Rod.flush_out (ρ.send o)
  rw [hm, Rod.send_out]
  simp

theorem Rod.flush_send_out (ρ : Rod) (o : Out) (h : ρ.recBuf = []) : (ρ.send o).flush.out = ρ.out ++ [o] := by
  rw [Rod.flush_nil (ρ.send o) h, Rod.send_out]

/-- A read of a register without RC bits, seen from the module: it sends the word, and changes the held upper halves alone. -/
theorem completes_plainRead (s : State) (r : RodId) (a : Nat) (events : Word) (ha : (s.rod r).answers (r.code + 1) = true)
    (h4 : a % 4 = 0) (h : (s.rod r).serves32 a) (hc : rcMask a = 0#32) :
    completes (.rcRead r ⟨a, 4⟩ events) s fun t =>
      Out.read ((s.rod r).wordRead a).toNat ∈ (t.rod r).out ∧
      ((s.rod r).recBuf = [] → (t.rod r).out = (s.rod r).out ++ [.read ((s.rod r).wordRead a).toNat]) ∧
      (t.rod r).hiCap = (s.rod r).heldAfter a ∧ (s.rod r).keepsRegs (t.rod r) [] ∧
      (t.rod r).agrees { s.rod r with hiCap := (t.rod r).hiCap } := by
  obtain ⟨t, ht, e⟩ := exec_rcRead_served s r a events ha h4 h
  refine ⟨t, ht, ?_⟩
  dsimp only
  rw [e, Rod.readWord_plain _ _ _ _ h hc]
  refine ⟨Rod.flush_send_mem _ _, fun hr => Rod.flush_send_out _ _ hr, Rod.flush_hiCap _, ?_, ?_⟩
  · exact Rod.keepsRegs_flush _ _ _ (Rod.keepsRegs_regs _ _ _ _ rfl (Rod.keepsRegs_refl _ _))
  · rw [Rod.flush_hiCap]
    exact Rod.agrees_flush _

/-- What every turn of a loop keeps true, the loop keeps true. -/
theorem Rod.each_invariant {α : Type} (I : Rod → Prop) (f : α → Rod → Rod) (hf : ∀ x q, I q → I (f x q)) (l : List α) (ρ : Rod)
    (h : I ρ) : I (ρ.each l f) := by
  unfold Rod.each
  induction l generalizing ρ with
  | nil => exact h
  | cons x t ih => exact ih _ (hf x ρ h)

theorem Rod.when_invariant (I : Rod → Prop) (c : Bool) (f : Rod → Rod) (hf : ∀ q, I q → I (f q)) (ρ : Rod) (h : I ρ) :
    I (ρ.when c f) := by
  cases c
  · exact h
  · exact hf ρ h

theorem Rod.raised_congr (ρ ρ' : Rod) (p i : Nat) (h : ρ'.gw (Rg.IRQ_RAW p) = ρ.gw (Rg.IRQ_RAW p)) (hr : ρ.raised p i) :
    ρ'.raised p i := by
  unfold Rod.raised at *
  rwa [h]

/-- An event leaves the bits of IRQ_RAW that are set. -/
theorem Rod.raised_irq (ρ : Rod) (p i p' j : Nat) (h : ρ.raised p i) : (ρ.irq p' j).raised p i := by
  unfold Rod.raised Rod.irq at *
  rw [Rod.gw_irqMask]
  split
  · unfold wBit at *
    rw [BitVec.getLsbD_or, h, Bool.true_or]
  · exact h

theorem irqRaw_ne_flSeq (p : Nat) : Rg.IRQ_RAW p ≠ Rg.FL_SEQ := by
  unfold Rg.IRQ_RAW Rg.FL_SEQ
  omega

theorem Rod.gw_sevMsg (ρ : Rod) (sev : Nat) (own : Bool) (a : Nat) : (ρ.sevMsg sev own).gw a = ρ.gw a := by
  obtain ⟨b, l, e⟩ := Rod.sevMsg_cases ρ sev own
  rw [e]
  rfl

/-- A bit of IRQ_RAW that is set stays set while a record is written. -/
theorem Rod.raised_writeRec (ρ : Rod) (e : FaultRec) (own : Bool) (p i : Nat) (h : ρ.raised p i) : (ρ.writeRec e own).raised p i := by
  have hirq (j : Nat) (c : Bool) (q : Rod) (hq : q.raised p i) : (q.when c (·.irq 0x0D0 j)).raised p i :=
    Rod.when_invariant (·.raised p i) c _ (fun q' => Rod.raised_irq q' p i 0x0D0 j) q hq
  unfold Rod.writeRec
  refine Rod.when_invariant (·.raised p i) _ _ (fun q => Rod.raised_congr _ _ _ _ (Rod.gw_send q _ _)) _ ?_
  refine Rod.raised_congr _ _ _ _ (Rod.gw_sevMsg _ _ _ _) (hirq 0 _ _ (hirq 1 _ _ ?_))
  exact Rod.raised_congr _ _ _ _ (Rod.logStore_gw _ _ _ _ (irqRaw_ne_flSeq p)) h

/-- A bit of IRQ_RAW that is set stays set while the records of a command are written. -/
theorem Rod.raised_flush (ρ : Rod) (p i : Nat) (h : ρ.raised p i) : ρ.flush.raised p i :=
  Rod.each_invariant (·.raised p i) _ (fun e q => Rod.raised_writeRec q e true p i) _ _ h

/-- An event of the log's page is no change that `keepsRegs` sees. -/
theorem Rod.keepsRegs_logIrq (ρ q : Rod) (ex : List Nat) (j : Nat) (h : ρ.keepsRegs q ex) : ρ.keepsRegs (q.irq 0x0D0 j) ex := by
  intro a ha h1 h2
  rw [Rod.gw_irq_ne _ _ _ _ h2, h a ha h1 h2]

/-- A read of a register with RC bits, seen from the module: it sends the word, and its RC bits restart from the events. -/
theorem completes_countRead (s : State) (r : RodId) (a : Nat) (events : Word) (ha : (s.rod r).answers (r.code + 1) = true)
    (h4 : a % 4 = 0) (h : (s.rod r).serves32 a) (hc : rcMask a ≠ 0#32) :
    completes (.rcRead r ⟨a, 4⟩ events) s fun t =>
      Out.read ((s.rod r).wordRead a).toNat ∈ (t.rod r).out ∧
      (t.rod r).gw a = ((s.rod r).gw a &&& ~~~(rcMask a)) ||| (events &&& rcMask a) ∧
      (s.rod r).keepsRegs (t.rod r) [a] ∧ (t.rod r).agrees { s.rod r with hiCap := (t.rod r).hiCap } ∧
      (a = Rg.DIAG_ECC → events ≠ 0#32 → (t.rod r).raised 0x0D0 2) := by
  obtain ⟨t, ht, e⟩ := exec_rcRead_served s r a events ha h4 h
  refine ⟨t, ht, ?_⟩
  dsimp only
  rw [e, Rod.readWord_served _ _ _ _ h]
  dsimp only
  rw [if_neg hc]
  have hlog := not_log_of_rcMask a hc
  have hraw : a ≠ Rg.IRQ_RAW 0x0D0 := fun e => hlog (by simp [logRegs, e])
  generalize hq : ({ s.rod r with hiCap := (s.rod r).heldAfter a } : Rod).pw a _ = q
  have hgw : q.gw a = ((s.rod r).gw a &&& ~~~(rcMask a)) ||| (events &&& rcMask a) := by rw [← hq, Rod.gw_pw_same]
  have hkeep : (s.rod r).keepsRegs q [a] := by
    rw [← hq]
    exact Rod.keepsRegs_pw _ _ _ _ _ (by simp) (Rod.keepsRegs_regs _ _ _ _ rfl (Rod.keepsRegs_refl _ _))
  have hagree : q.agrees { s.rod r with hiCap := (s.rod r).heldAfter a } := by rw [← hq]; exact Rod.agrees_pw _ _ _
  refine ⟨Rod.flush_send_mem _ _, ?_, ?_, ?_, ?_⟩
  · rw [Rod.flush_gw _ _ hlog, Rod.gw_send, Rod.gw_when _ _ _ _ (fun p => Rod.gw_irq_ne p _ _ _ hraw), hgw]
  · exact Rod.keepsRegs_flush _ _ _ (Rod.when_invariant (fun p => (s.rod r).keepsRegs p [a]) _ _
      (fun p => Rod.keepsRegs_logIrq _ p _ 2) _ hkeep)
  · have hw := Rod.agrees_trans _ _ _ (Rod.agrees_when q (decide (a = Rg.DIAG_ECC) && events != 0#32) (·.irq 0x0D0 2)
      (fun p => Rod.agrees_irq p _ _)) hagree
    have hsend := Rod.agrees_trans _ _ _ (Rod.agrees_send _ (.read ((s.rod r).wordRead a).toNat)) hw
    have hf := Rod.agrees_trans _ _ _ (Rod.agrees_flush _) hsend
    obtain ⟨-, -, -, hh, -⟩ := (Rod.agrees_iff _ _).1 hf
    rw [hh]
    exact hf
  · intro ha' hev
    have hcond : (decide (a = Rg.DIAG_ECC) && events != 0#32) = true := by simp [ha', hev]
    rw [hcond, Rod.when_true]
    exact Rod.raised_flush _ _ _ (Rod.raised_congr _ _ _ _ (Rod.gw_send _ _ _) (Rod.irq_sets q 0x0D0 2 (by decide)))

/-! ### The views of FT and DIAG_ECC -/

/-- An unstaged register below the header that has no WO bits is seen as it is shown. -/
theorem Rod.regView_shown (ρ : Rod) (a : Nat) (i : PageInfo) (row : RegRow) (hi : pageInfo (a / 0x1000) = some i)
    (hr : regRow a = some row) (ho : 0x40 ≤ a % 0x1000) (hs : row.rws = 0#32) (hw : row.wo = 0#32) :
    ρ.regView a = ρ.shown (a / 0x1000) (a % 0x1000) := by
  unfold Rod.regView
  simp only [hi, hr, if_neg (Nat.not_lt.2 ho), hs, hw, bne_self_eq_false, Bool.false_and, BitVec.not_zero, BitVec.and_allOnes]
  rfl

theorem Rod.regView_FT_LO (ρ : Rod) : ρ.regView Rg.FT_LO = BitVec.ofNat 32 (ρ.ft % 2 ^ 32) :=
  Rod.regView_shown ρ Rg.FT_LO _ _ rfl rfl (by decide) (by decide) (by decide)

theorem Rod.regView_FT_HI (ρ : Rod) : ρ.regView Rg.FT_HI = BitVec.ofNat 32 (ρ.ft / 2 ^ 32) :=
  Rod.regView_shown ρ Rg.FT_HI _ _ rfl rfl (by decide) (by decide) (by decide)

theorem Rod.regView_DIAG_ECC (ρ : Rod) : ρ.regView Rg.DIAG_ECC = ρ.gw Rg.DIAG_ECC :=
  Rod.regView_shown ρ Rg.DIAG_ECC _ _ rfl rfl (by decide) (by decide) (by decide)

theorem Rod.wordRead_of_none (ρ : Rod) (a : Nat) (h : ρ.hiCap.find? (fun e => e.1 == a) = none) : ρ.wordRead a = ρ.regView a := by
  unfold Rod.wordRead
  rw [h]

theorem Rod.wordRead_of_some (ρ : Rod) (a : Nat) (e : Nat × Word) (h : ρ.hiCap.find? (fun e => e.1 == a) = some e) :
    ρ.wordRead a = e.2 := by
  unfold Rod.wordRead
  rw [h]

/-- `completes` follows from what is known of every next state. -/
theorem completes_imp {c : Instr} {s : State} {P Q : State → Prop} (h : completes c s P) (hi : ∀ t, P t → Q t) : completes c s Q := by
  obtain ⟨t, ht, hp⟩ := h
  exact ⟨t, ht, hi t hp⟩

/-- Settles O17: every read of the statement is a served read, of a register without RC bits or of one with them. -/
theorem readsReturnRegistersAndClearOnRead : Obligations.ReadsReturnRegistersAndClearOnRead := by
  unfold Obligations.ReadsReturnRegistersAndClearOnRead
  intro s r events
  dsimp only
  intro ha
  refine ⟨fun hon hno => ?_, fun w hon hheld => ?_, fun a h4 hp hon hno => ⟨fun hlo hc => ?_, fun hc => ?_⟩, fun hon hno => ?_⟩
  · refine completes_imp (completes_pairLoRead _ _ _ _ (completes_plainRead s r Rg.FT_LO 0#32 ha (by decide)
      ⟨by decide, .inr hon⟩ (by decide))) fun t ⟨_, hout, hhi, hkeep, hagree⟩ => ⟨fun hr => ?_, ?_, hkeep, hagree⟩
    · rw [hout hr, Rod.wordRead_of_none _ _ hno, Rod.regView_FT_LO, BitVec.toNat_ofNat, Nat.mod_mod]
    · rw [hhi, ← Rod.regView_FT_HI]
      exact Rod.heldAfter_lo _ Rg.FT_LO (by decide)
  · refine completes_imp (completes_plainRead s r Rg.FT_HI 0#32 ha (by decide) ⟨by decide, .inr hon⟩ (by decide))
      fun t ⟨_, hout, _, hkeep, _⟩ => ⟨fun hr => ?_, hkeep⟩
    rw [hout hr, Rod.wordRead_of_some _ _ _ hheld]
  · refine completes_imp (completes_pairLoRead _ _ _ _ (completes_plainRead s r a 0#32 ha h4 ⟨hp, hon⟩ hc))
      fun t ⟨hsent, _, hhi, hkeep, hagree⟩ => ⟨?_, ?_, hkeep, hagree⟩
    · rwa [← Rod.wordRead_of_none _ _ hno]
    · rw [hhi, Rod.heldAfter_lo _ _ hlo]
  · refine completes_imp (completes_countRead s r a events ha h4 ⟨hp, hon⟩ hc)
      fun t ⟨hsent, hgw, hkeep, hagree, _⟩ => ⟨?_, hgw, fun b hb => hkeep b (by simp_all), hagree⟩
    rwa [← Rod.wordRead_of_none _ _ hno]
  · have hall : rcMask Rg.DIAG_ECC = BitVec.allOnes 32 := by decide
    refine completes_imp (completes_countRead s r Rg.DIAG_ECC events ha (by decide) ⟨by decide, .inr hon⟩ (by decide))
      fun t ⟨hsent, hgw, hkeep, hagree, hraised⟩ => ⟨?_, hraised rfl, ?_, hkeep, hagree⟩
    · rwa [← Rod.regView_DIAG_ECC, ← Rod.wordRead_of_none _ _ hno]
    · rw [hgw, hall, BitVec.and_allOnes, BitVec.not_allOnes, BitVec.and_zero, BitVec.zero_or]

end Sys2Proof.Machine
end

section
/-! Accepted host writes: what a plain register, a staged register and the halves of a pair take, and what each write leaves. -/

namespace Sys2Proof.Machine

/-! ### What a register takes -/

theorem Rod.putReg_eq_pw (ρ : Rod) (a : Nat) (w : Word) (h : a % 0x1000 ≠ 0x44) : ρ.putReg a w = ρ.pw a w := by
  have hn : (allCols.find? fun c => a == Rg.COL_FLAGS c.val) = none := by
    rw [List.find?_eq_none]
    intro c _
    simp only [beq_iff_eq, Rg.COL_FLAGS]
    omega
  unfold Rod.putReg
  rw [hn]

/-- A register with RW bits and neither RWS nor W1C bits takes them and keeps the others (Table 0.3). -/
theorem Rod.writePlain_rw (ρ : Rod) (a : Nat) (data : Word) (row : RegRow) (hr : regRow a = some row) (hrw : row.rw ≠ 0#32)
    (hs : row.rws = 0#32) (hc : row.w1c = 0#32) (ho : a % 0x1000 ≠ 0x44) :
    ρ.writePlain a data = ρ.pw a ((ρ.gw a &&& ~~~row.rw) ||| (data &&& row.rw)) := by
  unfold Rod.writePlain
  simp only [hr, hs, hc, BitVec.or_zero, hrw, if_true, if_false, BitVec.and_zero, BitVec.not_zero, BitVec.and_allOnes]
  exact Rod.putReg_eq_pw _ _ _ ho

/-- A register with RWS bits and neither RW nor W1C bits takes the write in its shadow (R56). -/
theorem Rod.writePlain_rws (ρ : Rod) (a : Nat) (data : Word) (row : RegRow) (hr : regRow a = some row) (hrw : row.rw = 0#32)
    (hs : row.rws ≠ 0#32) (hc : row.w1c = 0#32) : ρ.writePlain a data = ρ.putShadow a data := by
  unfold Rod.writePlain
  simp only [hr, hs, hc, hrw, BitVec.or_zero, if_true, if_false]

/-- Where the bits of a mask are taken from a word, they read as that word's. -/
theorem merge_and (g v m : Word) : ((g &&& ~~~m) ||| (v &&& m)) &&& m = v &&& m := by
  ext i hi
  cases h : m[i] <;> simp [h]

/-- The RWS bits of a shadow read as they were written. -/
theorem Rod.shadowW_putShadow (ρ q : Rod) (a : Nat) (v : Word) (h : q.shadow = (ρ.putShadow a v).shadow) :
    q.shadowW a &&& rwsMask a = v &&& rwsMask a := by
  unfold Rod.shadowW
  rw [h]
  unfold Rod.putShadow
  rw [Sparse.get_put, if_pos rfl, merge_and]

/-- The RWS bits of a shadow read as they were written before another register's shadow was. -/
theorem Rod.shadowW_putShadow_before (ρ q : Rod) (a b : Nat) (v w : Word) (hab : a ≠ b)
    (h : q.shadow = ((ρ.putShadow a v).putShadow b w).shadow) : q.shadowW a &&& rwsMask a = v &&& rwsMask a := by
  unfold Rod.shadowW
  rw [h]
  unfold Rod.putShadow
  rw [Sparse.get_put, if_neg hab, Sparse.get_put, if_pos rfl, merge_and]

/-! ### What is left once the records are written -/

/-- A write of one register, that is none of the log's, changes that register alone. -/
theorem Rod.pw_flush_spec (ρ : Rod) (a : Nat) (v : Word) (h : a ∉ logRegs) :
    (ρ.pw a v).flush.gw a = v ∧ ρ.keepsRegs (ρ.pw a v).flush [a] ∧ (ρ.pw a v).flush.agrees ρ :=
  ⟨by rw [Rod.flush_gw _ _ h, Rod.gw_pw_same],
   Rod.keepsRegs_flush _ _ _ (Rod.keepsRegs_pw _ _ _ _ _ (by simp) (Rod.keepsRegs_refl _ _)),
   Rod.agrees_trans _ _ _ (Rod.agrees_flush _) (Rod.agrees_pw _ _ _)⟩

/-- What changes shadows and waiting lower halves alone leaves every register in force, and everything else. -/
theorem Rod.staged_flush_spec (ρ : Rod) (sh lo : Sparse Word) :
    let q : Rod := { ρ with shadow := sh, loPend := lo }
    ρ.keepsRegs q.flush [] ∧ q.flush.agrees { ρ with shadow := q.flush.shadow, loPend := q.flush.loPend } := by
  refine ⟨Rod.keepsRegs_flush _ _ _ (Rod.keepsRegs_regs _ _ _ _ rfl (Rod.keepsRegs_refl _ _)), ?_⟩
  rw [Rod.flush_shadow, Rod.flush_loPend]
  exact Rod.agrees_flush _

/-! ### Writes seen from the module -/

theorem retryAxis_none (a : Nat) (data : DWord) (h : a % 0x1000 ≠ 0xD8) : retryAxis a data = none := by
  unfold retryAxis
  split
  · rfl
  · unfold Rg.PMP_CMD
    rw [if_neg (by omega), if_neg (by omega), if_neg (by omega)]

/-- A write that is accepted, of a register without RWL bits that asks for no retry, does what its register does. -/
theorem exec_registerWrite_accepts (s : State) (r : RodId) (path : Path) (a : Nat) (data : Word) (h : (s.rod r).accepts path a)
    (ho : a % 0x1000 ≠ 0xD8) (hl : ((regRow a).any fun k => k.rwl != 0#32) = false) :
    ∃ t, exec (.registerWrite r path a 4 (data.setWidth 64)) s = .next t ∧
      t.rod r = ((s.rod r).writeReg s.rod path.code a data).flush := by
  refine ⟨_, write32_accepts s r path a data h (retryAxis_none _ _ ho), ?_⟩
  rw [State.rod_putRod, hl, Rod.when_false]

/-- PAIR_HI_WRITE is the 32-bit write of its register. -/
theorem exec_pairHiWrite_accepts (s : State) (r : RodId) (path : Path) (a : Nat) (data : Word) (h : (s.rod r).accepts path a)
    (ho : a % 0x1000 ≠ 0xD8) (hl : ((regRow a).any fun k => k.rwl != 0#32) = false) :
    ∃ t, exec (.pairHiWrite r path a data) s = .next t ∧ t.rod r = ((s.rod r).writeReg s.rod path.code a data).flush :=
  exec_registerWrite_accepts s r path a data h ho hl

/-- A write of a register of RW bits whose write has no further effect, seen from the module. -/
theorem completes_rwWrite (s : State) (r : RodId) (path : Path) (a : Nat) (data : Word) (row : RegRow)
    (h : (s.rod r).accepts path a) (hr : regRow a = some row) (hrw : row.rw ≠ 0#32) (hs : row.rws = 0#32) (hc : row.w1c = 0#32)
    (hl : row.rwl = 0#32) (ho : a % 0x1000 ≠ 0xD8) (hf : a % 0x1000 ≠ 0x44) (hlog : a ∉ logRegs)
    (hw : (s.rod r).writeReg s.rod path.code a data = (s.rod r).writePlain a data) :
    completes (.registerWrite r path a 4 (data.setWidth 64)) s fun t =>
      (t.rod r).gw a = ((s.rod r).gw a &&& ~~~row.rw) ||| (data &&& row.rw) ∧ (s.rod r).keepsRegs (t.rod r) [a] ∧
      (t.rod r).agrees (s.rod r) := by
  obtain ⟨t, ht, e⟩ := exec_registerWrite_accepts s r path a data h ho (by simp [hr, hl])
  refine ⟨t, ht, ?_⟩
  dsimp only
  rw [e, hw, Rod.writePlain_rw _ _ _ _ hr hrw hs hc hf]
  exact Rod.pw_flush_spec _ _ _ hlog

/-- A write of a staged register whose write has no further effect, seen from the module. -/
theorem completes_rwsWrite (s : State) (r : RodId) (path : Path) (a : Nat) (data : Word) (row : RegRow)
    (h : (s.rod r).accepts path a) (hr : regRow a = some row) (hrw : row.rw = 0#32) (hs : row.rws ≠ 0#32) (hc : row.w1c = 0#32)
    (hl : row.rwl = 0#32) (ho : a % 0x1000 ≠ 0xD8)
    (hw : (s.rod r).writeReg s.rod path.code a data = (s.rod r).writePlain a data) :
    completes (.registerWrite r path a 4 (data.setWidth 64)) s fun t =>
      (t.rod r).shadowW a &&& rwsMask a = data &&& rwsMask a ∧ (s.rod r).keepsRegs (t.rod r) [] ∧
      (t.rod r).agrees { s.rod r with shadow := (t.rod r).shadow } := by
  obtain ⟨t, ht, e⟩ := exec_registerWrite_accepts s r path a data h ho (by simp [hr, hl])
  refine ⟨t, ht, ?_⟩
  dsimp only
  rw [e, hw, Rod.writePlain_rws _ _ _ _ hr hrw hs hc]
  obtain ⟨hkeep, hagree⟩ := Rod.staged_flush_spec (s.rod r) ((s.rod r).putShadow a data).shadow (s.rod r).loPend
  exact ⟨Rod.shadowW_putShadow _ _ _ _ (Rod.flush_shadow _), hkeep, Rod.agrees_trans _ _ _ hagree (by rw [Rod.flush_loPend]; rfl)⟩

/-! ### The registers of the statement -/

/-- A write of FAULT_IRQ has no effect beyond its register. -/
theorem Rod.writeReg_FAULT_IRQ (ρ : Rod) (ps : RodId → Rod) (path : Nat) (data : Word) :
    ρ.writeReg ps path Rg.FAULT_IRQ data = ρ.writePlain Rg.FAULT_IRQ data := by
  unfold Rod.writeReg
  simp [Rg.FAULT_IRQ]

theorem regRow_FAULT_IRQ : ∃ row, regRow Rg.FAULT_IRQ = some row ∧
    row.rw = 0x1F1F#32 ∧ row.rws = 0#32 ∧ row.w1c = 0#32 ∧ row.rwl = 0#32 := ⟨_, rfl, rfl, rfl, rfl, rfl⟩

theorem pg_ctrl_place (p : Nat) : Rg.PG_CTRL p / 0x1000 = p ∧ Rg.PG_CTRL p % 0x1000 = 8 := by
  unfold Rg.PG_CTRL
  omega

/-- A write of PG_CTRL has no effect beyond its register. -/
theorem Rod.writeReg_PG_CTRL (ρ : Rod) (ps : RodId → Rod) (path p : Nat) (data : Word) :
    ρ.writeReg ps path (Rg.PG_CTRL p) data = ρ.writePlain (Rg.PG_CTRL p) data := by
  obtain ⟨-, ho⟩ := pg_ctrl_place p
  unfold Rod.writeReg
  simp only [ho]
  rfl

theorem regRow_PG_CTRL (p : Nat) (h : (pageInfo p).isSome = true) : ∃ row, regRow (Rg.PG_CTRL p) = some row ∧
    row.rw = 0x101#32 ∧ row.rws = 0#32 ∧ row.w1c = 0#32 ∧ row.rwl = 0#32 := by
  obtain ⟨hp, ho⟩ := pg_ctrl_place p
  obtain ⟨i, hi⟩ := Option.isSome_iff_exists.1 h
  have hrow : regRow (Rg.PG_CTRL p) = findRow RegRow.headerRows 8 := by
    unfold regRow
    simp only [hp, ho, hi]
    rfl
  exact ⟨_, hrow, rfl, rfl, rfl, rfl⟩

/-- The FlexRay, axis and feedback pages. -/
def configPages : List Nat := [0x030, 0x070, 0x071, 0x072, 0x080, 0x081, 0x082]

/-- The command registers of these pages: FR_CMD, INJ_CMD and PMP_CMD, FB_CMD. -/
def commandOffsets (p : Nat) : List Nat := if p = 0x030 then [0x40] else if p ≤ 0x072 then [0x74, 0xD8] else [0xA0]

/-- On these pages no register has RW bits, and none with RWS bits is a command register. -/
theorem configPages_rows : ∀ p ∈ configPages, ∀ i ∈ pageInfo p, i.first ≠ 0x031 ∧ ∀ row ∈ i.rows, row.rw = 0#32 ∧
    (row.rws ≠ 0#32 → ∀ o ∈ 0xD8 :: commandOffsets p, row.holds o = false) := by
  decide

/-- A staged register of these pages has no RW bits and is no command register. -/
theorem configPages_staged (a : Nat) (row : RegRow) (hp : a / 0x1000 ∈ configPages) (ho : 0x40 ≤ a % 0x1000)
    (hr : regRow a = some row) : row.rw = 0#32 ∧ (row.rws ≠ 0#32 → a % 0x1000 ∉ 0xD8 :: commandOffsets (a / 0x1000)) := by
  obtain ⟨i, hi⟩ : ∃ i, pageInfo (a / 0x1000) = some i := by
    cases h : pageInfo (a / 0x1000) with
    | none => simp [regRow, h] at hr
    | some i => exact ⟨i, rfl⟩
  obtain ⟨hf, hrows⟩ := configPages_rows _ hp i hi
  obtain ⟨hm, hh⟩ := regRow_mem a row i hi hf ho hr
  obtain ⟨hrw, hcmd⟩ := hrows row hm
  exact ⟨hrw, fun hs hc => by simpa [hh] using hcmd hs _ hc⟩

/-- A write of a register of these pages that is no command register has no effect beyond its register. -/
theorem Rod.writeReg_configPages (ρ : Rod) (ps : RodId → Rod) (path a : Nat) (data : Word) (hp : a / 0x1000 ∈ configPages)
    (ho : 0x40 ≤ a % 0x1000) (hc : a % 0x1000 ∉ commandOffsets (a / 0x1000)) : ρ.writeReg ps path a data = ρ.writePlain a data := by
  unfold Rod.writeReg
  simp only [configPages, List.mem_cons, List.not_mem_nil, or_false] at hp
  rcases hp with h | h | h | h | h | h | h
  all_goals
    simp [commandOffsets, h] at hc ⊢
    simp [hc, Nat.not_lt.2 ho]

/-! ### The pair SQ_BASE -/

theorem sqBaseLo_no_rwl (q : Fin 16) : ((regRow (Rg.SQ_BASE_LO q.val)).any fun k => k.rwl != 0#32) = false := by
  revert q; decide

theorem sqBaseHi_no_rwl (q : Fin 16) : ((regRow (Rg.SQ_BASE_HI q.val)).any fun k => k.rwl != 0#32) = false := by
  revert q; decide

/-- The queue pages are 0x010 to 0x01F. -/
theorem queuePage_ne (q : Fin 16) (k : Nat) (h : k < 0x10) : 0x10 + q.val ≠ k := by omega

theorem queuePage_le (q : Fin 16) : 0x10 + q.val ≤ 0x1F := by omega

/-- A write of a lower half waits for its upper half (R8). -/
theorem Rod.writeReg_SQ_BASE_LO (ρ : Rod) (ps : RodId → Rod) (path : Nat) (q : Fin 16) (data : Word) :
    ρ.writeReg ps path (Rg.SQ_BASE_LO q.val) data = { ρ with loPend := Sparse.put ρ.loPend (Rg.SQ_BASE_LO q.val) data } := by
  have hp : Rg.SQ_BASE_LO q.val / 0x1000 = 0x10 + q.val := by unfold Rg.SQ_BASE_LO; omega
  have ho : Rg.SQ_BASE_LO q.val % 0x1000 = 0x48 := by unfold Rg.SQ_BASE_LO; omega
  unfold Rod.writeReg
  simp [hp, ho, queuePage_ne q, queuePage_le q]

theorem sqBase_hi (q : Nat) : Rg.SQ_BASE_HI q = Rg.SQ_BASE_LO q + 4 := rfl

/-- A write of the upper half takes the waiting lower half with it: both shadows are written (R8, R56). -/
theorem Rod.writeReg_SQ_BASE_HI (ρ : Rod) (ps : RodId → Rod) (path : Nat) (q : Fin 16) (data lo : Word)
    (h : ρ.loPend.find? (fun e => e.1 == Rg.SQ_BASE_LO q.val) = some (Rg.SQ_BASE_LO q.val, lo)) :
    ρ.writeReg ps path (Rg.SQ_BASE_HI q.val) data =
      (({ ρ with loPend := Sparse.del ρ.loPend (Rg.SQ_BASE_LO q.val) } : Rod).putShadow (Rg.SQ_BASE_LO q.val) lo).putShadow
        (Rg.SQ_BASE_HI q.val) data := by
  have hp : Rg.SQ_BASE_HI q.val / 0x1000 = 0x10 + q.val := by unfold Rg.SQ_BASE_HI; omega
  have ho : Rg.SQ_BASE_HI q.val % 0x1000 = 0x4C := by unfold Rg.SQ_BASE_HI; omega
  have hlo : Rg.SQ_BASE_HI q.val - 4 = Rg.SQ_BASE_LO q.val := rfl
  unfold Rod.writeReg
  simp [hp, ho, hlo, h, queuePage_ne q, queuePage_le q]

/-- What the write of a pair in which the lower half waits leaves of its rod. -/
theorem Rod.pairWritten_spec (ρ : Rod) (sh lp : Sparse Word) (q : Fin 16) (data lo : Word)
    (hsh : sh = ((ρ.putShadow (Rg.SQ_BASE_LO q.val) lo).putShadow (Rg.SQ_BASE_HI q.val) data).shadow) :
    let σ : Rod := Rod.flush { ρ with shadow := sh, loPend := lp }
    σ.shadowW (Rg.SQ_BASE_HI q.val) &&& rwsMask (Rg.SQ_BASE_HI q.val) = data &&& rwsMask (Rg.SQ_BASE_HI q.val) ∧
    σ.shadowW (Rg.SQ_BASE_LO q.val) &&& rwsMask (Rg.SQ_BASE_LO q.val) = lo &&& rwsMask (Rg.SQ_BASE_LO q.val) ∧
    ρ.keepsRegs σ [] ∧ σ.agrees { ρ with shadow := σ.shadow, loPend := σ.loPend } := by
  intro σ
  have hσ : σ.shadow = ((ρ.putShadow (Rg.SQ_BASE_LO q.val) lo).putShadow (Rg.SQ_BASE_HI q.val) data).shadow :=
    (Rod.flush_shadow _).trans hsh
  exact ⟨Rod.shadowW_putShadow _ _ _ _ hσ, Rod.shadowW_putShadow_before _ _ _ _ _ _ (by rw [sqBase_hi]; omega) hσ,
    Rod.staged_flush_spec ρ sh lp⟩

theorem Sparse.find?_put {α : Type} (m : Sparse α) (k : Nat) (v : α) : (Sparse.put m k v).find? (fun e => e.1 == k) = some (k, v) := by
  induction m with
  | nil => simp [Sparse.put]
  | cons e t ih =>
    obtain ⟨j, u⟩ := e
    unfold Sparse.put
    by_cases h : k = j
    · simp [h]
    · by_cases hl : k < j
      · simp [h, hl]
      · simpa [h, hl, Ne.symm h] using ih

/-- A 32-bit write that is accepted, of a register without RWL bits, acts on the register it reaches. -/
theorem Rod.writeWord_accepts (ρ : Rod) (ps : RodId → Rod) (path : Path) (a : Nat) (data : Word) (h : ρ.accepts path a)
    (hl : ((regRow a).any fun k => k.rwl != 0#32) = false) :
    ρ.writeWord ps path.code a data = ρ.writeReg ps path.code a data := by
  obtain ⟨hans, _, _, hpage, herr⟩ := h
  unfold Rod.writeWord Rod.gate
  simp [hans, Option.isSome_iff_ne_none.1 hpage, herr, hl]

/-- Whether a write is accepted does not depend on the lower halves that wait. -/
theorem Rod.accepts_loPend (ρ : Rod) (lp : Sparse Word) (path : Path) (a : Nat) (h : ρ.accepts path a) :
    ({ ρ with loPend := lp } : Rod).accepts path a := h

/-- A 64-bit write of a pair whose halves accept it writes the lower half and then the upper one (R8, R44). -/
theorem exec_registerWrite_pair (s : State) (r : RodId) (path : Path) (a : Nat) (data lo : Word) (h : (s.rod r).accepts path a)
    (h8 : a % 8 = 0) (ho : a % 0x1000 ≠ 0xD8) :
    ∃ t, exec (.registerWrite r path a 8 (data ++ lo)) s = .next t ∧
      t.rod r = (((s.rod r).writeWord s.rod path.code a lo).writeWord s.rod path.code (a + 4) data).flush := by
  obtain ⟨hans, hlt, _, hpage, _⟩ := h
  have hb : ¬ bar2Base ≤ a := Nat.not_le.2 (Nat.lt_trans hlt (by decide))
  have hlo : (data ++ lo).setWidth 32 = lo := by
    ext i hi
    simpa [hi] using (BitVec.getLsbD_append (x := data) (y := lo) (i := i))
  have hhi : ((data ++ lo) >>> 32).setWidth 32 = data := by
    ext i hi
    simpa [BitVec.getLsbD_eq_getElem hi] using (BitVec.getLsbD_append (x := data) (y := lo) (i := 32 + i))
  refine ⟨_, rfl, ?_⟩
  unfold State.hostWrite State.passRetry Rod.hostWrite
  simp [hans, retryAxis_none _ _ ho, hb, Nat.not_le.2 hlt, Option.isSome_iff_ne_none.1 hpage, h8, hlo, hhi]

/-- Settles O15: every write of the statement is an accepted write of an RW register, of a staged one or of a half of SQ_BASE. The
pages of its third clause have no register with RW bits, so that clause is about their staged registers alone. -/
theorem registerWriteReachesItsRegister : Obligations.RegisterWriteReachesItsRegister := by
  unfold Obligations.RegisterWriteReachesItsRegister
  intro s r path data
  dsimp only
  refine ⟨fun h => ?_, fun p h => ?_, fun a row hp ho hr hc hl h => ⟨fun hrw hs => ?_, fun hrw _ _ => ?_⟩, fun q h => ?_,
    fun q lo h hlo => ?_, fun q lo hl hh => ?_⟩
  · obtain ⟨row, hr, hrw, hs, hc, hl⟩ := regRow_FAULT_IRQ
    have hwrite := completes_rwWrite s r path Rg.FAULT_IRQ data row h hr (by rw [hrw]; decide) hs hc hl (by decide) (by decide)
      (by decide) (Rod.writeReg_FAULT_IRQ _ _ _ _)
    rwa [hrw] at hwrite
  · obtain ⟨hpage, hoff⟩ := pg_ctrl_place p
    obtain ⟨row, hr, hrw, hs, hc, hl⟩ := regRow_PG_CTRL p (by obtain ⟨_, _, _, hlisted, _⟩ := h; rwa [hpage] at hlisted)
    have hlog : Rg.PG_CTRL p ∉ logRegs := by simp [logRegs, Rg.PG_CTRL, Rg.FL_SEQ, Rg.IRQ_RAW]; omega
    have hwrite := completes_rwWrite s r path (Rg.PG_CTRL p) data row h hr (by rw [hrw]; decide) hs hc hl (by omega) (by omega) hlog
      (Rod.writeReg_PG_CTRL _ _ _ _ _)
    rwa [hrw] at hwrite
  · obtain ⟨-, hcmd⟩ := configPages_staged a row hp ho hr
    obtain ⟨hd8, hoff⟩ := List.ne_and_not_mem_of_not_mem_cons (hcmd hs)
    exact completes_rwsWrite s r path a data row h hr hrw hs hc hl hd8 (Rod.writeReg_configPages _ _ _ _ _ hp ho hoff)
  · exact absurd (configPages_staged a row hp ho hr).1 hrw
  · obtain ⟨t, ht, e⟩ := exec_registerWrite_accepts s r path _ data h (by unfold Rg.SQ_BASE_LO; omega) (sqBaseLo_no_rwl q)
    refine ⟨t, ht, ?_⟩
    dsimp only
    rw [e, Rod.writeReg_SQ_BASE_LO]
    obtain ⟨hkeep, hagree⟩ := Rod.staged_flush_spec (s.rod r) (s.rod r).shadow (Sparse.put (s.rod r).loPend (Rg.SQ_BASE_LO q.val) data)
    refine ⟨?_, hkeep, Rod.agrees_trans _ _ _ hagree (by rw [Rod.flush_shadow]; rfl)⟩
    rw [Rod.flush_loPend, Sparse.get_put, if_pos rfl]
  · obtain ⟨t, ht, e⟩ := exec_pairHiWrite_accepts s r path _ data h (by unfold Rg.SQ_BASE_HI; omega) (sqBaseHi_no_rwl q)
    refine ⟨t, ht, ?_⟩
    dsimp only
    rw [e, Rod.writeReg_SQ_BASE_HI _ _ _ _ _ _ hlo]
    exact Rod.pairWritten_spec (s.rod r) _ _ q data lo rfl
  · obtain ⟨t, ht, e⟩ := exec_registerWrite_pair s r path _ data lo hl (by unfold Rg.SQ_BASE_LO; omega)
      (by unfold Rg.SQ_BASE_LO; omega)
    refine ⟨t, ht, ?_⟩
    dsimp only
    rw [e, Rod.writeWord_accepts _ _ _ _ _ hl (sqBaseLo_no_rwl q), Rod.writeReg_SQ_BASE_LO, ← sqBase_hi,
      Rod.writeWord_accepts _ _ _ _ _ (Rod.accepts_loPend _ _ _ _ hh) (sqBaseHi_no_rwl q),
      Rod.writeReg_SQ_BASE_HI _ _ _ _ _ lo (Sparse.find?_put _ _ _)]
    exact Rod.pairWritten_spec (s.rod r) _ _ q data lo rfl

end Sys2Proof.Machine
end

section
/-! The sampling instant of a rod that powers down. -/

namespace Sys2Proof.Machine

/-- Rod X on its way into DORMANT (R103), still READY: its PWM clock runs, of the switchable domains PD_PCI and PD_DRV are still on,
FT stands 1 ms after reset at the start of a tick, and the host holds no vote. -/
def leavingRod : Rod :=
  let ρ := (((Rod.init .x).p Fl.CLK_STAT_RUN 0x49).p Fl.PWR_STAT_PWR_OK 3).p Fl.ROD_STATE_ROD_X RS.ready
  { ρ with ftn := 80000, md := { ρ.md with modeFt := 1 } }

/-- The module with rod X on its way into DORMANT and its partners OFF. -/
def leavingState : State := { State.reset with x := leavingRod }

/-- The instant 1 ms after reset is one of rod X's ticks, and FT stands at it. -/
theorem leavingState_at_instant : (leavingState.x.view leavingState.rod).ticksRun = true ∧
    ((leavingState.x.view leavingState.rod).atFt (1000000#64).toNat).atInstant = true ∧ leavingState.x.ft = 1000000 := by
  decide +kernel

/-- The step at the sampling instant ends with the votes of Table 18.2: PD_DRV, with the counting frame, powers down, and FT returns
to 0. -/
theorem leavingState_ft_returns (t : State) (h : exec (.samplingInstant .x 1000000#64) leavingState = .next t) : (t.rod .x).ftn = 0 := by
  have e : (match exec (.samplingInstant .x 1000000#64) leavingState with | .next t => (t.rod .x).ftn | _ => 1) = 0 := by decide +kernel
  rwa [h] at e

/-- Refutes O25: the sampling instant ends with the review of the power votes, and where PD_DRV has lost its last vote (a rod on its
way into DORMANT) it powers down there, with which FT returns to 0 (log entry 57) and does not stand at the instant. -/
theorem not_samplingInstantsBeginATick : ¬ Obligations.SamplingInstantsBeginATick := by
  unfold Obligations.SamplingInstantsBeginATick
  intro h
  obtain ⟨hticks, hinst, -⟩ := leavingState_at_instant
  obtain ⟨t, ht, hft, -⟩ := (h leavingState .x 1000000#64 (fun q => by cases q <;> rfl)).1 hticks hinst
  rw [leavingState_ft_returns t ht] at hft
  exact absurd hft (by decide)

end Sys2Proof.Machine
end

section
/-! What a command does to the module: it replaces rods by rods whose records are written, and nothing else. -/

namespace Sys2Proof.Machine

/-! ### A state that follows another -/

/-- `t` follows `s` by one command: the commands that wait are as before, and a rod that has changed holds back no record (R39). -/
def State.follows (s t : State) : Prop := t.pending = s.pending ∧ ∀ q, t.rod q = s.rod q ∨ (t.rod q).recBuf = []

/-- `t` follows `s` by a command that reaches one rod alone (R19). -/
def State.followsIn (s : State) (r : RodId) (t : State) : Prop := s.follows t ∧ ∀ q, q ≠ r → t.rod q = s.rod q

theorem State.follows_refl (s : State) : s.follows s := ⟨rfl, fun _ => .inl rfl⟩

theorem State.follows_trans {s t u : State} (h : s.follows t) (k : t.follows u) : s.follows u := by
  obtain ⟨hp, hr⟩ := h
  obtain ⟨kp, kr⟩ := k
  refine ⟨kp.trans hp, fun q => ?_⟩
  rcases kr q with e | e
  · rw [e]
    exact hr q
  · exact .inr e

theorem State.follows_pending {s t : State} (h : s.follows t) : t.pending = s.pending := h.1

/-- No record is held back after a command where none was before it. -/
theorem State.follows_quiet {s t : State} (h : s.follows t) (hs : s.quiet) : t.quiet := by
  obtain ⟨-, hr⟩ := h
  intro q
  rcases hr q with e | e
  · rw [e]
    exact hs q
  · exact e

/-- A rod replaced by one whose records are written. -/
theorem State.followsIn_putRod (s : State) (r : RodId) (ρ : Rod) : s.followsIn r (s.putRod r ρ.flush) := by
  have hne (q : RodId) (h : q ≠ r) : (s.putRod r ρ.flush).rod q = s.rod q := State.rod_putRod_ne s r q _ h
  refine ⟨⟨State.pending_putRod _ _ _, fun q => ?_⟩, hne⟩
  by_cases hq : q = r
  · subst hq
    rw [State.rod_putRod]
    exact .inr (Rod.flush_recBuf ρ)
  · exact .inl (hne q hq)

theorem State.follows_putRod (s : State) (r : RodId) (ρ : Rod) : s.follows (s.putRod r ρ.flush) :=
  (State.followsIn_putRod s r ρ).1

theorem State.follows_foldl {α : Type} (f : State → α → State) (hf : ∀ (s : State) a, s.follows (f s a)) (l : List α) (s : State) :
    s.follows (l.foldl f s) := by
  induction l generalizing s with
  | nil => exact State.follows_refl s
  | cons a l ih => exact State.follows_trans (hf s a) (ih (f s a))

/-! ### How the commands reach the module -/

/-- A command over one rod reaches that rod alone. -/
theorem onRod_followsIn (s : State) (r : RodId) (f : Rod → Rod) : ∃ t, onRod s r f = .next t ∧ s.followsIn r t :=
  ⟨_, rfl, State.followsIn_putRod s r _⟩

/-- So does one with the partners in view. -/
theorem onRodV_followsIn (s : State) (r : RodId) (f : (RodId → Rod) → Rod → Rod) :
    ∃ t, onRodV s r f = .next t ∧ s.followsIn r t := onRod_followsIn _ _ _

/-- So does a security command. -/
theorem secWrite_followsIn (s : State) (r : RodId) (path : Path) (data : Word) (random : BitVec 256) (v : Verdict) (m : Manifest) :
    ∃ t, secWrite s r path data random v m = .next t ∧ s.followsIn r t := onRod_followsIn _ _ _

theorem State.follows_passRetry (s t : State) (r : RodId) (path a : Nat) (data : DWord) : t.follows (s.passRetry t r path a data) := by
  unfold State.passRetry
  dsimp only
  split
  · exact State.follows_refl t
  · split
    · exact State.follows_putRod _ _ _
    · exact State.follows_refl t

theorem State.follows_hostWrite (s : State) (r : RodId) (path a size : Nat) (data : DWord) :
    s.follows (s.hostWrite r path a size data) := by
  unfold State.hostWrite
  dsimp only
  split
  · exact State.follows_trans (State.follows_putRod _ _ _) (State.follows_passRetry _ _ _ _ _ _)
  · exact State.follows_putRod _ _ _

/-- A host write that asks for no retry reaches its rod alone. -/
theorem State.followsIn_hostWrite (s : State) (r : RodId) (path a size : Nat) (data : DWord) (h : retryAxis a data = none) :
    s.followsIn r (s.hostWrite r path a size data) := by
  have e : s.hostWrite r path a size data = s.putRod r ((s.rod r).hostWrite s.rod path a size data).flush := by
    unfold State.hostWrite State.passRetry
    simp only [h, ite_self]
  rw [e]
  exact State.followsIn_putRod s r _

/-- A 32-bit host write at no offset of PMP_CMD reaches its rod alone. -/
theorem write32_followsIn (s : State) (r : RodId) (path : Path) (a : Nat) (data : Word) (h : a % 0x1000 ≠ 0xD8) :
    ∃ t, write32 s r path a data = .next t ∧ s.followsIn r t :=
  ⟨_, rfl, State.followsIn_hostWrite _ _ _ _ _ _ (retryAxis_none _ _ h)⟩

theorem State.follows_armAll (s : State) : s.follows s.armAll := State.follows_foldl _ (fun s r => State.follows_putRod s r _) _ _

/-- A command after which the checks of ARMING go on in every rod. -/
theorem onRodA_follows (s : State) (r : RodId) (f : (RodId → Rod) → Rod → Rod) : ∃ t, onRodA s r f = .next t ∧ s.follows t :=
  ⟨_, rfl, State.follows_trans (State.follows_putRod _ _ _) (State.follows_armAll _)⟩

/-- What a command of a queue does to the partners. -/
theorem State.follows_side (s t : State) (r : RodId) (e : Side) : t.follows (s.side r t e) := by
  cases e with
  | wrote path a data => exact State.follows_passRetry _ _ _ _ _ _
  | gone admitter handle => exact State.follows_foldl _ (fun t p => State.follows_putRod t p _) _ _
  | held admitter handle bound dst => exact State.follows_foldl _ (fun t p => State.follows_putRod t p _) _ _

theorem onQueue_follows (s : State) (r : RodId) (f : Rod → Rod × List Side) : ∃ t, onQueue s r f = .next t ∧ s.follows t :=
  ⟨_, rfl, State.follows_trans (State.follows_putRod _ _ _) (State.follows_foldl _ (fun t e => State.follows_side s t r e) _ _)⟩

theorem onCmd_follows (opc : Nat) (s : State) (r : RodId) (q : Fin 16) (cid : BitVec 16) (v : Verdict) :
    ∃ t, onCmd opc s r q cid v = .next t ∧ s.follows t := onQueue_follows _ _ _

theorem State.follows_thirdRod (s : State) (r partner : RodId) : s.follows (s.thirdRod r partner) := by
  unfold State.thirdRod
  split
  · exact State.follows_refl s
  · exact State.follows_putRod _ _ _

/-- A command of a carry link, after which the third rod reviews its relay. -/
theorem putRod_thirdRod_follows (s : State) (r partner : RodId) (ρ : Rod) :
    s.follows ((s.putRod r ρ.flush).thirdRod r partner) :=
  State.follows_trans (State.follows_putRod _ _ _) (State.follows_thirdRod _ _ _)

theorem execReportLatch_follows (s : State) (r : RodId) (index : ReportAt) :
    ∃ t, execReportLatch r index s = .next t ∧ s.follows t := by
  refine ⟨_, rfl, ?_⟩
  split
  · exact State.follows_putRod _ _ _
  · exact State.follows_trans (State.follows_putRod _ _ _) (State.follows_putRod _ _ _)

theorem execJoinRequest_follows (s : State) (r src : RodId) (req : JoinReq) :
    ∃ t, execJoinRequest r src req s = .next t ∧ s.follows t := by
  unfold execJoinRequest
  split
  · exact ⟨s, rfl, State.follows_refl s⟩
  · refine ⟨_, rfl, ?_⟩
    split
    · exact State.follows_putRod _ _ _
    · exact State.follows_trans (State.follows_putRod _ _ _) (State.follows_putRod _ _ _)

/-! ### The commands -/

/-- A command whose effect stays in one rod is a command over that rod, or the host write of a register that asks for no retry. -/
theorem exec_followsIn (c : Instr) (s : State) (h : Instr.shared c = false) : completes c s (s.followsIn c.rod) := by
  cases c
  case registerWrite | pairHiWrite | retry | atFtCommand | forwardMessage | rankGrant | admitProposal | admitAnswer |
      admitPartnerTimeout | nop | setpoint | regWrite | regRead | memWrite | memRead | imageStage | imageVerify | capture |
      faultExport | contractAdmit | contractWithdraw | attest | lockAcq | lockRel | reportRing | joinRequest | reportLatch |
      carryLinkDown | carryLinkUp | carryClockLost | modeChange | auxContact | kauxTimeout | osdStepEnd | prechargeEnd |
      contactorWelded | samplingInstant => cases h
  all_goals
    unfold completes exec
    dsimp only
  case irqForce | stgCommit | stgOpen | stgMode | stgFtArm | mismatchClear | pageLockRequest | pageLockRelease | errcapClear =>
    exact write32_followsIn _ _ _ _ _ (by
      dsimp only [Rg.IRQ_FORCE, Rg.STG_CTRL, Rg.STG_FT_HI, Rg.STG_STAT, Rg.LOCK, Rg.ERRCAP_0]
      omega)
  case injStop | mbReady | mbHold | sqTailDoorbell | cqHeadDoorbell | qpClass | clrMax | rearm | tClr | drvDiag =>
    exact write32_followsIn _ _ _ _ _ (by
      dsimp only [Rg.INJ_CMD, Rg.MB_CTRL, Rg.SQ_TAIL, Rg.CQ_HEAD, Rg.QP_CLASS, Rg.COL_CMD, Rg.FB_CMD, Rg.DRV_CMD, Rg.DRV_DIAG]
      omega)
  case flAck | modeRequest | armRelease | take | wakeup | mtsA | mtsB | frHalt | restart | wudop | coefSync | trcCfg |
      rejoinConsent | xtest | clkMeasSel | ckoCfg | pwrHost | updReq => exact write32_followsIn _ _ _ _ _ (by decide)
  case close | openL1 | challenge | respond | applyManifest | setPassword => exact secWrite_followsIn _ _ _ _ _ _ _
  case dqFrameReceive | receiveWindowClose | dqSilent | setStateMessage | torqueCopyReceive | stateCopyReceive | removal |
      modeProposal | standstillReached | timeFrame | captureWindowClose | lockAcquired | channelSilent | clusterLost |
      pumpPhaseMessage | rejoinEntry | rejoinData | updateComplete => exact onRodV_followsIn _ _ _
  all_goals exact onRod_followsIn _ _ _

/-- A command whose effect reaches the partners at once writes the records of every rod that it replaces. -/
theorem exec_shared_follows (c : Instr) (s : State) (h : Instr.shared c = true) : completes c s s.follows := by
  cases c
  case registerWrite | pairHiWrite | retry => exact ⟨_, rfl, State.follows_hostWrite _ _ _ _ _ _⟩
  case nop | setpoint | regWrite | regRead | memWrite | memRead | imageStage | imageVerify | capture | faultExport | contractAdmit |
      contractWithdraw | attest | lockAcq | lockRel | reportRing =>
    unfold completes exec
    exact onCmd_follows _ _ _ _ _ _
  case atFtCommand | forwardMessage | rankGrant | admitProposal | admitAnswer | admitPartnerTimeout =>
    unfold completes exec
    exact onQueue_follows _ _ _
  case joinRequest => exact execJoinRequest_follows _ _ _ _
  case reportLatch => exact execReportLatch_follows _ _ _
  case carryLinkDown | carryLinkUp | carryClockLost => exact ⟨_, rfl, putRod_thirdRod_follows _ _ _ _⟩
  case modeChange | auxContact | kauxTimeout | osdStepEnd | prechargeEnd | contactorWelded | samplingInstant =>
    unfold completes exec
    exact onRodA_follows _ _ _
  all_goals cases h

/-- Every command answers a next state, which follows. -/
theorem exec_follows (c : Instr) (s : State) : completes c s s.follows := by
  cases h : Instr.shared c with
  | true => exact exec_shared_follows c s h
  | false => exact completes_imp (exec_followsIn c s h) fun _ ⟨hf, _⟩ => hf

/-- Settles O1: a command that is not shared stays in its rod, and every command writes the records of the rods it replaces. -/
theorem everyCommandCompletesOnItsRod : Obligations.EveryCommandCompletesOnItsRod := by
  unfold Obligations.EveryCommandCompletesOnItsRod
  intro c s
  cases h : Instr.shared c with
  | true =>
    obtain ⟨t, ht, hf⟩ := exec_shared_follows c s h
    exact ⟨t, ht, State.follows_pending hf, nofun, State.follows_quiet hf⟩
  | false =>
    obtain ⟨t, ht, hf, hown⟩ := exec_followsIn c s h
    exact ⟨t, ht, State.follows_pending hf, fun _ => hown, State.follows_quiet hf⟩

/-! ### Every step -/

/-- One step of time leaves no record behind: the end of a wakeup pattern writes its own. -/
theorem idle_quiet (s : State) (hs : s.quiet) : (idle s).quiet := by
  intro r
  rw [idle_rod]
  cases (s.rod r).fr.waking with
  | false => exact hs r
  | true => exact Rod.flush_recBuf _

/-- Settles O4: on an empty queue time alone goes on; else the front command has left the queue, and what it leaves follows. -/
theorem everyStepLeavesNoRecordBehind : Obligations.EveryStepLeavesNoRecordBehind := by
  unfold Obligations.EveryStepLeavesNoRecordBehind
  intro s t hq hw hstep
  unfold step at hstep
  split at hstep
  next =>
    cases hstep
    exact ⟨idle_quiet s hq, hw⟩
  next c cs hp =>
    obtain ⟨t', ht', hf⟩ := exec_follows c { s with pending := cs }
    obtain rfl : t' = t := by
      rw [hstep] at ht'
      cases ht'
      rfl
    have hrest : ({ s with pending := cs } : State).quiet := fun r => by
      rw [State.rod_pending]
      exact hq r
    refine ⟨State.follows_quiet hf hrest, fun d hd => hw d ?_⟩
    rw [State.follows_pending hf] at hd
    rw [hp]
    exact List.mem_cons_of_mem c hd

end Sys2Proof.Machine
end

section
/-! The reset state: nothing is stored in a rod, so every field reads the reset value of its register's row. -/

namespace Sys2Proof.Machine

theorem State.rod_reset (r : RodId) : State.reset.rod r = Rod.init r := by cases r <;> rfl

/-- Every field of every register reads its value at reset. -/
theorem Rod.g_init (r : RodId) (f : Fld) : (Rod.init r).g f = wBits (regReset f.addr) f.lo f.w := rfl

/-- Settles O5: nothing is stored at reset, so each field reads the value of its register's row. -/
theorem resetMeetsTheInvariants : Obligations.ResetMeetsTheInvariants := by
  unfold Obligations.ResetMeetsTheInvariants
  refine ⟨fun r => by rw [State.rod_reset]; rfl, List.forall_mem_nil _, ?_, rfl, fun r => ?_⟩
  · unfold State.wf
    simp only [show State.reset.x = Rod.init .x from rfl, show State.reset.y = Rod.init .y from rfl,
      show State.reset.z = Rod.init .z from rfl, Rod.wf_init]
    decide
  · rw [State.rod_reset]
    unfold Rod.state Rod.seen Rod.mode
    simp only [Rod.g_init]
    cases r <;> decide

end Sys2Proof.Machine
end

section
/-! Loops over different things, and what the words of the statements say of one change after another. -/

namespace Sys2Proof.Machine

theorem Tri.get_set {α : Type} (t : Tri α) (i j : Fin 3) (v : α) : (t.set i v).get j = if j = i then v else t.get j := by
  fin_cases i <;> fin_cases j <;> rfl

/-- A part of the state that no turn of a loop changes, the loop keeps. -/
theorem Rod.each_keeps_of_mem {α β : Type} (V : Rod → β) (f : α → Rod → Rod) (l : List α) (h : ∀ a ∈ l, ∀ q, V (f a q) = V q)
    (ρ : Rod) : V (ρ.each l f) = V ρ := by
  unfold Rod.each
  induction l generalizing ρ with
  | nil => rfl
  | cons a t ih => rw [List.foldl_cons, ih fun b hb => h b (List.mem_cons_of_mem a hb), h a List.mem_cons_self]

/-- In a loop over different things, a part of the state that only one of them changes is as that one leaves it: it finds the part as
it was before the loop, in a state that the loop's invariant holds of. -/
theorem Rod.each_visits {α β : Type} (I : Rod → Prop) (V : Rod → β) (f : α → Rod → Rod) (a : α) (l : List α) (hl : l.Nodup)
    (ha : a ∈ l) (hI : ∀ b q, I q → I (f b q)) (hV : ∀ b ∈ l, b ≠ a → ∀ q, V (f b q) = V q) (ρ : Rod) (h : I ρ) :
    ∃ q, I q ∧ V q = V ρ ∧ V (ρ.each l f) = V (f a q) := by
  induction l generalizing ρ with
  | nil => cases ha
  | cons b t ih =>
    obtain ⟨hb, ht⟩ := List.nodup_cons.1 hl
    have hVt : ∀ c ∈ t, c ≠ a → ∀ q, V (f c q) = V q := fun c hc => hV c (List.mem_cons_of_mem b hc)
    by_cases hab : b = a
    · subst hab
      exact ⟨ρ, h, rfl, Rod.each_keeps_of_mem V f t (fun c hc => hVt c hc fun e => hb (e ▸ hc)) (f b ρ)⟩
    · obtain ⟨q, hq, hqV, hfin⟩ := ih ht ((List.mem_cons.1 ha).resolve_left (Ne.symm hab)) hVt (f b ρ) (hI b ρ h)
      exact ⟨q, hq, hqV.trans (hV b List.mem_cons_self hab ρ), hfin⟩

theorem mem_allAxes (n : Axis) : n ∈ allAxes := by revert n; decide
theorem mem_allPhases (p : Phase) : p ∈ allPhases := by revert p; decide

/-- In a loop over the half-bridges that changes each in its own turn, a half-bridge is as its turn leaves it. -/
theorem Rod.eachHalf_visits (I : Rod → Prop) (f : Axis → Phase → Rod → Rod) (hI : ∀ m l q, I q → I (f m l q))
    (hf : ∀ m l (q : Rod) n p, n ≠ m ∨ p ≠ l → (f m l q).half n p = q.half n p) (n : Axis) (p : Phase) (ρ : Rod) (h : I ρ) :
    ∃ q, I q ∧ q.half n p = ρ.half n p ∧ (ρ.eachHalf f).half n p = (f n p q).half n p := by
  obtain ⟨q, hq, hqn, e⟩ := Rod.each_visits I (·.half n p) (fun m q => q.each allPhases fun l r => f m l r) n allAxes (by decide)
    (mem_allAxes n) (fun m q hq => Rod.each_invariant I _ (fun l q => hI m l q) allPhases q hq)
    (fun m _ hm q => Rod.each_keeps (·.half n p) _ (fun l r => hf m l r n p (.inl (Ne.symm hm))) allPhases q) ρ h
  obtain ⟨q', hq', hqp, e'⟩ := Rod.each_visits I (·.half n p) (f n) p allPhases (by decide) (mem_allPhases p)
    (fun l q => hI n l q) (fun l _ hl q => hf n l q n p (.inr (Ne.symm hl))) q hq
  exact ⟨q', hq', hqp.trans hqn, e.trans e'⟩

theorem Rod.eachHalf_invariant (I : Rod → Prop) (f : Axis → Phase → Rod → Rod) (hI : ∀ m l q, I q → I (f m l q)) (ρ : Rod)
    (h : I ρ) : I (ρ.eachHalf f) :=
  Rod.each_invariant I _ (fun m q hq => Rod.each_invariant I _ (fun l q => hI m l q) allPhases q hq) allAxes ρ h

theorem Rod.keepsRegs_trans {ρ q q' : Rod} {ex : List Nat} (h : ρ.keepsRegs q ex) (k : q.keepsRegs q' ex) : ρ.keepsRegs q' ex :=
  fun a ha h1 h2 => (k a ha h1 h2).trans (h a ha h1 h2)

/-- What is true of a rod but for its registers, messages and records stays so as the records are written. -/
theorem Rod.only_flush {ρ σ q : Rod} {ex : List Nat} (h : ρ.only q ex σ) : ρ.only q.flush ex σ := by
  obtain ⟨hk, ha⟩ := h
  exact ⟨Rod.keepsRegs_flush _ _ _ hk, Rod.agrees_trans _ _ _ (Rod.agrees_flush q) ha⟩

theorem satN_eq_min (top x : Nat) : satN top x = min top x := by
  unfold satN
  split <;> omega

/-- A count that saturates reads one more, up to the top of its field. -/
theorem Rod.g_inc (ρ : Rod) (f : Fld) (h : f.lo + f.w ≤ 32) : (ρ.inc f).g f = min (2 ^ f.w - 1) (ρ.g f + 1) := by
  unfold Rod.inc
  rw [Rod.g_p _ _ _ h, satN_eq_min]
  exact Nat.mod_eq_of_lt (Nat.lt_of_le_of_lt (Nat.min_le_left _ _) (Nat.sub_lt (Nat.two_pow_pos _) Nat.one_pos))

end Sys2Proof.Machine
end

section
/-! The duty latch and the refresh pulse: what they leave in each half-bridge, and in the rod. -/

namespace Sys2Proof.Machine

/-! ### Half-bridges -/

theorem Rod.half_putHalf (ρ : Rod) (m : Axis) (l : Phase) (h : Hb) (n : Axis) (p : Phase) :
    (ρ.putHalf m l h).half n p = if n = m ∧ p = l then h else ρ.half n p := by
  unfold Rod.putHalf Rod.half
  dsimp only
  rw [Tri.get_set]
  by_cases hn : n = m
  · subst hn
    simp only [if_true, Tri.get_set, true_and]
  · simp only [hn, if_false, false_and]

theorem Rod.half_putHalf_same (ρ : Rod) (n : Axis) (p : Phase) (h : Hb) : (ρ.putHalf n p h).half n p = h := by
  rw [Rod.half_putHalf, if_pos ⟨rfl, rfl⟩]

theorem Rod.half_putHalf_ne (ρ : Rod) (m : Axis) (l : Phase) (h : Hb) (n : Axis) (p : Phase) (hne : n ≠ m ∨ p ≠ l) :
    (ρ.putHalf m l h).half n p = ρ.half n p := by
  rw [Rod.half_putHalf, if_neg (by tauto)]

/-- Half-bridges are read from their table. -/
theorem Rod.half_congr (ρ ρ' : Rod) (h : ρ'.hb = ρ.hb) (n : Axis) (p : Phase) : ρ'.half n p = ρ.half n p := by
  unfold Rod.half
  rw [h]

/-! ### What a latch may change of its rod -/

/-- `q` is `ρ` but for its half-bridges and for what the overruns of unwritten duty words leave (R272, R273). -/
def Rod.latches (ρ q : Rod) : Prop :=
  ρ.only q [Rg.OVR_CNT, Rg.IRQ_RAW 0x060] { ρ with hb := q.hb, fresh := q.fresh, rk := { ρ.rk with ovr := q.rk.ovr } }

theorem Rod.latches_refl (ρ : Rod) : ρ.latches ρ := ⟨Rod.keepsRegs_refl _ _, rfl⟩

theorem Rod.latches_trans {ρ q q' : Rod} (h : ρ.latches q) (k : q.latches q') : ρ.latches q' := by
  obtain ⟨hk, ha⟩ := h
  obtain ⟨kk, ka⟩ := k
  refine ⟨Rod.keepsRegs_trans hk kk, ?_⟩
  unfold Rod.agrees at *
  rw [ha] at ka
  exact ka

theorem Rod.latches_pwm {ρ q : Rod} (h : ρ.latches q) : q.pwm = ρ.pwm := by
  obtain ⟨-, ha⟩ := h
  unfold Rod.agrees at ha
  rw [ha]

/-- The role of an axis is set in a register that no latch changes. -/
theorem Rod.latches_isPump {ρ q : Rod} (h : ρ.latches q) (n : Axis) : q.isPump n = ρ.isPump n := by
  obtain ⟨hk, -⟩ := h
  have hg : q.gw (Rg.AX_CFG n.val) = ρ.gw (Rg.AX_CFG n.val) :=
    hk _ (by simp only [Rg.AX_CFG, Rg.OVR_CNT, Rg.IRQ_RAW, List.mem_cons, List.not_mem_nil, or_false]; omega)
      (by unfold Rg.AX_CFG Rg.FL_SEQ; omega) (by unfold Rg.AX_CFG Rg.IRQ_RAW; omega)
  unfold Rod.isPump Rod.role
  rw [Rod.g_of_gw _ _ (Fl.AX_CFG_ROLE n.val) hg]

theorem Rod.latches_putHalf (ρ : Rod) (n : Axis) (p : Phase) (h : Hb) : ρ.latches (ρ.putHalf n p h) :=
  ⟨Rod.keepsRegs_regs _ _ _ _ rfl (Rod.keepsRegs_refl _ _), rfl⟩

theorem Rod.latches_irq (ρ : Rod) : ρ.latches (ρ.irq 0x060 0) := by
  refine ⟨Rod.keepsRegs_irq _ _ _ _ _ (by simp) (Rod.keepsRegs_refl _ _), ?_⟩
  have := Rod.agrees_irq ρ 0x060 0
  unfold Rod.agrees at *
  rw [this]

theorem Rod.latches_ovr (ρ : Rod) (o : Tri Bool) : ρ.latches { ρ with rk := { ρ.rk with ovr := o } } :=
  ⟨Rod.keepsRegs_regs _ _ _ _ rfl (Rod.keepsRegs_refl _ _), rfl⟩

theorem Rod.latches_inc (ρ : Rod) (f : Fld) (h : f.addr = Rg.OVR_CNT) : ρ.latches (ρ.inc f) := by
  unfold Rod.inc
  exact ⟨Rod.keepsRegs_p _ _ _ _ _ (by simp [h]) (Rod.keepsRegs_refl _ _), Rod.agrees_p _ _ _⟩

theorem overrunCount_addr (lo w : Nat) : Fld.addr ⟨0x060, 0x7C, lo, w⟩ = Rg.OVR_CNT := by
  simp only [Fld.addr, Rg.OVR_CNT]

/-- An overrun raises its event and counts once a tick (R273). -/
theorem Rod.latches_countOverrun (ρ : Rod) (n : Axis) : ρ.latches (ρ.countOverrun n.val) := by
  unfold Rod.countOverrun
  rw [if_neg (by omega)]
  dsimp only
  split
  · exact Rod.latches_irq ρ
  · exact Rod.latches_trans (Rod.latches_irq ρ) (Rod.latches_trans (Rod.latches_ovr _ _)
      (Rod.latches_inc _ ⟨0x060, 0x7C, _, 8⟩ (overrunCount_addr _ _)))

theorem Rod.countOverrun_hb (ρ : Rod) (k : Nat) : (ρ.countOverrun k).hb = ρ.hb := by
  unfold Rod.countOverrun
  split
  · rfl
  · dsimp only
    split <;> exact Rod.irq_hb ρ 0x060 0

/-- An unwritten duty word is recorded with a free word, and counts as an overrun (R272). -/
theorem Rod.latches_dutyMissed (ρ : Rod) (n : Axis) (p : Phase) : ρ.latches (ρ.dutyMissed n p) :=
  Rod.latches_trans ⟨Rod.keepsRegs_regs _ _ _ _ rfl (Rod.keepsRegs_refl _ _), rfl⟩ (Rod.latches_countOverrun _ n)

theorem Rod.dutyMissed_hb (ρ : Rod) (n : Axis) (p : Phase) : (ρ.dutyMissed n p).hb = ρ.hb := Rod.countOverrun_hb _ _

/-! ### The latch -/

/-- The latch of a half-bridge replaces it, and may find an overrun (R27, R28, R272). -/
theorem Rod.latchHalf_eq (ρ : Rod) (n : Axis) (p : Phase) (late : Bool) : ∃ h : Hb,
    ρ.latchHalf n p late = (ρ.putHalf n p h).when ((ρ.half n p).written.isNone && ρ.dutyDue n) (·.dutyMissed n p) ∧
    h.written = none ∧ h.tCause = (ρ.half n p).tCause ∧ h.en = (ρ.half n p).en ∧
    h.late = (if late then (ρ.half n p).written else none) ∧
    (ρ.isPump n = false → h.duty = if late then (ρ.half n p).late.getD (ρ.half n p).duty
      else (ρ.half n p).written.getD ((ρ.half n p).late.getD (ρ.half n p).duty)) := by
  refine ⟨_, rfl, rfl, rfl, rfl, rfl, fun hp => ?_⟩
  have hu : ρ.dutyUsed n = true := by
    unfold Rod.dutyUsed
    rw [hp]
    rfl
  exact if_pos hu

theorem Rod.latches_latchHalf (ρ : Rod) (n : Axis) (p : Phase) (late : Bool) : ρ.latches (ρ.latchHalf n p late) := by
  obtain ⟨h, e, -⟩ := Rod.latchHalf_eq ρ n p late
  rw [e]
  exact Rod.when_invariant ρ.latches _ _ (fun q hq => Rod.latches_trans hq (Rod.latches_dutyMissed q n p)) _
    (Rod.latches_putHalf ρ n p h)

theorem Rod.latchHalf_half_ne (ρ : Rod) (m : Axis) (l : Phase) (late : Bool) (n : Axis) (p : Phase) (hne : n ≠ m ∨ p ≠ l) :
    (ρ.latchHalf m l late).half n p = ρ.half n p := by
  obtain ⟨h, e, -⟩ := Rod.latchHalf_eq ρ m l late
  rw [e, Rod.when_keeps (·.half n p) _ _ _ fun q => Rod.half_congr _ _ (Rod.dutyMissed_hb q m l) n p]
  exact Rod.half_putHalf_ne ρ m l h n p hne

/-- What the latch leaves in its half-bridge (R27, R28, R272). -/
theorem Rod.latchHalf_half (ρ : Rod) (n : Axis) (p : Phase) (late : Bool) :
    let h := ρ.half n p
    let h' := (ρ.latchHalf n p late).half n p
    h'.written = none ∧ h'.tCause = h.tCause ∧ h'.en = h.en ∧ h'.late = (if late then h.written else none) ∧
    (ρ.isPump n = false → h'.duty = if late then h.late.getD h.duty else h.written.getD (h.late.getD h.duty)) := by
  obtain ⟨k, e, hk⟩ := Rod.latchHalf_eq ρ n p late
  dsimp only
  rwa [e, Rod.when_keeps (·.half n p) _ _ _ fun q => Rod.half_congr _ _ (Rod.dutyMissed_hb q n p) n p, Rod.half_putHalf_same]

/-! ### The statement -/

/-- DUTY_MAX and REFRESH_N come into force (R436). -/
def Rod.dutyInForce (ρ : Rod) : Rod :=
  { ρ with pwm := { ρ.pwm with duty := ⟨ρ.gw (Rg.DRV_DUTY 0), ρ.gw (Rg.DRV_DUTY 1), ρ.gw (Rg.DRV_DUTY 2)⟩ } }

theorem Rod.dutyInForce_get (ρ : Rod) (n : Axis) : ρ.dutyInForce.pwm.duty.get n = ρ.gw (Rg.DRV_DUTY n.val) := by
  fin_cases n <;> rfl

theorem Rod.dutyLatch_eq (ρ : Rod) (late : Tri (BitVec 3)) (ht : ρ.ticksRun = true) (hs : ρ.stretched = false) :
    ρ.dutyLatch late = ρ.dutyInForce.eachHalf fun n p q => q.latchHalf n p ((late.get n).getLsbD p.val) := by
  unfold Rod.dutyLatch
  rw [ht, hs]
  rfl

theorem Rod.half_flush (ρ : Rod) (n : Axis) (p : Phase) : ρ.flush.half n p = ρ.half n p := Rod.half_congr _ _ (Rod.flush_hb ρ) n p

theorem Rod.latches_flush {ρ q : Rod} (h : ρ.latches q) : ρ.latches q.flush := by
  unfold Rod.latches
  rw [Rod.flush_hb, Rod.flush_fresh, Rod.flush_rk]
  exact Rod.only_flush h

theorem drvCnt_not_log (n : Axis) : Rg.DRV_CNT n.val ∉ logRegs := by
  simp only [logRegs, Rg.DRV_CNT, Rg.FL_SEQ, Rg.IRQ_RAW, List.mem_cons, List.not_mem_nil, or_false]
  omega

/-- What DUTY_LATCH leaves of its rod once the records of the overruns are written. -/
theorem Rod.dutyLatch_flush (ρ : Rod) (late : Tri (BitVec 3)) (ht : ρ.ticksRun = true) (hs : ρ.stretched = false) :
    let q := (ρ.dutyLatch late).flush
    (∀ n : Axis, q.pwm.duty.get n = ρ.gw (Rg.DRV_DUTY n.val)) ∧
    (∀ (n : Axis) (p : Phase), (q.half n p).written = none ∧
      (ρ.isPump n = false →
        let h := ρ.half n p
        let kept := h.late.getD h.duty
        ((late.get n).getLsbD p.val = false → (q.half n p).duty = h.written.getD kept ∧ (q.half n p).late = none) ∧
        ((late.get n).getLsbD p.val = true → (q.half n p).duty = kept ∧ (q.half n p).late = h.written)) ∧
      (q.half n p).tCause = (ρ.half n p).tCause ∧ (q.half n p).en = (ρ.half n p).en) ∧
    ρ.only q [Rg.OVR_CNT, Rg.IRQ_RAW 0x060]
      { ρ with hb := q.hb, fresh := q.fresh, rk := { ρ.rk with ovr := q.rk.ovr }, pwm := { ρ.pwm with duty := q.pwm.duty } } := by
  dsimp only
  rw [Rod.dutyLatch_eq ρ late ht hs]
  have hI (n : Axis) (p : Phase) (q : Rod) (h : ρ.dutyInForce.latches q) :
      ρ.dutyInForce.latches (q.latchHalf n p ((late.get n).getLsbD p.val)) := Rod.latches_trans h (Rod.latches_latchHalf q n p _)
  have hall := Rod.latches_flush (Rod.eachHalf_invariant _ _ hI ρ.dutyInForce (Rod.latches_refl _))
  refine ⟨fun n => ?_, fun n p => ?_, ?_⟩
  · rw [Rod.latches_pwm hall]
    exact Rod.dutyInForce_get ρ n
  · obtain ⟨σ, hσ, hσh, e⟩ := Rod.eachHalf_visits _ _ hI (fun m l q n p => Rod.latchHalf_half_ne q m l _ n p) n p ρ.dutyInForce
      (Rod.latches_refl _)
    obtain ⟨hw, htc, hen, hl, hd⟩ := Rod.latchHalf_half σ n p ((late.get n).getLsbD p.val)
    rw [Rod.half_flush, e]
    rw [hσh] at htc hen hl hd
    refine ⟨hw, fun hp => ?_, htc, hen⟩
    rw [hl, hd ((Rod.latches_isPump hσ n).trans hp)]
    exact ⟨fun hlate => by rw [hlate]; exact ⟨rfl, rfl⟩, fun hlate => by rw [hlate]; exact ⟨rfl, rfl⟩⟩
  · rw [Rod.latches_pwm hall]
    exact hall

/-- A refresh pulse that is due restarts its half-bridge's count and is counted (R434, Table 13.9). -/
theorem Rod.refreshPulse_due (ρ : Rod) (n : Axis) (p : Phase) (h0 : 0 < (ρ.half n p).full) (hN : ρ.refreshN n ≤ (ρ.half n p).full) :
    let q := (ρ.refreshPulse n p).flush
    q.half n p = { ρ.half n p with full := 0 } ∧ (∀ (m : Axis) (l : Phase), m ≠ n ∨ l ≠ p → q.half m l = ρ.half m l) ∧
    q.g (Fl.DRV_CNT_REFRESH n.val) = min 0xFF (ρ.g (Fl.DRV_CNT_REFRESH n.val) + 1) ∧
    ρ.only q [Rg.DRV_CNT n.val] { ρ with hb := q.hb } := by
  have e : ρ.refreshPulse n p = (ρ.inc (Fl.DRV_CNT_REFRESH n.val)).putHalf n p { ρ.half n p with full := 0 } := by
    unfold Rod.refreshPulse
    simp only [h0, hN, decide_true, Bool.and_true, if_true]
  have hinc (m : Axis) (l : Phase) : (ρ.inc (Fl.DRV_CNT_REFRESH n.val)).half m l = ρ.half m l := rfl
  intro q
  refine ⟨?_, fun m l hne => ?_, ?_, ?_, ?_⟩
  · rw [Rod.half_flush, e, Rod.half_putHalf_same]
  · rw [Rod.half_flush, e, Rod.half_putHalf_ne _ _ _ _ _ _ hne, hinc]
  · rw [Rod.flush_g _ (Fl.DRV_CNT_REFRESH n.val) (drvCnt_not_log n), e]
    exact Rod.g_inc ρ (Fl.DRV_CNT_REFRESH n.val) (show 0 + 8 ≤ 32 by decide)
  · apply Rod.keepsRegs_flush
    rw [e]
    refine Rod.keepsRegs_regs _ (ρ.inc (Fl.DRV_CNT_REFRESH n.val)) _ _ rfl ?_
    exact Rod.keepsRegs_p _ _ _ _ _ (List.mem_singleton_self _) (Rod.keepsRegs_refl _ _)
  · refine Rod.agrees_trans _ _ _ (Rod.agrees_flush _) ?_
    rw [Rod.flush_hb, e]
    rfl

/-- One that is not due leaves the rod. -/
theorem Rod.refreshPulse_early (ρ : Rod) (n : Axis) (p : Phase) (hN : (ρ.half n p).full < ρ.refreshN n) : ρ.refreshPulse n p = ρ := by
  unfold Rod.refreshPulse
  simp only [Nat.not_le.2 hN, decide_false, Bool.and_false, Bool.false_eq_true, if_false]

/-- Settles O27: the latch turns to each half-bridge once, and a refresh pulse to the one it names. -/
theorem dutiesLatchAndRefresh : Obligations.DutiesLatchAndRefresh := by
  unfold Obligations.DutiesLatchAndRefresh
  intro s r
  refine ⟨fun late ht hs => ⟨_, rfl, ?_⟩, fun n p => ⟨fun h0 hN => ⟨_, rfl, ?_⟩, fun hN => ⟨_, rfl, ?_⟩⟩⟩
  all_goals
    dsimp only
    rw [State.rod_putRod]
  · exact Rod.dutyLatch_flush (s.rod r) late ht hs
  · exact Rod.refreshPulse_due (s.rod r) n p h0 hN
  · rw [Rod.refreshPulse_early (s.rod r) n p hN]
    exact Rod.only_flush ⟨Rod.keepsRegs_refl _ _, rfl⟩

end Sys2Proof.Machine
end

section
/-! The window of the dq frames: what a frame received leaves, how the slots are swapped in at the close, and what the judgements
after it may change. -/

namespace Sys2Proof.Machine

/-! ### Words of signal memory -/

theorem Rod.sg_sp (ρ : Rod) (a b : Nat) (v : Word) : (ρ.sp a v).sg b = if b % 16384 = a % 16384 then v else ρ.sg b :=
  Sparse.get_set _ _ _ _ _ _ fun _ => rfl

theorem Rod.sg_sp_ne (ρ : Rod) (a b : Nat) (v : Word) (ha : a < 16384) (hb : b < 16384) (h : b ≠ a) :
    (ρ.sp a v).sg b = ρ.sg b := by
  rw [Rod.sg_sp, if_neg (by omega)]

theorem Rod.sg_sp_same (ρ : Rod) (a : Nat) (v : Word) : (ρ.sp a v).sg a = v := by
  rw [Rod.sg_sp, if_pos rfl]

/-- Words are read from signal memory. -/
theorem Rod.sg_congr (ρ ρ' : Rod) (h : ρ'.rk.sig = ρ.rk.sig) (u : Nat) : ρ'.sg u = ρ.sg u := by
  unfold Rod.sg
  rw [h]

theorem slotW_lt (p : RodId) (w : Nat) (h : w < 32) : slotW p w < 16384 := by
  cases p <;> simp only [slotW, RodId.code] <;> omega

/-- The slots of the rods are apart (R286). -/
theorem slotW_ne (p q : RodId) (w v : Nat) (hw : w < 32) (hv : v < 32) (h : p ≠ q ∨ w ≠ v) : slotW p w ≠ slotW q v := by
  cases p <;> cases q <;> simp only [slotW, RodId.code] <;> simp at h <;> omega

/-- The words of a frame, as the close of the window writes them into the slot of its sender. -/
def Rod.putSlot (ρ : Rod) (p : RodId) (ws : List Word) : Rod :=
  ρ.each ((ws.take 32).zip (List.range 32)) fun w q => q.sp (slotW p w.2) w.1

/-- Only signal memory changes. -/
theorem Rod.putSlot_eq (ρ : Rod) (p : RodId) (ws : List Word) :
    ∃ m, ρ.putSlot p ws = { ρ with rk := { ρ.rk with sig := m } } := by
  refine Rod.each_invariant (fun q => ∃ m, q = { ρ with rk := { ρ.rk with sig := m } }) _ (fun w q hq => ?_) _ ρ ⟨_, rfl⟩
  obtain ⟨m, rfl⟩ := hq
  exact ⟨_, rfl⟩

theorem Rod.putSlot_sg_ne (ρ : Rod) (p : RodId) (ws : List Word) (u : Nat) (hu : u < 16384) (h : ∀ w, w < 32 → u ≠ slotW p w) :
    (ρ.putSlot p ws).sg u = ρ.sg u :=
  Rod.each_keeps_of_mem (·.sg u) _ _ (fun e he q => by
    have hw : e.2 < 32 := List.mem_range.1 (List.of_mem_zip (a := e.1) (b := e.2) he).2
    exact Rod.sg_sp_ne _ _ _ _ (slotW_lt p _ hw) hu (h _ hw)) ρ

/-- The words of a whole frame with their places in the slot. -/
theorem zip_range_eq_map (ws : List Word) (h : ws.length = 32) :
    (ws.take 32).zip (List.range 32) = (List.range 32).map fun w => (ws.getD w 0#32, w) := by
  apply List.ext_getElem
  · simp [h]
  · intro i hi hi'
    simp at hi'
    simp [h, hi']

theorem Rod.putSlot_sg (ρ : Rod) (p : RodId) (ws : List Word) (h : ws.length = 32) (w : Nat) (hw : w < 32) :
    (ρ.putSlot p ws).sg (slotW p w) = ws.getD w 0#32 := by
  have e : ρ.putSlot p ws = ρ.each (List.range 32) fun v q => q.sp (slotW p v) (ws.getD v 0#32) := by
    unfold Rod.putSlot Rod.each
    rw [zip_range_eq_map ws h, List.foldl_map]
  have hne (v : Nat) (hv : v ∈ List.range 32) (hvw : v ≠ w) (q : Rod) :
      (q.sp (slotW p v) (ws.getD v 0#32)).sg (slotW p w) = q.sg (slotW p w) :=
    have hv' := List.mem_range.1 hv
    Rod.sg_sp_ne _ _ _ _ (slotW_lt p v hv') (slotW_lt p w hw) (slotW_ne p p w v hw hv' (.inr (Ne.symm hvw)))
  obtain ⟨q, -, -, hq⟩ := Rod.each_visits (fun _ => True) (·.sg (slotW p w)) _ w _ List.nodup_range (List.mem_range.2 hw)
    (fun _ _ _ => trivial) hne ρ trivial
  rw [e]
  exact hq.trans (Rod.sg_sp_same _ _ _)

/-! ### The registers of the window -/

theorem crStat_not_log : Rg.CR_STAT ∉ logRegs := by decide

/-- A bit that a field holds stays as another is set. -/
theorem Rod.bitOf_setBit (ρ : Rod) (f : Fld) (h : f.lo + f.w ≤ 32) (i j : Nat) (hi : i < f.w) :
    (ρ.setBit f j).bitOf f i = (ρ.bitOf f i || decide (j = i)) := by
  unfold Rod.bitOf Rod.setBit
  rw [Rod.g_p _ _ _ h, Nat.testBit_mod_two_pow, Nat.testBit_or, Nat.testBit_two_pow]
  simp [hi]

theorem Rod.bitOf_congr (ρ ρ' : Rod) (f : Fld) (h : ρ'.gw f.addr = ρ.gw f.addr) (i : Nat) : ρ'.bitOf f i = ρ.bitOf f i := by
  unfold Rod.bitOf
  rw [Rod.g_of_gw _ _ _ h]

/-! ### The swap -/

/-- `q` is `ρ` but for what the swap of slots changes (R288, Table 8.4). -/
def Rod.swaps (ρ q : Rod) : Prop :=
  ρ.only q [Rg.CR_STAT] { ρ with rk := { ρ.rk with sig := q.rk.sig, dqOut := q.rk.dqOut }, red := q.red }

theorem Rod.swaps_refl (ρ : Rod) : ρ.swaps ρ := ⟨Rod.keepsRegs_refl _ _, rfl⟩

theorem Rod.swaps_trans {ρ q q' : Rod} (h : ρ.swaps q) (k : q.swaps q') : ρ.swaps q' := by
  obtain ⟨hk, ha⟩ := h
  obtain ⟨kk, ka⟩ := k
  refine ⟨Rod.keepsRegs_trans hk kk, ?_⟩
  unfold Rod.agrees at *
  rw [ha] at ka
  exact ka

theorem Rod.swaps_hid {ρ q : Rod} (h : ρ.swaps q) : q.rk.hid = ρ.rk.hid := by
  obtain ⟨-, ha⟩ := h
  unfold Rod.agrees at ha
  rw [ha]

theorem Rod.bitOf_modRed (ρ : Rod) (d : RedS → RedS) (f : Fld) (i : Nat) : (ρ.modRed d).bitOf f i = ρ.bitOf f i := rfl

/-- A slot with the words of a frame held and FLAGS the sets it marks fresh (R288). -/
def Rod.fillSlot (ρ : Rod) (p : RodId) (f : DqFrame) : Rod :=
  (ρ.putSlot p f.words).sp (slotW p 15) (flagsWord f.fresh.toNat false 0)

/-- A slot marked stale, its frame missing for the `k`th time (Table 8.4). -/
def Rod.markSlot (ρ : Rod) (p : RodId) (k : Nat) : Rod :=
  (ρ.sp (slotW p 15) (flagsWord 0 true k)).setBit Fl.CR_STAT_STALE_DQ p.code

/-- The redundancy state as the frame of a partner leaves it. -/
def RedS.heardFrom (d : RedS) (p : RodId) (f : DqFrame) : RedS :=
  { d with missing := d.missing.set p.idx 0, dqHeard := d.dqHeard.set p.idx true, pflag := d.pflag.set p.idx f.resid.toNat }

theorem Rod.slotSwap_some (ρ : Rod) (p : RodId) (f : DqFrame) (h : ρ.rk.hid.get p.idx = some f) :
    ρ.slotSwap p = { (ρ.fillSlot p f).modRed fun d => d.heardFrom p f with
      rk := { (ρ.fillSlot p f).rk with dqOut := (ρ.fillSlot p f).rk.dqOut.set p.idx false } } := by
  unfold Rod.slotSwap
  rw [h]
  rfl

theorem Rod.slotSwap_none (ρ : Rod) (p : RodId) (h : ρ.rk.hid.get p.idx = none) :
    ρ.slotSwap p = (ρ.markSlot p (min 15 (ρ.red.missing.get p.idx + 1))).modRed fun d =>
      { d with missing := d.missing.set p.idx (min 15 (ρ.red.missing.get p.idx + 1)) } := by
  unfold Rod.slotSwap
  rw [h]
  rfl

/-- Filling a slot changes signal memory alone. -/
theorem Rod.fillSlot_eq (ρ : Rod) (p : RodId) (f : DqFrame) : ∃ m, ρ.fillSlot p f = { ρ with rk := { ρ.rk with sig := m } } := by
  obtain ⟨m, hm⟩ := Rod.putSlot_eq ρ p f.words
  unfold Rod.fillSlot
  rw [hm]
  exact ⟨_, rfl⟩

/-- Marking a slot changes signal memory and CR_STAT alone. -/
theorem Rod.markSlot_eq (ρ : Rod) (p : RodId) (k : Nat) :
    ∃ m f v, f.addr = Rg.CR_STAT ∧ ρ.markSlot p k = ({ ρ with rk := { ρ.rk with sig := m } } : Rod).p f v :=
  ⟨_, Fl.CR_STAT_STALE_DQ, _, rfl, rfl⟩

theorem Rod.swaps_slotSwap (ρ : Rod) (p : RodId) : ρ.swaps (ρ.slotSwap p) := by
  cases h : ρ.rk.hid.get p.idx with
  | some f =>
    obtain ⟨m, hm⟩ := Rod.fillSlot_eq ρ p f
    rw [Rod.slotSwap_some ρ p f h, hm]
    refine ⟨Rod.keepsRegs_regs _ ρ _ _ ?_ (Rod.keepsRegs_refl _ _), ?_⟩ <;> rfl
  | none =>
    obtain ⟨m, f, v, hf, hm⟩ := Rod.markSlot_eq ρ p (min 15 (ρ.red.missing.get p.idx + 1))
    rw [Rod.slotSwap_none ρ p h, hm]
    refine ⟨Rod.keepsRegs_regs _ (({ ρ with rk := { ρ.rk with sig := m } } : Rod).p f v) _ _ ?_ ?_, ?_⟩
    · rfl
    · refine Rod.keepsRegs_p _ _ _ _ _ (List.mem_singleton.2 hf) (Rod.keepsRegs_regs _ ρ _ _ ?_ (Rod.keepsRegs_refl _ _))
      rfl
    · rfl

/-- What a partner's swap may change: its slot, its count of missing frames, and whether its frame is out. -/
def Rod.ofPartner (ρ : Rod) (p : RodId) : (Fin 32 → Word) × Nat × Bool :=
  (fun w => ρ.sg (slotW p w.val), ρ.red.missing.get p.idx, ρ.rk.dqOut.get p.idx)

theorem idx_injective (p q : RodId) (h : p.idx = q.idx) : p = q := by
  cases p <;> cases q <;> simp_all [RodId.idx]

/-- The words of signal memory after the swap of a frame held. -/
theorem Rod.slotSwap_sg_some (ρ : Rod) (p : RodId) (f : DqFrame) (h : ρ.rk.hid.get p.idx = some f) (u : Nat) :
    (ρ.slotSwap p).sg u = (ρ.fillSlot p f).sg u := by
  rw [Rod.slotSwap_some ρ p f h]
  refine Rod.sg_congr _ _ ?_ u
  rfl

/-- The words of signal memory after the mark of a missing frame. -/
theorem Rod.slotSwap_sg_none (ρ : Rod) (p : RodId) (h : ρ.rk.hid.get p.idx = none) (u : Nat) :
    (ρ.slotSwap p).sg u = (ρ.sp (slotW p 15) (flagsWord 0 true (min 15 (ρ.red.missing.get p.idx + 1)))).sg u := by
  rw [Rod.slotSwap_none ρ p h]
  refine Rod.sg_congr _ _ ?_ u
  rfl

theorem Rod.slotSwap_sg_ne (ρ : Rod) (p : RodId) (u : Nat) (hu : u < 16384) (h : ∀ w, w < 32 → u ≠ slotW p w) :
    (ρ.slotSwap p).sg u = ρ.sg u := by
  have h15 (q : Rod) (v : Word) : (q.sp (slotW p 15) v).sg u = q.sg u :=
    Rod.sg_sp_ne _ _ _ _ (slotW_lt p 15 (by decide)) hu (h 15 (by decide))
  cases e : ρ.rk.hid.get p.idx with
  | some f => rw [Rod.slotSwap_sg_some ρ p f e, Rod.fillSlot, h15, Rod.putSlot_sg_ne ρ p f.words u hu h]
  | none => rw [Rod.slotSwap_sg_none ρ p e, h15]

/-- The swap of another partner's slot leaves a partner's. -/
theorem Rod.slotSwap_ofPartner_ne (ρ : Rod) (p q : RodId) (h : q ≠ p) : (ρ.slotSwap q).ofPartner p = ρ.ofPartner p := by
  have hi : p.idx ≠ q.idx := fun e => h (idx_injective p q e).symm
  have hsg : (fun w : Fin 32 => (ρ.slotSwap q).sg (slotW p w.val)) = fun w : Fin 32 => ρ.sg (slotW p w.val) :=
    funext fun w => Rod.slotSwap_sg_ne ρ q _ (slotW_lt p w.val w.isLt)
      fun v hv => slotW_ne p q w.val v w.isLt hv (.inl (Ne.symm h))
  unfold Rod.ofPartner
  rw [hsg]
  cases e : ρ.rk.hid.get q.idx with
  | some f =>
    obtain ⟨m, hm⟩ := Rod.fillSlot_eq ρ q f
    rw [Rod.slotSwap_some ρ q f e, hm]
    simp only [Rod.modRed, RedS.heardFrom, Tri.get_set, if_neg hi]
  | none =>
    obtain ⟨m, f, v, -, hm⟩ := Rod.markSlot_eq ρ q (min 15 (ρ.red.missing.get q.idx + 1))
    rw [Rod.slotSwap_none ρ q e, hm]
    simp only [Rod.modRed, Rod.p, Rod.pw, Tri.get_set, if_neg hi]

/-- The slot of a partner whose frame is held, once swapped (R288). -/
theorem Rod.slotSwap_held (ρ : Rod) (p : RodId) (f : DqFrame) (h : ρ.rk.hid.get p.idx = some f) (hl : f.words.length = 32) :
    (∀ w, w < 32 → w ≠ 15 → (ρ.slotSwap p).sg (slotW p w) = f.words.getD w 0#32) ∧
    (ρ.slotSwap p).sg (slotW p 15) = BitVec.ofNat 32 f.fresh.toNat ∧ (ρ.slotSwap p).red.missing.get p.idx = 0 ∧
    (ρ.slotSwap p).rk.dqOut.get p.idx = false := by
  refine ⟨fun w hw h15 => ?_, ?_, ?_, ?_⟩
  · rw [Rod.slotSwap_sg_some ρ p f h, Rod.fillSlot, Rod.sg_sp_ne _ _ _ _ (slotW_lt p 15 (by decide)) (slotW_lt p w hw)
      (slotW_ne p p w 15 hw (by decide) (.inr h15)), Rod.putSlot_sg ρ p f.words hl w hw]
  · rw [Rod.slotSwap_sg_some ρ p f h, Rod.fillSlot, Rod.sg_sp_same]
    rfl
  all_goals
    rw [Rod.slotSwap_some ρ p f h]
    simp only [Rod.modRed, RedS.heardFrom, Tri.get_set, if_true]

/-- The slot of a partner whose frame is missing (R288, Table 8.4). -/
theorem Rod.slotSwap_missing (ρ : Rod) (p : RodId) (h : ρ.rk.hid.get p.idx = none) :
    let k := min 15 (ρ.red.missing.get p.idx + 1)
    (∀ w, w < 32 → w ≠ 15 → (ρ.slotSwap p).sg (slotW p w) = ρ.sg (slotW p w)) ∧
    (ρ.slotSwap p).sg (slotW p 15) = BitVec.ofNat 32 (16 + 256 * k) ∧ (ρ.slotSwap p).red.missing.get p.idx = k := by
  refine ⟨fun w hw h15 => ?_, ?_, ?_⟩
  · rw [Rod.slotSwap_sg_none ρ p h, Rod.sg_sp_ne _ _ _ _ (slotW_lt p 15 (by decide)) (slotW_lt p w hw)
      (slotW_ne p p w 15 hw (by decide) (.inr h15))]
  · rw [Rod.slotSwap_sg_none ρ p h, Rod.sg_sp_same]
    simp [flagsWord, b2n]
  · rw [Rod.slotSwap_none ρ p h]
    simp only [Rod.modRed, Tri.get_set, if_true]

theorem code_lt (p : RodId) : p.code < 3 := by cases p <;> decide

/-- Marking a slot sets its rod's bit of STALE_DQ. -/
theorem Rod.markSlot_stale (ρ : Rod) (p q : RodId) (k : Nat) :
    (ρ.markSlot q k).bitOf Fl.CR_STAT_STALE_DQ p.code = (ρ.bitOf Fl.CR_STAT_STALE_DQ p.code || decide (q.code = p.code)) :=
  Rod.bitOf_setBit (ρ.sp (slotW q 15) (flagsWord 0 true k)) Fl.CR_STAT_STALE_DQ (by decide) p.code q.code (code_lt p)

theorem Rod.slotSwap_sets_stale (ρ : Rod) (p : RodId) (h : ρ.rk.hid.get p.idx = none) :
    (ρ.slotSwap p).bitOf Fl.CR_STAT_STALE_DQ p.code = true := by
  rw [Rod.slotSwap_none ρ p h, Rod.bitOf_modRed, Rod.markSlot_stale, decide_eq_true rfl, Bool.or_true]

theorem Rod.slotSwap_keeps_stale (ρ : Rod) (p q : RodId) (h : ρ.bitOf Fl.CR_STAT_STALE_DQ p.code = true) :
    (ρ.slotSwap q).bitOf Fl.CR_STAT_STALE_DQ p.code = true := by
  cases e : ρ.rk.hid.get q.idx with
  | some f =>
    obtain ⟨m, hm⟩ := Rod.fillSlot_eq ρ q f
    rw [Rod.slotSwap_some ρ q f e, hm]
    exact h
  | none =>
    rw [Rod.slotSwap_none ρ q e, Rod.bitOf_modRed, Rod.markSlot_stale, h, Bool.true_or]

/-! ### The slots once all are swapped -/

/-- A rod whose window has just closed. -/
def Rod.windowShut (ρ : Rod) : Rod := { ρ with rk := { ρ.rk with dqOpen := false } }

theorem Rod.windowShut_swaps_hid {ρ q : Rod} (h : ρ.windowShut.swaps q) : q.rk.hid = ρ.rk.hid := (Rod.swaps_hid h).trans rfl

/-- A rod at the close of its window, its partners' slots swapped. -/
def Rod.swapped (ρ : Rod) : Rod :=
  ρ.windowShut.each ρ.me.partners fun p q => q.slotSwap p

theorem partners_nodup (r : RodId) : r.partners.Nodup := by cases r <;> decide

theorem Rod.swaps_swapped (ρ : Rod) : ρ.windowShut.swaps ρ.swapped :=
  Rod.each_invariant _ _ (fun p q h => Rod.swaps_trans h (Rod.swaps_slotSwap q p)) _ _ (Rod.swaps_refl _)

/-- A partner's slot is as its own turn leaves it. -/
theorem Rod.swapped_ofPartner (ρ : Rod) (p : RodId) (hp : p ∈ ρ.me.partners) :
    ∃ q : Rod, q.rk.hid = ρ.rk.hid ∧ q.ofPartner p = ρ.ofPartner p ∧ ρ.swapped.ofPartner p = (q.slotSwap p).ofPartner p := by
  obtain ⟨q, hq, hqV, e⟩ := Rod.each_visits _ (·.ofPartner p) (fun p q => q.slotSwap p) p ρ.me.partners (partners_nodup _) hp
    (fun p q h => Rod.swaps_trans h (Rod.swaps_slotSwap q p)) (fun b _ hb q => Rod.slotSwap_ofPartner_ne q p b hb)
    ρ.windowShut (Rod.swaps_refl _)
  exact ⟨q, Rod.windowShut_swaps_hid hq, hqV, e⟩

/-- What `ofPartner` says of its parts. -/
theorem Rod.of_ofPartner {q q' : Rod} {p : RodId} (h : q'.ofPartner p = q.ofPartner p) :
    (∀ w, w < 32 → q'.sg (slotW p w) = q.sg (slotW p w)) ∧ q'.red.missing.get p.idx = q.red.missing.get p.idx ∧
    q'.rk.dqOut.get p.idx = q.rk.dqOut.get p.idx := by
  obtain ⟨hsg, hm, ho⟩ : _ ∧ _ ∧ _ := by
    unfold Rod.ofPartner at h
    simpa only [Prod.mk.injEq] using h
  exact ⟨fun w hw => congrFun hsg ⟨w, hw⟩, hm, ho⟩

theorem Rod.swapped_held (ρ : Rod) (p : RodId) (hp : p ∈ ρ.me.partners) (f : DqFrame) (h : ρ.rk.hid.get p.idx = some f)
    (hl : f.words.length = 32) :
    (∀ w, w < 32 → w ≠ 15 → ρ.swapped.sg (slotW p w) = f.words.getD w 0#32) ∧
    ρ.swapped.sg (slotW p 15) = BitVec.ofNat 32 f.fresh.toNat ∧ ρ.swapped.red.missing.get p.idx = 0 ∧
    ρ.swapped.rk.dqOut.get p.idx = false := by
  obtain ⟨q, hhid, -, e⟩ := Rod.swapped_ofPartner ρ p hp
  obtain ⟨hsg, hm, ho⟩ := Rod.of_ofPartner e
  obtain ⟨h1, h2, h3, h4⟩ := Rod.slotSwap_held q p f (by rwa [hhid]) hl
  exact ⟨fun w hw h15 => (hsg w hw).trans (h1 w hw h15), (hsg 15 (by decide)).trans h2, hm.trans h3, ho.trans h4⟩

theorem Rod.swapped_missing (ρ : Rod) (p : RodId) (hp : p ∈ ρ.me.partners) (h : ρ.rk.hid.get p.idx = none) :
    let k := min 15 (ρ.red.missing.get p.idx + 1)
    (∀ w, w < 32 → w ≠ 15 → ρ.swapped.sg (slotW p w) = ρ.sg (slotW p w)) ∧
    ρ.swapped.sg (slotW p 15) = BitVec.ofNat 32 (16 + 256 * k) ∧ ρ.swapped.red.missing.get p.idx = k := by
  obtain ⟨q, hhid, hV, e⟩ := Rod.swapped_ofPartner ρ p hp
  obtain ⟨hsg, hm, -⟩ := Rod.of_ofPartner e
  obtain ⟨hsg0, hm0, -⟩ := Rod.of_ofPartner hV
  obtain ⟨h1, h2, h3⟩ := Rod.slotSwap_missing q p (by rwa [hhid])
  rw [hm0] at h2 h3
  exact ⟨fun w hw h15 => (hsg w hw).trans ((h1 w hw h15).trans (hsg0 w hw)), (hsg 15 (by decide)).trans h2, hm.trans h3⟩

/-- What one turn of a loop brings about, where each turn keeps it, holds after the loop. -/
theorem Rod.each_establishes {α : Type} (I J : Rod → Prop) (f : α → Rod → Rod) (a : α) (l : List α) (ha : a ∈ l)
    (hI : ∀ b q, I q → I (f b q)) (hJ : ∀ q, I q → J (f a q)) (hkeep : ∀ b q, J q → J (f b q)) (ρ : Rod) (h : I ρ) :
    J (ρ.each l f) := by
  obtain ⟨l₁, l₂, rfl⟩ := List.append_of_mem ha
  unfold Rod.each
  rw [List.foldl_append, List.foldl_cons]
  exact Rod.each_invariant J f hkeep l₂ _ (hJ _ (Rod.each_invariant I f hI l₁ ρ h))

theorem Rod.swapped_stale (ρ : Rod) (p : RodId) (hp : p ∈ ρ.me.partners) (h : ρ.rk.hid.get p.idx = none) :
    ρ.swapped.bitOf Fl.CR_STAT_STALE_DQ p.code = true := by
  refine Rod.each_establishes ρ.windowShut.swaps (·.bitOf Fl.CR_STAT_STALE_DQ p.code = true)
    _ p _ hp (fun p q hq => Rod.swaps_trans hq (Rod.swaps_slotSwap q p)) (fun q hq => ?_)
    (fun b q => Rod.slotSwap_keeps_stale q p b) _ (Rod.swaps_refl _)
  exact Rod.slotSwap_sets_stale q p (by rwa [Rod.windowShut_swaps_hid hq])

/-- Words outside the partners' slots stay. -/
theorem Rod.swapped_sg_ne (ρ : Rod) (u : Nat) (hu : u < 16384) (h : ∀ p ∈ ρ.me.partners, ¬(slotW p 0 ≤ u ∧ u ≤ slotW p 31)) :
    ρ.swapped.sg u = ρ.sg u :=
  Rod.each_keeps_of_mem (·.sg u) _ _ (fun p hp q => Rod.slotSwap_sg_ne q p u hu fun w hw e => h p hp (by
    unfold slotW at *
    omega)) _

/-! ### The judgements at the close -/

/-- `q` is `ρ` but for what judging the partners changes (R482, R485, R487): no word, no frame held, and no count of missing
frames. -/
def Rod.judges (ρ q : Rod) : Prop :=
  ρ.only q [Rg.CR_JUDGE, Rg.IRQ_RAW 0x0A0] { ρ with red := { q.red with missing := ρ.red.missing } }

theorem Rod.judges_refl (ρ : Rod) : ρ.judges ρ := ⟨Rod.keepsRegs_refl _ _, rfl⟩

theorem Rod.judges_trans {ρ q q' : Rod} (h : ρ.judges q) (k : q.judges q') : ρ.judges q' := by
  obtain ⟨hk, ha⟩ := h
  obtain ⟨kk, ka⟩ := k
  refine ⟨Rod.keepsRegs_trans hk kk, ?_⟩
  unfold Rod.agrees at *
  rw [ha] at ka
  exact ka

theorem Rod.judges_modRed (ρ : Rod) (f : RedS → RedS) (h : (f ρ.red).missing = ρ.red.missing) : ρ.judges (ρ.modRed f) := by
  refine ⟨Rod.keepsRegs_regs _ ρ _ _ rfl (Rod.keepsRegs_refl _ _), ?_⟩
  rw [← h]
  rfl

/-- A change of registers, messages and records alone. -/
theorem Rod.judges_of_agrees (ρ q : Rod) (hk : ρ.keepsRegs q [Rg.CR_JUDGE, Rg.IRQ_RAW 0x0A0]) (ha : q.agrees ρ) : ρ.judges q := by
  refine ⟨hk, ?_⟩
  unfold Rod.agrees at *
  rw [ha]

theorem Rod.judges_p (ρ : Rod) (f : Fld) (v : Nat) (h : f.addr = Rg.CR_JUDGE) : ρ.judges (ρ.p f v) :=
  Rod.judges_of_agrees _ _ (Rod.keepsRegs_p _ _ _ _ _ (by simp [h]) (Rod.keepsRegs_refl _ _)) (Rod.agrees_p _ _ _)

theorem Rod.judges_irq (ρ : Rod) (j : Nat) : ρ.judges (ρ.irq 0x0A0 j) :=
  Rod.judges_of_agrees _ _ (Rod.keepsRegs_irq _ _ _ _ _ (by simp) (Rod.keepsRegs_refl _ _)) (Rod.agrees_irq _ _ _)

theorem Rod.judges_fltAP (ρ : Rod) (c sv pg ax ph : Nat) (d : List (Nat × Nat × Nat)) : ρ.judges (ρ.fltAP c sv pg ax ph d) :=
  Rod.judges_of_agrees _ _ (Rod.keepsRegs_regs _ ρ _ _ rfl (Rod.keepsRegs_refl _ _)) (Rod.agrees_fltAP _ _ _ _ _ _ _)

theorem Rod.judges_send (ρ : Rod) (o : Out) : ρ.judges (ρ.send o) :=
  Rod.judges_of_agrees _ _ (Rod.keepsRegs_regs _ ρ _ _ rfl (Rod.keepsRegs_refl _ _)) (Rod.agrees_send _ _)

theorem Rod.judges_when (ρ : Rod) (c : Bool) (f : Rod → Rod) (h : ∀ q : Rod, q.judges (f q)) : ρ.judges (ρ.when c f) :=
  Rod.when_invariant ρ.judges c f (fun q hq => Rod.judges_trans hq (h q)) ρ (Rod.judges_refl ρ)

theorem Rod.judges_each {α : Type} (ρ : Rod) (l : List α) (f : α → Rod → Rod) (h : ∀ a (q : Rod), q.judges (f a q)) :
    ρ.judges (ρ.each l f) :=
  Rod.each_invariant ρ.judges f (fun a q hq => Rod.judges_trans hq (h a q)) l ρ (Rod.judges_refl ρ)

theorem Rod.judges_dueRemoval (ρ : Rod) (s : RodId) (tick kind : Nat) (order : Bool) : ρ.judges (ρ.dueRemoval s tick kind order) := by
  unfold Rod.dueRemoval
  split
  · exact Rod.judges_refl ρ
  · exact Rod.judges_trans (Rod.judges_modRed ρ _ rfl) (Rod.judges_when _ _ _ fun q => Rod.judges_send q _)

theorem Rod.judges_considerRemoval (ρ : Rod) (s : RodId) : ρ.judges (ρ.considerRemoval s) := by
  unfold Rod.considerRemoval
  split
  · exact Rod.judges_when _ _ _ fun q => Rod.judges_dueRemoval q s _ _ _
  · exact Rod.judges_refl ρ

/-- A judgement sets CR_JUDGE, raises its event, and may bring a removal order (R482, R488). -/
theorem Rod.judges_judge (ρ : Rod) (s : RodId) (kind axis : Nat) : ρ.judges (ρ.judge s kind axis) := by
  unfold Rod.judge
  split
  · exact Rod.judges_refl ρ
  · refine Rod.judges_trans ?_ (Rod.judges_considerRemoval _ s)
    refine Rod.judges_trans ?_ (Rod.judges_send _ _)
    refine Rod.judges_trans ?_ (Rod.judges_fltAP _ _ _ _ _ _ _)
    refine Rod.judges_trans ?_ (Rod.judges_irq _ _)
    refine Rod.judges_trans ?_ (Rod.judges_p _ Fl.CR_JUDGE_KIND _ rfl)
    exact Rod.judges_trans (Rod.judges_modRed ρ _ rfl) (Rod.judges_p _ Fl.CR_JUDGE_JUDGED _ rfl)

theorem Rod.judges_resEval (ρ : Rod) (n : Axis) : ρ.judges (ρ.resEval n) := by
  unfold Rod.resEval
  split
  · exact Rod.judges_modRed ρ _ rfl
  · exact Rod.judges_refl ρ

theorem Rod.judges_resJudge (ρ : Rod) (n : Axis) : ρ.judges (ρ.resJudge n) := by
  unfold Rod.resJudge
  split
  · dsimp only
    split
    · exact Rod.judges_judge ρ _ _ _
    · split
      · exact Rod.judges_trans (Rod.judges_modRed ρ _ rfl) (Rod.judges_fltAP _ _ _ _ _ _ _)
      · exact Rod.judges_refl ρ
  · exact Rod.judges_modRed ρ _ rfl

/-- The close of the window swaps the slots, then judges (R288). -/
theorem Rod.judges_windowClose (ρ : Rod) (ht : ρ.ticksRun = true) (ho : ρ.rk.dqOpen = true) : ρ.swapped.judges ρ.windowClose := by
  unfold Rod.windowClose
  rw [ht, ho]
  refine Rod.judges_trans (q := if RS.serving ρ.swapped.state then
      (ρ.swapped.each allAxes fun n q => q.resEval n).each allAxes fun n q => q.resJudge n
    else ρ.swapped) ?_ (Rod.judges_modRed _ _ rfl)
  split
  · exact Rod.judges_trans (Rod.judges_each _ _ _ fun n q => Rod.judges_resEval q n)
      (Rod.judges_each _ _ _ fun n q => Rod.judges_resJudge q n)
  · exact Rod.judges_refl _

/-! ### Frames received -/

theorem Rod.removalsDue_le (ρ : Rod) : ρ.removalsDue ≤ 3 := List.length_filter_le _ _

/-- No epoch is later than itself with the removals due, which are three at most. -/
theorem not_laterEpoch_add (n d : Nat) (hd : d ≤ 3) : laterEpoch n ((n + d) % 65536) = false := by
  unfold laterEpoch
  simp only [Bool.and_eq_false_iff, decide_eq_false_iff_not]
  omega

/-- A frame in this rod's own epoch is only noted (R478, R497). -/
theorem Rod.seeEpoch_own (ρ : Rod) (src : RodId) : ∃ l, ρ.seeEpoch src ρ.epoch = ρ.modRed fun d => { d with epochs := l } := by
  have hown : ρ.epoch.num.toNat = ρ.g Fl.CR_EPOCH_EPOCH := Nat.mod_eq_of_lt (wBits_lt _ 0 16)
  unfold Rod.seeEpoch
  split
  · exact ⟨ρ.red.epochs, rfl⟩
  · dsimp only
    rw [hown, not_laterEpoch_add _ _ (Rod.removalsDue_le ρ), Bool.and_false]
    exact ⟨_, rfl⟩

/-- A frame with a CRC error is counted for its link, and no more (Table 14.8). -/
theorem Rod.dqReceive_crc (ρ : Rod) (src : RodId) (f : DqFrame) (hs : src ≠ ρ.me) (hc : f.crcOk = false) :
    let q := (ρ.dqReceive src f).flush
    q.g (ρ.crcF src) = min 255 (ρ.g (ρ.crcF src) + 1) ∧ ρ.only q [Rg.CR_CNT] ρ := by
  have e : ρ.dqReceive src f = ρ.inc (ρ.crcF src) := by
    unfold Rod.dqReceive
    rw [if_neg hs, if_pos hc]
  obtain ⟨ha, hw, hlo⟩ : (ρ.crcF src).addr = Rg.CR_CNT ∧ (ρ.crcF src).w = 8 ∧ (ρ.crcF src).lo + (ρ.crcF src).w ≤ 32 := by
    obtain h | h : ρ.crcF src = Fl.CR_CNT_CRC_1 ∨ ρ.crcF src = Fl.CR_CNT_CRC_2 := ite_eq_or_eq _ _ _
    · rw [h]
      decide
    · rw [h]
      decide
  have hlog : (ρ.crcF src).addr ∉ logRegs := by
    rw [ha]
    decide
  dsimp only
  rw [e]
  refine ⟨?_, Rod.only_flush ⟨?_, Rod.agrees_p _ _ _⟩⟩
  · rw [Rod.flush_g _ _ hlog, Rod.g_inc _ _ hlo, hw]
    rfl
  · exact Rod.keepsRegs_p _ _ _ _ _ (List.mem_singleton.2 ha) (Rod.keepsRegs_refl _ _)

/-- A frame in this rod's epoch is held where it is of the current tick, and dropped where it is not (R288). -/
theorem Rod.dqReceive_own (ρ : Rod) (src : RodId) (f : DqFrame) (hs : src ≠ ρ.me) (hc : f.crcOk = true) (he : f.epoch = ρ.epoch)
    (ho : ρ.rk.dqOpen = true) :
    ∃ l h, ρ.dqReceive src f = { ρ with rk := { ρ.rk with hid := h }, red := { ρ.red with epochs := l } } ∧
      (f.tick.toNat = ρ.tick → h.get src.idx = some f) ∧ (f.tick.toNat ≠ ρ.tick → h = ρ.rk.hid) := by
  obtain ⟨l, hl⟩ := Rod.seeEpoch_own ρ src
  have hin : ((ρ.seeEpoch src f.epoch).rk.dqOpen && f.tick.toNat == (ρ.seeEpoch src f.epoch).tick) =
      decide (f.tick.toNat = ρ.tick) := by
    rw [he, hl]
    show (ρ.rk.dqOpen && f.tick.toNat == ρ.tick) = _
    rw [ho, Bool.true_and]
    rfl
  unfold Rod.dqReceive
  rw [if_neg hs, if_neg (by rw [hc]; exact Bool.noConfusion)]
  dsimp only
  rw [hin, he, hl]
  by_cases hk : f.tick.toNat = ρ.tick
  · rw [if_pos (decide_eq_true hk)]
    exact ⟨l, ρ.rk.hid.set src.idx (some f), rfl, fun _ => by rw [Tri.get_set, if_pos rfl], fun hn => absurd hk hn⟩
  · rw [if_neg (by rwa [decide_eq_true_eq])]
    exact ⟨l, ρ.rk.hid, rfl, fun h => absurd h hk, fun _ => rfl⟩

/-- What DQ_FRAME_RECEIVE leaves of its rod for a frame in this rod's epoch. -/
theorem Rod.dqReceive_own_flush (ρ : Rod) (src : RodId) (f : DqFrame) (hs : src ≠ ρ.me) (hc : f.crcOk = true)
    (he : f.epoch = ρ.epoch) (ho : ρ.rk.dqOpen = true) :
    let q := (ρ.dqReceive src f).flush
    (f.tick.toNat = ρ.tick → q.rk.hid.get src.idx = some f) ∧ (f.tick.toNat ≠ ρ.tick → q.rk.hid = ρ.rk.hid) ∧
    ρ.only q [] { ρ with rk := { ρ.rk with hid := q.rk.hid }, red := { ρ.red with epochs := q.red.epochs } } := by
  obtain ⟨l, h, e, hheld, hdrop⟩ := Rod.dqReceive_own ρ src f hs hc he ho
  dsimp only
  rw [e, Rod.flush_rk, Rod.flush_red]
  refine ⟨hheld, hdrop, Rod.only_flush ⟨Rod.keepsRegs_regs _ ρ _ _ ?_ (Rod.keepsRegs_refl _ _), ?_⟩⟩ <;> rfl

/-! ### The statement -/

/-- What the judgements leave of a rod, seen in its parts. -/
theorem Rod.judges_parts {ρ q : Rod} (h : ρ.judges q) :
    q.rk = ρ.rk ∧ q.red.missing = ρ.red.missing ∧ q.gw Rg.CR_STAT = ρ.gw Rg.CR_STAT := by
  obtain ⟨hk, ha⟩ := h
  refine ⟨?_, ?_, hk Rg.CR_STAT (by decide) (by decide) (by decide)⟩
  · unfold Rod.agrees at ha
    rw [ha]
  · unfold Rod.agrees at ha
    rw [ha]

/-- What RECEIVE_WINDOW_CLOSE may change of its rod. -/
theorem Rod.only_windowClose (ρ : Rod) (ht : ρ.ticksRun = true) (ho : ρ.rk.dqOpen = true) :
    let q := ρ.windowClose
    ρ.only q [Rg.CR_STAT, Rg.CR_JUDGE, Rg.IRQ_RAW 0x0A0]
      { ρ with rk := { ρ.rk with dqOpen := false, sig := q.rk.sig, dqOut := q.rk.dqOut }, red := q.red } := by
  obtain ⟨hk, ha⟩ := Rod.swaps_swapped ρ
  obtain ⟨kk, ka⟩ := Rod.judges_windowClose ρ ht ho
  refine ⟨fun a hex h1 h2 => ?_, ?_⟩
  · obtain ⟨hs, hj⟩ : a ≠ Rg.CR_STAT ∧ a ∉ [Rg.CR_JUDGE, Rg.IRQ_RAW 0x0A0] := not_or.1 (mt List.mem_cons.2 hex)
    exact (kk a hj h1 h2).trans (hk a (mt List.mem_singleton.1 hs) h1 h2)
  · unfold Rod.agrees at *
    rw [ha] at ka
    rw [ka]
    rfl

/-- What RECEIVE_WINDOW_CLOSE leaves, seen once its records are written. -/
theorem Rod.windowClose_flush (ρ : Rod) (ht : ρ.ticksRun = true) (ho : ρ.rk.dqOpen = true) :
    let q := ρ.windowClose.flush
    (∀ u, q.sg u = ρ.swapped.sg u) ∧ q.rk = ρ.swapped.rk ∧ q.red.missing = ρ.swapped.red.missing ∧
    ∀ i, q.bitOf Fl.CR_STAT_STALE_DQ i = ρ.swapped.bitOf Fl.CR_STAT_STALE_DQ i := by
  obtain ⟨hrk, hm, hst⟩ := Rod.judges_parts (Rod.judges_windowClose ρ ht ho)
  have hrk' : ρ.windowClose.flush.rk = ρ.swapped.rk := (Rod.flush_rk _).trans hrk
  refine ⟨Rod.sg_congr _ _ (congrArg RkS.sig hrk'), hrk', ?_, Rod.bitOf_congr _ _ _ ?_⟩
  · rw [Rod.flush_red, hm]
  · exact (Rod.flush_gw _ _ crStat_not_log).trans hst

theorem Rod.swapped_dqOpen (ρ : Rod) : ρ.swapped.rk.dqOpen = false := by
  obtain ⟨-, ha⟩ := Rod.swaps_swapped ρ
  unfold Rod.agrees at ha
  rw [ha]
  rfl

/-- Settles O24: each partner's slot is swapped in its own turn, and the judgements after that leave the slots. -/
theorem dqFramesReachTheSlotsAtTheClose : Obligations.DqFramesReachTheSlotsAtTheClose := by
  unfold Obligations.DqFramesReachTheSlotsAtTheClose
  intro s r
  refine ⟨fun src f hs hc => ⟨_, rfl, ?_⟩, fun src f hs hc he ho => ⟨_, rfl, ?_⟩, fun ht ho => ⟨_, rfl, ?_⟩⟩
  all_goals
    dsimp only
    rw [State.rod_putRod]
  · exact Rod.dqReceive_crc _ src f hs hc
  · exact Rod.dqReceive_own_flush _ src f hs hc he ho
  · generalize (s.rod r).view s.rod = ρ at ht ho ⊢
    obtain ⟨hsg, hrk, hm, hst⟩ := Rod.windowClose_flush ρ ht ho
    refine ⟨?_, fun p hp f hf hl => ?_, fun p hp hf => ?_, fun u hu hp => ?_, ?_⟩
    · rw [hrk]
      exact Rod.swapped_dqOpen ρ
    · simp only [hsg, hrk, hm]
      exact Rod.swapped_held ρ p hp f hf hl
    · obtain ⟨hw, h15, hk⟩ := Rod.swapped_missing ρ p hp hf
      simp only [hsg, hm, hst]
      exact ⟨hw, h15, hk, Rod.swapped_stale ρ p hp hf⟩
    · rw [hsg]
      exact Rod.swapped_sg_ne ρ u hu hp
    · rw [Rod.flush_rk, Rod.flush_red]
      exact Rod.only_flush (Rod.only_windowClose ρ ht ho)

end Sys2Proof.Machine
end

section
/-! Access errors: what a write that is refused leaves in its page's ERRCAP registers, and which writes are refused. -/

namespace Sys2Proof.Machine

/-! ### Registers of a page header -/

theorem path_code_lt (path : Path) : path.code < 8 := by cases path <;> decide

/-- Of the registers of the page headers the log writes IRQ_RAW alone. -/
theorem header_not_log (p o : Nat) (h : o < 0x40) (hr : o ≠ 0x10) : p * 0x1000 + o ∉ logRegs := by
  simp only [logRegs, Rg.FL_SEQ, Rg.IRQ_RAW, List.mem_cons, List.not_mem_nil, or_false]
  omega

theorem Rod.b_congr (ρ ρ' : Rod) (f : Fld) (h : ρ'.gw f.addr = ρ.gw f.addr) : ρ'.b f = ρ.b f := by
  unfold Rod.b
  rw [Rod.g_of_gw ρ ρ' f h]

/-- A field that is a whole register reads as the word written to it. -/
theorem Rod.gw_p_whole (ρ : Rod) (f : Fld) (v : Word) (hl : f.lo = 0) (hw : f.w = 32) : (ρ.p f v.toNat).gw f.addr = v := by
  unfold Rod.p
  rw [Rod.gw_pw_same, hl, hw]
  ext i hi
  rw [← BitVec.getLsbD_eq_getElem, wPut_getLsbD _ _ _ _ _ (by decide), if_pos (by omega), Nat.sub_zero, BitVec.testBit_toNat,
    BitVec.getLsbD_eq_getElem]

/-! ### What a change of some registers leaves

`Rod.only` after each of the shared operations. -/

theorem Rod.only_refl (ρ : Rod) (ex : List Nat) : ρ.only ρ ex ρ := ⟨Rod.keepsRegs_refl _ _, Rod.agrees_refl _⟩

theorem Rod.only_pw {ρ q σ : Rod} {ex : List Nat} (a : Nat) (v : Word) (ha : a ∈ ex) (h : ρ.only q ex σ) : ρ.only (q.pw a v) ex σ :=
  ⟨Rod.keepsRegs_pw _ _ _ _ _ ha h.1, Rod.agrees_trans _ _ _ (Rod.agrees_pw _ _ _) h.2⟩

theorem Rod.only_p {ρ q σ : Rod} {ex : List Nat} (f : Fld) (v : Nat) (hf : f.addr ∈ ex) (h : ρ.only q ex σ) : ρ.only (q.p f v) ex σ :=
  Rod.only_pw f.addr _ hf h

theorem Rod.only_irqMask {ρ q σ : Rod} {ex : List Nat} (p : Nat) (m : Word) (hp : Rg.IRQ_RAW p ∈ ex) (h : ρ.only q ex σ) :
    ρ.only (q.irqMask p m) ex σ :=
  ⟨Rod.keepsRegs_irqMask _ _ _ _ _ hp h.1, Rod.agrees_trans _ _ _ (Rod.agrees_irqMask _ _ _) h.2⟩

theorem Rod.only_irq {ρ q σ : Rod} {ex : List Nat} (p i : Nat) (hp : Rg.IRQ_RAW p ∈ ex) (h : ρ.only q ex σ) : ρ.only (q.irq p i) ex σ :=
  Rod.only_irqMask p _ hp h

theorem Rod.only_fltAP {ρ q σ : Rod} {ex : List Nat} {c sv pg ax ph : Nat} {d : List (Nat × Nat × Nat)} (h : ρ.only q ex σ) :
    ρ.only (q.fltAP c sv pg ax ph d) ex σ :=
  ⟨Rod.keepsRegs_regs _ q _ _ rfl h.1, Rod.agrees_trans _ _ _ (Rod.agrees_fltAP _ _ _ _ _ _ _) h.2⟩

theorem Rod.only_when {ρ q σ : Rod} {ex : List Nat} (c : Bool) (f : Rod → Rod) (hf : ∀ q, ρ.only q ex σ → ρ.only (f q) ex σ)
    (h : ρ.only q ex σ) : ρ.only (q.when c f) ex σ := Rod.when_invariant (ρ.only · ex σ) c f hf q h

theorem Rod.only_mono {ρ q σ : Rod} {ex ex' : List Nat} (hex : ex ⊆ ex') (h : ρ.only q ex σ) : ρ.only q ex' σ :=
  ⟨fun a ha => h.1 a fun k => ha (hex k), h.2⟩

/-! ### A captured error -/

/-- ERRCAP_0 and ERRCAP_1 of a page take an access error (R55). -/
def Rod.capture (ρ : Rod) (p type path off : Nat) (data : Word) : Rod :=
  (((((ρ.p (Fl.ERRCAP_0_VALID p) 1).p (Fl.ERRCAP_0_OVERFLOW p) 0).p (Fl.ERRCAP_0_TYPE p) type).p (Fl.ERRCAP_0_PATH p) path).p
    (Fl.ERRCAP_0_OFFSET p) off).p (Fl.ERRCAP_1_DATA p) data.toNat

/-- The record of a captured error, where ERR_LOG asks for it (R49). -/
def Rod.captureRec (ρ : Rod) (p : Nat) (data : Word) : Rod :=
  ρ.when (ρ.b (Fl.PG_CTRL_ERR_LOG p)) fun r => r.flt 0x01F9 sevInfo p [(0, 4, (r.gw (Rg.ERRCAP_0 p)).toNat), (4, 4, data.toNat)]

/-- An error of a page that holds none is captured, with event 31 (R55). -/
theorem Rod.errCap_first (ρ : Rod) (p type path off : Nat) (data : Word) (h : ρ.b (Fl.ERRCAP_0_VALID p) = false) :
    ρ.errCap p type path off data = ((ρ.capture p type path off data).irq p 31).captureRec p data := by
  unfold Rod.errCap
  rw [h]
  rfl

/-- A further error of the page sets OVERFLOW alone (R55). -/
theorem Rod.errCap_again (ρ : Rod) (p type path off : Nat) (data : Word) (h : ρ.b (Fl.ERRCAP_0_VALID p) = true) :
    ρ.errCap p type path off data = ρ.p (Fl.ERRCAP_0_OVERFLOW p) 1 := by
  unfold Rod.errCap
  rw [if_pos h]

theorem Rod.gw_captureRec (ρ : Rod) (p : Nat) (data : Word) (a : Nat) : (ρ.captureRec p data).gw a = ρ.gw a :=
  Rod.gw_when ρ _ _ a fun _ => rfl

theorem Rod.capture_fields (ρ : Rod) (p type path off : Nat) (data : Word) :
    let q := ρ.capture p type path off data
    q.b (Fl.ERRCAP_0_VALID p) = true ∧ q.b (Fl.ERRCAP_0_OVERFLOW p) = false ∧ q.g (Fl.ERRCAP_0_TYPE p) = type % 16 ∧
    q.g (Fl.ERRCAP_0_PATH p) = path % 8 ∧ q.g (Fl.ERRCAP_0_OFFSET p) = off % 4096 ∧ q.gw (Rg.ERRCAP_1 p) = data := by
  have hd : (ρ.capture p type path off data).gw (Rg.ERRCAP_1 p) = data := Rod.gw_p_whole _ (Fl.ERRCAP_1_DATA p) data rfl rfl
  refine ⟨?_, ?_, ?_, ?_, ?_, hd⟩
  all_goals
    simp [Rod.b, Rod.capture, Rod.g_p, Rod.g_p_ne, Fld.addr, Fl.ERRCAP_0_VALID, Fl.ERRCAP_0_OVERFLOW, Fl.ERRCAP_0_TYPE, Fl.ERRCAP_0_PATH,
      Fl.ERRCAP_0_OFFSET, Fl.ERRCAP_1_DATA]

/-- The registers of a page that a captured error writes. -/
def errRegs (p : Nat) : List Nat := [Rg.ERRCAP_0 p, Rg.ERRCAP_1 p, Rg.IRQ_RAW p]

theorem Rod.only_capture (ρ : Rod) (p type path off : Nat) (data : Word) :
    ρ.only (ρ.capture p type path off data) [Rg.ERRCAP_0 p, Rg.ERRCAP_1 p] ρ := by
  refine Rod.only_p (Fl.ERRCAP_1_DATA p) _ (.tail _ (.head _)) ?_
  refine Rod.only_p (Fl.ERRCAP_0_OFFSET p) _ (.head _) (Rod.only_p (Fl.ERRCAP_0_PATH p) _ (.head _) ?_)
  refine Rod.only_p (Fl.ERRCAP_0_TYPE p) _ (.head _) (Rod.only_p (Fl.ERRCAP_0_OVERFLOW p) _ (.head _) ?_)
  exact Rod.only_p (Fl.ERRCAP_0_VALID p) _ (.head _) (Rod.only_refl _ _)

/-- A captured error writes the registers of the capture and IRQ_RAW of its page, and nothing else. -/
theorem Rod.only_errCap (ρ : Rod) (p type path off : Nat) (data : Word) : ρ.only (ρ.errCap p type path off data) (errRegs p) ρ := by
  cases h : ρ.b (Fl.ERRCAP_0_VALID p) with
  | true =>
    rw [Rod.errCap_again _ _ _ _ _ _ h]
    exact Rod.only_p (Fl.ERRCAP_0_OVERFLOW p) _ (.head _) (Rod.only_refl _ _)
  | false =>
    rw [Rod.errCap_first _ _ _ _ _ _ h]
    refine Rod.only_when _ _ (fun q hq => Rod.only_fltAP hq) (Rod.only_irq p 31 (by simp [errRegs]) ?_)
    exact Rod.only_mono (by simp [errRegs]) (Rod.only_capture _ _ _ _ _ _)

/-- A captured error leaves ERRCAP_0.VALID set, whether or not the page held one before (R55). -/
theorem Rod.errCap_valid (ρ : Rod) (p type path off : Nat) (data : Word) :
    (ρ.errCap p type path off data).b (Fl.ERRCAP_0_VALID p) = true := by
  cases h : ρ.b (Fl.ERRCAP_0_VALID p) with
  | true =>
    rw [Rod.errCap_again _ _ _ _ _ _ h]
    unfold Rod.b
    rwa [Rod.g_p_ne _ (Fl.ERRCAP_0_OVERFLOW p) (Fl.ERRCAP_0_VALID p) _ (show 30 + 1 ≤ 32 by decide) (.inr (.inr (show 30 + 1 ≤ 31 by decide)))]
  | false =>
    obtain ⟨hv, -⟩ := Rod.capture_fields ρ p type path off data
    rw [Rod.errCap_first _ _ _ _ _ _ h, Rod.b_congr _ _ _ (Rod.gw_captureRec _ _ _ _), ← hv]
    exact Rod.b_congr _ _ _ (Rod.gw_irq_ne _ _ _ _ (by unfold Rg.IRQ_RAW; simp [Fld.addr, Fl.ERRCAP_0_VALID]))

/-- What an access error leaves of a page that holds none: it is captured, and event 31 is set (R55). -/
def Rod.captures (ρ' : Rod) (p type path off : Nat) (data : Word) : Prop :=
  ρ'.b (Fl.ERRCAP_0_VALID p) = true ∧ ρ'.b (Fl.ERRCAP_0_OVERFLOW p) = false ∧ ρ'.g (Fl.ERRCAP_0_TYPE p) = type ∧
  ρ'.g (Fl.ERRCAP_0_PATH p) = path ∧ ρ'.g (Fl.ERRCAP_0_OFFSET p) = off ∧ ρ'.gw (Rg.ERRCAP_1 p) = data ∧ ρ'.raised p 31

theorem Rod.errCap_captures (ρ : Rod) (p type path off : Nat) (data : Word) (h : ρ.b (Fl.ERRCAP_0_VALID p) = false)
    (ht : type < 16) (hp : path < 8) (ho : off < 4096) : (ρ.errCap p type path off data).flush.captures p type path off data := by
  obtain ⟨hv, hov, hty, hpa, hof, hda⟩ := Rod.capture_fields ρ p type path off data
  have hgw (o : Nat) (h40 : o < 0x40) (h10 : o ≠ 0x10) : (ρ.errCap p type path off data).flush.gw (p * 0x1000 + o) =
      (ρ.capture p type path off data).gw (p * 0x1000 + o) := by
    rw [Rod.flush_gw _ _ (header_not_log p o h40 h10), Rod.errCap_first _ _ _ _ _ _ h, Rod.gw_captureRec, Rod.gw_irq_ne]
    unfold Rg.IRQ_RAW
    omega
  have hcap := hgw 0x34 (by decide) (by decide)
  refine ⟨(Rod.b_congr _ _ (Fl.ERRCAP_0_VALID p) hcap).trans hv, (Rod.b_congr _ _ (Fl.ERRCAP_0_OVERFLOW p) hcap).trans hov, ?_, ?_, ?_, ?_, ?_⟩
  · rw [Rod.g_of_gw _ _ (Fl.ERRCAP_0_TYPE p) hcap, hty, Nat.mod_eq_of_lt ht]
  · rw [Rod.g_of_gw _ _ (Fl.ERRCAP_0_PATH p) hcap, hpa, Nat.mod_eq_of_lt hp]
  · rw [Rod.g_of_gw _ _ (Fl.ERRCAP_0_OFFSET p) hcap, hof, Nat.mod_eq_of_lt ho]
  · exact (hgw 0x38 (by decide) (by decide)).trans hda
  · refine Rod.raised_flush _ _ _ ?_
    rw [Rod.errCap_first _ _ _ _ _ _ h]
    exact Rod.raised_congr _ _ _ _ (Rod.gw_captureRec _ _ _ _) (Rod.irq_sets _ p 31 (by decide))

/-- What a further error leaves of a page that holds one (R55). -/
theorem Rod.errCap_overflows (ρ : Rod) (p type path off : Nat) (data : Word) (h : ρ.b (Fl.ERRCAP_0_VALID p) = true) :
    let q := (ρ.errCap p type path off data).flush
    q.b (Fl.ERRCAP_0_VALID p) = true ∧ q.b (Fl.ERRCAP_0_OVERFLOW p) = true ∧ q.gw (Rg.ERRCAP_1 p) = ρ.gw (Rg.ERRCAP_1 p) := by
  have hlog : p * 0x1000 + 0x34 ∉ logRegs := header_not_log p 0x34 (by decide) (by decide)
  refine ⟨?_, ?_, ?_⟩
  · rw [Rod.b_congr _ _ (Fl.ERRCAP_0_VALID p) (Rod.flush_gw _ _ hlog), Rod.errCap_valid]
  · rw [Rod.b_congr _ _ (Fl.ERRCAP_0_OVERFLOW p) (Rod.flush_gw _ _ hlog), Rod.errCap_again _ _ _ _ _ _ h]
    unfold Rod.b
    rw [Rod.g_p _ (Fl.ERRCAP_0_OVERFLOW p) _ (show 30 + 1 ≤ 32 by decide)]
    rfl
  · refine (Rod.flush_gw _ _ (header_not_log p 0x38 (by decide) (by decide))).trans ?_
    rw [Rod.errCap_again _ _ _ _ _ _ h]
    exact Rod.gw_p_ne _ _ _ _ (by simp [Fld.addr, Fl.ERRCAP_0_OVERFLOW])

/-! ### Writes that are refused -/

/-- What a host write of a rod does to that rod, where no retry is passed on. -/
theorem exec_registerWrite_own (s : State) (r : RodId) (path : Path) (a size : Nat) (data : DWord)
    (h : (size ≠ 4 ∧ size ≠ 8) ∨ retryAxis a data = none ∨ ((s.rod r).writeError path.code a).2 = false) :
    ∃ t, exec (.registerWrite r path a size data) s = .next t ∧
      t.rod r = ((s.rod r).hostWrite s.rod path.code a size data).flush := by
  refine ⟨_, rfl, ?_⟩
  have hpass (t : State) : retryAxis a data = none ∨ ((s.rod r).writeError path.code a).2 = false →
      s.passRetry t r path.code a data = t := by
    intro k
    unfold State.passRetry
    rcases k with k | k
    · rw [k]
    · simp only [k, Bool.false_eq_true, and_false, if_false]
      split <;> rfl
  unfold State.hostWrite
  dsimp only
  split
  · next hc =>
    obtain ⟨-, hsize⟩ := hc
    rw [hpass _ (h.resolve_left (by omega)), State.rod_putRod]
  · rw [State.rod_putRod]

theorem bar2Base_gt (a : Nat) (h : a < 0x100000) : ¬ bar2Base ≤ a := Nat.not_le.2 (Nat.lt_trans h (by decide))

/-- A write to an unlisted page is captured on the Fabric page (R42). -/
theorem Rod.hostWrite_unlisted (ρ : Rod) (ps : RodId → Rod) (path a size : Nat) (data : DWord) (ha : ρ.answers path = true)
    (hlt : a < 0x100000) (hp : pageInfo (a / 0x1000) = none) :
    ρ.hostWrite ps path a size data = ρ.errCap 0x021 1 path (a % 0x1000) (data.setWidth 32) := by
  unfold Rod.hostWrite
  simp [bar2Base_gt a hlt, ha, Nat.not_le.2 hlt, hp]

/-- A write of a size or alignment that is not natural is captured on its page (R44). -/
theorem Rod.hostWrite_unaligned (ρ : Rod) (ps : RodId → Rod) (path a size : Nat) (data : DWord) (ha : ρ.answers path = true)
    (hlt : a < 0x100000) (hp : (pageInfo (a / 0x1000)).isSome = true) (hs : (size ≠ 4 ∧ size ≠ 8) ∨ a % size ≠ 0) :
    ρ.hostWrite ps path a size data = ρ.errCap (a / 0x1000) 5 path (a % 0x1000) (data.setWidth 32) := by
  unfold Rod.hostWrite
  rw [if_neg (bar2Base_gt a hlt), if_neg (by simp [ha]), if_neg (Nat.not_le.2 hlt), if_neg (by simp [Option.isSome_iff_ne_none.1 hp]), if_pos hs]

/-- A 32-bit write that its register refuses is captured on its page with the TYPE of the error. -/
theorem Rod.hostWrite_refused (ρ : Rod) (ps : RodId → Rod) (path a k : Nat) (data : DWord) (ha : ρ.answers path = true)
    (hlt : a < 0x100000) (hp : (pageInfo (a / 0x1000)).isSome = true) (h4 : a % 4 = 0) (he : ρ.writeError path a = (k, false))
    (hk : k ≠ 0) : ρ.hostWrite ps path a 4 data = ρ.errCap (a / 0x1000) k path (a % 0x1000) (data.setWidth 32) := by
  unfold Rod.hostWrite Rod.writeWord Rod.gate
  simp [bar2Base_gt a hlt, ha, Nat.not_le.2 hlt, Option.isSome_iff_ne_none.1 hp, h4, he, hk]

/-- Outside the header that the SYS domain serves, a page that is off refuses every write with TYPE 3 (R46). -/
theorem Rod.writeError_off (ρ : Rod) (path a : Nat) (hs : sysServed (a % 0x1000) = false) (hon : ρ.pageOn (a / 0x1000) = false) :
    ρ.writeError path a = (3, false) := by
  have hl : ¬(a % 0x1000 = 0x30 ∨ a % 0x1000 = 0x34) := by
    rintro (h | h) <;> simp [sysServed, h] at hs
  unfold Rod.writeError
  simp [hl, hs, hon]

/-- FL_SEQ is read-only (R45). -/
theorem Rod.writeError_FL_SEQ (ρ : Rod) (path : Nat) (hon : ρ.pageOn 0x0D0 = true) : ρ.writeError path Rg.FL_SEQ = (1, false) := by
  have hrow : ∃ row, regRow Rg.FL_SEQ = some row ∧ row.rw ||| row.rws ||| row.w1c ||| row.wo ||| row.rwl = 0#32 ∧ row.rc = 0#32 :=
    ⟨_, rfl, rfl, rfl⟩
  obtain ⟨row, hr, hw, hc⟩ := hrow
  unfold Rod.writeError
  rw [hr]
  simp [Rg.FL_SEQ, sysServed, hon, hw, hc]

/-- FAULT_IRQ is closed to a path while another holds the LOCK of its page (R54). -/
theorem Rod.writeError_FAULT_IRQ (ρ : Rod) (path : Nat) (hon : ρ.pageOn 0x021 = true) (hl : ρ.lockedOut path 0x021 = true) :
    ρ.writeError path Rg.FAULT_IRQ = (4, false) := by
  obtain ⟨row, hr, hrw, hrws, hw1c, hrwl⟩ := regRow_FAULT_IRQ
  unfold Rod.writeError
  rw [hr]
  have hwo : row.wo = 0#32 := by cases hr; rfl
  simp [Rg.FAULT_IRQ, sysServed, hon, hrw, hrws, hw1c, hwo, hrwl, hl]

/-- A write that a page captures, seen from the module. -/
theorem completes_captured (s : State) (r : RodId) (path : Path) (a size p type : Nat) (data : DWord)
    (hr : (size ≠ 4 ∧ size ≠ 8) ∨ retryAxis a data = none ∨ ((s.rod r).writeError path.code a).2 = false) (ht : type < 16)
    (hw : (s.rod r).hostWrite s.rod path.code a size data = (s.rod r).errCap p type path.code (a % 0x1000) (data.setWidth 32)) :
    completes (.registerWrite r path a size data) s fun t =>
      ((s.rod r).b (Fl.ERRCAP_0_VALID p) = false → (t.rod r).captures p type path.code (a % 0x1000) (data.setWidth 32)) ∧
      ((s.rod r).b (Fl.ERRCAP_0_VALID p) = true → (t.rod r).b (Fl.ERRCAP_0_VALID p) = true ∧
        (t.rod r).b (Fl.ERRCAP_0_OVERFLOW p) = true ∧ (t.rod r).gw (Rg.ERRCAP_1 p) = (s.rod r).gw (Rg.ERRCAP_1 p)) ∧
      (s.rod r).only (t.rod r) (errRegs p) (s.rod r) := by
  obtain ⟨t, hexec, e⟩ := exec_registerWrite_own s r path a size data hr
  refine ⟨t, hexec, ?_⟩
  dsimp only
  rw [e, hw]
  exact ⟨fun hv => Rod.errCap_captures _ _ _ _ _ _ hv ht (path_code_lt path) (Nat.mod_lt _ (by decide)),
    fun hv => Rod.errCap_overflows _ _ _ _ _ _ hv, Rod.only_flush (Rod.only_errCap _ _ _ _ _ _)⟩

theorem retryAxis_unlisted (a : Nat) (data : DWord) (h : pageInfo (a / 0x1000) = none) : retryAxis a data = none := by
  have hne (n : Nat) (hn : (pageInfo (Rg.PMP_CMD n / 0x1000)).isSome = true) : a ≠ Rg.PMP_CMD n := by
    rintro rfl
    rw [h] at hn
    cases hn
  unfold retryAxis
  rw [if_neg (hne 0 (by decide)), if_neg (hne 1 (by decide)), if_neg (hne 2 (by decide)), ite_self]

/-- Settles O16: each write of the statement is one that is captured, on the Fabric page, for its size, or by its register. -/
theorem accessErrorsAreCaptured : Obligations.AccessErrorsAreCaptured := by
  unfold Obligations.AccessErrorsAreCaptured
  intro s r path a size data
  dsimp only
  intro ha hlt
  have refused (k : Nat) (hk : k ≠ 0) (hk16 : k < 16) (h4 : a % 4 = 0) (hp : (pageInfo (a / 0x1000)).isSome = true)
      (he : (s.rod r).writeError path.code a = (k, false)) :=
    completes_captured s r path a 4 (a / 0x1000) k data (.inr (.inr (by rw [he]))) hk16
      (Rod.hostWrite_refused _ s.rod _ a k data ha hlt hp h4 he hk)
  refine ⟨fun hp => ?_, fun hp hs => ?_, ?_, ?_, ?_⟩
  · exact completes_captured s r path a size 0x021 1 data (.inr (.inl (retryAxis_unlisted a data hp))) (by decide)
      (Rod.hostWrite_unlisted _ _ _ _ _ _ ha hlt hp)
  · refine completes_captured s r path a size (a / 0x1000) 5 data ?_ (by decide) (Rod.hostWrite_unaligned _ _ _ _ _ _ ha hlt hp hs)
    rcases hs with hs | hs
    · exact .inl hs
    · by_cases h48 : size = 4 ∨ size = 8
      · refine .inr (.inl (retryAxis_none a data ?_))
        rcases h48 with rfl | rfl <;> omega
      · exact .inl (by omega)
  · rintro rfl h4 hp hserved hon
    refine refused 3 (by decide) (by decide) h4 hp (Rod.writeError_off _ _ _ ?_ hon)
    simpa [sysServed, and_assoc] using hserved
  · rintro rfl rfl hon
    exact refused 1 (by decide) (by decide) (by decide) (by decide) (Rod.writeError_FL_SEQ _ _ hon)
  · rintro rfl rfl hon hheld hpath
    refine refused 4 (by decide) (by decide) (by decide) (by decide) (Rod.writeError_FAULT_IRQ _ _ hon ?_)
    unfold Rod.lockedOut
    rw [hheld, Bool.true_and, bne_iff_ne]
    exact hpath

end Sys2Proof.Machine
end

section
/-! Writes of the common page header (IRQ_FORCE, LOCK, ERRCAP_0, IRQ_RAW) and of FL_ACK. -/

namespace Sys2Proof.Machine

/-! ### Accepted writes of the header -/

/-- No register of the page headers has RWL bits. -/
theorem regRow_header_no_rwl (a : Nat) (h : a % 0x1000 < 0x40) : ((regRow a).any fun k => k.rwl != 0#32) = false := by
  have hrows : ∀ row ∈ RegRow.headerRows, row.rwl = 0#32 := by decide
  unfold regRow
  dsimp only
  split
  · rfl
  · rw [if_pos h]
    cases hr : findRow RegRow.headerRows (a % 0x1000) with
    | none => rfl
    | some row => simp [hrows row (findRow_holds _ _ _ hr).1]

/-- An accepted write of a header register does what that register does (R8, R42 to R46). -/
theorem write32_header (s : State) (r : RodId) (path : Path) (a : Nat) (data : Word) (h : (s.rod r).accepts path a)
    (ho : a % 0x1000 < 0x40) :
    ∃ t, write32 s r path a data = .next t ∧ t.rod r = ((s.rod r).writeReg s.rod path.code a data).flush :=
  exec_registerWrite_accepts s r path a data h (by omega) (regRow_header_no_rwl a ho)

/-- The registers of a page's header lie at their offsets. -/
theorem header_place (p o : Nat) (h : o < 0x1000) : (p * 0x1000 + o) / 0x1000 = p ∧ (p * 0x1000 + o) % 0x1000 = o := by omega

theorem Rod.writeReg_LOCK (ρ : Rod) (ps : RodId → Rod) (path p : Nat) (data : Word) :
    ρ.writeReg ps path (Rg.LOCK p) data = ρ.writeLock path p data := by
  obtain ⟨hp, ho⟩ := header_place p 0x30 (by decide)
  unfold Rod.writeReg Rg.LOCK
  rw [hp, ho]
  rfl

theorem Rod.writeReg_ERRCAP_0 (ρ : Rod) (ps : RodId → Rod) (path p : Nat) (data : Word) :
    ρ.writeReg ps path (Rg.ERRCAP_0 p) data = ρ.clearErr p data := by
  obtain ⟨hp, ho⟩ := header_place p 0x34 (by decide)
  unfold Rod.writeReg Rg.ERRCAP_0
  rw [hp, ho]
  rfl

theorem Rod.writeReg_IRQ_FORCE (ρ : Rod) (ps : RodId → Rod) (path p : Nat) (data : Word) :
    ρ.writeReg ps path (Rg.IRQ_FORCE p) data = ρ.irqMask p data := by
  obtain ⟨hp, ho⟩ := header_place p 0x1C (by decide)
  unfold Rod.writeReg Rg.IRQ_FORCE
  rw [hp, ho]
  rfl

theorem Rod.writeReg_FL_ACK (ρ : Rod) (ps : RodId → Rod) (path : Nat) (data : Word) :
    ρ.writeReg ps path Rg.FL_ACK data = ρ.writeFlAck path data := by
  unfold Rod.writeReg
  simp [Rg.FL_ACK]

theorem write32_LOCK (s : State) (r : RodId) (path : Path) (p : Nat) (data : Word) (h : (s.rod r).accepts path (Rg.LOCK p)) :
    ∃ t, write32 s r path (Rg.LOCK p) data = .next t ∧ t.rod r = ((s.rod r).writeLock path.code p data).flush := by
  rw [← Rod.writeReg_LOCK _ s.rod path.code]
  exact write32_header s r path _ data h (by unfold Rg.LOCK; omega)

theorem write32_ERRCAP_0 (s : State) (r : RodId) (path : Path) (p : Nat) (data : Word) (h : (s.rod r).accepts path (Rg.ERRCAP_0 p)) :
    ∃ t, write32 s r path (Rg.ERRCAP_0 p) data = .next t ∧ t.rod r = ((s.rod r).clearErr p data).flush := by
  rw [← Rod.writeReg_ERRCAP_0 _ s.rod path.code]
  exact write32_header s r path _ data h (by unfold Rg.ERRCAP_0; omega)

theorem write32_IRQ_FORCE (s : State) (r : RodId) (path : Path) (p : Nat) (data : Word) (h : (s.rod r).accepts path (Rg.IRQ_FORCE p)) :
    ∃ t, write32 s r path (Rg.IRQ_FORCE p) data = .next t ∧ t.rod r = ((s.rod r).irqMask p data).flush := by
  rw [← Rod.writeReg_IRQ_FORCE _ s.rod path.code]
  exact write32_header s r path _ data h (by unfold Rg.IRQ_FORCE; omega)

/-! ### LOCK (R53) -/

/-- A request of a LOCK that is free takes it for the path. -/
theorem Rod.writeLock_free (ρ : Rod) (path : Path) (p : Nat) (h : ρ.b (Fl.LOCK_HELD p) = false) :
    let q := ρ.writeLock path.code p 1#32
    q.b (Fl.LOCK_HELD p) = true ∧ q.g (Fl.LOCK_PATH p) = path.code ∧ ρ.only q [Rg.LOCK p] ρ := by
  have e : ρ.writeLock path.code p 1#32 = ((ρ.p (Fl.LOCK_HELD p) 1).p (Fl.LOCK_PATH p) path.code).p (Fl.LOCK_REQ p) 1 := by
    unfold Rod.writeLock
    rw [h]
    rfl
  have hpath : path.code % 8 = path.code := Nat.mod_eq_of_lt (path_code_lt path)
  dsimp only
  rw [e]
  refine ⟨?_, ?_, Rod.only_p (Fl.LOCK_REQ p) _ (.head _) (Rod.only_p (Fl.LOCK_PATH p) _ (.head _)
    (Rod.only_p (Fl.LOCK_HELD p) _ (.head _) (Rod.only_refl _ _)))⟩
  all_goals simp [Rod.b, Rod.g_p, Rod.g_p_ne, Fld.addr, Fl.LOCK_HELD, Fl.LOCK_PATH, Fl.LOCK_REQ, hpath]

/-- A request of a LOCK that is held changes nothing. -/
theorem Rod.writeLock_held (ρ : Rod) (path p : Nat) (h : ρ.b (Fl.LOCK_HELD p) = true) : ρ.writeLock path p 1#32 = ρ := by
  unfold Rod.writeLock
  rw [h]
  rfl

/-- The holder's release clears LOCK. -/
theorem Rod.writeLock_release (ρ : Rod) (path p : Nat) (h : ρ.b (Fl.LOCK_HELD p) = true) (hp : ρ.g (Fl.LOCK_PATH p) = path) :
    ρ.writeLock path p 0#32 = ρ.pw (Rg.LOCK p) 0#32 := by
  unfold Rod.writeLock
  rw [h, hp, beq_self_eq_true]
  rfl

/-- A release by another path changes nothing. -/
theorem Rod.writeLock_other (ρ : Rod) (path p : Nat) (hp : ρ.g (Fl.LOCK_PATH p) ≠ path) : ρ.writeLock path p 0#32 = ρ := by
  unfold Rod.writeLock
  rw [beq_eq_false_iff_ne.2 hp, Bool.and_false]
  rfl

/-! ### ERRCAP_0 (R55) -/

/-- Clearing VALID clears OVERFLOW and ERRCAP_1. -/
theorem Rod.clearErr_spec (ρ : Rod) (p : Nat) :
    let q := ρ.clearErr p 0x80000000#32
    q.b (Fl.ERRCAP_0_VALID p) = false ∧ q.b (Fl.ERRCAP_0_OVERFLOW p) = false ∧ q.gw (Rg.ERRCAP_1 p) = 0#32 ∧
    ρ.only q [Rg.ERRCAP_0 p, Rg.ERRCAP_1 p] ρ := by
  have e : ρ.clearErr p 0x80000000#32 = ((ρ.p (Fl.ERRCAP_0_VALID p) 0).p (Fl.ERRCAP_0_OVERFLOW p) 0).pw (Rg.ERRCAP_1 p) 0#32 := by
    have hbit : wBit 0x80000000#32 31 = true := by decide
    unfold Rod.clearErr
    rw [hbit, if_pos rfl]
  have hcap (f : Fld) (q : Rod) (hf : f.addr = Rg.ERRCAP_0 p) : (q.pw (Rg.ERRCAP_1 p) 0#32).b f = q.b f :=
    Rod.b_congr _ _ _ (Rod.gw_pw_ne _ _ _ _ (by rw [hf]; unfold Rg.ERRCAP_0 Rg.ERRCAP_1; omega))
  dsimp only
  rw [e, hcap (Fl.ERRCAP_0_VALID p) _ rfl, hcap (Fl.ERRCAP_0_OVERFLOW p) _ rfl]
  refine ⟨?_, ?_, Rod.gw_pw_same _ _ _, Rod.only_pw _ _ (.tail _ (.head _)) (Rod.only_p (Fl.ERRCAP_0_OVERFLOW p) _ (.head _)
    (Rod.only_p (Fl.ERRCAP_0_VALID p) _ (.head _) (Rod.only_refl _ _)))⟩
  all_goals simp [Rod.b, Rod.g_p, Rod.g_p_ne, Fl.ERRCAP_0_VALID, Fl.ERRCAP_0_OVERFLOW]

/-! ### IRQ_RAW (R12, R52) -/

/-- The message after a write of IRQ_RAW goes out, or is held as a pending bit, or there is none: nothing else changes. -/
theorem Rod.irqAgain_cases (ρ : Rod) (p : Nat) : ∃ b l, ρ.irqAgain p = { ρ with pba := b, out := ρ.out ++ l } := by
  have same : ∃ b l, ρ = { ρ with pba := b, out := ρ.out ++ l } := ⟨ρ.pba, [], by rw [List.append_nil]⟩
  unfold Rod.irqAgain Rod.pageMsg
  split
  · split
    · exact same
    · exact Rod.msix_cases _ _
  · exact same

/-- A W1C write of IRQ_RAW clears the bits written as 1 but for the events of the cycle. -/
theorem Rod.clearIrq_spec (ρ : Rod) (p : Nat) (data events : Word) :
    let q := ρ.clearIrq p data events
    q.gw (Rg.IRQ_RAW p) = (ρ.gw (Rg.IRQ_RAW p) &&& ~~~data) ||| events ∧ ρ.only q [Rg.IRQ_RAW p] ρ := by
  let q : Rod := ρ.pw (Rg.IRQ_RAW p) ((ρ.gw (Rg.IRQ_RAW p) &&& ~~~data) ||| events)
  obtain ⟨hkeep, hagree⟩ : ρ.only q [Rg.IRQ_RAW p] ρ := Rod.only_pw _ _ (.head _) (Rod.only_refl _ _)
  obtain ⟨b, l, e⟩ := Rod.irqAgain_cases q p
  dsimp only
  rw [show ρ.clearIrq p data events = q.irqAgain p from rfl, e]
  exact ⟨Rod.gw_pw_same _ _ _, Rod.keepsRegs_regs _ q _ _ rfl hkeep, Rod.agrees_trans _ q _ rfl hagree⟩

/-- A write that is accepted passes the gates (R42 to R46, R54). -/
theorem Rod.gate_accepts (ρ : Rod) (path : Path) (a : Nat) (data : Word) (f : Rod → Rod) (h : ρ.accepts path a) :
    ρ.gate path.code a data f = f ρ := by
  obtain ⟨hans, -, -, hpage, herr⟩ := h
  unfold Rod.gate
  simp [hans, Option.isSome_iff_ne_none.1 hpage, herr]

/-- W1C_WRITE of IRQ_RAW, where it is accepted. -/
theorem exec_w1cWrite_IRQ_RAW (s : State) (r : RodId) (path : Path) (p : Nat) (data events : Word)
    (h : (s.rod r).accepts path (Rg.IRQ_RAW p)) :
    ∃ t, exec (.w1cWrite r path (Rg.IRQ_RAW p) data events) s = .next t ∧ t.rod r = ((s.rod r).clearIrq p data events).flush := by
  obtain ⟨hp, ho⟩ := header_place p 0x10 (by decide)
  refine ⟨_, rfl, ?_⟩
  rw [State.rod_putRod]
  dsimp only
  rw [if_pos (show Rg.IRQ_RAW p % 0x1000 = 0x10 from ho), Rod.gate_accepts _ _ _ _ _ h, show Rg.IRQ_RAW p / 0x1000 = p from hp]

/-! ### FL_ACK (R75) -/

/-- How far a sequence number lies beyond the last one acknowledged. -/
def Rod.ahead (ρ : Rod) (x : Nat) : Nat := (x + 2 ^ 32 - ρ.g Fl.FL_ACK_ACK) % 2 ^ 32

/-- FL_ACK takes a value no further on than FL_SEQ; with all acknowledged no record counts as lost (R76). -/
theorem Rod.writeFlAck_within (ρ : Rod) (path : Nat) (data : Word) (h : ρ.ahead data.toNat ≤ ρ.ahead (ρ.g Fl.FL_SEQ_SEQ)) :
    let q := ρ.writeFlAck path data
    q.gw Rg.FL_ACK = data ∧ ρ.only q [Rg.FL_ACK] ρ ∧ (data.toNat = ρ.g Fl.FL_SEQ_SEQ → q.lost = false) ∧ q.recBuf = ρ.recBuf := by
  obtain ⟨hkeep, hagree⟩ : ρ.only (ρ.pw Rg.FL_ACK data) [Rg.FL_ACK] ρ := Rod.only_pw _ _ (.head _) (Rod.only_refl _ _)
  unfold Rod.ahead at h
  unfold Rod.writeFlAck
  simp only [if_pos h]
  split
  · exact ⟨Rod.gw_pw_same _ _ _, ⟨Rod.keepsRegs_regs _ (ρ.pw Rg.FL_ACK data) _ _ rfl hkeep,
      Rod.agrees_trans _ (ρ.pw Rg.FL_ACK data) _ rfl hagree⟩, fun _ => rfl, rfl⟩
  · next hne => exact ⟨Rod.gw_pw_same _ _ _, ⟨hkeep, hagree⟩, fun k => absurd k hne, rfl⟩

/-- A value further on than FL_SEQ is captured with TYPE 6. -/
theorem Rod.writeFlAck_beyond (ρ : Rod) (path : Nat) (data : Word) (h : ρ.ahead (ρ.g Fl.FL_SEQ_SEQ) < ρ.ahead data.toNat) :
    ρ.writeFlAck path data = ρ.errCap 0x0D0 6 path 0x44 data := by
  unfold Rod.writeFlAck
  exact if_neg (Nat.not_le.2 h)

/-- An accepted write of FL_ACK does what the register does. -/
theorem write32_FL_ACK (s : State) (r : RodId) (path : Path) (data : Word) (h : (s.rod r).accepts path Rg.FL_ACK) :
    ∃ t, write32 s r path Rg.FL_ACK data = .next t ∧ t.rod r = ((s.rod r).writeFlAck path.code data).flush := by
  rw [← Rod.writeReg_FL_ACK _ s.rod]
  exact exec_registerWrite_accepts s r path Rg.FL_ACK data h (by decide) (by decide)

/-! ### The statement -/

/-- Settles O18: each command is an accepted write of its register, and the register's own law says what it leaves. -/
theorem pageHeaderWritesAct : Obligations.PageHeaderWritesAct := by
  unfold Obligations.PageHeaderWritesAct
  refine ⟨fun s r path p data => ?_, fun s r path p data events => ?_⟩
  · dsimp only
    intro hq
    have hlock : Rg.LOCK p ∉ logRegs := header_not_log p 0x30 (by decide) (by decide)
    have herr0 : Rg.ERRCAP_0 p ∉ logRegs := header_not_log p 0x34 (by decide) (by decide)
    have herr1 : Rg.ERRCAP_1 p ∉ logRegs := header_not_log p 0x38 (by decide) (by decide)
    refine ⟨fun h => ?_, fun h hfree => ?_, fun h hheld => ?_, fun h hheld => ?_, fun h => ?_, fun h hle => ?_, fun h hlt => ?_⟩
    · obtain ⟨t, ht, e⟩ := write32_IRQ_FORCE s r path p data h
      refine ⟨t, ht, ?_⟩
      dsimp only
      rw [e, Rod.flush_nil _ ((Rod.irqMask_recBuf _ _ _).trans (hq r))]
      exact ⟨by rw [Rod.gw_irqMask, if_pos rfl], fun a ha => Rod.gw_irqMask_ne _ _ _ _ ha, Rod.agrees_irqMask _ _ _⟩
    · obtain ⟨t, ht, e⟩ := write32_LOCK s r path p 1#32 h
      obtain ⟨hheld, hpath, honly⟩ := Rod.writeLock_free (s.rod r) path p hfree
      refine ⟨t, ht, ?_⟩
      dsimp only
      rw [e, Rod.flush_g _ (Fl.LOCK_PATH p) hlock, Rod.b_congr _ _ (Fl.LOCK_HELD p) (Rod.flush_gw _ _ hlock)]
      exact ⟨hheld, hpath, Rod.only_flush honly⟩
    · obtain ⟨t, ht, e⟩ := write32_LOCK s r path p 1#32 h
      refine ⟨t, ht, ?_⟩
      dsimp only
      rw [e, Rod.writeLock_held _ _ _ hheld]
      exact Rod.only_flush (Rod.only_refl _ _)
    · obtain ⟨t, ht, e⟩ := write32_LOCK s r path p 0#32 h
      refine ⟨t, ht, ?_⟩
      dsimp only
      rw [e]
      by_cases hp : (s.rod r).g (Fl.LOCK_PATH p) = path.code
      · rw [Rod.writeLock_release _ _ _ hheld hp]
        obtain ⟨hzero, hkeep, hagree⟩ := Rod.pw_flush_spec (s.rod r) (Rg.LOCK p) 0#32 hlock
        refine ⟨fun _ => ⟨?_, hkeep⟩, fun k => absurd hp k, hagree⟩
        unfold Rod.b Rod.g
        rw [show (Fl.LOCK_HELD p).addr = Rg.LOCK p from rfl, hzero]
        simp [wBits, natBits]
      · rw [Rod.writeLock_other _ _ _ hp]
        obtain ⟨hkeep, hagree⟩ := Rod.only_flush (Rod.only_refl (s.rod r) [])
        exact ⟨fun k => absurd k hp, fun _ => hkeep, hagree⟩
    · obtain ⟨t, ht, e⟩ := write32_ERRCAP_0 s r path p 0x80000000#32 h
      obtain ⟨hv, ho, hd, honly⟩ := Rod.clearErr_spec (s.rod r) p
      refine ⟨t, ht, ?_⟩
      dsimp only
      rw [e, Rod.b_congr _ _ (Fl.ERRCAP_0_VALID p) (Rod.flush_gw _ _ herr0),
        Rod.b_congr _ _ (Fl.ERRCAP_0_OVERFLOW p) (Rod.flush_gw _ _ herr0), Rod.flush_gw _ _ herr1]
      exact ⟨hv, ho, hd, Rod.only_flush honly⟩
    · obtain ⟨t, ht, e⟩ := write32_FL_ACK s r path data h
      obtain ⟨hack, ⟨hkeep, hagree⟩, hlost, hbuf⟩ := Rod.writeFlAck_within (s.rod r) path.code data hle
      refine ⟨t, ht, ?_⟩
      dsimp only
      rw [e, Rod.flush_nil _ (hbuf.trans (hq r))]
      exact ⟨hack, hkeep, hlost, hagree⟩
    · obtain ⟨t, ht, e⟩ := write32_FL_ACK s r path data h
      obtain ⟨hkeep, hagree⟩ := Rod.only_flush (Rod.only_errCap (s.rod r) 0x0D0 6 path.code 0x44 data)
      refine ⟨t, ht, ?_⟩
      dsimp only
      rw [e, Rod.writeFlAck_beyond _ _ _ hlt]
      refine ⟨hkeep _ (by decide) (by decide) (by decide), ?_, fun a ha h1 h2 => hkeep a ?_ h1 h2, hagree⟩
      · rw [Rod.b_congr _ _ (Fl.ERRCAP_0_VALID 0x0D0) (Rod.flush_gw _ _ (by decide)), Rod.errCap_valid]
      · simp_all [errRegs]
  · dsimp only
    intro h hp
    obtain ⟨t, ht, e⟩ := exec_w1cWrite_IRQ_RAW s r path p data events h
    obtain ⟨hraw, honly⟩ := Rod.clearIrq_spec (s.rod r) p data events
    have hlog : Rg.IRQ_RAW p ∉ logRegs := by
      simp only [logRegs, Rg.FL_SEQ, Rg.IRQ_RAW, List.mem_cons, List.not_mem_nil, or_false]
      omega
    refine ⟨t, ht, ?_⟩
    dsimp only
    rw [e, Rod.flush_gw _ _ hlog]
    exact ⟨hraw, Rod.only_flush honly⟩

end Sys2Proof.Machine
end

section
/-! Writes of the staging header (R57 to R60, R64), and what the rejection of a commit leaves (R62, R65). -/

namespace Sys2Proof.Machine

/-! ### Shadows, requests and registers -/

theorem Rod.keepsRegs_mono {ρ q : Rod} {ex ex' : List Nat} (hex : ex ⊆ ex') (h : ρ.keepsRegs q ex) : ρ.keepsRegs q ex' :=
  fun a ha => h a fun k => ha (hex k)

theorem Rod.dirty_congr (ρ ρ' : Rod) (h : ρ'.shadow = ρ.shadow) (p : Nat) : ρ'.dirty p = ρ.dirty p := by
  unfold Rod.dirty
  rw [h]

/-- A page whose shadows are reloaded is not DIRTY. -/
theorem Rod.dirty_dropShadow (ρ : Rod) (p : Nat) : (ρ.dropShadow p).dirty p = false := by
  unfold Rod.dirty Rod.dropShadow
  simp [List.any_eq_false]

theorem stgCtrl_not_log (p : Nat) : Rg.STG_CTRL p ∉ logRegs := header_not_log p 0x20 (by decide) (by decide)
theorem stgStat_not_log (p : Nat) : Rg.STG_STAT p ∉ logRegs := header_not_log p 0x24 (by decide) (by decide)

/-! ### The rejection of a commit -/

/-- STG_STAT of a page whose commit is rejected with a code: MISMATCH, CODE and GROUP, with the page's shadows reloaded. -/
def Rod.rejected (ρ : Rod) (p code group : Nat) : Rod :=
  ((((ρ.dropShadow p).disarm p).p (Fl.STG_STAT_MISMATCH p) 1).p (Fl.STG_STAT_CODE p) code).p (Fl.STG_STAT_GROUP p) group

theorem Rod.rejected_fields (ρ : Rod) (p code group : Nat) :
    let q := ρ.rejected p code group
    q.b (Fl.STG_STAT_MISMATCH p) = true ∧ q.g (Fl.STG_STAT_CODE p) = code % 256 ∧ q.g (Fl.STG_STAT_GROUP p) = group % 256 ∧
    q.dirty p = false := by
  refine ⟨?_, ?_, ?_, Rod.dirty_dropShadow ρ p⟩
  all_goals simp [Rod.b, Rod.rejected, Rod.g_p, Rod.g_p_ne, Fl.STG_STAT_MISMATCH, Fl.STG_STAT_CODE, Fl.STG_STAT_GROUP]

theorem Rod.keepsRegs_disarm {ρ q : Rod} {ex : List Nat} (p : Nat) (hs : Rg.STG_STAT p ∈ ex) (h : ρ.keepsRegs q ex) :
    ρ.keepsRegs (q.disarm p) ex := Rod.keepsRegs_p _ _ _ (Fl.STG_STAT_ARMED p) _ hs (Rod.keepsRegs_regs _ q _ _ rfl h)

theorem Rod.keepsRegs_rejected (ρ : Rod) (p code group : Nat) : ρ.keepsRegs (ρ.rejected p code group) [Rg.STG_STAT p] := by
  refine Rod.keepsRegs_p _ _ _ (Fl.STG_STAT_GROUP p) _ (.head _) ?_
  refine Rod.keepsRegs_p _ _ _ (Fl.STG_STAT_CODE p) _ (.head _) ?_
  refine Rod.keepsRegs_p _ _ _ (Fl.STG_STAT_MISMATCH p) _ (.head _) ?_
  exact Rod.keepsRegs_disarm p (.head _) (Rod.keepsRegs_regs _ ρ _ _ rfl (Rod.keepsRegs_refl _ _))

/-- A rejection sets STG_STAT and event 30, and detects a fault with the code of Table 2.13 (R62, R65). -/
theorem Rod.commitBad_eq (ρ : Rod) (p code group : Nat) :
    ∃ d, ρ.commitBad p code group = ((ρ.rejected p code group).irq p 30).flt (0x01F0 + code) sevWarn p d := ⟨_, rfl⟩

/-- What a rejection leaves once its record is written. -/
theorem Rod.commitBad_flush (ρ : Rod) (p code group : Nat) :
    let q := (ρ.commitBad p code group).flush
    q.b (Fl.STG_STAT_MISMATCH p) = true ∧ q.g (Fl.STG_STAT_CODE p) = code % 256 ∧ q.g (Fl.STG_STAT_GROUP p) = group % 256 ∧
    q.dirty p = false ∧ q.recorded (0x01F0 + code) sevWarn p ∧ ρ.keepsRegs q [Rg.STG_STAT p, Rg.IRQ_RAW p] := by
  obtain ⟨d, e⟩ := Rod.commitBad_eq ρ p code group
  obtain ⟨hmis, hcode, hgroup, hdirty⟩ := Rod.rejected_fields ρ p code group
  have hstat : (ρ.commitBad p code group).flush.gw (Rg.STG_STAT p) = (ρ.rejected p code group).gw (Rg.STG_STAT p) := by
    rw [Rod.flush_gw _ _ (stgStat_not_log p), e, Rod.flt_eq, Rod.gw_fltAP, Rod.gw_irq_ne]
    unfold Rg.STG_STAT Rg.IRQ_RAW
    omega
  refine ⟨?_, ?_, ?_, ?_, ?_, ?_⟩
  · rw [Rod.b_congr _ _ (Fl.STG_STAT_MISMATCH p) hstat, hmis]
  · rw [Rod.g_of_gw _ _ (Fl.STG_STAT_CODE p) hstat, hcode]
  · rw [Rod.g_of_gw _ _ (Fl.STG_STAT_GROUP p) hstat, hgroup]
  · rw [Rod.dirty_congr (ρ.rejected p code group) _ ?_ p, hdirty]
    rw [Rod.flush_shadow, e, Rod.flt_eq, Rod.fltAP_shadow, Rod.irq_shadow]
  · rw [e]
    exact Rod.recorded_flush _ _ (Rod.fltAP_mem _ _ _ _ _ _ _) _ _ _ rfl rfl rfl rfl
  · rw [e]
    refine Rod.keepsRegs_flush _ _ _ (Rod.keepsRegs_regs _ _ _ _ rfl (Rod.keepsRegs_irq _ _ _ _ _ (.tail _ (.head _)) ?_))
    exact Rod.keepsRegs_mono (by simp) (Rod.keepsRegs_rejected ρ p code group)

/-! ### STG_CTRL (R57, R58) -/

/-- STG_CTRL of a page takes OPEN, VIEW and MODE. -/
def Rod.stgFields (ρ : Rod) (p : Nat) (data : Word) : Rod :=
  ((ρ.p (Fl.STG_CTRL_OPEN p) (wBits data 31 1)).p (Fl.STG_CTRL_VIEW p) (wBits data 8 1)).p (Fl.STG_CTRL_MODE p) (wBits data 4 2)

theorem Rod.stgFields_fields (ρ : Rod) (p : Nat) (data : Word) :
    let q := ρ.stgFields p data
    q.g (Fl.STG_CTRL_OPEN p) = wBits data 31 1 ∧ q.g (Fl.STG_CTRL_VIEW p) = wBits data 8 1 ∧ q.g (Fl.STG_CTRL_MODE p) = wBits data 4 2 := by
  have hopen : wBits data 31 1 % 2 = wBits data 31 1 := Nat.mod_eq_of_lt (wBits_lt data 31 1)
  have hview : wBits data 8 1 % 2 = wBits data 8 1 := Nat.mod_eq_of_lt (wBits_lt data 8 1)
  have hmode : wBits data 4 2 % 4 = wBits data 4 2 := Nat.mod_eq_of_lt (wBits_lt data 4 2)
  refine ⟨?_, ?_, ?_⟩
  all_goals
    simp [Rod.stgFields, Rod.g_p, Rod.g_p_ne, Fl.STG_CTRL_OPEN, Fl.STG_CTRL_VIEW, Fl.STG_CTRL_MODE, hopen, hview, hmode]

theorem Rod.only_stgFields (ρ : Rod) (p : Nat) (data : Word) : ρ.only (ρ.stgFields p data) [Rg.STG_CTRL p] ρ :=
  Rod.only_p (Fl.STG_CTRL_MODE p) _ (.head _) (Rod.only_p (Fl.STG_CTRL_VIEW p) _ (.head _)
    (Rod.only_p (Fl.STG_CTRL_OPEN p) _ (.head _) (Rod.only_refl _ _)))

/-- A page is disarmed. -/
def Rod.unarm (ρ : Rod) (p : Nat) : Rod := ({ ρ with armed := Sparse.del ρ.armed p }).p (Fl.STG_STAT_ARMED p) 0

theorem Rod.unarm_regs (ρ : Rod) (p : Nat) : (ρ.unarm p).regs = (ρ.p (Fl.STG_STAT_ARMED p) 0).regs := rfl

/-- A write of STG_CTRL that requests no commit: a MODE other than AT_FT disarms the page, and one other than MANUAL drops its
request. -/
def Rod.stgSet (ρ : Rod) (p : Nat) (data : Word) : Rod :=
  let ρ1 := if wBits data 4 2 = 2 then ρ.stgFields p data else (ρ.stgFields p data).unarm p
  if wBits data 4 2 = 0 then ρ1 else { ρ1 with cmtReq := ρ1.cmtReq.filter (· != p) }

/-- The registers after such a write. -/
theorem Rod.stgSet_regs (ρ : Rod) (p : Nat) (data : Word) : (ρ.stgSet p data).regs =
    ((ρ.stgFields p data).when (wBits data 4 2 != 2) (·.p (Fl.STG_STAT_ARMED p) 0)).regs := by
  have hreq : (ρ.stgSet p data).regs =
      (if wBits data 4 2 = 2 then ρ.stgFields p data else (ρ.stgFields p data).unarm p).regs := by
    unfold Rod.stgSet
    dsimp only
    split <;> rfl
  rw [hreq]
  by_cases h2 : wBits data 4 2 = 2
  · rw [if_pos h2, bne_eq_false_iff_eq.2 h2, Rod.when_false]
  · rw [if_neg h2, bne_iff_ne.2 h2, Rod.when_true, Rod.unarm_regs]

theorem Rod.stgSet_shadow (ρ : Rod) (p : Nat) (data : Word) : (ρ.stgSet p data).shadow = ρ.shadow := by
  unfold Rod.stgSet
  dsimp only
  split <;> split <;> rfl

/-- What such a write leaves of the header. -/
theorem Rod.stgSet_spec (ρ : Rod) (p : Nat) (data : Word) :
    let q := ρ.stgSet p data
    q.g (Fl.STG_CTRL_OPEN p) = wBits data 31 1 ∧ q.g (Fl.STG_CTRL_VIEW p) = wBits data 8 1 ∧
    q.g (Fl.STG_CTRL_MODE p) = wBits data 4 2 ∧ (wBits data 4 2 ≠ 2 → q.b (Fl.STG_STAT_ARMED p) = false) ∧
    q.b (Fl.STG_STAT_MISMATCH p) = ρ.b (Fl.STG_STAT_MISMATCH p) ∧ ρ.keepsRegs q [Rg.STG_CTRL p, Rg.STG_STAT p] := by
  obtain ⟨hopen, hview, hmode⟩ := Rod.stgFields_fields ρ p data
  obtain ⟨hkeep, -⟩ := Rod.only_stgFields ρ p data
  have hne : Rg.STG_CTRL p ≠ Rg.STG_STAT p := by unfold Rg.STG_CTRL Rg.STG_STAT; omega
  have hctrl : (ρ.stgSet p data).gw (Rg.STG_CTRL p) = (ρ.stgFields p data).gw (Rg.STG_CTRL p) := by
    rw [Rod.gw_congr _ _ (Rod.stgSet_regs ρ p data)]
    exact Rod.gw_when _ _ _ _ fun q => Rod.gw_p_ne q (Fl.STG_STAT_ARMED p) _ _ hne
  have hb (f : Fld) : (ρ.stgSet p data).b f = ((ρ.stgFields p data).when (wBits data 4 2 != 2) (·.p (Fl.STG_STAT_ARMED p) 0)).b f :=
    Rod.b_congr _ _ _ (Rod.gw_congr _ _ (Rod.stgSet_regs ρ p data) _)
  have hmis : (ρ.stgFields p data).b (Fl.STG_STAT_MISMATCH p) = ρ.b (Fl.STG_STAT_MISMATCH p) := by
    refine Rod.b_congr _ _ _ (hkeep _ ?_ ?_ ?_)
    all_goals simp [Fld.addr, Fl.STG_STAT_MISMATCH, Rg.STG_CTRL, Rg.FL_SEQ, Rg.IRQ_RAW]
    all_goals omega
  refine ⟨?_, ?_, ?_, fun hm => ?_, ?_, ?_⟩
  · rw [Rod.g_of_gw _ _ (Fl.STG_CTRL_OPEN p) hctrl, hopen]
  · rw [Rod.g_of_gw _ _ (Fl.STG_CTRL_VIEW p) hctrl, hview]
  · rw [Rod.g_of_gw _ _ (Fl.STG_CTRL_MODE p) hctrl, hmode]
  · rw [hb, bne_iff_ne.2 hm, Rod.when_true]
    simp [Rod.b, Rod.g_p, Fl.STG_STAT_ARMED]
  · rw [hb, ← hmis]
    refine Rod.when_keeps (·.b (Fl.STG_STAT_MISMATCH p)) _ _ _ fun q => ?_
    simp [Rod.b, Rod.g_p_ne, Fl.STG_STAT_ARMED, Fl.STG_STAT_MISMATCH]
  · refine Rod.keepsRegs_regs _ _ _ _ (Rod.stgSet_regs ρ p data) (Rod.when_invariant (ρ.keepsRegs · _) _ _ (fun q hq => ?_) _ ?_)
    · exact Rod.keepsRegs_p _ _ _ (Fl.STG_STAT_ARMED p) _ (.tail _ (.head _)) hq
    · exact Rod.keepsRegs_mono (by simp) hkeep

/-- A write of STG_CTRL without COMMIT. -/
theorem Rod.writeStgCtrl_set (ρ : Rod) (path p : Nat) (data : Word) (hs : pageStaged p = true) (hm : wBits data 4 2 ≠ 3)
    (hc : wBit data 0 = false) : ρ.writeStgCtrl path p data = ρ.stgSet p data := by
  unfold Rod.writeStgCtrl
  rw [if_neg (by simp [hs])]
  dsimp only
  rw [if_neg hm, if_pos (.inl hc)]
  rfl

/-- COMMIT in MANUAL mode requests the commit of the page, or is rejected while OPEN stays 1 (R57). -/
theorem Rod.writeStgCtrl_commit (ρ : Rod) (path p : Nat) (data : Word) (hs : pageStaged p = true) (hm : wBits data 4 2 = 0)
    (hc : wBit data 0 = true) (hmis : ρ.b (Fl.STG_STAT_MISMATCH p) = false) : ρ.writeStgCtrl path p data =
      let q := ρ.stgSet p data
      if wBit data 31 then q.commitBad p 7 0xFF else { q with cmtReq := q.cmtReq.filter (· != p) ++ [p] } := by
  have hset : (ρ.stgSet p data).b (Fl.STG_STAT_MISMATCH p) = false := by
    obtain ⟨-, -, -, -, hkept, -⟩ := Rod.stgSet_spec ρ p data
    rw [hkept, hmis]
  have hgo : ¬(wBit data 0 = false ∨ wBits data 4 2 ≠ 0 ∨ (ρ.stgSet p data).b (Fl.STG_STAT_MISMATCH p) = true) := by
    simp [hc, hm, hset]
  unfold Rod.writeStgCtrl
  rw [if_neg (by simp [hs])]
  dsimp only
  rw [if_neg (by omega)]
  exact if_neg hgo

/-- STG_COMMIT writes the other bits of STG_CTRL as given. -/
theorem commitData_bits (data : Word) : wBit (data ||| 1#32) 0 = true ∧ wBit (data ||| 1#32) 31 = wBit data 31 ∧
    wBits (data ||| 1#32) 4 2 = wBits data 4 2 := by
  refine ⟨by simp [wBit], by simp [wBit], Nat.eq_of_testBit_eq fun i => ?_⟩
  simp [wBits_testBit, BitVec.getLsbD_or]

theorem Rod.writeReg_STG_CTRL (ρ : Rod) (ps : RodId → Rod) (path p : Nat) (data : Word) :
    ρ.writeReg ps path (Rg.STG_CTRL p) data = ρ.writeStgCtrl path p data := by
  obtain ⟨hp, ho⟩ := header_place p 0x20 (by decide)
  unfold Rod.writeReg Rg.STG_CTRL
  rw [hp, ho]
  rfl

/-- An accepted write of STG_CTRL does what the register does. -/
theorem write32_STG_CTRL (s : State) (r : RodId) (path : Path) (p : Nat) (data : Word) (h : (s.rod r).accepts path (Rg.STG_CTRL p)) :
    ∃ t, write32 s r path (Rg.STG_CTRL p) data = .next t ∧ t.rod r = ((s.rod r).writeStgCtrl path.code p data).flush := by
  rw [← Rod.writeReg_STG_CTRL _ s.rod]
  exact write32_header s r path _ data h (by unfold Rg.STG_CTRL; omega)

/-- What STG_OPEN and STG_MODE leave, once the records are written. -/
theorem Rod.stgSet_flush (ρ : Rod) (p : Nat) (data : Word) :
    let q := (ρ.stgSet p data).flush
    q.g (Fl.STG_CTRL_OPEN p) = wBits data 31 1 ∧ q.g (Fl.STG_CTRL_VIEW p) = wBits data 8 1 ∧
    q.g (Fl.STG_CTRL_MODE p) = wBits data 4 2 ∧ (wBits data 4 2 ≠ 2 → q.b (Fl.STG_STAT_ARMED p) = false) ∧
    ρ.keepsRegs q [Rg.STG_CTRL p, Rg.STG_STAT p] := by
  obtain ⟨hopen, hview, hmode, harmed, -, hkeep⟩ := Rod.stgSet_spec ρ p data
  dsimp only
  rw [Rod.flush_g _ (Fl.STG_CTRL_OPEN p) (stgCtrl_not_log p), Rod.flush_g _ (Fl.STG_CTRL_VIEW p) (stgCtrl_not_log p),
    Rod.flush_g _ (Fl.STG_CTRL_MODE p) (stgCtrl_not_log p), Rod.b_congr _ _ (Fl.STG_STAT_ARMED p) (Rod.flush_gw _ _ (stgStat_not_log p))]
  exact ⟨hopen, hview, hmode, harmed, Rod.keepsRegs_flush _ _ _ hkeep⟩

/-- STG_COMMIT in MANUAL mode does what COMMIT does. -/
theorem exec_stgCommit_manual (s : State) (r : RodId) (path : Path) (p : Nat) (data : Word)
    (h : (s.rod r).accepts path (Rg.STG_CTRL p)) (hs : pageStaged p = true) (hm : wBits data 4 2 = 0)
    (hmis : (s.rod r).b (Fl.STG_STAT_MISMATCH p) = false) :
    ∃ t, exec (.stgCommit r path p data) s = .next t ∧ t.rod r =
      (let q := (s.rod r).stgSet p (data ||| 1#32)
       if wBit data 31 then q.commitBad p 7 0xFF else { q with cmtReq := q.cmtReq.filter (· != p) ++ [p] }).flush := by
  obtain ⟨hcommit, hopen, hmode⟩ := commitData_bits data
  obtain ⟨t, ht, e⟩ := write32_STG_CTRL s r path p (data ||| 1#32) h
  refine ⟨t, ht, ?_⟩
  rw [e, Rod.writeStgCtrl_commit _ _ _ _ hs (hmode.trans hm) hcommit hmis, hopen]

/-! ### STG_FT and STG_STAT (R58, R64) -/

/-- The lower half of STG_FT that a write of the upper half takes with it: the one that waits, or the one stored (R8). -/
def Rod.stgFtLo (ρ : Rod) (p : Nat) : Word := Sparse.get (ρ.gw (Rg.STG_FT_LO p)) ρ.loPend (Rg.STG_FT_LO p)

/-- The lower half of STG_FT has been stored. -/
def Rod.stgFtPair (ρ : Rod) (p : Nat) : Rod :=
  ({ ρ with loPend := Sparse.del ρ.loPend (Rg.STG_FT_LO p) }).pw (Rg.STG_FT_LO p) (ρ.stgFtLo p)

theorem Rod.writeReg_STG_FT_HI (ρ : Rod) (ps : RodId → Rod) (path p : Nat) (data : Word) :
    ρ.writeReg ps path (Rg.STG_FT_HI p) data = (ρ.stgFtPair p).writeStgFtHi p data := by
  obtain ⟨hp, ho⟩ : Rg.STG_FT_HI p / 0x1000 = p ∧ Rg.STG_FT_HI p % 0x1000 = 0x2C := header_place p 0x2C (by decide)
  have hlo : Rg.STG_FT_HI p - 4 = Rg.STG_FT_LO p := by unfold Rg.STG_FT_HI Rg.STG_FT_LO; omega
  unfold Rod.writeReg Rod.stgFtPair Rod.stgFtLo
  simp [hp, ho, hlo]

theorem Rod.writeReg_STG_STAT (ρ : Rod) (ps : RodId → Rod) (path p : Nat) (data : Word) :
    ρ.writeReg ps path (Rg.STG_STAT p) data = ρ.writeStgStat p data := by
  obtain ⟨hp, ho⟩ := header_place p 0x24 (by decide)
  unfold Rod.writeReg Rg.STG_STAT
  rw [hp, ho]
  rfl

/-- Storing the lower half changes its register alone. -/
theorem Rod.gw_stgFtPair_ne (ρ : Rod) (p a : Nat) (h : a ≠ Rg.STG_FT_LO p) : (ρ.stgFtPair p).gw a = ρ.gw a := by
  unfold Rod.stgFtPair
  rw [Rod.gw_pw_ne _ _ _ _ h]
  rfl

/-- In AT_FT mode a write of STG_FT_HI with an FT still to come arms the page (R58). -/
theorem Rod.writeStgFtHi_arms (ρ : Rod) (p : Nat) (data : Word) (hs : pageStaged p = true) (hm : ρ.g (Fl.STG_CTRL_MODE p) = 2)
    (hmis : ρ.b (Fl.STG_STAT_MISMATCH p) = false) (hv : ρ.b Fl.FT_STAT_VALID = true)
    (hft : ρ.ft < data.toNat * 2 ^ 32 + ρ.g (Fl.STG_FT_LO_FT p)) : ρ.writeStgFtHi p data =
      ({ ρ.pw (Rg.STG_FT_HI p) data with
          armed := Sparse.put ρ.armed p (data.toNat * 2 ^ 32 + ρ.g (Fl.STG_FT_LO_FT p)) }).p (Fl.STG_STAT_ARMED p) 1 := by
  have hg (f : Fld) (hf : f.addr ≠ Rg.STG_FT_HI p) : (ρ.pw (Rg.STG_FT_HI p) data).g f = ρ.g f :=
    Rod.g_of_gw _ _ _ (Rod.gw_pw_ne _ _ _ _ hf)
  have hmode : (ρ.pw (Rg.STG_FT_HI p) data).g (Fl.STG_CTRL_MODE p) = 2 := by
    rw [hg _ (by simp [Fld.addr, Fl.STG_CTRL_MODE, Rg.STG_FT_HI]), hm]
  have hmis' : (ρ.pw (Rg.STG_FT_HI p) data).b (Fl.STG_STAT_MISMATCH p) = false := by
    rw [Rod.b, hg _ (by simp [Fld.addr, Fl.STG_STAT_MISMATCH, Rg.STG_FT_HI])]
    exact hmis
  have hlo : (ρ.pw (Rg.STG_FT_HI p) data).g (Fl.STG_FT_LO_FT p) = ρ.g (Fl.STG_FT_LO_FT p) :=
    hg _ (by simp [Fld.addr, Fl.STG_FT_LO_FT, Rg.STG_FT_HI])
  unfold Rod.writeStgFtHi
  rw [if_neg (by simp [hs])]
  dsimp only
  rw [if_neg (by simp [hmode, hmis']), if_neg (by simp [hv]), hlo, if_neg (Nat.not_le.2 hft)]
  rfl

/-- Clearing MISMATCH reloads the page's shadows (R64). -/
theorem Rod.writeStgStat_clear (ρ : Rod) (p : Nat) (hs : pageStaged p = true) (hmis : ρ.b (Fl.STG_STAT_MISMATCH p) = true) :
    ρ.writeStgStat p 0x80000000#32 = (ρ.dropShadow p).p (Fl.STG_STAT_MISMATCH p) 0 := by
  have h30 : wBit 0x80000000#32 30 = false := by decide
  have h31 : wBit 0x80000000#32 31 = true := by decide
  unfold Rod.writeStgStat
  rw [if_neg (by simp [hs]), h30, h31]
  simp [hmis]

/-- A field that is a whole register reads as the register's word. -/
theorem Rod.g_whole (ρ : Rod) (f : Fld) (hl : f.lo = 0) (hw : f.w = 32) : ρ.g f = (ρ.gw f.addr).toNat := by
  unfold Rod.g wBits natBits
  rw [hl, hw, Nat.pow_zero, Nat.div_one, Nat.mod_eq_of_lt (BitVec.isLt _)]

/-- STG_FT_ARM arms the page at the FT it completes. -/
theorem exec_stgFtArm_arms (s : State) (r : RodId) (path : Path) (p : Nat) (data : Word)
    (h : (s.rod r).accepts path (Rg.STG_FT_HI p)) (hs : pageStaged p = true) (hm : (s.rod r).g (Fl.STG_CTRL_MODE p) = 2)
    (hmis : (s.rod r).b (Fl.STG_STAT_MISMATCH p) = false) (hv : (s.rod r).b Fl.FT_STAT_VALID = true)
    (hft : (s.rod r).ft < data.toNat * 2 ^ 32 + ((s.rod r).stgFtLo p).toNat) :
    ∃ t, exec (.stgFtArm r path p data) s = .next t ∧ t.rod r =
      (({ ((s.rod r).stgFtPair p).pw (Rg.STG_FT_HI p) data with
          armed := Sparse.put (s.rod r).armed p (data.toNat * 2 ^ 32 + ((s.rod r).stgFtLo p).toNat) } : Rod).p
            (Fl.STG_STAT_ARMED p) 1).flush := by
  let ρ := s.rod r
  have hlo : (ρ.stgFtPair p).g (Fl.STG_FT_LO_FT p) = (ρ.stgFtLo p).toNat := by
    rw [Rod.g_whole _ (Fl.STG_FT_LO_FT p) rfl rfl]
    exact congrArg BitVec.toNat (Rod.gw_pw_same _ _ _)
  have hg (f : Fld) (hf : f.addr ≠ Rg.STG_FT_LO p) : (ρ.stgFtPair p).g f = ρ.g f :=
    Rod.g_of_gw _ _ _ (Rod.gw_stgFtPair_ne _ _ _ hf)
  have hb (f : Fld) (hf : f.addr ≠ Rg.STG_FT_LO p) : (ρ.stgFtPair p).b f = ρ.b f :=
    Rod.b_congr _ _ _ (Rod.gw_stgFtPair_ne _ _ _ hf)
  have hmode := (hg (Fl.STG_CTRL_MODE p) (by simp [Fld.addr, Fl.STG_CTRL_MODE, Rg.STG_FT_LO])).trans hm
  have hmis' := (hb (Fl.STG_STAT_MISMATCH p) (by simp [Fld.addr, Fl.STG_STAT_MISMATCH, Rg.STG_FT_LO])).trans hmis
  have hv' := (hb Fl.FT_STAT_VALID (by simp [Fld.addr, Fl.FT_STAT_VALID, Rg.STG_FT_LO]; omega)).trans hv
  have harms := Rod.writeStgFtHi_arms (ρ.stgFtPair p) p data hs hmode hmis' hv' (by rw [hlo]; exact hft)
  rw [hlo] at harms
  obtain ⟨t, ht, e⟩ := write32_header s r path _ data h (by unfold Rg.STG_FT_HI; omega)
  rw [Rod.writeReg_STG_FT_HI] at e
  exact ⟨t, ht, e.trans (congrArg Rod.flush harms)⟩

/-- MISMATCH_CLEAR, where MISMATCH is set. -/
theorem exec_mismatchClear_clears (s : State) (r : RodId) (path : Path) (p : Nat) (h : (s.rod r).accepts path (Rg.STG_STAT p))
    (hs : pageStaged p = true) (hmis : (s.rod r).b (Fl.STG_STAT_MISMATCH p) = true) :
    ∃ t, exec (.mismatchClear r path p) s = .next t ∧
      t.rod r = (((s.rod r).dropShadow p).p (Fl.STG_STAT_MISMATCH p) 0).flush := by
  rw [← Rod.writeStgStat_clear _ _ hs hmis, ← Rod.writeReg_STG_STAT _ s.rod path.code]
  exact write32_header s r path _ 0x80000000#32 h (by unfold Rg.STG_STAT; omega)

/-! ### The statement -/

/-- Settles O19: each command is an accepted write of STG_CTRL, STG_FT_HI or STG_STAT, and the register's own law says what it
leaves. -/
theorem stagingHeaderActs : Obligations.StagingHeaderActs := by
  unfold Obligations.StagingHeaderActs
  intro s r path p data
  dsimp only
  intro hs
  refine ⟨fun h hm hc => ?_, fun h hm hmis => ⟨fun hopen => ?_, fun hopen => ?_⟩, fun h hm hmis hv hft => ?_, fun h hmis => ?_⟩
  · obtain ⟨t, ht, e⟩ := write32_STG_CTRL s r path p data h
    have hset := Rod.stgSet_flush (s.rod r) p data
    rw [← Rod.writeStgCtrl_set _ path.code _ _ hs hm hc, ← e] at hset
    exact ⟨⟨t, ht, hset⟩, ⟨t, ht, hset⟩⟩
  · obtain ⟨t, ht, e⟩ := exec_stgCommit_manual s r path p data h hs hm hmis
    obtain ⟨-, -, -, -, -, hkeep⟩ := Rod.stgSet_spec (s.rod r) p (data ||| 1#32)
    rw [hopen] at e
    refine ⟨t, ht, ?_⟩
    dsimp only
    rw [e, Rod.flush_cmtReq, Rod.flush_shadow]
    exact ⟨by simp, Rod.stgSet_shadow _ _ _, Rod.keepsRegs_flush _ _ _ (Rod.keepsRegs_regs _ _ _ _ rfl hkeep)⟩
  · obtain ⟨t, ht, e⟩ := exec_stgCommit_manual s r path p data h hs hm hmis
    obtain ⟨-, -, -, -, -, hkeep⟩ := Rod.stgSet_spec (s.rod r) p (data ||| 1#32)
    obtain ⟨hbad, hcode, -, hdirty, hrec, hkeepBad⟩ := Rod.commitBad_flush ((s.rod r).stgSet p (data ||| 1#32)) p 7 0xFF
    rw [hopen] at e
    refine ⟨t, ht, ?_⟩
    dsimp only
    rw [e]
    exact ⟨hbad, hcode, hdirty, hrec,
      Rod.keepsRegs_trans (Rod.keepsRegs_mono (by simp) hkeep) (Rod.keepsRegs_mono (by simp) hkeepBad)⟩
  · obtain ⟨t, ht, e⟩ := exec_stgFtArm_arms s r path p data h hs hm hmis hv hft
    refine ⟨t, ht, ?_⟩
    dsimp only
    rw [e, Rod.flush_armed, Rod.b_congr _ _ (Fl.STG_STAT_ARMED p) (Rod.flush_gw _ _ (stgStat_not_log p))]
    refine ⟨by simp [Rod.b, Rod.g_p, Fl.STG_STAT_ARMED], (Sparse.get_put _ _ _ _ _).trans (if_pos rfl), Rod.keepsRegs_flush _ _ _ ?_⟩
    refine Rod.keepsRegs_p _ _ _ (Fl.STG_STAT_ARMED p) _ (.head _)
      (Rod.keepsRegs_regs _ (((s.rod r).stgFtPair p).pw (Rg.STG_FT_HI p) data) _ _ rfl ?_)
    exact Rod.keepsRegs_pw _ _ _ _ _ (.tail _ (.tail _ (.head _)))
      (Rod.keepsRegs_pw _ _ _ _ _ (.tail _ (.head _)) (Rod.keepsRegs_regs _ (s.rod r) _ _ rfl (Rod.keepsRegs_refl _ _)))
  · obtain ⟨t, ht, e⟩ := exec_mismatchClear_clears s r path p h hs hmis
    refine ⟨t, ht, ?_⟩
    dsimp only
    rw [e, Rod.b_congr _ _ (Fl.STG_STAT_MISMATCH p) (Rod.flush_gw _ _ (stgStat_not_log p)),
      Rod.dirty_congr ((s.rod r).dropShadow p) _ ((Rod.flush_shadow _).trans (Rod.p_shadow _ _ _)) p]
    exact ⟨by simp [Rod.b, Rod.g_p, Fl.STG_STAT_MISMATCH], Rod.dirty_dropShadow _ _, Rod.keepsRegs_flush _ _ _
      (Rod.keepsRegs_p _ _ _ (Fl.STG_STAT_MISMATCH p) _ (.head _) (Rod.keepsRegs_regs _ (s.rod r) _ _ rfl (Rod.keepsRegs_refl _ _)))⟩

end Sys2Proof.Machine
end

section
/-! The commit of a new PWM period, which reaches the pages that show it. -/

namespace Sys2Proof.Machine

/-- Rod X in SYNC with its clocks and power domains on: PG_CRC of page 0x091 is that of the values in force, and a MANUAL commit of
page 0x090 is requested with PERIOD 0x0C84 written. -/
def retimedRod : Rod :=
  let ρ := (((Rod.init .x).p Fl.CLK_STAT_RUN 0x1FFF).p Fl.PWR_STAT_PWR_OK 0x3F).p Fl.ROD_STATE_ROD_X RS.sync
  { ρ.newCrc 0x091 with shadow := [(Rg.DRV_PWM 0, 0x0C840020#32)], cmtReq := [0x090] }

/-- The module with rod X about to take a new period. -/
def retimedState : State := { State.reset with x := retimedRod }

/-- The commit is due, without ticks, and passes its checks. -/
theorem retimedState_commit_due : retimedRod.pageOn 0x090 = true ∧ retimedRod.b (Fl.STG_STAT_MISMATCH 0x090) = false ∧
    retimedRod.ticksRun = false ∧ retimedRod.g (Fl.STG_CTRL_MODE 0x090) = 0 ∧ 0x090 ∈ retimedRod.cmtReq ∧
    retimedRod.verdict (retimedRod.overlay [0x090]) 0x090 = none := by
  decide +kernel

/-- The commit forms PG_CRC of page 0x091 anew: its DRV_PWM shows the new PERIOD (R68, R437). -/
theorem retimedState_crc_changes (t : State) (h : exec (.noTickCommit .x 0x090) retimedState = .next t) :
    (t.rod .x).gw (Rg.PG_CRC 0x091) ≠ retimedRod.gw (Rg.PG_CRC 0x091) := by
  have e : (match exec (.noTickCommit .x 0x090) retimedState with
    | .next t => decide ((t.rod .x).gw (Rg.PG_CRC 0x091) ≠ retimedRod.gw (Rg.PG_CRC 0x091))
    | _ => false) = true := by decide +kernel
  rw [h] at e
  exact of_decide_eq_true e

/-- Refutes O20: it counts page 0x090 among the pages whose commit leaves the registers of every other page, but a commit that
changes PERIOD there also forms PG_CRC of pages 0x091 and 0x092 anew, which show it (R68, R437). The counterexample runs no
ticks, so it stands also where the statement is read at sampling instants alone (R57), which its hypotheses do not ask for. -/
theorem not_commitTakesAllOrNothing : ¬ Obligations.CommitTakesAllOrNothing := by
  unfold Obligations.CommitTakesAllOrNothing
  intro h
  obtain ⟨hon, hmis, hticks, hmode, hreq, hpass⟩ := retimedState_commit_due
  obtain ⟨-, hnoTick, -⟩ := h retimedState .x 0x090 (by decide) hon hmis
  obtain ⟨hok, -⟩ := hnoTick hticks (.inl ⟨hmode, hreq⟩)
  obtain ⟨t, ht, -, -, -, -, -, -, hother⟩ := hok hpass
  exact retimedState_crc_changes t ht (hother (Rg.PG_CRC 0x091) (by decide) (by decide) (by decide))

end Sys2Proof.Machine
end

section
/-! What the later changes of a command leave of the earlier ones: registers, part of the mode state, messages and records. -/

namespace Sys2Proof.Machine

/-! ### Records that wait or have gone out -/

/-- A record waits to be written, or has gone out to the partners (R39, R191). -/
def Rod.reports (ρ : Rod) (e : FaultRec) : Prop := e ∈ ρ.recBuf ∨ Out.record e ∈ ρ.out

/-- A fault of this code, severity and page has been detected by the rod. -/
def Rod.noted (ρ : Rod) (code sev page : Nat) : Prop :=
  ∃ e : FaultRec, ρ.reports e ∧ e.code = BitVec.ofNat 16 code ∧ e.sev = BitVec.ofNat 8 sev ∧ e.page = BitVec.ofNat 16 page ∧
    e.rod = BitVec.ofNat 8 ρ.me.code

theorem Rod.noted_fltAP (ρ : Rod) (c sv pg ax ph : Nat) (d : List (Nat × Nat × Nat)) : (ρ.fltAP c sv pg ax ph d).noted c sv pg :=
  ⟨_, .inl (Rod.fltAP_mem ρ c sv pg ax ph d), rfl, rfl, rfl, rfl⟩

/-- Once no record waits, what was detected is recorded. -/
theorem Rod.noted.recorded {ρ : Rod} {c sv pg : Nat} (h : ρ.noted c sv pg) (hr : ρ.recBuf = []) : ρ.recorded c sv pg := by
  obtain ⟨e, he, hw⟩ := h
  refine ⟨e, he.resolve_left ?_, hw⟩
  simp [hr]

/-! ### The relation -/

/-- What is kept of a register: of IRQ_RAW the bits that are set, of any other register its word. -/
def keepsWord (a : Nat) (w w' : Word) : Prop := if a % 0x1000 = 0x10 then ∀ i, wBit w i = true → wBit w' i = true else w' = w

theorem keepsWord_refl (a : Nat) (w : Word) : keepsWord a w w := by
  unfold keepsWord
  split
  · exact fun _ h => h
  · rfl

theorem keepsWord_trans {a : Nat} {u v w : Word} (h : keepsWord a u v) (k : keepsWord a v w) : keepsWord a u w := by
  unfold keepsWord at *
  split at h
  · next ha => rw [if_pos ha] at k ⊢; exact fun i hi => k i (h i hi)
  · next ha => rw [if_neg ha] at k ⊢; exact k.trans h

theorem keepsWord_or (p : Nat) (w m : Word) : keepsWord (Rg.IRQ_RAW p) w (w ||| m) := by
  unfold keepsWord Rg.IRQ_RAW
  rw [if_pos (by omega)]
  intro i hi
  unfold wBit at *
  rw [BitVec.getLsbD_or, hi, Bool.true_or]

/-- `q` comes of `ρ` by changes that leave the registers of `K`, the part `V` of the mode state, every message sent, and every
record detected. -/
structure Rod.carries {β : Type} (V : ModeS → β) (K : Nat → Bool) (ρ q : Rod) : Prop where
  me : q.me = ρ.me
  md : V q.md = V ρ.md
  regs : ∀ a, K a = true → keepsWord a (ρ.gw a) (q.gw a)
  sent : ∀ o ∈ ρ.out, o ∈ q.out
  reports : ∀ e, ρ.reports e → q.reports e

section
variable {β : Type} {V : ModeS → β} {K : Nat → Bool} {ρ q q' : Rod}

theorem Rod.carries_refl (V : ModeS → β) (K : Nat → Bool) (ρ : Rod) : ρ.carries V K ρ :=
  ⟨rfl, rfl, fun _ _ => keepsWord_refl _ _, fun _ h => h, fun _ h => h⟩

theorem Rod.carries_trans (h : ρ.carries V K q) (k : q.carries V K q') : ρ.carries V K q' :=
  ⟨k.me.trans h.me, k.md.trans h.md, fun a ha => keepsWord_trans (h.regs a ha) (k.regs a ha), fun o ho => k.sent o (h.sent o ho),
    fun e he => k.reports e (h.reports e he)⟩

/-- A change of other parts of the state. -/
theorem Rod.carries_same (h : ρ.carries V K q) (hme : q'.me = q.me := by rfl) (hmd : V q'.md = V q.md := by rfl)
    (hr : q'.regs = q.regs := by rfl) (ho : q'.out = q.out := by rfl) (hb : q'.recBuf = q.recBuf := by rfl) : ρ.carries V K q' :=
  Rod.carries_trans h ⟨hme, hmd, fun a _ => by rw [Rod.gw_congr q q' hr]; exact keepsWord_refl _ _, fun o k => by rwa [ho],
    fun e k => by unfold Rod.reports at *; rwa [ho, hb]⟩

theorem Rod.carries_pw (a : Nat) (v : Word) (ha : K a = false) (h : ρ.carries V K q) : ρ.carries V K (q.pw a v) := by
  refine Rod.carries_trans h ⟨rfl, rfl, fun i hi => ?_, fun _ k => k, fun _ k => k⟩
  rw [Rod.gw_pw_ne _ _ _ _ (fun e => by rw [e, ha] at hi; cases hi)]
  exact keepsWord_refl _ _

theorem Rod.carries_p (f : Fld) (v : Nat) (hf : K f.addr = false) (h : ρ.carries V K q) : ρ.carries V K (q.p f v) :=
  Rod.carries_pw f.addr _ hf h

theorem Rod.carries_send (o : Out) (h : ρ.carries V K q) : ρ.carries V K (q.send o) :=
  Rod.carries_trans h ⟨rfl, rfl, fun _ _ => keepsWord_refl _ _, fun _ k => List.mem_append_left _ k,
    fun _ k => k.imp id (List.mem_append_left _)⟩

theorem Rod.carries_irqMask (p : Nat) (m : Word) (h : ρ.carries V K q) : ρ.carries V K (q.irqMask p m) := by
  obtain ⟨b, l, e⟩ := Rod.irqMask_cases q p m
  refine Rod.carries_trans h ⟨by rw [e]; rfl, by rw [e]; rfl, fun a _ => ?_, fun o k => by rw [e]; exact List.mem_append_left _ k,
    fun r k => by rw [e]; exact k.imp id (List.mem_append_left _)⟩
  rw [Rod.gw_irqMask]
  split
  · next ha => rw [ha]; exact keepsWord_or _ _ _
  · exact keepsWord_refl _ _

theorem Rod.carries_irq (p i : Nat) (h : ρ.carries V K q) : ρ.carries V K (q.irq p i) := Rod.carries_irqMask p _ h

theorem Rod.carries_fltAP {c sv pg ax ph : Nat} {d : List (Nat × Nat × Nat)} (h : ρ.carries V K q) :
    ρ.carries V K (q.fltAP c sv pg ax ph d) :=
  Rod.carries_trans h ⟨rfl, rfl, fun _ _ => keepsWord_refl _ _, fun _ k => k,
    fun _ k => k.imp (fun k => (insertRec_mem _ _ _).2 (.inr k)) id⟩

theorem Rod.carries_when (c : Bool) (f : Rod → Rod) (hf : ∀ p, ρ.carries V K p → ρ.carries V K (f p)) (h : ρ.carries V K q) :
    ρ.carries V K (q.when c f) := Rod.when_invariant (ρ.carries V K) c f hf q h

theorem Rod.carries_each {α : Type} (l : List α) (f : α → Rod → Rod) (hf : ∀ x p, ρ.carries V K p → ρ.carries V K (f x p))
    (h : ρ.carries V K q) : ρ.carries V K (q.each l f) := Rod.each_invariant (ρ.carries V K) f hf l q h

/-- The records of the command are written. -/
theorem Rod.carries_flush (hK : K Rg.FL_SEQ = false) (h : ρ.carries V K q) : ρ.carries V K q.flush := by
  obtain ⟨m, hm, hr⟩ := Rod.flush_out q
  refine Rod.carries_trans h ⟨Rod.flush_me _, by rw [Rod.flush_md], fun a ha => ?_, fun o k => by rw [hm]; exact List.mem_append_left _ k,
    fun e k => .inr (by rw [hm]; exact k.elim (fun k => List.mem_append_right _ (hr e k)) (List.mem_append_left _))⟩
  by_cases h0 : a = Rg.IRQ_RAW 0x0D0
  · unfold keepsWord
    rw [h0, if_pos (by decide)]
    exact fun i hi => Rod.raised_flush q 0x0D0 i hi
  · rw [Rod.flush_gw q a (by simp only [logRegs, List.mem_cons, List.not_mem_nil, or_false, h0]; rintro rfl; rw [hK] at ha; cases ha)]
    exact keepsWord_refl _ _

/-! ### What it says -/

theorem Rod.carries.gw (h : ρ.carries V K q) (a : Nat) (ha : K a = true) (hi : a % 0x1000 ≠ 0x10) : q.gw a = ρ.gw a := by
  have := h.regs a ha
  unfold keepsWord at this
  rwa [if_neg hi] at this

theorem Rod.carries.g (h : ρ.carries V K q) (f : Fld) (hf : K f.addr = true) (hi : f.addr % 0x1000 ≠ 0x10) : q.g f = ρ.g f :=
  Rod.g_of_gw _ _ _ (h.gw _ hf hi)

theorem Rod.carries.b (h : ρ.carries V K q) (f : Fld) (hf : K f.addr = true) (hi : f.addr % 0x1000 ≠ 0x10) : q.b f = ρ.b f :=
  Rod.b_congr _ _ _ (h.gw _ hf hi)

theorem rodStateF_addr (r : RodId) : (rodStateF r).addr = Rg.ROD_STATE := by
  simp [rodStateF, Fld.addr, Rg.ROD_STATE]

theorem Rod.carries.seen (h : ρ.carries V K q) (hK : K Rg.ROD_STATE = true) (r : RodId) : q.seen r = ρ.seen r :=
  h.g (rodStateF r) (by rwa [rodStateF_addr]) (by rw [rodStateF_addr]; decide)

theorem Rod.carries.state (h : ρ.carries V K q) (hK : K Rg.ROD_STATE = true) : q.state = ρ.state := by
  unfold Rod.state
  rw [h.me, h.seen hK]

theorem Rod.carries.mode (h : ρ.carries V K q) (hK : K Rg.SYS_MODE = true) : q.mode = ρ.mode :=
  h.g Fl.SYS_MODE_MODE hK (by decide)

theorem Rod.carries.raised (h : ρ.carries V K q) (p i : Nat) (hK : K (Rg.IRQ_RAW p) = true) (hr : ρ.raised p i) : q.raised p i := by
  have := h.regs _ hK
  unfold keepsWord at this
  rw [if_pos (by unfold Rg.IRQ_RAW; omega)] at this
  exact this i hr

theorem Rod.carries.noted (h : ρ.carries V K q) {c sv pg : Nat} (hn : ρ.noted c sv pg) : q.noted c sv pg := by
  obtain ⟨e, he, hc, hs, hp, hr⟩ := hn
  exact ⟨e, h.reports e he, hc, hs, hp, by rw [h.me]; exact hr⟩

/-- A rod whose records are written has recorded what was detected before. -/
theorem Rod.carries.recorded (h : ρ.carries V K q) {c sv pg : Nat} (hn : ρ.noted c sv pg) (hK : K Rg.FL_SEQ = false) :
    q.flush.recorded c sv pg :=
  ((Rod.carries_flush hK h).noted hn).recorded (Rod.flush_recBuf q)

end

end Sys2Proof.Machine
end

section
/-! Entering a rod state, and the withdrawal of a rod (Tables 3.3 and 14.1). -/

namespace Sys2Proof.Machine

/-- What a command that acts on one rod leaves of that rod. -/
theorem completes_onRod {i : Instr} {s : State} {r : RodId} {f : Rod → Rod} {P : Rod → Prop} (he : exec i s = onRod s r f)
    (h : P (f (s.rod r)).flush) : completes i s fun t => P (t.rod r) :=
  ⟨_, he, by dsimp only; rwa [State.rod_putRod]⟩

theorem Rod.flush_b (ρ : Rod) (f : Fld) (h : f.addr ∉ logRegs) : ρ.flush.b f = ρ.b f := Rod.b_congr _ _ _ (Rod.flush_gw _ _ h)

/-- A one-bit field reads as the bit written to it. -/
theorem Rod.b_p (ρ : Rod) (f : Fld) (v : Bool) (h : f.lo + f.w ≤ 32) (hw : f.w = 1) : (ρ.p f (b2n v)).b f = v := by
  unfold Rod.b
  rw [Rod.g_p _ _ _ h, hw]
  cases v <;> rfl

theorem Rod.b_p_ne (ρ : Rod) (f f' : Fld) (v : Nat) (h : f.lo + f.w ≤ 32)
    (hd : f'.addr ≠ f.addr ∨ f'.lo + f'.w ≤ f.lo ∨ f.lo + f.w ≤ f'.lo) : (ρ.p f v).b f' = ρ.b f' := by
  unfold Rod.b
  rw [Rod.g_p_ne _ _ _ _ h hd]

theorem Rod.b_irq_ne (ρ : Rod) (p j : Nat) (f : Fld) (h : f.addr ≠ Rg.IRQ_RAW p) : (ρ.irq p j).b f = ρ.b f :=
  Rod.b_congr _ _ _ (Rod.gw_irq_ne _ _ _ _ h)

theorem Rod.flush_state (ρ : Rod) : ρ.flush.state = ρ.state :=
  (Rod.carries_flush (V := fun _ => ()) (K := fun a => a == Rg.ROD_STATE) rfl (Rod.carries_refl _ _ ρ)).state rfl

/-- Where the own state is read from: the rod's name and ROD_STATE. -/
theorem Rod.state_congr (ρ q : Rod) (hme : q.me = ρ.me) (h : q.gw Rg.ROD_STATE = ρ.gw Rg.ROD_STATE) : q.state = ρ.state := by
  unfold Rod.state Rod.seen
  rw [hme]
  exact Rod.g_of_gw _ _ _ (by rwa [rodStateF_addr])

/-! ### A state entered -/

theorem rodStateF_bits (r : RodId) : (rodStateF r).lo + (rodStateF r).w ≤ 32 := by cases r <;> decide

theorem Rod.seen_setSeen (ρ : Rod) (r : RodId) (st : Nat) (h : st < 16) : (ρ.setSeen r st).seen r = st := by
  unfold Rod.setSeen
  split
  · assumption
  · unfold Rod.seen
    rw [Rod.g_irq_ne _ _ _ _ (by rw [rodStateF_addr]; decide), Rod.g_p _ _ _ (rodStateF_bits r)]
    exact Nat.mod_eq_of_lt h

/-- A rod shows the state it enters. -/
theorem Rod.state_enter (ρ : Rod) (st : Nat) (h : st < 16) : (ρ.enter st).state = st := by
  have hme : (ρ.enter st).me = ρ.me := by
    unfold Rod.enter Rod.setSeen
    split
    · rfl
    · exact Rod.irq_me _ _ _
  unfold Rod.state
  rw [hme]
  exact Rod.seen_setSeen ρ ρ.me st h

/-- A change of state raises ROD_CHG (R109). -/
theorem Rod.raised_enter (ρ : Rod) (st : Nat) (h : ρ.state ≠ st) : (ρ.enter st).raised 0x001 4 := by
  unfold Rod.enter Rod.setSeen
  rw [if_neg (show ¬ρ.seen ρ.me = st from h)]
  exact Rod.irq_sets _ _ _ (by decide)

theorem Rod.only_setSeen {ρ q σ : Rod} {ex : List Nat} (r : RodId) (st : Nat) (hs : Rg.ROD_STATE ∈ ex) (hi : Rg.IRQ_RAW 0x001 ∈ ex)
    (h : ρ.only q ex σ) : ρ.only (q.setSeen r st) ex σ := by
  unfold Rod.setSeen
  split
  · exact h
  · exact Rod.only_irq _ _ hi (Rod.only_p _ _ (by rwa [rodStateF_addr]) h)

theorem Rod.only_enter {ρ q σ : Rod} {ex : List Nat} (st : Nat) (hs : Rg.ROD_STATE ∈ ex) (hi : Rg.IRQ_RAW 0x001 ∈ ex)
    (h : ρ.only q ex σ) : ρ.only (q.enter st) ex σ := Rod.only_setSeen _ _ hs hi h

section
variable {β : Type} {V : ModeS → β} {K : Nat → Bool} {ρ q : Rod}

theorem Rod.carries_setSeen (r : RodId) (st : Nat) (hK : K Rg.ROD_STATE = false) (h : ρ.carries V K q) :
    ρ.carries V K (q.setSeen r st) := by
  unfold Rod.setSeen
  split
  · exact h
  · exact Rod.carries_irq _ _ (Rod.carries_p _ _ (by rwa [rodStateF_addr]) h)

theorem Rod.carries_enter (st : Nat) (hK : K Rg.ROD_STATE = false) (h : ρ.carries V K q) : ρ.carries V K (q.enter st) :=
  Rod.carries_setSeen _ _ hK h

/-- The rod is fenced: a part of the mode state that has neither DIS, the park-hold nor the fence in ARMING is kept. -/
theorem Rod.carries_fence (hK : K Rg.ROD_STATE = false)
    (hV : ∀ m : ModeS, ∀ d p a, V { m with dis := d, park := p, armFenced := a } = V m) (h : ρ.carries V K q) : ρ.carries V K q.fence :=
  Rod.carries_enter _ hK (Rod.carries_same h rfl (hV _ _ _ _))

theorem Rod.carries_withdraw (hK : K Rg.ROD_STATE = false)
    (hV : ∀ m : ModeS, ∀ d p a, V { m with dis := d, park := p, armFenced := a } = V m) (h : ρ.carries V K q) :
    ρ.carries V K q.withdraw := by
  unfold Rod.withdraw
  split
  · exact Rod.carries_send _ (Rod.carries_fence hK hV h)
  · exact h

end

/-! ### Withdrawal -/

theorem Rod.fence_md (ρ : Rod) :
    ρ.fence.md = { ρ.md with dis := true, park := false, armFenced := ρ.md.armFenced || ρ.mode == SM.arming } := by
  unfold Rod.fence Rod.enter Rod.setSeen
  split
  · rfl
  · rw [Rod.irq_md, Rod.p_md]

theorem Rod.fence_state (ρ : Rod) : ρ.fence.state = RS.fenced := Rod.state_enter _ _ (by decide)

theorem Rod.only_fence {ρ : Rod} {ex : List Nat} (hs : Rg.ROD_STATE ∈ ex) (hi : Rg.IRQ_RAW 0x001 ∈ ex) :
    ρ.only ρ.fence ex { ρ with md := ρ.fence.md } := by
  rw [Rod.fence_md]
  exact Rod.only_enter _ hs hi ⟨Rod.keepsRegs_regs _ _ _ _ rfl (Rod.keepsRegs_refl _ _), rfl⟩

/-- A rod in service that withdraws is FENCED with DIS, and sends its notice (Tables 3.3 and 14.1). -/
theorem Rod.withdraw_serving (ρ : Rod) (h : RS.serving ρ.state = true) :
    ρ.withdraw = ρ.fence.send (.withdrawn (BitVec.ofNat 32 ρ.tick)) := if_pos h

/-- A rod that is not in service has nothing to withdraw. -/
theorem Rod.withdraw_idle (ρ : Rod) (h : RS.serving ρ.state = false) : ρ.withdraw = ρ := if_neg (by simp [h])

/-- The state of a rod that withdraws, and its notice. -/
theorem Rod.withdraw_leaves (ρ : Rod) :
    (RS.serving ρ.state = true → ρ.withdraw.state = RS.fenced ∧ ρ.withdraw.md.dis = true ∧
      Out.withdrawn (BitVec.ofNat 32 ρ.tick) ∈ ρ.withdraw.out) ∧
    (RS.serving ρ.state = false → ρ.withdraw.state = ρ.state) := by
  refine ⟨fun h => ?_, fun h => by rw [Rod.withdraw_idle _ h]⟩
  rw [Rod.withdraw_serving _ h]
  refine ⟨Rod.fence_state ρ, ?_, by simp [Rod.send]⟩
  rw [Rod.send_md, Rod.fence_md]

theorem Rod.only_withdraw (ρ : Rod) : ρ.only ρ.withdraw [Rg.ROD_STATE, Rg.IRQ_RAW 0x001] { ρ with md := ρ.withdraw.md } := by
  unfold Rod.withdraw
  split
  · obtain ⟨hk, ha⟩ := Rod.only_fence (ρ := ρ) (.head _) (.tail _ (.head _))
    exact ⟨hk, Rod.agrees_trans _ _ _ (Rod.agrees_send _ _) ha⟩
  · exact Rod.only_refl _ _

end Sys2Proof.Machine
end

section
/-! The windows of lockstep and the reaction to a mismatch (R528 to R532). -/

namespace Sys2Proof.Machine

/-! ### Listed keys -/

theorem Sparse.has_put {α : Type} (m : Sparse α) (k i : Nat) (v : α) : Sparse.has (Sparse.put m k v) i = (decide (i = k) || Sparse.has m i) := by
  induction m with
  | nil => simp [Sparse.put, Sparse.has]
  | cons e t ih =>
    obtain ⟨j, u⟩ := e
    unfold Sparse.put
    split
    · next hk => subst hk; by_cases hi : i = k <;> simp [Sparse.has, hi]
    · split
      · by_cases hi : i = k <;> simp [Sparse.has, hi]
      · by_cases hi : i = k <;> by_cases hj : i = j <;> simp_all [Sparse.has]

theorem Sparse.has_del {α : Type} (m : Sparse α) (k : Nat) : Sparse.has (Sparse.del m k) k = false := by
  induction m with
  | nil => rfl
  | cons e t ih =>
    obtain ⟨j, u⟩ := e
    unfold Sparse.del
    split
    · exact ih
    · next hk => simp [Sparse.has, hk, ih]

/-! ### A window that ends -/

/-- What the end of a window of pair `p` leaves of the lockstep state (R527, R528). -/
def LsS.counted (l l' : LsS) (p : Nat) (main : DWord) : Prop :=
  Sparse.get 0#64 l'.tally p = main ∧ Sparse.has l'.win p = true ∧ (p ≠ 0 → Sparse.get Misr.init l'.sums p = Misr.init) ∧
  (∀ q, q ≠ p → Sparse.get 0#64 l'.tally q = Sparse.get 0#64 l.tally q ∧ Sparse.get 0 l'.win q = Sparse.get 0 l.win q) ∧
  Sparse.get 0 l'.win p = if Sparse.has l.win p then (Sparse.get 0 l.win p + 1) % 2 ^ 32 else 0

/-- The window of a pair counts it and starts the next one from 0. -/
theorem Rod.lsWindow_counted (ρ : Rod) (p : Nat) (main : DWord) : ρ.ls.counted (ρ.lsWindow p main).2.ls p main := by
  unfold Rod.lsWindow LsS.counted
  dsimp only
  by_cases hp : p = 0
  · rw [if_pos hp]
    refine ⟨by simp [Sparse.get_put], by simp [Sparse.has_put], fun h => absurd hp h, fun q hq => ?_, by simp [Sparse.get_put]⟩
    exact ⟨by simp [Sparse.get_put, hq], by simp [Sparse.get_put, hq]⟩
  · rw [if_neg hp]
    refine ⟨by simp [Sparse.get_put], by simp [Sparse.has_put], fun _ => by simp [Sparse.get_put], fun q hq => ?_, by simp [Sparse.get_put]⟩
    exact ⟨by simp [Sparse.get_put, hq], by simp [Sparse.get_put, hq]⟩

theorem Rod.only_lsWindow (ρ : Rod) (p : Nat) (main : DWord) (ex : List Nat) :
    ρ.only (ρ.lsWindow p main).2 ex { ρ with ls := (ρ.lsWindow p main).2.ls } := ⟨Rod.keepsRegs_refl _ _, rfl⟩

/-- The two tallies of a window agree where their difference is 0. -/
theorem Rod.lsDelta_eq (ρ : Rod) (p : Nat) (core : List (Nat × List LsEvent)) (diff : DWord) :
    ρ.lsDelta p core diff = ρ.mainTally p core ^^^ (ρ.shadowTally p core ^^^ diff) := BitVec.xor_assoc _ _ _

/-! ### The reaction (R529, R530) -/

/-- What a withdrawal of the rod by its die leaves (R151, R529). -/
def Rod.leaves (σ τ : Rod) : Prop :=
  τ.md.dis = true ∧ τ.md.txOff = true ∧
  (RS.serving σ.state = true → τ.state = RS.fenced ∧ Out.withdrawn (BitVec.ofNat 32 σ.tick) ∈ τ.out) ∧
  (RS.serving σ.state = false → τ.state = σ.state)

/-- The rod with its FlexRay balls at high impedance for a fault of its own (R151). -/
def Rod.silenced (ρ : Rod) : Rod := { ρ with md := { ρ.md with txOff := true } }

theorem Rod.withdrawDie_eq (ρ : Rod) : ρ.withdrawDie = if RS.serving ρ.state then ρ.silenced.withdraw else ρ := rfl

/-- The registers that a withdrawal writes. -/
def fenceRegs : List Nat := [Rg.ROD_STATE, Rg.IRQ_RAW 0x001]

theorem Rod.only_withdrawDie (ρ : Rod) : ρ.only ρ.withdrawDie fenceRegs { ρ with md := ρ.withdrawDie.md } := by
  rw [Rod.withdrawDie_eq]
  split
  · exact Rod.only_withdraw ρ.silenced
  · exact Rod.only_refl _ _

theorem Rod.withdrawDie_serving (ρ : Rod) (h : RS.serving ρ.state = true) : ρ.withdrawDie.state = RS.fenced := by
  rw [Rod.withdrawDie_eq, if_pos h]
  exact ((Rod.withdraw_leaves ρ.silenced).1 h).1

/-- The rod with its drives disabled and its FlexRay balls at high impedance (R529). -/
def Rod.lsHeld (ρ : Rod) : Rod := { ρ with md := { ρ.md with dis := true, txOff := true } }

theorem Rod.lsReact_eq (ρ : Rod) : ρ.lsReact = if RS.serving ρ.state then ρ.lsHeld.silenced.withdraw else ρ.lsHeld := rfl

theorem Rod.lsReact_leaves (ρ : Rod) : ρ.leaves ρ.lsReact := by
  cases hs : RS.serving ρ.state with
  | true =>
    rw [Rod.lsReact_eq, if_pos hs]
    obtain ⟨hstate, hdis, hout⟩ := (Rod.withdraw_leaves ρ.lsHeld.silenced).1 hs
    refine ⟨hdis, ?_, fun _ => ⟨hstate, hout⟩, fun k => absurd (hs.symm.trans k) (by decide)⟩
    rw [Rod.withdraw_serving ρ.lsHeld.silenced hs, Rod.send_md, Rod.fence_md]
    rfl
  | false =>
    rw [Rod.lsReact_eq, if_neg (by simp [hs])]
    exact ⟨rfl, rfl, fun k => absurd (hs.symm.trans k) (by decide), fun _ => rfl⟩

theorem Rod.only_lsReact (ρ : Rod) : ρ.only ρ.lsReact fenceRegs { ρ with md := ρ.lsReact.md } :=
  Rod.only_withdrawDie ρ.lsHeld

/-- The reaction writes neither the registers of lockstep nor what was detected. -/
theorem Rod.carries_lsReact (ρ : Rod) : ρ.carries (fun _ => ()) (· != Rg.ROD_STATE) ρ.lsReact := by
  have hq : ρ.carries (fun _ => ()) (· != Rg.ROD_STATE) ρ.lsHeld := Rod.carries_same (Rod.carries_refl _ _ _)
  rw [Rod.lsReact_eq]
  split
  · exact Rod.carries_withdraw rfl (fun _ _ _ _ => rfl) (Rod.carries_same hq)
  · exact hq

/-- What a rod leaves by its die it leaves whatever the lockstep registers hold. -/
theorem Rod.leaves_congr {σ q τ : Rod} (hme : q.me = σ.me) (hs : q.gw Rg.ROD_STATE = σ.gw Rg.ROD_STATE)
    (ht : q.gw Rg.RK_TICK = σ.gw Rg.RK_TICK) (h : q.leaves τ) : σ.leaves τ := by
  obtain ⟨hd, hx, hserving, hnot⟩ := h
  have htick : q.tick = σ.tick := Rod.g_of_gw _ _ Fl.RK_TICK_TICK ht
  rw [Rod.state_congr σ q hme hs] at hserving hnot
  rw [htick] at hserving
  exact ⟨hd, hx, hserving, hnot⟩

theorem Rod.leaves_flush {σ τ : Rod} (h : σ.leaves τ) : σ.leaves τ.flush := by
  obtain ⟨hd, hx, hserving, hnot⟩ := h
  obtain ⟨m, hm, -⟩ := Rod.flush_out τ
  refine ⟨by rwa [Rod.flush_md], by rwa [Rod.flush_md], fun k => ?_, fun k => by rw [Rod.flush_state, hnot k]⟩
  obtain ⟨hst, ho⟩ := hserving k
  exact ⟨by rw [Rod.flush_state, hst], by rw [hm]; exact List.mem_append_left _ ho⟩

/-! ### A mismatch and a failed comparator -/

/-- LS_LAST takes a mismatch (R530). -/
def Rod.lsLast (ρ : Rod) (p : Nat) (test : Bool) : Rod :=
  ((ρ.p Fl.LS_LAST_VALID 1).p Fl.LS_LAST_PAIR p).p Fl.LS_LAST_TEST (b2n test)

/-- A mismatch before the reaction: LS_LAST, event and record. -/
def Rod.lsFound (ρ : Rod) (p n : Nat) (test : Bool) (diff : DWord) : Rod :=
  ((ρ.lsLast p test).irq 0x0B0 3).flt 0x0D01 sevWithdraw 0x0B0 [(0, 1, p), (1, 1, b2n test), (4, 4, n), (8, 8, diff.toNat)]

theorem Rod.lsMismatch_eq (ρ : Rod) (p n : Nat) (test : Bool) (diff : DWord) :
    ρ.lsMismatch p n test diff = (ρ.lsFound p n test diff).lsReact := rfl

theorem Rod.lsLast_fields (ρ : Rod) (p : Nat) (test : Bool) (hp : p < 8) :
    (ρ.lsLast p test).b Fl.LS_LAST_VALID = true ∧ (ρ.lsLast p test).g Fl.LS_LAST_PAIR = p ∧ (ρ.lsLast p test).b Fl.LS_LAST_TEST = test := by
  unfold Rod.lsLast
  refine ⟨?_, ?_, Rod.b_p _ Fl.LS_LAST_TEST test (by decide) rfl⟩
  · rw [Rod.b_p_ne _ _ _ _ (by decide) (by decide), Rod.b_p_ne _ _ _ _ (by decide) (by decide)]
    exact Rod.b_p ρ Fl.LS_LAST_VALID true (by decide) rfl
  · rw [Rod.g_p_ne _ _ _ _ (by decide) (by decide), Rod.g_p _ _ _ (by decide)]
    exact Nat.mod_eq_of_lt hp

theorem Rod.only_lsFound (ρ : Rod) (p n : Nat) (test : Bool) (diff : DWord) :
    ρ.only (ρ.lsFound p n test diff) [Rg.LS_LAST, Rg.IRQ_RAW 0x0B0] ρ := by
  refine Rod.only_fltAP (Rod.only_irq 0x0B0 3 (by simp) ?_)
  refine Rod.only_p Fl.LS_LAST_TEST _ (.head _) (Rod.only_p Fl.LS_LAST_PAIR _ (.head _) (Rod.only_p Fl.LS_LAST_VALID _ (.head _) ?_))
  exact Rod.only_refl _ _

/-- What a reaction leaves after a change of lockstep registers alone, once the records are written. -/
theorem Rod.lsReact_flush {σ q : Rod} {ex : List Nat} (h : σ.only q ex { σ with ls := q.ls }) (hs : Rg.ROD_STATE ∉ ex) (ht : Rg.RK_TICK ∉ ex) :
    let τ := q.lsReact.flush
    σ.leaves τ ∧ σ.keepsRegs τ (ex ++ fenceRegs) ∧ τ.ls = q.ls ∧ q.carries (fun _ => ()) (fun a => a != Rg.ROD_STATE && a != Rg.FL_SEQ) τ ∧
    τ.recBuf = [] := by
  obtain ⟨hk, ha⟩ := h
  obtain ⟨kr, ar⟩ := Rod.only_lsReact q
  have hme : q.me = σ.me := ((Rod.agrees_iff _ _).1 ha).1
  have hls : q.lsReact.ls = q.ls := by unfold Rod.agrees at ar; rw [ar]
  refine ⟨Rod.leaves_flush (Rod.leaves_congr hme (hk _ hs (by decide) (by decide)) (hk _ ht (by decide) (by decide)) (Rod.lsReact_leaves q)),
    Rod.keepsRegs_flush _ _ _ (Rod.keepsRegs_trans (Rod.keepsRegs_mono (by simp) hk) (Rod.keepsRegs_mono (by simp) kr)), ?_, ?_, Rod.flush_recBuf _⟩
  · rw [Rod.flush_ls, hls]
  · refine Rod.carries_flush rfl ⟨(Rod.carries_lsReact q).me, rfl, fun a h => (Rod.carries_lsReact q).regs a ?_, (Rod.carries_lsReact q).sent,
      (Rod.carries_lsReact q).reports⟩
    rw [Bool.and_eq_true] at h
    exact h.1

/-- What a mismatch leaves after a change of lockstep registers alone, once the records are written. -/
theorem Rod.lsMismatch_flush {σ q : Rod} {ex : List Nat} (p n : Nat) (test : Bool) (diff : DWord) (hp : p < 8)
    (h : σ.only q ex { σ with ls := q.ls }) (hs : Rg.ROD_STATE ∉ ex) (ht : Rg.RK_TICK ∉ ex) :
    let τ := (q.lsMismatch p n test diff).flush
    τ.b Fl.LS_LAST_VALID = true ∧ τ.g Fl.LS_LAST_PAIR = p ∧ τ.b Fl.LS_LAST_TEST = test ∧ τ.raised 0x0B0 3 ∧
    τ.recorded 0x0D01 sevWithdraw 0x0B0 ∧ σ.leaves τ ∧ σ.keepsRegs τ (ex ++ ([Rg.LS_LAST, Rg.IRQ_RAW 0x0B0] ++ fenceRegs)) ∧ τ.ls = q.ls ∧
    τ.gw Rg.LS_STAT = q.gw Rg.LS_STAT := by
  obtain ⟨kf, af⟩ := Rod.only_lsFound q p n test diff
  have hls : (q.lsFound p n test diff).ls = q.ls := by unfold Rod.agrees at af; rw [af]
  have hfound : σ.only (q.lsFound p n test diff) (ex ++ [Rg.LS_LAST, Rg.IRQ_RAW 0x0B0]) { σ with ls := (q.lsFound p n test diff).ls } := by
    rw [hls]
    exact ⟨Rod.keepsRegs_trans (Rod.keepsRegs_mono (by simp) h.1) (Rod.keepsRegs_mono (by simp) kf), Rod.agrees_trans _ _ _ af h.2⟩
  obtain ⟨hleave, hkeep, hl, hc, hb⟩ := Rod.lsReact_flush hfound (by rw [List.mem_append]; exact not_or.2 ⟨hs, by decide⟩)
    (by rw [List.mem_append]; exact not_or.2 ⟨ht, by decide⟩)
  obtain ⟨hv, hpair, htest⟩ := Rod.lsLast_fields q p test hp
  have hirq (f : Fld) (hf : f.addr ≠ Rg.IRQ_RAW 0x0B0) : (q.lsFound p n test diff).g f = (q.lsLast p test).g f :=
    Rod.g_irq_ne _ 0x0B0 3 _ hf
  have hirqb (f : Fld) (hf : f.addr ≠ Rg.IRQ_RAW 0x0B0) : (q.lsFound p n test diff).b f = (q.lsLast p test).b f :=
    Rod.b_irq_ne _ 0x0B0 3 _ hf
  rw [List.append_assoc] at hkeep
  rw [Rod.lsMismatch_eq]
  refine ⟨?_, ?_, ?_, ?_, ?_, hleave, hkeep, hl.trans hls, ?_⟩
  · rw [hc.b _ (by decide) (by decide), hirqb _ (by decide), hv]
  · rw [hc.g _ (by decide) (by decide), hirq _ (by decide), hpair]
  · rw [hc.b _ (by decide) (by decide), hirqb _ (by decide), htest]
  · exact hc.raised _ _ (by decide) (Rod.irq_sets (q.lsLast p test) 0x0B0 3 (by decide))
  · exact (hc.noted (Rod.noted_fltAP _ _ _ _ _ _ _)).recorded hb
  · exact (hc.gw _ (by decide) (by decide)).trans (kf Rg.LS_STAT (by decide) (by decide) (by decide))

end Sys2Proof.Machine
end

section
/-! The ends of windows and the comparator tests of lockstep (R528, R531, R532). -/

namespace Sys2Proof.Machine

/-! ### LOCKSTEP_WINDOW_END -/

theorem Rod.windowEnd_off (ρ : Rod) (p : Nat) (core : List (Nat × List LsEvent)) (diff : DWord) (h : ρ.lsOn p = false) :
    ρ.windowEnd p core diff = ρ := by
  unfold Rod.windowEnd
  rw [if_neg (by simp [h])]

/-- The number of a window that ends. -/
def Rod.lsNumber (ρ : Rod) (p : Nat) (main : DWord) : Nat := (ρ.lsWindow p main).1

/-- A window of a pair that is compared: its tallies are taken, and a difference is a mismatch (R528, R530). -/
theorem Rod.windowEnd_on (ρ : Rod) (p : Nat) (core : List (Nat × List LsEvent)) (diff : DWord) (h : ρ.lsOn p = true) :
    let main := ρ.mainTally p core
    let q := (ρ.lsWindow p main).2
    ρ.windowEnd p core diff =
      if main = ρ.shadowTally p core ^^^ diff then q else q.lsMismatch p (ρ.lsNumber p main) false (ρ.lsDelta p core diff) := by
  have hd : ρ.lsDelta p core diff = 0#64 ↔ ρ.mainTally p core = ρ.shadowTally p core ^^^ diff := by
    rw [Rod.lsDelta_eq]
    exact BitVec.xor_eq_zero_iff
  unfold Rod.windowEnd
  rw [if_pos h]
  simp only [hd]
  rfl

theorem Rod.windowEnd_flush (ρ : Rod) (p : Nat) (core : List (Nat × List LsEvent)) (diff : DWord) (hp : p < 8) (h : ρ.lsOn p = true) :
    let main := ρ.mainTally p core
    let τ := (ρ.windowEnd p core diff).flush
    (main = ρ.shadowTally p core ^^^ diff → ρ.ls.counted τ.ls p main ∧ ρ.only τ [] { ρ with ls := τ.ls }) ∧
    (main ≠ ρ.shadowTally p core ^^^ diff → ρ.ls.counted τ.ls p main ∧ τ.b Fl.LS_LAST_VALID = true ∧ τ.g Fl.LS_LAST_PAIR = p ∧
      τ.b Fl.LS_LAST_TEST = false ∧ τ.raised 0x0B0 3 ∧ τ.recorded 0x0D01 sevWithdraw 0x0B0 ∧ ρ.leaves τ ∧
      ρ.keepsRegs τ ([Rg.LS_LAST, Rg.IRQ_RAW 0x0B0] ++ fenceRegs)) := by
  dsimp only
  rw [Rod.windowEnd_on ρ p core diff h]
  have honly := Rod.only_lsWindow ρ p (ρ.mainTally p core) []
  constructor
  · intro he
    rw [if_pos he, Rod.flush_ls]
    exact ⟨Rod.lsWindow_counted _ _ _, Rod.only_flush honly⟩
  · intro he
    rw [if_neg he]
    obtain ⟨hv, hpair, htest, hraised, hrec, hleave, hkeep, hls, -⟩ := Rod.lsMismatch_flush p (ρ.lsNumber p (ρ.mainTally p core)) false
      (ρ.lsDelta p core diff) hp honly (by simp) (by simp)
    rw [hls]
    exact ⟨Rod.lsWindow_counted _ _ _, hv, hpair, htest, hraised, hrec, hleave, hkeep⟩

/-! ### COMPARATOR_TEST -/

/-- The last comparator test lies less than TEST_INT back (R532). -/
def Rod.testEarly (ρ : Rod) : Prop := ∃ t, ρ.ls.testAt = some t ∧ ρ.passed t (ρ.g Fl.LS_CFG_TEST_INT * 1000000) = false

/-- The pair that the next comparator test takes. -/
def Rod.testPair (ρ : Rod) : Nat := if ρ.g Fl.LS_STAT_NEXT = 0 ∧ ρ.lsOn 0 = false then 1 else ρ.g Fl.LS_STAT_NEXT

/-- A test window of the next pair has been taken: the pattern alternates, and LS_STAT.NEXT moves on (R532). -/
def Rod.lsTested (ρ : Rod) (core : List (Nat × List LsEvent)) : Rod :=
  let q := (ρ.lsWindow ρ.testPair (ρ.mainTally ρ.testPair core)).2
  ({ q with ls := { q.ls with alt := !q.ls.alt, testAt := some q.ft } }).p Fl.LS_STAT_NEXT ((ρ.testPair + 1) % 5)

/-- What the comparator sees of a test window. -/
def Rod.testDelta (ρ : Rod) (core : List (Nat × List LsEvent)) (diff : DWord) : DWord :=
  ρ.mainTally ρ.testPair core ^^^ (ρ.shadowTally ρ.testPair core ^^^ diff ^^^ ρ.lsPattern)

theorem Rod.comparatorTest_idle (ρ : Rod) (core : List (Nat × List LsEvent)) (diff : DWord) (h : ρ.state < RS.sync ∨ ρ.testEarly) :
    ρ.comparatorTest core diff = ρ := by
  unfold Rod.comparatorTest
  dsimp only
  rw [if_pos]
  rcases h with h | ⟨t, ht, hp⟩
  · exact .inl h
  · right
    rw [ht]
    exact hp

theorem Rod.comparatorTest_due (ρ : Rod) (core : List (Nat × List LsEvent)) (diff : DWord) (hs : RS.sync ≤ ρ.state) (he : ¬ρ.testEarly) :
    ρ.comparatorTest core diff =
      if ρ.testDelta core diff = ρ.lsPattern then ((ρ.lsTested core).setBit Fl.LS_STAT_TESTED ρ.testPair).inc Fl.LS_CNT_TESTS
      else
        let q := (ρ.lsTested core).clrBit Fl.LS_STAT_TESTED ρ.testPair
        if ρ.testDelta core diff = 0#64 then (q.comparatorFail ρ.testPair 1).lsReact
        else q.lsMismatch ρ.testPair (ρ.lsNumber ρ.testPair (ρ.mainTally ρ.testPair core)) true (ρ.testDelta core diff) := by
  have hd : ρ.testDelta core diff = ρ.lsDelta ρ.testPair core diff ^^^ ρ.lsPattern := by
    rw [Rod.lsDelta_eq, Rod.testDelta, BitVec.xor_assoc (ρ.mainTally _ _)]
  rw [hd]
  unfold Rod.comparatorTest
  dsimp only
  rw [if_neg]
  · rfl
  · rintro (h | h)
    · omega
    · cases ht : ρ.ls.testAt with
      | none => rw [ht] at h; cases h
      | some t => rw [ht] at h; exact he ⟨t, ht, h⟩

theorem Rod.testPair_lt (ρ : Rod) (h : ρ.g Fl.LS_STAT_NEXT < 5) : ρ.testPair < 5 := by
  unfold Rod.testPair
  split
  · decide
  · exact h

theorem Rod.lsTested_ls (ρ : Rod) (core : List (Nat × List LsEvent)) :
    ρ.ls.counted (ρ.lsTested core).ls ρ.testPair (ρ.mainTally ρ.testPair core) ∧ (ρ.lsTested core).ls.alt = !ρ.ls.alt ∧
    (ρ.lsTested core).ls.testAt = some ρ.ft := by
  have halt : (ρ.lsWindow ρ.testPair (ρ.mainTally ρ.testPair core)).2.ls.alt = ρ.ls.alt := by
    unfold Rod.lsWindow
    dsimp only
    split <;> rfl
  unfold Rod.lsTested
  rw [Rod.p_ls]
  exact ⟨Rod.lsWindow_counted ρ ρ.testPair _, congrArg (!·) halt, rfl⟩

theorem Rod.lsTested_next (ρ : Rod) (core : List (Nat × List LsEvent)) : (ρ.lsTested core).g Fl.LS_STAT_NEXT = (ρ.testPair + 1) % 5 := by
  unfold Rod.lsTested
  rw [Rod.g_p _ _ _ (by decide)]
  exact Nat.mod_eq_of_lt (Nat.lt_of_lt_of_le (Nat.mod_lt _ (by decide)) (by decide))

theorem Rod.only_lsTested (ρ : Rod) (core : List (Nat × List LsEvent)) :
    ρ.only (ρ.lsTested core) [Rg.LS_STAT] { ρ with ls := (ρ.lsTested core).ls } :=
  Rod.only_p Fl.LS_STAT_NEXT _ (.head _) ⟨Rod.keepsRegs_refl _ _, rfl⟩

theorem Rod.bitOf_clrBit (ρ : Rod) (f : Fld) (h : f.lo + f.w ≤ 32) (i : Nat) : (ρ.clrBit f i).bitOf f i = false := by
  have hb : (ρ.g f - (ρ.g f &&& 2 ^ i)).testBit i = false := by
    rw [Nat.and_two_pow]
    cases hi : (ρ.g f).testBit i with
    | false => simpa using hi
    | true =>
      have hodd : ρ.g f / 2 ^ i % 2 = 1 := by simpa [Nat.testBit_eq_decide_div_mod_eq] using hi
      have hdiv := Nat.sub_mul_div (ρ.g f) (2 ^ i) 1
      rw [Nat.mul_one] at hdiv
      simp only [Bool.toNat_true, Nat.one_mul, Nat.testBit_eq_decide_div_mod_eq, hdiv, decide_eq_false_iff_not]
      omega
  unfold Rod.clrBit Rod.bitOf
  rw [Rod.g_p _ _ _ h, Nat.testBit_mod_two_pow, hb, Bool.and_false]

theorem Rod.g_setBit_ne (ρ : Rod) (f f' : Fld) (i : Nat) (h : f.lo + f.w ≤ 32)
    (hd : f'.addr ≠ f.addr ∨ f'.lo + f'.w ≤ f.lo ∨ f.lo + f.w ≤ f'.lo) : (ρ.setBit f i).g f' = ρ.g f' := Rod.g_p_ne _ _ _ _ h hd

theorem Rod.g_clrBit_ne (ρ : Rod) (f f' : Fld) (i : Nat) (h : f.lo + f.w ≤ 32)
    (hd : f'.addr ≠ f.addr ∨ f'.lo + f'.w ≤ f.lo ∨ f.lo + f.w ≤ f'.lo) : (ρ.clrBit f i).g f' = ρ.g f' := Rod.g_p_ne _ _ _ _ h hd

theorem lsStat_not_log : Rg.LS_STAT ∉ logRegs := by decide

/-- A test window that shows the pattern: the pair is tested (R532). -/
theorem Rod.testPassed_flush (ρ : Rod) (core : List (Nat × List LsEvent)) (hp : ρ.testPair < 5) :
    let τ := (((ρ.lsTested core).setBit Fl.LS_STAT_TESTED ρ.testPair).inc Fl.LS_CNT_TESTS).flush
    τ.ls = (ρ.lsTested core).ls ∧ τ.g Fl.LS_STAT_NEXT = (ρ.testPair + 1) % 5 ∧ τ.bitOf Fl.LS_STAT_TESTED ρ.testPair = true ∧
    τ.g Fl.LS_CNT_TESTS = min 0xFFFF (ρ.g Fl.LS_CNT_TESTS + 1) ∧ ρ.only τ [Rg.LS_STAT, Rg.LS_CNT] { ρ with ls := (ρ.lsTested core).ls } := by
  dsimp only
  have hcnt : ((ρ.lsTested core).setBit Fl.LS_STAT_TESTED ρ.testPair).g Fl.LS_CNT_TESTS = ρ.g Fl.LS_CNT_TESTS :=
    (Rod.g_p_addr _ _ _ _ (by decide)).trans (Rod.g_of_gw _ _ _ ((Rod.only_lsTested ρ core).1 Rg.LS_CNT (by decide) (by decide) (by decide)))
  refine ⟨by rw [Rod.flush_ls, Rod.inc, Rod.p_ls, Rod.setBit, Rod.p_ls], ?_, ?_, ?_, Rod.only_flush ?_⟩
  · rw [Rod.flush_g _ Fl.LS_STAT_NEXT lsStat_not_log, Rod.inc, Rod.g_p_addr _ _ _ _ (by decide), Rod.g_setBit_ne _ _ _ _ (by decide) (by decide),
      Rod.lsTested_next]
  · rw [Rod.bitOf_congr _ _ Fl.LS_STAT_TESTED (Rod.flush_gw _ _ lsStat_not_log), Rod.inc, Rod.bitOf_congr _ _ Fl.LS_STAT_TESTED (Rod.gw_p_ne _ _ _ _ (by decide)),
      Rod.bitOf_setBit _ _ (by decide) _ _ hp]
    simp
  · rw [Rod.flush_g _ _ (by decide), Rod.g_inc _ _ (by decide), hcnt]
    rfl
  · refine Rod.only_p Fl.LS_CNT_TESTS _ (.tail _ (.head _)) (Rod.only_p Fl.LS_STAT_TESTED _ (.head _) ?_)
    exact Rod.only_mono (by simp) (Rod.only_lsTested ρ core)

/-- The rod once a test window has not shown the pattern. -/
def Rod.testFailed (ρ : Rod) (core : List (Nat × List LsEvent)) : Rod := (ρ.lsTested core).clrBit Fl.LS_STAT_TESTED ρ.testPair

theorem Rod.testFailed_ls (ρ : Rod) (core : List (Nat × List LsEvent)) : (ρ.testFailed core).ls = (ρ.lsTested core).ls := by
  rw [Rod.testFailed, Rod.clrBit, Rod.p_ls]

theorem Rod.only_testFailed (ρ : Rod) (core : List (Nat × List LsEvent)) :
    ρ.only (ρ.testFailed core) [Rg.LS_STAT] { ρ with ls := (ρ.testFailed core).ls } := by
  rw [Rod.testFailed_ls]
  exact Rod.only_p Fl.LS_STAT_TESTED _ (.head _) (Rod.only_lsTested ρ core)

theorem Rod.testFailed_stat (ρ q : Rod) (core : List (Nat × List LsEvent)) (h : q.gw Rg.LS_STAT = (ρ.testFailed core).gw Rg.LS_STAT) :
    q.g Fl.LS_STAT_NEXT = (ρ.testPair + 1) % 5 ∧ q.bitOf Fl.LS_STAT_TESTED ρ.testPair = false := by
  rw [Rod.g_of_gw _ _ Fl.LS_STAT_NEXT h, Rod.bitOf_congr _ _ Fl.LS_STAT_TESTED h]
  exact ⟨(Rod.g_clrBit_ne _ _ _ _ (by decide) (by decide)).trans (Rod.lsTested_next ρ core), Rod.bitOf_clrBit _ _ (by decide) _⟩

theorem Rod.only_comparatorFail (ρ : Rod) (p why : Nat) : ρ.only (ρ.comparatorFail p why) [Rg.IRQ_RAW 0x0B0] ρ :=
  Rod.only_fltAP (Rod.only_irq 0x0B0 2 (.head _) (Rod.only_refl _ _))

/-- A test window without a difference: the comparator has failed (R532). -/
theorem Rod.comparatorFail_flush (ρ : Rod) (core : List (Nat × List LsEvent)) :
    let τ := ((ρ.testFailed core).comparatorFail ρ.testPair 1).lsReact.flush
    ρ.leaves τ ∧ ρ.keepsRegs τ ([Rg.LS_STAT, Rg.IRQ_RAW 0x0B0] ++ fenceRegs) ∧ τ.ls = (ρ.lsTested core).ls ∧ τ.raised 0x0B0 2 ∧
    τ.recorded 0x0D10 sevWithdraw 0x0B0 ∧ τ.gw Rg.LS_STAT = (ρ.testFailed core).gw Rg.LS_STAT := by
  obtain ⟨kf, af⟩ := Rod.only_comparatorFail (ρ.testFailed core) ρ.testPair 1
  have hls : ((ρ.testFailed core).comparatorFail ρ.testPair 1).ls = (ρ.testFailed core).ls := by unfold Rod.agrees at af; rw [af]
  have honly : ρ.only ((ρ.testFailed core).comparatorFail ρ.testPair 1) [Rg.LS_STAT, Rg.IRQ_RAW 0x0B0]
      { ρ with ls := ((ρ.testFailed core).comparatorFail ρ.testPair 1).ls } := by
    rw [hls]
    exact ⟨Rod.keepsRegs_trans (Rod.keepsRegs_mono (by simp) (Rod.only_testFailed ρ core).1) (Rod.keepsRegs_mono (by simp) kf),
      Rod.agrees_trans _ _ _ af (Rod.only_testFailed ρ core).2⟩
  obtain ⟨hleave, hkeep, hl, hc, hb⟩ := Rod.lsReact_flush honly (by decide) (by decide)
  refine ⟨hleave, hkeep, hl.trans (hls.trans (Rod.testFailed_ls ρ core)), ?_, ?_, ?_⟩
  · exact hc.raised _ _ (by decide) (Rod.irq_sets (ρ.testFailed core) 0x0B0 2 (by decide))
  · exact (hc.noted (Rod.noted_fltAP _ _ _ _ _ _ _)).recorded hb
  · exact (hc.gw _ (by decide) (by decide)).trans (kf Rg.LS_STAT (by decide) (by decide) (by decide))

/-- What a comparator test that is due leaves (R532). -/
theorem Rod.comparatorTest_flush (ρ : Rod) (core : List (Nat × List LsEvent)) (diff : DWord) (hs : RS.sync ≤ ρ.state) (he : ¬ρ.testEarly)
    (hn : ρ.g Fl.LS_STAT_NEXT < 5) :
    let p := ρ.testPair
    let d := ρ.testDelta core diff
    let τ := (ρ.comparatorTest core diff).flush
    (ρ.ls.counted τ.ls p (ρ.mainTally p core) ∧ τ.ls.alt = (!ρ.ls.alt) ∧ τ.ls.testAt = some ρ.ft) ∧ τ.g Fl.LS_STAT_NEXT = (p + 1) % 5 ∧
    τ.bitOf Fl.LS_STAT_TESTED p = decide (d = ρ.lsPattern) ∧
    (d = ρ.lsPattern → τ.g Fl.LS_CNT_TESTS = min 0xFFFF (ρ.g Fl.LS_CNT_TESTS + 1) ∧
      ρ.only τ [Rg.LS_STAT, Rg.LS_CNT] { ρ with ls := τ.ls }) ∧
    (d ≠ ρ.lsPattern → ρ.leaves τ ∧ ρ.keepsRegs τ [Rg.LS_STAT, Rg.LS_LAST, Rg.IRQ_RAW 0x0B0, Rg.ROD_STATE, Rg.IRQ_RAW 0x001] ∧
      (d = 0#64 → τ.raised 0x0B0 2 ∧ τ.recorded 0x0D10 sevWithdraw 0x0B0) ∧
      (d ≠ 0#64 → τ.b Fl.LS_LAST_VALID = true ∧ τ.g Fl.LS_LAST_PAIR = p ∧ τ.b Fl.LS_LAST_TEST = true ∧
        τ.raised 0x0B0 3 ∧ τ.recorded 0x0D01 sevWithdraw 0x0B0)) := by
  dsimp only
  have hp := Rod.testPair_lt ρ hn
  have hls := Rod.lsTested_ls ρ core
  rw [Rod.comparatorTest_due ρ core diff hs he]
  by_cases hd : ρ.testDelta core diff = ρ.lsPattern
  · rw [if_pos hd]
    obtain ⟨hl, hnext, htest, hcnt, honly⟩ := Rod.testPassed_flush ρ core hp
    rw [hl]
    exact ⟨hls, hnext, by rw [htest, decide_eq_true hd], fun _ => ⟨hcnt, honly⟩, fun k => absurd hd k⟩
  · rw [if_neg hd, decide_eq_false hd]
    dsimp only
    by_cases h0 : ρ.testDelta core diff = 0#64
    · rw [if_pos h0]
      obtain ⟨hleave, hkeep, hl, hraised, hrec, hstat⟩ := Rod.comparatorFail_flush ρ core
      obtain ⟨hnext, htest⟩ := Rod.testFailed_stat ρ _ core hstat
      rw [← hl] at hls
      exact ⟨hls, hnext, htest, fun k => absurd k hd, fun _ => ⟨hleave, Rod.keepsRegs_mono (by simp [fenceRegs]) hkeep,
        fun _ => ⟨hraised, hrec⟩, fun k => absurd h0 k⟩⟩
    · rw [if_neg h0]
      obtain ⟨hv, hpair, hlast, hraised, hrec, hleave, hkeep, hl, hstat⟩ := Rod.lsMismatch_flush (σ := ρ) (q := ρ.testFailed core) ρ.testPair
        (ρ.lsNumber ρ.testPair (ρ.mainTally ρ.testPair core)) true (ρ.testDelta core diff) (by omega) (Rod.only_testFailed ρ core)
        (by decide) (by decide)
      obtain ⟨hnext, htest⟩ := Rod.testFailed_stat ρ _ core hstat
      rw [← Rod.testFailed_ls, ← hl] at hls
      exact ⟨hls, hnext, htest, fun k => absurd k hd, fun _ => ⟨hleave, Rod.keepsRegs_mono (by simp [fenceRegs]) hkeep,
        fun k => absurd k h0, fun _ => ⟨hv, hpair, hlast, hraised, hrec⟩⟩⟩

end Sys2Proof.Machine
end

section
/-! The split and rejoin of pair 0 and the extended core test (R533 to R537). -/

namespace Sys2Proof.Machine

/-! ### PAIR_SPLIT -/

/-- Whether pair 0 may split for a purpose (R533). -/
def Rod.maySplit (ρ : Rod) (purpose : Nat) : Prop :=
  (purpose = 1 ∧ ρ.state = RS.update) ∨ (purpose = 2 ∧ ρ.mode = SM.standby ∧ ρ.b Fl.LS_STAT_XTEST_RUN = true)

/-- Pair 0 is split: LS_STAT, its count and event, and DIS (R533, R534). -/
def Rod.splits (ρ : Rod) : Rod :=
  let q := ((ρ.p Fl.LS_STAT_SPLIT 1).inc Fl.LS_CNT_SPLITS).irq 0x0B0 0
  { q with md := { q.md with dis := true } }

theorem Rod.pairSplit_eq (ρ : Rod) (purpose : Nat) (h : ρ.maySplit purpose) (hs : ρ.b Fl.LS_STAT_SPLIT = false) :
    ρ.pairSplit purpose = ρ.splits.flt 0x0D20 sevInfo 0x0B0 [(0, 1, purpose)] := by
  unfold Rod.pairSplit
  rw [if_pos]
  · rfl
  · rcases h with ⟨h1, h2⟩ | ⟨h1, h2, h3⟩
    · simp [h1, h2, hs]
    · simp [h1, h2, h3, hs]

theorem Rod.pairSplit_idle (ρ : Rod) (purpose : Nat) (h : ¬ρ.maySplit purpose ∨ ρ.b Fl.LS_STAT_SPLIT = true) : ρ.pairSplit purpose = ρ := by
  unfold Rod.pairSplit
  rw [if_neg]
  intro k
  simp only [Bool.and_eq_true, Bool.or_eq_true, beq_iff_eq, Bool.not_eq_true'] at k
  obtain ⟨hmay, hs⟩ := k
  rcases h with h | h
  · exact h (hmay.imp id and_assoc.1)
  · rw [h] at hs
    cases hs

theorem Rod.pairSplit_flush (ρ : Rod) (purpose : Nat) (h : ρ.maySplit purpose) (hs : ρ.b Fl.LS_STAT_SPLIT = false) :
    let τ := (ρ.pairSplit purpose).flush
    τ.b Fl.LS_STAT_SPLIT = true ∧ τ.g Fl.LS_CNT_SPLITS = min 0xFFFF (ρ.g Fl.LS_CNT_SPLITS + 1) ∧ τ.raised 0x0B0 0 ∧
    τ.recorded 0x0D20 sevInfo 0x0B0 ∧ ρ.only τ [Rg.LS_STAT, Rg.LS_CNT, Rg.IRQ_RAW 0x0B0] { ρ with md := { ρ.md with dis := true }, ls := τ.ls } := by
  dsimp only
  rw [Rod.pairSplit_eq ρ purpose h hs, Rod.flt_eq]
  obtain ⟨hk, ha⟩ : ρ.only (((ρ.p Fl.LS_STAT_SPLIT 1).inc Fl.LS_CNT_SPLITS).irq 0x0B0 0) [Rg.LS_STAT, Rg.LS_CNT, Rg.IRQ_RAW 0x0B0] ρ :=
    Rod.only_irq 0x0B0 0 (by simp) (Rod.only_p Fl.LS_CNT_SPLITS _ (.tail _ (.head _)) (Rod.only_p Fl.LS_STAT_SPLIT _ (.head _) (Rod.only_refl _ _)))
  have hgw (a : Nat) (h0 : a ∉ logRegs) (h1 : a ≠ Rg.IRQ_RAW 0x0B0) : (ρ.splits.fltAP 0x0D20 sevInfo 0x0B0 0xFF 0xFF [(0, 1, purpose)]).flush.gw a =
      ((ρ.p Fl.LS_STAT_SPLIT 1).inc Fl.LS_CNT_SPLITS).gw a := by
    rw [Rod.flush_gw _ _ h0, Rod.gw_fltAP]
    exact Rod.gw_irq_ne _ 0x0B0 _ 0 h1
  refine ⟨?_, ?_, ?_, ?_, ?_⟩
  · rw [Rod.b_congr _ _ Fl.LS_STAT_SPLIT (hgw Rg.LS_STAT (by decide) (by decide)), Rod.inc, Rod.b_p_ne _ _ _ _ (by decide) (by decide)]
    exact Rod.b_p ρ Fl.LS_STAT_SPLIT true (by decide) rfl
  · rw [Rod.g_of_gw _ _ Fl.LS_CNT_SPLITS (hgw Rg.LS_CNT (by decide) (by decide)), Rod.g_inc _ _ (by decide), Rod.g_p_addr _ _ _ _ (by decide)]
    rfl
  · exact Rod.raised_flush _ _ _ (Rod.irq_sets ((ρ.p Fl.LS_STAT_SPLIT 1).inc Fl.LS_CNT_SPLITS) 0x0B0 0 (by decide))
  · exact (Rod.carries_refl (fun _ => ()) (fun _ => false) _).recorded (Rod.noted_fltAP _ _ _ _ _ _ _) rfl
  · refine Rod.only_flush (Rod.only_fltAP ⟨Rod.keepsRegs_regs _ _ _ _ rfl hk, ?_⟩)
    rw [Rod.flush_ls]
    unfold Rod.agrees Rod.splits at *
    rw [ha]
    rfl

/-! ### PAIR_REJOIN -/

/-- The extended core test is cut short by a change agreed out of STANDBY (R537). -/
def Rod.xtestCut (ρ : Rod) (m : Nat) : Rod := ((ρ.p Fl.LS_STAT_XTEST_RUN 0).irq 0x0B0 1).flt 0x0D24 sevInfo 0x0B0 [(0, 1, m)]

theorem Rod.pairRejoin_idle (ρ : Rod) (h : ¬(ρ.b Fl.LS_STAT_SPLIT = true ∧ ρ.b Fl.LS_STAT_REJOINING = false)) : ρ.pairRejoin = ρ := by
  unfold Rod.pairRejoin
  rw [if_neg (by simpa using h)]

theorem Rod.pairRejoin_eq (ρ : Rod) (h : ρ.b Fl.LS_STAT_SPLIT = true ∧ ρ.b Fl.LS_STAT_REJOINING = false) :
    ρ.pairRejoin = match ρ.b Fl.LS_STAT_XTEST_RUN, ρ.md.agreed with
      | true, some a => (ρ.p Fl.LS_STAT_REJOINING 1).xtestCut a.1
      | _, _ => ρ.p Fl.LS_STAT_REJOINING 1 := by
  have hx : (ρ.p Fl.LS_STAT_REJOINING 1).b Fl.LS_STAT_XTEST_RUN = ρ.b Fl.LS_STAT_XTEST_RUN := Rod.b_p_ne _ _ _ _ (by decide) (by decide)
  unfold Rod.pairRejoin
  rw [if_pos (by simp [h.1, h.2])]
  dsimp only
  rw [hx, Rod.p_md]
  rfl

theorem Rod.rejoining_p (ρ : Rod) : (ρ.p Fl.LS_STAT_REJOINING 1).b Fl.LS_STAT_REJOINING = true :=
  Rod.b_p ρ Fl.LS_STAT_REJOINING true (by decide) rfl

theorem Rod.xtestCut_flush (ρ : Rod) (m : Nat) :
    let τ := ((ρ.p Fl.LS_STAT_REJOINING 1).xtestCut m).flush
    τ.b Fl.LS_STAT_REJOINING = true ∧ τ.b Fl.LS_STAT_XTEST_RUN = false ∧ τ.raised 0x0B0 1 ∧ τ.recorded 0x0D24 sevInfo 0x0B0 ∧
    ρ.only τ [Rg.LS_STAT, Rg.IRQ_RAW 0x0B0] ρ := by
  let q := (ρ.p Fl.LS_STAT_REJOINING 1).p Fl.LS_STAT_XTEST_RUN 0
  have hgw : ((ρ.p Fl.LS_STAT_REJOINING 1).xtestCut m).flush.gw Rg.LS_STAT = q.gw Rg.LS_STAT := by
    rw [Rod.flush_gw _ _ lsStat_not_log]
    exact Rod.gw_irq_ne q 0x0B0 _ 1 (by decide)
  refine ⟨?_, ?_, ?_, ?_, Rod.only_flush (Rod.only_fltAP (Rod.only_irq 0x0B0 1 (.tail _ (.head _)) ?_))⟩
  · rw [Rod.b_congr _ _ Fl.LS_STAT_REJOINING hgw, Rod.b_p_ne _ _ _ _ (by decide) (by decide), Rod.rejoining_p]
  · rw [Rod.b_congr _ _ Fl.LS_STAT_XTEST_RUN hgw]
    exact Rod.b_p _ Fl.LS_STAT_XTEST_RUN false (by decide) rfl
  · exact Rod.raised_flush _ _ _ (Rod.irq_sets q 0x0B0 1 (by decide))
  · exact (Rod.carries_refl (fun _ => ()) (fun _ => false) _).recorded (Rod.noted_fltAP _ _ _ _ _ _ _) rfl
  · exact Rod.only_p Fl.LS_STAT_XTEST_RUN _ (.head _) (Rod.only_p Fl.LS_STAT_REJOINING _ (.head _) (Rod.only_refl _ _))

theorem Rod.pairRejoin_flush (ρ : Rod) (h : ρ.b Fl.LS_STAT_SPLIT = true ∧ ρ.b Fl.LS_STAT_REJOINING = false) :
    let τ := ρ.pairRejoin.flush
    τ.b Fl.LS_STAT_REJOINING = true ∧
    (ρ.b Fl.LS_STAT_XTEST_RUN = true → ρ.md.agreed ≠ none → τ.b Fl.LS_STAT_XTEST_RUN = false ∧ τ.raised 0x0B0 1 ∧
      τ.recorded 0x0D24 sevInfo 0x0B0) ∧ ρ.only τ [Rg.LS_STAT, Rg.IRQ_RAW 0x0B0] ρ := by
  dsimp only
  rw [Rod.pairRejoin_eq ρ h]
  split
  · next a hx ha =>
    obtain ⟨hr, hrun, hraised, hrec, honly⟩ := Rod.xtestCut_flush ρ a.1
    exact ⟨hr, fun _ _ => ⟨hrun, hraised, hrec⟩, honly⟩
  · next hno =>
    refine ⟨?_, fun hx ha => ?_, Rod.only_flush (Rod.only_p Fl.LS_STAT_REJOINING _ (.head _) (Rod.only_refl _ _))⟩
    · rw [Rod.flush_b _ Fl.LS_STAT_REJOINING lsStat_not_log, Rod.rejoining_p]
    · obtain ⟨a, ha⟩ := Option.ne_none_iff_exists'.1 ha
      exact absurd ha (hno a hx)

/-! ### PAIR_RESTART -/

/-- The second core runs again: LS_STAT, its event, a new window, and DIS as the rod's state asks (R535). -/
def Rod.restarts (ρ : Rod) : Rod :=
  let q := ((ρ.p Fl.LS_STAT_REJOINING 0).p Fl.LS_STAT_SPLIT 0).irq 0x0B0 0
  { q with md := { q.md with dis := q.state == RS.fenced }, ls := { q.ls with win := Sparse.del q.ls.win 0 } }

theorem Rod.pairRestart_idle (ρ : Rod) (h : ρ.b Fl.LS_STAT_REJOINING = false) : ρ.pairRestart = ρ := by
  unfold Rod.pairRestart
  rw [if_neg (by simp [h])]

theorem Rod.pairRestart_eq (ρ : Rod) (h : ρ.b Fl.LS_STAT_REJOINING = true) :
    ρ.pairRestart = ρ.restarts.flt 0x0D21 sevInfo 0x0B0 [(4, 4, 2048)] := by
  unfold Rod.pairRestart
  rw [if_pos h]
  rfl

theorem Rod.pairRestart_flush (ρ : Rod) (h : ρ.b Fl.LS_STAT_REJOINING = true) :
    let τ := ρ.pairRestart.flush
    τ.b Fl.LS_STAT_REJOINING = false ∧ τ.b Fl.LS_STAT_SPLIT = false ∧ τ.md.dis = decide (ρ.state = RS.fenced) ∧
    Sparse.has τ.ls.win 0 = false ∧ τ.raised 0x0B0 0 ∧ τ.recorded 0x0D21 sevInfo 0x0B0 ∧
    ρ.only τ [Rg.LS_STAT, Rg.IRQ_RAW 0x0B0] { ρ with md := τ.md, ls := τ.ls } := by
  dsimp only
  rw [Rod.pairRestart_eq ρ h, Rod.flt_eq, Rod.flush_md, Rod.flush_ls]
  let q := (ρ.p Fl.LS_STAT_REJOINING 0).p Fl.LS_STAT_SPLIT 0
  obtain ⟨hk, ha⟩ : ρ.only (q.irq 0x0B0 0) [Rg.LS_STAT, Rg.IRQ_RAW 0x0B0] ρ :=
    Rod.only_irq 0x0B0 0 (by simp) (Rod.only_p Fl.LS_STAT_SPLIT _ (.head _) (Rod.only_p Fl.LS_STAT_REJOINING _ (.head _) (Rod.only_refl _ _)))
  have hgw : (ρ.restarts.fltAP 0x0D21 sevInfo 0x0B0 0xFF 0xFF [(4, 4, 2048)]).flush.gw Rg.LS_STAT = q.gw Rg.LS_STAT := by
    rw [Rod.flush_gw _ _ lsStat_not_log]
    exact Rod.gw_irq_ne q 0x0B0 _ 0 (by decide)
  have hstate : (q.irq 0x0B0 0).state = ρ.state := Rod.state_congr _ _ ((Rod.agrees_iff _ _).1 ha).1 (hk _ (by decide) (by decide) (by decide))
  refine ⟨?_, ?_, ?_, Sparse.has_del _ _, ?_, ?_, ?_⟩
  · rw [Rod.b_congr _ _ Fl.LS_STAT_REJOINING hgw, Rod.b_p_ne _ _ _ _ (by decide) (by decide)]
    exact Rod.b_p ρ Fl.LS_STAT_REJOINING false (by decide) rfl
  · rw [Rod.b_congr _ _ Fl.LS_STAT_SPLIT hgw]
    exact Rod.b_p _ Fl.LS_STAT_SPLIT false (by decide) rfl
  · exact (congrArg (· == RS.fenced) hstate).trans rfl
  · exact Rod.raised_flush _ _ _ (Rod.irq_sets q 0x0B0 0 (by decide))
  · exact (Rod.carries_refl (fun _ => ()) (fun _ => false) _).recorded (Rod.noted_fltAP _ _ _ _ _ _ _) rfl
  · refine Rod.only_flush (Rod.only_fltAP ⟨Rod.keepsRegs_regs _ _ _ _ rfl hk, ?_⟩)
    show ρ.restarts.agrees { ρ with md := ρ.restarts.md, ls := ρ.restarts.ls }
    unfold Rod.agrees at *
    unfold Rod.restarts
    dsimp only
    rw [ha]

/-! ### The extended core test -/

theorem Rod.writeReg_LS_CMD (ρ : Rod) (ps : RodId → Rod) (path : Nat) (data : Word) :
    ρ.writeReg ps path Rg.LS_CMD data = ρ.writeLsCmd path data := by
  unfold Rod.writeReg
  simp [Rg.LS_CMD]

/-- XTEST is an accepted write of LS_CMD. -/
theorem exec_xtest_accepts (s : State) (r : RodId) (path : Path) (data : Word) (h : (s.rod r).accepts path Rg.LS_CMD) :
    ∃ t, exec (.xtest r path data) s = .next t ∧ t.rod r = ((s.rod r).writeLsCmd path.code data).flush := by
  rw [← Rod.writeReg_LS_CMD _ s.rod path.code]
  exact exec_registerWrite_accepts s r path Rg.LS_CMD data h (by decide) (by decide)

/-- What the end of the extended core test leaves of LS_STAT, with its event (R537). -/
def Rod.xtestEnds (ρ : Rod) : Rod := (ρ.p Fl.LS_STAT_XTEST_RUN 0).irq 0x0B0 1

theorem Rod.xtestEnds_spec (ρ : Rod) : ρ.xtestEnds.b Fl.LS_STAT_XTEST_RUN = false ∧ ρ.xtestEnds.raised 0x0B0 1 ∧
    ρ.only ρ.xtestEnds [Rg.LS_STAT, Rg.IRQ_RAW 0x0B0] ρ := by
  refine ⟨?_, Rod.irq_sets _ 0x0B0 1 (by decide), Rod.only_irq 0x0B0 1 (by simp) (Rod.only_p Fl.LS_STAT_XTEST_RUN _ (.head _) (Rod.only_refl _ _))⟩
  rw [Rod.xtestEnds, Rod.b_irq_ne _ _ _ _ (by decide)]
  exact Rod.b_p ρ Fl.LS_STAT_XTEST_RUN false (by decide) rfl

theorem Rod.xtestDone_idle (ρ : Rod) (failed : Option (Nat × Nat)) (us : Nat) (h : ρ.b Fl.LS_STAT_XTEST_RUN = false) :
    ρ.xtestDone failed us = ρ := by
  unfold Rod.xtestDone
  rw [if_neg (by simp [h])]

theorem Rod.xtestDone_passed (ρ : Rod) (us : Nat) (h : ρ.b Fl.LS_STAT_XTEST_RUN = true) :
    ρ.xtestDone none us = ρ.xtestEnds.flt 0x0D23 sevInfo 0x0B0 [(4, 4, us)] := by
  unfold Rod.xtestDone
  rw [if_pos h]
  rfl

theorem Rod.xtestDone_failed (ρ : Rod) (g code us : Nat) (h : ρ.b Fl.LS_STAT_XTEST_RUN = true) :
    ρ.xtestDone (some (g, code)) us = (ρ.xtestEnds.flt 0x0D22 sevWithdraw 0x0B0 [(0, 1, g), (4, 4, code)]).withdrawDie := by
  unfold Rod.xtestDone
  rw [if_pos h]
  rfl

theorem Rod.carries_withdrawDie (ρ : Rod) : ρ.carries (fun _ => ()) (· != Rg.ROD_STATE) ρ.withdrawDie := by
  rw [Rod.withdrawDie_eq]
  split
  · exact Rod.carries_withdraw rfl (fun _ _ _ _ => rfl) (Rod.carries_same (Rod.carries_refl _ _ _))
  · exact Rod.carries_refl _ _ _

theorem Rod.xtestDone_failed_flush (ρ : Rod) (g code us : Nat) (h : ρ.b Fl.LS_STAT_XTEST_RUN = true) :
    let τ := (ρ.xtestDone (some (g, code)) us).flush
    τ.b Fl.LS_STAT_XTEST_RUN = false ∧ τ.raised 0x0B0 1 ∧ τ.recorded 0x0D22 sevWithdraw 0x0B0 ∧
    (RS.serving ρ.state = true → τ.state = RS.fenced) := by
  dsimp only
  rw [Rod.xtestDone_failed ρ g code us h]
  obtain ⟨hrun, hraised, hk, ha⟩ := Rod.xtestEnds_spec ρ
  generalize hq : ρ.xtestEnds.flt 0x0D22 sevWithdraw 0x0B0 [(0, 1, g), (4, 4, code)] = q
  have hc := Rod.carries_withdrawDie q
  have hstate : q.state = ρ.state := by
    rw [← hq]
    exact Rod.state_congr _ _ ((Rod.agrees_iff _ _).1 ha).1 (hk _ (by decide) (by decide) (by decide))
  refine ⟨?_, Rod.raised_flush _ _ _ (hc.raised _ _ (by decide) ?_), ?_, fun hs => ?_⟩
  · rw [Rod.flush_b _ Fl.LS_STAT_XTEST_RUN lsStat_not_log, hc.b _ (by decide) (by decide), ← hq]
    exact hrun
  · rw [← hq]
    exact hraised
  · refine ((Rod.carries_refl (fun _ => ()) (fun _ => false) _).recorded (hc.noted ?_)) rfl
    rw [← hq]
    exact Rod.noted_fltAP _ _ _ _ _ _ _
  · rw [Rod.flush_state]
    exact Rod.withdrawDie_serving q (by rwa [hstate])

end Sys2Proof.Machine
end

section
/-! What the power sequence, the protocol operation control and the load of an image leave of the SYS page. -/

namespace Sys2Proof.Machine

theorem Sparse.get_filter_keys {α : Type} (d : α) (f : Nat → Bool) (m : Sparse α) (k : Nat) (h : f k = true) :
    Sparse.get d (m.filter fun e => f e.1) k = Sparse.get d m k := by
  induction m with
  | nil => rfl
  | cons e t ih =>
    obtain ⟨j, u⟩ := e
    by_cases hj : f j = true
    · rw [List.filter_cons_of_pos (by exact hj)]
      simp only [Sparse.get, ih]
    · rw [List.filter_cons_of_neg (by exact hj), ih]
      have hne : k ≠ j := by rintro rfl; exact hj h
      simp only [Sparse.get, if_neg hne]

/-- The SYS page is powered with the rod. -/
theorem sysPage_unswitched (d : Nat) : ((pageInfo 1).any fun i => i.power == some d) = false := rfl

theorem Rod.gw_clearPages (ρ : Rod) (f : Nat → Bool) (a : Nat) (h : f (a / 0x1000) = false) : (ρ.clearPages f).gw a = ρ.gw a :=
  Sparse.get_filter_keys _ (fun k => !f (k / 0x1000)) _ _ (by simp [h])

section
variable {β : Type} {V : ModeS → β} {K : Nat → Bool} {ρ q : Rod}

theorem Rod.carries_clearPages (f : Nat → Bool) (hf : ∀ a, K a = true → f (a / 0x1000) = false) (h : ρ.carries V K q) :
    ρ.carries V K (q.clearPages f) := by
  refine Rod.carries_trans h ⟨rfl, rfl, fun a ha => ?_, fun _ k => k, fun _ k => k⟩
  rw [Rod.gw_clearPages _ _ _ (hf a ha)]
  exact keepsWord_refl _ _

theorem Rod.carries_modFr (f : FrS → FrS) (h : ρ.carries V K q) : ρ.carries V K (q.modFr f) := Rod.carries_same h

theorem Rod.carries_orphan (i : Nat) (h : ρ.carries V K q) : ρ.carries V K (q.orphan i) := Rod.carries_same h

theorem Rod.carries_hp (k : HpS) (h : ρ.carries V K q) : ρ.carries V K { q with hp := k } := Rod.carries_same h

theorem Rod.carries_endpointReset (h : ρ.carries V K q) : ρ.carries V K q.endpointReset := Rod.carries_same h

theorem Rod.carries_moveFt (n : Nat) (h : ρ.carries V K q) : ρ.carries V K (q.moveFt n) := Rod.carries_same h

theorem Rod.carries_reloadShadow (h : ρ.carries V K q) : ρ.carries V K q.reloadShadow := Rod.carries_same h

theorem Rod.carries_sp (i : Nat) (v : Word) (h : ρ.carries V K q) : ρ.carries V K (q.sp i v) := Rod.carries_same h

/-- A register of another page than SYS is none of those kept. -/
theorem kept_off_page (hK : ∀ a, K a = true → a / 0x1000 = 1) {a : Nat} (ha : a / 0x1000 ≠ 1) : K a = false := by
  cases h : K a with
  | false => rfl
  | true => exact absurd (hK a h) ha

variable (hK : ∀ a, K a = true → a / 0x1000 = 1)
include hK

theorem Rod.carries_p_off (f : Fld) (v : Nat) (hf : f.addr / 0x1000 ≠ 1) (h : ρ.carries V K q) : ρ.carries V K (q.p f v) :=
  Rod.carries_p f v (kept_off_page hK hf) h

/-! ### Protocol operation control -/

theorem Rod.carries_setPoc (p : Nat) (h : ρ.carries V K q) : ρ.carries V K (q.setPoc p) := by
  unfold Rod.setPoc
  split
  · exact h
  · exact Rod.carries_fltAP (Rod.carries_irq _ _ (Rod.carries_p_off hK Fl.FR_STAT_POC _ (by decide) h))

theorem Rod.carries_pocRun (h : ρ.carries V K q) : ρ.carries V K q.pocRun := by
  unfold Rod.pocRun
  split
  · refine Rod.carries_modFr _ (Rod.carries_p_off hK Fl.FR_SYNC_NOCORR _ (by decide) ?_)
    have h1 := Rod.carries_setPoc hK Poc.startup (Rod.carries_setPoc hK Poc.ready h)
    have h2 := Rod.carries_p_off hK Fl.FR_STAT_WAKE_RX_B 0 (by decide) (Rod.carries_p_off hK Fl.FR_STAT_WAKE_RX_A 0 (by decide) h1)
    have h3 := Rod.carries_p_off hK Fl.FR_COLD_COLL 0 (by decide) h2
    exact Rod.carries_p_off hK Fl.FR_STAT_LEADER _ (by decide) (Rod.carries_p_off hK Fl.FR_COLD_ATT_LEFT _ (by decide) h3)
  · exact h

/-! ### Power domains -/

theorem Rod.carries_leaveChans (f : Nat × Nat → Bool) (h : ρ.carries V K q) : ρ.carries V K (q.leaveChans f) := by
  refine Rod.carries_each _ _ (fun ch p hp => ?_) (Rod.carries_same h)
  have hoff (lo w : Nat) : K (Fld.addr ⟨0x20, 0x44 + 0x10 * ch, lo, w⟩) = false := kept_off_page hK (by simp only [Fld.addr]; omega)
  unfold Rod.syncChan
  split <;> exact Rod.carries_p _ _ (hoff _ _) (Rod.carries_p _ _ (hoff _ _) (Rod.carries_p _ _ (hoff _ _) hp))

theorem Rod.carries_dropRanks (h m : Nat) (hq : ρ.carries V K q) : ρ.carries V K (q.dropRanks h m) := by
  have hoff (r : Nat) : (rankF r).addr / 0x1000 ≠ 1 := by simp only [rankF, Fld.addr]; decide
  refine Rod.carries_each _ _ (fun r p hp => ?_) hq
  split
  · exact Rod.carries_p_off hK (rankF r) _ (hoff r) hp
  · exact hp

theorem Rod.carries_stopQp (i : Nat) (h : ρ.carries V K q) : ρ.carries V K (q.stopQp i false) := by
  have hp : (Fl.QP_LOCKS_HELD i).addr / 0x1000 ≠ 1 := by simp only [Fl.QP_LOCKS_HELD, Fld.addr]; omega
  refine Rod.carries_orphan _ (Rod.carries_p_off hK (Fl.QP_LOCKS_HELD i) 0 hp (Rod.carries_hp _ ?_))
  exact Rod.carries_leaveChans hK _ (Rod.carries_dropRanks hK _ _ h)

theorem Rod.carries_domainReset (d : Nat) (h : ρ.carries V K q) : ρ.carries V K (q.domainReset d) := by
  have clear (p : Rod) (hp : ρ.carries V K p) : ρ.carries V K (p.clearPages fun p => (pageInfo p).any fun i => i.power == some d) :=
    Rod.carries_clearPages _ (fun a ha => by rw [hK a ha]; exact sysPage_unswitched d) hp
  have hq := clear q h
  unfold Rod.domainReset
  dsimp only
  split
  · refine Rod.carries_endpointReset (Rod.carries_p_off hK Fl.LINK_STAT_UP 0 (by decide) (clear _ ?_))
    exact Rod.carries_each _ _ (fun i p hp => Rod.carries_stopQp hK i hp) h
  · exact Rod.carries_moveFt 0 (Rod.carries_same hq)
  · exact Rod.carries_same hq
  · exact Rod.carries_same hq
  · exact Rod.carries_same hq
  · exact hq

theorem Rod.carries_pwrSeq (h : ρ.carries V K q) : ρ.carries V K q.pwrSeq := by
  unfold Rod.pwrSeq
  split
  · exact h
  · dsimp only
    split
    · refine Rod.carries_p_off hK Fl.CLK_STAT_RUN _ (by decide) (Rod.carries_irq _ _ (Rod.carries_domainReset hK _ ?_))
      exact Rod.carries_p_off hK Fl.PWR_STAT_DOWN _ (by decide) (Rod.carries_p_off hK Fl.PWR_STAT_PWR_OK _ (by decide) h)
    · split
      · exact Rod.carries_p_off hK Fl.PWR_STAT_UP _ (by decide) h
      · exact h

theorem Rod.carries_voteUpdate (h : ρ.carries V K q) : ρ.carries V K q.voteUpdate := by
  have h1 := Rod.carries_p_off hK Fl.PWR_VOTES_HOST (q.g Fl.PWR_HOST_VOTE) (by decide) h
  unfold Rod.voteUpdate
  dsimp only
  refine Rod.carries_pwrSeq hK (Rod.carries_p_off hK Fl.PWR_VOTES_SAFE _ (by decide) (Rod.carries_p_off hK Fl.PWR_VOTES_PEER _ (by decide) ?_))
  exact Rod.carries_p_off hK Fl.PWR_VOTES_NET _ (by decide) (Rod.carries_p_off hK Fl.PWR_VOTES_SUP _ (by decide) h1)

/-! ### Images -/

theorem Rod.carries_showImage (t : Nat) (h : ρ.carries V K q) : ρ.carries V K (q.showImage t) := by
  have hoff : K (imgReg t) = false := kept_off_page hK (by unfold imgReg; split <;> [decide; (split <;> decide)])
  refine Rod.carries_pw _ _ hoff ?_
  unfold Rod.raiseRb
  dsimp only
  split
  · exact h
  · exact Rod.carries_same h

theorem Rod.carries_setTrig (c t : Nat) (l : Loop) (h : ρ.carries V K q) : ρ.carries V K (q.setTrig c t l) := by
  have hoff (lo w : Nat) : K (Fld.addr ⟨0x61 + c, 0x50 + 0x8 * t, lo, w⟩) = false := kept_off_page hK (by simp only [Fld.addr]; omega)
  exact Rod.carries_p _ _ (hoff _ _) (Rod.carries_p _ _ (hoff _ _) (Rod.carries_p _ _ (hoff _ _) (Rod.carries_p _ _ (hoff _ _) h)))

theorem Rod.carries_placeLoops (pc : Nat) (l : List Loop) (cols : List (Nat × Nat × Nat × Nat)) (h : ρ.carries V K q) :
    ρ.carries V K (Rod.placeLoops pc l cols q).1 := by
  have hoff (c t lo w : Nat) : K (Fld.addr ⟨0x61 + c, 0x54 + 0x8 * t, lo, w⟩) = false := kept_off_page hK (by simp only [Fld.addr]; omega)
  induction l generalizing cols q with
  | nil => exact h
  | cons x t ih =>
    unfold Rod.placeLoops
    split
    · exact h
    · exact ih _ (Rod.carries_p _ _ (hoff _ _ _ _) (Rod.carries_p _ _ (hoff _ _ _ _) (Rod.carries_setTrig hK _ _ _ h)))

theorem Rod.carries_placeArver (h : ρ.carries V K q) : ρ.carries V K q.placeArver := by
  have hcfg (c t : Nat) : K (Rg.TRIG_CFG c t) = false := kept_off_page hK (by unfold Rg.TRIG_CFG; omega)
  have hlim (c t : Nat) : K (Rg.TRIG_LIM c t) = false := kept_off_page hK (by unfold Rg.TRIG_LIM; omega)
  refine Rod.carries_p_off hK Fl.RK_STAT_PLACE_FAIL _ (by decide) (Rod.carries_placeLoops hK _ _ _ ?_)
  refine Rod.carries_each _ _ (fun c p hp => Rod.carries_each _ _ (fun t w hw => ?_) hp) h
  exact Rod.carries_pw _ _ (hlim c t) (Rod.carries_pw _ _ (hcfg c t) hw)

theorem Rod.carries_placeNative (h : ρ.carries V K q) : ρ.carries V K q.placeNative := by
  have hoff (c t lo w : Nat) : K (Fld.addr ⟨0x61 + c, 0x50 + 0x8 * t, lo, w⟩) = false := kept_off_page hK (by simp only [Fld.addr]; omega)
  refine Rod.carries_each _ _ (fun c p hp => Rod.carries_each _ _ (fun t w hw => ?_) hp) h
  split
  · exact hw
  · dsimp only
    split
    · exact Rod.carries_p _ _ (hoff c t _ _) hw
    · exact Rod.carries_fltAP (Rod.carries_p _ _ (hoff c t _ _) hw)

theorem Rod.carries_place (h : ρ.carries V K q) : ρ.carries V K q.place := by
  unfold Rod.place
  split
  · exact Rod.carries_placeArver hK h
  · exact Rod.carries_placeNative hK (Rod.carries_p_off hK Fl.RK_STAT_PLACE_FAIL _ (by decide) h)

theorem Rod.carries_loadLaw (bs : List Byte) (h : ρ.carries V K q) : ρ.carries V K (q.loadLaw bs) := by
  have hflags (c : Nat) : K (Rg.COL_FLAGS c) = false := kept_off_page hK (by unfold Rg.COL_FLAGS; omega)
  have hstat (c : Nat) : K (Rg.COL_STAT c) = false := kept_off_page hK (by unfold Rg.COL_STAT; omega)
  unfold Rod.loadLaw
  split
  · exact h
  · refine Rod.carries_fltAP (Rod.carries_place hK (Rod.carries_p_off hK Fl.RK_STAT_IMG_OK _ (by decide) ?_))
    refine Rod.carries_p_off hK Fl.RK_IMG_LENGTH _ (by decide) (Rod.carries_p_off hK Fl.RK_IMG_VERSION _ (by decide) ?_)
    refine Rod.carries_each _ _ (fun c p hp => Rod.carries_pw _ _ (hstat c) (Rod.carries_pw _ _ (hflags c) hp)) ?_
    refine Rod.carries_reloadShadow (Rod.carries_each _ _ (fun r p hp => ?_) (Rod.carries_same h))
    exact Rod.carries_each _ _ (fun w u hu => Rod.carries_sp _ _ hu) hp

end

end Sys2Proof.Machine
end

section
/-! BOOT and the lockstep commands (R83, R84, R528 to R537, R616, R625). -/

namespace Sys2Proof.Machine

/-! ### BOOT -/

/-- The rod stopped in BOOT (R84). -/
def Rod.stops (ρ : Rod) : Rod := { ρ with md := { ρ.md with stuck := true } }

theorem Rod.bootFail_eq (ρ : Rod) (step : Nat) : ρ.bootFail step = ρ.stops.flt 0x0110 sevWithdraw 0x001 [(0, 1, step)] := rfl

/-- A rod that stops in BOOT writes record 0x0110, after what else it has recorded (R84). -/
theorem Rod.bootFail_flush (ρ : Rod) (step : Nat) :
    let τ := (ρ.bootFail step).flush
    τ.recorded 0x0110 sevWithdraw 0x001 ∧ ρ.only τ [] ρ.stops ∧ ∀ c sv pg, ρ.noted c sv pg → τ.recorded c sv pg := by
  have hc : ρ.carries (fun _ => ()) (fun _ => false) (ρ.bootFail step) := by
    rw [Rod.bootFail_eq, Rod.flt_eq]
    exact Rod.carries_fltAP (Rod.carries_same (Rod.carries_refl _ _ _))
  refine ⟨?_, Rod.only_flush ⟨Rod.keepsRegs_refl _ _, rfl⟩, fun c sv pg h => hc.recorded h rfl⟩
  exact (Rod.carries_refl (fun _ => ()) (fun _ => false) _).recorded (Rod.noted_fltAP _ _ _ _ _ _ _) rfl

theorem Rod.bootComparator_passed (ρ : Rod) (hs : ρ.state = RS.boot) (hk : ρ.md.stuck = false) :
    ρ.bootComparator none = ρ.p Fl.LS_STAT_BOOT_OK 1 := by
  unfold Rod.bootComparator
  rw [if_neg (by simp [hs, hk])]

theorem Rod.bootComparator_failed (ρ : Rod) (p why : Nat) (hs : ρ.state = RS.boot) (hk : ρ.md.stuck = false) :
    ρ.bootComparator (some (p, why)) =
      ({ ρ.comparatorFail p why with md := { ρ.md with stuck := true } } : Rod).flt 0x0110 sevWithdraw 0x001 [(0, 1, 2)] := by
  unfold Rod.bootComparator
  rw [if_neg (by simp [hs, hk])]

theorem Rod.bootComparator_failed_flush (ρ : Rod) (p why : Nat) (hs : ρ.state = RS.boot) (hk : ρ.md.stuck = false) :
    let τ := (ρ.bootComparator (some (p, why))).flush
    τ.raised 0x0B0 2 ∧ τ.recorded 0x0D10 sevWithdraw 0x0B0 ∧ τ.recorded 0x0110 sevWithdraw 0x001 ∧
    ρ.only τ [Rg.IRQ_RAW 0x0B0] ρ.stops := by
  dsimp only
  have hmd : (ρ.comparatorFail p why).md = ρ.md := Rod.irq_md ρ 0x0B0 2
  have he : ρ.bootComparator (some (p, why)) = (ρ.comparatorFail p why).bootFail 2 := by
    rw [Rod.bootComparator_failed ρ p why hs hk, ← hmd]
    rfl
  obtain ⟨hrec, ⟨hk2, ha2⟩, hnoted⟩ := Rod.bootFail_flush (ρ.comparatorFail p why) 2
  obtain ⟨hk1, ha1⟩ := Rod.only_comparatorFail ρ p why
  rw [he]
  refine ⟨Rod.raised_flush _ _ _ (Rod.irq_sets ρ 0x0B0 2 (by decide)), hnoted _ _ _ (Rod.noted_fltAP _ _ _ _ _ _ _), hrec,
    Rod.keepsRegs_trans hk1 (Rod.keepsRegs_mono (by simp) hk2), ?_⟩
  unfold Rod.agrees at *
  rw [ha2]
  unfold Rod.stops
  rw [ha1]

/-- BOOT waits for the active firmware to be verified (R616). -/
abbrev Rod.awaitsFirmware (ρ : Rod) : Prop :=
  ρ.state = RS.boot ∧ ρ.md.stuck = false ∧ ρ.md.fwOk = false ∧ ρ.b Fl.LS_STAT_BOOT_OK = true

theorem Rod.bootFirmware_failed (ρ : Rod) (v : Verdict) (e : VerFault) (h : ρ.awaitsFirmware)
    (hv : ρ.verifyImage 1 (ρ.active 1) v = some e) : ρ.bootFirmware v = (ρ.verRecord e).bootFail 1 := by
  obtain ⟨hs, hk, hf, hb⟩ := h
  unfold Rod.bootFirmware
  rw [if_neg (by simp [hs, hk, hf, hb]), hv]

theorem Rod.bootFirmware_passed (ρ : Rod) (v : Verdict) (h : ρ.awaitsFirmware) (hv : ρ.verifyImage 1 (ρ.active 1) v = none) :
    ρ.bootFirmware v = { ρ.showImage 1 with md := { ρ.md with fwOk := true } } := by
  obtain ⟨hs, hk, hf, hb⟩ := h
  unfold Rod.bootFirmware
  rw [if_neg (by simp [hs, hk, hf, hb]), hv]

/-- A failed step of the verification is recorded, and the rod stops (R84, R616). -/
theorem Rod.verFail_flush (ρ : Rod) (e : VerFault) (step : Nat) :
    let τ := ((ρ.verRecord e).bootFail step).flush
    τ.recorded e.1 sevWarn e.2.1 ∧ τ.recorded 0x0110 sevWithdraw 0x001 ∧ ρ.only τ [] ρ.stops := by
  obtain ⟨hrec, honly, hnoted⟩ := Rod.bootFail_flush (ρ.verRecord e) step
  exact ⟨hnoted _ _ _ (Rod.noted_fltAP _ _ _ _ _ _ _), hrec, honly⟩

theorem Rod.keepsRegs_showImage (ρ : Rod) : ρ.keepsRegs (ρ.showImage 1) [Rg.IMG_FW] := by
  refine Rod.keepsRegs_pw _ _ _ _ _ (.head _) (Rod.keepsRegs_regs _ _ _ _ ?_ (Rod.keepsRegs_refl _ _))
  unfold Rod.raiseRb
  dsimp only
  split <;> rfl

theorem Rod.showImage_me (ρ : Rod) (t : Nat) : (ρ.showImage t).me = ρ.me := by
  have hpage : ∀ a, decide (a / 0x1000 = 1) = true → a / 0x1000 = 1 := fun a ha => of_decide_eq_true ha
  exact (Rod.carries_showImage hpage t (Rod.carries_refl (fun _ => ()) _ ρ)).me

theorem Rod.bootFirmware_passed_flush (ρ : Rod) (v : Verdict) (h : ρ.awaitsFirmware) (hv : ρ.verifyImage 1 (ρ.active 1) v = none) :
    let τ := (ρ.bootFirmware v).flush
    τ.md.fwOk = true ∧ τ.md.stuck = false ∧ τ.state = RS.boot ∧ ρ.keepsRegs τ [Rg.IMG_FW] := by
  dsimp only
  have hkeep := Rod.keepsRegs_showImage ρ
  rw [Rod.bootFirmware_passed ρ v h hv, Rod.flush_md, Rod.flush_state]
  obtain ⟨hs, hk, -, -⟩ := h
  refine ⟨rfl, hk, ?_, Rod.keepsRegs_flush _ _ _ (Rod.keepsRegs_regs _ _ _ _ rfl hkeep)⟩
  rw [← hs]
  exact Rod.state_congr _ _ (Rod.showImage_me ρ 1) (hkeep _ (by decide) (by decide) (by decide))

/-! ### Entry to SYNC -/

/-- The outputs are released. -/
def Rod.released (ρ : Rod) : Rod := { ρ with md := { ρ.md with hold := false }, tb := { ρ.tb with syncFt := ρ.ft } }

/-- The UIDs go to the partners of `r` (R625). -/
def Rod.sendUids (ρ : Rod) (r : RodId) : Rod := ρ.each r.partners fun p q => q.send (.uid p (Config.uid r))

theorem Rod.enterSync_eq (ρ : Rod) : ρ.enterSync = (((ρ.released.enter RS.sync).pocRun).sendUids ρ.me).voteUpdate := rfl

theorem Rod.sendUids_mem (ρ : Rod) (r p : RodId) (hp : p ∈ r.partners) : Out.uid p (Config.uid r) ∈ (ρ.sendUids r).out :=
  Rod.each_establishes (fun _ => True) (fun q => Out.uid p (Config.uid r) ∈ q.out) _ p _ hp (fun _ _ _ => trivial)
    (fun q _ => by simp [Rod.send]) (fun _ q hq => List.mem_append_left _ hq) ρ trivial

/-- The registers of the SYS page. -/
def sysRegs (a : Nat) : Bool := decide (a / 0x1000 = 1)

theorem sysRegs_page : ∀ a, sysRegs a = true → a / 0x1000 = 1 := fun _ h => of_decide_eq_true h

/-- A rod that enters SYNC from BOOT (Table 3.3, R625). -/
theorem Rod.enterSync_flush (ρ : Rod) (h : ρ.state = RS.boot) :
    let τ := ρ.enterSync.flush
    τ.state = RS.sync ∧ τ.md.hold = false ∧ τ.raised 0x001 4 ∧ ∀ p ∈ ρ.me.partners, Out.uid p (Config.uid ρ.me) ∈ τ.out := by
  dsimp only
  rw [Rod.enterSync_eq]
  let q := ρ.released.enter RS.sync
  have hs : ρ.released.state ≠ RS.sync := fun k => absurd (h.symm.trans k) (by decide)
  have hsent : (q.pocRun).carries id sysRegs (q.pocRun.sendUids ρ.me) := Rod.carries_each _ _ (fun _ _ hp => Rod.carries_send _ hp) (Rod.carries_refl _ _ _)
  have hlast : (q.pocRun.sendUids ρ.me).carries id sysRegs (q.pocRun.sendUids ρ.me).voteUpdate.flush :=
    Rod.carries_flush rfl (Rod.carries_voteUpdate sysRegs_page (Rod.carries_refl _ _ _))
  have hc : q.carries id sysRegs (q.pocRun.sendUids ρ.me).voteUpdate.flush :=
    Rod.carries_trans (Rod.carries_pocRun sysRegs_page (Rod.carries_refl _ _ _)) (Rod.carries_trans hsent hlast)
  refine ⟨?_, ?_, hc.raised _ _ (by decide) (Rod.raised_enter _ _ hs), fun p hp => hlast.sent _ (Rod.sendUids_mem _ _ p hp)⟩
  · rw [hc.state (by decide), Rod.state_enter _ _ (by decide)]
  · have hmd : q.md = ρ.released.md := (Rod.carries_enter (V := id) (K := fun _ => false) RS.sync rfl (Rod.carries_refl _ _ _)).md
    rw [show (q.pocRun.sendUids ρ.me).voteUpdate.flush.md = q.md from hc.md, hmd]
    rfl

/-- BOOT goes on once the firmware is verified (R83). -/
abbrev Rod.awaitsImages (ρ : Rod) : Prop := ρ.state = RS.boot ∧ ρ.md.stuck = false ∧ ρ.md.fwOk = true

/-- The other images, the certificates and the self-test are good (R83). -/
abbrev Rod.imagesOk (ρ : Rod) (law safety : Verdict) (certs test : Bool) : Prop :=
  ρ.verifyImage 2 (ρ.active 2) law = none ∧ ρ.verifyImage 3 (ρ.active 3) safety = none ∧ certs = true ∧ test = true

theorem Rod.bootImages_passed (ρ : Rod) (law safety : Verdict) (certs test : Bool) (h : ρ.awaitsImages)
    (hok : ρ.imagesOk law safety certs test) :
    ρ.bootImages law safety certs test = (((ρ.showImage 2).loadLaw (ρ.active 2)).showImage 3).enterSync := by
  obtain ⟨hs, hk, hf⟩ := h
  obtain ⟨hl, hsf, hc, ht⟩ := hok
  unfold Rod.bootImages
  rw [if_neg (by simp [hs, hk, hf]), hl, hsf]
  dsimp only
  rw [if_neg (by simp [hc]), if_neg (by simp [ht])]

theorem Rod.bootImages_passed_flush (ρ : Rod) (law safety : Verdict) (certs test : Bool) (h : ρ.awaitsImages)
    (hok : ρ.imagesOk law safety certs test) :
    let τ := (ρ.bootImages law safety certs test).flush
    τ.state = RS.sync ∧ τ.md.hold = false ∧ τ.raised 0x001 4 ∧ ∀ p ∈ ρ.me.partners, Out.uid p (Config.uid ρ.me) ∈ τ.out := by
  dsimp only
  rw [Rod.bootImages_passed ρ law safety certs test h hok]
  have hc : ρ.carries id sysRegs (((ρ.showImage 2).loadLaw (ρ.active 2)).showImage 3) :=
    Rod.carries_showImage sysRegs_page 3 (Rod.carries_loadLaw sysRegs_page _ (Rod.carries_showImage sysRegs_page 2 (Rod.carries_refl _ _ _)))
  have hsync := Rod.enterSync_flush _ ((hc.state (by decide)).trans h.1)
  rwa [hc.me] at hsync

/-- A failed image, certificate or self-test stops the rod (R84). -/
theorem Rod.bootImages_failed_flush (ρ : Rod) (law safety : Verdict) (certs test : Bool) (h : ρ.awaitsImages)
    (hno : ¬ρ.imagesOk law safety certs test) :
    let τ := (ρ.bootImages law safety certs test).flush
    τ.recorded 0x0110 sevWithdraw 0x001 ∧ ρ.only τ [] ρ.stops := by
  dsimp only
  have fails (step : Nat) : (ρ.bootFail step).flush.recorded 0x0110 sevWithdraw 0x001 ∧ ρ.only (ρ.bootFail step).flush [] ρ.stops := by
    obtain ⟨hrec, honly, -⟩ := Rod.bootFail_flush ρ step
    exact ⟨hrec, honly⟩
  obtain ⟨hs, hk, hf⟩ := h
  unfold Rod.bootImages
  rw [if_neg (by simp [hs, hk, hf])]
  cases hl : ρ.verifyImage 2 (ρ.active 2) law with
  | some e => exact (Rod.verFail_flush ρ e 3).2
  | none =>
    cases hsf : ρ.verifyImage 3 (ρ.active 3) safety with
    | some e => exact (Rod.verFail_flush ρ e 3).2
    | none =>
      dsimp only
      split
      · exact fails 3
      · split
        · exact fails 4
        · next hc ht => exact absurd ⟨hl, hsf, by simpa using hc, by simpa using ht⟩ hno

/-! ### The statement -/

theorem Rod.bootComparator_passed_flush (ρ : Rod) (hs : ρ.state = RS.boot) (hk : ρ.md.stuck = false) :
    let τ := (ρ.bootComparator none).flush
    τ.b Fl.LS_STAT_BOOT_OK = true ∧ ρ.only τ [Rg.LS_STAT] ρ := by
  dsimp only
  rw [Rod.bootComparator_passed ρ hs hk, Rod.flush_b _ Fl.LS_STAT_BOOT_OK lsStat_not_log]
  exact ⟨Rod.b_p ρ Fl.LS_STAT_BOOT_OK true (by decide) rfl, Rod.only_flush (Rod.only_p Fl.LS_STAT_BOOT_OK _ (.head _) (Rod.only_refl _ _))⟩

theorem Rod.xtestDone_passed_flush (ρ : Rod) (us : Nat) (h : ρ.b Fl.LS_STAT_XTEST_RUN = true) :
    let τ := (ρ.xtestDone none us).flush
    τ.b Fl.LS_STAT_XTEST_RUN = false ∧ τ.raised 0x0B0 1 ∧ τ.recorded 0x0D23 sevInfo 0x0B0 ∧ ρ.only τ [Rg.LS_STAT, Rg.IRQ_RAW 0x0B0] ρ := by
  obtain ⟨hrun, hraised, honly⟩ := Rod.xtestEnds_spec ρ
  dsimp only
  rw [Rod.xtestDone_passed _ us h, Rod.flush_b _ Fl.LS_STAT_XTEST_RUN lsStat_not_log]
  exact ⟨hrun, Rod.raised_flush _ _ _ hraised,
    (Rod.carries_refl (fun _ => ()) (fun _ => false) _).recorded (Rod.noted_fltAP _ _ _ _ _ _ _) rfl, Rod.only_flush (Rod.only_fltAP honly)⟩

/-- LS_CMD starts the extended core test in STANDBY in a READY rod (R537). -/
theorem completes_xtest_starts (s : State) (r : RodId) (path : Path) (data : Word) (h : (s.rod r).accepts path Rg.LS_CMD)
    (hmay : wBits data 8 8 = 0x5A ∧ wBit data 0 = true ∧ (s.rod r).mode = SM.standby ∧ (s.rod r).state = RS.ready) :
    completes (.xtest r path data) s fun t =>
      (t.rod r).b Fl.LS_STAT_XTEST_RUN = true ∧ (s.rod r).only (t.rod r) [Rg.LS_STAT] (s.rod r) := by
  obtain ⟨t, ht, e⟩ := exec_xtest_accepts s r path data h
  refine ⟨t, ht, ?_⟩
  dsimp only
  rw [e, Rod.writeLsCmd, if_pos hmay, Rod.flush_b _ Fl.LS_STAT_XTEST_RUN lsStat_not_log]
  exact ⟨Rod.b_p (s.rod r) Fl.LS_STAT_XTEST_RUN true (by decide) rfl,
    Rod.only_flush (Rod.only_p Fl.LS_STAT_XTEST_RUN _ (.head _) (Rod.only_refl _ _))⟩

/-- Any other write of LS_CMD is captured (R537). -/
theorem completes_xtest_refused (s : State) (r : RodId) (path : Path) (data : Word) (h : (s.rod r).accepts path Rg.LS_CMD)
    (hno : ¬(wBits data 8 8 = 0x5A ∧ wBit data 0 = true ∧ (s.rod r).mode = SM.standby ∧ (s.rod r).state = RS.ready)) :
    completes (.xtest r path data) s fun t => (t.rod r).b (Fl.ERRCAP_0_VALID 0x0B0) = true ∧
      ((s.rod r).b (Fl.ERRCAP_0_VALID 0x0B0) = false → (t.rod r).g (Fl.ERRCAP_0_TYPE 0x0B0) = 6) ∧
      (s.rod r).only (t.rod r) (errRegs 0x0B0) (s.rod r) := by
  obtain ⟨t, ht, e⟩ := exec_xtest_accepts s r path data h
  refine ⟨t, ht, ?_⟩
  dsimp only
  rw [e, Rod.writeLsCmd, if_neg hno, Rod.flush_b _ (Fl.ERRCAP_0_VALID 0x0B0) (by decide)]
  refine ⟨Rod.errCap_valid _ _ _ _ _ _, fun hv => ?_, Rod.only_flush (Rod.only_errCap _ _ _ _ _ _)⟩
  obtain ⟨-, -, htype, -⟩ := Rod.errCap_captures (s.rod r) 0x0B0 6 path.code 0x48 data hv (by decide) (path_code_lt path) (by decide)
  exact htype

/-- A command that leaves its rod as it was but for the records that wait. -/
theorem Rod.only_flush_self {ρ q : Rod} (h : q = ρ) : ρ.only q.flush [] ρ := by
  rw [h]
  exact Rod.only_flush (Rod.only_refl _ _)

/-- Settles O52: each command acts on its rod alone, and the rod's own law of each case says what it leaves. -/
theorem bootAndLockstepAct : Obligations.BootAndLockstepAct := by
  unfold Obligations.BootAndLockstepAct
  intro s r
  dsimp only
  refine ⟨fun hs hk => ⟨⟨_, rfl, ?_⟩, fun p why => ⟨_, rfl, ?_⟩, fun v hf hb => ⟨fun hv => ⟨_, rfl, ?_⟩, fun e hv => ⟨_, rfl, ?_⟩⟩,
      fun law safety certs test hf => ⟨fun hok => ⟨_, rfl, ?_⟩, fun hno => ⟨_, rfl, ?_⟩⟩⟩,
    fun pair core diff => ⟨fun hoff => ⟨_, rfl, ?_⟩, fun hon heq => ⟨_, rfl, ?_⟩, fun hon hne => ⟨_, rfl, ?_⟩⟩,
    fun core diff => ⟨fun h => ⟨_, rfl, ?_⟩, fun hs he hn => ⟨_, rfl, ?_⟩⟩,
    fun purpose => ⟨fun hmay hs => ⟨_, rfl, ?_⟩, fun h => ⟨_, rfl, ?_⟩⟩, ⟨fun h => ⟨_, rfl, ?_⟩, fun h => ⟨_, rfl, ?_⟩⟩,
    fun h => ⟨_, rfl, ?_⟩, fun h => ⟨_, rfl, ?_⟩, fun path data hacc => ⟨completes_xtest_starts s r path data hacc, completes_xtest_refused s r path data hacc⟩,
    fun us => ⟨fun h failed => ⟨_, rfl, ?_⟩, fun h => ⟨⟨_, rfl, ?_⟩, fun g code => ⟨_, rfl, ?_⟩⟩⟩⟩
  all_goals
    dsimp only
    rw [State.rod_putRod]
    generalize s.rod r = σ at *
  · exact Rod.bootComparator_passed_flush σ hs hk
  · exact Rod.bootComparator_failed_flush σ p why hs hk
  · exact Rod.bootFirmware_passed_flush σ v ⟨hs, hk, hf, hb⟩ hv
  · rw [Rod.bootFirmware_failed σ v e ⟨hs, hk, hf, hb⟩ hv]
    exact Rod.verFail_flush σ e 1
  · exact Rod.bootImages_passed_flush σ law safety certs test ⟨hs, hk, hf⟩ hok
  · exact Rod.bootImages_failed_flush σ law safety certs test ⟨hs, hk, hf⟩ hno
  · exact Rod.only_flush_self (Rod.windowEnd_off σ _ core diff hoff)
  · exact (Rod.windowEnd_flush σ pair.val core diff (by omega) hon).1 heq
  · obtain ⟨hcount, hv, hpair, htest, hraised, hrec, hleave, hkeep⟩ := (Rod.windowEnd_flush σ pair.val core diff (by omega) hon).2 hne
    exact ⟨hcount, hv, hpair, htest, hraised, hrec, hleave, Rod.keepsRegs_mono (by simp [fenceRegs]) hkeep⟩
  · exact Rod.only_flush_self (Rod.comparatorTest_idle σ core diff h)
  · obtain ⟨⟨hcount, halt, hat⟩, hnext, htest, hpass, hfail⟩ := Rod.comparatorTest_flush σ core diff hs he hn
    refine ⟨hcount, halt, hat, hnext, htest, hpass, fun hd => ?_⟩
    obtain ⟨hleave, hkeep, hzero, hmis⟩ := hfail hd
    exact ⟨hleave, hkeep, fun hm => hzero (BitVec.xor_eq_zero_iff.2 hm), fun hm => hmis (fun k => hm (BitVec.xor_eq_zero_iff.1 k))⟩
  · exact Rod.pairSplit_flush σ purpose hmay hs
  · exact Rod.only_flush_self (Rod.pairSplit_idle σ purpose h)
  · exact Rod.pairRejoin_flush σ h
  · exact Rod.only_flush_self (Rod.pairRejoin_idle σ h)
  · exact Rod.pairRestart_flush σ h
  · exact Rod.only_flush_self (Rod.pairRestart_idle σ h)
  · exact Rod.only_flush_self (Rod.xtestDone_idle σ failed us h)
  · exact Rod.xtestDone_passed_flush σ us h
  · exact Rod.xtestDone_failed_flush σ g code us h

end Sys2Proof.Machine
end

section
/-! What the gate drive changes as its enables follow R426, and the failed checks of ARMING and REJOIN (R95, R500). -/

namespace Sys2Proof.Machine

/-! ### Enables that rise -/

/-- The registers that latches write as they clear and set (R444), and the pages whose events they raise (R444, R448). -/
def causeRegs : List Nat := [Rg.DRV_CAUSE 0, Rg.DRV_CAUSE 1, Rg.DRV_CAUSE 2, Rg.DRV_CNT 0, Rg.DRV_CNT 1, Rg.DRV_CNT 2]
def causePages : List Nat := [0x090, 0x091, 0x092, 0x060]

/-- What keeps a property of a rod while half-bridges and sets change: writes of `causeRegs`, events of `causePages`, records, messages, and changes of the
half-bridges and of the set state. -/
structure DriveClosed (I : Rod → Prop) : Prop where
  p : ∀ (q : Rod) (f : Fld) (v : Nat), f.addr ∈ causeRegs → I q → I (q.p f v)
  irq : ∀ (q : Rod) (p i : Nat), p ∈ causePages → I q → I (q.irq p i)
  flt : ∀ (q : Rod) (c sv pg ax ph : Nat) (d : List (Nat × Nat × Nat)), I q → I (q.fltAP c sv pg ax ph d)
  send : ∀ (q : Rod) (o : Out), I q → I (q.send o)
  parts : ∀ (q : Rod) (h : Tri (Tri Hb)) (k : RkS), I q → I { q with hb := h, rk := k }

theorem drvCause_mem (n : Axis) : Rg.DRV_CAUSE n.val ∈ causeRegs := by revert n; decide
theorem drvCnt_mem (n : Axis) : Rg.DRV_CNT n.val ∈ causeRegs := by revert n; decide
theorem drivePage_mem (n : Axis) : drivePage n ∈ causePages := by revert n; decide

theorem tCauseF_addr (n : Axis) (p : Phase) : (tCauseF n p).addr = Rg.DRV_CAUSE n.val := by
  unfold tCauseF drivePage Fld.addr Rg.DRV_CAUSE
  rfl

section
variable {I : Rod → Prop} (hI : DriveClosed I) {q : Rod}
include hI

theorem DriveClosed.putHalf (n : Axis) (p : Phase) (h : Hb) (hq : I q) : I (q.putHalf n p h) := hI.parts q _ q.rk hq

theorem DriveClosed.syncDrv (n : Axis) (hq : I q) : I (q.syncDrv n) := hI.parts q q.hb _ hq

theorem DriveClosed.setSetOn (n : Axis) (on : Bool) (hq : I q) : I (q.setSetOn n on) := by
  unfold Rod.setSetOn
  split
  · exact hq
  · exact hI.send _ _ (hI.parts q q.hb _ hq)

theorem DriveClosed.setGoesOff (n : Axis) (cause : Nat) (hq : I q) : I (q.setGoesOff n cause) :=
  hI.flt _ _ _ _ _ _ _ (hI.irq _ _ _ (by decide) (Rod.each_invariant I _ (fun p r hr => hI.putHalf n p _ hr) _ _ (hI.setSetOn n _ hq)))

theorem DriveClosed.drvOff (n : Axis) (hq : I q) : I (q.drvOff n) := by
  unfold Rod.drvOff
  dsimp only
  split
  · exact hI.setGoesOff n 2 (hI.syncDrv n hq)
  · exact hI.syncDrv n hq

theorem DriveClosed.tLatch (n : Axis) (p : Phase) (cause : Nat) (hq : I q) : I (q.tLatch n p cause) :=
  hI.drvOff n (hI.irq _ _ _ (drivePage_mem n) (hI.p _ _ _ (by rw [tCauseF_addr]; exact drvCause_mem n) (hI.putHalf n p _ hq)))

theorem DriveClosed.desat (n : Axis) (p : Phase) (hq : I q) : I (q.desat n p) := by
  unfold Rod.desat
  refine hI.tLatch n p 1 (hI.p _ (Fl.DRV_CNT_DESAT n.val) _ (drvCnt_mem n) ?_)
  split
  · exact hI.flt _ _ _ _ _ _ _ (hI.putHalf n p _ hq)
  · exact hq

theorem DriveClosed.overcurrent (n : Axis) (p : Phase) (hq : I q) : I (q.overcurrent n p) := by
  unfold Rod.overcurrent
  refine hI.tLatch n p 2 (hI.p _ (Fl.DRV_CNT_OC n.val) _ (drvCnt_mem n) ?_)
  split
  · exact hI.flt _ _ _ _ _ _ _ (hI.putHalf n p _ hq)
  · exact hq

theorem DriveClosed.clearT (n : Axis) (p : Phase) (hq : I q) : I (q.clearT n p).1 := by
  have hclear (h : Hb) : I (((q.putHalf n p h).p (tCauseF n p) 0).irq (drivePage n) 3) :=
    hI.irq _ _ _ (drivePage_mem n) (hI.p _ _ _ (by rw [tCauseF_addr]; exact drvCause_mem n) (hI.putHalf n p h hq))
  unfold Rod.clearT
  dsimp only
  split
  · exact hq
  · split
    · dsimp only
      split
      · exact hI.desat n p (hclear _)
      · split
        · exact hI.overcurrent n p (hclear _)
        · split
          · exact hI.tLatch n p 3 (hI.flt _ _ _ _ _ _ _ (hclear _))
          · exact hI.tLatch n p 4 (hI.flt _ _ _ _ _ _ _ (hclear _))
    · exact hI.syncDrv n (hclear _)

/-- What the changes of half-bridges and sets keep, the enables keep as they follow R426. -/
theorem DriveClosed.updEn (hq : I q) : I q.updEn := by
  refine Rod.each_invariant I _ (fun n r hr => Rod.each_invariant I _ (fun p u hu => ?_) _ _ hr) _ _ hq
  dsimp only
  split
  · exact hu
  · split
    · exact hI.clearT n p (hI.putHalf n p _ hu)
    · exact hI.putHalf n p _ hu

end

theorem driveClosed_carries {β : Type} {V : ModeS → β} {K : Nat → Bool} (ρ : Rod) (hK : ∀ a ∈ causeRegs, K a = false) :
    DriveClosed (ρ.carries V K) where
  p _ f v hf h := Rod.carries_p f v (hK _ hf) h
  irq _ p i _ h := Rod.carries_irq p i h
  flt _ _ _ _ _ _ _ h := Rod.carries_fltAP h
  send _ o h := Rod.carries_send o h
  parts _ _ _ h := Rod.carries_same h

/-- The enables of a rod rise and fall: nothing but the latches, sets and their registers changes. -/
theorem Rod.carries_updEn {β : Type} {V : ModeS → β} {K : Nat → Bool} {ρ q : Rod} (hK : ∀ a ∈ causeRegs, K a = false)
    (h : ρ.carries V K q) : ρ.carries V K q.updEn := (driveClosed_carries ρ hK).updEn h

theorem driveClosed_keepsRegs (ρ : Rod) (ex : List Nat) (hc : causeRegs ⊆ ex) (hp : ∀ p ∈ causePages, Rg.IRQ_RAW p ∈ ex) :
    DriveClosed (ρ.keepsRegs · ex) where
  p _ f v hf h := Rod.keepsRegs_p _ _ _ f v (hc hf) h
  irq _ p i hi h := Rod.keepsRegs_irq _ _ _ p i (hp p hi) h
  flt q _ _ _ _ _ _ h := Rod.keepsRegs_regs _ q _ _ rfl h
  send q _ h := Rod.keepsRegs_regs _ q _ _ rfl h
  parts q _ _ h := Rod.keepsRegs_regs _ q _ _ rfl h

/-! ### Checks that fail, and what else the sequence changes -/

section
variable {β : Type} {V : ModeS → β} {K : Nat → Bool} {ρ q : Rod}

theorem Rod.carries_modMd (f : ModeS → ModeS) (hf : ∀ m, V (f m) = V m) (h : ρ.carries V K q) : ρ.carries V K (q.modMd f) :=
  Rod.carries_same h rfl (hf _)

theorem Rod.carries_modSf (f : SafS → SafS) (h : ρ.carries V K q) : ρ.carries V K (q.modSf f) := Rod.carries_same h

/-- X_KHS commands the coil: of the mode state the command and the FT of its turn-on change, of the registers K_STAT. -/
theorem Rod.carries_coil (on : Bool) (hK : K Rg.K_STAT = false) (hV : ∀ m : ModeS, ∀ k t, V { m with khs := k, khsFt := t } = V m)
    (h : ρ.carries V K q) : ρ.carries V K (q.coil on) := by
  unfold Rod.coil
  split
  · exact h
  · exact Rod.carries_modMd (fun m => { m with khs := on, khsFt := _ }) (fun m => hV m _ _)
      (Rod.carries_modSf _ (Rod.carries_p Fl.K_STAT_COIL _ hK h))

theorem Rod.carries_armFail (code axis : Nat) (data : List (Nat × Nat × Nat)) (hK : K Rg.ROD_STATE = false) (ha : K Rg.ARM_STAT = false)
    (hr : K Rg.RJ_STAT = false) (hV : ∀ m : ModeS, ∀ d p a, V { m with dis := d, park := p, armFenced := a } = V m)
    (h : ρ.carries V K q) : ρ.carries V K (q.armFail code axis data) := by
  unfold Rod.armFail
  dsimp only
  split
  · refine Rod.carries_fence hK hV (Rod.carries_fltAP (Rod.carries_irq _ _ (Rod.carries_p Fl.RJ_STAT_FCODE _ hr ?_)))
    exact Rod.carries_p Fl.RJ_STAT_FAIL _ hr (Rod.carries_p Fl.RJ_STAT_RUN _ hr (Rod.carries_fltAP h))
  · refine Rod.carries_withdraw hK hV (Rod.carries_irq _ _ (Rod.carries_p Fl.ARM_STAT_RUN _ ha ?_))
    exact Rod.carries_p Fl.ARM_STAT_FCODE _ ha (Rod.carries_p Fl.ARM_STAT_FAIL _ ha (Rod.carries_fltAP h))

theorem Rod.carries_osdStart (hK : ∀ n : Axis, K (Rg.DRV_OSD n.val) = false)
    (hV : ∀ m : ModeS, V { m with osdSet := 0, osdStep := 0, osdFailC := false, osdDone := false } = V m) (h : ρ.carries V K q) :
    ρ.carries V K q.osdStart :=
  Rod.carries_each _ _ (fun n _ hp => Rod.carries_pw _ _ (hK n) hp) (Rod.carries_same h rfl (hV _))

theorem Rod.carries_endStep5 (ha : K Rg.ARM_STAT = false) (h : ρ.carries V K q) : ρ.carries V K q.endStep5 := by
  unfold Rod.endStep5
  split
  · exact Rod.carries_p Fl.ARM_STAT_STEP _ ha h
  · exact h

end

/-- A check of ARMING that fails in an ACTIVE rod (R95): FAIL with its code, RUN ended, the rod withdrawn, and the record. -/
theorem Rod.armFail_leaves (ρ : Rod) (code axis : Nat) (data : List (Nat × Nat × Nat)) (hs : ρ.state = RS.active) (hc : code < 65536) :
    let q := ρ.armFail code axis data
    q.b Fl.ARM_STAT_FAIL = true ∧ q.b Fl.ARM_STAT_RUN = false ∧ q.g Fl.ARM_STAT_FCODE = code ∧ q.state = RS.fenced ∧
    q.md.dis = true ∧ q.noted code sevWithdraw 0x001 := by
  let q0 := ρ.fltAP code sevWithdraw 0x001 axis 0xFF data
  let q1 := ((q0.p Fl.ARM_STAT_FAIL 1).p Fl.ARM_STAT_FCODE code).p Fl.ARM_STAT_RUN 0
  have he : ρ.armFail code axis data = (q1.irq 0x001 3).withdraw := by
    unfold Rod.armFail
    dsimp only
    rw [if_neg]
    show ¬ρ.state = RS.rejoin
    rw [hs]
    decide
  have h1 : q0.carries id (· == Rg.ROD_STATE) (q1.irq 0x001 3) :=
    Rod.carries_irq _ _ (Rod.carries_p Fl.ARM_STAT_RUN _ (by decide) (Rod.carries_p Fl.ARM_STAT_FCODE _ (by decide) (Rod.carries_p Fl.ARM_STAT_FAIL _ (by decide)
      (Rod.carries_refl _ _ _))))
  have hserving : RS.serving (q1.irq 0x001 3).state = true := by
    rw [h1.state rfl, show q0.state = ρ.state from rfl, hs]
    decide
  have h2 : (q1.irq 0x001 3).carries (fun _ => ()) (· == Rg.ARM_STAT) (q1.irq 0x001 3).withdraw :=
    Rod.carries_withdraw rfl (fun _ _ _ _ => rfl) (Rod.carries_refl _ _ _)
  have hgw : (q1.irq 0x001 3).withdraw.gw Rg.ARM_STAT = q1.gw Rg.ARM_STAT :=
    (h2.gw _ rfl (by decide)).trans (Rod.gw_irq_ne _ _ _ _ (by decide))
  obtain ⟨hstate, hdis, -⟩ := (Rod.withdraw_leaves (q1.irq 0x001 3)).1 hserving
  dsimp only
  rw [he]
  refine ⟨?_, ?_, ?_, hstate, hdis, h2.noted (Rod.carries.noted h1 (Rod.noted_fltAP _ _ _ _ _ _ _))⟩
  · rw [Rod.b_congr _ _ Fl.ARM_STAT_FAIL hgw, Rod.b_p_ne _ _ _ _ (by decide) (by decide), Rod.b_p_ne _ _ _ _ (by decide) (by decide)]
    exact Rod.b_p q0 Fl.ARM_STAT_FAIL true (by decide) rfl
  · rw [Rod.b_congr _ _ Fl.ARM_STAT_RUN hgw]
    exact Rod.b_p _ Fl.ARM_STAT_RUN false (by decide) rfl
  · rw [Rod.g_of_gw _ _ Fl.ARM_STAT_FCODE hgw, Rod.g_p_ne _ _ _ _ (by decide) (by decide), Rod.g_p _ _ _ (by decide)]
    exact Nat.mod_eq_of_lt hc

end Sys2Proof.Machine
end

section
/-! The steps by which ARMING, REJOIN and the shutdown go on in every rod (Table 3.5, Table 14.3, R102). -/

namespace Sys2Proof.Machine

/-! ### What one step can do -/

/-- The off-state diagnostics start where they have not been run. -/
def Rod.osdBegin (ρ : Rod) : Rod := if ρ.md.osdSet = 3 && !ρ.md.osdDone then ρ.osdStart else ρ

/-- The pre-charge starts (R454). -/
def Rod.charges (ρ : Rod) : Rod := (ρ.modMd fun d => { d with pre := true }).updEn

/-- Step 6 of REJOIN starts the off-state diagnostics anew (Table 14.3). -/
def Rod.rejoinOsd (ρ : Rod) : Rod :=
  ((ρ.p Fl.RJ_STAT_STEP 6).modMd fun d => { d with osdSet := 3, osdDone := false, pre := false, preOk := false }).osdBegin

/-- What a step does in a rod that takes part in the checks of ARMING. -/
def Rod.armStepArming (ρ ρ' : Rod) : Prop :=
  ρ' = ρ ∨ ρ' = ρ.armFail 0x0120 0xFF [(0, 1, 1)] ∨ ρ' = ρ.coil true ∨
    (ρ.g Fl.ARM_STAT_STEP = 2 ∧ (ρ' = ρ.osdBegin ∨ ρ' = (ρ.osdBegin.p Fl.ARM_STAT_STEP 3).charges)) ∨ ρ' = ρ.endStep5

/-- What a step does in any other rod. -/
def Rod.armStepOther (ρ ρ' : Rod) : Prop :=
  ρ' = ρ ∨ (ρ.state = RS.rejoin ∧ (ρ' = ρ.rejoinOsd ∨ ρ' = ρ.charges)) ∨
    (ρ.mode = SM.standby ∧ ρ.state ≠ RS.rejoin ∧ ρ' = ρ.coil false)

theorem Rod.armStep_arming (ρ : Rod) (ps : RodId → Rod) (h : ρ.arming = true) : ρ.armStepArming (ρ.armStep ps) := by
  have hb : (if ρ.md.osdSet = 3 && !ρ.md.osdDone then ρ.osdStart else ρ) = ρ.osdBegin := rfl
  unfold Rod.armStep Rod.armStepArming
  dsimp only
  rw [if_pos h]
  simp only [hb]
  split
  · next h2 =>
    split
    · split
      · split
        · exact .inr (.inl rfl)
        · exact .inr (.inr (.inl rfl))
      · exact .inl rfl
    · split
      · split
        · exact .inr (.inr (.inr (.inl ⟨h2, .inr rfl⟩)))
        · exact .inr (.inr (.inr (.inl ⟨h2, .inl rfl⟩)))
      · exact .inl rfl
  · exact .inr (.inr (.inr (.inr rfl)))

theorem Rod.armStep_other (ρ : Rod) (ps : RodId → Rod) (h : ρ.arming = false) : ρ.armStepOther (ρ.armStep ps) := by
  unfold Rod.armStep Rod.armStepOther
  dsimp only
  rw [if_neg (by simp [h])]
  split
  · next hr =>
    split
    · exact .inr (.inl ⟨hr, .inl rfl⟩)
    · split
      · exact .inr (.inl ⟨hr, .inr rfl⟩)
      · exact .inl rfl
  · next hr =>
    split
    · next hs =>
      split
      · exact .inr (.inr ⟨hs.1, hr, rfl⟩)
      · exact .inl rfl
    · exact .inl rfl

/-! ### What the steps leave -/

section
variable {β : Type} {V : ModeS → β} {K : Nat → Bool} {ρ q : Rod}

theorem Rod.carries_osdBegin (hK : ∀ n : Axis, K (Rg.DRV_OSD n.val) = false)
    (hV : ∀ m : ModeS, V { m with osdSet := 0, osdStep := 0, osdFailC := false, osdDone := false } = V m) (h : ρ.carries V K q) :
    ρ.carries V K q.osdBegin := by
  unfold Rod.osdBegin
  split
  · exact Rod.carries_osdStart hK hV h
  · exact h

theorem Rod.carries_charges (hK : ∀ a ∈ causeRegs, K a = false) (hV : ∀ m : ModeS, V { m with pre := true } = V m) (h : ρ.carries V K q) :
    ρ.carries V K q.charges := Rod.carries_updEn hK (Rod.carries_modMd _ hV h)

end

/-- The registers that a step of the sequence may write, but for those of its records. -/
def stepRegs : List Nat :=
  [Rg.ARM_STAT, Rg.ROD_STATE, Rg.RJ_STAT, Rg.K_STAT, Rg.DRV_OSD 0, Rg.DRV_OSD 1, Rg.DRV_OSD 2] ++ causeRegs

/-- Every part of the mode state that no step of the sequence changes. -/
def ModeS.steady (m : ModeS) : ModeS :=
  { m with dis := false, park := false, armFenced := false, khs := false, khsFt := 0, osdSet := 0, osdStep := 0, osdFailC := false
           osdDone := false, pre := false, preOk := false }

theorem osd_mem_stepRegs (n : Axis) : Rg.DRV_OSD n.val ∈ stepRegs := by revert n; decide

/-- A step commands the coil, or it writes no register but those of the sequence, K_STAT not among them, and keeps the rest of the
mode state. -/
theorem Rod.armStep_coil_or_carries (K : Nat → Bool) (hK : ∀ a ∈ stepRegs, a ≠ Rg.K_STAT → K a = false) (q : Rod) (ps : RodId → Rod) :
    (∃ on, q.armStep ps = q.coil on) ∨ q.carries ModeS.steady K (q.armStep ps) := by
  have hosd : ∀ n : Axis, K (Rg.DRV_OSD n.val) = false := fun n => hK _ (osd_mem_stepRegs n) (by revert n; decide)
  have hcause : ∀ a ∈ causeRegs, K a = false := fun a ha => hK a (List.mem_append_right _ ha) (by revert a; decide)
  have ha : K Rg.ARM_STAT = false := hK _ (by decide) (by decide)
  have hj : K Rg.RJ_STAT = false := hK _ (by decide) (by decide)
  have h := Rod.carries_refl ModeS.steady K q
  have hbegin : q.carries ModeS.steady K q.osdBegin := Rod.carries_osdBegin hosd (fun _ => rfl) h
  cases harm : q.arming with
  | true =>
    rcases Rod.armStep_arming q ps harm with e | e | e | ⟨-, e | e⟩ | e <;> rw [e]
    · exact .inr h
    · exact .inr (Rod.carries_armFail _ _ _ (hK _ (by decide) (by decide)) ha hj (fun _ _ _ _ => rfl) h)
    · exact .inl ⟨true, rfl⟩
    · exact .inr hbegin
    · exact .inr (Rod.carries_charges hcause (fun _ => rfl) (Rod.carries_p Fl.ARM_STAT_STEP 3 ha hbegin))
    · exact .inr (Rod.carries_endStep5 ha h)
  | false =>
    rcases Rod.armStep_other q ps harm with e | ⟨-, e | e⟩ | ⟨-, -, e⟩ <;> rw [e]
    · exact .inr h
    · exact .inr (Rod.carries_osdBegin hosd (fun _ => rfl) (Rod.carries_modMd _ (fun _ => rfl) (Rod.carries_p Fl.RJ_STAT_STEP 6 hj h)))
    · exact .inr (Rod.carries_charges hcause (fun _ => rfl) h)
    · exact .inl ⟨false, rfl⟩

/-- A step writes no register but those of the sequence, and keeps the rest of the mode state. -/
theorem Rod.carries_armStep (K : Nat → Bool) (hK : ∀ a ∈ stepRegs, K a = false) (ρ q : Rod) (ps : RodId → Rod)
    (h : ρ.carries ModeS.steady K q) : ρ.carries ModeS.steady K (q.armStep ps) := by
  rcases Rod.armStep_coil_or_carries K (fun a ha _ => hK a ha) q ps with ⟨on, e⟩ | k
  · rw [e]
    exact Rod.carries_coil on (hK _ (by decide)) (fun _ _ _ => rfl) h
  · exact Rod.carries_trans h k

/-- The states in which a step leaves the diagnostics and the pre-charge of a rod that has begun them. -/
def Rod.engaged (ρ : Rod) : Prop := ρ.state = RS.active ∨ ρ.state = RS.fenced

theorem not_arming_of_fenced (ρ : Rod) (h : ρ.state = RS.fenced) : ρ.arming = false := by
  unfold Rod.arming
  simp [h, RS.fenced, RS.active]

theorem not_rejoin_of_engaged (ρ : Rod) (h : ρ.engaged) : ρ.state ≠ RS.rejoin := by
  rcases h with h | h <;> rw [h] <;> decide

/-- A step in a FENCED rod opens the contactor, or does nothing. -/
theorem Rod.armStep_fenced (ρ : Rod) (ps : RodId → Rod) (h : ρ.state = RS.fenced) : ρ.armStep ps = ρ ∨ ρ.armStep ps = ρ.coil false := by
  rcases Rod.armStep_other ρ ps (not_arming_of_fenced ρ h) with e | ⟨hr, -⟩ | ⟨-, -, e⟩
  · exact .inl e
  · exact absurd hr (not_rejoin_of_engaged ρ (.inr h))
  · exact .inr e

/-- Every rod keeps what each of its steps keeps. -/
theorem State.armAll_rod (I : Rod → Prop) (r : RodId) (hI : ∀ q ps, I q → I (Rod.armStep q ps).flush) (s : State) (h : I (s.rod r)) :
    I (s.armAll.rod r) := by
  have go (s : State) (q : RodId) (h : I (s.rod r)) : I ((s.putRod q ((s.rod q).armStep s.rod).flush).rod r) := by
    by_cases hq : r = q
    · subst hq
      rw [State.rod_putRod]
      exact hI _ _ h
    · rwa [State.rod_putRod_ne _ _ _ _ hq]
  exact go _ .x (go _ .y (go _ .z (go _ .y (go _ .x h))))

/-- What a command of one rod leaves of it, where every step of the sequence keeps that. -/
theorem completes_onRodA {i : Instr} {s : State} {r : RodId} {f : (RodId → Rod) → Rod → Rod} {P : Rod → Prop} (I : Rod → Prop)
    (he : exec i s = onRodA s r f) (hI : ∀ q ps, I q → I (Rod.armStep q ps).flush) (h : I (f s.rod ((s.rod r).view s.rod)).flush)
    (hP : ∀ q, I q → P q) : completes i s fun t => P (t.rod r) :=
  ⟨_, he, hP _ (State.armAll_rod I r hI _ (by rwa [State.rod_putRod]))⟩

end Sys2Proof.Machine
end

section
/-! The waits of ARMING (R97, R99), and the contact of the own contactor (R93). -/

namespace Sys2Proof.Machine

/-! ### Waits -/

/-- The registers that the end of a wait may write, the enables that rise included. -/
def riseRegs : List Nat :=
  [Rg.ARM_STAT, Rg.DRV_CAUSE 0, Rg.DRV_CAUSE 1, Rg.DRV_CAUSE 2, Rg.DRV_CNT 0, Rg.DRV_CNT 1, Rg.DRV_CNT 2,
    Rg.IRQ_RAW 0x090, Rg.IRQ_RAW 0x091, Rg.IRQ_RAW 0x092, Rg.IRQ_RAW 0x060]

theorem Rod.keepsRegs_updEn {ρ q : Rod} (h : ρ.keepsRegs q riseRegs) : ρ.keepsRegs q.updEn riseRegs :=
  (driveClosed_keepsRegs ρ riseRegs (by decide) (by decide)).updEn h

theorem Rod.keepsRegs_endWait {ρ q : Rod} (n : Axis) (h : ρ.keepsRegs q riseRegs) : ρ.keepsRegs (q.endWait n) riseRegs := by
  have hclr := Rod.keepsRegs_p _ _ _ Fl.ARM_STAT_WAIT_AXES (q.g Fl.ARM_STAT_WAIT_AXES - (q.g Fl.ARM_STAT_WAIT_AXES &&& 2 ^ n.val)) (.head _) h
  refine Rod.keepsRegs_updEn ?_
  unfold Rod.endStep5
  split
  · exact Rod.keepsRegs_p _ _ _ Fl.ARM_STAT_STEP _ (.head _) hclr
  · exact hclr

theorem Rod.waits_congr (ρ q : Rod) (h : q.gw Rg.ARM_STAT = ρ.gw Rg.ARM_STAT) (m : Axis) : q.waits m = ρ.waits m :=
  Rod.bitOf_congr ρ q Fl.ARM_STAT_WAIT_AXES h m.val

theorem Rod.waits_endStep5 (ρ : Rod) (m : Axis) : ρ.endStep5.waits m = ρ.waits m := by
  unfold Rod.endStep5
  split
  · unfold Rod.waits Rod.bitOf
    rw [Rod.g_p_ne _ _ _ _ (by decide) (by decide)]
  · rfl

/-- Clearing a bit of a number of three bits clears that bit alone. -/
theorem clearBit_testBit : ∀ x : Fin 8, ∀ i j : Fin 3, (x.val - (x.val &&& 2 ^ i.val)).testBit j.val = (!decide (j = i) && x.val.testBit j.val) := by
  decide

theorem Rod.waits_clrBit (ρ : Rod) (n m : Axis) : (ρ.clrBit Fl.ARM_STAT_WAIT_AXES n.val).waits m = (!decide (m = n) && ρ.waits m) := by
  have hlt : ρ.g Fl.ARM_STAT_WAIT_AXES < 8 := wBits_lt _ _ 3
  unfold Rod.waits Rod.bitOf Rod.clrBit
  rw [Rod.g_p _ _ _ (by decide)]
  exact (congrArg (Nat.testBit · m.val) (Nat.mod_eq_of_lt (Nat.lt_of_le_of_lt (Nat.sub_le _ _) hlt))).trans
    (clearBit_testBit ⟨_, hlt⟩ n m)

/-- The registers that show the mode and the state, and ARM_STAT. -/
def modeRegs (a : Nat) : Bool := a == Rg.SYS_MODE || a == Rg.ROD_STATE

theorem Rod.carries_endWait {ρ q : Rod} (n : Axis) (h : ρ.carries id modeRegs q) : ρ.carries id modeRegs (q.endWait n) :=
  Rod.carries_updEn (by decide) (Rod.carries_endStep5 (by decide) (Rod.carries_p Fl.ARM_STAT_WAIT_AXES _ (by decide) h))

/-- The wait of an axis ends, and no other (R97). -/
theorem Rod.waits_endWait (ρ : Rod) (n m : Axis) : (ρ.endWait n).waits m = (!decide (m = n) && ρ.waits m) := by
  have h := Rod.carries_updEn (V := id) (K := (· == Rg.ARM_STAT)) (by decide)
    (Rod.carries_refl _ _ (ρ.clrBit Fl.ARM_STAT_WAIT_AXES n.val).endStep5)
  calc (ρ.endWait n).waits m = (ρ.clrBit Fl.ARM_STAT_WAIT_AXES n.val).endStep5.waits m := Rod.waits_congr _ _ (h.gw _ (by decide) (by decide)) m
    _ = (ρ.clrBit Fl.ARM_STAT_WAIT_AXES n.val).waits m := Rod.waits_endStep5 _ m
    _ = _ := Rod.waits_clrBit ρ n m

/-- STANDSTILL_REACHED of an axis that has waited long enough. -/
theorem Rod.standstill_due (ρ : Rod) (n : Axis) (hw : ρ.waits n = true) (hd : ρ.divisor n ≤ ρ.md.still.get n) :
    let τ := (ρ.standstill n).flush
    τ.waits n = false ∧ (∀ m, m ≠ n → τ.waits m = ρ.waits m) ∧ τ.mode = ρ.mode ∧ τ.state = ρ.state ∧ ρ.keepsRegs τ riseRegs := by
  have he : ρ.standstill n = ρ.endWait n := by
    unfold Rod.standstill
    rw [if_pos (by simp [hw, hd])]
  have hwaits (m : Axis) : (ρ.endWait n).flush.waits m = (!decide (m = n) && ρ.waits m) :=
    (Rod.waits_congr _ _ (Rod.flush_gw _ _ (by decide)) m).trans (Rod.waits_endWait ρ n m)
  have hc := Rod.carries_flush (K := modeRegs) (by decide) (Rod.carries_endWait n (Rod.carries_refl _ _ ρ))
  dsimp only
  rw [he]
  exact ⟨by simp [hwaits], fun m hm => by simp [hwaits, hm], hc.mode (by decide), hc.state (by decide),
    Rod.keepsRegs_flush _ _ _ (Rod.keepsRegs_endWait n (Rod.keepsRegs_refl _ _))⟩

theorem Rod.standstill_early (ρ : Rod) (n : Axis) (h : ρ.waits n = false ∨ ρ.md.still.get n < ρ.divisor n) : ρ.standstill n = ρ := by
  unfold Rod.standstill
  rw [if_neg]
  rw [Bool.and_eq_true, decide_eq_true_iff]
  rintro ⟨hw, hd⟩
  rcases h with h | h
  · rw [h] at hw
    cases hw
  · omega

/-! ### ARM_RELEASE -/

/-- What ARM_RELEASE does for one axis (R97, R99). -/
def Rod.releaseAxis (data : Word) (n : Axis) (ρ : Rod) : Rod :=
  if wBit data n.val && ρ.waits n then (ρ.modMd fun d => { d with released := d.released.set n true }).endWait n else ρ

theorem Rod.writeArmRelease_eq (ρ : Rod) (data : Word) : ρ.writeArmRelease data = ρ.each allAxes (Rod.releaseAxis data) := rfl

/-- Whether an axis waits, and whether its release has been written. -/
def Rod.waitOf (n : Axis) (ρ : Rod) : Bool × Bool := (ρ.waits n, ρ.md.released.get n)

theorem Rod.endWait_md (ρ : Rod) (n : Axis) : (ρ.endWait n).md = ρ.md :=
  (Rod.carries_endWait n (Rod.carries_refl id modeRegs ρ)).md

theorem Rod.waitOf_releaseAxis (data : Word) (n m : Axis) (ρ : Rod) :
    (ρ.releaseAxis data n).waitOf m = if m = n ∧ wBit data n.val = true ∧ ρ.waits n = true then (false, true) else ρ.waitOf m := by
  unfold Rod.releaseAxis Rod.waitOf
  by_cases hd : wBit data n.val = true ∧ ρ.waits n = true
  · rw [if_pos (by simp [hd]), Rod.waits_endWait, Rod.endWait_md]
    show (_, (ρ.md.released.set n true).get m) = _
    rw [Tri.get_set]
    by_cases hm : m = n
    · simp [hm, hd]
    · simp [hm]
      rfl
  · rw [if_neg (by simpa using hd), if_neg (by tauto)]

theorem allAxes_nodup : allAxes.Nodup := by decide

/-- What a write of ARM_RELEASE leaves of each axis. -/
theorem Rod.waitOf_writeArmRelease (ρ : Rod) (data : Word) (n : Axis) :
    (ρ.writeArmRelease data).waitOf n = if wBit data n.val = true ∧ ρ.waits n = true then (false, true) else ρ.waitOf n := by
  rw [Rod.writeArmRelease_eq]
  obtain ⟨q, -, hq, he⟩ := Rod.each_visits (fun _ => True) (Rod.waitOf n) (Rod.releaseAxis data) n allAxes allAxes_nodup (mem_allAxes n)
    (fun _ _ _ => trivial) (fun m _ hm q => by rw [Rod.waitOf_releaseAxis, if_neg (fun k => hm k.1.symm)]) ρ trivial
  have hw : q.waits n = ρ.waits n := congrArg Prod.fst hq
  rw [he, Rod.waitOf_releaseAxis, hq, hw]
  simp

theorem Rod.carries_writeArmRelease (ρ : Rod) (data : Word) :
    ρ.carries (fun m => { m with released := Tri.rep false }) modeRegs (ρ.writeArmRelease data) := by
  refine Rod.carries_each _ _ (fun n q hq => ?_) (Rod.carries_refl _ _ _)
  show Rod.carries _ _ _ (q.releaseAxis data n)
  unfold Rod.releaseAxis
  split
  · exact Rod.carries_updEn (by decide) (Rod.carries_endStep5 (by decide) (Rod.carries_p Fl.ARM_STAT_WAIT_AXES _ (by decide)
      (Rod.carries_modMd _ (fun _ => rfl) hq)))
  · exact hq

theorem Rod.keepsRegs_writeArmRelease (ρ : Rod) (data : Word) : ρ.keepsRegs (ρ.writeArmRelease data) riseRegs := by
  refine Rod.each_invariant (ρ.keepsRegs · riseRegs) _ (fun n q hq => ?_) _ _ (Rod.keepsRegs_refl _ _)
  split
  · exact Rod.keepsRegs_endWait n (Rod.keepsRegs_regs _ q _ _ rfl hq)
  · exact hq

theorem Rod.writeReg_ARM_RELEASE (ρ : Rod) (ps : RodId → Rod) (path : Nat) (data : Word) :
    ρ.writeReg ps path Rg.ARM_RELEASE data = ρ.writeArmRelease data := by
  unfold Rod.writeReg
  simp [Rg.ARM_RELEASE]

/-- ARM_RELEASE ends the waits of its axes and of no other (R97, R99). -/
theorem completes_armRelease (s : State) (r : RodId) (path : Path) (data : Word) (h : (s.rod r).accepts path Rg.ARM_RELEASE) :
    completes (.armRelease r path data) s fun t =>
      (∀ n : Axis, (wBit data n.val = true → (t.rod r).waits n = false ∧ ((s.rod r).waits n = true → (t.rod r).md.released.get n = true)) ∧
        (wBit data n.val = false → (t.rod r).waits n = (s.rod r).waits n ∧ (t.rod r).md.released.get n = (s.rod r).md.released.get n)) ∧
      (t.rod r).mode = (s.rod r).mode ∧ (t.rod r).state = (s.rod r).state ∧ (s.rod r).keepsRegs (t.rod r) riseRegs := by
  obtain ⟨t, ht, e⟩ := exec_registerWrite_accepts s r path Rg.ARM_RELEASE data h (by decide) (by decide)
  rw [Rod.writeReg_ARM_RELEASE] at e
  refine ⟨t, ht, ?_⟩
  dsimp only
  rw [e]
  generalize s.rod r = σ
  have hc := Rod.carries_flush (by decide) (Rod.carries_writeArmRelease σ data)
  have hof (n : Axis) : ((σ.writeArmRelease data).flush.waits n, (σ.writeArmRelease data).flush.md.released.get n) =
      if wBit data n.val = true ∧ σ.waits n = true then (false, true) else (σ.waits n, σ.md.released.get n) := by
    rw [Rod.waits_congr _ _ (Rod.flush_gw _ _ (by decide)), Rod.flush_md]
    exact Rod.waitOf_writeArmRelease σ data n
  refine ⟨fun n => ?_, hc.mode (by decide), hc.state (by decide), Rod.keepsRegs_flush _ _ _ (Rod.keepsRegs_writeArmRelease σ data)⟩
  have hn := hof n
  split at hn
  · next hd =>
    obtain ⟨hw, hr⟩ := Prod.mk.inj hn
    exact ⟨fun _ => ⟨hw, fun _ => hr⟩, fun k => absurd (hd.1.symm.trans k) (by decide)⟩
  · next hd =>
    obtain ⟨hw, hr⟩ := Prod.mk.inj hn
    have hidle (k : wBit data n.val = true) : σ.waits n = false := Bool.eq_false_iff.2 fun hk => hd ⟨k, hk⟩
    exact ⟨fun k => ⟨hw.trans (hidle k), fun hk => absurd ((hidle k).symm.trans hk) (by decide)⟩, fun _ => ⟨hw, hr⟩⟩

end Sys2Proof.Machine
end

section
/-! The contact of the own contactor: what AUX_CONTACT shows of it, and what its absence does in step 2 of ARMING (R93). -/

namespace Sys2Proof.Machine

/-! ### AUX_CONTACT -/

/-- The two registers show the contact, and its change is an event (R93, R564). -/
def Rod.auxShown (closed : Bool) (ρ : Rod) : Prop :=
  ρ.b Fl.K_STAT_AUX = closed ∧ ρ.b Fl.FENCE_STAT_KAUX = closed ∧ ρ.raised 0x0C1 3

/-- Fields apart from those that show the contact. -/
theorem Rod.auxShown_p (closed : Bool) (ρ : Rod) (f : Fld) (v : Nat) (h : ρ.auxShown closed) (hw : f.lo + f.w ≤ 32 := by decide)
    (ha : Fl.K_STAT_AUX.addr ≠ f.addr ∨ Fl.K_STAT_AUX.lo + Fl.K_STAT_AUX.w ≤ f.lo ∨ f.lo + f.w ≤ Fl.K_STAT_AUX.lo := by decide)
    (hf : Fl.FENCE_STAT_KAUX.addr ≠ f.addr := by decide) (hi : Rg.IRQ_RAW 0x0C1 ≠ f.addr := by decide) : (ρ.p f v).auxShown closed := by
  obtain ⟨haux, hfence, hev⟩ := h
  exact ⟨by rw [Rod.b_p_ne _ _ _ _ hw ha, haux], by rw [Rod.b_p_ne _ _ _ _ hw (.inl hf), hfence],
    Rod.raised_congr _ _ _ _ (Rod.gw_p_ne _ _ _ _ hi) hev⟩

theorem Rod.auxShown_modSf (closed : Bool) (ρ : Rod) (f : SafS → SafS) (h : ρ.auxShown closed) : (ρ.modSf f).auxShown closed := h

/-- A change of the contact is shown. -/
theorem Rod.auxShown_auxChange (closed : Bool) (ρ : Rod) (h : ρ.b Fl.K_STAT_AUX ≠ closed) : (ρ.auxChange closed).auxShown closed := by
  have h1 : (((ρ.p Fl.K_STAT_AUX (b2n closed)).p Fl.FENCE_STAT_KAUX (b2n closed)).irq 0x0C1 3).auxShown closed := by
    refine ⟨?_, ?_, Rod.irq_sets _ _ _ (by decide)⟩
    · rw [Rod.b_irq_ne _ _ _ _ (by decide), Rod.b_p_ne _ _ _ _ (by decide) (by decide), Rod.b_p _ _ _ (by decide) rfl]
    · rw [Rod.b_irq_ne _ _ _ _ (by decide), Rod.b_p _ _ _ (by decide) rfl]
  unfold Rod.auxChange
  rw [if_neg h]
  dsimp only
  split
  · split
    · exact Rod.auxShown_modSf _ _ _ h1
    · exact h1
  · split
    · exact h1
    · have h2 := Rod.auxShown_p closed _ Fl.K_STAT_WELDED 0 h1
      split
      · exact h2
      · next t _ =>
        have h3 := Rod.auxShown_modSf closed _ (fun f => { f with offFt := none }) (Rod.auxShown_p closed _ Fl.K_OPEN_T_T (satN 0xFFFF
          ((((((ρ.p Fl.K_STAT_AUX (b2n closed)).p Fl.FENCE_STAT_KAUX (b2n closed)).irq 0x0C1 3).p Fl.K_STAT_WELDED 0).ft - t) / 100000)) h2)
        split
        · exact Rod.auxShown_p closed _ Fl.K_STAT_TEST_DUE 0 (Rod.auxShown_p closed _ Fl.K_CNT_HOURS 0 (Rod.auxShown_p closed _ Fl.K_CNT_OPENINGS _ h3))
        · exact h3

theorem Rod.coil_regs (ρ : Rod) (on : Bool) (h : ρ.md.khs ≠ on) : (ρ.coil on).regs = (ρ.p Fl.K_STAT_COIL (b2n on)).regs := by
  unfold Rod.coil
  rw [if_neg h]
  dsimp only [Rod.modSf]

theorem Rod.aux_coil (ρ : Rod) (on : Bool) : (ρ.coil on).b Fl.K_STAT_AUX = ρ.b Fl.K_STAT_AUX := by
  by_cases h : ρ.md.khs = on
  · rw [Rod.coil, if_pos h]
  · rw [Rod.b_congr _ _ _ (Rod.gw_congr _ _ (Rod.coil_regs ρ on h) _), Rod.b_p_ne _ _ _ _ (by decide) (by decide)]

/-- A step of the sequence may command the coil; the contact itself shows what it did. -/
theorem Rod.aux_armStep (ρ : Rod) (ps : RodId → Rod) : (ρ.armStep ps).b Fl.K_STAT_AUX = ρ.b Fl.K_STAT_AUX := by
  rcases Rod.armStep_coil_or_carries (· == Rg.K_STAT) (fun _ _ h => beq_eq_false_iff_ne.2 h) ρ ps with ⟨on, e⟩ | k
  · rw [e]
    exact Rod.aux_coil ρ on
  · exact k.b _ (by decide) (by decide)

/-- The registers that show a change of the contact beside K_STAT. -/
def auxRegs (a : Nat) : Bool := a == Rg.FENCE_STAT || a == Rg.IRQ_RAW 0x0C1

theorem Rod.aux_step (closed : Bool) (c : Prop) (ρ : Rod) (ps : RodId → Rod)
    (h : ρ.b Fl.K_STAT_AUX = closed ∧ (c → ρ.b Fl.FENCE_STAT_KAUX = closed ∧ ρ.raised 0x0C1 3)) :
    (ρ.armStep ps).flush.b Fl.K_STAT_AUX = closed ∧
      (c → (ρ.armStep ps).flush.b Fl.FENCE_STAT_KAUX = closed ∧ (ρ.armStep ps).flush.raised 0x0C1 3) := by
  have k := Rod.carries_flush (K := auxRegs) (by decide) (Rod.carries_armStep auxRegs (by decide) ρ ρ ps (Rod.carries_refl _ _ _))
  refine ⟨by rw [Rod.flush_b _ _ (by decide), Rod.aux_armStep, h.1], fun hc => ?_⟩
  obtain ⟨hf, hr⟩ := h.2 hc
  exact ⟨(k.b _ (by decide) (by decide)).trans hf, k.raised _ _ (by decide) hr⟩

/-- AUX_CONTACT shows the contact. -/
theorem completes_auxContact (s : State) (r : RodId) (closed : Bool) :
    completes (.auxContact r closed) s fun t => (t.rod r).b Fl.K_STAT_AUX = closed ∧
      (((s.rod r).view s.rod).b Fl.K_STAT_AUX ≠ closed → (t.rod r).b Fl.FENCE_STAT_KAUX = closed ∧ (t.rod r).raised 0x0C1 3) := by
  refine completes_onRodA (f := fun _ ρ => ρ.auxChange closed) (P := fun q => q.b Fl.K_STAT_AUX = closed ∧ (_ → q.b Fl.FENCE_STAT_KAUX = closed ∧ q.raised 0x0C1 3)) _ rfl
    (Rod.aux_step closed _) ?_ (fun _ h => h)
  generalize (s.rod r).view s.rod = ρ
  rw [Rod.flush_b _ _ (by decide), Rod.flush_b _ _ (by decide)]
  by_cases h : ρ.b Fl.K_STAT_AUX = closed
  · exact ⟨by rw [Rod.auxChange, if_pos h, h], fun hn => absurd h hn⟩
  · obtain ⟨haux, hfence, hev⟩ := Rod.auxShown_auxChange closed ρ h
    exact ⟨haux, fun _ => ⟨hfence, Rod.raised_flush _ _ _ hev⟩⟩

/-! ### What a FENCED rod keeps -/

/-- Any register but K_STAT and the log's. -/
def fencedRegs (a : Nat) : Bool := a != Rg.K_STAT && a != Rg.FL_SEQ

/-- The mode state but for the command of the coil. -/
def ModeS.noCoil (m : ModeS) : ModeS := { m with khs := false, khsFt := 0 }

/-- A FENCED rod of which all but the coil and the log is as it was. -/
def Rod.fencedFrom (ρ q : Rod) : Prop := q.state = RS.fenced ∧ q.recBuf = [] ∧ ρ.carries ModeS.noCoil fencedRegs q

theorem Rod.fencedFrom_flush (ρ : Rod) (h : ρ.state = RS.fenced) : ρ.fencedFrom ρ.flush :=
  ⟨(Rod.flush_state ρ).trans h, Rod.flush_recBuf ρ, Rod.carries_flush (by decide) (Rod.carries_refl _ _ _)⟩

/-- The sequence leaves a FENCED rod as it is, but for the coil. -/
theorem Rod.fencedFrom_step (ρ q : Rod) (ps : RodId → Rod) (h : ρ.fencedFrom q) : ρ.fencedFrom (q.armStep ps).flush := by
  obtain ⟨hs, -, hc⟩ := h
  have k : q.carries ModeS.noCoil fencedRegs (q.armStep ps) := by
    rcases Rod.armStep_fenced q ps hs with e | e <;> rw [e]
    · exact Rod.carries_refl _ _ _
    · exact Rod.carries_coil _ (by decide) (fun _ _ _ => rfl) (Rod.carries_refl _ _ _)
  exact ⟨by rw [Rod.flush_state, k.state (by decide), hs], Rod.flush_recBuf _, Rod.carries_flush (by decide) (Rod.carries_trans hc k)⟩

/-- What a command leaves of a rod that it fences: the sequence changes nothing of it but the coil and the log. -/
theorem completes_fenced {i : Instr} {s : State} {r : RodId} {f : (RodId → Rod) → Rod → Rod} {P : Rod → Prop}
    (he : exec i s = onRodA s r f) (hs : (f s.rod ((s.rod r).view s.rod)).state = RS.fenced)
    (hP : ∀ q, (f s.rod ((s.rod r).view s.rod)).fencedFrom q → P q) : completes i s fun t => P (t.rod r) :=
  completes_onRodA (Rod.fencedFrom _) he (Rod.fencedFrom_step _) (Rod.fencedFrom_flush _ hs) hP

theorem Rod.fencedFrom.recorded {ρ q : Rod} (h : ρ.fencedFrom q) {c sv pg : Nat} (hn : ρ.noted c sv pg) : q.recorded c sv pg :=
  Rod.noted.recorded (h.2.2.noted hn) h.2.1

/-! ### KAUX_TIMEOUT -/

theorem Rod.active_of_arming (ρ : Rod) (h : ρ.arming = true) : ρ.state = RS.active := by
  unfold Rod.arming at h
  simp only [Bool.and_eq_true, beq_iff_eq] at h
  exact h.1.2

/-- The contact that does not come within KAUX_TMO fails ARMING (R93, R95). -/
theorem completes_kauxTimeout (s : State) (r : RodId) (hk : ((s.rod r).view s.rod).md.khs = true)
    (hc : ((s.rod r).view s.rod).contactorIn = false) (ha : ((s.rod r).view s.rod).arming = true)
    (h2 : ((s.rod r).view s.rod).g Fl.ARM_STAT_STEP = 2)
    (hp : ((s.rod r).view s.rod).passed ((s.rod r).view s.rod).md.khsFt (1000000 * ((s.rod r).view s.rod).g Fl.ARM_CFG_KAUX_TMO) = true) :
    completes (.kauxTimeout r) s fun t =>
      (t.rod r).b Fl.ARM_STAT_FAIL = true ∧ (t.rod r).b Fl.ARM_STAT_RUN = false ∧ (t.rod r).g Fl.ARM_STAT_FCODE = 0x0120 ∧
      (t.rod r).state = RS.fenced ∧ (t.rod r).md.dis = true ∧ (t.rod r).recorded 0x0120 sevWithdraw 0x001 := by
  generalize hρ : (s.rod r).view s.rod = ρ at hk hc ha h2 hp
  have he : ρ.kauxTimeout = ρ.armFail 0x0120 0xFF [(0, 1, if ρ.b Fl.K_STAT_AUX then 3 else 2)] := by
    unfold Rod.kauxTimeout
    rw [Nat.mul_comm] at hp
    simp [hk, hc, ha, h2, hp]
  obtain ⟨hf, hr, hcode, hs, hd, hn⟩ := Rod.armFail_leaves ρ 0x0120 0xFF [(0, 1, if ρ.b Fl.K_STAT_AUX then 3 else 2)]
    (Rod.active_of_arming ρ ha) (by decide)
  rw [← he] at hf hr hcode hs hd hn
  refine completes_fenced (f := fun _ ρ => ρ.kauxTimeout) (P := fun q => q.b Fl.ARM_STAT_FAIL = true ∧ q.b Fl.ARM_STAT_RUN = false ∧
    q.g Fl.ARM_STAT_FCODE = 0x0120 ∧ q.state = RS.fenced ∧ q.md.dis = true ∧ q.recorded 0x0120 sevWithdraw 0x001) rfl (by rw [hρ]; exact hs)
    fun q k => ?_
  rw [hρ] at k
  have hc := k.2.2
  exact ⟨(hc.b _ (by decide) (by decide)).trans hf, (hc.b _ (by decide) (by decide)).trans hr, (hc.g _ (by decide) (by decide)).trans hcode,
    k.1, (congrArg ModeS.dis hc.md).trans hd, k.recorded hn⟩

end Sys2Proof.Machine
end

section
/-! The off-state diagnostics of the sets: the steps of Table 13.4 and their result (R455, R456). -/

namespace Sys2Proof.Machine

/-! ### What the sequence leaves of a rod that has begun its checks -/

/-- What a step of the sequence does in an ACTIVE or FENCED rod. -/
theorem Rod.armStep_engaged (q : Rod) (ps : RodId → Rod) (h : q.engaged) :
    q.armStep ps = q ∨ (q.state = RS.active ∧ q.armStep ps = q.armFail 0x0120 0xFF [(0, 1, 1)]) ∨ (∃ on, q.armStep ps = q.coil on) ∨
      (q.state = RS.active ∧ q.g Fl.ARM_STAT_STEP = 2 ∧
        (q.armStep ps = q.osdBegin ∨ q.armStep ps = (q.osdBegin.p Fl.ARM_STAT_STEP 3).charges)) ∨ q.armStep ps = q.endStep5 := by
  cases ha : q.arming with
  | true =>
    have hs := Rod.active_of_arming q ha
    rcases Rod.armStep_arming q ps ha with e | e | e | ⟨h2, e⟩ | e
    · exact .inl e
    · exact .inr (.inl ⟨hs, e⟩)
    · exact .inr (.inr (.inl ⟨true, e⟩))
    · exact .inr (.inr (.inr (.inl ⟨hs, h2, e⟩)))
    · exact .inr (.inr (.inr (.inr e)))
  | false =>
    rcases Rod.armStep_other q ps ha with e | ⟨hr, -⟩ | ⟨-, -, e⟩
    · exact .inl e
    · exact absurd hr (not_rejoin_of_engaged q h)
    · exact .inr (.inr (.inl ⟨false, e⟩))

theorem engaged_of_state (ρ q : Rod) (h : ρ.engaged) (hs : q.state = ρ.state) : q.engaged := by
  unfold Rod.engaged
  rw [hs]
  exact h

/-- An ACTIVE rod stays ACTIVE or is FENCED by a failed check; a FENCED one stays FENCED. -/
theorem Rod.engaged_armStep (q : Rod) (ps : RodId → Rod) (h : q.engaged) : (q.armStep ps).engaged := by
  have same (q' : Rod) (k : q.carries (fun _ => ()) (· == Rg.ROD_STATE) q') : q'.engaged := engaged_of_state _ _ h (k.state (by decide))
  have hbegin : q.carries (fun _ => ()) (· == Rg.ROD_STATE) q.osdBegin := Rod.carries_osdBegin (by decide) (fun _ => rfl) (Rod.carries_refl _ _ _)
  rcases Rod.armStep_engaged q ps h with e | ⟨hs, e⟩ | ⟨on, e⟩ | ⟨-, -, e | e⟩ | e <;> rw [e]
  · exact h
  · obtain ⟨-, -, -, hf, -⟩ := Rod.armFail_leaves q 0x0120 0xFF [(0, 1, 1)] hs (by decide)
    exact .inr hf
  · exact same _ (Rod.carries_coil on (by decide) (fun _ _ _ => rfl) (Rod.carries_refl _ _ _))
  · exact same _ hbegin
  · exact same _ (Rod.carries_charges (by decide) (fun _ => rfl) (Rod.carries_p Fl.ARM_STAT_STEP 3 (by decide) hbegin))
  · exact same _ (Rod.carries_endStep5 (by decide) (Rod.carries_refl _ _ _))

/-- The place in the diagnostics. -/
def ModeS.osdPlace (m : ModeS) : Nat × Nat × Bool × Bool := (m.osdSet, m.osdStep, m.osdFailC, m.osdDone)

/-- The registers of the diagnostics. -/
def osdRegs (a : Nat) : Bool := a == Rg.DRV_OSD 0 || a == Rg.DRV_OSD 1 || a == Rg.DRV_OSD 2

theorem osdRegs_osd (n : Axis) : osdRegs (Rg.DRV_OSD n.val) = true := by revert n; decide

/-- The diagnostics are where `ρ` had them, with what it had detected recorded. -/
def Rod.osdKept (ρ q : Rod) : Prop := q.engaged ∧ q.recBuf = [] ∧ ρ.carries ModeS.osdPlace osdRegs q

/-- Diagnostics that run or are done go on where they are. -/
theorem Rod.osdBegin_begun (ρ : Rod) (h : ρ.md.osdSet ≠ 3 ∨ ρ.md.osdDone = true) : ρ.osdBegin = ρ := by
  unfold Rod.osdBegin
  rw [if_neg]
  rintro hk
  simp only [Bool.and_eq_true, decide_eq_true_iff, Bool.not_eq_true'] at hk
  rcases h with h | h
  · exact h hk.1
  · rw [h] at hk
    exact absurd hk.2 (by decide)

theorem Rod.osdKept_step (ρ : Rod) (hρ : ρ.md.osdSet ≠ 3 ∨ ρ.md.osdDone = true) (q : Rod) (ps : RodId → Rod) (h : ρ.osdKept q) :
    ρ.osdKept (q.armStep ps).flush := by
  obtain ⟨he, -, hc⟩ := h
  have hq : q.osdBegin = q := by
    refine Rod.osdBegin_begun q ?_
    rw [show q.md.osdSet = ρ.md.osdSet from congrArg (·.1) hc.md, show q.md.osdDone = ρ.md.osdDone from congrArg (·.2.2.2) hc.md]
    exact hρ
  have k : ρ.carries ModeS.osdPlace osdRegs (q.armStep ps) := by
    rcases Rod.armStep_engaged q ps he with e | ⟨-, e⟩ | ⟨on, e⟩ | ⟨-, -, e | e⟩ | e <;> rw [e]
    · exact hc
    · exact Rod.carries_armFail _ _ _ (by decide) (by decide) (by decide) (fun _ _ _ _ => rfl) hc
    · exact Rod.carries_coil on (by decide) (fun _ _ _ => rfl) hc
    · rwa [hq]
    · rw [hq]
      exact Rod.carries_charges (by decide) (fun _ => rfl) (Rod.carries_p Fl.ARM_STAT_STEP 3 (by decide) hc)
    · exact Rod.carries_endStep5 (by decide) hc
  exact ⟨engaged_of_state _ _ (Rod.engaged_armStep q ps he) (Rod.flush_state _), Rod.flush_recBuf _, Rod.carries_flush (by decide) k⟩

/-! ### Results of the phases -/

theorem osdF_bits (n : Axis) (p : Phase) : (osdF n p).lo + (osdF n p).w = 4 * p.val + 3 := rfl

theorem osdF_bits_le (n : Axis) (p : Phase) : (osdF n p).lo + (osdF n p).w ≤ 11 := by
  have := p.isLt
  rw [osdF_bits]
  omega

theorem osdF_apart (n : Axis) (p p' : Phase) (h : p' ≠ p) :
    (osdF n p').lo + (osdF n p').w ≤ (osdF n p).lo ∨ (osdF n p).lo + (osdF n p).w ≤ (osdF n p').lo := by
  have := Fin.val_ne_of_ne h
  rw [osdF_bits, osdF_bits]
  show 4 * p'.val + 3 ≤ 4 * p.val ∨ 4 * p.val + 3 ≤ 4 * p'.val
  omega

theorem Rod.osd_p (ρ : Rod) (n : Axis) (p p' : Phase) (v : Nat) :
    (ρ.p (osdF n p) v).g (osdF n p') = if p' = p then v % 8 else ρ.g (osdF n p') := by
  have hw : (osdF n p).lo + (osdF n p).w ≤ 32 := Nat.le_trans (osdF_bits_le n p) (by decide)
  split
  · next h =>
    rw [h, Rod.g_p _ _ _ hw]
    rfl
  · next h => exact Rod.g_p_ne _ _ _ _ hw (.inr (osdF_apart n p p' h))

/-- A loop that takes each phase's result to another of the same phase. -/
theorem Rod.osd_each (n : Axis) (F : Phase → Nat → Nat) (f : Phase → Rod → Rod)
    (hf : ∀ p q p', (f p q).g (osdF n p') = if p' = p then F p (q.g (osdF n p)) else q.g (osdF n p')) (ρ : Rod) (p : Phase) :
    (ρ.each allPhases f).g (osdF n p) = F p (ρ.g (osdF n p)) := by
  obtain ⟨q, -, hq, he⟩ := Rod.each_visits (fun _ => True) (fun q => q.g (osdF n p)) f p allPhases (by decide) (mem_allPhases p)
    (fun _ _ _ => trivial) (fun p' _ h q => by rw [hf, if_neg (Ne.symm h)]) ρ trivial
  rw [he, hf, if_pos rfl, hq]

/-- Flags of a set stand apart from its results. -/
theorem Rod.osd_flag (ρ : Rod) (n : Axis) (p : Phase) (f : Fld) (v : Nat) (hl : 29 ≤ f.lo) (hw : f.lo + f.w ≤ 32) :
    (ρ.p f v).g (osdF n p) = ρ.g (osdF n p) := by
  refine Rod.g_p_ne _ _ _ _ hw (.inr (.inl ?_))
  have := osdF_bits_le n p
  omega

/-! ### The steps -/

/-- The next step of the set. -/
def Rod.osdOn (ρ : Rod) : Rod := { ρ with md := { ρ.md with osdStep := ρ.md.osdStep + 1 } }

theorem axisOf_axis (n : Axis) : axisOf n.val = n := by revert n; decide

/-- The results of step 1: phases above a quarter of the supply (Table 13.4). -/
def Rod.osdLow (ρ : Rod) (n : Axis) (vm : Nat) (v : Phase → Nat) : Rod :=
  ρ.each allPhases fun p q => if 4 * v p ≤ vm then q else q.p (osdF n p) 2

/-- The results of step 2: phases below three quarters of it. -/
def Rod.osdHigh (ρ : Rod) (n : Axis) (vm : Nat) (v : Phase → Nat) : Rod :=
  ρ.each allPhases fun p q => if 3 * vm ≤ 4 * v p then q else if q.g (osdF n p) = 0 then q.p (osdF n p) 3 else q

/-- The phase that the currents of steps 3 and 4 find open. -/
def Rod.osdOpen (ρ : Rod) (n : Axis) (vm : Nat) (v : Phase → Nat) : Rod :=
  let failD := decide (vm < 4 * v 1)
  if ρ.md.osdFailC && failD then ρ.p (osdF n 1) 4
  else if ρ.md.osdFailC then ρ.p (osdF n 0) 4
  else if failD then ρ.p (osdF n 2) 4 else ρ

/-- The deferred set: its flag, and record 0x0B23. -/
def Rod.osdDefer (ρ : Rod) (n : Axis) (ll : Nat) : Rod :=
  (ρ.p (Fl.DRV_OSD_DEFERRED n.val) 1).fltA 0x0B23 sevWarn (drivePage n) n [(4, 4, ρ.vmMv ll)]

section
variable (ρ : Rod) (n : Axis) (nodes : Tri (BitVec 16)) (vm : Nat) (hn : ρ.md.osdSet = n.val)
include hn

theorem Rod.osdStepEnd_look (h0 : ρ.md.osdStep = 0) :
    ρ.osdStepEnd nodes vm =
      let v (p : Phase) : Nat := (nodes.get p).toNat
      let diff (a b : Nat) : Nat := max a b - min a b
      let ll := max (diff (v 0) (v 1)) (max (diff (v 1) (v 2)) (diff (v 2) (v 0)))
      if 10 * ll ≤ vm then ρ.osdOn else (ρ.osdDefer n ll).osdNext n := by
  have := n.isLt
  unfold Rod.osdStepEnd
  rw [if_neg (by omega), h0, hn, axisOf_axis]
  rfl

theorem Rod.osdStepEnd_low (h1 : ρ.md.osdStep = 1) : ρ.osdStepEnd nodes vm = (ρ.osdLow n vm fun p => (nodes.get p).toNat).osdOn := by
  have := n.isLt
  unfold Rod.osdStepEnd
  rw [if_neg (by omega), h1, hn, axisOf_axis]
  rfl

theorem Rod.osdStepEnd_high (h2 : ρ.md.osdStep = 2) :
    ρ.osdStepEnd nodes vm =
      let ρ1 := ρ.osdHigh n vm fun p => (nodes.get p).toNat
      if allPhases.any fun p => ρ1.g (osdF n p) != 0 then ρ1.osdJudge n vm else ρ1.osdOn := by
  have := n.isLt
  unfold Rod.osdStepEnd
  rw [if_neg (by omega), h2, hn, axisOf_axis]
  rfl

theorem Rod.osdStepEnd_first (h3 : ρ.md.osdStep = 3) :
    ρ.osdStepEnd nodes vm = (ρ.modMd fun m => { m with osdFailC := decide (vm < 4 * (nodes.get 0).toNat) }).osdOn := by
  have := n.isLt
  unfold Rod.osdStepEnd
  rw [if_neg (by omega), h3]
  rfl

theorem Rod.osdStepEnd_second (h4 : ρ.md.osdStep = 4) :
    ρ.osdStepEnd nodes vm = (ρ.osdOpen n vm fun p => (nodes.get p).toNat).osdJudge n vm := by
  have := n.isLt
  unfold Rod.osdStepEnd
  rw [if_neg (by omega), h4, hn, axisOf_axis]
  rfl

end

end Sys2Proof.Machine
end

section
/-! What OSD_STEP_END leaves of a rod at each step of the off-state diagnostics (R455, R456, R457). -/

namespace Sys2Proof.Machine

/-! ### The end of a set -/

theorem osd_not_irq (n : Axis) : Rg.DRV_OSD n.val % 0x1000 ≠ 0x10 := by revert n; decide

theorem osdDone_bits (n : Axis) : 29 ≤ (Fl.DRV_OSD_DONE n.val).lo ∧ (Fl.DRV_OSD_DONE n.val).lo + (Fl.DRV_OSD_DONE n.val).w ≤ 32 :=
  ⟨by decide +revert, by decide +revert⟩

theorem osdFail_bits (n : Axis) : 29 ≤ (Fl.DRV_OSD_FAIL n.val).lo ∧ (Fl.DRV_OSD_FAIL n.val).lo + (Fl.DRV_OSD_FAIL n.val).w ≤ 32 :=
  ⟨by decide +revert, by decide +revert⟩

/-- The registers that show the state of the rods. -/
def stateRegs (a : Nat) : Bool := a == Rg.ROD_STATE

theorem stateRegs_osd (n : Axis) : stateRegs (Rg.DRV_OSD n.val) = false := by revert n; decide

theorem Rod.osdNext_md (ρ : Rod) (n : Axis) :
    (ρ.osdNext n).md =
      { ρ.md with osdSet := ρ.md.osdSet + 1, osdStep := 0, osdFailC := false, osdDone := decide (2 ≤ ρ.md.osdSet) } := by
  unfold Rod.osdNext
  dsimp only
  rw [Rod.irq_md, Rod.p_md]

/-- The end of a set writes its flag alone. -/
theorem Rod.osdNext_gw (ρ : Rod) (n : Axis) : (ρ.osdNext n).gw (Rg.DRV_OSD n.val) = (ρ.p (Fl.DRV_OSD_DONE n.val) 1).gw (Rg.DRV_OSD n.val) :=
  (Rod.gw_congr ((ρ.p (Fl.DRV_OSD_DONE n.val) 1).irq (drivePage n) 4) _ rfl _).trans
    (Rod.gw_irq_ne _ _ _ _ (by revert n; decide))

theorem Rod.osdNext_done (ρ : Rod) (n : Axis) : (ρ.osdNext n).b (Fl.DRV_OSD_DONE n.val) = true :=
  (Rod.b_congr _ _ (Fl.DRV_OSD_DONE n.val) (Rod.osdNext_gw ρ n)).trans (Rod.b_p ρ (Fl.DRV_OSD_DONE n.val) true (osdDone_bits n).2 rfl)

theorem Rod.osdNext_deferred (ρ : Rod) (n : Axis) : (ρ.osdNext n).b (Fl.DRV_OSD_DEFERRED n.val) = ρ.b (Fl.DRV_OSD_DEFERRED n.val) :=
  (Rod.b_congr _ _ (Fl.DRV_OSD_DEFERRED n.val) (Rod.osdNext_gw ρ n)).trans
    (Rod.b_p_ne ρ (Fl.DRV_OSD_DONE n.val) _ _ (by revert n; decide) (.inr (.inl (by revert n; decide))))

theorem Rod.osdNext_result (ρ : Rod) (n : Axis) (p : Phase) : (ρ.osdNext n).g (osdF n p) = ρ.g (osdF n p) :=
  (Rod.g_of_gw _ _ (osdF n p) (Rod.osdNext_gw ρ n)).trans
    (Rod.osd_flag ρ n p (Fl.DRV_OSD_DONE n.val) 1 (osdDone_bits n).1 (osdDone_bits n).2)

section
variable {β : Type} {V : ModeS → β} {K : Nat → Bool} {ρ q : Rod}

theorem Rod.carries_osdNext (n : Axis) (hK : K (Rg.DRV_OSD n.val) = false)
    (hV : ∀ (m : ModeS) (a b : Nat) (c d : Bool), V { m with osdSet := a, osdStep := b, osdFailC := c, osdDone := d } = V m)
    (h : ρ.carries V K q) : ρ.carries V K (q.osdNext n) := by
  have k := Rod.carries_irq (drivePage n) 4 (Rod.carries_p (Fl.DRV_OSD_DONE n.val) 1 hK h)
  exact Rod.carries_same k rfl (hV _ _ _ _ _)

/-- A loop over the phases that writes at most the result of each. -/
theorem Rod.carries_phases (n : Axis) (f : Phase → Rod → Rod) (hK : K (Rg.DRV_OSD n.val) = false)
    (hf : ∀ p r, f p r = r ∨ ∃ v, f p r = r.p (osdF n p) v) (h : ρ.carries V K q) : ρ.carries V K (q.each allPhases f) := by
  refine Rod.carries_each _ _ (fun p r hr => ?_) h
  rcases hf p r with e | ⟨v, e⟩ <;> rw [e]
  · exact hr
  · exact Rod.carries_p _ _ hK hr

end

/-! ### The steps -/

theorem Rod.osdLow_result (ρ : Rod) (n : Axis) (vm : Nat) (v : Phase → Nat) (p : Phase) :
    (ρ.osdLow n vm v).g (osdF n p) = if vm < 4 * v p then 2 else ρ.g (osdF n p) := by
  refine Rod.osd_each n (fun p x => if vm < 4 * v p then 2 else x) _ (fun p q p' => ?_) ρ p
  split
  · next h =>
    rw [if_neg (Nat.not_lt.2 h)]
    split
    · next e => rw [e]
    · rfl
  · next h => rw [Rod.osd_p, if_pos (Nat.lt_of_not_le h)]

theorem Rod.carries_osdLow {β : Type} {V : ModeS → β} {K : Nat → Bool} (ρ : Rod) (n : Axis) (vm : Nat) (v : Phase → Nat)
    (hK : K (Rg.DRV_OSD n.val) = false) : ρ.carries V K (ρ.osdLow n vm v) := by
  refine Rod.carries_phases n _ hK (fun p r => ?_) (Rod.carries_refl _ _ _)
  split
  · exact .inl rfl
  · exact .inr ⟨2, rfl⟩

/-- A loop that does nothing. -/
theorem Rod.each_idle {α : Type} (ρ : Rod) (l : List α) (f : α → Rod → Rod) (h : ∀ a, f a ρ = ρ) : ρ.each l f = ρ :=
  Rod.each_invariant (· = ρ) f (fun a q hq => by rw [hq, h]) l ρ rfl

/-- Phases high enough are left (Table 13.4). -/
theorem Rod.osdHigh_passes (ρ : Rod) (n : Axis) (vm : Nat) (v : Phase → Nat) (h : ∀ p, 3 * vm ≤ 4 * v p) : ρ.osdHigh n vm v = ρ :=
  Rod.each_idle ρ _ _ fun p => if_pos (h p)

/-- The phases of a set whose steps have all run, those that passed reading 1. -/
def Rod.osdPassed (ρ : Rod) (n : Axis) : Rod := ρ.each allPhases fun p q => if q.g (osdF n p) = 0 then q.p (osdF n p) 1 else q

theorem Rod.osdPassed_result (ρ : Rod) (n : Axis) (p : Phase) :
    (ρ.osdPassed n).g (osdF n p) = if ρ.g (osdF n p) = 0 then 1 else ρ.g (osdF n p) := by
  refine Rod.osd_each n (fun _ x => if x = 0 then 1 else x) _ (fun p q p' => ?_) ρ p
  split
  · next h => rw [Rod.osd_p]
  · next h =>
    split
    · next e => rw [e]
    · rfl

theorem Rod.carries_osdPassed {β : Type} {V : ModeS → β} {K : Nat → Bool} (ρ : Rod) (n : Axis) (hK : K (Rg.DRV_OSD n.val) = false) :
    ρ.carries V K (ρ.osdPassed n) := by
  refine Rod.carries_phases n _ hK (fun p r => ?_) (Rod.carries_refl _ _ _)
  split
  · exact .inr ⟨1, rfl⟩
  · exact .inl rfl

/-- A set without an open or shorted phase ends, and the next one begins. -/
theorem Rod.osdJudge_passed (ρ : Rod) (n : Axis) (vm : Nat) (h : ∀ p, ρ.g (osdF n p) = 0) :
    ρ.osdJudge n vm = (ρ.osdPassed n).osdNext n ∧ ∀ p, ((ρ.osdPassed n).osdNext n).g (osdF n p) = 1 := by
  have hres (p : Phase) : (ρ.osdPassed n).g (osdF n p) = 1 := by rw [Rod.osdPassed_result, if_pos (h p)]
  refine ⟨if_neg ?_, fun p => (Rod.osdNext_result _ n p).trans (hres p)⟩
  rw [Bool.not_eq_true, List.any_eq_false]
  intro p _
  rw [decide_eq_true_iff]
  exact Nat.not_le.2 (Nat.lt_of_le_of_lt (Nat.le_of_eq (hres p)) (by decide))

/-- The state of a rod whose set has failed, with the flag and record 0x0B20 (R457). -/
def Rod.osdFailed (ρ : Rod) (n : Axis) (vm : Nat) : Rod :=
  let ρ2 := (ρ.osdPassed n).osdNext n
  ((ρ2.p (Fl.DRV_OSD_FAIL n.val) 1).fltA 0x0B20 sevDegrade (drivePage n) n
    [(0, 1, ρ2.g (osdF n 0)), (1, 1, ρ2.g (osdF n 1)), (2, 1, ρ2.g (osdF n 2)), (4, 4, ρ2.vmMv vm)]).modMd
      fun m => { m with osdSet := 3, osdDone := false }

theorem Rod.osdJudge_failed (ρ : Rod) (n : Axis) (vm : Nat) (p : Phase) (h : 2 ≤ ρ.g (osdF n p)) :
    ρ.osdJudge n vm = (ρ.osdFailed n vm).armFail 0x0121 n.val [(0, 1, n.val), (2, 2, 0x0B20)] := by
  refine if_pos (List.any_eq_true.2 ⟨p, mem_allPhases p, decide_eq_true ?_⟩)
  show 2 ≤ (ρ.osdPassed n).g (osdF n p)
  rw [Rod.osdPassed_result, if_neg (by omega)]
  exact h

/-- A failed set shows its phases and FAIL, with its record, in a rod that is then FENCED. -/
theorem Rod.osdFailed_leaves (ρ : Rod) (n : Axis) (vm : Nat) (p : Phase) (hs : ρ.state = RS.active) (h : 2 ≤ ρ.g (osdF n p)) :
    (ρ.osdJudge n vm).g (osdF n p) = ρ.g (osdF n p) ∧ (ρ.osdJudge n vm).b (Fl.DRV_OSD_FAIL n.val) = true ∧
      (ρ.osdJudge n vm).noted 0x0B20 sevDegrade (drivePage n) ∧ (ρ.osdJudge n vm).state = RS.fenced := by
  have hstate : (ρ.osdFailed n vm).state = RS.active := by
    have k := Rod.carries_osdNext (V := fun _ => ()) n (stateRegs_osd n) (fun _ _ _ _ _ => rfl) (Rod.carries_osdPassed ρ n (stateRegs_osd n))
    have k2 : ρ.carries (fun _ => ()) stateRegs (ρ.osdFailed n vm) :=
      Rod.carries_modMd (fun m => { m with osdSet := 3, osdDone := false }) (fun _ => rfl)
        (Rod.carries_fltAP (Rod.carries_p (Fl.DRV_OSD_FAIL n.val) 1 (stateRegs_osd n) k))
    rw [k2.state (by decide), hs]
  have hgw : (ρ.osdFailed n vm).gw (Rg.DRV_OSD n.val) = (((ρ.osdPassed n).osdNext n).p (Fl.DRV_OSD_FAIL n.val) 1).gw (Rg.DRV_OSD n.val) :=
    Rod.gw_congr _ _ rfl _
  have hflag := (Rod.b_congr _ _ (Fl.DRV_OSD_FAIL n.val) hgw).trans (Rod.b_p _ (Fl.DRV_OSD_FAIL n.val) true (osdFail_bits n).2 rfl)
  have hres : (ρ.osdFailed n vm).g (osdF n p) = ρ.g (osdF n p) := by
    rw [Rod.g_of_gw _ _ (osdF n p) hgw, Rod.osd_flag _ n p (Fl.DRV_OSD_FAIL n.val) 1 (osdFail_bits n).1 (osdFail_bits n).2,
      Rod.osdNext_result, Rod.osdPassed_result, if_neg (by omega)]
  have hnoted : (ρ.osdFailed n vm).noted 0x0B20 sevDegrade (drivePage n) :=
    (Rod.carries_modMd (V := fun _ => ()) (K := stateRegs) _ (fun _ => rfl) (Rod.carries_refl _ _ _)).noted (Rod.noted_fltAP _ _ _ _ _ _ _)
  have k : (ρ.osdFailed n vm).carries (fun _ => ()) osdRegs ((ρ.osdFailed n vm).armFail 0x0121 n.val [(0, 1, n.val), (2, 2, 0x0B20)]) :=
    Rod.carries_armFail _ _ _ (by decide) (by decide) (by decide) (fun _ _ _ _ => rfl) (Rod.carries_refl _ _ _)
  obtain ⟨-, -, -, hf, -⟩ := Rod.armFail_leaves (ρ.osdFailed n vm) 0x0121 n.val [(0, 1, n.val), (2, 2, 0x0B20)] hstate (by decide)
  rw [Rod.osdJudge_failed ρ n vm p h]
  exact ⟨(k.g (osdF n p) (osdRegs_osd n) (osd_not_irq n)).trans hres, (k.b (Fl.DRV_OSD_FAIL n.val) (osdRegs_osd n) (osd_not_irq n)).trans hflag,
    k.noted hnoted, hf⟩

end Sys2Proof.Machine
end

section
/-! OSD_STEP_END as a command: what each step of the diagnostics leaves of the rod (R455, R456, R457). -/

namespace Sys2Proof.Machine

theorem Rod.osdKept_flush (ρ : Rod) (h : ρ.state = RS.active) : ρ.osdKept ρ.flush :=
  ⟨.inl ((Rod.flush_state ρ).trans h), Rod.flush_recBuf ρ, Rod.carries_flush (by decide) (Rod.carries_refl _ _ _)⟩

theorem Rod.osdKept.result {ρ q : Rod} (h : ρ.osdKept q) (n : Axis) (p : Phase) : q.g (osdF n p) = ρ.g (osdF n p) :=
  h.2.2.g (osdF n p) (osdRegs_osd n) (osd_not_irq n)

theorem Rod.osdKept.osdSet {ρ q : Rod} (h : ρ.osdKept q) : q.md.osdSet = ρ.md.osdSet := congrArg (·.1) h.2.2.md

theorem Rod.osdKept.osdStep {ρ q : Rod} (h : ρ.osdKept q) : q.md.osdStep = ρ.md.osdStep := congrArg (·.2.1) h.2.2.md

theorem Rod.osdKept.osdFailC {ρ q : Rod} (h : ρ.osdKept q) : q.md.osdFailC = ρ.md.osdFailC := congrArg (·.2.2.1) h.2.2.md

theorem fencedRegs_osd (n : Axis) : fencedRegs (Rg.DRV_OSD n.val) = true := by revert n; decide

theorem osdDeferred_bits (n : Axis) : (Fl.DRV_OSD_DEFERRED n.val).lo + (Fl.DRV_OSD_DEFERRED n.val).w ≤ 32 := by revert n; decide

theorem osdSet_runs (ρ : Rod) (n : Axis) (h : ρ.md.osdSet = n.val) : ρ.md.osdSet ≠ 3 := by
  have := n.isLt
  omega

/-- After the last set the diagnostics are done; after another the next one runs. -/
theorem osdNext_goes_on (ρ : Rod) (n : Axis) (h : ρ.md.osdSet = n.val) : (ρ.osdNext n).md.osdSet ≠ 3 ∨ (ρ.osdNext n).md.osdDone = true := by
  rw [Rod.osdNext_md]
  simp only [decide_eq_true_iff]
  omega

section
variable {s : State} {r : RodId} {n : Axis} {nodes : Tri (BitVec 16)} {vm : BitVec 16} {ρ : Rod} (hρ : (s.rod r).view s.rod = ρ)
include hρ

/-- A step after which the rod is still ACTIVE and its diagnostics run or are done. -/
theorem completes_osdStep {P : Rod → Prop} (τ : Rod) (he : ρ.osdStepEnd nodes vm.toNat = τ) (hs : τ.state = RS.active)
    (hd : τ.md.osdSet ≠ 3 ∨ τ.md.osdDone = true) (hP : ∀ q, τ.osdKept q → P q) :
    completes (.osdStepEnd r nodes vm) s fun t => P (t.rod r) := by
  refine completes_onRodA (f := fun _ ρ => ρ.osdStepEnd nodes vm.toNat) τ.osdKept rfl (Rod.osdKept_step τ hd) ?_ hP
  rw [hρ, he]
  exact Rod.osdKept_flush τ hs

variable (hn : ρ.md.osdSet = n.val) (ha : ρ.state = RS.active)
include hn ha

/-- Look finds the phases together. -/
theorem completes_osdLook_calm (h0 : ρ.md.osdStep = 0)
    (h01 : ¬vm.toNat < 10 * (max (nodes.get 0).toNat (nodes.get 1).toNat - min (nodes.get 0).toNat (nodes.get 1).toNat))
    (h12 : ¬vm.toNat < 10 * (max (nodes.get 1).toNat (nodes.get 2).toNat - min (nodes.get 1).toNat (nodes.get 2).toNat))
    (h20 : ¬vm.toNat < 10 * (max (nodes.get 2).toNat (nodes.get 0).toNat - min (nodes.get 2).toNat (nodes.get 0).toNat)) :
    completes (.osdStepEnd r nodes vm) s fun t => (t.rod r).md.osdStep = 1 ∧ (t.rod r).md.osdSet = n.val := by
  refine completes_osdStep hρ (P := fun q => q.md.osdStep = 1 ∧ q.md.osdSet = n.val) ρ.osdOn ?_ ha (.inl (osdSet_runs ρ n hn)) fun q k => ?_
  · rw [Rod.osdStepEnd_look ρ n nodes _ hn h0]
    refine if_pos ?_
    dsimp only
    omega
  · exact ⟨k.osdStep.trans (congrArg (· + 1) h0), k.osdSet.trans hn⟩

/-- Look finds two phases more than a tenth of the supply apart: the set is deferred, with record 0x0B23. -/
theorem completes_osdLook_far (h0 : ρ.md.osdStep = 0)
    (h : vm.toNat < 10 * (max (nodes.get 0).toNat (nodes.get 1).toNat - min (nodes.get 0).toNat (nodes.get 1).toNat) ∨
      vm.toNat < 10 * (max (nodes.get 1).toNat (nodes.get 2).toNat - min (nodes.get 1).toNat (nodes.get 2).toNat) ∨
      vm.toNat < 10 * (max (nodes.get 2).toNat (nodes.get 0).toNat - min (nodes.get 2).toNat (nodes.get 0).toNat)) :
    completes (.osdStepEnd r nodes vm) s fun t =>
      (t.rod r).md.osdSet = n.val + 1 ∧ (t.rod r).b (Fl.DRV_OSD_DEFERRED n.val) = true ∧ (t.rod r).b (Fl.DRV_OSD_DONE n.val) = true ∧
      (t.rod r).recorded 0x0B23 sevWarn (drivePage n) := by
  obtain ⟨ll, he⟩ : ∃ ll, ρ.osdStepEnd nodes vm.toNat = (ρ.osdDefer n ll).osdNext n :=
    ⟨_, (Rod.osdStepEnd_look ρ n nodes _ hn h0).trans (if_neg (by dsimp only; omega))⟩
  have hset : ((ρ.osdDefer n ll).osdNext n).md.osdSet = n.val + 1 := by
    rw [Rod.osdNext_md]
    exact congrArg (· + 1) hn
  have hstate : ((ρ.osdDefer n ll).osdNext n).state = RS.active := by
    have k : ρ.carries (fun _ => ()) stateRegs (ρ.osdDefer n ll) :=
      Rod.carries_fltAP (Rod.carries_p (Fl.DRV_OSD_DEFERRED n.val) 1 (stateRegs_osd n) (Rod.carries_refl _ _ _))
    exact ((Rod.carries_osdNext n (stateRegs_osd n) (fun _ _ _ _ _ => rfl) k).state (by decide)).trans ha
  have hflag : (ρ.osdDefer n ll).b (Fl.DRV_OSD_DEFERRED n.val) = true :=
    (Rod.b_congr (ρ.p (Fl.DRV_OSD_DEFERRED n.val) 1) _ (Fl.DRV_OSD_DEFERRED n.val) (Rod.gw_congr _ _ rfl _)).trans
      (Rod.b_p ρ (Fl.DRV_OSD_DEFERRED n.val) true (osdDeferred_bits n) rfl)
  have hnoted : ((ρ.osdDefer n ll).osdNext n).noted 0x0B23 sevWarn (drivePage n) :=
    (Rod.carries_osdNext (V := fun _ => ()) n (stateRegs_osd n) (fun _ _ _ _ _ => rfl) (Rod.carries_refl _ _ _)).noted (Rod.noted_fltAP _ _ _ _ _ _ _)
  refine completes_osdStep hρ (P := fun q => q.md.osdSet = n.val + 1 ∧ q.b (Fl.DRV_OSD_DEFERRED n.val) = true ∧
    q.b (Fl.DRV_OSD_DONE n.val) = true ∧ q.recorded 0x0B23 sevWarn (drivePage n)) _ he hstate ?_ fun q k => ?_
  · exact osdNext_goes_on (ρ.osdDefer n ll) n hn
  · exact ⟨k.osdSet.trans hset, (k.2.2.b (Fl.DRV_OSD_DEFERRED n.val) (osdRegs_osd n) (osd_not_irq n)).trans ((Rod.osdNext_deferred _ n).trans hflag),
      (k.2.2.b (Fl.DRV_OSD_DONE n.val) (osdRegs_osd n) (osd_not_irq n)).trans (Rod.osdNext_done _ n),
      Rod.noted.recorded (k.2.2.noted hnoted) k.2.1⟩

/-- Step 1 marks the phases that read high. -/
theorem completes_osdLow (h1 : ρ.md.osdStep = 1) :
    completes (.osdStepEnd r nodes vm) s fun t => (t.rod r).md.osdStep = 2 ∧
      ∀ p : Phase, (t.rod r).g (osdF n p) = if vm.toNat < 4 * (nodes.get p).toNat then 2 else ρ.g (osdF n p) := by
  have hc : ρ.carries id stateRegs (ρ.osdLow n vm.toNat fun p => (nodes.get p).toNat) := Rod.carries_osdLow ρ n _ _ (stateRegs_osd n)
  have hmd : (ρ.osdLow n vm.toNat fun p => (nodes.get p).toNat).md = ρ.md := hc.md
  refine completes_osdStep hρ (P := fun q => q.md.osdStep = 2 ∧
    ∀ p : Phase, q.g (osdF n p) = if vm.toNat < 4 * (nodes.get p).toNat then 2 else ρ.g (osdF n p)) _ (Rod.osdStepEnd_low ρ n nodes _ hn h1)
    ((hc.state (by decide)).trans ha) ?_ fun q k => ?_
  · exact .inl fun e => osdSet_runs ρ n hn ((congrArg ModeS.osdSet hmd).symm.trans e)
  · exact ⟨k.osdStep.trans (congrArg (fun m : ModeS => m.osdStep + 1) hmd |>.trans (congrArg (· + 1) h1)),
      fun p => (k.result n p).trans (Rod.osdLow_result ρ n vm.toNat (fun p => (nodes.get p).toNat) p)⟩

/-- Step 2 finds no phase low and none marked. -/
theorem completes_osdHigh (h2 : ρ.md.osdStep = 2) (h : ∀ p : Phase, 3 * vm.toNat ≤ 4 * (nodes.get p).toNat ∧ ρ.g (osdF n p) = 0) :
    completes (.osdStepEnd r nodes vm) s fun t => (t.rod r).md.osdStep = 3 ∧ (t.rod r).md.osdSet = n.val := by
  refine completes_osdStep hρ (P := fun q => q.md.osdStep = 3 ∧ q.md.osdSet = n.val) ρ.osdOn ?_ ha (.inl (osdSet_runs ρ n hn)) fun q k => ?_
  · rw [Rod.osdStepEnd_high ρ n nodes _ hn h2]
    dsimp only
    rw [Rod.osdHigh_passes ρ n _ _ fun p => (h p).1, if_neg]
    rw [Bool.not_eq_true, List.any_eq_false]
    intro p _
    rw [bne_iff_ne, (h p).2]
    exact fun e => e rfl
  · exact ⟨k.osdStep.trans (congrArg (· + 1) h2), k.osdSet.trans hn⟩

/-- Step 3 judges the first pair of phases. -/
theorem completes_osdFirst (h3 : ρ.md.osdStep = 3) :
    completes (.osdStepEnd r nodes vm) s fun t =>
      (t.rod r).md.osdStep = 4 ∧ (t.rod r).md.osdFailC = decide (vm.toNat < 4 * (nodes.get 0).toNat) :=
  completes_osdStep hρ (P := fun q => q.md.osdStep = 4 ∧ q.md.osdFailC = decide (vm.toNat < 4 * (nodes.get 0).toNat)) _
    (Rod.osdStepEnd_first ρ n nodes _ hn h3) ha (.inl (osdSet_runs ρ n hn)) fun _ k =>
      ⟨k.osdStep.trans (congrArg (· + 1) h3), k.osdFailC⟩

/-- Step 4 ends a set that has passed. -/
theorem completes_osdPassed (h4 : ρ.md.osdStep = 4) (hc : ρ.md.osdFailC = false) (h1 : 4 * (nodes.get 1).toNat ≤ vm.toNat)
    (h : ∀ p : Phase, ρ.g (osdF n p) = 0) :
    completes (.osdStepEnd r nodes vm) s fun t => (t.rod r).md.osdSet = n.val + 1 ∧ (t.rod r).b (Fl.DRV_OSD_DONE n.val) = true ∧
      ∀ p : Phase, (t.rod r).g (osdF n p) = 1 := by
  have hopen : (ρ.osdOpen n vm.toNat fun p => (nodes.get p).toNat) = ρ := by
    unfold Rod.osdOpen
    simp [hc, h1]
  obtain ⟨hj, hres⟩ := Rod.osdJudge_passed ρ n vm.toNat h
  have he := (Rod.osdStepEnd_second ρ n nodes vm.toNat hn h4).trans ((congrArg (Rod.osdJudge · n vm.toNat) hopen).trans hj)
  have hmd : (ρ.osdPassed n).md = ρ.md := (Rod.carries_osdPassed (V := id) ρ n (stateRegs_osd n)).md
  have hset : (ρ.osdPassed n).md.osdSet = n.val := (congrArg ModeS.osdSet hmd).trans hn
  have k := Rod.carries_osdNext (V := fun _ => ()) n (stateRegs_osd n) (fun _ _ _ _ _ => rfl) (Rod.carries_osdPassed ρ n (stateRegs_osd n))
  refine completes_osdStep hρ (P := fun q => q.md.osdSet = n.val + 1 ∧ q.b (Fl.DRV_OSD_DONE n.val) = true ∧ ∀ p, q.g (osdF n p) = 1) _ he
    ((k.state (by decide)).trans ha) (osdNext_goes_on _ n hset) fun q k => ?_
  refine ⟨k.osdSet.trans ?_, (k.2.2.b (Fl.DRV_OSD_DONE n.val) (osdRegs_osd n) (osd_not_irq n)).trans (Rod.osdNext_done _ n),
    fun p => (k.result n p).trans (hres p)⟩
  rw [Rod.osdNext_md]
  exact congrArg (· + 1) hset

/-- Step 4 finds phase U open: the rod is FENCED. -/
theorem completes_osdFailed (h4 : ρ.md.osdStep = 4) (hc : ρ.md.osdFailC = true) (h1 : 4 * (nodes.get 1).toNat ≤ vm.toNat) :
    completes (.osdStepEnd r nodes vm) s fun t => (t.rod r).g (osdF n 0) = 4 ∧ (t.rod r).b (Fl.DRV_OSD_FAIL n.val) = true ∧
      (t.rod r).recorded 0x0B20 sevDegrade (drivePage n) ∧ (t.rod r).state = RS.fenced := by
  have hopen : (ρ.osdOpen n vm.toNat fun p => (nodes.get p).toNat) = ρ.p (osdF n 0) 4 := by
    unfold Rod.osdOpen
    simp [hc, h1]
  have he : ρ.osdStepEnd nodes vm.toNat = (ρ.p (osdF n 0) 4).osdJudge n vm.toNat :=
    (Rod.osdStepEnd_second ρ n nodes vm.toNat hn h4).trans (congrArg (Rod.osdJudge · n vm.toNat) hopen)
  have hu : (ρ.p (osdF n 0) 4).g (osdF n 0) = 4 := by rw [Rod.osd_p, if_pos rfl]
  have hs : (ρ.p (osdF n 0) 4).state = RS.active :=
    ((Rod.carries_p (V := fun _ => ()) (osdF n 0) 4 (stateRegs_osd n) (Rod.carries_refl _ _ ρ)).state (by decide)).trans ha
  obtain ⟨hres, hflag, hnoted, hf⟩ := Rod.osdFailed_leaves (ρ.p (osdF n 0) 4) n vm.toNat 0 hs (by rw [hu]; decide)
  rw [← he] at hres hflag hnoted hf
  refine completes_fenced (f := fun _ ρ => ρ.osdStepEnd nodes vm.toNat) (P := fun q => q.g (osdF n 0) = 4 ∧
    q.b (Fl.DRV_OSD_FAIL n.val) = true ∧ q.recorded 0x0B20 sevDegrade (drivePage n) ∧ q.state = RS.fenced) rfl (by rw [hρ]; exact hf) fun q k => ?_
  rw [hρ] at k
  exact ⟨((k.2.2.g (osdF n 0) (fencedRegs_osd n) (osd_not_irq n)).trans hres).trans hu,
    (k.2.2.b (Fl.DRV_OSD_FAIL n.val) (fencedRegs_osd n) (osd_not_irq n)).trans hflag, k.recorded hnoted, k.1⟩

end

end Sys2Proof.Machine
end

section
/-! The end of the pre-charge: the bootstraps, the plausibility of the positions, and step 5 (R454, R96, Table 3.5). -/

namespace Sys2Proof.Machine

/-! ### Step 5 -/

section
variable {β : Type} {V : ModeS → β} {K : Nat → Bool} {ρ q : Rod}

theorem Rod.carries_decidePump (n : Axis) (phase cause : Nat) (h : ρ.carries V K q) : ρ.carries V K (q.decidePump n phase cause) := by
  unfold Rod.decidePump
  exact iteInduction (motive := ρ.carries V K) (fun _ => Rod.carries_send _ (Rod.carries_same h)) (fun _ => h)

theorem Rod.carries_pumpArm (n : Axis) (h : ρ.carries V K q) : ρ.carries V K (q.pumpArm n) := by
  unfold Rod.pumpArm
  split
  · dsimp only
    split
    · exact Rod.carries_decidePump _ _ _ h
    · exact Rod.carries_decidePump _ _ _ h
  · exact h

/-- A wait begins: what it changes of ARM_STAT is the axes that wait. -/
theorem Rod.carries_beginStep5 (ps : RodId → Rod) (hK : K Rg.ARM_STAT = false)
    (hV : ∀ (m : ModeS) (a : Tri Nat) (b : Tri Bool), V { m with still := a, waited := b } = V m) (h : ρ.carries V K q) :
    ρ.carries V K (q.beginStep5 ps) := by
  refine Rod.carries_each _ _ (fun n u hu => ?_) (Rod.carries_p Fl.ARM_STAT_STEP 5 hK h)
  dsimp only
  split
  · exact Rod.carries_pumpArm n hu
  · split
    · have hw := Rod.carries_modMd (fun d => { d with still := d.still.set n 0 }) (fun m => hV m _ m.waited)
        (Rod.carries_irq 0x001 2 (Rod.carries_p Fl.ARM_STAT_WAIT_AXES (u.g Fl.ARM_STAT_WAIT_AXES ||| 2 ^ n.val) hK hu))
      split
      · exact Rod.carries_fltAP (Rod.carries_modMd (fun d => { d with waited := d.waited.set n true }) (fun m => hV m m.still _) hw)
      · exact hw
    · exact hu

/-- The positions are judged: the rod is as it was, or ARMING has failed in it. -/
theorem Rod.plausNow_cases (ρ : Rod) (ps : RodId → Rod) :
    ρ.plausNow ps = (ρ, true) ∨
      ∃ q axis data, ρ.carries id (fun _ => true) q ∧ ρ.plausNow ps = (q.armFail 0x0122 axis data, false) := by
  unfold Rod.plausNow Rod.plausStep
  dsimp only
  split
  · exact .inl rfl
  · exact .inr ⟨_, _, _, Rod.carries_each _ _ (fun _ _ hr => Rod.carries_fltAP hr) (Rod.carries_refl _ _ _), rfl⟩

end

theorem Rod.step_endStep5 (ρ : Rod) : ρ.endStep5.g Fl.ARM_STAT_STEP = ρ.g Fl.ARM_STAT_STEP ∨ ρ.endStep5.g Fl.ARM_STAT_STEP = 6 := by
  unfold Rod.endStep5
  split
  · exact .inr (by rw [Rod.g_p _ _ _ (by decide)]; rfl)
  · exact .inl rfl

theorem Rod.step_beginStep5 (ρ : Rod) (ps : RodId → Rod) : (ρ.beginStep5 ps).g Fl.ARM_STAT_STEP = 5 := by
  refine Rod.each_invariant (fun q => q.g Fl.ARM_STAT_STEP = 5) _ (fun n u hu => ?_) _ _ (by rw [Rod.g_p _ _ _ (by decide)]; rfl)
  dsimp only
  split
  · exact ((Rod.carries_pumpArm (V := fun _ => ()) (K := fun _ => true) n (Rod.carries_refl _ _ u)).g Fl.ARM_STAT_STEP rfl (by decide)).trans hu
  · split
    · have hw : ((u.setBit Fl.ARM_STAT_WAIT_AXES n.val).irq 0x001 2).g Fl.ARM_STAT_STEP = 5 := by
        rw [Rod.g_irq_ne _ _ _ _ (by decide), Rod.g_setBit_ne _ _ _ _ (by decide) (by decide), hu]
      have hq := Rod.carries_modMd (V := fun _ => ()) (fun d => { d with still := d.still.set n 0 }) (fun _ => rfl)
        (Rod.carries_refl _ (fun _ => true) ((u.setBit Fl.ARM_STAT_WAIT_AXES n.val).irq 0x001 2))
      split
      · exact ((Rod.carries_fltAP (Rod.carries_modMd (fun d => { d with waited := d.waited.set n true }) (fun _ => rfl) hq)).g
          Fl.ARM_STAT_STEP rfl (by decide)).trans hw
      · exact (hq.g Fl.ARM_STAT_STEP rfl (by decide)).trans hw
    · exact hu

/-! ### What the sequence leaves of the pre-charge -/

/-- The pre-charge and its result. -/
def ModeS.charge (m : ModeS) : Bool × Bool := (m.pre, m.preOk)

/-- The bootstraps are charged, in a rod that has left step 2 or is FENCED. -/
def Rod.charged (q : Rod) : Prop :=
  q.engaged ∧ q.md.charge = (false, true) ∧ (q.state = RS.active → q.g Fl.ARM_STAT_STEP ≠ 2)

theorem Rod.charged_of_fenced (q : Rod) (hs : q.state = RS.fenced) (hm : q.md.charge = (false, true)) : q.charged :=
  ⟨.inr hs, hm, fun h => absurd (h.symm.trans hs) (by decide)⟩

theorem Rod.charged_flush (q : Rod) (h : q.charged) : q.flush.charged := by
  obtain ⟨he, hm, h2⟩ := h
  refine ⟨engaged_of_state _ _ he (Rod.flush_state q), by rw [Rod.flush_md]; exact hm, fun hs => ?_⟩
  rw [Rod.flush_g _ _ (by decide)]
  exact h2 ((Rod.flush_state q).symm.trans hs)

theorem Rod.charged_armFail (q : Rod) (code axis : Nat) (data : List (Nat × Nat × Nat)) (hs : q.state = RS.active)
    (hm : q.md.charge = (false, true)) (hc : code < 65536) : (q.armFail code axis data).charged := by
  obtain ⟨-, -, -, hf, -⟩ := Rod.armFail_leaves q code axis data hs hc
  have k : q.carries ModeS.charge (fun _ => false) (q.armFail code axis data) :=
    Rod.carries_armFail _ _ _ rfl rfl rfl (fun _ _ _ _ => rfl) (Rod.carries_refl _ _ _)
  exact Rod.charged_of_fenced _ hf (k.md.trans hm)

theorem Rod.charged_endStep5 (q : Rod) (h : q.charged) : q.endStep5.charged := by
  obtain ⟨he, hm, h2⟩ := h
  have k : q.carries ModeS.charge stateRegs q.endStep5 := Rod.carries_endStep5 (by decide) (Rod.carries_refl _ _ _)
  have hst := k.state (by decide)
  refine ⟨engaged_of_state _ _ he hst, k.md.trans hm, fun hs => ?_⟩
  rcases Rod.step_endStep5 q with e | e <;> rw [e]
  · exact h2 (hst.symm.trans hs)
  · decide

theorem Rod.charged_step (q : Rod) (ps : RodId → Rod) (h : q.charged) : (q.armStep ps).flush.charged := by
  refine Rod.charged_flush _ ?_
  obtain ⟨he, hm, h2⟩ := h
  rcases Rod.armStep_engaged q ps he with e | ⟨hs, e⟩ | ⟨on, e⟩ | ⟨hs, h2', -⟩ | e
  · rw [e]
    exact ⟨he, hm, h2⟩
  · rw [e]
    exact Rod.charged_armFail q _ _ _ hs hm (by decide)
  · rw [e]
    have k : q.carries ModeS.charge (fun a => stateRegs a || a == Rg.ARM_STAT) (q.coil on) :=
      Rod.carries_coil on (by decide) (fun _ _ _ => rfl) (Rod.carries_refl _ _ _)
    have hst := k.state (by decide)
    exact ⟨engaged_of_state _ _ he hst, k.md.trans hm, fun hs => by rw [k.g _ (by decide) (by decide)]; exact h2 (hst.symm.trans hs)⟩
  · exact absurd h2' (h2 hs)
  · rw [e]
    exact Rod.charged_endStep5 q ⟨he, hm, h2⟩

/-! ### PRECHARGE_END -/

/-- The axes whose bootstraps are low (R454). -/
def Rod.uncharged (ρ : Rod) (low : Tri (BitVec 3)) : List Axis := allAxes.filter fun n => ρ.axisArmed n && low.get n != 0#3

/-- The pre-charge is over. -/
def Rod.chargeEnds (ρ : Rod) (ok : Bool) : Rod := (ρ.modMd fun m => { m with pre := false, preOk := ok }).updEn

theorem Rod.prechargeJudge_passed (ρ : Rod) (low : Tri (BitVec 3)) (h : ρ.uncharged low = []) :
    ρ.prechargeJudge low = (ρ.chargeEnds true, true) := by
  unfold Rod.prechargeJudge
  unfold Rod.uncharged at h
  dsimp only
  rw [h]
  rfl

theorem Rod.prechargeJudge_failed (ρ : Rod) (low : Tri (BitVec 3)) (n : Axis) (l : List Axis) (h : ρ.uncharged low = n :: l) :
    ρ.prechargeJudge low =
      (((ρ.chargeEnds false).each (n :: l) fun m q => q.fltA 0x0B22 sevDegrade (drivePage m) m [(0, 1, (low.get m).toNat)]).armFail 0x0121 n.val
        [(0, 1, n.val), (2, 2, 0x0B22)], false) := by
  unfold Rod.prechargeJudge
  unfold Rod.uncharged at h
  dsimp only
  rw [h]
  rfl

theorem Rod.chargeEnds_leaves (ρ : Rod) (ok : Bool) : (ρ.chargeEnds ok).md.charge = (false, ok) ∧ (ρ.chargeEnds ok).state = ρ.state := by
  have hm : (ρ.modMd fun m => { m with pre := false, preOk := ok }).carries ModeS.charge stateRegs (ρ.chargeEnds ok) :=
    Rod.carries_updEn (by decide) (Rod.carries_refl _ _ _)
  exact ⟨hm.md, hm.state (by decide)⟩

/-- The bootstraps have charged: the positions are judged, and step 5 begins. -/
theorem Rod.charged_prechargeEnd (ρ : Rod) (ps : RodId → Rod) (low : Tri (BitVec 3)) (hp : ρ.md.pre = true) (hs : ρ.state = RS.active)
    (h : ρ.uncharged low = []) : (ρ.prechargeEnd ps low).charged := by
  obtain ⟨hm, hst⟩ := Rod.chargeEnds_leaves ρ true
  have hactive : (ρ.chargeEnds true).state = RS.active := hst.trans hs
  have k4 : (ρ.chargeEnds true).carries ModeS.charge stateRegs ((ρ.chargeEnds true).p Fl.ARM_STAT_STEP 4) :=
    Rod.carries_p Fl.ARM_STAT_STEP 4 (by decide) (Rod.carries_refl _ _ _)
  have h4 := (k4.state (by decide)).trans hactive
  unfold Rod.prechargeEnd
  rw [if_neg (by simp [hp]), Rod.prechargeJudge_passed ρ low h]
  dsimp only
  rw [if_neg (by rw [hactive]; decide)]
  rcases Rod.plausNow_cases ((ρ.chargeEnds true).p Fl.ARM_STAT_STEP 4) ps with e | ⟨q, axis, data, hq, e⟩ <;> rw [e] <;> dsimp only
  · rw [if_neg (by rw [h4]; decide)]
    have k5 : (ρ.chargeEnds true).carries ModeS.charge stateRegs (((ρ.chargeEnds true).p Fl.ARM_STAT_STEP 4).beginStep5 ps) :=
      Rod.carries_beginStep5 ps (by decide) (fun _ _ _ => rfl) k4
    exact Rod.charged_endStep5 _ ⟨.inl ((k5.state (by decide)).trans hactive), k5.md.trans hm, fun _ => by rw [Rod.step_beginStep5]; decide⟩
  · exact Rod.charged_armFail q _ _ _ ((hq.state rfl).trans h4) ((congrArg ModeS.charge hq.md).trans (k4.md.trans hm)) (by decide)

/-- PRECHARGE_END with every armed axis charged. -/
theorem completes_prechargeEnd_passed (s : State) (r : RodId) (low : Tri (BitVec 3)) {ρ : Rod} (hρ : (s.rod r).view s.rod = ρ)
    (hp : ρ.md.pre = true) (ha : ρ.arming = true) (h : ∀ n, ρ.axisArmed n = true → low.get n = 0#3) :
    completes (.prechargeEnd r low) s fun t => (t.rod r).md.pre = false ∧ (t.rod r).md.preOk = true := by
  refine completes_onRodA (f := fun ps ρ => ρ.prechargeEnd ps low) (P := fun q => q.md.pre = false ∧ q.md.preOk = true) Rod.charged rfl
    Rod.charged_step ?_ fun q hq => Prod.mk.inj hq.2.1
  rw [hρ]
  refine Rod.charged_flush _ (Rod.charged_prechargeEnd ρ s.rod low hp (Rod.active_of_arming ρ ha) (List.filter_eq_nil_iff.2 fun n _ hn => ?_))
  simp only [Bool.and_eq_true, bne_iff_ne] at hn
  exact hn.2 (h n hn.1)

/-- PRECHARGE_END with a bootstrap of an armed axis low: the record of the axis, and ARMING fails. -/
theorem completes_prechargeEnd_failed (s : State) (r : RodId) (low : Tri (BitVec 3)) {ρ : Rod} (hρ : (s.rod r).view s.rod = ρ)
    (hp : ρ.md.pre = true) (ha : ρ.arming = true) (h : ∃ n, ρ.axisArmed n = true ∧ low.get n ≠ 0#3) :
    completes (.prechargeEnd r low) s fun t =>
      (t.rod r).md.pre = false ∧ (t.rod r).md.preOk = false ∧ (t.rod r).g Fl.ARM_STAT_FCODE = 0x0121 ∧ (t.rod r).state = RS.fenced ∧
      (∃ n, (t.rod r).recorded 0x0B22 sevDegrade (drivePage n)) ∧ (t.rod r).recorded 0x0121 sevWithdraw 0x001 := by
  obtain ⟨n, l, hbad⟩ : ∃ n l, ρ.uncharged low = n :: l := by
    obtain ⟨n, harmed, hlow⟩ := h
    refine List.exists_cons_of_ne_nil (List.ne_nil_of_mem (a := n) (List.mem_filter.2 ⟨mem_allAxes n, ?_⟩))
    simp [harmed, hlow]
  let q0 := (ρ.chargeEnds false).fltA 0x0B22 sevDegrade (drivePage n) n [(0, 1, (low.get n).toNat)]
  let q1 := q0.each l fun m q => q.fltA 0x0B22 sevDegrade (drivePage m) m [(0, 1, (low.get m).toNat)]
  let q2 := q1.armFail 0x0121 n.val [(0, 1, n.val), (2, 2, 0x0B22)]
  have he : ρ.prechargeEnd s.rod low = q2 := by
    unfold Rod.prechargeEnd
    rw [if_neg (by simp [hp]), Rod.prechargeJudge_failed ρ low n l hbad]
    rfl
  obtain ⟨hm, hst⟩ := Rod.chargeEnds_leaves ρ false
  have k1 : q0.carries ModeS.charge stateRegs q1 := Rod.carries_each _ _ (fun _ _ hr => Rod.carries_fltAP hr) (Rod.carries_refl _ _ _)
  have hactive : q1.state = RS.active := (k1.state (by decide)).trans (hst.trans (Rod.active_of_arming ρ ha))
  obtain ⟨-, -, hcode, hf, -, hn⟩ := Rod.armFail_leaves q1 0x0121 n.val [(0, 1, n.val), (2, 2, 0x0B22)] hactive (by decide)
  have k2 : q0.carries ModeS.charge (fun _ => false) q2 :=
    Rod.carries_armFail _ _ _ rfl rfl rfl (fun _ _ _ _ => rfl) (Rod.carries_each _ _ (fun _ _ hr => Rod.carries_fltAP hr) (Rod.carries_refl _ _ _))
  refine completes_fenced (f := fun ps ρ => ρ.prechargeEnd ps low) (P := fun q => q.md.pre = false ∧ q.md.preOk = false ∧
    q.g Fl.ARM_STAT_FCODE = 0x0121 ∧ q.state = RS.fenced ∧ (∃ n, q.recorded 0x0B22 sevDegrade (drivePage n)) ∧
    q.recorded 0x0121 sevWithdraw 0x001) rfl (by rw [hρ, he]; exact hf) fun q k => ?_
  rw [hρ, he] at k
  obtain ⟨hpre, hok⟩ := Prod.mk.inj ((congrArg ModeS.charge k.2.2.md).trans (k2.md.trans hm))
  exact ⟨hpre, hok, (k.2.2.g _ (by decide) (by decide)).trans hcode, k.1, ⟨n, k.recorded (k2.noted (Rod.noted_fltAP _ _ _ _ _ _ _))⟩,
    k.recorded hn⟩

end Sys2Proof.Machine
end

section
/-! The checks of ARMING advance or fail in their rod (Table 3.5). -/

namespace Sys2Proof.Machine

/-- STANDSTILL_REACHED of an axis below the threshold for one outer period, and of any other. -/
theorem completes_standstillReached (s : State) (r : RodId) (n : Axis) {ρ : Rod} (hρ : (s.rod r).view s.rod = ρ) :
    (ρ.waits n = true → ρ.divisor n ≤ ρ.md.still.get n → completes (.standstillReached r n) s fun t =>
      (t.rod r).waits n = false ∧ (∀ m, m ≠ n → (t.rod r).waits m = ρ.waits m) ∧ (t.rod r).mode = ρ.mode ∧
      (t.rod r).state = ρ.state ∧ ρ.keepsRegs (t.rod r) riseRegs) ∧
    (ρ.waits n = false ∨ ρ.md.still.get n < ρ.divisor n → completes (.standstillReached r n) s fun t => ρ.only (t.rod r) [] ρ) := by
  have he : exec (.standstillReached r n) s = onRod s r fun σ => (σ.view s.rod).standstill n := rfl
  refine ⟨fun hw hd => ?_, fun h => ?_⟩
  · refine completes_onRod (P := fun τ => τ.waits n = false ∧ (∀ m, m ≠ n → τ.waits m = ρ.waits m) ∧ τ.mode = ρ.mode ∧
      τ.state = ρ.state ∧ ρ.keepsRegs τ riseRegs) he ?_
    rw [hρ]
    exact Rod.standstill_due ρ n hw hd
  · refine completes_onRod (P := fun τ => ρ.only τ [] ρ) he ?_
    rw [hρ, Rod.standstill_early ρ n h]
    exact Rod.only_flush_self rfl

/-- Settles O45: the sequence that every such command sets going keeps what the check of its rod has left. -/
theorem armingChecksAdvance : Obligations.ArmingChecksAdvance := by
  unfold Obligations.ArmingChecksAdvance
  intro s r σ ρ rising
  refine ⟨fun path data h => completes_armRelease s r path data h, fun n => completes_standstillReached s r n rfl,
    fun closed => completes_auxContact s r closed, fun hk hc ha h2 hp => completes_kauxTimeout s r hk hc ha h2 hp,
    fun nodes vm n hn ha => ⟨fun h0 h01 h12 h20 => completes_osdLook_calm rfl hn ha h0 h01 h12 h20,
      fun h0 h => completes_osdLook_far rfl hn ha h0 h, fun h1 => completes_osdLow rfl hn ha h1,
      fun h2 h => completes_osdHigh rfl hn ha h2 h, fun h3 => completes_osdFirst rfl hn ha h3,
      fun h4 hc h1 h => completes_osdPassed rfl hn ha h4 hc h1 h, fun h4 hc h1 _ => completes_osdFailed rfl hn ha h4 hc h1⟩,
    fun low hp ha => ⟨fun h => completes_prechargeEnd_passed s r low rfl hp ha h, fun h => completes_prechargeEnd_failed s r low rfl hp ha h⟩⟩

end Sys2Proof.Machine
end

section
/-! Requests, proposals and agreement: what a request changes of REQ_STAT, and what a proposal changes of the mode state (R80, R81, R87 to
R90). -/

namespace Sys2Proof.Machine

/-! ### Changes of the mode state alone -/

/-- Nothing but the registers listed and the mode state has changed. -/
def Rod.onlyMd (ρ q : Rod) (ex : List Nat) : Prop := ρ.only q ex { ρ with md := q.md }

theorem Rod.agrees_md {ρ q : Rod} (h : q.agrees ρ) : q.md = ρ.md := by
  unfold Rod.agrees at h
  rw [h]

section
variable {ρ q : Rod} {ex : List Nat}

theorem Rod.onlyMd_of_only (h : ρ.only q ex ρ) : ρ.onlyMd q ex := by
  unfold Rod.onlyMd
  rw [Rod.agrees_md h.2]
  exact h

theorem Rod.onlyMd_refl (ρ : Rod) (ex : List Nat) : ρ.onlyMd ρ ex := Rod.only_refl ρ ex

theorem Rod.onlyMd_modMd (f : ModeS → ModeS) (h : ρ.onlyMd q ex) : ρ.onlyMd (q.modMd f) ex :=
  ⟨Rod.keepsRegs_regs _ q _ _ rfl h.1, congrArg (Rod.modMd · f) h.2⟩

theorem Rod.onlyMd_send (o : Out) (h : ρ.onlyMd q ex) : ρ.onlyMd (q.send o) ex :=
  ⟨Rod.keepsRegs_regs _ q _ _ rfl h.1, Rod.agrees_trans _ _ _ (Rod.agrees_send q o) h.2⟩

theorem Rod.onlyMd_p (f : Fld) (v : Nat) (hf : f.addr ∈ ex) (h : ρ.onlyMd q ex) : ρ.onlyMd (q.p f v) ex := Rod.only_p f v hf h

theorem Rod.onlyMd_irq (p i : Nat) (hp : Rg.IRQ_RAW p ∈ ex) (h : ρ.onlyMd q ex) : ρ.onlyMd (q.irq p i) ex := by
  unfold Rod.onlyMd
  rw [Rod.irq_md]
  exact Rod.only_irq p i hp h

theorem Rod.onlyMd_fltAP {c sv pg ax ph : Nat} {d : List (Nat × Nat × Nat)} (h : ρ.onlyMd q ex) : ρ.onlyMd (q.fltAP c sv pg ax ph d) ex :=
  Rod.only_fltAP h

theorem Rod.onlyMd_flush (h : ρ.onlyMd q ex) : ρ.onlyMd q.flush ex := by
  unfold Rod.onlyMd
  rw [Rod.flush_md]
  exact Rod.only_flush h

end

/-! ### Agreement and proposals -/

/-- A rod that agrees notes a change of Table 3.4; else it does nothing (R81). -/
theorem Rod.agree_cases (ρ : Rod) :
    ρ.agree = ρ ∨ ∃ m k v, modeStep ρ.mode m = true ∧ ρ.agree = ρ.modMd fun d => { d with agreed := some (m, k, v) } := by
  unfold Rod.agree
  split
  · exact .inl rfl
  · next m hm =>
    have hon : ρ.agreedOn m = true := List.find?_some hm
    unfold Rod.agreedOn at hon
    rw [Bool.and_eq_true] at hon
    exact iteInduction (motive := fun q => q = ρ ∨ ∃ m k v, modeStep ρ.mode m = true ∧ q = ρ.modMd fun d => { d with agreed := some (m, k, v) })
      (fun _ => .inl rfl) (fun _ => .inr ⟨m, _, _, hon.1, rfl⟩)

/-- What agreement and proposals leave of the mode state. -/
def ModeS.unproposed (m : ModeS) : ModeS := { m with props := Tri.rep none, agreed := none }

theorem Rod.agree_md (ρ : Rod) : ∃ a, ρ.agree.md = { ρ.md with agreed := a } := by
  rcases Rod.agree_cases ρ with e | ⟨m, k, v, -, e⟩ <;> rw [e]
  · exact ⟨ρ.md.agreed, rfl⟩
  · exact ⟨some (m, k, v), rfl⟩

theorem Rod.agree_regs (ρ : Rod) : ρ.agree.regs = ρ.regs := by
  rcases Rod.agree_cases ρ with e | ⟨m, k, v, -, e⟩ <;> rw [e]
  rfl

theorem Rod.onlyMd_agree {ρ q : Rod} {ex : List Nat} (h : ρ.onlyMd q ex) : ρ.onlyMd q.agree ex := by
  rcases Rod.agree_cases q with e | ⟨m, k, v, -, e⟩ <;> rw [e]
  · exact h
  · exact Rod.onlyMd_modMd _ h

/-- The rod before it looks whether its proposal is agreed. -/
def Rod.putProposal (ρ : Rod) (m : Nat) : Rod :=
  let same := match ρ.md.props.get ρ.me.idx with
    | none => false
    | some e => e.1 == m
  if same then ρ else (ρ.modMd fun d => { d with props := d.props.set ρ.me.idx (some (m, ρ.ft)) }).send (.propose m)

theorem Rod.propose_eq (ρ : Rod) (m : Nat) : ρ.propose m = (ρ.putProposal m).agree := by
  unfold Rod.propose Rod.putProposal
  exact (apply_ite Rod.agree _ _ _).symm

theorem Rod.putProposal_cases (ρ : Rod) (m : Nat) :
    (∃ t, ρ.md.props.get ρ.me.idx = some (m, t) ∧ ρ.putProposal m = ρ) ∨
      ρ.putProposal m = (ρ.modMd fun d => { d with props := d.props.set ρ.me.idx (some (m, ρ.ft)) }).send (.propose m) := by
  unfold Rod.putProposal
  dsimp only
  cases he : ρ.md.props.get ρ.me.idx with
  | none => exact .inr (if_neg Bool.false_ne_true)
  | some e =>
    by_cases hm : e.1 = m
    · exact .inl ⟨e.2, by rw [← hm], if_pos (by simpa using hm)⟩
    · exact .inr (if_neg (by simpa using hm))

theorem Rod.onlyMd_propose {ρ q : Rod} {ex : List Nat} (m : Nat) (h : ρ.onlyMd q ex) : ρ.onlyMd (q.propose m) ex := by
  rw [Rod.propose_eq]
  refine Rod.onlyMd_agree ?_
  rcases Rod.putProposal_cases q m with ⟨t, -, e⟩ | e <;> rw [e]
  · exact h
  · exact Rod.onlyMd_send _ (Rod.onlyMd_modMd _ h)

/-- A proposal stands under the rod's name (R81), and nothing of the mode state but proposals and agreement changes. -/
theorem Rod.propose_leaves (ρ : Rod) (m : Nat) :
    ((ρ.propose m).md.props.get ρ.me.idx).map (·.1) = some m ∧ (ρ.propose m).md.unproposed = ρ.md.unproposed ∧
      (ρ.propose m).regs = ρ.regs := by
  obtain ⟨a, ha⟩ := Rod.agree_md (ρ.putProposal m)
  rw [Rod.propose_eq, ha, Rod.agree_regs]
  rcases Rod.putProposal_cases ρ m with ⟨t, ht, e⟩ | e <;> rw [e]
  · exact ⟨by simp [ht], rfl, rfl⟩
  · refine ⟨?_, rfl, rfl⟩
    show ((ρ.md.props.set ρ.me.idx (some (m, ρ.ft))).get ρ.me.idx).map (·.1) = some m
    simp [Tri.get_set]

/-! ### A request for SAFE -/

theorem Rod.decidePump_cases (ρ : Rod) (n : Axis) (phase cause : Nat) :
    ρ.decidePump n phase cause = ρ ∨ ∃ f o, ρ.decidePump n phase cause = (ρ.modPmp n f).send o := by
  unfold Rod.decidePump
  exact iteInduction (motive := fun q => q = ρ ∨ ∃ f o, q = (ρ.modPmp n f).send o) (fun _ => .inr ⟨_, _, rfl⟩) (fun _ => .inl rfl)

theorem Rod.decidePump_md (ρ : Rod) (n : Axis) (phase cause : Nat) : (ρ.decidePump n phase cause).md = ρ.md := by
  rcases Rod.decidePump_cases ρ n phase cause with e | ⟨f, o, e⟩ <;> rw [e]
  rfl

theorem Rod.decidePump_regs (ρ : Rod) (n : Axis) (phase cause : Nat) : (ρ.decidePump n phase cause).regs = ρ.regs := by
  rcases Rod.decidePump_cases ρ n phase cause with e | ⟨f, o, e⟩ <;> rw [e]
  rfl

/-- The role safe state of an axis: the axis is in it, of the mode state ASC and the park-hold may change, and no register does. -/
theorem Rod.applySafe_leaves (ρ : Rod) (n : Axis) :
    (∃ a p, (ρ.applySafe n).md = { ρ.md with safeAx := ρ.md.safeAx.set n true, asc := a, park := p }) ∧ (ρ.applySafe n).regs = ρ.regs := by
  unfold Rod.applySafe
  dsimp only
  split
  · split
    · exact ⟨⟨_, _, rfl⟩, rfl⟩
    · exact ⟨⟨_, _, rfl⟩, rfl⟩
  · split
    · exact ⟨⟨_, _, rfl⟩, rfl⟩
    · split
      · rw [Rod.decidePump_md, Rod.decidePump_regs]
        exact ⟨⟨_, _, rfl⟩, rfl⟩
      · exact ⟨⟨_, _, rfl⟩, rfl⟩

theorem Rod.carries_applySafe {β : Type} {V : ModeS → β} {K : Nat → Bool} {ρ q : Rod} (n : Axis)
    (hV : ∀ (m : ModeS) (a b : Tri Bool) (p : Bool), V { m with safeAx := a, asc := b, park := p } = V m) (h : ρ.carries V K q) :
    ρ.carries V K (q.applySafe n) := by
  have h1 : ρ.carries V K { q with md := { q.md with safeAx := q.md.safeAx.set n true } } := Rod.carries_same h rfl (hV _ _ _ _)
  unfold Rod.applySafe
  dsimp only
  split
  · split
    · exact h1
    · exact Rod.carries_same h rfl (hV _ _ _ _)
  · split
    · exact Rod.carries_same h rfl (hV _ _ _ _)
    · split
      · exact Rod.carries_decidePump _ _ _ h1
      · exact h1

/-- Every axis in its role safe state (R89, R105). -/
def Rod.allSafe (ρ : Rod) : Rod := ρ.each allAxes fun n q => q.applySafe n

theorem Rod.allSafe_safeAx (ρ : Rod) (n : Axis) : ρ.allSafe.md.safeAx.get n = true := by
  have hset (q : Rod) (m : Axis) : (q.applySafe m).md.safeAx.get n = if n = m then true else q.md.safeAx.get n := by
    obtain ⟨⟨a, p, e⟩, -⟩ := Rod.applySafe_leaves q m
    rw [e]
    exact Tri.get_set _ _ _ _
  obtain ⟨q, -, -, he⟩ := Rod.each_visits (fun _ => True) (fun q => q.md.safeAx.get n) (fun n q => q.applySafe n) n allAxes allAxes_nodup
    (mem_allAxes n) (fun _ _ _ => trivial) (fun m _ hm q => by rw [hset, if_neg (Ne.symm hm)]) ρ trivial
  exact he.trans (by rw [hset, if_pos rfl])

theorem Rod.allSafe_regs (ρ : Rod) : ρ.allSafe.regs = ρ.regs :=
  Rod.each_invariant (fun q => q.regs = ρ.regs) _ (fun n q hq => (Rod.applySafe_leaves q n).2.trans hq) _ _ rfl

/-- The mode state but for the role safe states. -/
def ModeS.unsafeParts (m : ModeS) : ModeS := { m with safeAx := Tri.rep false, asc := Tri.rep false, park := false }

theorem Rod.carries_allSafe {β : Type} {V : ModeS → β} {K : Nat → Bool} {ρ q : Rod}
    (hV : ∀ (m : ModeS) (a b : Tri Bool) (p : Bool), V { m with safeAx := a, asc := b, park := p } = V m) (h : ρ.carries V K q) :
    ρ.carries V K q.allSafe := Rod.carries_each _ _ (fun n _ hr => Rod.carries_applySafe n hV hr) h

/-- A request for SAFE is acted on and proposed, and no register changes (R89). -/
theorem Rod.requestSafe_leaves (ρ : Rod) :
    ρ.requestSafe.md.safeReq = true ∧ (∀ n, ρ.requestSafe.md.safeAx.get n = true) ∧
      (ρ.requestSafe.md.props.get ρ.me.idx).map (·.1) = some SM.safe ∧ ρ.requestSafe.regs = ρ.regs := by
  let q := (ρ.modMd fun d => { d with safeReq := true }).allSafe
  have hq : (ρ.modMd fun d => { d with safeReq := true }).carries ModeS.unsafeParts (fun _ => false) q :=
    Rod.carries_allSafe (fun _ _ _ _ => rfl) (Rod.carries_refl _ _ _)
  obtain ⟨hp, hm, hr⟩ := Rod.propose_leaves q SM.safe
  have he : ρ.requestSafe = q.propose SM.safe := rfl
  have hreq : q.md.safeReq = true := congrArg ModeS.safeReq hq.md
  have hme : q.me = ρ.me := hq.me
  rw [he]
  refine ⟨(congrArg ModeS.safeReq hm).trans hreq, fun n => ?_, by rw [← hme]; exact hp, hr.trans (Rod.allSafe_regs _)⟩
  exact (congrArg (Tri.get · n) ((congrArg ModeS.safeAx hm).trans rfl)).trans (Rod.allSafe_safeAx _ n)

end Sys2Proof.Machine
end

section
/-! MODE_REQUEST, its timeout, and a partner's proposal as commands (R81, R87 to R90). -/

namespace Sys2Proof.Machine

/-! ### The outcome of a request -/

/-- A request is noted: REQ_STAT shows it pending, with nothing of an earlier one (log entry 31). -/
def Rod.asked (ρ : Rod) (data : Word) : Rod :=
  let t := wBits data 0 3
  ((((((ρ.p Fl.MODE_REQ_KEY (wBits data 8 8)).p Fl.MODE_REQ_TARGET t).p Fl.REQ_STAT_DONE 0).p Fl.REQ_STAT_REFUSED 0).p
    Fl.REQ_STAT_REASON 0).p Fl.REQ_STAT_TARGET t).p Fl.REQ_STAT_PENDING 1

theorem Rod.only_asked (ρ : Rod) (data : Word) : ρ.only (ρ.asked data) [Rg.MODE_REQ, Rg.REQ_STAT] ρ := by
  have hreq : Rg.REQ_STAT ∈ [Rg.MODE_REQ, Rg.REQ_STAT] := by decide
  refine Rod.only_p Fl.REQ_STAT_PENDING _ hreq (Rod.only_p Fl.REQ_STAT_TARGET _ hreq (Rod.only_p Fl.REQ_STAT_REASON _ hreq ?_))
  refine Rod.only_p Fl.REQ_STAT_REFUSED _ hreq (Rod.only_p Fl.REQ_STAT_DONE _ hreq ?_)
  exact Rod.only_p Fl.MODE_REQ_TARGET _ (.head _) (Rod.only_p Fl.MODE_REQ_KEY _ (.head _) (Rod.only_refl _ _))

theorem Rod.asked_me (ρ : Rod) (data : Word) : (ρ.asked data).me = ρ.me := by
  unfold Rod.asked
  simp only [Rod.p_me]

theorem Rod.asked_md (ρ : Rod) (data : Word) : (ρ.asked data).md = ρ.md := by
  unfold Rod.asked
  simp only [Rod.p_md]

theorem Rod.asked_fields (ρ : Rod) (data : Word) :
    (ρ.asked data).b Fl.REQ_STAT_PENDING = true ∧ (ρ.asked data).b Fl.REQ_STAT_REFUSED = false ∧
      (ρ.asked data).b Fl.REQ_STAT_DONE = false ∧ (ρ.asked data).g Fl.REQ_STAT_TARGET = wBits data 0 3 := by
  have ht : wBits data 0 3 % 2 ^ Fl.REQ_STAT_TARGET.w = wBits data 0 3 := Nat.mod_eq_of_lt (wBits_lt data 0 3)
  unfold Rod.asked
  dsimp only
  refine ⟨Rod.b_p _ Fl.REQ_STAT_PENDING true (by decide) rfl, ?_, ?_, ?_⟩
  · rw [Rod.b_p_ne _ _ _ _ (by decide) (by decide), Rod.b_p_ne _ _ _ _ (by decide) (by decide), Rod.b_p_ne _ _ _ _ (by decide) (by decide)]
    exact Rod.b_p _ Fl.REQ_STAT_REFUSED false (by decide) rfl
  · rw [Rod.b_p_ne _ _ _ _ (by decide) (by decide), Rod.b_p_ne _ _ _ _ (by decide) (by decide), Rod.b_p_ne _ _ _ _ (by decide) (by decide),
      Rod.b_p_ne _ _ _ _ (by decide) (by decide)]
    exact Rod.b_p _ Fl.REQ_STAT_DONE false (by decide) rfl
  · rw [Rod.g_p_ne _ _ _ _ (by decide) (by decide), Rod.g_p _ _ _ (by decide), ht]

/-- A refused request: its outcome and reason, event 1 and record 0x0102 (R90). -/
theorem Rod.refuse_leaves (ρ : Rod) (reason : Nat) (hr : reason < 256) :
    (ρ.refuse reason).b Fl.REQ_STAT_REFUSED = true ∧ (ρ.refuse reason).b Fl.REQ_STAT_PENDING = false ∧
      (ρ.refuse reason).g Fl.REQ_STAT_REASON = reason ∧ (ρ.refuse reason).b Fl.REQ_STAT_DONE = ρ.b Fl.REQ_STAT_DONE ∧
      (ρ.refuse reason).g Fl.REQ_STAT_TARGET = ρ.g Fl.REQ_STAT_TARGET ∧ (ρ.refuse reason).raised 0x001 1 ∧
      (ρ.refuse reason).noted 0x0102 sevInfo 0x001 := by
  let q := ((ρ.p Fl.REQ_STAT_PENDING 0).p Fl.REQ_STAT_REASON reason).p Fl.REQ_STAT_REFUSED 1
  have k : (q.irq 0x001 1).carries id (fun _ => true) (ρ.refuse reason) := Rod.carries_fltAP (Rod.carries_refl _ _ _)
  have hgw : (ρ.refuse reason).gw Rg.REQ_STAT = q.gw Rg.REQ_STAT := (k.gw _ rfl (by decide)).trans (Rod.gw_irq_ne _ _ _ _ (by decide))
  refine ⟨?_, ?_, ?_, ?_, ?_, k.raised _ _ rfl (Rod.irq_sets _ _ _ (by decide)), Rod.noted_fltAP _ _ _ _ _ _ _⟩
  · exact (Rod.b_congr _ _ Fl.REQ_STAT_REFUSED hgw).trans (Rod.b_p _ Fl.REQ_STAT_REFUSED true (by decide) rfl)
  · rw [Rod.b_congr _ _ Fl.REQ_STAT_PENDING hgw, Rod.b_p_ne _ _ _ _ (by decide) (by decide), Rod.b_p_ne _ _ _ _ (by decide) (by decide)]
    exact Rod.b_p _ Fl.REQ_STAT_PENDING false (by decide) rfl
  · rw [Rod.g_of_gw _ _ Fl.REQ_STAT_REASON hgw, Rod.g_p_ne _ _ _ _ (by decide) (by decide), Rod.g_p _ _ _ (by decide)]
    exact Nat.mod_eq_of_lt hr
  · rw [Rod.b_congr _ _ Fl.REQ_STAT_DONE hgw, Rod.b_p_ne _ _ _ _ (by decide) (by decide), Rod.b_p_ne _ _ _ _ (by decide) (by decide),
      Rod.b_p_ne _ _ _ _ (by decide) (by decide)]
  · rw [Rod.g_of_gw _ _ Fl.REQ_STAT_TARGET hgw, Rod.g_p_ne _ _ _ _ (by decide) (by decide), Rod.g_p_ne _ _ _ _ (by decide) (by decide),
      Rod.g_p_ne _ _ _ _ (by decide) (by decide)]

/-- Table 3.6 has seven reasons. -/
theorem Rod.refuseReason_lt (ρ : Rod) (t : Nat) : ρ.refuseReason t < 256 := by
  unfold Rod.refuseReason
  split_ifs <;> decide

theorem Rod.onlyMd_refuse {ρ q : Rod} {ex : List Nat} (reason : Nat) (hr : Rg.REQ_STAT ∈ ex) (hi : Rg.IRQ_RAW 0x001 ∈ ex)
    (h : ρ.onlyMd q ex) : ρ.onlyMd (q.refuse reason) ex :=
  Rod.onlyMd_fltAP (Rod.onlyMd_irq 0x001 1 hi (Rod.onlyMd_p Fl.REQ_STAT_REFUSED 1 hr (Rod.onlyMd_p Fl.REQ_STAT_REASON reason hr
    (Rod.onlyMd_p Fl.REQ_STAT_PENDING 0 hr h))))

theorem Rod.refuse_md (ρ : Rod) (reason : Nat) : (ρ.refuse reason).md = ρ.md := by
  unfold Rod.refuse
  dsimp only [Rod.flt]
  rw [Rod.fltAP_md, Rod.irq_md, Rod.p_md, Rod.p_md, Rod.p_md]

/-! ### A write of MODE_REQ -/

theorem Rod.writeReg_MODE_REQ (ρ : Rod) (ps : RodId → Rod) (path : Nat) (data : Word) :
    ρ.writeReg ps path Rg.MODE_REQ data = ρ.writeModeReq path data := by
  unfold Rod.writeReg
  simp [Rg.MODE_REQ]

section
variable (ρ : Rod) (path : Nat) (data : Word)

theorem Rod.writeModeReq_wrongKey (h : wBit data 31 = true) (hk : wBits data 8 8 ≠ 0x5A) :
    ρ.writeModeReq path data = ρ.errCap 0x001 0x6 path 0x44 data := if_pos ⟨h, hk⟩

theorem Rod.writeModeReq_plain (h : wBit data 31 = false) :
    ρ.writeModeReq path data = (ρ.p Fl.MODE_REQ_KEY (wBits data 8 8)).p Fl.MODE_REQ_TARGET (wBits data 0 3) := by
  unfold Rod.writeModeReq
  rw [if_neg (by simp [h])]
  exact if_pos h

variable (h : wBit data 31 = true) (hk : wBits data 8 8 = 0x5A)
include h hk

theorem Rod.writeModeReq_refused (hr : ρ.refuseReason (wBits data 0 3) ≠ 0) :
    ρ.writeModeReq path data = (ρ.asked data).refuse (ρ.refuseReason (wBits data 0 3)) := by
  unfold Rod.writeModeReq
  rw [if_neg (fun e => e.2 hk)]
  dsimp only
  rw [if_neg (by simp [h])]
  split
  · next e => exact absurd e hr
  · rfl

theorem Rod.writeModeReq_taken (hr : ρ.refuseReason (wBits data 0 3) = 0) :
    ρ.writeModeReq path data = if wBits data 0 3 = SM.safe then (ρ.asked data).requestSafe else (ρ.asked data).propose (wBits data 0 3) := by
  unfold Rod.writeModeReq
  rw [if_neg (fun e => e.2 hk)]
  dsimp only
  rw [if_neg (by simp [h]), hr]
  rfl

end

section
variable (s : State) (r : RodId) (path : Path) (data : Word) (hacc : (s.rod r).accepts path Rg.MODE_REQ)
include hacc

/-- What MODE_REQUEST leaves of the rod it is written to. -/
theorem completes_modeRequest {P : Rod → Prop} (h : P ((s.rod r).writeModeReq path.code data).flush) :
    completes (.modeRequest r path data) s fun t => P (t.rod r) := by
  obtain ⟨t, ht, e⟩ := exec_registerWrite_accepts s r path Rg.MODE_REQ data hacc (by decide) (by decide)
  rw [Rod.writeReg_MODE_REQ] at e
  exact ⟨t, ht, by dsimp only; rwa [e]⟩

/-- The wrong KEY is captured with TYPE 6 (R87). -/
theorem completes_modeRequest_wrongKey (h : wBit data 31 = true) (hk : wBits data 8 8 ≠ 0x5A) :
    completes (.modeRequest r path data) s fun t =>
      (t.rod r).b (Fl.ERRCAP_0_VALID 0x001) = true ∧
      ((s.rod r).b (Fl.ERRCAP_0_VALID 0x001) = false → (t.rod r).g (Fl.ERRCAP_0_TYPE 0x001) = 6) ∧
      (s.rod r).only (t.rod r) [Rg.ERRCAP_0 0x001, Rg.ERRCAP_1 0x001, Rg.IRQ_RAW 0x001] (s.rod r) := by
  refine completes_modeRequest s r path data hacc (P := fun q => q.b (Fl.ERRCAP_0_VALID 0x001) = true ∧ (_ → q.g (Fl.ERRCAP_0_TYPE 0x001) = 6) ∧
    (s.rod r).only q [Rg.ERRCAP_0 0x001, Rg.ERRCAP_1 0x001, Rg.IRQ_RAW 0x001] (s.rod r)) ?_
  rw [Rod.writeModeReq_wrongKey _ _ _ h hk]
  refine ⟨?_, fun hv => ?_, Rod.only_flush (Rod.only_errCap _ _ _ _ _ _)⟩
  · rw [Rod.flush_b _ _ (by decide)]
    exact Rod.errCap_valid _ _ _ _ _ _
  · obtain ⟨-, -, htype, -⟩ := Rod.errCap_captures (s.rod r) 0x001 0x6 path.code 0x44 data hv (by decide) (path_code_lt path) (by decide)
    exact htype

/-- Without REQ the register is written, and no more. -/
theorem completes_modeRequest_plain (h : wBit data 31 = false) :
    completes (.modeRequest r path data) s fun t => (s.rod r).only (t.rod r) [Rg.MODE_REQ] (s.rod r) := by
  refine completes_modeRequest s r path data hacc (P := fun q => (s.rod r).only q [Rg.MODE_REQ] (s.rod r)) ?_
  rw [Rod.writeModeReq_plain _ _ _ h]
  exact Rod.only_flush (Rod.only_p Fl.MODE_REQ_TARGET _ (.head _) (Rod.only_p Fl.MODE_REQ_KEY _ (.head _) (Rod.only_refl _ _)))

variable (h : wBit data 31 = true) (hk : wBits data 8 8 = 0x5A)
include h hk

/-- A request that Tables 3.4 and 3.6 refuse. -/
theorem completes_modeRequest_refused (hr : (s.rod r).refuseReason (wBits data 0 3) ≠ 0) :
    completes (.modeRequest r path data) s fun t =>
      (t.rod r).b Fl.REQ_STAT_REFUSED = true ∧ (t.rod r).b Fl.REQ_STAT_PENDING = false ∧ (t.rod r).b Fl.REQ_STAT_DONE = false ∧
      (t.rod r).g Fl.REQ_STAT_REASON = (s.rod r).refuseReason (wBits data 0 3) ∧ (t.rod r).g Fl.REQ_STAT_TARGET = wBits data 0 3 ∧
      (t.rod r).raised 0x001 1 ∧ (t.rod r).recorded 0x0102 sevInfo 0x001 ∧
      (s.rod r).only (t.rod r) [Rg.MODE_REQ, Rg.REQ_STAT, Rg.IRQ_RAW 0x001] (s.rod r) := by
  generalize hσ : s.rod r = σ at hr
  let τ := (σ.asked data).refuse (σ.refuseReason (wBits data 0 3))
  obtain ⟨-, -, hdone, htarget⟩ := Rod.asked_fields σ data
  obtain ⟨hrefused, hpending, hreason, hdone', htarget', hev, hn⟩ := Rod.refuse_leaves (σ.asked data) _ (Rod.refuseReason_lt σ (wBits data 0 3))
  have honly : σ.only τ [Rg.MODE_REQ, Rg.REQ_STAT, Rg.IRQ_RAW 0x001] σ := by
    have hreq : Rg.REQ_STAT ∈ [Rg.MODE_REQ, Rg.REQ_STAT, Rg.IRQ_RAW 0x001] := by decide
    have h0 := Rod.only_mono (ex' := [Rg.MODE_REQ, Rg.REQ_STAT, Rg.IRQ_RAW 0x001]) (by decide) (Rod.only_asked σ data)
    exact Rod.only_fltAP (Rod.only_irq 0x001 1 (by decide) (Rod.only_p Fl.REQ_STAT_REFUSED 1 hreq (Rod.only_p Fl.REQ_STAT_REASON _ hreq
      (Rod.only_p Fl.REQ_STAT_PENDING 0 hreq h0))))
  refine completes_modeRequest s r path data (hσ ▸ hacc) (P := fun q => q.b Fl.REQ_STAT_REFUSED = true ∧ q.b Fl.REQ_STAT_PENDING = false ∧
    q.b Fl.REQ_STAT_DONE = false ∧ q.g Fl.REQ_STAT_REASON = σ.refuseReason (wBits data 0 3) ∧ q.g Fl.REQ_STAT_TARGET = wBits data 0 3 ∧
    q.raised 0x001 1 ∧ q.recorded 0x0102 sevInfo 0x001 ∧ σ.only q [Rg.MODE_REQ, Rg.REQ_STAT, Rg.IRQ_RAW 0x001] σ) ?_
  rw [hσ, Rod.writeModeReq_refused _ _ _ h hk hr, Rod.flush_b _ _ (by decide), Rod.flush_b _ _ (by decide), Rod.flush_b _ _ (by decide),
    Rod.flush_g _ _ (by decide), Rod.flush_g _ _ (by decide)]
  exact ⟨hrefused, hpending, hdone'.trans hdone, hreason, htarget'.trans htarget, Rod.raised_flush _ _ _ hev,
    Rod.carries.recorded (K := fun _ => false) (Rod.carries_refl id _ _) hn rfl, Rod.only_flush honly⟩

/-- A request that is taken: pending, and proposed; one for SAFE puts every axis in its role safe state first (R89). -/
theorem completes_modeRequest_taken (hr : (s.rod r).refuseReason (wBits data 0 3) = 0) :
    completes (.modeRequest r path data) s fun t =>
      (t.rod r).b Fl.REQ_STAT_PENDING = true ∧ (t.rod r).b Fl.REQ_STAT_REFUSED = false ∧ (t.rod r).g Fl.REQ_STAT_TARGET = wBits data 0 3 ∧
      ((t.rod r).md.props.get (s.rod r).me.idx).map (·.1) = some (wBits data 0 3) ∧
      (wBits data 0 3 = SM.safe → (t.rod r).md.safeReq = true ∧ ∀ n, (t.rod r).md.safeAx.get n = true) ∧
      (wBits data 0 3 ≠ SM.safe → (t.rod r).md.safeAx = (s.rod r).md.safeAx ∧
        (s.rod r).only (t.rod r) [Rg.MODE_REQ, Rg.REQ_STAT] { s.rod r with md := (t.rod r).md }) ∧
      (s.rod r).keepsRegs (t.rod r) [Rg.MODE_REQ, Rg.REQ_STAT] := by
  generalize hσ : s.rod r = σ at hr
  obtain ⟨hpending, hrefused, -, htarget⟩ := Rod.asked_fields σ data
  have shows (τ : Rod) (hτ : τ.regs = (σ.asked data).regs) : τ.flush.b Fl.REQ_STAT_PENDING = true ∧ τ.flush.b Fl.REQ_STAT_REFUSED = false ∧
      τ.flush.g Fl.REQ_STAT_TARGET = wBits data 0 3 ∧ σ.keepsRegs τ.flush [Rg.MODE_REQ, Rg.REQ_STAT] := by
    have hgw := Rod.gw_congr (σ.asked data) τ hτ Rg.REQ_STAT
    rw [Rod.flush_b _ _ (by decide), Rod.flush_b _ _ (by decide), Rod.flush_g _ _ (by decide)]
    exact ⟨(Rod.b_congr _ _ Fl.REQ_STAT_PENDING hgw).trans hpending, (Rod.b_congr _ _ Fl.REQ_STAT_REFUSED hgw).trans hrefused,
      (Rod.g_of_gw _ _ Fl.REQ_STAT_TARGET hgw).trans htarget,
      Rod.keepsRegs_flush _ _ _ (Rod.keepsRegs_regs _ (σ.asked data) _ _ hτ (Rod.only_asked σ data).1)⟩
  refine completes_modeRequest s r path data (hσ ▸ hacc) (P := fun q => q.b Fl.REQ_STAT_PENDING = true ∧ q.b Fl.REQ_STAT_REFUSED = false ∧
    q.g Fl.REQ_STAT_TARGET = wBits data 0 3 ∧ (q.md.props.get σ.me.idx).map (·.1) = some (wBits data 0 3) ∧
    (wBits data 0 3 = SM.safe → q.md.safeReq = true ∧ ∀ n, q.md.safeAx.get n = true) ∧
    (wBits data 0 3 ≠ SM.safe → q.md.safeAx = σ.md.safeAx ∧ σ.onlyMd q [Rg.MODE_REQ, Rg.REQ_STAT]) ∧
    σ.keepsRegs q [Rg.MODE_REQ, Rg.REQ_STAT]) ?_
  rw [hσ, Rod.writeModeReq_taken _ _ _ h hk hr]
  by_cases hs : wBits data 0 3 = SM.safe
  · obtain ⟨hreq, hall, hprop, hregs⟩ := Rod.requestSafe_leaves (σ.asked data)
    obtain ⟨h1, h2, h3, h4⟩ := shows _ hregs
    rw [Rod.asked_me] at hprop
    rw [if_pos hs]
    refine ⟨h1, h2, h3, ?_, fun _ => ?_, fun hn => absurd hs hn, h4⟩
    · rw [Rod.flush_md, hs]
      exact hprop
    · rw [Rod.flush_md]
      exact ⟨hreq, hall⟩
  · obtain ⟨hprop, hmd, hregs⟩ := Rod.propose_leaves (σ.asked data) (wBits data 0 3)
    obtain ⟨h1, h2, h3, h4⟩ := shows _ hregs
    rw [Rod.asked_me] at hprop
    rw [if_neg hs]
    refine ⟨h1, h2, h3, ?_, fun hn => absurd hn hs, fun _ => ⟨?_, ?_⟩, h4⟩
    · rw [Rod.flush_md]
      exact hprop
    · rw [Rod.flush_md]
      have hsafe : ((σ.asked data).propose (wBits data 0 3)).md.unproposed.safeAx = (σ.asked data).md.unproposed.safeAx := congrArg ModeS.safeAx hmd
      rw [Rod.asked_md] at hsafe
      exact hsafe
    · exact Rod.onlyMd_flush (Rod.onlyMd_propose _ (Rod.onlyMd_of_only (Rod.only_asked σ data)))

end

/-! ### The timeout of a request -/

theorem Rod.unpropose_leaves (ρ : Rod) : ρ.unpropose.md.props.get ρ.me.idx = none ∧ ρ.onlyMd ρ.unpropose [] := by
  unfold Rod.unpropose
  split
  · refine ⟨?_, Rod.onlyMd_send _ (Rod.onlyMd_modMd _ (Rod.onlyMd_refl _ _))⟩
    show (ρ.md.props.set ρ.me.idx none).get ρ.me.idx = none
    rw [Tri.get_set, if_pos rfl]
  · next h => exact ⟨by simpa using h, Rod.onlyMd_refl _ _⟩

/-- A request not matched within 10 ms is refused with reason 2, and its proposal withdrawn (R88). -/
theorem completes_requestTimeout (s : State) (r : RodId) (hp : (s.rod r).b Fl.REQ_STAT_PENDING = true) (ha : (s.rod r).md.agreed = none)
    (ht : (s.rod r).g Fl.REQ_STAT_TARGET ≠ SM.safe)
    (hd : ∀ k t0, (s.rod r).md.props.get (s.rod r).me.idx = some (k, t0) → (s.rod r).passed t0 10000000 = true) :
    completes (.modeRequestTimeout r) s fun t =>
      (t.rod r).b Fl.REQ_STAT_REFUSED = true ∧ (t.rod r).b Fl.REQ_STAT_PENDING = false ∧ (t.rod r).g Fl.REQ_STAT_REASON = 2 ∧
      (t.rod r).md.props.get (s.rod r).me.idx = none ∧ (t.rod r).recorded 0x0102 sevInfo 0x001 ∧
      (s.rod r).only (t.rod r) [Rg.REQ_STAT, Rg.IRQ_RAW 0x001] { s.rod r with md := (t.rod r).md } := by
  generalize hσ : s.rod r = σ at hp ha ht hd
  have he : σ.requestTimeout = σ.unpropose.refuse 2 := by
    unfold Rod.requestTimeout
    dsimp only
    split
    · next k t0 hk => exact if_pos ⟨hp, ha, ht, hd k t0 hk⟩
    · exact if_pos ⟨hp, ha, ht, rfl⟩
  obtain ⟨hprop, honly⟩ := Rod.unpropose_leaves σ
  obtain ⟨hrefused, hpending, hreason, -, -, -, hn⟩ := Rod.refuse_leaves σ.unpropose 2 (by decide)
  refine completes_onRod (f := fun ρ => ρ.requestTimeout) (P := fun q => q.b Fl.REQ_STAT_REFUSED = true ∧ q.b Fl.REQ_STAT_PENDING = false ∧
    q.g Fl.REQ_STAT_REASON = 2 ∧ q.md.props.get σ.me.idx = none ∧ q.recorded 0x0102 sevInfo 0x001 ∧
    σ.onlyMd q [Rg.REQ_STAT, Rg.IRQ_RAW 0x001]) rfl ?_
  rw [hσ, he, Rod.flush_b _ _ (by decide), Rod.flush_b _ _ (by decide), Rod.flush_g _ _ (by decide), Rod.flush_md, Rod.refuse_md]
  exact ⟨hrefused, hpending, hreason, hprop, Rod.carries.recorded (K := fun _ => false) (Rod.carries_refl id _ _) hn rfl,
    Rod.onlyMd_flush (Rod.onlyMd_refuse 2 (.head _) (.tail _ (.head _)) (Rod.only_mono (List.nil_subset _) honly))⟩

/-! ### A partner's proposal -/

/-- MODE_PROPOSAL stores what the partner proposes, and the rod looks whether it is agreed (R81). -/
theorem completes_modeProposal (s : State) (r src : RodId) (m : Nat) {ρ : Rod} (hρ : (s.rod r).view s.rod = ρ) (hsrc : src ≠ ρ.me)
    (hm : m ≠ SM.safe ∨ ρ.md.safeReq = true) :
    completes (.modeProposal r src m) s fun t =>
      (t.rod r).md.props.get src.idx = some (m, ρ.ft) ∧ (∀ q, q ≠ src → (t.rod r).md.props.get q.idx = ρ.md.props.get q.idx) ∧
      (∀ k, (t.rod r).md.agreed = some k → ρ.md.agreed = some k ∨ modeStep ρ.mode k.1 = true) ∧
      ρ.only (t.rod r) [] { ρ with md := (t.rod r).md } := by
  let q0 := ρ.modMd fun d => { d with props := d.props.set src.idx (some (m, ρ.ft)) }
  have he : ρ.modeProposal src m = q0.agree := by
    unfold Rod.modeProposal
    rw [if_neg hsrc]
    refine if_neg ?_
    rintro ⟨hs, -, hr, -⟩
    rcases hm with h | h
    · exact h hs
    · rw [h] at hr
      cases hr
  refine completes_onRod (f := fun σ => (σ.view s.rod).modeProposal src m) (P := fun q => q.md.props.get src.idx = some (m, ρ.ft) ∧
    (∀ r', r' ≠ src → q.md.props.get r'.idx = ρ.md.props.get r'.idx) ∧
    (∀ k, q.md.agreed = some k → ρ.md.agreed = some k ∨ modeStep ρ.mode k.1 = true) ∧ ρ.onlyMd q []) rfl ?_
  have hprops : q0.agree.md.props = ρ.md.props.set src.idx (some (m, ρ.ft)) := by
    obtain ⟨a, ha⟩ := Rod.agree_md q0
    rw [ha]
    rfl
  rw [hρ, he, Rod.flush_md, hprops]
  refine ⟨by rw [Tri.get_set, if_pos rfl], fun q hq => by rw [Tri.get_set, if_neg fun e => hq (idx_injective _ _ e)], fun k hk => ?_,
    Rod.onlyMd_flush (Rod.onlyMd_agree (Rod.onlyMd_modMd _ (Rod.onlyMd_refl _ _)))⟩
  rcases Rod.agree_cases q0 with e | ⟨a, b, c, hstep, e⟩ <;> rw [e] at hk
  · exact .inl hk
  · exact .inr ((Option.some.inj hk) ▸ hstep)

end Sys2Proof.Machine
end

section
/-! What the entry to a system mode leaves of the SYS page and of the mode state (R102 to R106, Table 3.3). -/

namespace Sys2Proof.Machine

theorem modeStep_lt (a b : Nat) (h : modeStep a b = true) : b < 8 := by
  unfold modeStep at h
  simp only [List.contains_eq_mem, List.mem_cons, Prod.mk.injEq, List.not_mem_nil, or_false, decide_eq_true_iff] at h
  omega

theorem fbSource_off (n : Axis) : (Fl.FB_STAT_SOURCE n.val).addr / 0x1000 ≠ 1 := by revert n; decide

section
variable {β : Type} {V : ModeS → β} {K : Nat → Bool} {ρ q : Rod} (hK : ∀ a, K a = true → a / 0x1000 = 1)
include hK

theorem causeRegs_off : ∀ a ∈ causeRegs, K a = false := fun a ha => kept_off_page hK (by revert a; decide)

theorem Rod.carries_setSetOn (n : Axis) (on : Bool) (h : ρ.carries V K q) : ρ.carries V K (q.setSetOn n on) :=
  (driveClosed_carries ρ (causeRegs_off hK)).setSetOn n on h

/-! ### Parts of the entries -/

omit hK in
theorem Rod.carries_modRed (f : RedS → RedS) (h : ρ.carries V K q) : ρ.carries V K (q.modRed f) := Rod.carries_same h

omit hK in
theorem Rod.carries_rk (k : RkS) (h : ρ.carries V K q) : ρ.carries V K { q with rk := k } := Rod.carries_same h

omit hK in
theorem Rod.carries_modFb (n : Axis) (f : Fb → Fb) (h : ρ.carries V K q) : ρ.carries V K (q.modFb n f) := Rod.carries_same h

theorem Rod.carries_closeAccess (cause : Nat) (h : ρ.carries V K q) : ρ.carries V K (q.closeAccess cause) := by
  unfold Rod.closeAccess
  split
  · exact h
  · exact Rod.carries_fltAP (Rod.carries_irq _ _ (Rod.carries_p_off hK Fl.SEC_STAT_LEVEL 0 (by decide) h))

theorem Rod.carries_ratchet (n : Axis) (h : ρ.carries V K q) : ρ.carries V K (q.ratchet n) :=
  Rod.carries_p_off hK (Fl.SF_SDI_REF n.val) _ (by revert n; decide) h

theorem Rod.carries_tandemArm (h : ρ.carries V K q) : ρ.carries V K q.tandemArm := by
  unfold Rod.tandemArm
  split
  · exact Rod.carries_modRed _ (Rod.carries_p_off hK Fl.TD_STAT_ACTIVE _ (by decide) (Rod.carries_p_off hK Fl.TD_STAT_EPOCH 1 (by decide) h))
  · exact h

omit hK in
theorem Rod.carries_arverArm (h : ρ.carries V K q) : ρ.carries V K q.arverArm := by
  unfold Rod.arverArm
  split
  · exact h
  · exact Rod.carries_when _ _ (fun _ hp => Rod.carries_fltAP hp) (Rod.carries_each _ _ (fun _ _ hp => Rod.carries_same hp) h)

theorem Rod.carries_bind (crcs : List (Option Word)) (h : ρ.carries V K q) : ρ.carries V K (q.bind crcs).1 := by
  have h1 := Rod.carries_p_off hK Fl.SF_PROF_INDEX (((q.majority.map (·.toNat)).getD 0) % 16) (by decide)
    (Rod.carries_p_off hK Fl.SF_SEAL_SEALED ((q.majority.map (·.toNat)).getD 0) (by decide) h)
  unfold Rod.bind
  refine iteInduction (motive := fun x : Rod × Bool => ρ.carries V K x.1) (fun _ => ?_) (fun _ => ?_)
  · refine Rod.carries_each _ _ (fun n p hp => Rod.carries_p_off hK (Fl.SF_STAT_EN n.val) _ (by revert n; decide) hp) (Rod.carries_modSf _ ?_)
    refine Rod.carries_p_off hK Fl.SF_CRC_CRC _ (by decide) (Rod.carries_p_off hK Fl.SF_ID_ID _ (by decide) ?_)
    exact Rod.carries_p_off hK Fl.SF_PROF_VERSION _ (by decide) (Rod.carries_p_off hK Fl.SF_PROF_BOUND 1 (by decide) h1)
  · exact Rod.carries_fltAP (Rod.carries_p_off hK Fl.SF_PROF_BOUND 0 (by decide) h1)

theorem Rod.carries_sources12 (n : Axis) (h : ρ.carries V K q) : ρ.carries V K (q.sources12 n) := by
  have h1 := Rod.carries_p_off hK (Fl.FB_STAT_S_OK n.val) (b2n (q.sOk n)) (by revert n; decide)
    (Rod.carries_p_off hK (Fl.FB_STAT_Q_OK n.val) (b2n (q.qOk n)) (by revert n; decide) h)
  have h2 (v : Nat) := Rod.carries_p_off hK (Fl.FB_STAT_SOURCE n.val) v (fbSource_off n) h1
  unfold Rod.sources12
  dsimp only
  refine Rod.carries_when _ _ (fun p hp => Rod.carries_setSetOn hK n false (Rod.carries_fltAP (Rod.carries_irq _ _ hp))) ?_
  refine Rod.carries_when _ _ (fun p hp => Rod.carries_when _ _ (fun _ hu => Rod.carries_fltAP hu) (Rod.carries_irq _ _ hp)) ?_
  exact Rod.carries_rk _ (Rod.carries_modFb n _ (h2 _))

theorem Rod.carries_fbStandby (h : ρ.carries V K q) : ρ.carries V K q.fbStandby := by
  refine Rod.carries_each _ _ (fun n p hp => Rod.carries_modFb n _ hp) (Rod.carries_each _ _ (fun n p hp => ?_) h)
  exact Rod.carries_sources12 hK n (Rod.carries_p_off hK (Fl.FB_STAT_LEAK n.val) 0 (by revert n; decide) (Rod.carries_modFb n _ hp))

theorem Rod.carries_sfStandby (hV : ∀ (m : ModeS) (a b : Tri Bool), V { m with safeAx := a, asc := b } = V m) (h : ρ.carries V K q) :
    ρ.carries V K q.sfStandby :=
  Rod.carries_each _ _ (fun n _ hp => Rod.carries_ratchet hK n hp) (Rod.carries_same h rfl (hV _ _ _))

omit hK in
/-- Authority ends: ARM_STAT and the state change, and of the mode state the park-hold, the pre-charge and the diagnostics. -/
theorem Rod.carries_endDrive (hs : K Rg.ROD_STATE = false) (ha : K Rg.ARM_STAT = false)
    (hV : ∀ (m : ModeS) (p : Bool) (n : Nat), V { m with park := p, pre := p, osdSet := n } = V m) (h : ρ.carries V K q) : ρ.carries V K q.endDrive := by
  refine Rod.carries_each _ _ (fun n _ hp => Rod.carries_decidePump n PP.off 0 hp) (Rod.carries_modMd _ (fun m => hV m false 3) ?_)
  refine Rod.carries_p Fl.ARM_STAT_WAIT_AXES 0 ha (Rod.carries_p Fl.ARM_STAT_RUN 0 ha ?_)
  exact Rod.carries_when _ _ (fun _ hp => Rod.carries_enter _ hs hp) h

end

end Sys2Proof.Machine
end

section
/-! The entry to a system mode: the mode registers, what each mode begins, and the request that it answers (R80, R90, R102 to R106). -/

namespace Sys2Proof.Machine

/-! ### The mode registers -/

/-- The mode in force, with its sequence number and voters (R80). -/
def Rod.modeShown (ρ : Rod) (m v : Nat) : Rod :=
  (((((ρ.when (ρ.mode == SM.standby && m != SM.standby) (·.closeAccess 1)).incMod Fl.SYS_MODE_SEQ).p Fl.SYS_MODE_VOTERS v).p
    Fl.SYS_MODE_PREV ρ.mode).p Fl.SYS_MODE_MODE m)

/-- The rod once the mode is set: proposals and agreement are over. -/
def Rod.entered (ρ : Rod) (m v : Nat) : Rod := (ρ.setMode m v).modMd fun d => { d with props := Tri.rep none, agreed := none }

/-- The rest of the entry, after the registers. -/
def Rod.modeNoted (ρ : Rod) (prev m v : Nat) : Rod :=
  ((({ ρ with md := { ρ.md with modeFt := ρ.ft, modeUp := ρ.ck.up, armFenced := ρ.md.armFenced && m != SM.operate } }).irq 0x001 0).flt 0x0101
    sevInfo 0x001 [(0, 1, m), (1, 1, prev), (2, 1, v)]).modMd fun d => { d with props := Tri.rep none, agreed := none }

theorem Rod.entered_eq (ρ : Rod) (m v : Nat) : ρ.entered m v = (ρ.modeShown m v).modeNoted ρ.mode m v := rfl

/-- The part of a rod's mode state that its entry to a mode does not decide. -/
def ModeS.apart (m : ModeS) : ModeS :=
  { m with modeFt := 0, modeUp := 0, armFenced := false, props := Tri.rep none, agreed := none }

theorem Rod.carries_modeNoted {K : Nat → Bool} {ρ q : Rod} (prev m v : Nat) (h : ρ.carries ModeS.apart K q) :
    ρ.carries ModeS.apart K (q.modeNoted prev m v) := by
  have h1 : ρ.carries ModeS.apart K
      { q with md := { q.md with modeFt := q.ft, modeUp := q.ck.up, armFenced := q.md.armFenced && m != SM.operate } } :=
    Rod.carries_same h
  exact Rod.carries_modMd (fun d => { d with props := Tri.rep none, agreed := none }) (fun _ => rfl) (Rod.carries_fltAP (Rod.carries_irq 0x001 0 h1))

/-- The registers of the SYS page but SYS_MODE. -/
def besideMode (a : Nat) : Bool := sysRegs a && a != Rg.SYS_MODE

theorem besideMode_page (a : Nat) (h : besideMode a = true) : a / 0x1000 = 1 := sysRegs_page a (Bool.and_eq_true_iff.1 h).1

/-- The entry leaves the other registers of the page, and the mode state but for what it decides. -/
theorem Rod.carries_entered (ρ : Rod) (m v : Nat) : ρ.carries ModeS.apart besideMode (ρ.entered m v) := by
  rw [Rod.entered_eq]
  refine Rod.carries_modeNoted _ _ _ (Rod.carries_p Fl.SYS_MODE_MODE _ (by decide) (Rod.carries_p Fl.SYS_MODE_PREV _ (by decide) ?_))
  refine Rod.carries_p Fl.SYS_MODE_VOTERS _ (by decide) (Rod.carries_p Fl.SYS_MODE_SEQ _ (by decide) ?_)
  exact Rod.carries_when _ _ (fun _ hp => Rod.carries_closeAccess besideMode_page 1 hp) (Rod.carries_refl _ _ _)

theorem Rod.modeShown_fields (ρ : Rod) (m v : Nat) (hm : m < 8) :
    (ρ.modeShown m v).mode = m ∧ (ρ.modeShown m v).g Fl.SYS_MODE_PREV = ρ.mode ∧
      (ρ.modeShown m v).g Fl.SYS_MODE_SEQ = (ρ.g Fl.SYS_MODE_SEQ + 1) % 256 ∧ (ρ.modeShown m v).g Fl.SYS_MODE_VOTERS = v % 8 := by
  have hc : ρ.carries (fun _ => ()) sysRegs (ρ.when (ρ.mode == SM.standby && m != SM.standby) (·.closeAccess 1)) :=
    Rod.carries_when _ _ (fun _ hp => Rod.carries_closeAccess sysRegs_page 1 hp) (Rod.carries_refl _ _ _)
  have hprev : ρ.mode < 8 := wBits_lt _ _ 3
  unfold Rod.modeShown
  refine ⟨?_, ?_, ?_, ?_⟩
  · unfold Rod.mode
    rw [Rod.g_p _ _ _ (by decide)]
    exact Nat.mod_eq_of_lt hm
  · rw [Rod.g_p_ne _ _ _ _ (by decide) (by decide), Rod.g_p _ _ _ (by decide)]
    exact Nat.mod_eq_of_lt hprev
  · rw [Rod.g_p_ne _ _ _ _ (by decide) (by decide), Rod.g_p_ne _ _ _ _ (by decide) (by decide), Rod.g_p_ne _ _ _ _ (by decide) (by decide),
      ← hc.g Fl.SYS_MODE_SEQ (by decide) (by decide)]
    unfold Rod.incMod
    rw [Rod.g_p _ _ _ (by decide)]
    rfl
  · rw [Rod.g_p_ne _ _ _ _ (by decide) (by decide), Rod.g_p_ne _ _ _ _ (by decide) (by decide), Rod.g_p _ _ _ (by decide)]
    rfl

/-- What a rod shows of the mode that it enters: SYS_MODE, event 0, and record 0x0101 (R80). -/
def Rod.inMode (ρ q : Rod) (m v : Nat) : Prop :=
  q.mode = m ∧ q.g Fl.SYS_MODE_PREV = ρ.mode ∧ q.g Fl.SYS_MODE_SEQ = (ρ.g Fl.SYS_MODE_SEQ + 1) % 256 ∧ q.g Fl.SYS_MODE_VOTERS = v % 8 ∧
    q.md.agreed = none ∧ q.raised 0x001 0 ∧ q.noted 0x0101 sevInfo 0x001

/-- The registers that show the mode, and the agreement. -/
def shownRegs (a : Nat) : Bool := a == Rg.SYS_MODE || a == Rg.IRQ_RAW 0x001

theorem Rod.inMode_carries {ρ q q' : Rod} {m v : Nat} (h : ρ.inMode q m v) (k : q.carries ModeS.agreed shownRegs q') : ρ.inMode q' m v := by
  obtain ⟨hm, hp, hs, hv, ha, hr, hn⟩ := h
  exact ⟨(k.mode (by decide)).trans hm, (k.g _ (by decide) (by decide)).trans hp, (k.g _ (by decide) (by decide)).trans hs,
    (k.g _ (by decide) (by decide)).trans hv, k.md.trans ha, k.raised _ _ (by decide) hr, k.noted hn⟩

theorem Rod.inMode_entered (ρ : Rod) (m v : Nat) (hm : m < 8) : ρ.inMode (ρ.entered m v) m v := by
  obtain ⟨hmode, hprev, hseq, hvoters⟩ := Rod.modeShown_fields ρ m v hm
  have k : (ρ.modeShown m v).carries ModeS.apart (fun _ => true) (ρ.entered m v) := by
    rw [Rod.entered_eq]
    exact Rod.carries_modeNoted _ _ _ (Rod.carries_refl _ _ _)
  have hev : (ρ.entered m v).raised 0x001 0 :=
    Rod.raised_congr (Rod.irq { ρ.modeShown m v with md := _ } 0x001 0) _ _ _ (Rod.gw_congr _ _ rfl _) (Rod.irq_sets _ _ _ (by decide))
  have hn : (ρ.setMode m v).noted 0x0101 sevInfo 0x001 := Rod.noted_fltAP _ _ _ _ _ _ _
  have hn' : (ρ.entered m v).noted 0x0101 sevInfo 0x001 :=
    (Rod.carries_modMd (V := fun _ => ()) (K := fun _ => false) (fun d => { d with props := Tri.rep none, agreed := none }) (fun _ => rfl)
      (Rod.carries_refl _ _ _)).noted hn
  exact ⟨(k.mode rfl).trans hmode, (k.g _ rfl (by decide)).trans hprev, (k.g _ rfl (by decide)).trans hseq,
    (k.g _ rfl (by decide)).trans hvoters, rfl, hev, hn'⟩

/-! ### The request answered -/

/-- A pending request for the mode entered is done (R90). -/
def Rod.requestDone (ρ : Rod) (m : Nat) : Rod :=
  if ρ.b Fl.REQ_STAT_PENDING && decide (ρ.g Fl.REQ_STAT_TARGET = m) then
    ((ρ.p Fl.REQ_STAT_PENDING 0).p Fl.REQ_STAT_DONE 1).irq 0x001 1
  else ρ

theorem Rod.carries_requestDone {β : Type} {V : ModeS → β} {K : Nat → Bool} {ρ q : Rod} (m : Nat) (hK : K Rg.REQ_STAT = false) (h : ρ.carries V K q) :
    ρ.carries V K (q.requestDone m) := by
  unfold Rod.requestDone
  split
  · exact Rod.carries_irq _ _ (Rod.carries_p Fl.REQ_STAT_DONE 1 hK (Rod.carries_p Fl.REQ_STAT_PENDING 0 hK h))
  · exact h

theorem Rod.requestDone_leaves (ρ : Rod) (m : Nat) (hp : ρ.b Fl.REQ_STAT_PENDING = true) (ht : ρ.g Fl.REQ_STAT_TARGET = m) :
    (ρ.requestDone m).b Fl.REQ_STAT_DONE = true ∧ (ρ.requestDone m).b Fl.REQ_STAT_PENDING = false := by
  unfold Rod.requestDone
  rw [if_pos (by simp [hp, ht]), Rod.b_irq_ne _ _ _ _ (by decide), Rod.b_irq_ne _ _ _ _ (by decide)]
  refine ⟨Rod.b_p _ Fl.REQ_STAT_DONE true (by decide) rfl, ?_⟩
  rw [Rod.b_p_ne _ _ _ _ (by decide) (by decide)]
  exact Rod.b_p _ Fl.REQ_STAT_PENDING false (by decide) rfl

end Sys2Proof.Machine
end

section
/-! What each mode brings at its entry (Table 3.3, R102 to R106). -/

namespace Sys2Proof.Machine

/-! ### The entries -/

/-- OPERATE begins (R80, R553): after ARMING the sequence is over. -/
def Rod.beginOperate (ρ : Rod) (prev : Nat) : Rod :=
  let q := ρ.beginDrive.each allAxes fun n q => q.ratchet n
  if prev = SM.arming then
    (((q.p Fl.ARM_STAT_RUN 0).p Fl.ARM_STAT_WAIT_AXES 0).p Fl.ARM_STAT_STEP 6).p Fl.START_TIME_ARM_TIME
      (satN 0xFFFF ((q.ft - q.md.armFt) / 10000))
  else q.modMd fun d => { d with limp := 0 }

/-- What the mode `m` begins in the rod that has just entered it from `prev`; `cause` is the cause of LIMP. -/
def Rod.modeBegins (ρ : Rod) (ps : RodId → Rod) (prev cause m : Nat) : Rod :=
  if m = SM.arming then ρ.beginArming ps
  else if m = SM.operate then ρ.beginOperate prev
  else if m = SM.limp then ρ.beginDrive.flt 0x0130 sevDegrade 0x001 [(0, 1, cause)]
  else if m = SM.safe then ρ.beginSafe
  else if m = SM.standby then ρ.beginStandby prev
  else ρ.beginDormant

theorem Rod.enterMode_eq (ρ : Rod) (ps : RodId → Rod) (m v : Nat) :
    ρ.enterMode ps m v =
      ((((ρ.entered m v).modeBegins ps ρ.mode (if ρ.md.limp = 0 then ρ.limpCause else ρ.md.limp) m).requestDone m).updEn).voteUpdate := rfl

/-- STANDBY up to the release of the safety reactions. -/
def Rod.standbyHead (ρ : Rod) : Rod := ((((ρ.endDrive).p Fl.ARM_STAT_STEP 0).restoreSets).fbStandby).sfStandby

/-- What STANDBY restores after that. -/
def Rod.standbyTail (ρ : Rod) (prev : Nat) : Rod :=
  let ρ2 := ((ρ.releaseSupply).p Fl.K_STAT_STUCK_OPEN 0).modMd fun d => { d with limp := 0, safeReq := false, told := Tri.rep false }
  (ρ2.p Fl.CR_STAT_SPLIT 0).when (prev == SM.dormant) (·.bootTime)

/-- The record of an axis short of rods that ends ARMING. -/
def Rod.standbyShort (ρ : Rod) (prev : Nat) : Rod :=
  match ρ.armedAxes.find? fun n => decide ((ρ.healthySets n).length < 2) with
  | some n => if prev = SM.arming then ρ.fltA 0x0124 sevDegrade 0x001 n [(0, 1, n.val)] else ρ
  | none => ρ

theorem Rod.beginStandby_eq (ρ : Rod) (prev : Nat) : ρ.beginStandby prev = ((ρ.standbyShort prev).standbyHead).standbyTail prev := by
  unfold Rod.beginStandby Rod.standbyHead Rod.standbyTail Rod.standbyShort
  rfl

/-- ARMING starts at step 1. -/
def Rod.armingStarts (ρ : Rod) : Rod :=
  (((ρ.pw Rg.ARM_STAT 0#32).p Fl.ARM_STAT_RUN 1).p Fl.ARM_STAT_STEP 1).modMd fun d =>
    { d with armFt := ρ.ft, released := Tri.rep false, still := Tri.rep 0, waited := Tri.rep false
             osdSet := 3, osdDone := false, pre := false, preOk := false, limp := 0 }

/-- Step 1 of ARMING binds the safety image, or fails (R93). -/
def Rod.armingBinds (ρ : Rod) (crcs : List (Option Word)) : Rod :=
  match ((ρ.tandemArm).arverArm).bind crcs with
  | (ρ4, true) => ρ4.p Fl.ARM_STAT_STEP 2
  | (ρ4, false) => ((ρ4.p Fl.ARM_STAT_FAIL 1).p Fl.ARM_STAT_FCODE 0x0E10).irq 0x001 3

theorem Rod.beginArming_eq (ρ : Rod) (ps : RodId → Rod) :
    ρ.beginArming ps =
      if ρ.state ≠ RS.ready ∧ ρ.state ≠ RS.active then ρ
      else (ρ.armingStarts.enter RS.active).armingBinds ((ρ.me.partners.filter ρ.live).map fun p => ρ.majority.bind (ps p).profCrc) := by
  unfold Rod.beginArming Rod.armingBinds Rod.armingStarts
  rfl

theorem Rod.coil_khs (ρ : Rod) : (ρ.coil false).md.khs = false := by
  unfold Rod.coil
  split
  · assumption
  · rfl

theorem Rod.endDrive_state (ρ : Rod) : ρ.endDrive.state = if ρ.state = RS.active then RS.ready else ρ.state := by
  let q := ρ.when (ρ.state == RS.active) (·.enter RS.ready)
  have k : q.carries (fun _ => ()) stateRegs ρ.endDrive := by
    refine Rod.carries_each _ _ (fun n _ hp => Rod.carries_decidePump n PP.off 0 hp) (Rod.carries_modMd _ (fun _ => rfl) ?_)
    exact Rod.carries_p Fl.ARM_STAT_WAIT_AXES 0 (by decide) (Rod.carries_p Fl.ARM_STAT_RUN 0 (by decide) (Rod.carries_refl _ _ _))
  rw [k.state (by decide)]
  by_cases h : ρ.state = RS.active
  · rw [if_pos h, show q = ρ.enter RS.ready from if_pos (beq_iff_eq.2 h)]
    exact Rod.state_enter _ _ (by decide)
  · rw [if_neg h, show q = ρ from if_neg fun e => h (beq_iff_eq.1 e)]

/-! ### What they leave -/

section
variable {β : Type} {V : ModeS → β} {K : Nat → Bool} {ρ q : Rod} (hK : ∀ a, K a = true → a / 0x1000 = 1)
include hK

omit hK in
theorem Rod.carries_bootTime (ht : K Rg.START_TIME = false) (h : ρ.carries V K q) : ρ.carries V K q.bootTime := by
  unfold Rod.bootTime
  dsimp only
  split
  · exact Rod.carries_p Fl.START_TIME_BOOT_TIME _ ht h
  · have hfree : ρ.carries V K (q.free 16).2 := Rod.carries_same h
    exact Rod.carries_p Fl.START_TIME_BOOT_TIME _ ht hfree

theorem Rod.carries_splitCleared (prev : Nat) (ht : K Rg.START_TIME = false) (h : ρ.carries V K q) :
    ρ.carries V K ((q.p Fl.CR_STAT_SPLIT 0).when (prev == SM.dormant) (·.bootTime)) :=
  Rod.carries_when _ _ (fun _ hp => Rod.carries_bootTime ht hp) (Rod.carries_p_off hK Fl.CR_STAT_SPLIT 0 (by decide) h)

theorem Rod.carries_standbyTail (prev : Nat) (ht : K Rg.START_TIME = false)
    (hV : ∀ (m : ModeS) (l : Nat) (r : Bool) (t : Tri Bool), V { m with limp := l, safeReq := r, told := t } = V m) (h : ρ.carries V K q) :
    ρ.carries V K (q.standbyTail prev) := by
  have hrel : ρ.carries V K q.releaseSupply := by
    unfold Rod.releaseSupply
    split
    · exact Rod.carries_same h
    · exact h
  exact Rod.carries_splitCleared hK prev ht (Rod.carries_modMd _ (fun m => hV m _ _ _) (Rod.carries_p_off hK Fl.K_STAT_STUCK_OPEN 0 (by decide) hrel))

omit hK in
theorem Rod.carries_standbyShort (prev : Nat) (h : ρ.carries V K q) : ρ.carries V K (q.standbyShort prev) := by
  unfold Rod.standbyShort
  split
  · split
    · exact Rod.carries_fltAP h
    · exact h
  · exact h

/-- What STANDBY restores between the end of the drive and the release of the reactions. -/
theorem Rod.carries_standbyRestores (ha : K Rg.ARM_STAT = false) (h : ρ.carries V K q) :
    ρ.carries V K ((q.p Fl.ARM_STAT_STEP 0).restoreSets).fbStandby := by
  refine Rod.carries_fbStandby hK (Rod.carries_each _ _ (fun n _ hp => Rod.carries_setSetOn hK n true hp) ?_)
  exact Rod.carries_p Fl.ARM_STAT_STEP 0 ha h

theorem Rod.carries_standbyHead (hs : K Rg.ROD_STATE = false) (ha : K Rg.ARM_STAT = false)
    (hV : ∀ m m' : ModeS, m'.agreed = m.agreed → V m' = V m) (h : ρ.carries V K q) : ρ.carries V K q.standbyHead :=
  Rod.carries_sfStandby hK (fun m _ _ => hV m _ rfl) (Rod.carries_standbyRestores hK ha (Rod.carries_endDrive hs ha (fun m _ _ => hV m _ rfl) h))

theorem Rod.carries_armingBinds (crcs : List (Option Word)) (ha : K Rg.ARM_STAT = false) (h : ρ.carries V K q) : ρ.carries V K (q.armingBinds crcs) := by
  have hb := Rod.carries_bind hK crcs (Rod.carries_arverArm (Rod.carries_tandemArm hK h))
  unfold Rod.armingBinds
  split
  · next e =>
    rw [e] at hb
    exact Rod.carries_p Fl.ARM_STAT_STEP 2 ha hb
  · next e =>
    rw [e] at hb
    exact Rod.carries_irq _ _ (Rod.carries_p Fl.ARM_STAT_FCODE _ ha (Rod.carries_p Fl.ARM_STAT_FAIL 1 ha hb))

theorem Rod.carries_beginArming (ps : RodId → Rod) (hs : K Rg.ROD_STATE = false) (ha : K Rg.ARM_STAT = false)
    (hV : ∀ m m' : ModeS, m'.agreed = m.agreed → V m' = V m) (h : ρ.carries V K q) : ρ.carries V K (q.beginArming ps) := by
  have h1 : ρ.carries V K q.armingStarts := Rod.carries_modMd _ (fun m => hV m _ rfl)
    (Rod.carries_p Fl.ARM_STAT_STEP 1 ha (Rod.carries_p Fl.ARM_STAT_RUN 1 ha (Rod.carries_pw Rg.ARM_STAT 0#32 ha h)))
  rw [Rod.beginArming_eq]
  split
  · exact h
  · exact Rod.carries_armingBinds hK _ ha (Rod.carries_enter RS.active hs h1)

omit hK in
theorem Rod.carries_beginDrive (hV : ∀ (m : ModeS) (p : Bool), V { m with park := p } = V m) (h : ρ.carries V K q) : ρ.carries V K q.beginDrive := by
  have hpark : ρ.carries V K q.holdPark := Rod.carries_same h rfl (hV _ _)
  refine Rod.carries_each _ _ (fun n p hp => ?_) hpark
  split
  · exact Rod.carries_decidePump _ _ _ hp
  · exact hp

theorem Rod.carries_beginOperate (prev : Nat) (ha : K Rg.ARM_STAT = false) (ht : K Rg.START_TIME = false)
    (hV : ∀ m m' : ModeS, m'.agreed = m.agreed → V m' = V m) (h : ρ.carries V K q) : ρ.carries V K (q.beginOperate prev) := by
  have h1 : ρ.carries V K (q.beginDrive.each allAxes fun n q => q.ratchet n) :=
    Rod.carries_each _ _ (fun n _ hp => Rod.carries_ratchet hK n hp) (Rod.carries_beginDrive (fun m _ => hV m _ rfl) h)
  unfold Rod.beginOperate
  dsimp only
  split
  · refine Rod.carries_p Fl.START_TIME_ARM_TIME _ ht (Rod.carries_p Fl.ARM_STAT_STEP 6 ha ?_)
    exact Rod.carries_p Fl.ARM_STAT_WAIT_AXES 0 ha (Rod.carries_p Fl.ARM_STAT_RUN 0 ha h1)
  · exact Rod.carries_modMd _ (fun m => hV m _ rfl) h1

theorem Rod.carries_beginSafe (hs : K Rg.ROD_STATE = false) (ha : K Rg.ARM_STAT = false)
    (hV : ∀ m m' : ModeS, m'.agreed = m.agreed → V m' = V m) (h : ρ.carries V K q) : ρ.carries V K q.beginSafe := by
  refine Rod.carries_coil false (kept_off_page hK (by decide)) (fun m _ _ => hV m _ rfl) (Rod.carries_fltAP ?_)
  exact Rod.carries_endDrive hs ha (fun m _ _ => hV m _ rfl) (Rod.carries_allSafe (fun m _ _ _ => hV m _ rfl) h)

theorem Rod.carries_beginDormant (h : ρ.carries V K q) : ρ.carries V K q.beginDormant := by
  have h1 : ρ.carries V K { q.flush.toFlash (q.flush.logInOrder.drop (q.flush.logInOrder.length - 64)) with flPend := [] } :=
    Rod.carries_same (Rod.carries_flush (kept_off_page hK (by decide)) h)
  exact Rod.carries_voteUpdate hK (Rod.carries_p_off hK Fl.PWR_HOST_VOTE 0 (by decide) h1)

/-- Of the SYS page a mode changes at most ARM_STAT, ROD_STATE and START_TIME as it begins, and it agrees on nothing. -/
theorem Rod.carries_modeBegins (ps : RodId → Rod) (prev cause m : Nat) (hs : K Rg.ROD_STATE = false) (ha : K Rg.ARM_STAT = false)
    (ht : K Rg.START_TIME = false) (hV : ∀ m m' : ModeS, m'.agreed = m.agreed → V m' = V m) (h : ρ.carries V K q) :
    ρ.carries V K (q.modeBegins ps prev cause m) := by
  unfold Rod.modeBegins
  split
  · exact Rod.carries_beginArming hK ps hs ha hV h
  · split
    · exact Rod.carries_beginOperate hK prev ha ht hV h
    · split
      · exact Rod.carries_fltAP (Rod.carries_beginDrive (fun m _ => hV m _ rfl) h)
      · split
        · exact Rod.carries_beginSafe hK hs ha hV h
        · split
          · rw [Rod.beginStandby_eq]
            exact Rod.carries_standbyTail hK prev ht (fun m _ _ _ => hV m _ rfl) (Rod.carries_standbyHead hK hs ha hV (Rod.carries_standbyShort prev h))
          · exact Rod.carries_beginDormant hK h

end

end Sys2Proof.Machine
end

section
/-! What a rod that has entered a mode shows of it, and what the sequence then leaves of that (R80, R90, Table 3.3). -/

namespace Sys2Proof.Machine

/-! ### What each entry establishes -/

/-- No register at all. -/
def noRegs (_ : Nat) : Bool := false

theorem noRegs_page (a : Nat) (h : noRegs a = true) : a / 0x1000 = 1 := by cases h

theorem stateRegs_page (a : Nat) (h : stateRegs a = true) : a / 0x1000 = 1 := by
  rw [show a = Rg.ROD_STATE from beq_iff_eq.1 h]
  decide

theorem Tri.get_rep {α : Type} (v : α) (i : Fin 3) : (Tri.rep v).get i = v := by
  fin_cases i <;> rfl

/-- STANDBY releases the reactions (R553). -/
theorem Rod.sfStandby_safeAx (ρ : Rod) (n : Axis) : ρ.sfStandby.md.safeAx.get n = false := by
  have k : ({ ρ with md := { ρ.md with safeAx := Tri.rep false, asc := Tri.rep false } } : Rod).carries ModeS.safeAx noRegs ρ.sfStandby :=
    Rod.carries_each _ _ (fun n _ hp => Rod.carries_ratchet noRegs_page n hp) (Rod.carries_refl _ _ _)
  exact (congrArg (Tri.get · n) k.md).trans (Tri.get_rep false n)

/-- In STANDBY no request for SAFE stands (R89). -/
theorem Rod.standbyTail_safeReq (ρ : Rod) (prev : Nat) : (ρ.standbyTail prev).md.safeReq = false :=
  (Rod.carries_splitCleared (V := ModeS.safeReq) noRegs_page prev rfl (Rod.carries_refl _ _ _)).md

/-- In STANDBY no reaction holds, and an ACTIVE rod is READY (R102, R553). -/
theorem Rod.beginStandby_leaves (ρ : Rod) (prev : Nat) :
    (∀ n, (ρ.beginStandby prev).md.safeAx.get n = false) ∧ (ρ.beginStandby prev).md.safeReq = false ∧
      (ρ.state = RS.active → (ρ.beginStandby prev).state = RS.ready) := by
  let q := ρ.standbyShort prev
  rw [Rod.beginStandby_eq]
  refine ⟨fun n => ?_, Rod.standbyTail_safeReq _ _, fun h => ?_⟩
  · have k : q.standbyHead.carries ModeS.safeAx noRegs (q.standbyHead.standbyTail prev) :=
      Rod.carries_standbyTail noRegs_page prev rfl (fun _ _ _ _ => rfl) (Rod.carries_refl _ _ _)
    exact (congrArg (Tri.get · n) k.md).trans (Rod.sfStandby_safeAx _ n)
  · have hq : q.state = ρ.state := (Rod.carries_standbyShort (V := fun _ => ()) (K := stateRegs) prev (Rod.carries_refl _ _ ρ)).state (by decide)
    have hend : q.endDrive.state = RS.ready := by rw [Rod.endDrive_state, hq, if_pos h]
    have k : q.endDrive.carries (fun _ => ()) stateRegs (q.standbyHead.standbyTail prev) :=
      Rod.carries_standbyTail stateRegs_page prev (by decide) (fun _ _ _ _ => rfl) (Rod.carries_sfStandby stateRegs_page (fun _ _ _ => rfl)
        (Rod.carries_standbyRestores stateRegs_page (by decide) (Rod.carries_refl _ _ _)))
    exact (k.state (by decide)).trans hend

/-- In SAFE every axis is in its role safe state, the coil is off, and an ACTIVE rod is READY (R105, R106). -/
theorem Rod.beginSafe_leaves (ρ : Rod) :
    (∀ n, ρ.beginSafe.md.safeAx.get n = true) ∧ ρ.beginSafe.md.khs = false ∧ (ρ.state = RS.active → ρ.beginSafe.state = RS.ready) ∧
      ρ.beginSafe.noted 0x0131 sevSafe 0x001 := by
  have hsafe : ρ.allSafe.carries ModeS.safeAx noRegs ρ.beginSafe :=
    Rod.carries_coil false rfl (fun _ _ _ => rfl) (Rod.carries_fltAP (Rod.carries_endDrive rfl rfl (fun _ _ _ => rfl) (Rod.carries_refl _ _ _)))
  have hstate : ρ.allSafe.state = ρ.state :=
    (Rod.carries_allSafe (V := fun _ => ()) (K := stateRegs) (fun _ _ _ _ => rfl) (Rod.carries_refl _ _ ρ)).state (by decide)
  have hend : ρ.allSafe.endDrive.carries (fun _ => ()) stateRegs ρ.beginSafe :=
    Rod.carries_coil false (by decide) (fun _ _ _ => rfl) (Rod.carries_fltAP (Rod.carries_refl _ _ _))
  refine ⟨fun n => (congrArg (Tri.get · n) hsafe.md).trans (Rod.allSafe_safeAx ρ n), Rod.coil_khs _, fun h => ?_,
    (Rod.carries_coil (V := fun _ => ()) (K := noRegs) false rfl (fun _ _ _ => rfl) (Rod.carries_refl _ _ _)).noted
      (Rod.noted_fltAP _ _ _ _ _ _ _)⟩
  rw [hend.state (by decide), Rod.endDrive_state, hstate, if_pos h]

/-- A READY rod is ACTIVE in ARMING (Table 3.3). -/
theorem Rod.beginArming_state (ρ : Rod) (ps : RodId → Rod) (h : ρ.state = RS.ready) : (ρ.beginArming ps).state = RS.active := by
  rw [Rod.beginArming_eq, if_neg fun e => e.1 h]
  have k := Rod.carries_armingBinds (V := fun _ => ()) stateRegs_page ((ρ.me.partners.filter ρ.live).map fun p => ρ.majority.bind (ps p).profCrc)
    (by decide) (Rod.carries_refl _ _ (ρ.armingStarts.enter RS.active))
  exact (k.state (by decide)).trans (Rod.state_enter _ _ (by decide))

/-- OPERATE after ARMING: the sequence is over. -/
theorem Rod.beginOperate_leaves (ρ : Rod) :
    (ρ.beginOperate SM.arming).g Fl.ARM_STAT_STEP = 6 ∧ (ρ.beginOperate SM.arming).b Fl.ARM_STAT_RUN = false := by
  unfold Rod.beginOperate
  rw [if_pos rfl]
  refine ⟨?_, ?_⟩
  · rw [Rod.g_p_ne _ _ _ _ (by decide) (by decide), Rod.g_p _ _ _ (by decide)]
    rfl
  · rw [Rod.b_p_ne _ _ _ _ (by decide) (by decide), Rod.b_p_ne _ _ _ _ (by decide) (by decide), Rod.b_p_ne _ _ _ _ (by decide) (by decide)]
    exact Rod.b_p _ Fl.ARM_STAT_RUN false (by decide) rfl

/-! ### The end of the entry -/

/-- What the entry ends with: the request answered, the enables and the votes. -/
def Rod.entryEnds (ρ : Rod) (m : Nat) : Rod := ((ρ.requestDone m).updEn).voteUpdate

theorem Rod.carries_entryEnds {β : Type} {V : ModeS → β} {K : Nat → Bool} {ρ q : Rod} (hK : ∀ a, K a = true → a / 0x1000 = 1) (m : Nat)
    (hr : K Rg.REQ_STAT = false) (h : ρ.carries V K q) : ρ.carries V K (q.entryEnds m) :=
  Rod.carries_voteUpdate hK (Rod.carries_updEn (causeRegs_off hK) (Rod.carries_requestDone m hr h))

/-- The request register. -/
def requestRegs (a : Nat) : Bool := a == Rg.REQ_STAT

theorem requestRegs_page (a : Nat) (h : requestRegs a = true) : a / 0x1000 = 1 := by
  rw [show a = Rg.REQ_STAT from beq_iff_eq.1 h]
  decide

theorem shownRegs_page (a : Nat) (h : shownRegs a = true) : a / 0x1000 = 1 := by
  simp only [shownRegs, Bool.or_eq_true, beq_iff_eq] at h
  rcases h with rfl | rfl <;> decide

section
variable (ρ : Rod) (ps : RodId → Rod) (m v : Nat)

/-- The rod as its mode has begun. -/
def Rod.begun : Rod := (ρ.entered m v).modeBegins ps ρ.mode (if ρ.md.limp = 0 then ρ.limpCause else ρ.md.limp) m

theorem Rod.enterMode_ends : ρ.enterMode ps m v = (ρ.begun ps m v).entryEnds m := Rod.enterMode_eq ρ ps m v

/-- The entry shows the mode. -/
theorem Rod.inMode_enterMode (hm : m < 8) : ρ.inMode (ρ.enterMode ps m v) m v := by
  rw [Rod.enterMode_ends]
  exact Rod.inMode_carries (Rod.inMode_entered ρ m v hm) (Rod.carries_entryEnds shownRegs_page m (by decide)
    (Rod.carries_modeBegins shownRegs_page ps _ _ m (by decide) (by decide) (by decide) (fun _ _ e => e) (Rod.carries_refl _ _ _)))

/-- A pending request for the mode is done (R90). -/
theorem Rod.request_enterMode (hp : ρ.b Fl.REQ_STAT_PENDING = true) (ht : ρ.g Fl.REQ_STAT_TARGET = m) :
    (ρ.enterMode ps m v).b Fl.REQ_STAT_DONE = true ∧ (ρ.enterMode ps m v).b Fl.REQ_STAT_PENDING = false := by
  have k1 := Rod.carries_entered ρ m v
  have k2 : (ρ.entered m v).carries (fun _ => ()) requestRegs (ρ.begun ps m v) :=
    Rod.carries_modeBegins requestRegs_page ps _ _ m (by decide) (by decide) (by decide) (fun _ _ _ => rfl) (Rod.carries_refl _ _ _)
  have hgw := (k2.gw Rg.REQ_STAT (by decide) (by decide)).trans (k1.gw _ (by decide) (by decide))
  obtain ⟨hdone, hpending⟩ := Rod.requestDone_leaves (ρ.begun ps m v) m ((Rod.b_congr _ _ Fl.REQ_STAT_PENDING hgw).trans hp)
    ((Rod.g_of_gw _ _ Fl.REQ_STAT_TARGET hgw).trans ht)
  have k3 : ((ρ.begun ps m v).requestDone m).carries (fun _ => ()) requestRegs (ρ.enterMode ps m v) := by
    rw [Rod.enterMode_ends]
    exact Rod.carries_voteUpdate requestRegs_page (Rod.carries_updEn (causeRegs_off requestRegs_page) (Rod.carries_refl _ _ _))
  exact ⟨(k3.b _ (by decide) (by decide)).trans hdone, (k3.b _ (by decide) (by decide)).trans hpending⟩

/-- The registers of the SYS page that the modes decide apart from SYS_MODE. -/
def decidedRegs (a : Nat) : Bool := a == Rg.ROD_STATE || a == Rg.ARM_STAT

theorem decidedRegs_page (a : Nat) (h : decidedRegs a = true) : a / 0x1000 = 1 := by
  simp only [decidedRegs, Bool.or_eq_true, beq_iff_eq] at h
  rcases h with rfl | rfl <;> decide

/-- What the mode has decided stays as the entry ends. -/
theorem Rod.begun_stays : (ρ.begun ps m v).carries id decidedRegs (ρ.enterMode ps m v) := by
  rw [Rod.enterMode_ends]
  exact Rod.carries_entryEnds decidedRegs_page m (by decide) (Rod.carries_refl _ _ _)

theorem Rod.entered_state : (ρ.entered m v).state = ρ.state := (Rod.carries_entered ρ m v).state (by decide)

theorem Rod.begun_standby (hm : m = SM.standby) : ρ.begun ps m v = (ρ.entered m v).beginStandby ρ.mode := by
  unfold Rod.begun
  rw [hm]
  rfl

theorem Rod.begun_safe (hm : m = SM.safe) : ρ.begun ps m v = (ρ.entered m v).beginSafe := by
  unfold Rod.begun
  rw [hm]
  rfl

theorem Rod.begun_arming (hm : m = SM.arming) : ρ.begun ps m v = (ρ.entered m v).beginArming ps := by
  unfold Rod.begun
  rw [hm]
  rfl

theorem Rod.begun_operate (hm : m = SM.operate) : ρ.begun ps m v = (ρ.entered m v).beginOperate ρ.mode := by
  unfold Rod.begun
  rw [hm]
  rfl

theorem Rod.begun_limp (hm : m = SM.limp) :
    ρ.begun ps m v = (ρ.entered m v).beginDrive.flt 0x0130 sevDegrade 0x001 [(0, 1, if ρ.md.limp = 0 then ρ.limpCause else ρ.md.limp)] := by
  unfold Rod.begun
  rw [hm]
  rfl

end

end Sys2Proof.Machine
end

section
/-! MODE_CHANGE: an agreed change waits for its boundary, then takes effect (R80); the settling theorem of the mode requests. -/

namespace Sys2Proof.Machine

/-! ### What the sequence leaves of a mode just entered -/

/-- The registers of the SYS page that no step of the sequence writes. -/
def entryRegs (a : Nat) : Bool := a == Rg.SYS_MODE || a == Rg.IRQ_RAW 0x001 || a == Rg.REQ_STAT

/-- The mode and the request show as in `ρ`, and what it detected is recorded. -/
def Rod.entryKept (ρ q : Rod) : Prop := q.recBuf = [] ∧ ρ.carries ModeS.steady entryRegs q

theorem Rod.entryKept_flush (ρ : Rod) : ρ.entryKept ρ.flush :=
  ⟨Rod.flush_recBuf ρ, Rod.carries_flush (by decide) (Rod.carries_refl _ _ _)⟩

theorem Rod.entryKept_step (ρ q : Rod) (ps : RodId → Rod) (h : ρ.entryKept q) : ρ.entryKept (q.armStep ps).flush :=
  ⟨Rod.flush_recBuf _, Rod.carries_flush (by decide) (Rod.carries_armStep entryRegs (by decide) ρ q ps h.2)⟩

theorem Rod.entryKept.recorded {ρ q : Rod} (h : ρ.entryKept q) {c sv pg : Nat} (hn : ρ.noted c sv pg) : q.recorded c sv pg :=
  Rod.noted.recorded (h.2.noted hn) h.1

theorem Rod.mode_armStep (q : Rod) (ps : RodId → Rod) : (q.armStep ps).flush.mode = q.mode :=
  (Rod.carries_flush (by decide) (Rod.carries_armStep entryRegs (by decide) q q ps (Rod.carries_refl _ _ _))).mode (by decide)

theorem Rod.flush_mode (ρ : Rod) : ρ.flush.mode = ρ.mode := Rod.flush_g ρ Fl.SYS_MODE_MODE (by decide)

theorem not_arming_of_mode (q : Rod) (h : q.mode ≠ SM.arming) : q.arming = false := by
  unfold Rod.arming
  rw [beq_eq_false_iff_ne.2 h]
  rfl

/-- A READY rod outside ARMING stays READY. -/
theorem Rod.ready_armStep (q : Rod) (ps : RodId → Rod) (h : q.mode ≠ SM.arming ∧ q.state = RS.ready) :
    (q.armStep ps).flush.mode ≠ SM.arming ∧ (q.armStep ps).flush.state = RS.ready := by
  obtain ⟨hm, hs⟩ := h
  refine ⟨by rwa [Rod.mode_armStep], (Rod.flush_state _).trans ?_⟩
  rcases Rod.armStep_other q ps (not_arming_of_mode q hm) with e | ⟨hr, -⟩ | ⟨-, -, e⟩
  · rwa [e]
  · exact absurd (hs.symm.trans hr) (by decide)
  · rw [e]
    exact ((Rod.carries_coil (V := fun _ => ()) (K := stateRegs) false (by decide) (fun _ _ _ => rfl) (Rod.carries_refl _ _ q)).state
      (by decide)).trans hs

/-- The register of the sequence. -/
def armRegs (a : Nat) : Bool := a == Rg.ARM_STAT

/-- Outside ARMING no step writes ARM_STAT. -/
theorem Rod.armStat_armStep (w : Word) (q : Rod) (ps : RodId → Rod) (h : q.mode ≠ SM.arming ∧ q.gw Rg.ARM_STAT = w) :
    (q.armStep ps).flush.mode ≠ SM.arming ∧ (q.armStep ps).flush.gw Rg.ARM_STAT = w := by
  obtain ⟨hm, hw⟩ := h
  have h0 : q.carries (fun _ => ()) armRegs q := Rod.carries_refl _ _ _
  have k : q.carries (fun _ => ()) armRegs (q.armStep ps) := by
    rcases Rod.armStep_other q ps (not_arming_of_mode q hm) with e | ⟨-, e | e⟩ | ⟨-, -, e⟩ <;> rw [e]
    · exact h0
    · exact Rod.carries_osdBegin (by decide) (fun _ => rfl) (Rod.carries_modMd _ (fun _ => rfl) (Rod.carries_p Fl.RJ_STAT_STEP 6 (by decide) h0))
    · exact Rod.carries_charges (by decide) (fun _ => rfl) h0
    · exact Rod.carries_coil false (by decide) (fun _ _ _ => rfl) h0
  refine ⟨by rwa [Rod.mode_armStep], ?_⟩
  exact ((Rod.carries_flush (by decide) k).gw _ (by decide) (by decide)).trans hw

/-- Outside ARMING no step turns the coil on. -/
theorem Rod.khs_armStep (q : Rod) (ps : RodId → Rod) (h : q.mode ≠ SM.arming ∧ q.md.khs = false) :
    (q.armStep ps).flush.mode ≠ SM.arming ∧ (q.armStep ps).flush.md.khs = false := by
  obtain ⟨hm, hk⟩ := h
  have h0 : q.carries ModeS.khs noRegs q := Rod.carries_refl _ _ _
  refine ⟨by rwa [Rod.mode_armStep], ?_⟩
  rw [Rod.flush_md]
  rcases Rod.armStep_other q ps (not_arming_of_mode q hm) with e | ⟨-, e | e⟩ | ⟨-, -, e⟩ <;> rw [e]
  · exact hk
  · have k : q.carries ModeS.khs noRegs q.rejoinOsd :=
      Rod.carries_osdBegin (fun _ => rfl) (fun _ => rfl) (Rod.carries_modMd _ (fun _ => rfl) (Rod.carries_p Fl.RJ_STAT_STEP 6 rfl h0))
    exact k.md.trans hk
  · exact (Rod.carries_charges (fun _ _ => rfl) (fun _ => rfl) h0).md.trans hk
  · exact Rod.coil_khs q

theorem Rod.engaged_step (q : Rod) (ps : RodId → Rod) (h : q.engaged) : (q.armStep ps).flush.engaged :=
  engaged_of_state _ _ (Rod.engaged_armStep q ps h) (Rod.flush_state _)

/-! ### The rod after the entry and the sequence -/

/-- `q` has all that `τ` has and every step of the sequence keeps. -/
def Rod.follows (τ q : Rod) : Prop := ∀ I : Rod → Prop, (∀ u ps, I u → I (Rod.armStep u ps).flush) → I τ.flush → I q

theorem Rod.follows.kept {τ q : Rod} (h : τ.follows q) : τ.entryKept q := h τ.entryKept (Rod.entryKept_step τ) (Rod.entryKept_flush τ)

theorem Rod.follows.agreed {τ q : Rod} (h : τ.follows q) : q.md.agreed = τ.md.agreed := by
  have k : q.md.steady.agreed = τ.md.steady.agreed := congrArg ModeS.agreed h.kept.2.md
  exact k

theorem Rod.follows.safeAx {τ q : Rod} (h : τ.follows q) : q.md.safeAx = τ.md.safeAx := by
  have k : q.md.steady.safeAx = τ.md.steady.safeAx := congrArg ModeS.safeAx h.kept.2.md
  exact k

theorem Rod.follows.safeReq {τ q : Rod} (h : τ.follows q) : q.md.safeReq = τ.md.safeReq := by
  have k : q.md.steady.safeReq = τ.md.steady.safeReq := congrArg ModeS.safeReq h.kept.2.md
  exact k

/-- A rod that is READY outside ARMING is so after the sequence. -/
theorem Rod.follows.ready {τ q : Rod} (h : τ.follows q) (hm : τ.mode ≠ SM.arming) (hs : τ.state = RS.ready) : q.state = RS.ready :=
  (h (fun u => u.mode ≠ SM.arming ∧ u.state = RS.ready) Rod.ready_armStep ⟨by rwa [Rod.flush_mode], (Rod.flush_state τ).trans hs⟩).2

section
variable (ρ : Rod) (ps : RodId → Rod) (m v : Nat) {q : Rod} (hf : (ρ.enterMode ps m v).follows q)
include hf

theorem Rod.follows_standby (h : m = SM.standby) :
    (∀ n, q.md.safeAx.get n = false) ∧ q.md.safeReq = false ∧ (ρ.state = RS.active → q.state = RS.ready) := by
  obtain ⟨hsafe, hreq, hstate⟩ := Rod.beginStandby_leaves (ρ.entered m v) ρ.mode
  rw [← Rod.begun_standby ρ ps m v h] at hsafe hreq hstate
  have hb := Rod.begun_stays ρ ps m v
  have hmd : (ρ.enterMode ps m v).md = (ρ.begun ps m v).md := hb.md
  obtain ⟨hmode, -⟩ := Rod.inMode_enterMode ρ ps m v (by rw [h]; decide)
  rw [hf.safeAx, hf.safeReq, hmd]
  exact ⟨hsafe, hreq, fun ha => hf.ready (by rw [hmode, h]; decide)
    ((hb.state (by decide)).trans (hstate ((Rod.entered_state ρ m v).trans ha)))⟩

theorem Rod.follows_arming (h : m = SM.arming) (hs : ρ.state = RS.ready) : q.engaged := by
  have hb : (ρ.begun ps m v).state = RS.active := by
    rw [Rod.begun_arming ρ ps m v h]
    exact Rod.beginArming_state _ _ ((Rod.entered_state ρ m v).trans hs)
  exact hf Rod.engaged Rod.engaged_step (.inl ((Rod.flush_state _).trans (((Rod.begun_stays ρ ps m v).state (by decide)).trans hb)))

theorem Rod.follows_operate (h : m = SM.operate) (hp : ρ.mode = SM.arming) :
    q.g Fl.ARM_STAT_STEP = 6 ∧ q.b Fl.ARM_STAT_RUN = false := by
  obtain ⟨hstep, hrun⟩ := Rod.beginOperate_leaves (ρ.entered m v)
  rw [← hp, ← Rod.begun_operate ρ ps m v h] at hstep hrun
  obtain ⟨hmode, -⟩ := Rod.inMode_enterMode ρ ps m v (by rw [h]; decide)
  have hgw : q.gw Rg.ARM_STAT = (ρ.begun ps m v).gw Rg.ARM_STAT :=
    (hf (fun u => u.mode ≠ SM.arming ∧ u.gw Rg.ARM_STAT = (ρ.begun ps m v).gw Rg.ARM_STAT) (Rod.armStat_armStep _)
      ⟨by rw [Rod.flush_mode, hmode, h]; decide, (Rod.flush_gw _ _ (by decide)).trans ((Rod.begun_stays ρ ps m v).gw _ (by decide) (by decide))⟩).2
  exact ⟨(Rod.g_of_gw _ _ Fl.ARM_STAT_STEP hgw).trans hstep, (Rod.b_congr _ _ Fl.ARM_STAT_RUN hgw).trans hrun⟩

theorem Rod.follows_limp (h : m = SM.limp) : q.recorded 0x0130 sevDegrade 0x001 := by
  refine hf.kept.recorded ((Rod.begun_stays ρ ps m v).noted ?_)
  rw [Rod.begun_limp ρ ps m v h]
  exact Rod.noted_fltAP _ _ _ _ _ _ _

theorem Rod.follows_safe (h : m = SM.safe) :
    (∀ n, q.md.safeAx.get n = true) ∧ q.md.khs = false ∧ q.recorded 0x0131 sevSafe 0x001 ∧ (ρ.state = RS.active → q.state = RS.ready) := by
  obtain ⟨hsafe, hkhs, hstate, hn⟩ := Rod.beginSafe_leaves (ρ.entered m v)
  rw [← Rod.begun_safe ρ ps m v h] at hsafe hkhs hstate hn
  have hb := Rod.begun_stays ρ ps m v
  have hmd : (ρ.enterMode ps m v).md = (ρ.begun ps m v).md := hb.md
  obtain ⟨hmode, -⟩ := Rod.inMode_enterMode ρ ps m v (by rw [h]; decide)
  have hne : (ρ.enterMode ps m v).mode ≠ SM.arming := by rw [hmode, h]; decide
  have hcoil := hf (fun u => u.mode ≠ SM.arming ∧ u.md.khs = false) Rod.khs_armStep
    ⟨by rwa [Rod.flush_mode], by rw [Rod.flush_md, hmd]; exact hkhs⟩
  rw [hf.safeAx, hmd]
  exact ⟨hsafe, hcoil.2, hf.kept.recorded (hb.noted hn),
    fun ha => hf.ready hne ((hb.state (by decide)).trans (hstate ((Rod.entered_state ρ m v).trans ha)))⟩

end

/-! ### MODE_CHANGE -/

section
variable {s : State} {r : RodId} {ρ : Rod} (hρ : (s.rod r).view s.rod = ρ)
include hρ

/-- What MODE_CHANGE leaves: of its rod what every step of the sequence keeps, of the others the mode. -/
theorem completes_modeChange {P : State → Prop} (τ : Rod) (he : ρ.modeChange s.rod = τ)
    (hP : ∀ t : State, τ.follows (t.rod r) → (∀ q, q ≠ r → (t.rod q).mode = (s.rod q).mode) → P t) : completes (.modeChange r) s P := by
  refine ⟨(s.putRod r (((s.rod r).view s.rod).modeChange s.rod).flush).armAll, rfl, hP _ (fun I hI h => ?_) fun q hq => ?_⟩
  · refine State.armAll_rod I r hI _ ?_
    rwa [State.rod_putRod, hρ, he]
  · refine State.armAll_rod (fun u => u.mode = (s.rod q).mode) q (fun u ps hu => (Rod.mode_armStep u ps).trans hu) _ ?_
    rw [State.rod_putRod_ne _ _ _ _ hq]

variable {m k v : Nat} (ha : ρ.md.agreed = some (m, k, v))
include ha

/-- A change whose boundary has not come waits. -/
theorem completes_modeChange_waits (ht : ρ.ticksRun = true) (hk : k ≠ 0) :
    completes (.modeChange r) s fun t => (t.rod r).mode = ρ.mode ∧ (t.rod r).md.agreed = some (m, k, v) := by
  have he : ρ.modeChange s.rod = ρ := by
    unfold Rod.modeChange
    rw [ha]
    exact if_pos ⟨ht, hk⟩
  refine completes_modeChange hρ ρ he fun t hr _ => ?_
  exact ⟨hr.kept.2.mode (by decide), hr.agreed.trans ha⟩

/-- A change whose boundary has come takes effect. -/
theorem completes_modeChange_enters (hd : ρ.ticksRun = false ∨ k = 0) (hm : modeStep ρ.mode m = true) :
    completes (.modeChange r) s fun t =>
      (t.rod r).mode = m ∧ (t.rod r).g Fl.SYS_MODE_PREV = ρ.mode ∧ (t.rod r).g Fl.SYS_MODE_SEQ = (ρ.g Fl.SYS_MODE_SEQ + 1) % 256 ∧
      (t.rod r).g Fl.SYS_MODE_VOTERS = v % 8 ∧ (t.rod r).md.agreed = none ∧ (t.rod r).raised 0x001 0 ∧
      (t.rod r).recorded 0x0101 sevInfo 0x001 ∧
      (ρ.b Fl.REQ_STAT_PENDING = true → ρ.g Fl.REQ_STAT_TARGET = m →
        (t.rod r).b Fl.REQ_STAT_DONE = true ∧ (t.rod r).b Fl.REQ_STAT_PENDING = false) ∧
      (m = SM.standby → (∀ n, (t.rod r).md.safeAx.get n = false) ∧ (t.rod r).md.safeReq = false ∧
        (ρ.state = RS.active → (t.rod r).state = RS.ready)) ∧
      (m = SM.arming → ρ.state = RS.ready → (t.rod r).state = RS.active ∨ (t.rod r).state = RS.fenced) ∧
      (m = SM.operate → ρ.mode = SM.arming → (t.rod r).g Fl.ARM_STAT_STEP = 6 ∧ (t.rod r).b Fl.ARM_STAT_RUN = false) ∧
      (m = SM.limp → (t.rod r).recorded 0x0130 sevDegrade 0x001) ∧
      (m = SM.safe → (∀ n, (t.rod r).md.safeAx.get n = true) ∧ (t.rod r).md.khs = false ∧ (t.rod r).recorded 0x0131 sevSafe 0x001 ∧
        (ρ.state = RS.active → (t.rod r).state = RS.ready)) ∧
      ∀ q, q ≠ r → (t.rod q).mode = (s.rod q).mode := by
  have he : ρ.modeChange s.rod = ρ.enterMode s.rod m v := by
    unfold Rod.modeChange
    rw [ha]
    dsimp only
    rw [if_neg, if_pos hm]
    rintro ⟨ht, hk⟩
    rcases hd with h | h
    · rw [h] at ht
      cases ht
    · exact hk h
  obtain ⟨hmode, hprev, hseq, hvoters, hagreed, hev, hnoted⟩ := Rod.inMode_enterMode ρ s.rod m v (modeStep_lt _ _ hm)
  refine completes_modeChange hρ _ he fun t hf hothers => ?_
  have hc := hf.kept.2
  refine ⟨(hc.mode (by decide)).trans hmode, (hc.g _ (by decide) (by decide)).trans hprev, (hc.g _ (by decide) (by decide)).trans hseq,
    (hc.g _ (by decide) (by decide)).trans hvoters, hf.agreed.trans hagreed, hc.raised _ _ (by decide) hev, hf.kept.recorded hnoted,
    fun hp ht => ?_, Rod.follows_standby ρ s.rod m v hf, Rod.follows_arming ρ s.rod m v hf, Rod.follows_operate ρ s.rod m v hf,
    Rod.follows_limp ρ s.rod m v hf, Rod.follows_safe ρ s.rod m v hf, hothers⟩
  obtain ⟨hdone, hpending⟩ := Rod.request_enterMode ρ s.rod m v hp ht
  exact ⟨(hc.b _ (by decide) (by decide)).trans hdone, (hc.b _ (by decide) (by decide)).trans hpending⟩

end

/-- Settles O44: a request is refused or proposed, and an agreed change enters its mode, which the sequence then leaves in force. -/
theorem modesAreRequestedAndAgreed : Obligations.ModesAreRequestedAndAgreed := by
  unfold Obligations.ModesAreRequestedAndAgreed
  intro s r σ ρ
  refine ⟨fun path data hacc => ⟨fun h hk => completes_modeRequest_wrongKey s r path data hacc h hk,
      fun h => completes_modeRequest_plain s r path data hacc h,
      fun h hk => ⟨fun hr => completes_modeRequest_refused s r path data hacc h hk hr, fun hr => completes_modeRequest_taken s r path data hacc h hk hr⟩⟩,
    fun hp ha ht hd => completes_requestTimeout s r hp ha ht hd, fun src m hsrc hm => completes_modeProposal s r src m rfl hsrc hm,
    fun m k v ha => ⟨fun ht hk => completes_modeChange_waits rfl ha ht hk, fun hd hm => completes_modeChange_enters rfl ha hd hm⟩⟩

end Sys2Proof.Machine
end

section
/-! Time-base frames, captures and time frames: the cluster times that a capture takes (R111 to R115, R160, R670), and the snapshot of FT
(R137). -/

namespace Sys2Proof.Machine

/-! ### Time-base frames -/

/-- The registers that the judgement of a received frame writes (R170, R178, R181). -/
def judgeRegs : List Nat := [Rg.FR_ERR, Rg.FR_SBV, Rg.IRQ_RAW 0x030]

theorem Rod.keepsRegs_inc {ρ q : Rod} {ex : List Nat} (f : Fld) (hf : f.addr ∈ ex) (h : ρ.keepsRegs q ex) : ρ.keepsRegs (q.inc f) ex :=
  Rod.keepsRegs_p _ _ _ _ _ hf h

theorem frErrFld_addr (c : Chan) (err : Fin 3) : (frErrFld c err).addr = Rg.FR_ERR := by
  revert err; cases c <;> decide

theorem Rod.keepsRegs_frViolation (ρ : Rod) (slot : Nat) (c : Chan) : ρ.keepsRegs (ρ.frViolation slot c) judgeRegs := by
  have hfld : (if c = .a then Fl.FR_SBV_SBV_A else Fl.FR_SBV_SBV_B).addr ∈ judgeRegs := by cases c <;> decide
  have hcounted : ρ.keepsRegs ((ρ.inc (if c = .a then Fl.FR_SBV_SBV_A else Fl.FR_SBV_SBV_B)).irq 0x030 3) judgeRegs :=
    Rod.keepsRegs_irq _ _ _ _ _ (by decide) (Rod.keepsRegs_inc _ hfld (Rod.keepsRegs_refl _ _))
  unfold Rod.frViolation
  dsimp only
  split
  · exact Rod.keepsRegs_regs _ _ _ _ rfl hcounted
  · split
    · exact Rod.keepsRegs_regs _ _ _ _ rfl hcounted
    · exact hcounted

theorem Rod.keepsRegs_frJudge (ρ : Rod) (slot : Nat) (c : Chan) (f : Option FrFrame) :
    ρ.keepsRegs (ρ.frJudge slot c f).2 judgeRegs := by
  unfold Rod.frJudge
  split
  · exact Rod.keepsRegs_refl _ _
  · split
    · exact Rod.keepsRegs_refl _ _
    · split
      · exact Rod.keepsRegs_inc _ (by rw [frErrFld_addr]; decide) (Rod.keepsRegs_refl _ _)
      · split
        · exact Rod.keepsRegs_regs _ _ _ _ rfl (Rod.keepsRegs_refl _ _)
        · exact Rod.keepsRegs_frViolation _ _ _

/-- A frame without an error, within its window on a channel in use, is valid (R170). -/
theorem Rod.frJudge_valid (ρ : Rod) (slot : Nat) (c : Chan) (k : FrFrame) (hc : ρ.chanOn c = true) (he : k.err = 0)
    (hw : ρ.frWindow slot k = true) : (ρ.frJudge slot c (some k)).1 = some k := by
  simp [Rod.frJudge, hc, he, hw]

/-- Whether a frame is valid follows from registers that the judgement of the other channel leaves. -/
theorem Rod.frJudge_valid_after {ρ q : Rod} (h : ρ.keepsRegs q judgeRegs) (slot : Nat) (c : Chan) (k : FrFrame)
    (hc : ρ.chanOn c = true) (he : k.err = 0) (hw : ρ.frWindow slot k = true) : (q.frJudge slot c (some k)).1 = some k := by
  have hg (f : Fld) (h1 : f.addr ∉ judgeRegs) (h2 : f.addr ≠ Rg.FL_SEQ) (h3 : f.addr ≠ Rg.IRQ_RAW 0x0D0) : q.g f = ρ.g f :=
    Rod.g_of_gw _ _ _ (h _ h1 h2 h3)
  refine Rod.frJudge_valid q slot c k ?_ he ?_
  · rw [← hc]
    unfold Rod.chanOn Rod.bitOf
    rw [hg Fl.FR_MODE_CH_USE (by decide) (by decide) (by decide)]
  · rw [← hw]
    unfold Rod.frWindow Rod.macroNs
    rw [hg Fl.FR_STATIC_N_STATIC (by decide) (by decide) (by decide), hg Fl.FR_TAIL_APO (by decide) (by decide) (by decide),
      hg Fl.FR_DYN_MINI_APO (by decide) (by decide) (by decide), hg Fl.FR_TIMING_MT (by decide) (by decide) (by decide)]

/-- What a received frame says as a time-base frame (R111). -/
def tbFrameOf (f : FrSlot) (k : FrFrame) : TbFrame := ⟨leAt k.payload 0 8, leAt k.payload 8 1, f.cycle⟩

/-- The valid frame of the slot and channel of TB_CFG is the time-base frame (R111, R160). -/
theorem Rod.tbSlot_eq (ρ : Rod) (f : FrSlot) (k : FrFrame) (hr : ρ.frRuns = true) (hp : ρ.poc ≠ Poc.startup)
    (hk : (if ρ.b Fl.TB_CFG_TB_CH then f.b else f.a) = some k)
    (hc : ρ.chanOn (if ρ.b Fl.TB_CFG_TB_CH then .b else .a) = true) (he : k.err = 0) (hw : ρ.frWindow f.slot k = true)
    (hs : f.slot = ρ.g Fl.TB_CFG_TB_SLOT) (hn : k.null = false) :
    ρ.tbSlot f = ρ.timeBaseFrame (tbFrameOf f k) := by
  have hpick : pickChan (ρ.b Fl.TB_CFG_TB_CH) (ρ.frJudged f).1 (ρ.frJudged f).2.1 = some k := by
    cases hb : ρ.b Fl.TB_CFG_TB_CH with
    | false =>
      rw [hb, if_neg Bool.false_ne_true] at hk hc
      show (ρ.frJudge f.slot .a f.a).1 = some k
      rw [hk]
      exact Rod.frJudge_valid ρ f.slot .a k hc he hw
    | true =>
      rw [hb, if_pos rfl] at hk hc
      show ((ρ.frJudge f.slot .a f.a).2.frJudge f.slot .b f.b).1 = some k
      rw [hk]
      exact Rod.frJudge_valid_after (Rod.keepsRegs_frJudge ρ f.slot .a f.a) f.slot .b k hc he hw
  have hcap : ρ.tbSlot f = ρ.tbCapture f (ρ.frJudged f).1 (ρ.frJudged f).2.1 := if_pos (by simp [hr, hp])
  rw [hcap]
  unfold Rod.tbCapture
  rw [hpick]
  exact if_pos ⟨hs, hn⟩

/-- The rod with a new base (R113). -/
def Rod.rebased (ρ : Rod) (base cycle : Nat) : Rod := { ρ with tb := { ρ.tb with base := some (base, cycle), cand := none } }

/-- A frame whose counter does not match its cycle is ignored (R113). -/
theorem Rod.timeBaseFrame_mismatch (ρ : Rod) (f : TbFrame) (h : f.counter ≠ f.cycle % 64) : ρ.timeBaseFrame f = ρ :=
  if_pos (.inl h)

/-- The first frame is the base (R113). -/
theorem Rod.timeBaseFrame_first (ρ : Rod) (f : TbFrame) (h : f.counter = f.cycle % 64) (hb : ρ.tb.base = none) (hc : ρ.tb.cand = none) :
    ρ.timeBaseFrame f = ρ.rebased f.base f.cycle := by
  simp [Rod.timeBaseFrame, Rod.rebased, h, hb, hc]

/-- The distance of a frame's base from what the base in force gives for its cycle, in ns (R113). -/
def Rod.baseOff (ρ : Rod) (f : TbFrame) (b c : Nat) : Nat := ((f.base : Int) - ((b : Int) + ((f.cycle : Int) - c) * ρ.cycleNs)).natAbs

/-- A frame near the base in force is the new base (R113). -/
theorem Rod.timeBaseFrame_near (ρ : Rod) (f : TbFrame) (b c : Nat) (h : f.counter = f.cycle % 64) (hb : ρ.tb.base = some (b, c))
    (hne : c ≠ f.cycle) (hc : ρ.tb.cand = none) (hoff : ρ.baseOff f b c ≤ ρ.g Fl.DISC_CFG_OUT_LIM) :
    ρ.timeBaseFrame f = ρ.rebased f.base f.cycle := by
  unfold Rod.baseOff at hoff
  simp [Rod.timeBaseFrame, Rod.rebased, h, hb, hc, hne, hoff]

/-- A frame away from it is kept as candidate (R113). -/
theorem Rod.timeBaseFrame_far (ρ : Rod) (f : TbFrame) (b c : Nat) (h : f.counter = f.cycle % 64) (hb : ρ.tb.base = some (b, c))
    (hne : c ≠ f.cycle) (hc : ρ.tb.cand = none) (hoff : ρ.g Fl.DISC_CFG_OUT_LIM < ρ.baseOff f b c) :
    ρ.timeBaseFrame f = ({ ρ with tb := { ρ.tb with cand := some (f.base, f.cycle) } }).flt 0x0267 sevWarn 0x040
      [(0, 1, ρ.me.code), (8, 8, f.base)] := by
  unfold Rod.baseOff at hoff
  simp [Rod.timeBaseFrame, h, hb, hc, hne, Nat.not_le.2 hoff]

/-- What a change of parts of the state outside the registers leaves, once the records are written. -/
theorem Rod.only_flush_parts {ρ q : Rod} (hr : q.regs = ρ.regs) : ρ.only q.flush [] q :=
  Rod.only_flush ⟨Rod.keepsRegs_regs _ _ _ _ hr (Rod.keepsRegs_refl _ _), Rod.agrees_refl _⟩

/-- A fault detected by the last change of a command is recorded. -/
theorem Rod.recorded_fltAP (q : Rod) (c sv pg ax ph : Nat) (d : List (Nat × Nat × Nat)) : (q.fltAP c sv pg ax ph d).flush.recorded c sv pg :=
  Rod.recorded_flush _ _ (Rod.fltAP_mem q c sv pg ax ph d) _ _ _ rfl rfl rfl rfl

/-! ### Captures and time frames -/

/-- The rod with its receive window open for the capture at the FT in force: of the cluster errors only its own is in hand (R115). -/
def Rod.windowOpened (ρ : Rod) (own : Option Int) : Rod :=
  { ρ with fresh := ρ.fresh + 1
           tb := { ρ.tb with open_ := true, capFt := ρ.ft, errs := (Tri.rep none).set ρ.me.idx own, offs := Tri.rep none } }

/-- The message of a capture: the own cluster time and FT, and an FT of sending within 5 µs (log entry 67). -/
def Rod.captureMsg (ρ : Rod) (pos : ClusterPos) (phase : Nat) : TimeMsg :=
  ⟨ρ.ownTimeValid pos, ρ.clusterTime pos, ρ.ftPs phase, ρ.ftPs phase + 1000 * (min (ρ.free 13).1 5000 : Nat)⟩

/-- A capture instant brings FT to its instant, opens the window and sends the capture (R114, R115). -/
theorem Rod.timeCapture_eq (ρ : Rod) (ft : Nat) (pos : ClusterPos) (phase : Nat) (hs : RS.sync ≤ ρ.state) (hc : ρ.clkOn 3 = true)
    (ha : (ρ.atFt ft).atCapture = true) :
    let q := ρ.atFt ft
    ρ.timeCapture ft pos phase =
      (q.windowOpened (if q.ownTimeValid pos then some (q.clusterTime pos - q.ftPs phase) else none)).send (.time (q.captureMsg pos phase)) := by
  unfold Rod.timeCapture
  rw [if_neg (by simp [hc, ha, hs])]
  rfl

/-- A partner's time frame within 20 µs of the capture brings its cluster error less the offset of the exchange (R115, R670). -/
theorem Rod.timeFrame_eq (ρ : Rod) (ps : RodId → Rod) (src : RodId) (ft : Nat) (m : TimeMsg) (ho : ρ.tb.open_ = true) (hs : src ≠ ρ.me)
    (hf : (ρ.atFt ft).ft ≤ ρ.tb.capFt + 20000) :
    let q := ρ.atFt ft
    let δ : Int := q.ftPs 0 - ρ.transit ps src - m.fttx
    ρ.timeFrame ps src ft m = { q with tb := { ρ.tb with
      errs := ρ.tb.errs.set src.idx (if m.valid then some (m.ts - m.fts - δ) else none)
      offs := ρ.tb.offs.set src.idx (some δ)
      takes := ρ.tb.takes.set src.idx ((ps src).tb.used.get ρ.me.idx) } } :=
  if_pos (by simp [ho, hs, hf])

theorem Rod.ftPs_zero (ρ : Rod) : ρ.ftPs 0 = 12500 * ρ.ftn := by
  unfold Rod.ftPs
  omega

/-! ### The snapshot of FT -/

theorem snapCtrl_no_rwl : ((regRow Rg.SNAP_CTRL).any fun k => k.rwl != 0#32) = false := by decide

/-- A write of TAKE copies FT (R137). -/
theorem Rod.writeReg_SNAP_CTRL (ρ : Rod) (ps : RodId → Rod) (path : Nat) (data : Word) :
    ρ.writeReg ps path Rg.SNAP_CTRL data = ρ.writeSnap data := by
  unfold Rod.writeReg
  simp [Rg.SNAP_CTRL]

theorem exec_take_accepts (s : State) (r : RodId) (path : Path) (h : (s.rod r).accepts path Rg.SNAP_CTRL) :
    ∃ t, exec (.take r path) s = .next t ∧ t.rod r = ((s.rod r).writeSnap 1#32).flush := by
  refine ⟨_, write32_accepts s r path _ 1#32 h (retryAxis_none _ _ (by decide)), ?_⟩
  rw [State.rod_putRod, snapCtrl_no_rwl, Rod.when_false, Rod.writeReg_SNAP_CTRL]

theorem Rod.writeSnap_flush (ρ : Rod) :
    let τ := (ρ.writeSnap 1#32).flush
    τ.g Fl.SNAP_FT_LO_FT = ρ.ft % 2 ^ 32 ∧ τ.g Fl.SNAP_FT_HI_FT = ρ.ft / 2 ^ 32 % 2 ^ 32 ∧
    ρ.only τ [Rg.SNAP_FT_LO, Rg.SNAP_FT_HI] ρ := by
  have hw : ρ.writeSnap 1#32 = (ρ.p Fl.SNAP_FT_LO_FT (ρ.ft % 2 ^ 32)).p Fl.SNAP_FT_HI_FT (ρ.ft / 2 ^ 32) := if_pos (by decide)
  dsimp only
  rw [hw, Rod.flush_g _ _ (by decide), Rod.flush_g _ _ (by decide)]
  refine ⟨?_, Rod.g_p _ _ _ (by decide), Rod.only_flush (Rod.only_p _ _ (by decide) (Rod.only_p _ _ (by decide) (Rod.only_refl _ _)))⟩
  rw [Rod.g_p_addr _ _ _ _ (by decide), Rod.g_p _ _ _ (by decide)]
  exact Nat.mod_mod _ _

/-! ### The statement -/

/-- TIME_BASE_FRAME with the time-base frame of its slot. -/
theorem completes_timeBaseFrame {s : State} {r : RodId} {f : FrSlot} {τ : Rod} {P : Rod → Prop} (he : (s.rod r).tbSlot f = τ)
    (h : P τ.flush) : completes (.timeBaseFrame r f) s fun t => P (t.rod r) :=
  completes_onRod (f := fun ρ => ρ.tbSlot f) rfl (by rwa [he])

/-- TIME_CAPTURE at a capture instant. -/
theorem completes_timeCapture (s : State) (r : RodId) (ft : DWord) (pos : ClusterPos) (phase : Nat) {ρ : Rod} (hρ : s.rod r = ρ)
    (hs : RS.sync ≤ ρ.state) (hc : ρ.clkOn 3 = true) (ha : (ρ.atFt ft.toNat).atCapture = true) :
    completes (.timeCapture r ⟨ft, phase⟩ pos) s fun t =>
      let q := ρ.atFt ft.toNat
      let v := q.ownTimeValid pos
      let ts := q.clusterTime pos
      let fts : Int := 12500 * q.ftn + phase
      (t.rod r).ftn = max ρ.ftn ((2 * ft.toNat + 24) / 25) ∧ (t.rod r).tb.open_ = true ∧
      (t.rod r).tb.errs = (Tri.rep none).set ρ.me.idx (if v then some (ts - fts) else none) ∧ (t.rod r).tb.offs = Tri.rep none ∧
      (∃ m : TimeMsg, Out.time m ∈ (t.rod r).out ∧ m.valid = v ∧ m.ts = ts ∧ m.fts = fts ∧ fts ≤ m.fttx ∧ m.fttx ≤ fts + 5000000) ∧
      ρ.only (t.rod r) [] { q with fresh := (t.rod r).fresh
                                   tb := { ρ.tb with open_ := true, capFt := q.ft, errs := (t.rod r).tb.errs, offs := (t.rod r).tb.offs } } := by
  refine ⟨_, rfl, ?_⟩
  dsimp only
  rw [State.rod_putRod, hρ, Rod.timeCapture_eq ρ _ _ _ hs hc ha]
  have hps : (ρ.atFt ft.toNat).ftPs phase = 12500 * ((ρ.atFt ft.toNat).ftn : Int) + phase := by unfold Rod.ftPs; push_cast; rfl
  rw [← hps, Rod.flush_ftn, Rod.flush_tb, Rod.flush_fresh]
  refine ⟨rfl, rfl, rfl, rfl, ⟨_, Rod.flush_send_mem _ _, rfl, rfl, rfl, ?_, ?_⟩, Rod.only_flush_parts rfl⟩
  · unfold Rod.captureMsg; dsimp only; omega
  · unfold Rod.captureMsg; dsimp only; omega

/-- TIME_FRAME of a partner within 20 µs of the capture. -/
theorem completes_timeFrame (s : State) (r src : RodId) (ft : DWord) (m : TimeMsg) {ρ : Rod} (hρ : (s.rod r).view s.rod = ρ)
    (ho : ρ.tb.open_ = true) (hs : src ≠ ρ.me) (hf : (ρ.atFt ft.toNat).ft ≤ ρ.tb.capFt + 20000) :
    completes (.timeFrame r src ⟨ft, m⟩) s fun t =>
      let q := ρ.atFt ft.toNat
      let δ : Int := 12500 * q.ftn - ρ.transit s.rod src - m.fttx
      (t.rod r).tb.errs.get src.idx = (if m.valid then some (m.ts - m.fts - δ) else none) ∧ (t.rod r).tb.offs.get src.idx = some δ ∧
      (∀ i, i ≠ src.idx → (t.rod r).tb.errs.get i = ρ.tb.errs.get i ∧ (t.rod r).tb.offs.get i = ρ.tb.offs.get i) ∧
      ρ.only (t.rod r) [] { q with tb := { ρ.tb with errs := (t.rod r).tb.errs, offs := (t.rod r).tb.offs, takes := (t.rod r).tb.takes } } := by
  refine ⟨_, rfl, ?_⟩
  dsimp only
  rw [State.rod_putRod, hρ, Rod.timeFrame_eq ρ _ _ _ _ ho hs hf, ← Rod.ftPs_zero, Rod.flush_tb]
  refine ⟨by rw [Tri.get_set, if_pos rfl], by rw [Tri.get_set, if_pos rfl], fun i hi => ?_, Rod.only_flush_parts rfl⟩
  exact ⟨by rw [Tri.get_set, if_neg hi], by rw [Tri.get_set, if_neg hi]⟩

/-- Settles O36: the rod's own law of each of the four commands says what it leaves. -/
theorem capturesTakeClusterTimes : Obligations.CapturesTakeClusterTimes := by
  unfold Obligations.CapturesTakeClusterTimes
  intro s r
  dsimp only
  refine ⟨fun f k hr hp hk hc he hw hs hn => ?_, fun ft pos phase hs hc ha => completes_timeCapture s r ft pos phase rfl hs hc ha,
    fun src ft m ho hs hf => completes_timeFrame s r src ft m rfl ho hs hf, fun path h => ?_⟩
  · generalize hρ : s.rod r = ρ at *
    have heq := Rod.tbSlot_eq ρ f k hr hp hk hc he hw hs hn
    rw [← hρ] at heq
    refine ⟨fun h => completes_timeBaseFrame (P := fun τ => ρ.only τ [] ρ) heq ?_,
      fun h hb hcand => completes_timeBaseFrame (P := fun τ => ρ.only τ [] (ρ.rebased _ _)) heq ?_,
      fun b c h hb hne hcand => ⟨fun hoff => completes_timeBaseFrame (P := fun τ => ρ.only τ [] (ρ.rebased _ _)) heq ?_,
        fun hoff => completes_timeBaseFrame (P := fun τ => τ.recorded 0x0267 sevWarn 0x040 ∧ ρ.only τ [] { ρ with tb := _ }) heq ?_⟩⟩
    all_goals rw [hρ]
    · exact Rod.only_flush_self (Rod.timeBaseFrame_mismatch ρ (tbFrameOf f k) h)
    · rw [Rod.timeBaseFrame_first ρ (tbFrameOf f k) h hb hcand]
      exact Rod.only_flush_parts rfl
    · rw [Rod.timeBaseFrame_near ρ (tbFrameOf f k) b c h hb hne hcand hoff]
      exact Rod.only_flush_parts rfl
    · rw [Rod.timeBaseFrame_far ρ (tbFrameOf f k) b c h hb hne hcand hoff]
      exact ⟨Rod.recorded_fltAP _ _ _ _ _ _ _, Rod.only_flush_parts rfl⟩
  · obtain ⟨t, ht, e⟩ := exec_take_accepts s r path h
    exact ⟨t, ht, by dsimp only; rw [e]; exact Rod.writeSnap_flush _⟩

end Sys2Proof.Machine
end

section
/-! LOCKED, the clusters in use and XMOD_OK follow their counts of captures (R117, R118, R120, R124), and SYNC_TIMEOUT (R85). -/

namespace Sys2Proof.Machine

theorem ftStat_not_log : Rg.FT_STAT ∉ logRegs := by decide

/-- A change of parts of the state outside the registers. -/
theorem Rod.only_parts {ρ q : Rod} (ex : List Nat) (hr : q.regs = ρ.regs := by rfl) : ρ.only q ex q :=
  ⟨Rod.keepsRegs_regs _ _ _ _ hr (Rod.keepsRegs_refl _ _), Rod.agrees_refl _⟩

/-! ### LOCKED lost -/

theorem Rod.lockedClear_flush (ρ : Rod) (hn : 16 ≤ ρ.tb.bad) (hl : ρ.b Fl.FT_STAT_LOCKED = true) :
    let τ := ρ.lockedClear.flush
    τ.b Fl.FT_STAT_LOCKED = false ∧ τ.raised 0x040 0 ∧ ρ.only τ [Rg.FT_STAT, Rg.IRQ_RAW 0x040] ρ := by
  have he : ρ.lockedClear = (ρ.p Fl.FT_STAT_LOCKED (b2n false)).irq 0x040 0 := if_pos ⟨hn, hl⟩
  dsimp only
  rw [he, Rod.flush_b _ Fl.FT_STAT_LOCKED ftStat_not_log, Rod.b_irq_ne _ _ _ _ (by decide)]
  exact ⟨Rod.b_p ρ Fl.FT_STAT_LOCKED false (by decide) rfl, Rod.raised_flush _ _ _ (Rod.irq_sets _ _ _ (by decide)),
    Rod.only_flush (Rod.only_irq _ _ (by simp) (Rod.only_p _ _ (by decide) (Rod.only_refl _ _)))⟩

/-! ### Clusters excluded and re-admitted -/

/-- The rod with a cluster out of use, its counts at 0 (R117). -/
def Rod.unused (ρ : Rod) (c : RodId) : Rod :=
  { ρ with tb := { ρ.tb with excl := ρ.tb.excl.set c.idx true, outN := ρ.tb.outN.set c.idx 0, backN := ρ.tb.backN.set c.idx 0
                             used := ρ.tb.used.set c.idx false } }

theorem Rod.srcExcluded_flush (ρ : Rod) (c : RodId) (hv : ρ.b Fl.FT_STAT_VALID = true) (hn : 8 ≤ ρ.tb.outN.get c.idx)
    (he : ρ.tb.excl.get c.idx = false) :
    let τ := (ρ.srcExcluded c).flush
    τ.tb.excl.get c.idx = true ∧ τ.tb.used.get c.idx = false ∧ τ.bitOf Fl.FT_STAT_OUTLIER c.code = false ∧
    τ.recorded 0x0261 sevWarn 0x040 ∧ (∀ i, i ≠ c.idx → τ.tb.excl.get i = ρ.tb.excl.get i) ∧
    ρ.only τ [Rg.FT_STAT] { ρ with tb := τ.tb } := by
  have heq : ρ.srcExcluded c = ((ρ.unused c).clrBit Fl.FT_STAT_OUTLIER c.code).flt 0x0261 sevWarn 0x040
      [(0, 1, c.code), (1, 1, 3), (4, 4, ρ.g (Fl.CT_ERR_ERR c.code))] := if_pos ⟨hn, he, hv⟩
  dsimp only
  rw [heq, Rod.flush_tb, Rod.flt_eq,
    Rod.bitOf_congr _ _ Fl.FT_STAT_OUTLIER ((Rod.flush_gw _ _ ftStat_not_log).trans (Rod.gw_fltAP _ _ _ _ _ _ _ _))]
  refine ⟨(Tri.get_set _ _ _ _).trans (if_pos rfl), (Tri.get_set _ _ _ _).trans (if_pos rfl), ?_, Rod.recorded_fltAP _ _ _ _ _ _ _,
    fun i hi => (Tri.get_set _ _ _ _).trans (if_neg hi), ?_⟩
  · exact Rod.bitOf_clrBit (ρ.unused c) Fl.FT_STAT_OUTLIER (by decide) c.code
  · exact Rod.only_flush (Rod.only_fltAP (Rod.only_p Fl.FT_STAT_OUTLIER _ (by decide) (Rod.only_parts _)))

/-- The rod with a cluster admitted again (R118). -/
def Rod.readmitted (ρ : Rod) (c : RodId) : Rod :=
  { ρ with tb := { ρ.tb with excl := ρ.tb.excl.set c.idx false, backN := ρ.tb.backN.set c.idx 0 } }

theorem Rod.srcReadmitted_flush (ρ : Rod) (c : RodId) (hv : ρ.b Fl.FT_STAT_VALID = true) (hn : 8 ≤ ρ.tb.backN.get c.idx)
    (he : ρ.tb.excl.get c.idx = true) :
    let τ := (ρ.srcReadmitted c).flush
    τ.tb.excl.get c.idx = false ∧ τ.recorded 0x0262 sevInfo 0x040 ∧ (∀ i, i ≠ c.idx → τ.tb.excl.get i = ρ.tb.excl.get i) ∧
    ρ.only τ [] { ρ with tb := τ.tb } := by
  have heq : ρ.srcReadmitted c = (ρ.readmitted c).flt 0x0262 sevInfo 0x040 [(0, 1, c.code)] := if_pos ⟨hn, he, hv⟩
  dsimp only
  rw [heq, Rod.flush_tb]
  exact ⟨(Tri.get_set _ _ _ _).trans (if_pos rfl), Rod.recorded_fltAP _ _ _ _ _ _ _,
    fun i hi => (Tri.get_set _ _ _ _).trans (if_neg hi), Rod.only_flush (Rod.only_fltAP (Rod.only_parts _))⟩

/-! ### XMOD_OK -/

/-- The rod with its holdover expired (R120). -/
def Rod.outlasted (ρ : Rod) : Rod := { ρ with tb := { ρ.tb with expired := true, xmod := 0 } }

/-- A holdover longer than HOLD_LIM, without the tick of slack of log entry 74, has expired. -/
theorem Rod.holdExpired_flush (ρ : Rod) (hh : ρ.b Fl.FT_STAT_HOLD = true) (hx : ρ.tb.expired = false)
    (ht : ρ.tb.holdFt + ρ.g Fl.HOLD_CFG_HOLD_LIM * 1000000 < ρ.ft) :
    let τ := ρ.holdExpired.flush
    τ.tb.expired = true ∧ τ.b Fl.FT_STAT_XMOD_OK = false ∧ τ.recorded 0x0264 sevDegrade 0x040 ∧
    (ρ.b Fl.FT_STAT_XMOD_OK = true → τ.raised 0x040 4) ∧
    ρ.only τ [Rg.FT_STAT, Rg.IRQ_RAW 0x040] { ρ with tb := { ρ.tb with expired := true, xmod := 0 } } := by
  let q := ρ.when (ρ.b Fl.FT_STAT_XMOD_OK) (·.irq 0x040 4)
  have heq : ρ.holdExpired = (q.outlasted.p Fl.FT_STAT_XMOD_OK (b2n false)).flt 0x0264 sevDegrade 0x040
      [(4, 4, (q.ft - q.tb.holdFt) / 1000000)] := if_pos ⟨hh, hx, by omega⟩
  have hq : ρ.only q [Rg.FT_STAT, Rg.IRQ_RAW 0x040] ρ := Rod.only_when _ _ (fun _ h => Rod.only_irq _ _ (by simp) h) (Rod.only_refl _ _)
  have hqx : ρ.only q.outlasted [Rg.FT_STAT, Rg.IRQ_RAW 0x040] ρ.outlasted :=
    ⟨Rod.keepsRegs_regs _ q _ _ rfl hq.1, congrArg Rod.outlasted hq.2⟩
  dsimp only
  rw [heq, Rod.flush_tb, Rod.flt_eq,
    Rod.b_congr _ _ Fl.FT_STAT_XMOD_OK ((Rod.flush_gw _ _ ftStat_not_log).trans (Rod.gw_fltAP _ _ _ _ _ _ _ _))]
  refine ⟨rfl, Rod.b_p q.outlasted Fl.FT_STAT_XMOD_OK false (by decide) rfl, Rod.recorded_fltAP _ _ _ _ _ _ _, fun hok => ?_,
    Rod.only_flush (Rod.only_fltAP (Rod.only_p _ _ (by decide) hqx))⟩
  have hraised : q.raised 0x040 4 := by
    rw [show q = ρ.irq 0x040 4 from if_pos hok]
    exact Rod.irq_sets _ _ _ (by decide)
  have hgw : (q.outlasted.p Fl.FT_STAT_XMOD_OK (b2n false)).gw (Rg.IRQ_RAW 0x040) = q.gw (Rg.IRQ_RAW 0x040) :=
    (Rod.gw_p_ne q.outlasted Fl.FT_STAT_XMOD_OK _ _ (by decide)).trans (Rod.gw_congr _ _ rfl _)
  exact Rod.raised_flush _ _ _ (Rod.raised_congr q _ _ _ ((Rod.gw_fltAP _ _ _ _ _ _ _ _).trans hgw) hraised)

theorem Rod.xmodReturn_flush (ρ : Rod) (hh : ρ.b Fl.FT_STAT_HOLD = false) (hx : ρ.tb.expired = true) (hn : 16 ≤ ρ.tb.xmod) :
    let τ := ρ.xmodReturn.flush
    τ.b Fl.FT_STAT_XMOD_OK = true ∧ ρ.only τ [Rg.FT_STAT] { ρ with tb := { ρ.tb with expired := false } } := by
  have heq : ρ.xmodReturn = ({ ρ with tb := { ρ.tb with expired := false } } : Rod).p Fl.FT_STAT_XMOD_OK (b2n true) := if_pos ⟨hh, hx, hn⟩
  dsimp only
  rw [heq, Rod.flush_b _ Fl.FT_STAT_XMOD_OK ftStat_not_log]
  exact ⟨Rod.b_p _ Fl.FT_STAT_XMOD_OK true (by decide) rfl, Rod.only_flush (Rod.only_p _ _ (by decide) (Rod.only_parts _))⟩

/-! ### No cluster time in SYNC -/

theorem Rod.syncTimeout_flush (ρ : Rod) (hs : ρ.state = RS.sync) (hv : ρ.b Fl.FT_STAT_VALID = false) :
    ρ.syncTimeout.flush.recorded 0x0111 sevWarn 0x001 ∧ ρ.only ρ.syncTimeout.flush [] ρ := by
  rw [show ρ.syncTimeout = ρ.flt 0x0111 sevWarn 0x001 [(0, 4, (ρ.ft - ρ.tb.syncFt) / 1000000)] from if_pos ⟨hs, hv⟩]
  exact ⟨Rod.recorded_fltAP _ _ _ _ _ _ _, Rod.only_flush (Rod.only_fltAP (Rod.only_refl _ _))⟩

end Sys2Proof.Machine
end

section
/-! LOCKED, and READY entry from SYNC with it (R83, R124, R479). -/

namespace Sys2Proof.Machine

/-! ### READY entry

What its changes leave: the registers of `K`, FT, and the redundancy state. -/

/-- `q` comes of `ρ` by changes that leave the registers of `K`, FT, and the redundancy state. -/
structure Rod.keepsFrame (K : Nat → Bool) (ρ q : Rod) : Prop where
  carries : ρ.carries (fun _ => ()) K q
  ftn : q.ftn = ρ.ftn
  red : q.red = ρ.red

section
variable {K : Nat → Bool} {ρ q q' : Rod}

theorem Rod.keepsFrame_refl (K : Nat → Bool) (ρ : Rod) : ρ.keepsFrame K ρ := ⟨Rod.carries_refl _ _ _, rfl, rfl⟩

theorem Rod.keepsFrame_trans (h : ρ.keepsFrame K q) (k : q.keepsFrame K q') : ρ.keepsFrame K q' :=
  ⟨Rod.carries_trans h.carries k.carries, k.ftn.trans h.ftn, k.red.trans h.red⟩

/-- A change of other parts of the state. -/
theorem Rod.keepsFrame_same (h : ρ.keepsFrame K q) (hme : q'.me = q.me := by rfl) (hr : q'.regs = q.regs := by rfl)
    (ho : q'.out = q.out := by rfl) (hb : q'.recBuf = q.recBuf := by rfl) (hf : q'.ftn = q.ftn := by rfl)
    (hd : q'.red = q.red := by rfl) : ρ.keepsFrame K q' :=
  ⟨Rod.carries_same h.carries hme rfl hr ho hb, hf.trans h.ftn, hd.trans h.red⟩

theorem Rod.keepsFrame_md (m : ModeS) (h : ρ.keepsFrame K q) : ρ.keepsFrame K { q with md := m } := Rod.keepsFrame_same h

theorem Rod.keepsFrame_p (f : Fld) (v : Nat) (hf : K f.addr = false) (h : ρ.keepsFrame K q) : ρ.keepsFrame K (q.p f v) :=
  ⟨Rod.carries_p f v hf h.carries, h.ftn, h.red⟩

theorem Rod.keepsFrame_incMod (f : Fld) (hf : K f.addr = false) (h : ρ.keepsFrame K q) : ρ.keepsFrame K (q.incMod f) :=
  Rod.keepsFrame_p f _ hf h

theorem Rod.keepsFrame_irq (p i : Nat) (h : ρ.keepsFrame K q) : ρ.keepsFrame K (q.irq p i) :=
  ⟨Rod.carries_irq p i h.carries, (Rod.irq_ftn q p i).trans h.ftn, (Rod.irq_red q p i).trans h.red⟩

theorem Rod.keepsFrame_fltAP {c sv pg ax ph : Nat} {d : List (Nat × Nat × Nat)} (h : ρ.keepsFrame K q) :
    ρ.keepsFrame K (q.fltAP c sv pg ax ph d) := ⟨Rod.carries_fltAP h.carries, h.ftn, h.red⟩

theorem Rod.keepsFrame_when (c : Bool) (f : Rod → Rod) (hf : ∀ p, ρ.keepsFrame K p → ρ.keepsFrame K (f p)) (h : ρ.keepsFrame K q) :
    ρ.keepsFrame K (q.when c f) := Rod.when_invariant (ρ.keepsFrame K) c f hf q h

theorem Rod.keepsFrame_each {α : Type} (l : List α) (f : α → Rod → Rod) (hf : ∀ x p, ρ.keepsFrame K p → ρ.keepsFrame K (f x p))
    (h : ρ.keepsFrame K q) : ρ.keepsFrame K (q.each l f) := Rod.each_invariant (ρ.keepsFrame K) f hf l q h

theorem Rod.keepsFrame_flush (hK : K Rg.FL_SEQ = false) (h : ρ.keepsFrame K q) : ρ.keepsFrame K q.flush :=
  ⟨Rod.carries_flush hK h.carries, (Rod.flush_ftn q).trans h.ftn, (Rod.flush_red q).trans h.red⟩

theorem Rod.keepsFrame_enter (st : Nat) (hK : K Rg.ROD_STATE = false) (h : ρ.keepsFrame K q) : ρ.keepsFrame K (q.enter st) := by
  unfold Rod.enter Rod.setSeen
  split
  · exact h
  · exact Rod.keepsFrame_irq _ _ (Rod.keepsFrame_p _ _ (by rwa [rodStateF_addr]) h)

theorem Rod.keepsFrame_fence (hK : K Rg.ROD_STATE = false) (h : ρ.keepsFrame K q) : ρ.keepsFrame K q.fence :=
  Rod.keepsFrame_enter _ hK (Rod.keepsFrame_same h)

theorem Rod.keepsFrame_awaitCount (h : ρ.keepsFrame K q) : ρ.keepsFrame K q.awaitCount :=
  Rod.keepsFrame_each _ _ (fun _ _ hp => Rod.keepsFrame_same hp) h

theorem Rod.keepsFrame_takeLeads (ps : RodId → Rod) (h : ρ.keepsFrame K q) : ρ.keepsFrame K (q.takeLeads ps) := by
  unfold Rod.takeLeads
  split
  · exact h
  · exact Rod.keepsFrame_same h

theorem Rod.keepsFrame_dropBlocks (hK : ∀ c : Fin 4, K (Rg.COL_STAT c.val) = false) (h : ρ.keepsFrame K q) :
    ρ.keepsFrame K q.dropBlocks := by
  refine Rod.keepsFrame_each _ _ (fun c p hp => ?_) h
  split
  · rw [Rod.both_eq]
    exact Rod.keepsFrame_same (Rod.keepsFrame_p (Fl.COL_STAT_BUSY c.val) 0 (hK c) hp)
  · exact hp

theorem Rod.keepsFrame_startTicks (hK : ∀ c : Fin 4, K (Rg.COL_STAT c.val) = false) (h : ρ.keepsFrame K q) :
    ρ.keepsFrame K q.startTicks := Rod.keepsFrame_same (Rod.keepsFrame_dropBlocks hK h)

theorem Rod.keepsFrame_closeAccess (cause : Nat) (hK : K Rg.SEC_STAT = false) (h : ρ.keepsFrame K q) :
    ρ.keepsFrame K (q.closeAccess cause) := by
  unfold Rod.closeAccess
  split
  · exact h
  · exact Rod.keepsFrame_fltAP (Rod.keepsFrame_irq _ _ (Rod.keepsFrame_p Fl.SEC_STAT_LEVEL 0 hK h))

theorem Rod.keepsFrame_setMode (m v : Nat) (hm : K Rg.SYS_MODE = false) (hs : K Rg.SEC_STAT = false) (h : ρ.keepsFrame K q) :
    ρ.keepsFrame K (q.setMode m v) := by
  have h0 := Rod.keepsFrame_when (q.mode == SM.standby && m != SM.standby) (·.closeAccess 1)
    (fun _ hp => Rod.keepsFrame_closeAccess 1 hs hp) h
  have h1 := Rod.keepsFrame_p Fl.SYS_MODE_VOTERS v hm (Rod.keepsFrame_incMod Fl.SYS_MODE_SEQ hm h0)
  have h2 := Rod.keepsFrame_p Fl.SYS_MODE_MODE m hm (Rod.keepsFrame_p Fl.SYS_MODE_PREV q.mode hm h1)
  exact Rod.keepsFrame_fltAP (Rod.keepsFrame_irq _ _ (Rod.keepsFrame_md _ h2))

theorem Rod.keepsFrame_bootTime (hK : K Rg.START_TIME = false) (h : ρ.keepsFrame K q) : ρ.keepsFrame K q.bootTime := by
  unfold Rod.bootTime
  dsimp only
  split
  · exact Rod.keepsFrame_p Fl.START_TIME_BOOT_TIME _ hK h
  · have hfree : ρ.keepsFrame K (q.free 16).2 := Rod.keepsFrame_same h
    exact Rod.keepsFrame_p Fl.START_TIME_BOOT_TIME _ hK hfree

end

/-- The authority state of a rod at READY entry (R479). -/
def Rod.holdsEpoch (ρ : Rod) : Rod := ρ.modRed fun d => { d with holds := true, missing := Tri.rep 0, dqHeard := Tri.rep false }

/-- The rod as it enters READY (R479). -/
def Rod.readied (ρ : Rod) (ps : RodId → Rod) : Rod :=
  let q := ((ρ.holdsEpoch.p Fl.CR_EPOCH_EPOCH (ρ.latestEpoch.getD 0)).awaitCount).takeLeads ps
  ({ q.startTicks with md := { q.md with txOff := false } } : Rod).enter RS.ready

/-- Whether partners run without the rod (R479). -/
def Rod.missedBy (ρ : Rod) (ps : RodId → Rod) : Bool := (ρ.me.partners.filter ρ.live).any fun p => decide (SM.arming ≤ (ps p).mode)

theorem Rod.missedBy_eq_false (ρ : Rod) (ps : RodId → Rod) (h : ∀ p ∈ ρ.me.partners, ρ.live p = true → (ps p).mode < SM.arming) :
    ρ.missedBy ps = false := by
  unfold Rod.missedBy
  rw [List.any_eq_false]
  intro p hp
  obtain ⟨hm, hl⟩ := List.mem_filter.1 hp
  simpa using h p hm hl

/-- LOCKED, its event, and what READY entry leaves of them. -/
def lockRegs (a : Nat) : Bool := a == Rg.FT_STAT || a == Rg.IRQ_RAW 0x040

/-- The same with the rod state. -/
def lockStateRegs (a : Nat) : Bool := lockRegs a || a == Rg.ROD_STATE

theorem Rod.readied_state (ρ : Rod) (ps : RodId → Rod) : (ρ.readied ps).state = RS.ready := Rod.state_enter _ _ (by decide)

theorem colStat_not_lock (c : Fin 4) : lockRegs (Rg.COL_STAT c.val) = false := by revert c; decide

theorem Rod.keepsFrame_readied (ρ : Rod) (ps : RodId → Rod) : ρ.holdsEpoch.keepsFrame lockRegs (ρ.readied ps) := by
  have h := Rod.keepsFrame_p (K := lockRegs) Fl.CR_EPOCH_EPOCH (ρ.latestEpoch.getD 0) (by decide) (Rod.keepsFrame_refl _ ρ.holdsEpoch)
  have hq := Rod.keepsFrame_startTicks colStat_not_lock (Rod.keepsFrame_takeLeads ps (Rod.keepsFrame_awaitCount h))
  exact Rod.keepsFrame_enter _ (by decide) (Rod.keepsFrame_same hq)

/-- What follows READY entry: a rod whose partners run without it is fenced, and one that comes to partners in STANDBY takes their mode
(R479). -/
theorem Rod.enterReady_cases (ρ : Rod) (ps : RodId → Rod) :
    let q := ρ.readied ps
    (ρ.missedBy ps = true ∧ ∃ d, ρ.enterReady ps = (q.flt 0x0C12 sevWithdraw 0x0A0 d).fence) ∨
    (ρ.missedBy ps = false ∧ (ρ.enterReady ps = q ∨ ∃ v, ρ.enterReady ps = (q.setMode SM.standby v).bootTime)) := by
  dsimp only
  cases hm : ρ.missedBy ps with
  | true => exact .inl ⟨rfl, _, if_pos hm⟩
  | false =>
    refine .inr ⟨rfl, ?_⟩
    rw [show ρ.enterReady ps = _ from if_neg (Bool.not_eq_true _ ▸ hm)]
    split
    · split
      · exact .inr ⟨_, rfl⟩
      · exact .inl rfl
    · exact .inl rfl

/-- A rod that has entered READY is READY, or FENCED where its partners run without it; its counting frame is as it was. -/
theorem Rod.enterReady_spec (ρ : Rod) (ps : RodId → Rod) :
    ρ.holdsEpoch.keepsFrame lockRegs (ρ.enterReady ps) ∧
    (ρ.missedBy ps = true → (ρ.enterReady ps).state = RS.fenced) ∧ (ρ.missedBy ps = false → (ρ.enterReady ps).state = RS.ready) := by
  have hq := Rod.keepsFrame_readied ρ ps
  obtain ⟨hm, d, e⟩ | ⟨hm, e | ⟨v, e⟩⟩ := Rod.enterReady_cases ρ ps
  · rw [e, hm]
    exact ⟨Rod.keepsFrame_fence (by decide) (Rod.keepsFrame_fltAP hq), fun _ => Rod.fence_state _, fun h => absurd h (by decide)⟩
  · rw [e, hm]
    exact ⟨hq, fun h => absurd h (by decide), fun _ => Rod.readied_state ρ ps⟩
  · rw [e, hm]
    have hmode {K : Nat → Bool} (hm : K Rg.SYS_MODE = false) (hs : K Rg.SEC_STAT = false) (ht : K Rg.START_TIME = false) :
        (ρ.readied ps).keepsFrame K ((ρ.readied ps).setMode SM.standby v).bootTime :=
      Rod.keepsFrame_bootTime ht (Rod.keepsFrame_setMode _ _ hm hs (Rod.keepsFrame_refl _ _))
    refine ⟨Rod.keepsFrame_trans hq (hmode (by decide) (by decide) (by decide)), fun h => absurd h (by decide), fun _ => ?_⟩
    rw [← Rod.readied_state ρ ps]
    exact (hmode (K := lockStateRegs) (by decide) (by decide) (by decide)).carries.state (by decide)

/-! ### LOCKED -/

/-- The rod with LOCKED, and XMOD_OK unless a holdover has outlasted HOLD_LIM (R120, R124). -/
def Rod.locked (ρ : Rod) : Rod :=
  let q := (ρ.p Fl.FT_STAT_LOCKED (b2n true)).irq 0x040 0
  if q.tb.expired then q else q.p Fl.FT_STAT_XMOD_OK 1

theorem Rod.lockAcquired_eq (ρ : Rod) (ps : RodId → Rod) (hn : 16 ≤ ρ.tb.good) (hl : ρ.b Fl.FT_STAT_LOCKED = false) :
    ρ.lockAcquired ps = ρ.locked.trySync ps := if_pos ⟨hn, hl⟩

theorem Rod.locked_spec (ρ : Rod) :
    ρ.locked.b Fl.FT_STAT_LOCKED = true ∧ ρ.locked.raised 0x040 0 ∧ ρ.only ρ.locked [Rg.FT_STAT, Rg.IRQ_RAW 0x040] ρ := by
  have hl : ((ρ.p Fl.FT_STAT_LOCKED (b2n true)).irq 0x040 0).b Fl.FT_STAT_LOCKED = true := by
    rw [Rod.b_irq_ne _ _ _ _ (by decide)]
    exact Rod.b_p ρ Fl.FT_STAT_LOCKED true (by decide) rfl
  have hr : ((ρ.p Fl.FT_STAT_LOCKED (b2n true)).irq 0x040 0).raised 0x040 0 := Rod.irq_sets _ _ _ (by decide)
  have ho : ρ.only ((ρ.p Fl.FT_STAT_LOCKED (b2n true)).irq 0x040 0) [Rg.FT_STAT, Rg.IRQ_RAW 0x040] ρ :=
    Rod.only_irq _ _ (by simp) (Rod.only_p _ _ (by decide) (Rod.only_refl _ _))
  unfold Rod.locked
  dsimp only
  split
  · exact ⟨hl, hr, ho⟩
  · refine ⟨?_, Rod.raised_congr _ _ _ _ (Rod.gw_p_ne _ _ _ _ (by decide)) hr, Rod.only_p _ _ (by decide) ho⟩
    rw [Rod.b_p_ne _ _ _ _ (by decide) (by decide), hl]

/-- What a rod sees of its partners and links, and its state, are as they were before LOCKED. -/
theorem Rod.locked_sees (ρ : Rod) :
    ρ.locked.me = ρ.me ∧ ρ.locked.ftn = ρ.ftn ∧ ρ.locked.state = ρ.state ∧ ρ.locked.linksKnown = ρ.linksKnown ∧ ρ.locked.live = ρ.live := by
  obtain ⟨-, -, hk, ha⟩ := Rod.locked_spec ρ
  have hme : ρ.locked.me = ρ.me := by rw [ha]
  have hred : ρ.locked.red = ρ.red := by rw [ha]
  have hsec : ρ.locked.sec = ρ.sec := by rw [ha]
  have hrod : ρ.locked.gw Rg.ROD_STATE = ρ.gw Rg.ROD_STATE := hk _ (by decide) (by decide) (by decide)
  have hcr : ρ.locked.gw Rg.CR_STAT = ρ.gw Rg.CR_STAT := hk _ (by decide) (by decide) (by decide)
  have h1 : ρ.locked.b Fl.CR_STAT_LINK_1 = ρ.b Fl.CR_STAT_LINK_1 := Rod.b_congr _ _ _ hcr
  have h2 : ρ.locked.b Fl.CR_STAT_LINK_2 = ρ.b Fl.CR_STAT_LINK_2 := Rod.b_congr _ _ _ hcr
  refine ⟨hme, by rw [ha], Rod.state_congr _ _ hme hrod, ?_, funext fun p => ?_⟩
  · unfold Rod.linksKnown Rod.linkUp
    rw [hme, hred, hsec, h1, h2]
  · have hseen : ρ.locked.seen p = ρ.seen p := Rod.g_of_gw _ _ _ (by rwa [rodStateF_addr])
    unfold Rod.live Rod.reach
    rw [hseen, hme, h1, h2]

/-- A rod that is not in SYNC, or whose links are not known, goes no further. -/
theorem Rod.trySync_idle (ρ : Rod) (ps : RodId → Rod) (h : ρ.state ≠ RS.sync ∨ ρ.linksKnown = false) : ρ.trySync ps = ρ :=
  if_neg (by rcases h with h | h <;> simp [h])

theorem Rod.trySync_ready (ρ : Rod) (ps : RodId → Rod) (hs : ρ.state = RS.sync) (hl : ρ.b Fl.FT_STAT_LOCKED = true)
    (hk : ρ.linksKnown = true) : ρ.trySync ps = ρ.enterReady ps := if_pos (by simp [hs, hl, hk])

/-- LOCKED in a rod that stays where it is. -/
theorem Rod.lockAcquired_stays (ρ : Rod) (ps : RodId → Rod) (hn : 16 ≤ ρ.tb.good) (hl : ρ.b Fl.FT_STAT_LOCKED = false)
    (h : ρ.state ≠ RS.sync ∨ ρ.linksKnown = false) : ρ.lockAcquired ps = ρ.locked := by
  obtain ⟨-, -, hs, hk, -⟩ := Rod.locked_sees ρ
  rw [Rod.lockAcquired_eq ρ ps hn hl]
  exact Rod.trySync_idle _ _ (by rwa [hs, hk])

/-- LOCKED in a rod that comes to READY with it. -/
theorem Rod.lockAcquired_goes (ρ : Rod) (ps : RodId → Rod) (hn : 16 ≤ ρ.tb.good) (hl : ρ.b Fl.FT_STAT_LOCKED = false)
    (hs : ρ.state = RS.sync) (hk : ρ.linksKnown = true) : ρ.lockAcquired ps = ρ.locked.enterReady ps := by
  obtain ⟨-, -, hs', hk', -⟩ := Rod.locked_sees ρ
  obtain ⟨hlocked, -⟩ := Rod.locked_spec ρ
  rw [Rod.lockAcquired_eq ρ ps hn hl]
  exact Rod.trySync_ready _ _ (hs'.trans hs) hlocked (hk'.trans hk)

theorem Rod.missedBy_locked (ρ : Rod) (ps : RodId → Rod) : ρ.locked.missedBy ps = ρ.missedBy ps := by
  obtain ⟨hme, -, -, -, hlive⟩ := Rod.locked_sees ρ
  unfold Rod.missedBy
  rw [hme, hlive]

theorem Rod.lockAcquired_flush (ρ : Rod) (ps : RodId → Rod) (hn : 16 ≤ ρ.tb.good) (hl : ρ.b Fl.FT_STAT_LOCKED = false) :
    let τ := (ρ.lockAcquired ps).flush
    τ.b Fl.FT_STAT_LOCKED = true ∧ τ.raised 0x040 0 ∧ τ.ftn = ρ.ftn ∧
    (ρ.state ≠ RS.sync → τ.state = ρ.state ∧ ρ.only τ [Rg.FT_STAT, Rg.IRQ_RAW 0x040] ρ) ∧
    (ρ.state = RS.sync → ρ.linksKnown = false → τ.state = RS.sync) ∧
    (ρ.state = RS.sync → ρ.linksKnown = true → τ.red.holds = true ∧ (τ.state = RS.ready ∨ τ.state = RS.fenced) ∧
      ((∀ p ∈ ρ.me.partners, ρ.live p = true → (ps p).mode < SM.arming) → τ.state = RS.ready)) := by
  obtain ⟨hlocked, hraised, honly⟩ := Rod.locked_spec ρ
  obtain ⟨-, hft, hst, -, -⟩ := Rod.locked_sees ρ
  dsimp only
  rw [Rod.flush_b _ Fl.FT_STAT_LOCKED ftStat_not_log, Rod.flush_ftn, Rod.flush_state, Rod.flush_red]
  by_cases hgo : ρ.state = RS.sync ∧ ρ.linksKnown = true
  · obtain ⟨hs, hk⟩ := hgo
    obtain ⟨hframe, hfenced, hready⟩ := Rod.enterReady_spec ρ.locked ps
    rw [Rod.missedBy_locked] at hfenced hready
    rw [Rod.lockAcquired_goes ρ ps hn hl hs hk]
    refine ⟨(hframe.carries.b _ (by decide) (by decide)).trans hlocked, Rod.raised_flush _ _ _ (hframe.carries.raised _ _ (by decide) hraised),
      hframe.ftn.trans hft, fun h => absurd hs h, fun _ h => absurd (hk.symm.trans h) (by decide), fun _ _ => ⟨?_, ?_, fun h => ?_⟩⟩
    · rw [hframe.red]; rfl
    · cases hm : ρ.missedBy ps with
      | true => exact .inr (hfenced hm)
      | false => exact .inl (hready hm)
    · exact hready (Rod.missedBy_eq_false ρ ps h)
  · have hstay : ρ.state ≠ RS.sync ∨ ρ.linksKnown = false := by
      rw [not_and_or] at hgo
      exact hgo.imp id (Bool.not_eq_true _ ▸ ·)
    rw [Rod.lockAcquired_stays ρ ps hn hl hstay]
    exact ⟨hlocked, Rod.raised_flush _ _ _ hraised, hft, fun _ => ⟨hst, Rod.only_flush honly⟩, fun h _ => hst.trans h,
      fun h k => absurd ⟨h, k⟩ hgo⟩

/-! ### The statement -/

/-- Settles O38: the rod's own law of each of the seven commands says what it leaves. -/
theorem lockAndSourcesFollowTheirCounts : Obligations.LockAndSourcesFollowTheirCounts := by
  unfold Obligations.LockAndSourcesFollowTheirCounts
  intro s r c
  dsimp only
  refine ⟨fun hn hl => ⟨_, rfl, ?_⟩, fun hn hl => ⟨_, rfl, ?_⟩, fun hv hn he => ⟨_, rfl, ?_⟩, fun hv hn he => ⟨_, rfl, ?_⟩,
    fun hh hx ht => ⟨_, rfl, ?_⟩, fun hh hx hn => ⟨_, rfl, ?_⟩, fun hs hv => ⟨_, rfl, ?_⟩⟩
  all_goals
    dsimp only
    rw [State.rod_putRod]
  · exact Rod.lockAcquired_flush _ s.rod hn hl
  · exact Rod.lockedClear_flush _ hn hl
  · exact Rod.srcExcluded_flush _ c hv hn he
  · exact Rod.srcReadmitted_flush _ c hv hn he
  · exact Rod.holdExpired_flush _ hh hx ht
  · exact Rod.xmodReturn_flush _ hh hx hn
  · exact Rod.syncTimeout_flush _ hs hv

end Sys2Proof.Machine
end

section
/-! The close of a capture's receive window: the clusters judged, and what is shown of the sources (R116 to R118, Table 4.1). -/

namespace Sys2Proof.Machine

/-! ### What the judgement of the clusters leaves -/

/-- The registers that the close of a window writes of its page. -/
def windowRegs : List Nat :=
  [Rg.FT_STAT, Rg.IRQ_RAW 0x040, Rg.REMAINDER, Rg.RATE_CORR, Rg.CT_ERR 0, Rg.CT_ERR 1, Rg.CT_ERR 2]

/-- The part of the counting frame that the judgement of the clusters leaves: the window, the FT at holdover, and the integrator. -/
def TimeB.kept (t : TimeB) : Bool × Nat × Int := (t.open_, t.holdFt, t.integ64)

/-- `q` comes of `ρ` by the judgement of clusters: it changes registers of the page and the counting frame, and leaves VALID, LOCKED,
HOLD and XMOD_OK of FT_STAT. -/
structure Rod.judging (ρ q : Rod) : Prop where
  only : ρ.only q windowRegs { ρ with tb := q.tb }
  stat : ∀ f : Fld, f.addr = Rg.FT_STAT → 28 ≤ f.lo → q.g f = ρ.g f
  kept : q.tb.kept = ρ.tb.kept

section
variable {ρ q : Rod}

theorem Rod.judging_refl (ρ : Rod) : ρ.judging ρ := ⟨Rod.only_refl _ _, fun _ _ _ => rfl, rfl⟩

/-- A register of the page other than FT_STAT. -/
theorem Rod.judging_p (f : Fld) (v : Nat) (hm : f.addr ∈ windowRegs) (hf : f.addr ≠ Rg.FT_STAT) (h : ρ.judging q) : ρ.judging (q.p f v) :=
  ⟨Rod.only_p f v hm h.only, fun f' ha hl => (Rod.g_p_addr _ _ _ _ (by rw [ha]; exact hf.symm)).trans (h.stat f' ha hl), h.kept⟩

/-- A field of FT_STAT below the four that are left. -/
theorem Rod.judging_stat (f : Fld) (v : Nat) (ha : f.addr = Rg.FT_STAT) (hb : f.lo + f.w ≤ 28) (h : ρ.judging q) : ρ.judging (q.p f v) :=
  ⟨Rod.only_p f v (by rw [ha]; exact .head _) h.only,
    fun f' ha' hl => (Rod.g_p_ne _ _ _ _ (by omega) (.inr (.inr (by omega)))).trans (h.stat f' ha' hl), h.kept⟩

theorem Rod.judging_irq (j : Nat) (h : ρ.judging q) : ρ.judging (q.irq 0x040 j) := by
  refine ⟨?_, fun f ha hl => (Rod.g_irq_ne _ _ _ _ (by rw [ha]; decide)).trans (h.stat f ha hl), by rw [Rod.irq_tb, h.kept]⟩
  rw [Rod.irq_tb]
  exact Rod.only_irq _ _ (by simp [windowRegs]) h.only

theorem Rod.judging_fltAP {c sv pg ax ph : Nat} {d : List (Nat × Nat × Nat)} (h : ρ.judging q) : ρ.judging (q.fltAP c sv pg ax ph d) :=
  ⟨Rod.only_fltAP h.only, h.stat, h.kept⟩

/-- The rod with another counting frame. -/
def Rod.withTb (ρ : Rod) (t : TimeB) : Rod := { ρ with tb := t }

theorem Rod.judging_tb (t : TimeB) (ht : t.kept = q.tb.kept) (h : ρ.judging q) : ρ.judging { q with tb := t } :=
  ⟨⟨Rod.keepsRegs_regs _ q _ _ rfl h.only.1, congrArg (Rod.withTb · t) h.only.2⟩, h.stat, ht.trans h.kept⟩

theorem Rod.judging_when (c : Bool) (f : Rod → Rod) (hf : ∀ p, ρ.judging p → ρ.judging (f p)) (h : ρ.judging q) : ρ.judging (q.when c f) :=
  Rod.when_invariant ρ.judging c f hf q h

theorem ctErr_mem (c : RodId) : (Fl.CT_ERR_ERR c.code).addr ∈ windowRegs := by cases c <;> decide

theorem ctErr_ne (c : RodId) : (Fl.CT_ERR_ERR c.code).addr ≠ Rg.FT_STAT := by cases c <;> decide

theorem Rod.judging_judgeCluster (ps : RodId → Rod) (stepped : Bool) (med : Option Int) (c : RodId) (h : ρ.judging q) :
    ρ.judging (q.judgeCluster ps stepped med c) := by
  have hshown (v : Nat) : ρ.judging (q.p (Fl.CT_ERR_ERR c.code) v) := Rod.judging_p _ v (ctErr_mem c) (ctErr_ne c) h
  have hclear {p : Rod} (i : Nat) (hp : ρ.judging p) : ρ.judging (p.clrBit Fl.FT_STAT_OUTLIER i) :=
    Rod.judging_stat Fl.FT_STAT_OUTLIER _ rfl (by decide) hp
  have hset {p : Rod} (i : Nat) (hp : ρ.judging p) : ρ.judging (p.setBit Fl.FT_STAT_OUTLIER i) :=
    Rod.judging_stat Fl.FT_STAT_OUTLIER _ rfl (by decide) hp
  unfold Rod.judgeCluster
  dsimp only
  cases q.tb.errs.get c.idx with
  | none =>
    dsimp only
    refine hclear _ (Rod.judging_tb _ rfl ?_)
    split
    · exact Rod.judging_tb _ rfl (Rod.judging_fltAP (hshown _))
    · exact hshown _
  | some e =>
    dsimp only
    split
    · exact Rod.judging_tb _ rfl (hshown _)
    · have hcounted (u : Tri Bool) (n : Tri Nat) :
          ρ.judging ((q.p (Fl.CT_ERR_ERR c.code) (natOfInt 32 (divRoundAway e 1000))).withTb { q.tb with used := u, outN := n }) :=
        Rod.judging_tb _ rfl (hshown _)
      have hmarked (out was : Bool) {p : Rod} (hp : ρ.judging p) : ρ.judging
          (if out then (p.setBit Fl.FT_STAT_OUTLIER c.code).when was (·.irq 0x040 3) else p.clrBit Fl.FT_STAT_OUTLIER c.code) := by
        split
        · exact Rod.judging_when _ _ (fun _ hq => Rod.judging_irq 3 hq) (hset _ hp)
        · exact hclear _ hp
      exact hmarked _ _ (hcounted _ _)

end

/-! ### The window judged -/

/-- The rod with its receive window closed. -/
def Rod.captureClosed (ρ : Rod) : Rod := { ρ with tb := { ρ.tb with open_ := false } }

/-- The reference of the cluster times in hand, less FT, and the source mode (Table 4.1). -/
def Rod.reference (ρ : Rod) : Option Int × Nat := refOf (ρ.g Fl.DISC_CFG_OUT_LIM) ρ.sources

/-- The rod with every cluster judged at the close. -/
def Rod.clustersJudged (ρ : Rod) (ps : RodId → Rod) : Rod :=
  ρ.captureClosed.each allRods fun c q => q.judgeCluster ps (ρ.b Fl.FT_STAT_VALID) (medianOf ρ.sources) c

/-- The rod with the sources in use shown; SRC_MODE follows. -/
def Rod.sourcesShown (ρ : Rod) (ps : RodId → Rod) : Rod :=
  let q := ρ.clustersJudged ps
  let mask := rodMask (allRods.filter fun c => q.tb.used.get c.idx && ρ.reference.1.isSome)
  (q.when (mask != q.g Fl.FT_STAT_SRC_USED) (·.irq 0x040 1)).p Fl.FT_STAT_SRC_USED mask

/-- The rod with its window judged (R116 to R118). -/
def Rod.windowJudged (ρ : Rod) (ps : RodId → Rod) : Rod := (ρ.sourcesShown ps).p Fl.FT_STAT_SRC_MODE ρ.reference.2

theorem Rod.judging_windowJudged (ρ : Rod) (ps : RodId → Rod) : ρ.captureClosed.judging (ρ.windowJudged ps) := by
  have hj : ρ.captureClosed.judging (ρ.clustersJudged ps) :=
    Rod.each_invariant ρ.captureClosed.judging _ (fun c _ hq => Rod.judging_judgeCluster ps _ _ c hq) _ _ (Rod.judging_refl _)
  refine Rod.judging_stat Fl.FT_STAT_SRC_MODE _ rfl (by decide) (Rod.judging_stat Fl.FT_STAT_SRC_USED _ rfl (by decide) ?_)
  exact Rod.judging_when _ _ (fun _ hq => Rod.judging_irq 1 hq) hj

theorem Rod.reference_mode_lt (ρ : Rod) : ρ.reference.2 < 4 := by
  unfold Rod.reference refOf
  split
  · show 0 < 4; decide
  · split
    · show 1 < 4; decide
    · decide
  · show 2 < 4; decide
  · decide

/-- What the rest of the close finds: the window closed and SRC_MODE shown, and of the rest all that decides it as it was. -/
theorem Rod.windowJudged_spec (ρ : Rod) (ps : RodId → Rod) :
    let q := ρ.windowJudged ps
    q.tb.open_ = false ∧ q.tb.holdFt = ρ.tb.holdFt ∧ q.tb.integ64 = ρ.tb.integ64 ∧ q.g Fl.FT_STAT_SRC_MODE = ρ.reference.2 ∧
    q.b Fl.FT_STAT_VALID = ρ.b Fl.FT_STAT_VALID ∧ q.b Fl.FT_STAT_HOLD = ρ.b Fl.FT_STAT_HOLD ∧ q.state = ρ.state ∧
    q.g Fl.DISC_CFG_SLEW_MAX = ρ.g Fl.DISC_CFG_SLEW_MAX ∧ q.me = ρ.me ∧ q.ftn = ρ.ftn ∧ q.rk = ρ.rk := by
  obtain ⟨⟨hk, ha⟩, hstat, hkept⟩ := Rod.judging_windowJudged ρ ps
  obtain ⟨ho, hh, hi⟩ : _ ∧ _ ∧ _ := by simpa only [TimeB.kept, Prod.mk.injEq] using hkept
  have hb (f : Fld) (hf : f.addr = Rg.FT_STAT) (hl : 28 ≤ f.lo) : (ρ.windowJudged ps).b f = ρ.b f := by
    unfold Rod.b
    rw [hstat f hf hl]
    rfl
  have hgw (a : Nat) (h1 : a ∉ windowRegs) (h2 : a ≠ Rg.FL_SEQ) (h3 : a ≠ Rg.IRQ_RAW 0x0D0) : (ρ.windowJudged ps).gw a = ρ.gw a :=
    hk a h1 h2 h3
  have hme : (ρ.windowJudged ps).me = ρ.me := by rw [ha]; rfl
  refine ⟨ho, hh, hi, ?_, hb _ rfl (by decide), hb _ rfl (by decide), Rod.state_congr _ _ hme (hgw _ (by decide) (by decide) (by decide)),
    Rod.g_of_gw _ _ _ (hgw _ (by decide) (by decide) (by decide)), hme, by rw [ha]; rfl, by rw [ha]; rfl⟩
  exact (Rod.g_p _ _ _ (by decide)).trans (Nat.mod_eq_of_lt (Rod.reference_mode_lt ρ))

end Sys2Proof.Machine
end

section
/-! The rest of a close: FT stepped onto the reference, the error disciplined, or holdover (R119, R121, R123, R125). -/

namespace Sys2Proof.Machine

/-! ### What every way to end a close leaves -/

/-- `q` comes of `ρ` by changes that leave the receive window, SRC_MODE, the rod's own name, and signal memory. -/
structure Rod.closing (ρ q : Rod) : Prop where
  window : q.tb.open_ = ρ.tb.open_
  mode : q.g Fl.FT_STAT_SRC_MODE = ρ.g Fl.FT_STAT_SRC_MODE
  me : q.me = ρ.me
  sig : q.rk.sig = ρ.rk.sig

section
variable {ρ q q' : Rod}

theorem Rod.closing_refl (ρ : Rod) : ρ.closing ρ := ⟨rfl, rfl, rfl, rfl⟩

/-- A change of other parts of the state. -/
theorem Rod.closing_same (h : ρ.closing q) (hw : q'.tb.open_ = q.tb.open_ := by rfl) (hr : q'.regs = q.regs := by rfl)
    (hme : q'.me = q.me := by rfl) (hs : q'.rk.sig = q.rk.sig := by rfl) : ρ.closing q' :=
  ⟨hw.trans h.window, (Rod.g_congr _ _ _ hr).trans h.mode, hme.trans h.me, hs.trans h.sig⟩

/-- A field other than SRC_MODE. -/
theorem Rod.closing_p (f : Fld) (v : Nat) (hf : f.lo + f.w ≤ 32) (hd : Rg.FT_STAT ≠ f.addr ∨ 2 ≤ f.lo) (h : ρ.closing q) :
    ρ.closing (q.p f v) :=
  ⟨h.window, (Rod.g_p_ne q f Fl.FT_STAT_SRC_MODE v hf (hd.imp id .inl)).trans h.mode, h.me, h.sig⟩

theorem Rod.closing_irq (p i : Nat) (hp : Rg.FT_STAT ≠ Rg.IRQ_RAW p) (h : ρ.closing q) : ρ.closing (q.irq p i) :=
  ⟨by rw [Rod.irq_tb, h.window], (Rod.g_irq_ne q p i Fl.FT_STAT_SRC_MODE hp).trans h.mode, (Rod.irq_me q p i).trans h.me,
    by rw [Rod.irq_rk, h.sig]⟩

theorem Rod.closing_flt {c sv pg : Nat} {d : List (Nat × Nat × Nat)} (h : ρ.closing q) : ρ.closing (q.flt c sv pg d) :=
  Rod.closing_same h

theorem Rod.closing_when (c : Bool) (f : Rod → Rod) (hf : ∀ p, ρ.closing p → ρ.closing (f p)) (h : ρ.closing q) : ρ.closing (q.when c f) :=
  Rod.when_invariant ρ.closing c f hf q h

theorem Rod.closing_each {α : Type} (l : List α) (f : α → Rod → Rod) (hf : ∀ x p, ρ.closing p → ρ.closing (f x p)) (h : ρ.closing q) :
    ρ.closing (q.each l f) := Rod.each_invariant ρ.closing f hf l q h

theorem Rod.closing_flush (h : ρ.closing q) : ρ.closing q.flush :=
  ⟨by rw [Rod.flush_tb, h.window], (Rod.flush_g _ _ (by decide)).trans h.mode, (Rod.flush_me q).trans h.me, by rw [Rod.flush_rk, h.sig]⟩

/-! ### Loss of lock -/

theorem Rod.closing_modMd (f : ModeS → ModeS) (h : ρ.closing q) : ρ.closing (q.modMd f) := Rod.closing_same h

theorem Rod.closing_modSf (f : SafS → SafS) (h : ρ.closing q) : ρ.closing (q.modSf f) := Rod.closing_same h

theorem Rod.closing_modFr (f : FrS → FrS) (h : ρ.closing q) : ρ.closing (q.modFr f) := Rod.closing_same h

theorem Rod.closing_enter (st : Nat) (h : ρ.closing q) : ρ.closing (q.enter st) := by
  unfold Rod.enter Rod.setSeen
  split
  · exact h
  · have hw : (rodStateF q.me).lo + (rodStateF q.me).w ≤ 32 := by cases q.me <;> decide
    exact Rod.closing_irq _ _ (by decide) (Rod.closing_p _ _ hw (.inl (by rw [rodStateF_addr]; decide)) h)

theorem Rod.closing_withdrawDie (h : ρ.closing q) : ρ.closing q.withdrawDie := by
  obtain ⟨hk, ha⟩ := Rod.only_withdrawDie q
  refine ⟨by rw [ha]; exact h.window, (Rod.g_of_gw _ _ _ (hk _ ?_ ?_ ?_)).trans h.mode, by rw [ha]; exact h.me, by rw [ha]; exact h.sig⟩
  all_goals decide

theorem Rod.closing_coil (on : Bool) (h : ρ.closing q) : ρ.closing (q.coil on) := by
  unfold Rod.coil
  split
  · exact h
  · have hcoil := Rod.closing_p Fl.K_STAT_COIL (b2n on) (by decide) (.inl (by decide)) h
    exact Rod.closing_modMd (fun m => { m with khs := on, khsFt := _ }) (Rod.closing_modSf _ hcoil)

theorem Rod.closing_setPoc (p : Nat) (h : ρ.closing q) : ρ.closing (q.setPoc p) := by
  unfold Rod.setPoc
  split
  · exact h
  · exact Rod.closing_flt (Rod.closing_irq _ _ (by decide) (Rod.closing_p _ _ (by decide) (.inl (by decide)) h))

theorem Rod.closing_pocRun (h : ρ.closing q) : ρ.closing q.pocRun := by
  have hp {p : Rod} (f : Fld) (v : Nat) (hf : f.lo + f.w ≤ 32) (hd : Rg.FT_STAT ≠ f.addr) (k : ρ.closing p) : ρ.closing (p.p f v) :=
    Rod.closing_p f v hf (.inl hd) k
  unfold Rod.pocRun
  split
  · have h1 := Rod.closing_setPoc Poc.startup (Rod.closing_setPoc Poc.ready h)
    have h2 := hp Fl.FR_STAT_WAKE_RX_B 0 (by decide) (by decide) (hp Fl.FR_STAT_WAKE_RX_A 0 (by decide) (by decide) h1)
    have h3 := hp Fl.FR_COLD_COLL 0 (by decide) (by decide) h2
    refine Rod.closing_modFr _ (hp Fl.FR_SYNC_NOCORR 0 (by decide) (by decide) (hp Fl.FR_STAT_LEADER 0 (by decide) (by decide) ?_))
    exact hp Fl.FR_COLD_ATT_LEFT _ (by decide) (by decide) h3
  · exact h

/-- A flag of FT_STAT that is set clears, with its event. -/
theorem Rod.closing_dropped (f : Fld) (i : Nat) (hf : f.lo + f.w ≤ 32) (hl : 2 ≤ f.lo) (h : ρ.closing q) :
    ρ.closing (q.when (q.b f) fun p => (p.p f 0).irq 0x040 i) :=
  Rod.closing_when _ _ (fun _ k => Rod.closing_irq _ _ (by decide) (Rod.closing_p f 0 hf (.inr hl) k)) h

theorem Rod.closing_toSync (h : ρ.closing q) : ρ.closing q.toSync := by
  have h1 := Rod.closing_dropped Fl.FT_STAT_HOLD 2 (by decide) (by decide) h
  have h2 := Rod.closing_dropped Fl.FT_STAT_LOCKED 0 (by decide) (by decide) h1
  have h3 := Rod.closing_dropped Fl.FT_STAT_XMOD_OK 4 (by decide) (by decide) h2
  have h4 := Rod.closing_p Fl.FT_STAT_OUTLIER 0 (by decide) (.inr (by decide))
    (Rod.closing_p Fl.FT_STAT_VALID 0 (by decide) (.inr (by decide)) h3)
  exact Rod.closing_pocRun (Rod.closing_enter _ (Rod.closing_same (Rod.closing_coil false h4)))

theorem Rod.closing_lossOfLock (e : Int) (h : ρ.closing q) : ρ.closing (q.lossOfLock e) := by
  unfold Rod.lossOfLock
  split
  · dsimp only
    split
    · exact Rod.closing_withdrawDie (Rod.closing_flt h)
    · exact Rod.closing_toSync (Rod.closing_flt h)
  · exact h

end

end Sys2Proof.Machine
end

section
/-! CAPTURE_WINDOW_CLOSE: the ways a close can end, and what each of them leaves (R116, R119, R121, R123, R136). -/

namespace Sys2Proof.Machine

/-! ### The ways to end -/

/-- The rod with its holdover ended (R119). -/
def Rod.holdEnded (ρ : Rod) : Rod :=
  ρ.when (ρ.b Fl.FT_STAT_HOLD) fun q => (({ q with tb := { q.tb with xmod := 0 } } : Rod).p Fl.FT_STAT_HOLD (b2n false)).irq 0x040 2

/-- How far two cluster times disagree, in ns. -/
def spreadOf : List Int → Option Nat
  | [a, b] => some ((a - b).natAbs / 1000)
  | _ => none

/-- The rod with a holdover begun at the FT in force, and record 0x0263 (R119). -/
def Rod.holdStarted (ρ : Rod) (two : Option Nat) : Rod :=
  ((({ ρ with tb := { ρ.tb with holdFt := ρ.ft, expired := false } } : Rod).p Fl.FT_STAT_HOLD (b2n true)).irq 0x040 2).flt
    0x0263 sevDegrade 0x040 [(0, 1, if two.isSome then 2 else 1), (4, 4, two.getD 0)]

/-- The rod in holdover (R119). -/
def Rod.holdBegun (ρ : Rod) (two : Option Nat) : Rod := ρ.when (!ρ.b Fl.FT_STAT_HOLD) (·.holdStarted two)

/-- The rod with an error shown, disciplined and counted (R123, R124, R136). -/
def Rod.corrected (ρ : Rod) (e : Int) : Rod := ((ρ.p Fl.REMAINDER_E (satWord e)).discipline e).countCapture e

/-- The close in holdover: the error against the live rods, where there is one (R119). -/
def Rod.heldOver (ρ : Rod) : Rod :=
  match holdRef 0 ((ρ.me.partners.filter ρ.live).filterMap fun p => ρ.tb.offs.get p.idx) with
  | some e => (ρ.corrected e).lossOfLock e
  | none => ρ.p Fl.REMAINDER_E 0

/-- The rod with FT stepped, and the clusters without a time out of use (R118, R121). -/
def Rod.ftMoved (ρ : Rod) (e : Int) : Rod :=
  ((ρ.p Fl.REMAINDER_E (satWord e)).moveFt ((ρ.ftPs 0 + e) / 12500).toNat).withTb { ρ.tb with excl := ρ.tb.errs.map Option.isNone }

theorem Rod.ftStep_eq (ρ : Rod) (e : Int) :
    ρ.ftStep e = (((ρ.ftMoved e).p Fl.FT_STAT_VALID (b2n true)).flt 0x0260 sevInfo 0x040 [(8, 8, (ρ.ftMoved e).ft)]).owedRecords := rfl

/-- The end of a close in which the cluster times gave `ref`; `stepped` says that FT is valid, `two` how far two times disagree. -/
def Rod.captureEnd (ρ : Rod) (stepped : Bool) (two : Option Nat) : Option Int → Rod
  | some e => if stepped = false ∧ ρ.state = RS.sync then ρ.ftStep e else (ρ.holdEnded.corrected e).lossOfLock e
  | none => if stepped = false then ρ else (ρ.holdBegun two).heldOver

theorem Rod.captureWindowClose_eq (ρ : Rod) (ps : RodId → Rod) (ho : ρ.tb.open_ = true) :
    ρ.captureWindowClose ps = (ρ.windowJudged ps).captureEnd (ρ.b Fl.FT_STAT_VALID) (spreadOf ρ.sources) ρ.reference.1 :=
  if_neg (by simp [ho])

theorem Rod.captureEnd_step (ρ : Rod) (two : Option Nat) (e : Int) (hs : ρ.state = RS.sync) :
    ρ.captureEnd false two (some e) = ρ.ftStep e := by
  unfold Rod.captureEnd
  exact if_pos ⟨rfl, hs⟩

theorem Rod.captureEnd_correct (ρ : Rod) (two : Option Nat) (e : Int) :
    ρ.captureEnd true two (some e) = (ρ.holdEnded.corrected e).lossOfLock e := by
  unfold Rod.captureEnd
  exact if_neg (by simp)

theorem Rod.captureEnd_hold (ρ : Rod) (two : Option Nat) : ρ.captureEnd true two none = (ρ.holdBegun two).heldOver := by
  unfold Rod.captureEnd
  exact if_neg (by decide)

theorem Rod.captureEnd_wait (ρ : Rod) (two : Option Nat) : ρ.captureEnd false two none = ρ := by
  unfold Rod.captureEnd
  exact if_pos rfl

theorem Rod.captureWindowClose_closed (ρ : Rod) (ps : RodId → Rod) (ho : ρ.tb.open_ = false) : ρ.captureWindowClose ps = ρ := if_pos ho

/-! ### What every end leaves -/

section
variable {ρ q : Rod}

theorem Rod.closing_withTb (t : TimeB) (ht : t.open_ = q.tb.open_) (h : ρ.closing q) : ρ.closing (q.withTb t) := Rod.closing_same h ht

theorem Rod.closing_holdEnded (h : ρ.closing q) : ρ.closing q.holdEnded :=
  Rod.closing_when _ _ (fun p k => Rod.closing_irq _ _ (by decide) (Rod.closing_p Fl.FT_STAT_HOLD _ (by decide) (.inr (by decide))
    (Rod.closing_withTb { p.tb with xmod := 0 } rfl k))) h

theorem Rod.closing_holdStarted (two : Option Nat) (h : ρ.closing q) : ρ.closing (q.holdStarted two) :=
  Rod.closing_flt (Rod.closing_irq _ _ (by decide) (Rod.closing_p Fl.FT_STAT_HOLD _ (by decide) (.inr (by decide))
    (Rod.closing_withTb { q.tb with holdFt := q.ft, expired := false } rfl h)))

theorem Rod.closing_discipline (e : Int) (h : ρ.closing q) : ρ.closing (q.discipline e) :=
  Rod.closing_p Fl.RATE_CORR_RATE _ (by decide) (.inl (by decide)) (Rod.closing_withTb _ rfl h)

theorem Rod.closing_countCapture (e : Int) (h : ρ.closing q) : ρ.closing (q.countCapture e) := Rod.closing_withTb _ rfl h

theorem Rod.closing_corrected (e : Int) (h : ρ.closing q) : ρ.closing (q.corrected e) :=
  Rod.closing_countCapture _ (Rod.closing_discipline _ (Rod.closing_p Fl.REMAINDER_E _ (by decide) (.inl (by decide)) h))

theorem Rod.closing_heldOver (h : ρ.closing q) : ρ.closing q.heldOver := by
  unfold Rod.heldOver
  split
  · exact Rod.closing_lossOfLock _ (Rod.closing_corrected _ h)
  · exact Rod.closing_p _ _ (by decide) (.inl (by decide)) h

theorem Rod.closing_owedRecords (h : ρ.closing q) : ρ.closing q.owedRecords := by
  have hclk := Rod.closing_each q.aon.clkEvts (fun e p => p.evtRecord 0x002 e) (fun _ _ k => Rod.closing_flt k) h
  have hsup := Rod.closing_each q.aon.supEvt.toList (fun e p => p.evtRecord 0x003 e) (fun _ _ k => Rod.closing_flt k) hclk
  exact Rod.closing_same (Rod.closing_when _ _ (fun _ k => Rod.closing_flt k) hsup)

theorem Rod.closing_moveFt (n : Nat) (h : ρ.closing q) : ρ.closing (q.moveFt n) := Rod.closing_same h

theorem Rod.closing_ftStep (e : Int) (h : ρ.closing q) : ρ.closing (q.ftStep e) := by
  have hshown := Rod.closing_p Fl.REMAINDER_E (satWord e) (by decide) (.inl (by decide)) h
  have hmoved : ρ.closing (q.ftMoved e) := Rod.closing_withTb _ rfl (Rod.closing_moveFt _ hshown)
  rw [Rod.ftStep_eq]
  exact Rod.closing_owedRecords (Rod.closing_flt (Rod.closing_p Fl.FT_STAT_VALID _ (by decide) (.inr (by decide)) hmoved))

theorem Rod.closing_captureEnd (stepped : Bool) (two : Option Nat) (ref : Option Int) (h : ρ.closing q) :
    ρ.closing (q.captureEnd stepped two ref) := by
  unfold Rod.captureEnd
  split
  · split
    · exact Rod.closing_ftStep _ h
    · exact Rod.closing_lossOfLock _ (Rod.closing_corrected _ (Rod.closing_holdEnded h))
  · split
    · exact h
    · exact Rod.closing_heldOver (Rod.closing_when _ _ (fun _ k => Rod.closing_holdStarted _ k) h)

end

/-! ### An error disciplined -/

theorem natOfInt_mod (i : Int) : natOfInt 32 i % 2 ^ 32 = natOfInt 32 i := by
  unfold natOfInt
  omega

/-- A rod that does not serve has no lock to lose (R125). -/
theorem Rod.lossOfLock_idle (ρ : Rod) (e : Int) (h : RS.serving ρ.state = false) : ρ.lossOfLock e = ρ := if_neg (by simp [h])

theorem Rod.carries_withTb {β : Type} {V : ModeS → β} {K : Nat → Bool} {ρ q : Rod} (t : TimeB) (h : ρ.carries V K q) :
    ρ.carries V K (q.withTb t) := Rod.carries_same h

/-- The limit of the rate and of the integrator (R123). -/
def Rod.slewLim (ρ : Rod) : Int := ρ.g Fl.DISC_CFG_SLEW_MAX * 16000

theorem Rod.discipline_spec (ρ : Rod) (e : Int) :
    let q := ρ.discipline e
    q.g Fl.REMAINDER_E = ρ.g Fl.REMAINDER_E ∧ q.tb.integ64 = clampI (-ρ.slewLim) ρ.slewLim (ρ.tb.integ64 + e) ∧
    q.g Fl.RATE_CORR_RATE = natOfInt 32 (divRoundAway (clampI (-ρ.slewLim) ρ.slewLim (8 * e + q.tb.integ64)) 16) := by
  unfold Rod.discipline Rod.slewLim
  dsimp only
  exact ⟨Rod.g_p_addr _ _ _ _ (by decide), rfl, (Rod.g_p _ _ _ (by decide)).trans (natOfInt_mod _)⟩

theorem Rod.countCapture_g (ρ : Rod) (e : Int) (f : Fld) : (ρ.countCapture e).g f = ρ.g f := Rod.g_congr _ _ f rfl

theorem Rod.countCapture_integ (ρ : Rod) (e : Int) : (ρ.countCapture e).tb.integ64 = ρ.tb.integ64 := rfl

theorem Rod.corrected_spec (ρ : Rod) (e : Int) :
    let q := ρ.corrected e
    q.g Fl.REMAINDER_E = satWord e ∧ q.tb.integ64 = clampI (-ρ.slewLim) ρ.slewLim (ρ.tb.integ64 + e) ∧
    q.g Fl.RATE_CORR_RATE = natOfInt 32 (divRoundAway (clampI (-ρ.slewLim) ρ.slewLim (8 * e + q.tb.integ64)) 16) := by
  have hslew : (ρ.p Fl.REMAINDER_E (satWord e)).slewLim = ρ.slewLim := by
    unfold Rod.slewLim
    rw [Rod.g_p_addr _ _ _ _ (by decide)]
  have hcount (f : Fld) : (ρ.corrected e).g f = ((ρ.p Fl.REMAINDER_E (satWord e)).discipline e).g f := Rod.countCapture_g _ e f
  have hkept : (ρ.corrected e).tb.integ64 = ((ρ.p Fl.REMAINDER_E (satWord e)).discipline e).tb.integ64 := Rod.countCapture_integ _ e
  obtain ⟨hrem, hinteg, hrate⟩ := Rod.discipline_spec (ρ.p Fl.REMAINDER_E (satWord e)) e
  rw [hslew] at hinteg hrate
  dsimp only
  rw [hcount, hcount, hkept]
  exact ⟨hrem.trans ((Rod.g_p ρ Fl.REMAINDER_E _ (by decide)).trans (natOfInt_mod _)), hinteg, hrate⟩

end Sys2Proof.Machine
end

section
/-! CAPTURE_WINDOW_CLOSE of a rod that does not serve, and of one that steps FT in SYNC (R119, R121, R123, R136). -/

namespace Sys2Proof.Machine

/-! ### HOLD -/

/-- HOLD written, with its event (R119). -/
def Rod.holdSet (ρ : Rod) (v : Bool) : Rod := (ρ.p Fl.FT_STAT_HOLD (b2n v)).irq 0x040 2

/-- The registers that decide the rest of a close, and that a change of HOLD leaves. -/
def holdKept (a : Nat) : Bool := a == Rg.ROD_STATE || a == Rg.DISC_CFG

theorem Rod.holdSet_spec (ρ : Rod) (v : Bool) :
    let q := ρ.holdSet v
    q.b Fl.FT_STAT_HOLD = v ∧ q.ftn = ρ.ftn ∧ q.tb = ρ.tb ∧ ρ.carries (fun _ => ()) holdKept q := by
  unfold Rod.holdSet
  dsimp only
  rw [Rod.irq_ftn, Rod.irq_tb, Rod.b_irq_ne _ _ _ Fl.FT_STAT_HOLD (by decide)]
  exact ⟨Rod.b_p ρ Fl.FT_STAT_HOLD v (by decide) rfl, Rod.p_ftn _ _ _, Rod.p_tb _ _ _,
    Rod.carries_irq _ _ (Rod.carries_p Fl.FT_STAT_HOLD _ (by decide) (Rod.carries_refl _ _ _))⟩

theorem Rod.holdEnded_spec (ρ : Rod) :
    let q := ρ.holdEnded
    q.b Fl.FT_STAT_HOLD = false ∧ q.ftn = ρ.ftn ∧ q.state = ρ.state ∧ q.tb.integ64 = ρ.tb.integ64 ∧ q.slewLim = ρ.slewLim := by
  dsimp only
  cases hh : ρ.b Fl.FT_STAT_HOLD with
  | false =>
    have he : ρ.holdEnded = ρ := if_neg (by simp [hh])
    rw [he]
    exact ⟨hh, rfl, rfl, rfl, rfl⟩
  | true =>
    have he : ρ.holdEnded = (ρ.withTb { ρ.tb with xmod := 0 }).holdSet false := if_pos hh
    obtain ⟨hhold, hft, htb, hset⟩ := Rod.holdSet_spec (ρ.withTb { ρ.tb with xmod := 0 }) false
    have hc := Rod.carries_trans (Rod.carries_withTb { ρ.tb with xmod := 0 } (Rod.carries_refl _ holdKept ρ)) hset
    rw [he]
    refine ⟨hhold, hft, hc.state (by decide), by rw [htb]; rfl, ?_⟩
    unfold Rod.slewLim
    rw [hc.g Fl.DISC_CFG_SLEW_MAX (by decide) (by decide)]

theorem Rod.holdBegun_spec (ρ : Rod) (two : Option Nat) :
    let q := ρ.holdBegun two
    q.b Fl.FT_STAT_HOLD = true ∧ q.ftn = ρ.ftn ∧ q.state = ρ.state ∧
    (ρ.b Fl.FT_STAT_HOLD = false → q.tb.holdFt = ρ.ft ∧ q.noted 0x0263 sevDegrade 0x040) := by
  dsimp only
  cases hh : ρ.b Fl.FT_STAT_HOLD with
  | true =>
    have he : ρ.holdBegun two = ρ := if_neg (by simp [hh])
    rw [he]
    exact ⟨hh, rfl, rfl, fun h => absurd h (by decide)⟩
  | false =>
    let t := { ρ.tb with holdFt := ρ.ft, expired := false }
    have he : ρ.holdBegun two = ((ρ.withTb t).holdSet true).fltAP 0x0263 sevDegrade 0x040 0xFF 0xFF
        [(0, 1, if two.isSome then 2 else 1), (4, 4, two.getD 0)] := if_pos (by simp [hh])
    obtain ⟨hhold, hft, htb, hset⟩ := Rod.holdSet_spec (ρ.withTb t) true
    have hc := Rod.carries_fltAP (c := 0x0263) (sv := sevDegrade) (pg := 0x040) (ax := 0xFF) (ph := 0xFF)
      (d := [(0, 1, if two.isSome then 2 else 1), (4, 4, two.getD 0)])
      (Rod.carries_trans (Rod.carries_withTb t (Rod.carries_refl _ holdKept ρ)) hset)
    rw [he]
    refine ⟨(Rod.b_congr _ _ _ (Rod.gw_fltAP _ _ _ _ _ _ _ _)).trans hhold, hft, hc.state (by decide),
      fun _ => ⟨?_, Rod.noted_fltAP _ _ _ _ _ _ _⟩⟩
    exact (congrArg TimeB.holdFt htb).trans rfl

/-! ### A correction -/

/-- The registers of the counting frame and the rod state that a correction leaves. -/
def frameRegs (a : Nat) : Bool := a == Rg.FT_STAT || a == Rg.ROD_STATE

/-- `q` comes of `ρ` by changes that leave FT_STAT, the rod state, FT, and the FT at which the holdover began. -/
structure Rod.holding (ρ q : Rod) : Prop where
  carries : ρ.carries (fun _ => ()) frameRegs q
  ftn : q.ftn = ρ.ftn
  held : q.tb.holdFt = ρ.tb.holdFt

theorem Rod.holding_refl (ρ : Rod) : ρ.holding ρ := ⟨Rod.carries_refl _ _ _, rfl, rfl⟩

theorem Rod.holding_p {ρ q : Rod} (f : Fld) (v : Nat) (hf : frameRegs f.addr = false) (h : ρ.holding q) : ρ.holding (q.p f v) :=
  ⟨Rod.carries_p f v hf h.carries, h.ftn, h.held⟩

theorem Rod.holding_withTb {ρ q : Rod} (t : TimeB) (ht : t.holdFt = q.tb.holdFt) (h : ρ.holding q) : ρ.holding (q.withTb t) :=
  ⟨Rod.carries_withTb t h.carries, h.ftn, ht.trans h.held⟩

theorem Rod.holding_corrected (ρ : Rod) (e : Int) : ρ.holding (ρ.corrected e) := by
  have hshown := Rod.holding_p Fl.REMAINDER_E (satWord e) (by decide) (Rod.holding_refl ρ)
  exact Rod.holding_withTb _ rfl (Rod.holding_p Fl.RATE_CORR_RATE _ (by decide) (Rod.holding_withTb _ rfl hshown))

/-- A rod that does not serve is corrected and no more (R125). -/
theorem Rod.lossOfLock_corrected (ρ : Rod) (e : Int) (hs : RS.serving ρ.state = false) :
    (ρ.corrected e).lossOfLock e = ρ.corrected e :=
  Rod.lossOfLock_idle _ e (by rwa [(Rod.holding_corrected ρ e).carries.state (by decide)])

theorem Rod.holding_heldOver (ρ : Rod) (hs : RS.serving ρ.state = false) : ρ.holding ρ.heldOver := by
  unfold Rod.heldOver
  split
  · next e _ => rw [Rod.lossOfLock_corrected ρ e hs]; exact Rod.holding_corrected ρ e
  · exact Rod.holding_p _ _ (by decide) (Rod.holding_refl ρ)

/-! ### The ends of a rod with a valid FT -/

/-- A reference in a rod with a valid FT that does not serve (R123, R136). -/
theorem Rod.captureEnd_disciplined (ρ : Rod) (two : Option Nat) (e : Int) (hs : RS.serving ρ.state = false) :
    let τ := (ρ.captureEnd true two (some e)).flush
    τ.ftn = ρ.ftn ∧ τ.b Fl.FT_STAT_HOLD = false ∧ τ.g Fl.REMAINDER_E = satWord e ∧
    τ.tb.integ64 = clampI (-ρ.slewLim) ρ.slewLim (ρ.tb.integ64 + e) ∧
    τ.g Fl.RATE_CORR_RATE = natOfInt 32 (divRoundAway (clampI (-ρ.slewLim) ρ.slewLim (8 * e + τ.tb.integ64)) 16) := by
  obtain ⟨hhold, hft, hstate, hinteg, hslew⟩ := Rod.holdEnded_spec ρ
  obtain ⟨hrem, hsum, hrate⟩ := Rod.corrected_spec ρ.holdEnded e
  have h := Rod.holding_corrected ρ.holdEnded e
  have heq : ρ.captureEnd true two (some e) = ρ.holdEnded.corrected e :=
    (Rod.captureEnd_correct ρ two e).trans (Rod.lossOfLock_corrected ρ.holdEnded e (by rwa [hstate]))
  dsimp only
  rw [heq, Rod.flush_ftn, Rod.flush_tb, Rod.flush_b _ Fl.FT_STAT_HOLD ftStat_not_log, Rod.flush_g _ Fl.REMAINDER_E (by decide),
    Rod.flush_g _ Fl.RATE_CORR_RATE (by decide), ← hslew, ← hinteg]
  exact ⟨h.ftn.trans hft, (h.carries.b _ (by decide) (by decide)).trans hhold, hrem, hsum, hrate⟩

/-- No reference in a rod with a valid FT that does not serve (R119). -/
theorem Rod.captureEnd_heldOver (ρ : Rod) (two : Option Nat) (hs : RS.serving ρ.state = false) :
    let τ := (ρ.captureEnd true two none).flush
    τ.ftn = ρ.ftn ∧ τ.b Fl.FT_STAT_HOLD = true ∧
    (ρ.b Fl.FT_STAT_HOLD = false → τ.tb.holdFt = ρ.ft ∧ τ.recorded 0x0263 sevDegrade 0x040) := by
  obtain ⟨hhold, hft, hstate, hbegun⟩ := Rod.holdBegun_spec ρ two
  have h := Rod.holding_heldOver (ρ.holdBegun two) (by rwa [hstate])
  dsimp only
  rw [Rod.captureEnd_hold, Rod.flush_ftn, Rod.flush_tb, Rod.flush_b _ Fl.FT_STAT_HOLD ftStat_not_log]
  refine ⟨h.ftn.trans hft, (h.carries.b _ (by decide) (by decide)).trans hhold, fun hh => ?_⟩
  obtain ⟨hat, hnoted⟩ := hbegun hh
  exact ⟨h.held.trans hat, h.carries.recorded hnoted (by decide)⟩

/-! ### FT stepped in SYNC -/

theorem Rod.owedRecords_ftn (ρ : Rod) : ρ.owedRecords.ftn = ρ.ftn := by
  unfold Rod.owedRecords
  dsimp only
  rw [Rod.when_keeps (fun q => q.ftn) (fun q => q.flt _ _ _ _) _ _ (fun _ => rfl),
    Rod.each_keeps (fun q => q.ftn) (fun e q => q.evtRecord 0x003 e) (fun _ _ => rfl),
    Rod.each_keeps (fun q => q.ftn) (fun e q => q.evtRecord 0x002 e) (fun _ _ => rfl)]

theorem Rod.carries_owedRecords {β : Type} {V : ModeS → β} {K : Nat → Bool} {ρ q : Rod} (h : ρ.carries V K q) :
    ρ.carries V K q.owedRecords := by
  have hclk := Rod.carries_each q.aon.clkEvts (fun e p => p.evtRecord 0x002 e) (fun _ _ k => Rod.carries_fltAP k) h
  have hsup := Rod.carries_each q.aon.supEvt.toList (fun e p => p.evtRecord 0x003 e) (fun _ _ k => Rod.carries_fltAP k) hclk
  exact Rod.carries_same (Rod.carries_when _ _ (fun _ k => Rod.carries_fltAP k) hsup)

/-- A reference in a rod in SYNC without a valid FT (R121). -/
theorem Rod.captureEnd_stepped (ρ : Rod) (two : Option Nat) (e : Int) (hs : ρ.state = RS.sync) :
    let τ := (ρ.captureEnd false two (some e)).flush
    τ.ftn = ((12500 * (ρ.ftn : Int) + e) / 12500).toNat ∧ τ.b Fl.FT_STAT_VALID = true ∧ τ.recorded 0x0260 sevInfo 0x040 := by
  let q := (ρ.ftMoved e).p Fl.FT_STAT_VALID (b2n true)
  let d := [(8, 8, (ρ.ftMoved e).ft)]
  have heq : ρ.captureEnd false two (some e) = (q.fltAP 0x0260 sevInfo 0x040 0xFF 0xFF d).owedRecords :=
    (Rod.captureEnd_step ρ two e hs).trans (Rod.ftStep_eq ρ e)
  have hc := Rod.carries_owedRecords (V := fun _ => ()) (K := frameRegs) (Rod.carries_refl _ _ (q.fltAP 0x0260 sevInfo 0x040 0xFF 0xFF d))
  have hvalid : q.b Fl.FT_STAT_VALID = true := Rod.b_p (ρ.ftMoved e) Fl.FT_STAT_VALID true (by decide) rfl
  have hft : q.ftn = ((12500 * (ρ.ftn : Int) + e) / 12500).toNat := by
    rw [← Rod.ftPs_zero]
    rfl
  dsimp only
  rw [heq, Rod.flush_ftn, Rod.owedRecords_ftn, Rod.flush_b _ Fl.FT_STAT_VALID ftStat_not_log]
  refine ⟨hft, ?_, hc.recorded (Rod.noted_fltAP _ _ _ _ _ _ _) (by decide)⟩
  exact ((hc.b _ (by decide) (by decide)).trans (Rod.b_congr _ _ _ (Rod.gw_fltAP _ _ _ _ _ _ _ _))).trans hvalid

/-! ### The statement -/

/-- Settles O37: the ways a close can end, each by what it leaves of the window as judged. -/
theorem windowCloseDisciplinesTime : Obligations.WindowCloseDisciplinesTime := by
  unfold Obligations.WindowCloseDisciplinesTime
  intro s r
  dsimp only
  refine ⟨fun ho => ⟨_, rfl, ?_⟩, fun ho => ⟨_, rfl, ?_⟩⟩
  all_goals
    dsimp only
    rw [State.rod_putRod]
    generalize (s.rod r).view s.rod = ρ at ho ⊢
  · exact Rod.only_flush_self (Rod.captureWindowClose_closed ρ s.rod ho)
  · rw [Rod.captureWindowClose_eq ρ s.rod ho]
    obtain ⟨hopen, -, hinteg, hmode, hvalid, hhold, hstate, hslew, hme, hft, hrk⟩ := Rod.windowJudged_spec ρ s.rod
    have hclose := Rod.closing_flush (Rod.closing_captureEnd (ρ.b Fl.FT_STAT_VALID) (spreadOf ρ.sources) ρ.reference.1
      (Rod.closing_refl (ρ.windowJudged s.rod)))
    generalize ρ.windowJudged s.rod = q at *
    have hlim : q.slewLim = ρ.slewLim := by unfold Rod.slewLim; rw [hslew]
    have hat : q.ft = ρ.ft := by unfold Rod.ft; rw [hft]
    refine ⟨hclose.window.trans hopen, hclose.mode.trans hmode, hclose.me.trans hme, hclose.sig.trans (by rw [hrk]),
      fun e hr hv hs => ?_, fun e hr hv hs => ?_, fun hr hv hs => ?_, fun hr hv => ?_⟩
    all_goals
      rw [show ρ.reference.1 = _ from hr, hv]
    · rw [← hft]
      exact Rod.captureEnd_stepped q _ e (hstate.trans hs)
    · have h := Rod.captureEnd_disciplined q (spreadOf ρ.sources) e (by rw [hstate, hs])
      rwa [hft, hlim, hinteg] at h
    · have h := Rod.captureEnd_heldOver q (spreadOf ρ.sources) (by rw [hstate, hs])
      rwa [hft, hhold, hat] at h
    · rw [Rod.captureEnd_wait, Rod.flush_ftn, Rod.flush_b _ Fl.FT_STAT_VALID ftStat_not_log]
      exact ⟨hft, hvalid.trans hv⟩

end Sys2Proof.Machine
end

section
/-! The FlexRay controller: what a change of its state, of its fields beyond the pages, and of what it sends leaves. -/

namespace Sys2Proof.Machine

/-! ### Its fields beyond the pages -/

@[simp] theorem Rod.gw_modFr (ρ : Rod) (f : FrS → FrS) (a : Nat) : (ρ.modFr f).gw a = ρ.gw a := rfl
@[simp] theorem Rod.g_modFr (ρ : Rod) (f : FrS → FrS) (x : Fld) : (ρ.modFr f).g x = ρ.g x := rfl
@[simp] theorem Rod.b_modFr (ρ : Rod) (f : FrS → FrS) (x : Fld) : (ρ.modFr f).b x = ρ.b x := rfl
@[simp] theorem Rod.poc_modFr (ρ : Rod) (f : FrS → FrS) : (ρ.modFr f).poc = ρ.poc := rfl
@[simp] theorem Rod.modFr_fr (ρ : Rod) (f : FrS → FrS) : (ρ.modFr f).fr = f ρ.fr := rfl

theorem Rod.only_modFr {ρ q σ : Rod} {ex : List Nat} (f : FrS → FrS) (h : ρ.only q ex σ) :
    ρ.only (q.modFr f) ex { σ with fr := f σ.fr } := by
  obtain ⟨hk, ha⟩ := h
  refine ⟨Rod.keepsRegs_regs _ q _ _ rfl hk, ?_⟩
  unfold Rod.agrees Rod.modFr at *
  rw [ha]

theorem Rod.only_inc {ρ q σ : Rod} {ex : List Nat} (f : Fld) (hf : f.addr ∈ ex) (h : ρ.only q ex σ) : ρ.only (q.inc f) ex σ :=
  Rod.only_p f _ hf h

theorem Rod.agrees_fr {ρ q : Rod} (h : ρ.agrees q) : ρ.fr = q.fr := by
  unfold Rod.agrees at h
  rw [h]

/-- What is left but for the controller's fields beyond the pages, whatever they are. -/
theorem Rod.only_ownFr {ρ q σ : Rod} {ex : List Nat} {f : FrS} (h : ρ.only q ex { σ with fr := f }) :
    ρ.only q ex { σ with fr := q.fr } := by
  rw [Rod.agrees_fr h.2]
  exact h

theorem Rod.agrees_fresh {ρ q : Rod} (h : ρ.agrees q) : ρ.fresh = q.fresh := by
  unfold Rod.agrees at h
  rw [h]

theorem Rod.only_fresh {ρ q σ : Rod} {ex : List Nat} (n : Nat) (h : ρ.only q ex σ) :
    ρ.only { q with fresh := n } ex { σ with fresh := n } := by
  obtain ⟨hk, ha⟩ := h
  refine ⟨Rod.keepsRegs_regs _ q _ _ rfl hk, ?_⟩
  unfold Rod.agrees at *
  rw [ha]

/-! ### A state entered -/

theorem Rod.only_setPoc {ρ q σ : Rod} {ex : List Nat} (p : Nat) (hs : Rg.FR_STAT ∈ ex) (hi : Rg.IRQ_RAW 0x030 ∈ ex)
    (h : ρ.only q ex σ) : ρ.only (q.setPoc p) ex σ :=
  ⟨Rod.keepsRegs_setPoc _ _ _ _ hs hi h.1, Rod.agrees_trans _ _ _ (Rod.agrees_setPoc _ _) h.2⟩

@[simp] theorem Rod.setPoc_fr (ρ : Rod) (p : Nat) : (ρ.setPoc p).fr = ρ.fr := by
  rw [Rod.agrees_setPoc ρ p]

theorem Rod.gw_setPoc_ne (ρ : Rod) (p a : Nat) (hs : a ≠ Rg.FR_STAT) (hi : a ≠ Rg.IRQ_RAW 0x030) : (ρ.setPoc p).gw a = ρ.gw a := by
  unfold Rod.setPoc
  split
  · rfl
  · rw [Rod.flt_eq, Rod.gw_fltAP, Rod.gw_irq_ne _ _ _ _ hi, Rod.gw_p_ne _ _ _ _ hs]

theorem Rod.state_setPoc (ρ : Rod) (p : Nat) : (ρ.setPoc p).state = ρ.state :=
  Rod.state_congr _ _ ((Rod.agrees_iff _ _).1 (Rod.agrees_setPoc ρ p)).1 (Rod.gw_setPoc_ne _ _ _ (by decide) (by decide))

/-- A state change writes POC of FR_STAT and the event of its page. -/
theorem Rod.g_setPoc_ne (ρ : Rod) (p : Nat) (f : Fld) (hf : f.addr ≠ Rg.FR_STAT ∨ 4 ≤ f.lo) (hi : f.addr ≠ Rg.IRQ_RAW 0x030) :
    (ρ.setPoc p).g f = ρ.g f := by
  unfold Rod.setPoc
  split
  · rfl
  · rw [Rod.flt_eq, Rod.g_fltAP, Rod.g_irq_ne _ _ _ _ hi, Rod.g_p_ne _ Fl.FR_STAT_POC _ _ (by decide) (hf.imp id .inr)]

theorem Rod.b_setPoc_ne (ρ : Rod) (p : Nat) (f : Fld) (hf : f.addr ≠ Rg.FR_STAT ∨ 4 ≤ f.lo) (hi : f.addr ≠ Rg.IRQ_RAW 0x030) :
    (ρ.setPoc p).b f = ρ.b f := by
  unfold Rod.b
  rw [Rod.g_setPoc_ne _ _ _ hf hi]

/-- The state entered shows once the records are written. -/
theorem Rod.poc_flush (ρ : Rod) : ρ.flush.poc = ρ.poc := Rod.flush_g _ _ (by decide)

theorem Rod.poc_p_ne (ρ : Rod) (f : Fld) (v : Nat) (h : f.lo + f.w ≤ 32) (hf : Rg.FR_STAT ≠ f.addr ∨ 4 ≤ f.lo) :
    (ρ.p f v).poc = ρ.poc := Rod.g_p_ne _ _ _ _ h (hf.imp id .inl)

/-- A state change keeps the events, messages and records before it. -/
theorem Rod.setPoc_carries (ρ : Rod) (p : Nat) : ρ.carries id (fun a => a == Rg.IRQ_RAW 0x030) (ρ.setPoc p) := by
  unfold Rod.setPoc
  split
  · exact Rod.carries_refl _ _ _
  · exact Rod.carries_fltAP (Rod.carries_irq _ _ (Rod.carries_p Fl.FR_STAT_POC _ (by decide) (Rod.carries_refl _ _ _)))

/-- A change of state is recorded (R182). -/
theorem Rod.setPoc_noted (ρ : Rod) (p : Nat) (h : ρ.poc ≠ p) : (ρ.setPoc p).noted 0x0601 sevInfo 0x030 := by
  unfold Rod.setPoc
  rw [if_neg h]
  exact Rod.noted_fltAP _ _ _ _ _ _ _

/-- A one-bit field is the bit of its register. -/
theorem Rod.b_eq_bit (ρ : Rod) (f : Fld) (hw : f.w = 1) : ρ.b f = wBit (ρ.gw f.addr) f.lo := by
  have hbit : (wBits (ρ.gw f.addr) f.lo 1).testBit 0 = wBit (ρ.gw f.addr) f.lo := by
    rw [wBits_testBit]
    rfl
  have hlt := wBits_lt (ρ.gw f.addr) f.lo 1
  rw [← hbit]
  unfold Rod.b Rod.g
  rw [hw]
  generalize wBits (ρ.gw f.addr) f.lo 1 = x at *
  interval_cases x <;> rfl

/-! ### What it sends -/

/-- The transmit balls are driven as long as the rod's name, its mode and its state are the same (R151). -/
theorem Rod.frDrives_congr {ρ q : Rod} (hme : q.me = ρ.me) (hmd : q.md = ρ.md) (hs : q.gw Rg.ROD_STATE = ρ.gw Rg.ROD_STATE) :
    q.frDrives = ρ.frDrives := by
  unfold Rod.frDrives
  rw [Rod.state_congr ρ q hme hs, hmd]

theorem Rod.ftxen_congr {ρ q : Rod} (hd : q.frDrives = ρ.frDrives) (hm : q.gw Rg.FR_MODE = ρ.gw Rg.FR_MODE) (sending : Bool) :
    q.ftxen sending = ρ.ftxen sending := by
  unfold Rod.ftxen
  rw [hd, Rod.b_congr ρ q Fl.FR_MODE_TXEN_LOW hm]

theorem Rod.chanOn_congr {ρ q : Rod} (hm : q.gw Rg.FR_MODE = ρ.gw Rg.FR_MODE) (c : Chan) : q.chanOn c = ρ.chanOn c := by
  unfold Rod.chanOn Rod.bitOf
  rw [Rod.g_of_gw ρ q Fl.FR_MODE_CH_USE hm]

/-- The balls are driven as before after a change of other parts of the rod. -/
theorem Rod.only_drives {ρ q σ : Rod} {ex : List Nat} (h : ρ.only q ex σ) (hs : Rg.ROD_STATE ∉ ex) (hm : Rg.FR_MODE ∉ ex)
    (hme : σ.me = ρ.me := by rfl) (hmd : σ.md = ρ.md := by rfl) :
    q.frDrives = ρ.frDrives ∧ (∀ sending, q.ftxen sending = ρ.ftxen sending) ∧ ∀ c, q.chanOn c = ρ.chanOn c := by
  obtain ⟨hk, ha⟩ := h
  have hd : q.frDrives = ρ.frDrives := by
    refine Rod.frDrives_congr ?_ ?_ (hk _ hs (by decide) (by decide))
    · unfold Rod.agrees at ha
      rw [ha, ← hme]
    · unfold Rod.agrees at ha
      rw [ha, ← hmd]
  have hmode : q.gw Rg.FR_MODE = ρ.gw Rg.FR_MODE := hk _ hm (by decide) (by decide)
  exact ⟨hd, Rod.ftxen_congr hd hmode, Rod.chanOn_congr hmode⟩

/-- Sending changes what has been sent, and nothing else. -/
theorem Rod.frSend_cases (ρ : Rod) (o : Ball → Out) : ∃ l, ρ.frSend o = { ρ with out := ρ.out ++ l } := by
  unfold Rod.frSend
  split
  · exact ⟨_, rfl⟩
  · exact ⟨[], by rw [List.append_nil]⟩

theorem Rod.only_frSend {ρ q σ : Rod} {ex : List Nat} (o : Ball → Out) (h : ρ.only q ex σ) : ρ.only (q.frSend o) ex σ := by
  obtain ⟨l, e⟩ := Rod.frSend_cases q o
  obtain ⟨hk, ha⟩ := h
  rw [e]
  exact ⟨Rod.keepsRegs_regs _ q _ _ rfl hk, Rod.agrees_trans _ q _ rfl ha⟩

theorem Rod.carries_frSend {β : Type} {V : ModeS → β} {K : Nat → Bool} {ρ q : Rod} (o : Ball → Out) (h : ρ.carries V K q) :
    ρ.carries V K (q.frSend o) := by
  unfold Rod.frSend
  split
  · exact Rod.carries_send _ h
  · exact h

theorem Rod.frSend_mem (ρ : Rod) (o : Ball → Out) (h : ρ.frDrives = true) : o (ρ.ftxen true) ∈ (ρ.frSend o).out := by
  unfold Rod.frSend
  rw [if_pos h]
  simp

/-- Sending on some channels changes what has been sent, and nothing else. -/
theorem Rod.each_frSend_cases (ρ : Rod) (cs : List Chan) (o : Chan → Ball → Out) :
    ∃ l, ρ.each cs (fun c q => q.frSend (o c)) = { ρ with out := ρ.out ++ l } := by
  refine Rod.each_invariant (fun q => ∃ l, q = { ρ with out := ρ.out ++ l }) _ ?_ cs ρ ⟨[], by rw [List.append_nil]⟩
  rintro c q ⟨l, rfl⟩
  obtain ⟨m, e⟩ := Rod.frSend_cases { ρ with out := ρ.out ++ l } (o c)
  exact ⟨l ++ m, by rw [e, List.append_assoc]⟩

theorem Rod.gw_each_frSend (ρ : Rod) (cs : List Chan) (o : Chan → Ball → Out) (a : Nat) :
    (ρ.each cs fun c q => q.frSend (o c)).gw a = ρ.gw a := by
  obtain ⟨l, e⟩ := Rod.each_frSend_cases ρ cs o
  rw [e]
  rfl

/-- What is sent on a channel has gone out after all of them are served. -/
theorem Rod.each_frSend_mem (ρ : Rod) (cs : List Chan) (o : Chan → Ball → Out) (c : Chan) (hc : c ∈ cs) (h : ρ.frDrives = true) :
    o c (ρ.ftxen true) ∈ (ρ.each cs fun c q => q.frSend (o c)).out := by
  refine Rod.each_establishes (fun q => ∃ l, q = { ρ with out := ρ.out ++ l }) (fun q => o c (ρ.ftxen true) ∈ q.out) _ c cs hc ?_ ?_ ?_ ρ
    ⟨[], by rw [List.append_nil]⟩
  · rintro c q ⟨l, rfl⟩
    obtain ⟨m, e⟩ := Rod.frSend_cases { ρ with out := ρ.out ++ l } (o c)
    exact ⟨l ++ m, by rw [e, List.append_assoc]⟩
  · rintro q ⟨l, rfl⟩
    exact Rod.frSend_mem { ρ with out := ρ.out ++ l } (o c) h
  · intro d q hq
    obtain ⟨m, e⟩ := Rod.frSend_cases q (o d)
    rw [e]
    exact List.mem_append_left _ hq

/-! ### Commands over one rod -/

/-- A command over one rod, by what it leaves of that rod. -/
theorem completes_onRod_of {i : Instr} {s : State} {r : RodId} {f : Rod → Rod} {P : State → Prop} (he : exec i s = onRod s r f)
    (h : ∀ t : State, t.rod r = (f (s.rod r)).flush → P t) : completes i s P :=
  ⟨_, he, h _ (State.rod_putRod _ _ _)⟩

end Sys2Proof.Machine
end

section
/-! Writes of FR_CMD (R174, R175, R177, Table 5.5): which commands act, and what each of them leaves. -/

namespace Sys2Proof.Machine

/-! ### The writes -/

/-- An accepted write of FR_CMD does what the register does (R8, R42 to R46). -/
theorem completes_frCmd {i : Instr} {s : State} {r : RodId} {path : Path} {data : Word} {q : Rod} {P : State → Prop}
    (ha : (s.rod r).accepts path Rg.FR_CMD) (he : exec i s = write32 s r path Rg.FR_CMD data)
    (hq : (s.rod r).writeFrCmd path.code data = q) (h : ∀ t : State, t.rod r = q.flush → P t) : completes i s P := by
  have hw : (s.rod r).writeReg s.rod path.code Rg.FR_CMD data = (s.rod r).writeFrCmd path.code data := by
    unfold Rod.writeReg
    simp [Rg.FR_CMD]
  obtain ⟨t, ht, e⟩ := exec_registerWrite_accepts s r path Rg.FR_CMD data ha (by decide) (by decide)
  rw [hw, hq] at e
  exact ⟨t, he.trans ht, h t e⟩

theorem keyed_key (key : Byte) (c : Nat) (h : c < 256) : wBits (keyed key c) 8 8 = key.toNat := by
  have hk := key.isLt
  simp only [wBits, natBits, keyed, BitVec.toNat_ofNat]
  omega

/-- A command under another KEY is captured (Table 5.5). -/
theorem Rod.writeFrCmd_badKey (ρ : Rod) (path c : Nat) (key : Byte) (hk : key ≠ 0x5A#8) (h : c < 256) :
    ρ.writeFrCmd path (keyed key c) = ρ.wakeDone.errCap 0x030 6 path 0x40 (keyed key c) := by
  have hne : wBits (keyed key c) 8 8 ≠ 0x5A := by
    rw [keyed_key key c h]
    exact fun e => hk (BitVec.eq_of_toNat_eq e)
  unfold Rod.writeFrCmd
  exact if_pos (.inl hne)

/-- WAKEUP needs STANDBY and POC ready (R175). -/
theorem Rod.writeFrCmd_wakeup (ρ : Rod) (path : Nat) : ρ.writeFrCmd path (keyed 0x5A#8 1) =
    ρ.wakeDone.frDo (ρ.wakeDone.mode == SM.standby && ρ.wakeDone.poc == Poc.ready) Rod.wakeStart := rfl

/-- MTS and WUDOP need normal active (R177). -/
theorem Rod.writeFrCmd_mtsA (ρ : Rod) (path : Nat) : ρ.writeFrCmd path (keyed 0x5A#8 2) =
    ρ.wakeDone.frDo (ρ.wakeDone.poc == Poc.active) fun q => q.modFr fun f => { f with mtsA := true } := rfl

theorem Rod.writeFrCmd_mtsB (ρ : Rod) (path : Nat) : ρ.writeFrCmd path (keyed 0x5A#8 3) =
    ρ.wakeDone.frDo (ρ.wakeDone.poc == Poc.active) fun q => q.modFr fun f => { f with mtsB := true } := rfl

theorem Rod.writeFrCmd_wudop (ρ : Rod) (path : Nat) : ρ.writeFrCmd path (keyed 0x5A#8 6) =
    ρ.wakeDone.frDo (ρ.wakeDone.poc == Poc.active) fun q => q.modFr fun f => { f with wudop := true } := rfl

/-- HALT needs STANDBY and a controller that runs (Table 5.5). -/
theorem Rod.writeFrCmd_halt (ρ : Rod) (path : Nat) : ρ.writeFrCmd path (keyed 0x5A#8 4) =
    ρ.wakeDone.frDo (ρ.wakeDone.mode == SM.standby && ρ.wakeDone.poc != 0 && ρ.wakeDone.poc != Poc.halt) fun q =>
      (q.setPoc Poc.halt).flt 0x0603 sevDegrade 0x030 [(0, 1, 2)] := rfl

/-- RESTART needs POC halt or a key slot clash (R174). -/
theorem Rod.writeFrCmd_restart (ρ : Rod) (path : Nat) : ρ.writeFrCmd path (keyed 0x5A#8 5) =
    ρ.wakeDone.frDo (ρ.wakeDone.poc == Poc.halt || ρ.wakeDone.fr.clash) Rod.pocRestart := rfl

/-! ### Refused, and taken -/

/-- A command that is taken clears CMD_REFUSED. -/
def Rod.cmdTaken (ρ : Rod) : Rod := ρ.p Fl.FR_STAT_CMD_REFUSED 0

theorem Rod.cmdTaken_refused (ρ : Rod) : ρ.cmdTaken.b Fl.FR_STAT_CMD_REFUSED = false :=
  Rod.b_p ρ Fl.FR_STAT_CMD_REFUSED false (by decide) rfl

theorem Rod.cmdTaken_poc (ρ : Rod) : ρ.cmdTaken.poc = ρ.poc := Rod.poc_p_ne _ _ _ (by decide) (by decide)

theorem Rod.cmdTaken_gw (ρ : Rod) (a : Nat) (h : a ≠ Rg.FR_STAT) : ρ.cmdTaken.gw a = ρ.gw a := Rod.gw_p_ne _ _ _ _ h

theorem Rod.only_cmdTaken {ρ : Rod} {ex : List Nat} (h : Rg.FR_STAT ∈ ex) : ρ.only ρ.cmdTaken ex ρ := Rod.only_p _ _ h (Rod.only_refl _ _)

theorem Rod.frDo_false (ρ : Rod) (f : Rod → Rod) : ρ.frDo false f = ρ.p Fl.FR_STAT_CMD_REFUSED 1 := rfl
theorem Rod.frDo_true (ρ : Rod) (f : Rod → Rod) : ρ.frDo true f = f ρ.cmdTaken := rfl

/-- A command that its mode or state does not allow shows CMD_REFUSED and does nothing else. -/
theorem Rod.frDo_refused (ρ : Rod) (ok : Bool) (f : Rod → Rod) (h : ok = false) :
    let τ := (ρ.frDo ok f).flush
    τ.b Fl.FR_STAT_CMD_REFUSED = true ∧ τ.poc = ρ.poc ∧ ρ.only τ [Rg.FR_STAT] ρ := by
  dsimp only
  rw [h, Rod.frDo_false, Rod.poc_flush, Rod.flush_b _ _ (by decide)]
  exact ⟨Rod.b_p ρ Fl.FR_STAT_CMD_REFUSED true (by decide) rfl, Rod.poc_p_ne _ _ _ (by decide) (by decide),
    Rod.only_flush (Rod.only_p Fl.FR_STAT_CMD_REFUSED 1 (.head _) (Rod.only_refl _ _))⟩

/-- A command for a symbol of the next cycle is noted (R177). -/
theorem Rod.frDo_symbol (ρ : Rod) (ok : Bool) (f : FrS → FrS) (h : ok = true) :
    let τ := (ρ.frDo ok fun q => q.modFr f).flush
    τ.b Fl.FR_STAT_CMD_REFUSED = false ∧ τ.poc = ρ.poc ∧ ρ.only τ [Rg.FR_STAT] { ρ with fr := f ρ.fr } := by
  dsimp only
  rw [h, Rod.frDo_true, Rod.poc_flush, Rod.flush_b _ _ (by decide), Rod.b_modFr, Rod.poc_modFr]
  exact ⟨ρ.cmdTaken_refused, ρ.cmdTaken_poc, Rod.only_flush (Rod.only_modFr f (Rod.only_cmdTaken (.head _)))⟩

/-- HALT brings POC halt, with its record (Table 5.5). -/
theorem Rod.frDo_halt (ρ : Rod) (ok : Bool) (h : ok = true) :
    let τ := (ρ.frDo ok fun q => (q.setPoc Poc.halt).flt 0x0603 sevDegrade 0x030 [(0, 1, 2)]).flush
    τ.poc = Poc.halt ∧ τ.b Fl.FR_STAT_CMD_REFUSED = false ∧ τ.recorded 0x0603 sevDegrade 0x030 ∧
    ρ.only τ [Rg.FR_STAT, Rg.IRQ_RAW 0x030] ρ := by
  dsimp only
  rw [h, Rod.frDo_true, Rod.flt_eq, Rod.poc_flush, Rod.flush_b _ _ (by decide)]
  exact ⟨Rod.poc_setPoc ρ.cmdTaken Poc.halt (by decide),
    (Rod.b_setPoc_ne ρ.cmdTaken Poc.halt _ (by decide) (by decide)).trans ρ.cmdTaken_refused, Rod.recorded_fltAP _ _ _ _ _ _ _,
    Rod.only_flush (Rod.only_fltAP (Rod.only_setPoc _ (.head _) (.tail _ (.head _)) (Rod.only_cmdTaken (.head _))))⟩

/-! ### WAKEUP -/

/-- The rod with its wakeup pattern begun, for a number of steps (log entry 69). -/
def Rod.waked (ρ : Rod) (steps : Nat) : Rod :=
  (({ ρ with fresh := ρ.fresh + 1 } : Rod).setPoc Poc.wakeup).modFr fun f => { f with waking := true, wakeEnd := ρ.ck.up + steps }

theorem Rod.wakeStart_eq (ρ : Rod) :
    ρ.wakeStart = (ρ.waked (ρ.free 32).1).frSend fun txen => .symbol ρ.wakeChan txen 2 (ρ.g Fl.FR_START_WUP_REP) := rfl

theorem Rod.only_waked {ρ q σ : Rod} {ex : List Nat} (steps : Nat) (hs : Rg.FR_STAT ∈ ex) (hi : Rg.IRQ_RAW 0x030 ∈ ex)
    (h : ρ.only q ex σ) :
    ρ.only (q.waked steps) ex { σ with fresh := q.fresh + 1, fr := { σ.fr with waking := true, wakeEnd := q.ck.up + steps } } :=
  Rod.only_modFr _ (Rod.only_setPoc Poc.wakeup hs hi (Rod.only_fresh _ h))

/-- The state entered is POC wakeup, with its record (R175, R182). -/
theorem Rod.waked_spec (ρ : Rod) (steps : Nat) (hp : ρ.poc ≠ Poc.wakeup) :
    (ρ.waked steps).poc = Poc.wakeup ∧ (ρ.waked steps).b Fl.FR_STAT_CMD_REFUSED = ρ.b Fl.FR_STAT_CMD_REFUSED ∧
    (ρ.waked steps).noted 0x0601 sevInfo 0x030 :=
  ⟨Rod.poc_setPoc _ Poc.wakeup (by decide), Rod.b_setPoc_ne _ Poc.wakeup Fl.FR_STAT_CMD_REFUSED (by decide) (by decide),
    Rod.setPoc_noted _ Poc.wakeup hp⟩

/-- WAKEUP sends the pattern on the channel of WAKE_CH (R175). -/
theorem Rod.frDo_wakeup (ρ : Rod) (ok : Bool) (h : ok = true) (hp : ρ.poc = Poc.ready) :
    let τ := (ρ.frDo ok Rod.wakeStart).flush
    τ.poc = Poc.wakeup ∧ τ.b Fl.FR_STAT_CMD_REFUSED = false ∧ τ.recorded 0x0601 sevInfo 0x030 ∧
    (ρ.frDrives = true → Out.symbol (if ρ.b Fl.FR_START_WAKE_CH then .b else .a) (ρ.ftxen true) 2 (ρ.g Fl.FR_START_WUP_REP) ∈ τ.out) ∧
    ρ.ck.up ≤ τ.fr.wakeEnd ∧
    ρ.only τ [Rg.FR_STAT, Rg.IRQ_RAW 0x030]
      { ρ with fresh := τ.fresh, fr := { ρ.fr with waking := true, wakeEnd := τ.fr.wakeEnd } } := by
  have hb : ρ.cmdTaken.b Fl.FR_START_WAKE_CH = ρ.b Fl.FR_START_WAKE_CH := Rod.b_congr _ _ _ (ρ.cmdTaken_gw _ (by decide))
  have hrep : ρ.cmdTaken.g Fl.FR_START_WUP_REP = ρ.g Fl.FR_START_WUP_REP := Rod.g_of_gw _ _ _ (ρ.cmdTaken_gw _ (by decide))
  have hup : ρ.cmdTaken.ck.up = ρ.ck.up := rfl
  have htaken : ρ.only ρ.cmdTaken [Rg.FR_STAT, Rg.IRQ_RAW 0x030] ρ := Rod.only_cmdTaken (.head _)
  have hpoc : ρ.cmdTaken.poc ≠ Poc.wakeup := by rw [ρ.cmdTaken_poc, hp]; decide
  have href := ρ.cmdTaken_refused
  dsimp only
  rw [h, Rod.frDo_true, Rod.wakeStart_eq, Rod.wakeChan, hb, hrep]
  generalize (ρ.cmdTaken.free 32).1 = steps
  generalize (if ρ.b Fl.FR_START_WAKE_CH then Chan.b else .a) = c
  generalize ρ.cmdTaken = q at *
  have honly := Rod.only_waked steps (.head _) (.tail _ (.head _)) htaken
  obtain ⟨hwaked, hrefused, hnoted⟩ := Rod.waked_spec q steps hpoc
  obtain ⟨hdrives, htxen, -⟩ := Rod.only_drives honly (by decide) (by decide)
  generalize q.waked steps = p at *
  have hsent := Rod.only_flush (Rod.only_frSend (fun txen => Out.symbol c txen 2 (ρ.g Fl.FR_START_WUP_REP)) honly)
  have hcarry : p.carries id (· == Rg.FR_STAT) (p.frSend fun txen => Out.symbol c txen 2 (ρ.g Fl.FR_START_WUP_REP)).flush :=
    Rod.carries_flush rfl (Rod.carries_frSend _ (Rod.carries_refl _ _ _))
  have hfr := Rod.agrees_fr hsent.2
  have hfresh := Rod.agrees_fresh hsent.2
  refine ⟨(hcarry.g Fl.FR_STAT_POC (by decide) (by decide)).trans hwaked, ?_, (hcarry.noted hnoted).recorded (Rod.flush_recBuf _),
    fun hd => ?_, ?_, ?_⟩
  · rw [hcarry.b _ (by decide) (by decide), hrefused, href]
  · obtain ⟨l, hl, -⟩ := Rod.flush_out (p.frSend fun txen => Out.symbol c txen 2 (ρ.g Fl.FR_START_WUP_REP))
    rw [hl, ← htxen]
    exact List.mem_append_left _ (Rod.frSend_mem p _ (hdrives.trans hd))
  · rw [hfr, ← hup]
    exact Nat.le_add_right _ _
  · rw [hfr, hfresh]
    exact hsent

/-! ### RESTART -/

/-- What RUN clears of the controller's registers, and the attempts it allows (R142, R166, R176). -/
def Rod.runCleared (ρ : Rod) : Rod :=
  let q := (ρ.p Fl.FR_STAT_WAKE_RX_A 0).p Fl.FR_STAT_WAKE_RX_B 0
  (((q.p Fl.FR_COLD_COLL 0).p Fl.FR_COLD_ATT_LEFT (if q.b Fl.FR_MODE_COLDSTART then q.g Fl.FR_START_COLD_ATT else 0)).p
    Fl.FR_STAT_LEADER 0).p Fl.FR_SYNC_NOCORR 0

/-- RUN takes a controller in POC config through ready to startup (R142). -/
theorem Rod.pocRun_config (ρ : Rod) (hc : ρ.clkOn 2 = true) (hp : ρ.poc = Poc.config) (hs : RS.sync ≤ ρ.state) :
    ρ.pocRun = (((ρ.setPoc Poc.ready).setPoc Poc.startup).runCleared).modFr
      fun f => { f with tries := 0, trying := false, p2a := 0, join := none } := by
  unfold Rod.pocRun
  rw [if_pos (by simp [hc, hp, hs])]
  rfl

theorem Rod.only_runCleared {ρ q σ : Rod} {ex : List Nat} (hs : Rg.FR_STAT ∈ ex) (hc : Rg.FR_COLD ∈ ex) (hn : Rg.FR_SYNC ∈ ex)
    (h : ρ.only q ex σ) : ρ.only q.runCleared ex σ := by
  refine Rod.only_p Fl.FR_SYNC_NOCORR _ hn (Rod.only_p Fl.FR_STAT_LEADER _ hs (Rod.only_p Fl.FR_COLD_ATT_LEFT _ hc ?_))
  exact Rod.only_p Fl.FR_COLD_COLL _ hc (Rod.only_p Fl.FR_STAT_WAKE_RX_B _ hs (Rod.only_p Fl.FR_STAT_WAKE_RX_A _ hs h))

theorem Rod.runCleared_fields (ρ : Rod) :
    ρ.runCleared.poc = ρ.poc ∧ ρ.runCleared.b Fl.FR_STAT_CMD_REFUSED = ρ.b Fl.FR_STAT_CMD_REFUSED ∧
    ρ.runCleared.g Fl.FR_SYNC_NOCORR = 0 ∧
    ρ.runCleared.g Fl.FR_COLD_ATT_LEFT = if ρ.b Fl.FR_MODE_COLDSTART then ρ.g Fl.FR_START_COLD_ATT else 0 := by
  have hatt : ρ.g Fl.FR_START_COLD_ATT < 32 := wBits_lt _ _ _
  refine ⟨?_, ?_, ?_, ?_⟩
  all_goals
    simp [Rod.runCleared, Rod.poc, Rod.b, Rod.g_p, Rod.g_p_ne, Fld.addr, Fl.FR_STAT_POC, Fl.FR_STAT_CMD_REFUSED, Fl.FR_STAT_WAKE_RX_A,
      Fl.FR_STAT_WAKE_RX_B, Fl.FR_STAT_LEADER, Fl.FR_SYNC_NOCORR, Fl.FR_COLD_COLL, Fl.FR_COLD_ATT_LEFT, Fl.FR_MODE_COLDSTART,
      Fl.FR_START_COLD_ATT]
  split
  · decide
  · exact hatt

/-- CONFIG brings POC config and ends what was under way (R142). -/
def Rod.configured (ρ : Rod) : Rod :=
  (ρ.modFr fun f => { f with clash := false, trying := false, waking := false, p2a := 0 }).setPoc Poc.config

/-- The registers that RESTART writes. -/
def restartRegs : List Nat := [Rg.FR_STAT, Rg.FR_COLD, Rg.FR_SYNC, Rg.IRQ_RAW 0x030]

/-- RESTART takes the controller through config and ready to startup (R146, R174). -/
theorem Rod.pocRestart_eq (ρ : Rod) (hc : ρ.clkOn 2 = true) (hs : RS.sync ≤ ρ.state) :
    ρ.pocRestart = (((ρ.configured.setPoc Poc.ready).setPoc Poc.startup).runCleared).modFr
      fun f => { f with tries := 0, trying := false, p2a := 0, join := none } := by
  have hconfig : ρ.pocConfig = ρ.configured := if_pos hc
  have hclk : ρ.configured.clkOn 2 = ρ.clkOn 2 := by
    unfold Rod.clkOn Rod.bitOf Rod.configured
    rw [Rod.g_setPoc_ne _ _ _ (by decide) (by decide), Rod.g_modFr]
  have hstate : ρ.configured.state = ρ.state := Rod.state_setPoc _ _
  unfold Rod.pocRestart
  rw [hconfig, Rod.pocRun_config _ (hclk.trans hc) (Rod.poc_setPoc _ _ (by decide)) (by rwa [hstate])]

theorem Rod.pocRestart_only {ρ q σ : Rod} (hc : q.clkOn 2 = true) (hs : RS.sync ≤ q.state) (h : ρ.only q restartRegs σ) :
    ρ.only q.pocRestart restartRegs { σ with fr := q.pocRestart.fr } := by
  have hstat : Rg.FR_STAT ∈ restartRegs := by decide
  have hirq : Rg.IRQ_RAW 0x030 ∈ restartRegs := by decide
  have hready := Rod.only_setPoc Poc.ready hstat hirq (Rod.only_setPoc Poc.config hstat hirq
    (Rod.only_modFr (fun f => { f with clash := false, trying := false, waking := false, p2a := 0 }) h))
  have hrun := Rod.only_runCleared hstat (by decide) (by decide) (Rod.only_setPoc Poc.startup hstat hirq hready)
  rw [Rod.pocRestart_eq q hc hs]
  have hlast := Rod.only_modFr (fun f => { f with tries := 0, trying := false, p2a := 0, join := none }) hrun
  exact Rod.only_ownFr (σ := σ) hlast

/-- RESTART leaves POC startup with its counts as at RUN (R142, R174). -/
theorem Rod.pocRestart_fields (ρ : Rod) (hc : ρ.clkOn 2 = true) (hs : RS.sync ≤ ρ.state) :
    ρ.pocRestart.poc = Poc.startup ∧ ρ.pocRestart.b Fl.FR_STAT_CMD_REFUSED = ρ.b Fl.FR_STAT_CMD_REFUSED ∧
    ρ.pocRestart.g Fl.FR_SYNC_NOCORR = 0 ∧
    ρ.pocRestart.g Fl.FR_COLD_ATT_LEFT = if ρ.b Fl.FR_MODE_COLDSTART then ρ.g Fl.FR_START_COLD_ATT else 0 := by
  let q := (ρ.configured.setPoc Poc.ready).setPoc Poc.startup
  have hg (f : Fld) (hf : f.addr ≠ Rg.FR_STAT ∨ 4 ≤ f.lo) (hi : f.addr ≠ Rg.IRQ_RAW 0x030) : q.g f = ρ.g f :=
    (Rod.g_setPoc_ne _ _ _ hf hi).trans ((Rod.g_setPoc_ne _ _ _ hf hi).trans (Rod.g_setPoc_ne _ _ _ hf hi))
  have hb (f : Fld) (hf : f.addr ≠ Rg.FR_STAT ∨ 4 ≤ f.lo) (hi : f.addr ≠ Rg.IRQ_RAW 0x030) : q.b f = ρ.b f := by
    unfold Rod.b
    rw [hg f hf hi]
  obtain ⟨hpoc, href, hno, hatt⟩ := Rod.runCleared_fields q
  rw [Rod.pocRestart_eq ρ hc hs, Rod.poc_modFr, Rod.b_modFr, Rod.g_modFr, Rod.g_modFr]
  refine ⟨hpoc.trans (Rod.poc_setPoc _ _ (by decide)), href.trans (hb _ (by decide) (by decide)), hno, hatt.trans ?_⟩
  rw [hb _ (by decide) (by decide), hg _ (by decide) (by decide)]

theorem Rod.frDo_restart (ρ : Rod) (ok : Bool) (h : ok = true) (hc : ρ.clkOn 2 = true) (hs : RS.sync ≤ ρ.state) :
    let τ := (ρ.frDo ok Rod.pocRestart).flush
    τ.poc = Poc.startup ∧ τ.b Fl.FR_STAT_CMD_REFUSED = false ∧ τ.g Fl.FR_SYNC_NOCORR = 0 ∧
    τ.g Fl.FR_COLD_ATT_LEFT = (if ρ.b Fl.FR_MODE_COLDSTART then ρ.g Fl.FR_START_COLD_ATT else 0) ∧
    ρ.only τ [Rg.FR_STAT, Rg.FR_COLD, Rg.FR_SYNC, Rg.IRQ_RAW 0x030] { ρ with fr := τ.fr } := by
  have hb : ρ.cmdTaken.b Fl.FR_MODE_COLDSTART = ρ.b Fl.FR_MODE_COLDSTART := Rod.b_congr _ _ _ (ρ.cmdTaken_gw _ (by decide))
  have hg : ρ.cmdTaken.g Fl.FR_START_COLD_ATT = ρ.g Fl.FR_START_COLD_ATT := Rod.g_of_gw _ _ _ (ρ.cmdTaken_gw _ (by decide))
  have hclk : ρ.cmdTaken.clkOn 2 = true := by
    unfold Rod.clkOn Rod.bitOf
    rw [Rod.g_of_gw _ _ Fl.CLK_STAT_RUN (ρ.cmdTaken_gw _ (by decide))]
    exact hc
  have hstate : RS.sync ≤ ρ.cmdTaken.state := by
    rwa [Rod.state_congr ρ ρ.cmdTaken (Rod.p_me ρ Fl.FR_STAT_CMD_REFUSED 0) (ρ.cmdTaken_gw _ (by decide))]
  obtain ⟨hpoc, href, hno, hatt⟩ := Rod.pocRestart_fields ρ.cmdTaken hclk hstate
  dsimp only
  rw [h, Rod.frDo_true, Rod.poc_flush, Rod.flush_b _ _ (by decide), Rod.flush_g _ _ (by decide), Rod.flush_g _ _ (by decide), ← hb, ← hg]
  exact ⟨hpoc, href.trans ρ.cmdTaken_refused, hno, hatt,
    Rod.only_ownFr (Rod.only_flush (Rod.pocRestart_only hclk hstate (Rod.only_cmdTaken (by decide))))⟩

end Sys2Proof.Machine
end

section
/-! The FlexRay commands over one rod: READY and HOLD of a message buffer, wakeup received, and coldstart (R158, R161, R166, R167, R175,
R176); the settling theorem of the FlexRay commands. -/

namespace Sys2Proof.Machine

/-! ### READY and HOLD -/

/-- A bit of a word after a field of one bit is put there. -/
theorem wBit_wPut_one (x : Word) (lo : Nat) (v : Bool) (h : lo < 32) : wBit (wPut x lo 1 (b2n v)) lo = v := by
  unfold wBit
  rw [wPut_getLsbD _ _ _ _ _ h]
  cases v <;> simp [b2n]

/-- A bit of a word outside a field put there. -/
theorem wBit_wPut_ne (x : Word) (lo n v i : Nat) (h : lo + n ≤ 32 ∧ (i < lo ∨ lo + n ≤ i)) : wBit (wPut x lo n v) i = wBit x i := by
  unfold wBit
  rw [wPut_getLsbD _ _ _ _ _ h.1, if_neg (by omega)]

/-- The registers of a message buffer lie in its page, at their offsets from its base (Table 5.6). -/
theorem mbReg_place (b o : Nat) (ho : o < 0x1C0) :
    ((0x31 + b / 9) * 0x1000 + (0x40 + 0x1C0 * (b % 9) + o)) / 0x1000 = 0x31 + b / 9 ∧
    ((0x31 + b / 9) * 0x1000 + (0x40 + 0x1C0 * (b % 9) + o)) % 0x1000 = 0x40 + 0x1C0 * (b % 9) + o := by
  omega

/-- MB_CTRL has READY and HOLD, both RW. -/
theorem regRow_MB_CTRL (b : Nat) (hb : b < 128) :
    regRow (Rg.MB_CTRL b) = some ⟨0x10, 0x0, 1, 0x0, 0x0, 0x3, 0x0, 0x0, 0x0, 0x0, 0x0⟩ := by
  obtain ⟨hp, ho⟩ := mbReg_place b 0x10 (by decide)
  have hinfo : pageInfo (0x31 + b / 9) =
      some ⟨RegRow.buffersRows, 0x031, 2, some 3, some (if 0x31 + b / 9 = 0x03F then 2 else 9), 24⟩ := by
    unfold pageInfo
    repeat rw [if_neg (by omega)]
    rw [if_pos (by omega)]
  have hoff : bufOffset (0x31 + b / 9) (0x40 + 0x1C0 * (b % 9) + 0x10) = some 0x10 := by
    unfold bufOffset
    rw [if_pos (by omega)]
    exact congrArg some (by omega)
  unfold regRow
  dsimp only
  rw [show Rg.MB_CTRL b / 0x1000 = _ from hp, show Rg.MB_CTRL b % 0x1000 = _ from ho, hinfo]
  dsimp only
  rw [if_neg (by omega), if_pos rfl, hoff]
  rfl

/-- A write of MB_CTRL takes its RW bits (R163 protects the other registers of a buffer alone). -/
theorem Rod.writeReg_MB_CTRL (ρ : Rod) (ps : RodId → Rod) (path b : Nat) (hb : b < 128) (data : Word) :
    ρ.writeReg ps path (Rg.MB_CTRL b) data = ρ.writePlain (Rg.MB_CTRL b) data := by
  obtain ⟨hp, ho⟩ := mbReg_place b 0x10 (by decide)
  have hbuf : ρ.writeBuffer path (Rg.MB_CTRL b) data = ρ.writePlain (Rg.MB_CTRL b) data := by
    unfold Rod.writeBuffer
    dsimp only
    rw [show Rg.MB_CTRL b % 0x1000 = _ from ho, if_neg (by omega)]
  unfold Rod.writeReg
  dsimp only
  rw [show Rg.MB_CTRL b / 0x1000 = _ from hp, show Rg.MB_CTRL b % 0x1000 = _ from ho, hbuf]
  repeat rw [if_neg (by omega)]
  exact if_pos (by omega)

/-- An accepted write of MB_CTRL gives READY and HOLD as written. -/
theorem completes_mbCtrl {i : Instr} {s : State} {r : RodId} {path : Path} {b : Nat} {data : Word} {P : State → Prop} (hb : b < 128)
    (ha : (s.rod r).accepts path (Rg.MB_CTRL b)) (he : exec i s = write32 s r path (Rg.MB_CTRL b) data)
    (h : ∀ t : State, (t.rod r).b (Fl.MB_CTRL_READY b) = wBit data 0 → (t.rod r).b (Fl.MB_CTRL_HOLD b) = wBit data 1 →
      (s.rod r).only (t.rod r) [Rg.MB_CTRL b] (s.rod r) → P t) : completes i s P := by
  obtain ⟨-, ho⟩ := mbReg_place b 0x10 (by decide)
  have hoff (n : Nat) (hn : ∀ k, 0x40 + 0x1C0 * k + 0x10 ≠ n) : Rg.MB_CTRL b % 0x1000 ≠ n := fun e => hn _ (ho.symm.trans e)
  have hlog : Rg.MB_CTRL b ∉ logRegs := by
    simp only [logRegs, Rg.MB_CTRL, Rg.FL_SEQ, Rg.IRQ_RAW, List.mem_cons, List.not_mem_nil, or_false]
    omega
  obtain ⟨t, ht, hword, honly⟩ := completes_rwWrite s r path (Rg.MB_CTRL b) data _ ha (regRow_MB_CTRL b hb) (by decide) rfl rfl rfl
    (hoff _ (by omega)) (hoff _ (by omega)) hlog (Rod.writeReg_MB_CTRL _ _ _ _ hb _)
  have hbit (f : Fld) (ha : f.addr = Rg.MB_CTRL b) (hw : f.w = 1) (hl : f.lo = 0 ∨ f.lo = 1) : (t.rod r).b f = wBit data f.lo := by
    rw [Rod.b_eq_bit _ _ hw, ha, hword]
    rcases hl with hl | hl <;> simp [hl, wBit]
  exact ⟨t, he.trans ht, h t (hbit (Fl.MB_CTRL_READY b) rfl rfl (.inl rfl)) (hbit (Fl.MB_CTRL_HOLD b) rfl rfl (.inr rfl)) honly⟩

/-! ### Wakeup received, and activity during the own pattern -/

/-- The bit of FR_STAT that shows a wakeup on a channel. -/
def wakeRxF (c : Chan) : Fld := if c = .a then Fl.FR_STAT_WAKE_RX_A else Fl.FR_STAT_WAKE_RX_B

/-- A wakeup pattern is taken in POC ready or startup, a WUDOP in normal operation (R176). -/
def Rod.wakeFits (ρ : Rod) (wud : Bool) : Prop :=
  if wud then ρ.poc = Poc.active ∨ ρ.poc = Poc.passive else ρ.poc = Poc.ready ∨ ρ.poc = Poc.startup

theorem Rod.wakeFits_iff (ρ : Rod) (wud : Bool) : ρ.wakeFits wud ↔
    (if wud then ρ.poc == Poc.active || ρ.poc == Poc.passive else ρ.poc == Poc.ready || ρ.poc == Poc.startup) = true := by
  cases wud <;> simp [Rod.wakeFits]

theorem Rod.wakeRx_fits (ρ : Rod) (c : Chan) (wud : Bool) (h : ρ.wakeDone.wakeFits wud) (hc : ρ.wakeDone.chanOn c = true) :
    let q := ρ.wakeDone
    let τ := (ρ.wakeRx c wud).flush
    τ.b (wakeRxF c) = true ∧ τ.poc = q.poc ∧ τ.raised 0x030 5 ∧ τ.recorded 0x0640 sevInfo 0x030 ∧
    q.only τ [Rg.FR_STAT, Rg.IRQ_RAW 0x030] q := by
  have hfits := (Rod.wakeFits_iff _ _).1 h
  have e : ρ.wakeRx c wud = ((ρ.wakeDone.p (wakeRxF c) 1).irq 0x030 5).fltAP 0x0640 sevInfo 0x030 0xFF 0xFF
      [(0, 1, if c = .a then 0 else 1), (1, 1, if wud then 2 else 1)] := if_pos (by rw [hfits, hc]; rfl)
  have haddr : (wakeRxF c).addr = Rg.FR_STAT := by cases c <;> rfl
  have hbits : (wakeRxF c).lo + (wakeRxF c).w ≤ 32 ∧ 4 ≤ (wakeRxF c).lo := by cases c <;> decide
  have hw : (wakeRxF c).w = 1 := by cases c <;> rfl
  dsimp only
  rw [e, Rod.poc_flush, Rod.flush_b _ _ (by rw [haddr]; decide)]
  generalize ρ.wakeDone = q
  refine ⟨?_, ?_, ?_, Rod.recorded_fltAP _ _ _ _ _ _ _, Rod.only_flush (Rod.only_fltAP ?_)⟩
  · exact (Rod.b_irq_ne _ 0x030 5 _ (by rw [haddr]; decide)).trans (Rod.b_p q (wakeRxF c) true hbits.1 hw)
  · exact (Rod.g_irq_ne _ 0x030 5 Fl.FR_STAT_POC (by decide)).trans (Rod.poc_p_ne q _ _ hbits.1 (.inr hbits.2))
  · exact Rod.raised_flush _ _ _ (Rod.irq_sets (q.p (wakeRxF c) 1) 0x030 5 (by decide))
  · exact Rod.only_irq 0x030 5 (.tail _ (.head _)) (Rod.only_p (wakeRxF c) 1 (by rw [haddr]; exact .head _) (Rod.only_refl _ _))

theorem Rod.wakeRx_idle (ρ : Rod) (c : Chan) (wud : Bool) (h : ¬ρ.wakeDone.wakeFits wud ∨ ρ.wakeDone.chanOn c = false) :
    ρ.wakeRx c wud = ρ.wakeDone := by
  refine if_neg fun k => ?_
  rw [Bool.and_eq_true] at k
  rcases h with h | h
  · exact h ((Rod.wakeFits_iff _ _).2 k.1)
  · exact absurd (h.symm.trans k.2) (by decide)

/-- Activity on the bus ends the own wakeup pattern (R175). -/
theorem Rod.wakeCollision_waking (ρ : Rod) (h : ρ.wakeDone.fr.waking = true) :
    let q := ρ.wakeDone
    let τ := ρ.wakeCollision.flush
    τ.poc = Poc.ready ∧ τ.recorded 0x0641 sevInfo 0x030 ∧
    q.only τ [Rg.FR_STAT, Rg.IRQ_RAW 0x030] { q with fr := { q.fr with waking := false } } := by
  have e : ρ.wakeCollision = ((ρ.wakeDone.modFr fun f => { f with waking := false }).setPoc Poc.ready).fltAP 0x0641 sevInfo 0x030 0xFF 0xFF
      [(0, 1, ρ.wakeDone.g Fl.FR_START_WAKE_CH)] := if_pos h
  dsimp only
  rw [e, Rod.poc_flush]
  exact ⟨Rod.poc_setPoc _ Poc.ready (by decide), Rod.recorded_fltAP _ _ _ _ _ _ _, Rod.only_flush (Rod.only_fltAP
    (Rod.only_setPoc Poc.ready (.head _) (.tail _ (.head _)) (Rod.only_modFr (fun f => { f with waking := false }) (Rod.only_refl _ _))))⟩

theorem Rod.wakeCollision_idle (ρ : Rod) (h : ρ.wakeDone.fr.waking = false) : ρ.wakeCollision = ρ.wakeDone :=
  if_neg (by simp [h])

/-! ### Coldstart -/

/-- The rod with one attempt taken (R166). -/
def Rod.attempted (ρ : Rod) : Rod :=
  (ρ.p Fl.FR_COLD_ATT_LEFT (ρ.g Fl.FR_COLD_ATT_LEFT - 1)).modFr fun f => { f with trying := true, tries := f.tries + 1 }

theorem Rod.only_attempted (ρ : Rod) :
    ρ.only ρ.attempted [Rg.FR_COLD] { ρ with fr := { ρ.fr with trying := true, tries := ρ.fr.tries + 1 } } :=
  Rod.only_modFr (fun f => { f with trying := true, tries := f.tries + 1 }) (Rod.only_p Fl.FR_COLD_ATT_LEFT _ (.head _) (Rod.only_refl _ _))

/-- The channels in use. -/
def Rod.chansOn (ρ : Rod) : List Chan := [Chan.a, Chan.b].filter ρ.chanOn

/-- The collision-avoidance symbol on a channel (R166). -/
def casOn (c : Chan) (txen : Ball) : Out := .symbol c txen 0 1

/-- An attempt of a coldstart node in startup sends a collision-avoidance symbol on its channels (R166). -/
theorem Rod.coldAttempt_flush (ρ : Rod) (hp : ρ.poc = Poc.startup) (hm : ρ.b Fl.FR_MODE_COLDSTART = true)
    (hl : ρ.g Fl.FR_COLD_ATT_LEFT ≠ 0) :
    let τ := ρ.coldAttempt.flush
    τ.g Fl.FR_COLD_ATT_LEFT = ρ.g Fl.FR_COLD_ATT_LEFT - 1 ∧ τ.fr.trying = true ∧
    (∀ c, ρ.chanOn c = true → ρ.frDrives = true → Out.symbol c (ρ.ftxen true) 0 1 ∈ τ.out) ∧
    ρ.only τ [Rg.FR_COLD] { ρ with fr := { ρ.fr with trying := true, tries := ρ.fr.tries + 1 } } := by
  have e : ρ.coldAttempt = ρ.attempted.each ρ.chansOn fun c q => q.frSend (casOn c) := if_pos ⟨hp, hm, hl⟩
  have honly := Rod.only_attempted ρ
  obtain ⟨hdrives, htxen, -⟩ := Rod.only_drives honly (by decide) (by decide)
  have hatt : ρ.attempted.g Fl.FR_COLD_ATT_LEFT = ρ.g Fl.FR_COLD_ATT_LEFT - 1 := by
    have hlt : ρ.g Fl.FR_COLD_ATT_LEFT < 32 := wBits_lt _ _ _
    have hfit : ρ.g Fl.FR_COLD_ATT_LEFT - 1 < 2 ^ 5 := by omega
    unfold Rod.attempted
    rw [Rod.g_modFr, Rod.g_p _ _ _ (by decide)]
    exact Nat.mod_eq_of_lt hfit
  have hsent : ρ.only (ρ.attempted.each ρ.chansOn fun c q => q.frSend (casOn c)) [Rg.FR_COLD] _ :=
    Rod.each_invariant (fun q => ρ.only q [Rg.FR_COLD] _) _ (fun c q => Rod.only_frSend (casOn c)) _ _ honly
  have hfr := Rod.agrees_fr hsent.2
  dsimp only
  rw [e, Rod.flush_g _ _ (by decide), Rod.flush_fr, Rod.g_of_gw _ _ _ (Rod.gw_each_frSend _ ρ.chansOn casOn _), hfr]
  refine ⟨hatt, rfl, fun c hc hd => ?_, Rod.only_flush hsent⟩
  obtain ⟨m, hm, -⟩ := Rod.flush_out (ρ.attempted.each ρ.chansOn fun c q => q.frSend (casOn c))
  rw [hm, ← htxen]
  exact List.mem_append_left _ (Rod.each_frSend_mem _ ρ.chansOn casOn c (List.mem_filter.2 ⟨by cases c <;> simp, hc⟩) (hdrives.trans hd))

theorem Rod.coldAttempt_idle (ρ : Rod) (h : ρ.poc ≠ Poc.startup ∨ ρ.b Fl.FR_MODE_COLDSTART = false ∨ ρ.g Fl.FR_COLD_ATT_LEFT = 0) :
    ρ.coldAttempt = ρ := by
  refine if_neg fun ⟨hp, hm, hl⟩ => ?_
  rcases h with h | h | h
  · exact h hp
  · exact absurd (h.symm.trans hm) (by decide)
  · exact hl h

/-- The attempts are exhausted, with their record (R167). -/
theorem Rod.coldExhausted_flush (ρ : Rod) (hp : ρ.poc = Poc.startup) (hl : ρ.g Fl.FR_COLD_ATT_LEFT = 0) (ht : ρ.fr.tries ≠ 0) :
    let τ := ρ.coldExhausted.flush
    τ.recorded 0x0621 sevWarn 0x030 ∧ ρ.only τ [] { ρ with fr := { ρ.fr with trying := false, tries := 0 } } := by
  have e : ρ.coldExhausted = (ρ.modFr fun f => { f with trying := false, tries := 0 }).fltAP 0x0621 sevWarn 0x030 0xFF 0xFF
      [(0, 1, ρ.g Fl.FR_START_COLD_ATT)] := if_pos ⟨hp, hl, ht⟩
  dsimp only
  rw [e]
  exact ⟨Rod.recorded_fltAP _ _ _ _ _ _ _, Rod.only_flush (Rod.only_fltAP
    (Rod.only_modFr (fun f => { f with trying := false, tries := 0 }) (Rod.only_refl _ _)))⟩

/-! ### The statement -/

/-- The commands of FR_CMD are writes of it with their number (Table 5.5). -/
theorem exec_frCmd_key (s : State) (r : RodId) (path : Path) (key : Byte) (i : Instr)
    (hi : i ∈ [Instr.wakeup r path key, .mtsA r path key, .mtsB r path key, .frHalt r path key, .restart r path key, .wudop r path key]) :
    ∃ c < 256, exec i s = write32 s r path Rg.FR_CMD (keyed key c) := by
  simp only [List.mem_cons, List.not_mem_nil, or_false] at hi
  rcases hi with rfl | rfl | rfl | rfl | rfl | rfl
  exacts [⟨1, by decide, rfl⟩, ⟨2, by decide, rfl⟩, ⟨3, by decide, rfl⟩, ⟨4, by decide, rfl⟩, ⟨5, by decide, rfl⟩,
    ⟨6, by decide, rfl⟩]

section
variable {i : Instr} {s : State} {r : RodId} {path : Path} {data : Word} {ok : Bool} {ρ : Rod} (hρ : (s.rod r).wakeDone = ρ)
include hρ

theorem completes_frCmd_badKey {key : Byte} {c : Nat} (ha : (s.rod r).accepts path Rg.FR_CMD)
    (he : exec i s = write32 s r path Rg.FR_CMD (keyed key c)) (hk : key ≠ 0x5A#8) (hc : c < 256) : completes i s fun t =>
      (t.rod r).b (Fl.ERRCAP_0_VALID 0x030) = true ∧
      (ρ.b (Fl.ERRCAP_0_VALID 0x030) = false → (t.rod r).g (Fl.ERRCAP_0_TYPE 0x030) = 6) ∧
      ρ.only (t.rod r) [Rg.ERRCAP_0 0x030, Rg.ERRCAP_1 0x030, Rg.IRQ_RAW 0x030] ρ := by
  refine completes_frCmd ha he (Rod.writeFrCmd_badKey _ _ _ _ hk hc) fun t e => ?_
  rw [e, hρ, Rod.flush_b _ _ (by decide)]
  refine ⟨Rod.errCap_valid _ _ _ _ _ _, fun hv => ?_, Rod.only_flush (Rod.only_errCap _ _ _ _ _ _)⟩
  obtain ⟨-, -, htype, -⟩ := Rod.errCap_captures ρ 0x030 6 path.code 0x40 (keyed key c) hv (by decide) (path_code_lt path) (by decide)
  exact htype

theorem completes_frCmd_refused {f : Rod → Rod} (ha : (s.rod r).accepts path Rg.FR_CMD) (he : exec i s = write32 s r path Rg.FR_CMD data)
    (hq : (s.rod r).writeFrCmd path.code data = (s.rod r).wakeDone.frDo ok f) (hok : ok = false) : completes i s fun t =>
      (t.rod r).b Fl.FR_STAT_CMD_REFUSED = true ∧ (t.rod r).poc = ρ.poc ∧ ρ.only (t.rod r) [Rg.FR_STAT] ρ := by
  refine completes_frCmd ha he hq fun t e => ?_
  rw [e, hρ]
  exact Rod.frDo_refused ρ ok f hok

theorem completes_frCmd_symbol {f : FrS → FrS} (ha : (s.rod r).accepts path Rg.FR_CMD) (he : exec i s = write32 s r path Rg.FR_CMD data)
    (hq : (s.rod r).writeFrCmd path.code data = (s.rod r).wakeDone.frDo ok fun q => q.modFr f) (hok : ok = true) : completes i s fun t =>
      (t.rod r).b Fl.FR_STAT_CMD_REFUSED = false ∧ (t.rod r).poc = ρ.poc ∧ ρ.only (t.rod r) [Rg.FR_STAT] { ρ with fr := f ρ.fr } := by
  refine completes_frCmd ha he hq fun t e => ?_
  rw [e, hρ]
  exact Rod.frDo_symbol ρ ok f hok

end

/-- Settles O50: each command of FR_CMD and MB_CTRL is an accepted write of its register, and the rod's own law of each command says
what it leaves of the rod once a finished wakeup pattern has ended. -/
theorem flexRayCommandsAct : Obligations.FlexRayCommandsAct := by
  unfold Obligations.FlexRayCommandsAct
  intro s r path
  dsimp only
  generalize hρ : (s.rod r).wakeDone = ρ
  refine ⟨fun ha => ⟨fun key hk i hi => ?_, fun hp => ⟨?_, ?_, ?_⟩, fun hp => ⟨?_, ?_, ?_⟩, fun hm hp => ?_, fun h => ?_,
    fun hm h0 hh => ?_, fun h => ?_, fun hp hc hs => ?_, fun hp hcl => ?_⟩, fun b ha => ⟨?_, fun on => ?_⟩,
    fun c wud => ⟨fun hf hc => ?_, fun h => ?_⟩,
    fun hw => ?_, fun hw => ?_, fun hp hm hl => ?_, fun h => ?_, fun hp hl ht => ?_⟩
  · obtain ⟨c, hc, he⟩ := exec_frCmd_key s r path key i hi
    exact completes_frCmd_badKey hρ ha he hk hc
  · exact completes_frCmd_symbol hρ ha rfl (Rod.writeFrCmd_mtsA _ _) (by rw [hρ, hp]; rfl)
  · exact completes_frCmd_symbol hρ ha rfl (Rod.writeFrCmd_mtsB _ _) (by rw [hρ, hp]; rfl)
  · exact completes_frCmd_symbol hρ ha rfl (Rod.writeFrCmd_wudop _ _) (by rw [hρ, hp]; rfl)
  · exact completes_frCmd_refused hρ ha rfl (Rod.writeFrCmd_mtsA _ _) (by rw [hρ]; exact beq_false_of_ne hp)
  · exact completes_frCmd_refused hρ ha rfl (Rod.writeFrCmd_mtsB _ _) (by rw [hρ]; exact beq_false_of_ne hp)
  · exact completes_frCmd_refused hρ ha rfl (Rod.writeFrCmd_wudop _ _) (by rw [hρ]; exact beq_false_of_ne hp)
  · refine completes_frCmd ha rfl (Rod.writeFrCmd_wakeup _ _) fun t e => ?_
    rw [e, hρ]
    exact Rod.frDo_wakeup ρ _ (by simp [hm, hp]) hp
  · exact completes_frCmd_refused hρ ha rfl (Rod.writeFrCmd_wakeup _ _) (by rw [hρ]; simpa [imp_iff_not_or] using h)
  · refine completes_frCmd ha rfl (Rod.writeFrCmd_halt _ _) fun t e => ?_
    rw [e, hρ]
    exact Rod.frDo_halt ρ _ (by simp [hm, h0, hh])
  · exact completes_frCmd_refused hρ ha rfl (Rod.writeFrCmd_halt _ _) (by rw [hρ]; simpa [imp_iff_not_or, or_assoc] using h)
  · refine completes_frCmd ha rfl (Rod.writeFrCmd_restart _ _) fun t e => ?_
    rw [e, hρ]
    exact Rod.frDo_restart ρ _ (by simp [hp]) hc hs
  · exact completes_frCmd_refused hρ ha rfl (Rod.writeFrCmd_restart _ _) (by rw [hρ]; simp [hp, hcl])
  · refine completes_mbCtrl b.isLt ha rfl fun t hr hh honly => ⟨hr.trans ?_, (hh.trans ?_).trans (Rod.b_eq_bit _ _ rfl).symm, honly⟩
    · exact wBit_wPut_one _ 0 true (by decide)
    · exact wBit_wPut_ne _ 0 1 1 1 (by decide)
  · refine completes_mbCtrl b.isLt ha rfl fun t hr hh honly => ⟨hh.trans ?_, (hr.trans ?_).trans (Rod.b_eq_bit _ _ rfl).symm, honly⟩
    · exact wBit_wPut_one _ 1 on (by decide)
    · exact wBit_wPut_ne _ 1 1 _ 0 (by decide)
  · refine completes_onRod_of (f := fun ρ => ρ.wakeRx c wud) rfl fun t e => ?_
    rw [e, ← hρ]
    exact Rod.wakeRx_fits (s.rod r) c wud (by rwa [hρ]) (by rwa [hρ])
  · refine completes_onRod_of (f := fun ρ => ρ.wakeRx c wud) rfl fun t e => ?_
    rw [e, ← hρ]
    exact Rod.only_flush_self (Rod.wakeRx_idle (s.rod r) c wud (by rwa [hρ]))
  · refine completes_onRod_of (f := fun ρ => ρ.wakeCollision) rfl fun t e => ?_
    rw [e, ← hρ]
    exact Rod.wakeCollision_waking (s.rod r) (by rwa [hρ])
  · refine completes_onRod_of (f := fun ρ => ρ.wakeCollision) rfl fun t e => ?_
    rw [e, ← hρ]
    exact Rod.only_flush_self (Rod.wakeCollision_idle (s.rod r) (by rwa [hρ]))
  · refine completes_onRod_of (f := fun ρ => ρ.coldAttempt) rfl fun t e => ?_
    rw [e]
    exact Rod.coldAttempt_flush _ hp hm hl
  · refine completes_onRod_of (f := fun ρ => ρ.coldAttempt) rfl fun t e => ?_
    rw [e]
    exact Rod.only_flush_self (Rod.coldAttempt_idle _ h)
  · refine completes_onRod_of (f := fun ρ => ρ.coldExhausted) rfl fun t e => ?_
    rw [e]
    exact Rod.coldExhausted_flush _ hp hl ht

end Sys2Proof.Machine
end

section
/-! A slot of the cluster (R156 to R159, R170, R171): frames that are not valid are counted, a valid one is stored in its receive buffer. -/

namespace Sys2Proof.Machine

/-! ### Frames that are not valid -/

theorem Rod.frRuns_of {ρ : Rod} (h : ρ.clkOn 2 = true ∧ Poc.startup ≤ ρ.poc ∧ ρ.poc ≤ Poc.passive) : ρ.frRuns = true := by
  obtain ⟨hc, h1, h2⟩ := h
  simp [Rod.frRuns, hc, h1, h2]

/-- A slot in which nothing valid came, whatever the judgement of it counted. -/
theorem Rod.frFrame_unheard (ρ q : Rod) (sl : FrSlot) (hr : ρ.frRuns = true) (h : ρ.frJudged sl = (none, none, q)) : ρ.frFrame sl = q := by
  have hdeliver : q.frDeliver sl none none = q := Rod.each_idle q _ _ fun e => by
    have hpick : mbPick e.2 none none = none := by simp [mbPick]
    dsimp only
    rw [hpick]
  have hpickChan (b : Bool) : pickChan b none none = none := by cases b <;> rfl
  unfold Rod.frFrame
  rw [if_pos hr, h]
  dsimp only [Option.map_none, Option.getD_none]
  rw [hdeliver]
  simp [Rod.tbCapture, Rod.witCapture, hpickChan]

/-- A frame that came alone in its slot and is not valid leaves what its judgement counted. -/
theorem Rod.frFrame_alone (ρ q : Rod) (sl : FrSlot) (c : Chan) (f : FrFrame) (hr : ρ.frRuns = true)
    (hf : (if c = .a then sl.a else sl.b) = some f) (hno : (if c = .a then sl.b else sl.a) = none)
    (hj : ρ.frJudge sl.slot c (some f) = (none, q)) : ρ.frFrame sl = q := by
  refine Rod.frFrame_unheard ρ q sl hr ?_
  unfold Rod.frJudged
  cases c with
  | a =>
    rw [if_pos rfl] at hf hno
    rw [hf, hno, hj]
    rfl
  | b =>
    rw [if_neg (by decide)] at hf hno
    rw [hf, hno]
    exact congrArg (Prod.mk none) hj

/-- A frame with an error is counted in FR_ERR alone (R170, R181). -/
theorem Rod.frErr_flush (ρ : Rod) (sl : FrSlot) (c : Chan) (f : FrFrame) (hr : ρ.frRuns = true) (hc : ρ.chanOn c = true)
    (hf : (if c = .a then sl.a else sl.b) = some f) (hno : (if c = .a then sl.b else sl.a) = none) (he : f.err ≠ 0) :
    let τ := (ρ.frFrame sl).flush
    τ.g (frErrFld c f.err) = min 0xFF (ρ.g (frErrFld c f.err) + 1) ∧ ρ.only τ [Rg.FR_ERR] ρ := by
  have hj : ρ.frJudge sl.slot c (some f) = (none, ρ.inc (frErrFld c f.err)) := by simp [Rod.frJudge, hc, he]
  have haddr := frErrFld_addr c f.err
  have hbits : (frErrFld c f.err).w = 8 ∧ (frErrFld c f.err).lo + (frErrFld c f.err).w ≤ 32 := by
    generalize f.err = e
    revert e; cases c <;> decide
  dsimp only
  rw [Rod.frFrame_alone ρ _ sl c f hr hf hno hj, Rod.flush_g _ _ (by rw [haddr]; decide), Rod.g_inc _ _ hbits.2, hbits.1]
  exact ⟨rfl, Rod.only_flush (Rod.only_inc _ (by rw [haddr]; exact .head _) (Rod.only_refl _ _))⟩

/-- The count of FR_SBV of a channel (Table 5.5). -/
def sbvFld (c : Chan) : Fld := if c = .a then Fl.FR_SBV_SBV_A else Fl.FR_SBV_SBV_B

/-- The rod with a slot boundary violation counted, and the event of its page. -/
def Rod.violated (ρ : Rod) (c : Chan) : Rod := (ρ.inc (sbvFld c)).irq 0x030 3

theorem Rod.violated_spec (ρ : Rod) (c : Chan) :
    (ρ.violated c).g (sbvFld c) = min 0xFFFF (ρ.g (sbvFld c) + 1) ∧ (ρ.violated c).raised 0x030 3 ∧
    ρ.only (ρ.violated c) [Rg.FR_SBV, Rg.IRQ_RAW 0x030] ρ := by
  have haddr : (sbvFld c).addr = Rg.FR_SBV := by cases c <;> rfl
  have hbits : (sbvFld c).w = 16 ∧ (sbvFld c).lo + (sbvFld c).w ≤ 32 := by cases c <;> decide
  refine ⟨?_, Rod.irq_sets (ρ.inc (sbvFld c)) 0x030 3 (by decide),
    Rod.only_irq 0x030 3 (.tail _ (.head _)) (Rod.only_inc _ (by rw [haddr]; exact .head _) (Rod.only_refl _ _))⟩
  exact (Rod.g_irq_ne _ 0x030 3 _ (by rw [haddr]; decide)).trans ((Rod.g_inc ρ _ hbits.2).trans (by rw [hbits.1]; rfl))

/-- The cycle of the last record of a violation on a channel. -/
def Rod.lastSbv (ρ : Rod) (c : Chan) : Option Nat := if c = .a then ρ.fr.sbvA else ρ.fr.sbvB

/-- A violation is counted with its event, and owes a record where none was written in the last 64 cycles (R171). -/
theorem Rod.frViolation_cases (ρ : Rod) (slot : Nat) (c : Chan) :
    (∃ g d, ρ.frViolation slot c = ((ρ.violated c).modFr g).fltAP 0x0630 sevWarn 0x030 0xFF 0xFF d) ∨
    (ρ.lastSbv c ≠ none ∧ ρ.frViolation slot c = ρ.violated c) := by
  unfold Rod.frViolation Rod.lastSbv
  dsimp only
  cases (if c = .a then ρ.fr.sbvA else ρ.fr.sbvB) with
  | none => exact .inl ⟨_, _, rfl⟩
  | some n =>
    dsimp only
    split
    · exact .inl ⟨_, _, rfl⟩
    · exact .inr ⟨nofun, rfl⟩

/-- A frame outside its window is discarded and counted (R170, R171). -/
theorem Rod.frOutside_flush (ρ : Rod) (sl : FrSlot) (c : Chan) (f : FrFrame) (hr : ρ.frRuns = true) (hc : ρ.chanOn c = true)
    (hf : (if c = .a then sl.a else sl.b) = some f) (hno : (if c = .a then sl.b else sl.a) = none) (he : f.err = 0)
    (hw : ρ.frWindow sl.slot f = false) :
    let τ := (ρ.frFrame sl).flush
    τ.g (sbvFld c) = min 0xFFFF (ρ.g (sbvFld c) + 1) ∧ τ.raised 0x030 3 ∧
    (ρ.lastSbv c = none → τ.recorded 0x0630 sevWarn 0x030) ∧ ρ.only τ [Rg.FR_SBV, Rg.IRQ_RAW 0x030] { ρ with fr := τ.fr } := by
  have hj : ρ.frJudge sl.slot c (some f) = (none, ρ.frViolation sl.slot c) := by simp [Rod.frJudge, hc, he, hw]
  have haddr : (sbvFld c).addr ∉ logRegs := by cases c <;> decide
  obtain ⟨hcount, hraised, honly⟩ := Rod.violated_spec ρ c
  dsimp only
  rw [Rod.frFrame_alone ρ _ sl c f hr hf hno hj, Rod.flush_g _ _ haddr]
  rcases Rod.frViolation_cases ρ sl.slot c with ⟨g, d, e⟩ | ⟨hlast, e⟩ <;> rw [e]
  · exact ⟨hcount, Rod.raised_flush _ _ _ hraised, fun _ => Rod.recorded_fltAP _ _ _ _ _ _ _,
      Rod.only_ownFr (σ := ρ) (Rod.only_flush (Rod.only_fltAP (Rod.only_modFr g honly)))⟩
  · exact ⟨hcount, Rod.raised_flush _ _ _ hraised, fun h => absurd h hlast,
      Rod.only_ownFr (σ := ρ) (f := ρ.fr) (Rod.only_flush honly)⟩

end Sys2Proof.Machine
end

section
/-! A valid frame in its receive buffer (R156 to R159). -/

namespace Sys2Proof.Machine

/-! ### Its judgement -/

/-- A frame that is valid on its channel (R170). -/
def Rod.frValid (ρ : Rod) (slot : Nat) (c : Chan) (f : FrFrame) : Prop :=
  ρ.chanOn c = true ∧ f.err = 0 ∧ ρ.frWindow slot f = true

/-- A valid frame is noted for the state of its channel (R178). -/
theorem Rod.frJudge_of_valid (ρ : Rod) (slot : Nat) (c : Chan) (f : FrFrame) (h : ρ.frValid slot c f) :
    ρ.frJudge slot c (some f) = (some f, ρ.modFr fun s => if c = .a then { s with seenA := true } else { s with seenB := true }) := by
  obtain ⟨hc, he, hw⟩ := h
  simp [Rod.frJudge, hc, he, hw]

/-- A slot whose frames are all valid: the judgement notes them in the controller's own fields, not in its configuration. -/
theorem Rod.frJudged_of_valid (ρ : Rod) (sl : FrSlot) (ha : ∀ f, sl.a = some f → ρ.frValid sl.slot .a f)
    (hb : ∀ f, sl.b = some f → ρ.frValid sl.slot .b f) :
    ∃ g : FrS → FrS, ρ.frJudged sl = (sl.a, sl.b, ρ.modFr g) ∧ (g ρ.fr).cfg = ρ.fr.cfg := by
  obtain ⟨g, hg, hcfg⟩ : ∃ g : FrS → FrS, ρ.frJudge sl.slot .a sl.a = (sl.a, ρ.modFr g) ∧ (g ρ.fr).cfg = ρ.fr.cfg := by
    cases h : sl.a with
    | none => exact ⟨id, rfl, rfl⟩
    | some f => exact ⟨_, Rod.frJudge_of_valid ρ _ .a f (ha f h), rfl⟩
  unfold Rod.frJudged
  rw [hg]
  dsimp only
  cases h : sl.b with
  | none => exact ⟨g, rfl, hcfg⟩
  | some f =>
    have hv : (ρ.modFr g).frValid sl.slot .b f := hb f h
    rw [Rod.frJudge_of_valid _ _ .b f hv]
    exact ⟨fun s => if Chan.b = .a then { g s with seenA := true } else { g s with seenB := true }, rfl, hcfg⟩

/-! ### Its registers -/

/-- The data words of a frame. -/
theorem leWords_eq_map (n : Nat) (bs : List Byte) : leWords n bs = (List.range n).map fun i => BitVec.ofNat 32 (leAt bs (4 * i) 4) := by
  induction n generalizing bs with
  | zero => rfl
  | succ n ih =>
    rw [leWords, ih, List.range_succ_eq_map, List.map_cons, List.map_map]
    refine congrArg₂ List.cons rfl (List.map_congr_left fun i _ => ?_)
    simp only [leAt, Function.comp_apply, List.drop_drop]
    rw [show 4 + 4 * i = 4 * (i + 1) by omega]

theorem MB_DATA_place (b i : Nat) : Rg.MB_DATA b i = (0x31 + b / 9) * 0x1000 + (0x40 + 0x1C0 * (b % 9) + (0x40 + 0x4 * i)) := by
  unfold Rg.MB_DATA
  omega

/-- The data words of a buffer, written from a frame. -/
def Rod.mbFilled (ρ : Rod) (b : Nat) (bytes : List Byte) : Rod :=
  ρ.each ((leWords 64 bytes).zip (List.range 64)) fun w q => q.pw (Rg.MB_DATA b w.2) w.1

theorem Rod.mbFilled_eq (ρ : Rod) (b : Nat) (bytes : List Byte) :
    ρ.mbFilled b bytes = ρ.each (List.range 64) fun i q => q.pw (Rg.MB_DATA b i) (BitVec.ofNat 32 (leAt bytes (4 * i) 4)) := by
  have hzip : (leWords 64 bytes).zip (List.range 64) = (List.range 64).map fun i => (BitVec.ofNat 32 (leAt bytes (4 * i) 4), i) := by
    rw [leWords_eq_map]
    exact (congrArg _ (List.map_id _).symm).trans List.zip_map'
  unfold Rod.mbFilled Rod.each
  rw [hzip, List.foldl_map]

theorem Rod.mbFilled_data (ρ : Rod) (b : Nat) (bytes : List Byte) (i : Nat) (hi : i < 64) :
    (ρ.mbFilled b bytes).gw (Rg.MB_DATA b i) = BitVec.ofNat 32 (leAt bytes (4 * i) 4) := by
  have hne (j : Nat) (_ : j ∈ List.range 64) (hji : j ≠ i) (q : Rod) :
      (q.pw (Rg.MB_DATA b j) (BitVec.ofNat 32 (leAt bytes (4 * j) 4))).gw (Rg.MB_DATA b i) = q.gw (Rg.MB_DATA b i) :=
    Rod.gw_pw_ne _ _ _ _ (by unfold Rg.MB_DATA; omega)
  obtain ⟨q, -, -, hq⟩ := Rod.each_visits (fun _ => True) (·.gw (Rg.MB_DATA b i)) _ i _ List.nodup_range (List.mem_range.2 hi)
    (fun _ _ _ => trivial) hne ρ trivial
  rw [Rod.mbFilled_eq]
  exact hq.trans (Rod.gw_pw_same _ _ _)

/-- The registers of a buffer's data words. -/
def mbDataRegs (b : Nat) : List Nat := (List.range 64).map (Rg.MB_DATA b)

theorem Rod.only_mbFilled (ρ : Rod) (b : Nat) (bytes : List Byte) : ρ.only (ρ.mbFilled b bytes) (mbDataRegs b) ρ := by
  have hmem (i : Nat) (hi : i ∈ List.range 64) : Rg.MB_DATA b i ∈ mbDataRegs b := List.mem_map_of_mem hi
  rw [Rod.mbFilled_eq]
  refine ⟨fun a ha _ _ => Rod.each_keeps_of_mem (·.gw a) _ _ (fun i hi q => Rod.gw_pw_ne _ _ _ _ ?_) ρ, ?_⟩
  · rintro rfl
    exact ha (hmem i hi)
  · exact Rod.each_invariant (·.agrees ρ) _ (fun i q h => Rod.agrees_trans _ _ _ (Rod.agrees_pw _ _ _) h) _ _ (Rod.agrees_refl _)

/-- The status of a buffer that has taken a frame (Table 5.6). -/
def Rod.mbShown (ρ : Rod) (b : Nat) (sl : FrSlot) (c : Chan) (f : FrFrame) (differs passive : Bool) : Rod :=
  (((((((((ρ.p (Fl.MB_STAT_NEW b) 1).p (Fl.MB_STAT_NULL b) (b2n f.null)).p (Fl.MB_STAT_DIFF b) (b2n differs)).p
    (Fl.MB_STAT_PASSIVE b) (b2n passive)).p (Fl.MB_STAT_RX_CH b) (if c = .a then 1 else 2)).p
    (Fl.MB_STAT_CYCLE b) (sl.cycle % 64)).p (Fl.MB_STAT_RX_PL b) (f.payload.length / 2)).p (Fl.MB_FT_LO_FT b) (sl.ft.toNat % 2 ^ 32)).p
    (Fl.MB_FT_HI_FT b) (sl.ft.toNat / 2 ^ 32))

theorem Rod.mbStore_held (ρ : Rod) (b : Nat) (sl : FrSlot) (c : Chan) (f : FrFrame) (differs : Bool) (h : ρ.b (Fl.MB_CTRL_HOLD b) = true) :
    ρ.mbStore b sl c f differs = ρ.inc (Fl.MB_STAT_LOST b) := if_pos h

theorem Rod.mbStore_open (ρ : Rod) (b : Nat) (sl : FrSlot) (c : Chan) (f : FrFrame) (differs : Bool) (h : ρ.b (Fl.MB_CTRL_HOLD b) = false) :
    ρ.mbStore b sl c f differs = (ρ.mbFilled b f.payload).mbShown b sl c f differs (ρ.poc == Poc.passive) := by
  unfold Rod.mbStore
  rw [h]
  rfl

theorem b2n_bit (v : Bool) : (b2n v % 2 == 1) = v := by cases v <;> rfl

theorem Rod.mbShown_fields (ρ : Rod) (b : Nat) (sl : FrSlot) (c : Chan) (f : FrFrame) (differs passive : Bool)
    (hl : f.payload.length ≤ 254) :
    let q := ρ.mbShown b sl c f differs passive
    q.b (Fl.MB_STAT_NEW b) = true ∧ q.b (Fl.MB_STAT_NULL b) = f.null ∧ q.g (Fl.MB_STAT_CYCLE b) = sl.cycle % 64 ∧
    q.g (Fl.MB_STAT_RX_CH b) = (if c = .a then 1 else 2) ∧ q.g (Fl.MB_STAT_RX_PL b) = f.payload.length / 2 ∧
    q.b (Fl.MB_STAT_DIFF b) = differs ∧ q.b (Fl.MB_STAT_PASSIVE b) = passive ∧
    q.g (Fl.MB_FT_LO_FT b) + 2 ^ 32 * q.g (Fl.MB_FT_HI_FT b) = sl.ft.toNat := by
  have hpl : f.payload.length / 2 < 128 := by omega
  have hch : (if c = .a then 1 else 2) < 4 := by cases c <;> decide
  have hft := sl.ft.isLt
  refine ⟨?_, ?_, ?_, ?_, ?_, ?_, ?_, ?_⟩
  all_goals
    simp [Rod.mbShown, Rod.b, Rod.g_p, Rod.g_p_ne, Fld.addr, Fl.MB_STAT_NEW, Fl.MB_STAT_NULL, Fl.MB_STAT_CYCLE, Fl.MB_STAT_RX_CH,
      Fl.MB_STAT_RX_PL, Fl.MB_STAT_DIFF, Fl.MB_STAT_PASSIVE, Fl.MB_FT_LO_FT, Fl.MB_FT_HI_FT, b2n_bit, hpl, hch]
  omega

/-- The registers of a buffer that a stored frame writes. -/
def mbRegs (b : Nat) : List Nat := Rg.MB_STAT b :: Rg.MB_FT_LO b :: Rg.MB_FT_HI b :: mbDataRegs b

theorem Rod.only_mbShown {ρ q σ : Rod} {ex : List Nat} (b : Nat) (sl : FrSlot) (c : Chan) (f : FrFrame) (differs passive : Bool)
    (hs : Rg.MB_STAT b ∈ ex) (hlo : Rg.MB_FT_LO b ∈ ex) (hhi : Rg.MB_FT_HI b ∈ ex) (h : ρ.only q ex σ) :
    ρ.only (q.mbShown b sl c f differs passive) ex σ := by
  refine Rod.only_p (Fl.MB_FT_HI_FT b) _ hhi (Rod.only_p (Fl.MB_FT_LO_FT b) _ hlo (Rod.only_p (Fl.MB_STAT_RX_PL b) _ hs ?_))
  refine Rod.only_p (Fl.MB_STAT_CYCLE b) _ hs (Rod.only_p (Fl.MB_STAT_RX_CH b) _ hs (Rod.only_p (Fl.MB_STAT_PASSIVE b) _ hs ?_))
  exact Rod.only_p (Fl.MB_STAT_DIFF b) _ hs (Rod.only_p (Fl.MB_STAT_NULL b) _ hs (Rod.only_p (Fl.MB_STAT_NEW b) _ hs h))

theorem Rod.only_mbStore_open (ρ : Rod) (b : Nat) (sl : FrSlot) (c : Chan) (f : FrFrame) (differs : Bool)
    (h : ρ.b (Fl.MB_CTRL_HOLD b) = false) : ρ.only (ρ.mbStore b sl c f differs) (mbRegs b) ρ := by
  rw [Rod.mbStore_open ρ b sl c f differs h]
  refine Rod.only_mbShown b sl c f _ _ (.head _) (.tail _ (.head _)) (.tail _ (.tail _ (.head _))) (Rod.only_mono ?_ (Rod.only_mbFilled ρ b _))
  exact fun a ha => .tail _ (.tail _ (.tail _ ha))

theorem Rod.only_mbStore_held (ρ : Rod) (b : Nat) (sl : FrSlot) (c : Chan) (f : FrFrame) (differs : Bool)
    (h : ρ.b (Fl.MB_CTRL_HOLD b) = true) : ρ.only (ρ.mbStore b sl c f differs) [Rg.MB_STAT b] ρ := by
  rw [Rod.mbStore_held ρ b sl c f differs h]
  exact Rod.only_inc (Fl.MB_STAT_LOST b) (.head _) (Rod.only_refl _ _)

/-- Storing a frame leaves the ledger. -/
theorem Rod.mbStore_ct (ρ : Rod) (b : Nat) (sl : FrSlot) (c : Chan) (f : FrFrame) (differs : Bool) :
    ((ρ.mbStore b sl c f differs).mbIrq b).ct = ρ.ct := by
  have hct {q : Rod} {ex : List Nat} (h : ρ.only q ex ρ) : (q.mbIrq b).ct = ρ.ct := by
    obtain ⟨-, ha⟩ := Rod.only_irq (0x031 + b / 9) (b % 9) (.head ex) (Rod.only_mono (List.subset_cons_self _ _) h)
    unfold Rod.agrees at ha
    unfold Rod.mbIrq
    rw [ha]
  cases h : ρ.b (Fl.MB_CTRL_HOLD b) with
  | true => exact hct (Rod.only_mbStore_held ρ b sl c f differs h)
  | false => exact hct (Rod.only_mbStore_open ρ b sl c f differs h)

/-! ### The buffer that takes it -/

/-- The one buffer configured takes the frame: its data and status, and the interrupt of its page (R156, R184). -/
theorem Rod.frDeliver_one (ρ : Rod) (sl : FrSlot) (x y : Option FrFrame) (b : Nat) (w : Word) (c : Chan) (f : FrFrame)
    (hcfg : ρ.fr.cfg = [(b, w)]) (hl : ρ.ct.ledger = [])
    (hw : mbEn w = true ∧ mbTx w = false ∧ mbSlot w = sl.slot ∧ mbDue w (sl.cycle % 64) = true) (hp : mbPick w x y = some (c, f)) :
    ρ.frDeliver sl x y = (ρ.mbStore b sl c f (mbDiffers w x y)).mbIrq b := by
  obtain ⟨hen, htx, hslot, hdue⟩ := hw
  have hnone : ((ρ.mbStore b sl c f (mbDiffers w x y)).mbIrq b).streamFrame b f.payload = (ρ.mbStore b sl c f (mbDiffers w x y)).mbIrq b := by
    unfold Rod.streamFrame
    rw [Rod.mbStore_ct, hl]
    rfl
  have hlist : (ρ.fr.cfg.filter fun e => mbEn e.2 && !mbTx e.2 && mbSlot e.2 == sl.slot && mbDue e.2 (sl.cycle % 64)) = [(b, w)] := by
    simp [hcfg, hen, htx, hslot, hdue]
  unfold Rod.frDeliver Rod.each
  rw [hlist, List.foldl_cons, List.foldl_nil]
  dsimp only
  rw [hp]
  dsimp only
  rw [hnone]
  exact ite_self _

/-- The frame that a receive buffer takes: that of channel A where there is one (R157). -/
theorem mbPick_of (w : Word) (sl : FrSlot) (c : Chan) (f : FrFrame) (hf : (if c = .a then sl.a else sl.b) = some f)
    (ha : c = .b → sl.a = none) (hu : mbUses w c = true) : mbPick w sl.a sl.b = some (c, f) := by
  cases c with
  | a =>
    rw [if_pos rfl] at hf
    simp [mbPick, hf, hu]
  | b =>
    rw [if_neg (by decide)] at hf
    simp [mbPick, hf, hu, ha rfl]

theorem mbDiffers_of (w : Word) (sl : FrSlot) (c : Chan) (f : FrFrame) (hf : (if c = .a then sl.a else sl.b) = some f)
    (ha : c = .b → sl.a = none) :
    mbDiffers w sl.a sl.b = decide (c = .a ∧ mbCh w = 3 ∧ ∃ g ∈ sl.b, f.payload ≠ g.payload) := by
  cases c with
  | a =>
    rw [if_pos rfl] at hf
    cases hb : sl.b <;> simp [mbDiffers, hf, bne, Bool.beq_eq_decide_eq]
  | b => simp [mbDiffers, ha rfl]

/-! ### The captures beside the buffers -/

theorem Rod.only_tb {ρ q σ : Rod} {ex : List Nat} (t : TimeB) (h : ρ.only q ex σ) : ρ.only { q with tb := t } ex { σ with tb := t } := by
  obtain ⟨hk, ha⟩ := h
  refine ⟨Rod.keepsRegs_regs _ q _ _ rfl hk, ?_⟩
  unfold Rod.agrees at *
  rw [ha]

theorem Rod.only_red {ρ q σ : Rod} {ex : List Nat} (d : RedS) (h : ρ.only q ex σ) : ρ.only { q with red := d } ex { σ with red := d } := by
  obtain ⟨hk, ha⟩ := h
  refine ⟨Rod.keepsRegs_regs _ q _ _ rfl hk, ?_⟩
  unfold Rod.agrees at *
  rw [ha]

/-- A time-base frame changes the time base, and may owe a record (R113). -/
theorem Rod.only_timeBaseFrame {ρ q σ : Rod} {ex : List Nat} (f : TbFrame) (h : ρ.only q ex σ) :
    ∃ t, ρ.only (q.timeBaseFrame f) ex { σ with tb := t } := by
  have hset (t : TimeB) : ∃ t', ρ.only { q with tb := t } ex { σ with tb := t' } := ⟨t, Rod.only_tb t h⟩
  refine iteInduction (motive := fun p => ∃ t, ρ.only p ex { σ with tb := t }) (fun _ => hset q.tb) fun _ => ?_
  dsimp only
  split
  · exact hset _
  · exact iteInduction (motive := fun p => ∃ t, ρ.only p ex { σ with tb := t }) (fun _ => hset _)
      fun _ => ⟨_, Rod.only_fltAP (Rod.only_tb _ h)⟩

theorem Rod.only_tbCapture {ρ q σ : Rod} {ex : List Nat} (sl : FrSlot) (x y : Option FrFrame) (h : ρ.only q ex σ) :
    ∃ t, ρ.only (q.tbCapture sl x y) ex { σ with tb := t } := by
  have hkept : ∃ t, ρ.only q ex { σ with tb := t } := ⟨q.tb, Rod.only_tb q.tb h⟩
  unfold Rod.tbCapture
  split
  · exact hkept
  · split
    · exact Rod.only_timeBaseFrame _ h
    · exact hkept

/-- A witness frame changes what the rod holds of witnesses, and may be rejected with event 3 and a record (R510). -/
theorem Rod.only_witness {ρ q σ : Rod} {ex : List Nat} (holder : RodId) (f : WitFrame) (hi : Rg.IRQ_RAW 0x0A1 ∈ ex) (h : ρ.only q ex σ) :
    ∃ d, ρ.only (q.witness holder f) ex { σ with red := d } := by
  have hset (d : RedS) : ∃ d', ρ.only { q with red := d } ex { σ with red := d' } := ⟨d, Rod.only_red d h⟩
  have hreject (d : RedS) (k : Nat) : ∃ d', ρ.only (({ q with red := d } : Rod).witReject k) ex { σ with red := d' } :=
    ⟨d, Rod.only_fltAP (Rod.only_irq 0x0A1 3 hi (Rod.only_red d h))⟩
  have hite {c : Prop} [Decidable c] {x y : Rod} (hx : ∃ d, ρ.only x ex { σ with red := d })
      (hy : ∃ d, ρ.only y ex { σ with red := d }) : ∃ d, ρ.only (if c then x else y) ex { σ with red := d } :=
    iteInduction (motive := fun p => ∃ d, ρ.only p ex { σ with red := d }) (fun _ => hx) fun _ => hy
  exact hite (hset q.red) (hite (hset _) (hite (hite (hreject _ 2) (hite (hreject _ 3) (hite (hreject _ 1) (hset _))))
    (hite (hreject _ 1) (hset _))))

theorem Rod.only_witCapture {ρ q σ : Rod} {ex : List Nat} (sl : FrSlot) (x y : Option FrFrame) (hi : Rg.IRQ_RAW 0x0A1 ∈ ex)
    (h : ρ.only q ex σ) : ∃ d, ρ.only (q.witCapture sl x y) ex { σ with red := d } := by
  have hkept : ∃ d, ρ.only q ex { σ with red := d } := ⟨q.red, Rod.only_red q.red h⟩
  unfold Rod.witCapture
  split
  · exact hkept
  · split
    · exact Rod.only_witness _ _ hi h
    · exact hkept

/-- What is left but for the controller's fields, the time base and what the rod holds of witnesses, whatever they are. -/
theorem Rod.only_slotParts {ρ q σ : Rod} {ex : List Nat} {f : FrS} {t : TimeB} {d : RedS}
    (h : ρ.only q ex { σ with fr := f, tb := t, red := d }) : ρ.only q ex { σ with fr := q.fr, tb := q.tb, red := q.red } := by
  obtain ⟨hk, ha⟩ := h
  refine ⟨hk, ?_⟩
  unfold Rod.agrees at *
  rw [ha]

/-- The frames of a slot as the logic beside the buffers captures them (R160, R509). -/
def Rod.captured (ρ : Rod) (sl : FrSlot) : Rod := (ρ.tbCapture sl sl.a sl.b).witCapture sl sl.a sl.b

/-- The captures change the time base, what the rod holds of witnesses, and event 3 of the tandem page. -/
theorem Rod.only_captured {ρ q σ : Rod} {ex : List Nat} (sl : FrSlot) (hi : Rg.IRQ_RAW 0x0A1 ∈ ex) (h : ρ.only q ex σ) :
    ∃ t d, ρ.only (q.captured sl) ex { σ with tb := t, red := d } := by
  obtain ⟨t, ht⟩ := Rod.only_tbCapture sl sl.a sl.b h
  obtain ⟨d, hd⟩ := Rod.only_witCapture sl sl.a sl.b hi ht
  exact ⟨t, d, hd⟩

theorem Rod.keepsRegs_captured (ρ : Rod) (sl : FrSlot) : ρ.keepsRegs (ρ.captured sl) [Rg.IRQ_RAW 0x0A1] := by
  obtain ⟨-, -, hk, -⟩ := Rod.only_captured sl (List.mem_singleton_self _) (Rod.only_refl ρ _)
  exact hk

/-! ### The slot -/

/-- A slot in which receive buffer `b`, the one configured, takes the valid frame `f` of channel `c` (R156, R157). -/
structure Rod.mbTakes (ρ : Rod) (sl : FrSlot) (c : Chan) (f : FrFrame) (b : Nat) (w : Word) : Prop where
  runs : ρ.frRuns = true
  normal : ρ.poc ≠ Poc.startup
  frame : (if c = .a then sl.a else sl.b) = some f
  first : c = .b → sl.a = none
  validA : ∀ k, sl.a = some k → ρ.frValid sl.slot .a k
  validB : ∀ k, sl.b = some k → ρ.frValid sl.slot .b k
  ledger : ρ.ct.ledger = []
  cfg : ρ.fr.cfg = [(b, w)]
  place : b < 128
  uses : mbUses w c = true
  fits : mbEn w = true ∧ mbTx w = false ∧ mbSlot w = sl.slot ∧ mbDue w (sl.cycle % 64) = true

section
variable {ρ : Rod} {sl : FrSlot} {c : Chan} {f : FrFrame} {b : Nat} {w : Word}

/-- The rod with a frame of the slot stored, and the interrupt of its buffer. -/
def Rod.mbTaken (ρ : Rod) (sl : FrSlot) (c : Chan) (f : FrFrame) (b : Nat) (w : Word) : Rod :=
  (ρ.mbStore b sl c f (mbDiffers w sl.a sl.b)).mbIrq b

theorem Rod.mbTakes.frFrame (h : ρ.mbTakes sl c f b w) : ∃ g : FrS → FrS, ρ.frFrame sl = ((ρ.modFr g).mbTaken sl c f b w).captured sl := by
  obtain ⟨g, hj, hcfg⟩ := Rod.frJudged_of_valid ρ sl h.validA h.validB
  have hdeliver := Rod.frDeliver_one (ρ.modFr g) sl sl.a sl.b b w c f (hcfg.trans h.cfg) h.ledger h.fits
    (mbPick_of w sl c f h.frame h.first h.uses)
  refine ⟨g, ?_⟩
  unfold Rod.frFrame
  rw [if_pos h.runs, hj]
  dsimp only
  rw [Rod.poc_modFr, if_neg h.normal, hdeliver]
  rfl

/-- The events of a slot are apart from the registers of its buffer. -/
theorem mbReg_ne_irq (b o p : Nat) (ho : o < 0x1C0) : (0x31 + b / 9) * 0x1000 + (0x40 + 0x1C0 * (b % 9) + o) ≠ Rg.IRQ_RAW p := by
  obtain ⟨-, hmod⟩ := mbReg_place b o ho
  unfold Rg.IRQ_RAW
  omega

theorem mbReg_not_log (b o : Nat) (hb : b < 128) (ho : o < 0x1C0) : (0x31 + b / 9) * 0x1000 + (0x40 + 0x1C0 * (b % 9) + o) ∉ logRegs := by
  have hirq := mbReg_ne_irq b o 0x0D0 ho
  obtain ⟨-, hmod⟩ := mbReg_place b o ho
  have hseq : (0x31 + b / 9) * 0x1000 + (0x40 + 0x1C0 * (b % 9) + o) ≠ Rg.FL_SEQ := by
    unfold Rg.FL_SEQ
    omega
  simp [logRegs, hseq, hirq]

/-- The status leaves the data words. -/
theorem Rod.mbShown_data (ρ : Rod) (b : Nat) (sl : FrSlot) (c : Chan) (f : FrFrame) (differs passive : Bool) (i : Nat) (hb : b < 128)
    (hi : i < 64) : (ρ.mbShown b sl c f differs passive).gw (Rg.MB_DATA b i) = ρ.gw (Rg.MB_DATA b i) := by
  have hlog : Rg.MB_DATA b i ∉ logRegs := by
    rw [MB_DATA_place]
    exact mbReg_not_log b _ hb (by omega)
  obtain ⟨hk, -⟩ := Rod.only_mbShown (ex := [Rg.MB_STAT b, Rg.MB_FT_LO b, Rg.MB_FT_HI b]) b sl c f differs passive (by simp) (by simp)
    (by simp) (Rod.only_refl ρ _)
  simp only [logRegs, List.mem_cons, List.not_mem_nil, or_false, not_or] at hlog
  refine hk _ ?_ hlog.1 hlog.2
  simp only [Rg.MB_DATA, Rg.MB_STAT, Rg.MB_FT_LO, Rg.MB_FT_HI, List.mem_cons, List.not_mem_nil, or_false, not_or]
  omega

/-- The event of the buffer, and the captures after it, leave the buffer's registers. -/
theorem Rod.gw_mbIrq_captured (ρ : Rod) (sl : FrSlot) (b o : Nat) (hb : b < 128) (ho : o < 0x1C0) :
    ((ρ.mbIrq b).captured sl).flush.gw ((0x31 + b / 9) * 0x1000 + (0x40 + 0x1C0 * (b % 9) + o)) =
      ρ.gw ((0x31 + b / 9) * 0x1000 + (0x40 + 0x1C0 * (b % 9) + o)) := by
  have hk := Rod.keepsRegs_captured (ρ.mbIrq b) sl
  have hlog := mbReg_not_log b o hb ho
  rw [Rod.flush_gw _ _ hlog, hk _ (fun e => mbReg_ne_irq b o 0x0A1 ho (List.mem_singleton.1 e))
    (fun e => hlog (by rw [e]; exact .head _)) (mbReg_ne_irq b o 0x0D0 ho)]
  exact Rod.gw_irq_ne _ _ _ _ (mbReg_ne_irq b o _ ho)

/-- The event of a buffer, on the page of its group of nine (R184). -/
theorem Rod.raised_mbIrq_captured (ρ : Rod) (sl : FrSlot) (b : Nat) (hb : b < 128) :
    ((ρ.mbIrq b).captured sl).flush.raised (0x031 + b / 9) (b % 9) := by
  have hk := Rod.keepsRegs_captured (ρ.mbIrq b) sl
  refine Rod.raised_flush _ _ _ (Rod.raised_congr (ρ.mbIrq b) _ _ _ (hk _ ?_ ?_ ?_) (Rod.irq_sets ρ (0x031 + b / 9) (b % 9) (by omega)))
  all_goals
    unfold Rg.IRQ_RAW
    simp [Rg.FL_SEQ]
    omega

/-- What a stored frame leaves, with the event and the captures of its slot. -/
theorem Rod.keepsRegs_mbTaken {ρ q : Rod} (sl : FrSlot) (b : Nat) (h : ρ.keepsRegs q (mbRegs b)) :
    ρ.keepsRegs ((q.mbIrq b).captured sl).flush
      (Rg.MB_STAT b :: Rg.MB_FT_LO b :: Rg.MB_FT_HI b :: Rg.IRQ_RAW (0x031 + b / 9) :: Rg.IRQ_RAW 0x0A1 :: mbDataRegs b) := by
  have hsub : mbRegs b ⊆ Rg.MB_STAT b :: Rg.MB_FT_LO b :: Rg.MB_FT_HI b :: Rg.IRQ_RAW (0x031 + b / 9) :: Rg.IRQ_RAW 0x0A1 :: mbDataRegs b := by
    intro a ha
    simp only [mbRegs, List.mem_cons] at ha ⊢
    tauto
  refine Rod.keepsRegs_flush _ _ _ (Rod.keepsRegs_trans (Rod.keepsRegs_irq _ _ _ (0x031 + b / 9) (b % 9) (by simp)
    (Rod.keepsRegs_mono hsub h)) (Rod.keepsRegs_mono ?_ (Rod.keepsRegs_captured (q.mbIrq b) sl)))
  simp

/-- A buffer not on HOLD holds the frame that came (R156, R157). -/
theorem Rod.mbTakes.stored (h : ρ.mbTakes sl c f b w) (hh : ρ.b (Fl.MB_CTRL_HOLD b) = false) (hl : f.payload.length ≤ 254) :
    let τ := (ρ.frFrame sl).flush
    τ.b (Fl.MB_STAT_NEW b) = true ∧ τ.b (Fl.MB_STAT_NULL b) = f.null ∧ τ.g (Fl.MB_STAT_CYCLE b) = sl.cycle % 64 ∧
    τ.g (Fl.MB_STAT_RX_CH b) = (if c = .a then 1 else 2) ∧ τ.g (Fl.MB_STAT_RX_PL b) = f.payload.length / 2 ∧
    τ.b (Fl.MB_STAT_DIFF b) = decide (c = .a ∧ mbCh w = 3 ∧ ∃ g ∈ sl.b, f.payload ≠ g.payload) ∧
    τ.b (Fl.MB_STAT_PASSIVE b) = decide (ρ.poc = Poc.passive) ∧
    τ.g (Fl.MB_FT_LO_FT b) + 2 ^ 32 * τ.g (Fl.MB_FT_HI_FT b) = sl.ft.toNat ∧
    (∀ i, i < 64 → τ.gw (Rg.MB_DATA b i) = BitVec.ofNat 32 (leAt f.payload (4 * i) 4)) ∧ τ.raised (0x031 + b / 9) (b % 9) ∧
    ρ.keepsRegs τ (Rg.MB_STAT b :: Rg.MB_FT_LO b :: Rg.MB_FT_HI b :: Rg.IRQ_RAW (0x031 + b / 9) :: Rg.IRQ_RAW 0x0A1 ::
      (List.range 64).map (Rg.MB_DATA b)) := by
  obtain ⟨g, e⟩ := h.frFrame
  have hb := h.place
  have hd := mbDiffers_of w sl c f h.frame h.first
  have hq := Rod.mbStore_open (ρ.modFr g) b sl c f (mbDiffers w sl.a sl.b) hh
  have hkept := (Rod.only_mbStore_open (ρ.modFr g) b sl c f (mbDiffers w sl.a sl.b) hh).1
  have hfilled := Rod.mbFilled_data (ρ.modFr g) b f.payload
  rw [Rod.poc_modFr] at hq
  dsimp only
  rw [e, ← hd]
  unfold Rod.mbTaken
  generalize (ρ.modFr g).mbStore b sl c f (mbDiffers w sl.a sl.b) = q at *
  generalize (ρ.modFr g).mbFilled b f.payload = q0 at *
  obtain ⟨hnew, hnull, hcyc, hch, hpl, hdiff, hpas, hft⟩ := Rod.mbShown_fields q0 b sl c f (mbDiffers w sl.a sl.b) (ρ.poc == Poc.passive) hl
  rw [← hq] at hnew hnull hcyc hch hpl hdiff hpas hft
  have hgw (o : Nat) (ho : o < 0x1C0) := Rod.gw_mbIrq_captured q sl b o hb ho
  have hdata (i : Nat) (hi : i < 64) : ((q.mbIrq b).captured sl).flush.gw (Rg.MB_DATA b i) = q.gw (Rg.MB_DATA b i) := by
    rw [MB_DATA_place]
    exact hgw _ (by omega)
  have hirq := Rod.raised_mbIrq_captured q sl b hb
  have hkeeps := Rod.keepsRegs_mbTaken sl b (Rod.keepsRegs_trans (q := ρ.modFr g) (fun _ _ _ _ => rfl) hkept)
  generalize ((q.mbIrq b).captured sl).flush = τ at *
  have hstat : τ.gw (Rg.MB_STAT b) = q.gw (Rg.MB_STAT b) := hgw 0x4 (by decide)
  refine ⟨(Rod.b_congr q τ (Fl.MB_STAT_NEW b) hstat).trans hnew, (Rod.b_congr q τ (Fl.MB_STAT_NULL b) hstat).trans hnull,
    (Rod.g_of_gw q τ (Fl.MB_STAT_CYCLE b) hstat).trans hcyc, (Rod.g_of_gw q τ (Fl.MB_STAT_RX_CH b) hstat).trans hch,
    (Rod.g_of_gw q τ (Fl.MB_STAT_RX_PL b) hstat).trans hpl, (Rod.b_congr q τ (Fl.MB_STAT_DIFF b) hstat).trans hdiff,
    (Rod.b_congr q τ (Fl.MB_STAT_PASSIVE b) hstat).trans hpas, ?_, fun i hi => ?_, hirq, ?_⟩
  · rw [Rod.g_of_gw _ _ (Fl.MB_FT_LO_FT b) (hgw 0x8 (by decide)), Rod.g_of_gw _ _ (Fl.MB_FT_HI_FT b) (hgw 0xC (by decide))]
    exact hft
  · rw [hdata i hi, hq, Rod.mbShown_data _ _ _ _ _ _ _ i hb hi, hfilled i hi]
  · exact hkeeps

/-- A buffer on HOLD counts the frame as lost (R158). -/
theorem Rod.mbTakes.lost (h : ρ.mbTakes sl c f b w) (hh : ρ.b (Fl.MB_CTRL_HOLD b) = true) :
    let τ := (ρ.frFrame sl).flush
    τ.g (Fl.MB_STAT_LOST b) = min 0xFF (ρ.g (Fl.MB_STAT_LOST b) + 1) ∧
    ρ.only τ [Rg.MB_STAT b, Rg.IRQ_RAW (0x031 + b / 9), Rg.IRQ_RAW 0x0A1] { ρ with fr := τ.fr, tb := τ.tb, red := τ.red } := by
  obtain ⟨g, e⟩ := h.frFrame
  have hq : (ρ.modFr g).mbTaken sl c f b w = ((ρ.modFr g).inc (Fl.MB_STAT_LOST b)).mbIrq b :=
    congrArg (·.mbIrq b) (Rod.mbStore_held (ρ.modFr g) b sl c f (mbDiffers w sl.a sl.b) hh)
  have hstat := Rod.gw_mbIrq_captured ((ρ.modFr g).inc (Fl.MB_STAT_LOST b)) sl b 0x4 h.place (by decide)
  dsimp only
  rw [e, hq]
  refine ⟨(Rod.g_of_gw _ _ (Fl.MB_STAT_LOST b) hstat).trans (Rod.g_inc (ρ.modFr g) (Fl.MB_STAT_LOST b) (show 16 + 8 ≤ 32 by decide)), ?_⟩
  obtain ⟨t, d, hcap⟩ := Rod.only_captured sl (.tail _ (.tail _ (.head _))) (Rod.only_irq (0x031 + b / 9) (b % 9) (.tail _ (.head _))
    (Rod.only_inc (Fl.MB_STAT_LOST b) (.head [Rg.IRQ_RAW (0x031 + b / 9), Rg.IRQ_RAW 0x0A1]) (Rod.only_modFr g (Rod.only_refl ρ _))))
  exact Rod.only_slotParts (Rod.only_flush hcap)

end

end Sys2Proof.Machine
end

section
/-! The start of a communication cycle (R149, R152, R161): what it shows, the configuration it takes into force, and the frame of a ready
buffer. -/

namespace Sys2Proof.Machine

/-! ### The configuration in force -/

/-- A key above all listed ones is listed last. -/
theorem Sparse.put_above {α : Type} (m : Sparse α) (k : Nat) (v : α) (h : ∀ e ∈ m, e.1 < k) : Sparse.put m k v = m ++ [(k, v)] := by
  induction m with
  | nil => rfl
  | cons e t ih =>
    have he : e.1 < k := h e List.mem_cons_self
    rw [Sparse.put, if_neg (by omega), if_neg (by omega), ih fun x hx => h x (List.mem_cons_of_mem _ hx)]
    rfl

theorem Sparse.del_above {α : Type} (m : Sparse α) (k : Nat) (h : ∀ e ∈ m, e.1 < k) : Sparse.del m k = m := by
  induction m with
  | nil => rfl
  | cons e t ih =>
    have he : e.1 < k := h e List.mem_cons_self
    rw [Sparse.del, if_neg (by omega), ih fun x hx => h x (List.mem_cons_of_mem _ hx)]

/-- A table written key by key lists the keys whose values are no default. -/
theorem Sparse.foldl_set_range {α : Type} [DecidableEq α] (d : α) (f : Nat → α) (n : Nat) :
    (List.range n).foldl (fun m b => Sparse.set d m b (f b)) [] = ((List.range n).filter fun b => f b ≠ d).map fun b => (b, f b) := by
  induction n with
  | zero => rfl
  | succ n ih =>
    have hbelow : ∀ e ∈ ((List.range n).filter fun b => f b ≠ d).map fun b => (b, f b), e.1 < n := by
      intro e he
      obtain ⟨b, hb, rfl⟩ := List.mem_map.1 he
      exact List.mem_range.1 (List.mem_filter.1 hb).1
    rw [List.range_succ, List.foldl_append, ih, List.foldl_cons, List.foldl_nil, List.filter_append, List.map_append]
    unfold Sparse.set
    by_cases hd : f n = d
    · rw [if_pos hd, Sparse.del_above _ _ hbelow]
      simp [hd]
    · rw [if_neg hd, Sparse.put_above _ _ _ hbelow]
      simp [hd]

theorem Sparse.get_foldl_set_range {α : Type} [DecidableEq α] (d : α) (f : Nat → α) (n b : Nat) (hb : b < n) :
    Sparse.get d ((List.range n).foldl (fun m b => Sparse.set d m b (f b)) []) b = f b := by
  induction n with
  | zero => omega
  | succ n ih =>
    rw [List.range_succ, List.foldl_append, List.foldl_cons, List.foldl_nil, Sparse.get_set _ _ _ _ _ _ fun _ => rfl]
    split
    · next h => rw [h]
    · next h => exact ih (by omega)

/-! ### The cycle begun -/

/-- The configuration of the buffers, as their registers hold it. -/
def Rod.mbConfig (ρ : Rod) : Sparse Word := (List.range 128).foldl (fun m b => Sparse.set 0#32 m b (ρ.gw (Rg.MB_CFG b))) []

/-- The rod with its configuration of the buffers in force, and the cycle before judged (R149, R152). -/
def Rod.cycleBegun (ρ : Rod) (cycle : Nat) : Rod :=
  ((ρ.closeCycle.modFr fun f =>
    { f with cyc := cycle, start := ρ.ck.up
             cfg := ρ.mbConfig }).p Fl.FR_CNT_CYCLE (cycle % 64)).p
    Fl.FR_CNT_MT 0

theorem Rod.cycleStart_eq (ρ : Rod) (cycle : Nat) (h : ρ.frRuns = true) : ρ.cycleStart cycle =
    let q := ρ.cycleBegun cycle
    (q.each (q.txDue cycle) fun e p => p.mbTransmit (q.txDue cycle) e (cycle % 64)).frSymbols := by
  unfold Rod.cycleStart Rod.cycleBegun Rod.mbConfig
  rw [if_pos h]

theorem Rod.cycleBegun_fr (ρ : Rod) (cycle : Nat) :
    (ρ.cycleBegun cycle).fr.cfg = ρ.mbConfig ∧
    (ρ.cycleBegun cycle).fr.trying = ρ.fr.trying ∧ (ρ.cycleBegun cycle).fr.join = ρ.fr.join := by
  unfold Rod.cycleBegun Rod.closeCycle
  rw [Rod.p_fr, Rod.p_fr, Rod.modFr_fr, Rod.modFr_fr, Rod.p_fr, Rod.p_fr]
  exact ⟨rfl, rfl, rfl⟩

theorem Rod.only_cycleBegun (ρ : Rod) (cycle : Nat) :
    ρ.only (ρ.cycleBegun cycle) [Rg.FR_CNT, Rg.FR_STAT] { ρ with fr := (ρ.cycleBegun cycle).fr } := by
  have hclosed : ρ.only ρ.closeCycle [Rg.FR_CNT, Rg.FR_STAT] _ := Rod.only_modFr _ (Rod.only_p Fl.FR_STAT_CH_B_OK _ (.tail _ (.head _))
    (Rod.only_p Fl.FR_STAT_CH_A_OK _ (.tail _ (.head _)) (Rod.only_refl ρ _)))
  have hbegun := Rod.only_p Fl.FR_CNT_MT 0 (.head _) (Rod.only_p Fl.FR_CNT_CYCLE (cycle % 64) (.head _) (Rod.only_modFr (fun f =>
    { f with cyc := cycle, start := ρ.ck.up
             cfg := ρ.mbConfig }) hclosed))
  exact Rod.only_ownFr (σ := ρ) hbegun

theorem Rod.cycleBegun_fields (ρ : Rod) (cycle : Nat) :
    let q := ρ.cycleBegun cycle
    q.g Fl.FR_CNT_CYCLE = cycle % 64 ∧ q.g Fl.FR_CNT_MT = 0 ∧ q.poc = ρ.poc ∧ q.b Fl.FR_STAT_CH_A_OK = ρ.fr.seenA ∧
    q.b Fl.FR_STAT_CH_B_OK = ρ.fr.seenB := by
  refine ⟨?_, ?_, ?_, ?_, ?_⟩
  all_goals
    simp [Rod.cycleBegun, Rod.closeCycle, Rod.poc, Rod.b, Rod.g_p, Rod.g_p_ne, Fld.addr, Fl.FR_CNT_CYCLE, Fl.FR_CNT_MT, Fl.FR_STAT_POC,
      Fl.FR_STAT_CH_A_OK, Fl.FR_STAT_CH_B_OK, b2n_bit]

theorem Rod.cycleBegun_gw (ρ : Rod) (cycle a : Nat) (h : a ≠ Rg.FR_CNT ∧ a ≠ Rg.FR_STAT) : (ρ.cycleBegun cycle).gw a = ρ.gw a := by
  obtain ⟨hcnt, hstat⟩ := h
  unfold Rod.cycleBegun Rod.closeCycle
  rw [Rod.gw_p_ne _ Fl.FR_CNT_MT _ _ hcnt, Rod.gw_p_ne _ Fl.FR_CNT_CYCLE _ _ hcnt, Rod.gw_modFr, Rod.gw_modFr,
    Rod.gw_p_ne _ Fl.FR_STAT_CH_B_OK _ _ hstat, Rod.gw_p_ne _ Fl.FR_STAT_CH_A_OK _ _ hstat]

theorem Rod.cycleBegun_startup (ρ : Rod) (cycle n : Nat) : (ρ.cycleBegun cycle).sendsStartup n = ρ.sendsStartup n := by
  obtain ⟨-, ht, hj⟩ := Rod.cycleBegun_fr ρ cycle
  unfold Rod.sendsStartup
  rw [ht, hj, Rod.b_congr ρ _ Fl.FR_MODE_COLDSTART (Rod.cycleBegun_gw ρ cycle _ (by decide))]

/-! ### What sending leaves -/

/-- What a cycle shows of itself. -/
def Rod.cycleView (ρ : Rod) : Word × Word × Sparse Word := (ρ.gw Rg.FR_CNT, ρ.gw Rg.FR_STAT, ρ.fr.cfg)

theorem Rod.cycleView_p (ρ : Rod) (f : Fld) (v : Nat) (h : f.addr / 0x1000 ≠ 0x30) : (ρ.p f v).cycleView = ρ.cycleView := by
  have hne (a : Nat) (ha : a / 0x1000 = 0x30) : a ≠ f.addr := fun e => h (e ▸ ha)
  unfold Rod.cycleView
  rw [Rod.gw_p_ne _ _ _ _ (hne _ rfl), Rod.gw_p_ne _ _ _ _ (hne _ rfl)]
  rfl

theorem Rod.cycleView_irq (ρ : Rod) (p j : Nat) : (ρ.irq p j).cycleView = ρ.cycleView := by
  have hne (a : Nat) (ha : a % 0x1000 ≠ 0x10) : a ≠ Rg.IRQ_RAW p := by
    unfold Rg.IRQ_RAW
    omega
  have hfr : (ρ.irq p j).fr = ρ.fr := Rod.agrees_fr (Rod.agrees_irqMask ρ p _)
  unfold Rod.cycleView
  rw [Rod.gw_irq_ne _ _ _ _ (hne _ (by decide)), Rod.gw_irq_ne _ _ _ _ (hne _ (by decide)), hfr]

theorem Rod.cycleView_frSend (ρ : Rod) (o : Ball → Out) : (ρ.frSend o).cycleView = ρ.cycleView := by
  obtain ⟨l, e⟩ := Rod.frSend_cases ρ o
  rw [e]
  rfl

/-- The registers of the buffers are above the controller's own page. -/
theorem mbReg_above (b o : Nat) (ho : o < 0x1C0) : 0x30 < ((0x31 + b / 9) * 0x1000 + (0x40 + 0x1C0 * (b % 9) + o)) / 0x1000 := by
  obtain ⟨hp, -⟩ := mbReg_place b o ho
  omega

theorem mbReg_page (b o : Nat) (ho : o < 0x1C0) : ((0x31 + b / 9) * 0x1000 + (0x40 + 0x1C0 * (b % 9) + o)) / 0x1000 ≠ 0x30 :=
  (mbReg_above b o ho).ne'

theorem Rod.cycleBegun_mb (ρ : Rod) (cycle b o : Nat) (ho : o < 0x1C0) :
    (ρ.cycleBegun cycle).gw ((0x31 + b / 9) * 0x1000 + (0x40 + 0x1C0 * (b % 9) + o)) =
      ρ.gw ((0x31 + b / 9) * 0x1000 + (0x40 + 0x1C0 * (b % 9) + o)) :=
  have hp := mbReg_page b o ho
  Rod.cycleBegun_gw ρ cycle _ ⟨fun e => hp (e ▸ rfl), fun e => hp (e ▸ rfl)⟩

theorem Rod.cycleView_mbSend (ρ : Rod) (b : Nat) (w : Word) (cycle : Nat) (null : Bool) (data : List Word) :
    (ρ.mbSend b w cycle null data).cycleView = ρ.cycleView := by
  have hpage : (Fl.MB_STAT_NEW b).addr / 0x1000 ≠ 0x30 := mbReg_page b 0x4 (by decide)
  refine iteInduction (motive := fun q : Rod => q.cycleView = ρ.cycleView) (fun _ => rfl) fun _ => ?_
  unfold Rod.mbIrq
  rw [Rod.cycleView_irq, Rod.cycleView_p _ (Fl.MB_STAT_CYCLE b) _ hpage, Rod.cycleView_p _ _ _ hpage]
  exact Rod.each_keeps Rod.cycleView _ (fun c q => Rod.cycleView_frSend q _) _ _

theorem Rod.cycleView_mbCopy (ρ : Rod) (b : Nat) (w : Word) (cycle : Nat) : (ρ.mbCopy b w cycle).cycleView = ρ.cycleView := by
  have hpage : (Fl.MB_CTRL_READY b).addr / 0x1000 ≠ 0x30 := mbReg_page b 0x10 (by decide)
  have hite {x : Prop} [Decidable x] {p q : Rod} (hp : p.cycleView = ρ.cycleView) (hq : q.cycleView = ρ.cycleView) :
      (if x then p else q).cycleView = ρ.cycleView :=
    iteInduction (motive := fun q : Rod => q.cycleView = ρ.cycleView) (fun _ => hp) fun _ => hq
  have hsend (null : Bool) (data : List Word) := Rod.cycleView_mbSend ρ b w cycle null data
  exact hite ((Rod.cycleView_mbSend _ _ _ _ _ _).trans (Rod.cycleView_p ρ _ 0 hpage)) (hite rfl (hite (hsend _ _) (hsend _ _)))

theorem Rod.cycleView_mbConflict (ρ : Rod) (a e : Nat) : (ρ.mbConflict a e).cycleView = ρ.cycleView := by
  unfold Rod.mbConflict
  split
  · rfl
  · exact (Rod.cycleView_irq (ρ.modFr _) 0x030 7).trans rfl

theorem Rod.cycleView_mbTransmit (ρ : Rod) (all : List (Nat × Word)) (e : Nat × Word) (cycle : Nat) :
    (ρ.mbTransmit all e cycle).cycleView = ρ.cycleView := by
  unfold Rod.mbTransmit
  split
  · exact Rod.cycleView_mbCopy _ _ _ _
  · exact Rod.each_keeps Rod.cycleView _ (fun a q => Rod.cycleView_mbConflict q _ _) _ _

/-- The rod after some more was sent. -/
def Rod.sentMore (ρ q : Rod) : Prop := ∃ l, q = { ρ with out := ρ.out ++ l }

theorem Rod.sentMore_symbol {ρ q : Rod} (go : Bool) (c : Chan) (k n : Nat) (h : ρ.sentMore q) :
    ρ.sentMore (q.when go fun q => q.frSymbol c k n) := by
  refine Rod.when_invariant ρ.sentMore go _ (fun p hp => ?_) q h
  obtain ⟨l, rfl⟩ := hp
  obtain ⟨m, e⟩ := Rod.frSend_cases { ρ with out := ρ.out ++ l } fun txen => .symbol c txen k n
  exact ⟨l ++ m, e.trans (by rw [List.append_assoc])⟩

/-- The symbols of a cycle are sent, and no longer owed (R177). -/
theorem Rod.frSymbols_cases (ρ : Rod) : ∃ q, ρ.sentMore q ∧
    ρ.frSymbols = q.modFr fun f => { f with mtsA := false, mtsB := false, wudop := false } :=
  ⟨_, Rod.sentMore_symbol _ _ 3 1 (Rod.sentMore_symbol _ _ 1 1 (Rod.sentMore_symbol _ _ 1 1 ⟨[], by rw [List.append_nil]⟩)), rfl⟩

/-- The symbols leave the registers, the configuration and what was sent before. -/
theorem Rod.frSymbols_leaves (ρ : Rod) : (∀ a, ρ.frSymbols.gw a = ρ.gw a) ∧ ρ.frSymbols.cycleView = ρ.cycleView ∧
    ∀ o ∈ ρ.out, o ∈ ρ.frSymbols.out := by
  obtain ⟨-, ⟨l, rfl⟩, e⟩ := Rod.frSymbols_cases ρ
  rw [e]
  exact ⟨fun _ => rfl, rfl, fun o h => List.mem_append_left l h⟩

theorem Rod.only_frSymbols {ρ q σ : Rod} {ex : List Nat} (h : ρ.only q ex σ) : ρ.only q.frSymbols ex { σ with fr := q.frSymbols.fr } := by
  obtain ⟨-, ⟨l, rfl⟩, e⟩ := Rod.frSymbols_cases q
  have hsent : ρ.only { q with out := q.out ++ l } ex σ :=
    ⟨Rod.keepsRegs_regs _ q _ _ rfl h.1, Rod.agrees_trans _ q _ rfl h.2⟩
  have hlast := Rod.only_modFr (fun f => { f with mtsA := false, mtsB := false, wudop := false }) hsent
  rw [e]
  exact Rod.only_ownFr (σ := σ) hlast

/-! ### The buffers that are due -/

/-- A buffer due alone in its cycle. -/
theorem Rod.txDue_alone (ρ : Rod) (cycle b : Nat) (hb : b < 128) (hcfg : ρ.fr.cfg = ρ.mbConfig)
    (hgo : ρ.poc = Poc.active ∨ (ρ.poc = Poc.startup ∧ ρ.sendsStartup cycle = true ∧ b = 0))
    (hw : mbEn (ρ.gw (Rg.MB_CFG b)) = true ∧ mbTx (ρ.gw (Rg.MB_CFG b)) = true ∧ mbDue (ρ.gw (Rg.MB_CFG b)) cycle = true)
    (hno : ∀ a, a < 128 → a ≠ b → ¬(mbEn (ρ.gw (Rg.MB_CFG a)) = true ∧ mbTx (ρ.gw (Rg.MB_CFG a)) = true ∧
      mbDue (ρ.gw (Rg.MB_CFG a)) cycle = true)) : ρ.txDue cycle = [(b, ρ.gw (Rg.MB_CFG b))] := by
  have hne : ρ.gw (Rg.MB_CFG b) ≠ 0#32 := by
    intro h
    rw [h] at hw
    exact absurd hw.1 (by decide)
  have hdue : (ρ.fr.cfg.filter fun e => mbEn e.2 && mbTx e.2 && mbDue e.2 cycle) = [(b, ρ.gw (Rg.MB_CFG b))] := by
    rw [hcfg, Rod.mbConfig, Sparse.foldl_set_range, List.filter_map, List.filter_filter]
    have hkeys : (List.range 128).filter (fun a => ((fun e : Nat × Word => mbEn e.2 && mbTx e.2 && mbDue e.2 cycle) ∘
        fun b => (b, ρ.gw (Rg.MB_CFG b))) a && decide (ρ.gw (Rg.MB_CFG a) ≠ 0#32)) = [b] := by
      refine List.perm_singleton.1 ((List.perm_ext_iff_of_nodup (List.nodup_range.filter _) (List.nodup_singleton b)).2 fun a => ?_)
      simp only [List.mem_filter, List.mem_range, List.mem_singleton, Function.comp_apply, Bool.and_eq_true, decide_eq_true_eq, and_assoc]
      constructor
      · rintro ⟨ha, h1, h2, h3, -⟩
        by_contra hab
        exact hno a ha hab ⟨h1, h2, h3⟩
      · rintro rfl
        exact ⟨hb, hw.1, hw.2.1, hw.2.2, hne⟩
    rw [hkeys]
    rfl
  unfold Rod.txDue
  rw [hdue]
  rcases hgo with h | ⟨hp, hs, rfl⟩
  · exact if_pos h
  · rw [if_neg (by rw [hp]; decide), if_pos ⟨hp, hs⟩]
    rfl

theorem Rod.txDue_none (ρ : Rod) (cycle : Nat) (h : ρ.poc ≠ Poc.active) (hs : ρ.poc = Poc.passive ∨ ρ.sendsStartup cycle = false) :
    ρ.txDue cycle = [] := by
  unfold Rod.txDue
  refine (if_neg h).trans (if_neg fun k => ?_)
  rcases hs with hs | hs
  · exact absurd (hs.symm.trans k.1) (by decide)
  · exact absurd (hs.symm.trans k.2) (by decide)

/-! ### A frame is sent -/

/-- The header of a frame with data that a buffer sends (R148). -/
def Rod.mbHead (ρ : Rod) (b cycle : Nat) : FrHead :=
  ⟨cycle, false, b == 0 && ρ.b Fl.FR_MODE_SYNC, (b == 0 && ρ.b Fl.FR_MODE_SYNC) && ρ.b Fl.FR_MODE_COLDSTART, Config.preamble ρ.me b⟩

/-- The channels on which a buffer sends: those of its own that are in use (R161). -/
def Rod.mbChans (ρ : Rod) (w : Word) : List Chan := [Chan.a, Chan.b].filter fun c => mbUses w c && ρ.chanOn c

/-- The frame with data that a buffer sends on a channel. -/
def Rod.mbFrame (ρ : Rod) (b : Nat) (w : Word) (cycle : Nat) (data : List Word) (c : Chan) (txen : Ball) : Out :=
  .frame c txen (mbSlot w) (ρ.mbHead b cycle) ((wordBytes data).take (2 * mbPl w))

/-- A buffer that uses a channel in use sends its frame there and shows it (R161). -/
theorem Rod.mbSend_sends (ρ : Rod) (b : Nat) (w : Word) (cycle : Nat) (data : List Word) (c : Chan) (hu : mbUses w c = true)
    (hc : ρ.chanOn c = true) :
    let q := ρ.mbSend b w cycle false data
    q.b (Fl.MB_STAT_NEW b) = true ∧ (ρ.frDrives = true →
      Out.frame c (ρ.ftxen true) (mbSlot w) (ρ.mbHead b cycle) ((wordBytes data).take (2 * mbPl w)) ∈ q.out) := by
  have hmem : c ∈ ρ.mbChans w := List.mem_filter.2 ⟨by cases c <;> simp, by rw [hu, hc]; rfl⟩
  have e : ρ.mbSend b w cycle false data =
      (((ρ.each (ρ.mbChans w) fun c q => q.frSend (ρ.mbFrame b w cycle data c)).p (Fl.MB_STAT_NEW b) 1).p (Fl.MB_STAT_CYCLE b) cycle).mbIrq b :=
    if_neg fun h => List.ne_nil_of_mem hmem (List.isEmpty_iff.1 h)
  have hsent := Rod.each_frSend_mem ρ (ρ.mbChans w) (ρ.mbFrame b w cycle data) c hmem
  dsimp only
  rw [e]
  generalize (ρ.each (ρ.mbChans w) fun c q => q.frSend (ρ.mbFrame b w cycle data c)) = q at *
  have hnew : ((q.p (Fl.MB_STAT_NEW b) 1).p (Fl.MB_STAT_CYCLE b) cycle).b (Fl.MB_STAT_NEW b) = true := by
    rw [Rod.b_p_ne _ (Fl.MB_STAT_CYCLE b) (Fl.MB_STAT_NEW b) _ (show 8 + 6 ≤ 32 by decide) (.inr (.inr (show 8 + 6 ≤ 31 by decide)))]
    exact Rod.b_p q (Fl.MB_STAT_NEW b) true (show 31 + 1 ≤ 32 by decide) rfl
  have hcarry : q.carries id (fun _ => false) (((q.p (Fl.MB_STAT_NEW b) 1).p (Fl.MB_STAT_CYCLE b) cycle).mbIrq b) :=
    Rod.carries_irq _ _ (Rod.carries_p _ _ rfl (Rod.carries_p _ _ rfl (Rod.carries_refl _ _ _)))
  exact ⟨(Rod.b_irq_ne _ _ _ (Fl.MB_STAT_NEW b) (mbReg_ne_irq b 0x4 _ (by decide))).trans hnew, fun hd => hcarry.sent _ (hsent hd)⟩

/-- Sending a frame leaves the registers but the status of its buffer and the events. -/
theorem Rod.gw_mbSend (ρ : Rod) (b : Nat) (w : Word) (cycle : Nat) (null : Bool) (data : List Word) (a : Nat) (ha : a ≠ Rg.MB_STAT b)
    (hi : a ≠ Rg.IRQ_RAW (0x031 + b / 9)) : (ρ.mbSend b w cycle null data).gw a = ρ.gw a := by
  refine iteInduction (motive := fun q : Rod => q.gw a = ρ.gw a) (fun _ => rfl) fun _ => ?_
  unfold Rod.mbIrq
  rw [Rod.gw_irq_ne _ _ _ _ hi, Rod.gw_p_ne _ (Fl.MB_STAT_CYCLE b) _ _ ha, Rod.gw_p_ne _ (Fl.MB_STAT_NEW b) _ _ ha]
  exact Rod.gw_each_frSend _ _ _ _

/-- The rod with a ready buffer no longer ready, and its data taken for sending. -/
def Rod.mbRead (ρ : Rod) (b : Nat) : Rod := (ρ.p (Fl.MB_CTRL_READY b) 0).modFr fun f => { f with last := Sparse.put f.last b (ρ.mbData b) }

/-- A ready buffer is sent with its data, and is no longer ready (R161). -/
theorem Rod.mbCopy_ready (ρ : Rod) (b : Nat) (w : Word) (cycle : Nat) (h : ρ.b (Fl.MB_CTRL_READY b) = true) :
    let q := ρ.mbCopy b w cycle
    q.b (Fl.MB_CTRL_READY b) = false ∧ ∀ c, mbUses w c = true → ρ.chanOn c = true → q.b (Fl.MB_STAT_NEW b) = true ∧
      (ρ.frDrives = true →
        Out.frame c (ρ.ftxen true) (mbSlot w) (ρ.mbHead b cycle) ((wordBytes (ρ.mbData b)).take (2 * mbPl w)) ∈ q.out) := by
  have e : ρ.mbCopy b w cycle = (ρ.mbRead b).mbSend b w cycle false (ρ.mbData b) := if_pos h
  have hctrl : Rg.MB_CTRL b ≠ Rg.MB_STAT b := by
    unfold Rg.MB_CTRL Rg.MB_STAT
    omega
  have honly : ρ.only (ρ.mbRead b) [Rg.MB_CTRL b] _ := Rod.only_modFr _ (Rod.only_p (Fl.MB_CTRL_READY b) 0 (.head _) (Rod.only_refl ρ _))
  have hlow (a : Nat) (ha : a / 0x1000 ≤ 0x30) : a ≠ Rg.MB_CTRL b := by
    rintro rfl
    exact absurd (mbReg_above b 0x10 (by decide)) (Nat.not_lt.2 ha)
  have hgw (a : Nat) (ha : a / 0x1000 ≤ 0x30) : (ρ.mbRead b).gw a = ρ.gw a := Rod.gw_p_ne ρ (Fl.MB_CTRL_READY b) a 0 (hlow a ha)
  obtain ⟨hdrives, htxen, hchan⟩ := Rod.only_drives honly (fun k => hlow _ (by decide) (List.mem_singleton.1 k))
    (fun k => hlow _ (by decide) (List.mem_singleton.1 k))
  have hhead : (ρ.mbRead b).mbHead b cycle = ρ.mbHead b cycle := by
    unfold Rod.mbHead
    rw [Rod.b_congr ρ (ρ.mbRead b) Fl.FR_MODE_SYNC (hgw _ (by decide)), Rod.b_congr ρ (ρ.mbRead b) Fl.FR_MODE_COLDSTART (hgw _ (by decide))]
    rfl
  dsimp only
  rw [e, Rod.b_congr _ _ (Fl.MB_CTRL_READY b) (Rod.gw_mbSend (ρ.mbRead b) b w cycle false _ _ hctrl (mbReg_ne_irq b 0x10 _ (by decide)))]
  refine ⟨Rod.b_p ρ (Fl.MB_CTRL_READY b) false (show 0 + 1 ≤ 32 by decide) rfl, fun c hu hc => ?_⟩
  rw [← hchan] at hc
  obtain ⟨hnew, hsent⟩ := Rod.mbSend_sends (ρ.mbRead b) b w cycle (ρ.mbData b) c hu hc
  rw [hdrives, htxen, hhead] at hsent
  exact ⟨hnew, hsent⟩

/-! ### The cycle -/

section
variable {ρ : Rod} {cycle : Nat} (hr : ρ.frRuns = true)
include hr

theorem Rod.cycleStart_view : (ρ.cycleStart cycle).flush.cycleView = (ρ.cycleBegun cycle).cycleView := by
  have hflush (q : Rod) : q.flush.cycleView = q.cycleView := by
    unfold Rod.cycleView
    rw [Rod.flush_gw _ _ (by decide), Rod.flush_gw _ _ (by decide), Rod.flush_fr]
  rw [hflush, Rod.cycleStart_eq ρ cycle hr]
  exact (Rod.frSymbols_leaves _).2.1.trans (Rod.each_keeps Rod.cycleView _ (fun e q => Rod.cycleView_mbTransmit q _ _ _) _ _)

/-- A cycle shows its number and how the one before went, and takes the configuration of the buffers into force (R149, R152). -/
theorem Rod.cycleStart_shows :
    let τ := (ρ.cycleStart cycle).flush
    τ.g Fl.FR_CNT_CYCLE = cycle % 64 ∧ τ.g Fl.FR_CNT_MT = 0 ∧ τ.poc = ρ.poc ∧ τ.b Fl.FR_STAT_CH_A_OK = ρ.fr.seenA ∧
    τ.b Fl.FR_STAT_CH_B_OK = ρ.fr.seenB ∧ ∀ b, b < 128 → τ.mbWork b = ρ.gw (Rg.MB_CFG b) := by
  have hview := Rod.cycleStart_view (cycle := cycle) hr
  obtain ⟨hcyc, hmt, hpoc, hA, hB⟩ := Rod.cycleBegun_fields ρ cycle
  obtain ⟨hcfg, -, -⟩ := Rod.cycleBegun_fr ρ cycle
  simp only [Rod.cycleView, Prod.mk.injEq] at hview
  obtain ⟨hcnt, hstat, hfr⟩ := hview
  refine ⟨(Rod.g_of_gw _ _ _ hcnt).trans hcyc, (Rod.g_of_gw _ _ _ hcnt).trans hmt, (Rod.g_of_gw _ _ _ hstat).trans hpoc,
    (Rod.b_congr _ _ _ hstat).trans hA, (Rod.b_congr _ _ _ hstat).trans hB, fun b hb => ?_⟩
  unfold Rod.mbWork
  rw [hfr, hcfg]
  exact Sparse.get_foldl_set_range _ _ _ _ hb

/-- A controller that takes no part in sending shows the cycle alone. -/
theorem Rod.cycleStart_silent (h : ρ.poc ≠ Poc.active) (hs : ρ.poc = Poc.passive ∨ ρ.sendsStartup cycle = false) :
    let τ := (ρ.cycleStart cycle).flush
    ρ.only τ [Rg.FR_CNT, Rg.FR_STAT] { ρ with fr := τ.fr } := by
  obtain ⟨-, -, hpoc, -⟩ := Rod.cycleBegun_fields ρ cycle
  have hnone := Rod.txDue_none (ρ.cycleBegun cycle) cycle (by rwa [hpoc]) (by rwa [hpoc, Rod.cycleBegun_startup])
  have honly := Rod.only_frSymbols (Rod.only_cycleBegun ρ cycle)
  dsimp only
  rw [Rod.cycleStart_eq ρ cycle hr]
  dsimp only
  rw [hnone]
  exact Rod.only_ownFr (σ := ρ) (Rod.only_flush honly)

/-- A ready buffer alone in its cycle is sent on those of its channels that are in use (R161). -/
theorem Rod.cycleStart_sends (b : Nat) (hb : b < 128)
    (hgo : ρ.poc = Poc.active ∨ (ρ.poc = Poc.startup ∧ ρ.sendsStartup cycle = true ∧ b = 0))
    (hw : mbEn (ρ.gw (Rg.MB_CFG b)) = true ∧ mbTx (ρ.gw (Rg.MB_CFG b)) = true ∧ mbDue (ρ.gw (Rg.MB_CFG b)) cycle = true)
    (hready : ρ.b (Fl.MB_CTRL_READY b) = true)
    (hno : ∀ a, a < 128 → a ≠ b → ¬(mbEn (ρ.gw (Rg.MB_CFG a)) = true ∧ mbTx (ρ.gw (Rg.MB_CFG a)) = true ∧
      mbDue (ρ.gw (Rg.MB_CFG a)) cycle = true)) :
    let w := ρ.gw (Rg.MB_CFG b)
    let τ := (ρ.cycleStart cycle).flush
    τ.b (Fl.MB_CTRL_READY b) = false ∧ ∀ c, mbUses w c = true → ρ.chanOn c = true → τ.b (Fl.MB_STAT_NEW b) = true ∧
      (ρ.frDrives = true → Out.frame c (ρ.ftxen true) (mbSlot w) (ρ.mbHead b (cycle % 64)) ((wordBytes (ρ.mbData b)).take (2 * mbPl w)) ∈
        τ.out) := by
  have hmb (a o : Nat) (ho : o < 0x1C0) := Rod.cycleBegun_mb ρ cycle a o ho
  have hcfgs (a : Nat) : (ρ.cycleBegun cycle).gw (Rg.MB_CFG a) = ρ.gw (Rg.MB_CFG a) := hmb a 0x0 (by decide)
  have hconf : (ρ.cycleBegun cycle).mbConfig = ρ.mbConfig := by
    unfold Rod.mbConfig
    simp only [hcfgs]
  obtain ⟨-, -, hpoc, -⟩ := Rod.cycleBegun_fields ρ cycle
  obtain ⟨hcfg, -, -⟩ := Rod.cycleBegun_fr ρ cycle
  have hdue := Rod.txDue_alone (ρ.cycleBegun cycle) cycle b hb (hcfg.trans hconf.symm) (by rwa [hpoc, Rod.cycleBegun_startup])
    (by rwa [hcfgs]) (by simpa only [hcfgs] using hno)
  have hcopy (q : Rod) (w : Word) (n : Nat) : q.mbTransmit [(b, w)] (b, w) n = q.mbCopy b w n := by
    simp [Rod.mbTransmit]
  have hdata : (ρ.cycleBegun cycle).mbData b = ρ.mbData b := by
    refine List.map_congr_left fun i hi => ?_
    have hi := List.mem_range.1 hi
    rw [MB_DATA_place]
    exact hmb b _ (by omega)
  have hhead : (ρ.cycleBegun cycle).mbHead b (cycle % 64) = ρ.mbHead b (cycle % 64) := by
    unfold Rod.mbHead
    rw [Rod.b_congr ρ _ Fl.FR_MODE_SYNC (Rod.cycleBegun_gw ρ cycle _ (by decide)),
      Rod.b_congr ρ _ Fl.FR_MODE_COLDSTART (Rod.cycleBegun_gw ρ cycle _ (by decide)),
      ((Rod.agrees_iff _ _).1 (Rod.only_cycleBegun ρ cycle).2).1]
  have hready' : (ρ.cycleBegun cycle).b (Fl.MB_CTRL_READY b) = true := by
    rw [Rod.b_congr ρ _ (Fl.MB_CTRL_READY b) (hmb b 0x10 (by decide)), hready]
  obtain ⟨hdrives, htxen, hchan⟩ := Rod.only_drives (Rod.only_cycleBegun ρ cycle) (by decide) (by decide)
  obtain ⟨hsent, hout⟩ := Rod.mbCopy_ready (ρ.cycleBegun cycle) b (ρ.gw (Rg.MB_CFG b)) (cycle % 64) hready'
  rw [hdrives, htxen, hhead, hdata] at hout
  simp only [hchan] at hout
  dsimp only
  rw [Rod.cycleStart_eq ρ cycle hr]
  dsimp only
  rw [hdue, hcfgs]
  unfold Rod.each
  rw [List.foldl_cons, List.foldl_nil]
  dsimp only
  rw [hcopy]
  generalize (ρ.cycleBegun cycle).mbCopy b (ρ.gw (Rg.MB_CFG b)) (cycle % 64) = q at *
  obtain ⟨hgw, -, hmore⟩ := Rod.frSymbols_leaves q
  have hreg (f : Fld) (o : Nat) (ho : o < 0x1C0) (hf : f.addr = (0x31 + b / 9) * 0x1000 + (0x40 + 0x1C0 * (b % 9) + o)) :
      q.frSymbols.flush.b f = q.b f := by
    rw [Rod.flush_b _ _ (by rw [hf]; exact mbReg_not_log b o hb ho)]
    exact Rod.b_congr _ _ _ (hgw _)
  rw [hreg (Fl.MB_CTRL_READY b) 0x10 (by decide) rfl]
  refine ⟨hsent, fun c hu hc => ?_⟩
  obtain ⟨hnew, hframe⟩ := hout c hu hc
  obtain ⟨l, hl, -⟩ := Rod.flush_out q.frSymbols
  rw [hreg (Fl.MB_STAT_NEW b) 0x4 (by decide) rfl, hl]
  exact ⟨hnew, fun hd => List.mem_append_left _ (hmore _ (hframe hd))⟩

end

end Sys2Proof.Machine
end

section
/-! Loss of a channel or of the cluster, and its return (R149, R178, R179): what the review of the contracts leaves of the controller. -/

namespace Sys2Proof.Machine

/-! ### What the review of the contracts leaves -/

/-- FR_STAT and the events of the controller's page. -/
def frStatRegs (a : Nat) : Bool := a == Rg.FR_STAT || a == Rg.IRQ_RAW 0x030

theorem frStatRegs_off {a : Nat} (h : a / 0x1000 ≠ 0x30) : frStatRegs a = false := by
  have hne (b : Nat) (hb : b / 0x1000 = 0x30) : a ≠ b := fun e => h (e ▸ hb)
  simp [frStatRegs, hne Rg.FR_STAT (by decide), hne (Rg.IRQ_RAW 0x030) (by decide)]

/-- `q` comes of `ρ` by changes beside the controller: its state and its events, and all that was sent and detected, are kept. -/
structure Rod.besideFr (ρ q : Rod) : Prop where
  carries : ρ.carries id frStatRegs q
  fr : q.fr = ρ.fr

section
variable {ρ q q' : Rod}

theorem Rod.besideFr_refl (ρ : Rod) : ρ.besideFr ρ := ⟨Rod.carries_refl _ _ _, rfl⟩

theorem Rod.besideFr_pw (a : Nat) (v : Word) (ha : a / 0x1000 ≠ 0x30) (h : ρ.besideFr q) : ρ.besideFr (q.pw a v) :=
  ⟨Rod.carries_pw a v (frStatRegs_off ha) h.carries, h.fr⟩

theorem Rod.besideFr_p (f : Fld) (v : Nat) (hf : f.addr / 0x1000 ≠ 0x30) (h : ρ.besideFr q) : ρ.besideFr (q.p f v) :=
  Rod.besideFr_pw f.addr _ hf h

theorem Rod.besideFr_irq (p i : Nat) (h : ρ.besideFr q) : ρ.besideFr (q.irq p i) :=
  ⟨Rod.carries_irq p i h.carries, (Rod.agrees_fr (Rod.agrees_irqMask q p _)).trans h.fr⟩

theorem Rod.besideFr_flt (c sv pg : Nat) (d : List (Nat × Nat × Nat)) (h : ρ.besideFr q) : ρ.besideFr (q.flt c sv pg d) :=
  ⟨Rod.carries_fltAP h.carries, h.fr⟩

theorem Rod.besideFr_putEntry (i : Nat) (e : LedgerEntry) (h : ρ.besideFr q) : ρ.besideFr (q.putEntry i e) :=
  ⟨Rod.carries_same h.carries, h.fr⟩

theorem Rod.besideFr_putQp (i : Nat) (k : Qp) (h : ρ.besideFr q) : ρ.besideFr (q.putQp i k) :=
  ⟨Rod.carries_same h.carries, h.fr⟩

theorem Rod.besideFr_hostWr (n : Nat) (a : Nat) (bs : List Byte) (h : ρ.besideFr q) : ρ.besideFr (Rod.hostWr n q a bs) := by
  induction n generalizing q a bs with
  | zero => exact h
  | succ n ih =>
    unfold Rod.hostWr
    split
    · exact h
    · exact ih _ _ ⟨Rod.carries_send _ h.carries, h.fr⟩

/-- A completion writes CQ_TAIL of its queue, on none of the controller's pages (R197). -/
theorem Rod.besideFr_postRaw (i : Nat) (c : Cpl) (hi : i < 16) (h : ρ.besideFr q) : ρ.besideFr (q.postRaw i c) := by
  have hpage : (Fl.CQ_TAIL_TAIL i).addr / 0x1000 ≠ 0x30 := by
    simp only [Fld.addr, Fl.CQ_TAIL_TAIL]
    omega
  refine Rod.when_invariant ρ.besideFr _ _ (fun p => Rod.besideFr_irq _ _) _ ?_
  have hput (a : Nat) (bs : List Byte) (v : Nat) : ρ.besideFr ((q.toHost a bs).p (Fl.CQ_TAIL_TAIL i) v) :=
    Rod.besideFr_p (Fl.CQ_TAIL_TAIL i) v hpage (Rod.besideFr_hostWr _ a bs h)
  exact iteInduction (fun _ => Rod.besideFr_putQp _ _ (hput _ _ _)) fun _ => hput _ _ _

theorem Rod.besideFr_postEvt (i kind handle result : Nat) (h : ρ.besideFr q) : ρ.besideFr (q.postEvt i kind handle result) := by
  unfold Rod.postEvt
  split
  · next hon =>
    have hi : i < 16 := by
      unfold Rod.qpOn at hon
      simp only [Bool.and_eq_true, decide_eq_true_eq] at hon
      exact hon.1
    have hpage : (Fl.QP_STAT_CQ_OVF i).addr / 0x1000 ≠ 0x30 := by
      simp only [Fld.addr, Fl.QP_STAT_CQ_OVF]
      omega
    split
    · exact Rod.besideFr_postRaw i _ hi h
    · exact Rod.besideFr_flt _ _ _ _ (Rod.besideFr_irq _ _ (Rod.besideFr_p _ 1 hpage h))
  · exact h

theorem Rod.besideFr_ctEvent (kind reason handle result : Nat) (h : ρ.besideFr q) : ρ.besideFr (q.ctEvent kind reason handle result) := by
  refine Rod.besideFr_p Fl.CT_EVT_IDX_NEXT _ (by decide) (Rod.besideFr_pw _ _ ?_ (Rod.besideFr_pw _ _ ?_ h))
  · unfold Rg.CT_EVT_FT
    omega
  · unfold Rg.CT_EVT
    omega

theorem Rod.besideFr_showCt (h : ρ.besideFr q) : ρ.besideFr q.showCt := by
  have hshown := Rod.besideFr_p Fl.CT_STAT_NOTICE (b2n (!q.ct.notices.isEmpty)) (by decide) (Rod.besideFr_p Fl.CT_STAT_LOAD (min 63 q.load)
    (by decide) (Rod.besideFr_p Fl.CT_STAT_USED q.ct.ledger.length (by decide) h))
  exact iteInduction (fun _ => Rod.besideFr_p Fl.CLASS_BOUND_3_B _ (by decide) (Rod.besideFr_p Fl.CLASS_BOUND_2_B _ (by decide)
    (Rod.besideFr_p Fl.CLASS_BOUND_1_B _ (by decide) hshown))) fun _ => hshown

/-- A broken contract is shown, logged and posted on the pages of the contracts and of its queue (R252). -/
theorem Rod.besideFr_breakEntry (ps : RodId → Rod) (i reason : Nat) (h : ρ.besideFr q) : ρ.besideFr (q.breakEntry ps i reason) := by
  unfold Rod.breakEntry
  split
  · exact h
  · next e _ =>
    have hnoted := Rod.besideFr_flt 0x0711 sevDegrade 0x050 [(0, 2, e.handle.toNat), (2, 1, reason), (8, 8, q.ft)] (Rod.besideFr_irq 0x050 2
      (Rod.besideFr_ctEvent 3 reason e.handle.toNat q.ft (Rod.besideFr_putEntry i { e with state := leBroken, reason := reason } h)))
    refine Rod.besideFr_showCt ?_
    exact iteInduction (fun _ => Rod.besideFr_postEvt _ _ _ _ hnoted) fun _ => hnoted

theorem Rod.besideFr_ctReview (ps : RodId → Rod) (h : ρ.besideFr q) : ρ.besideFr (q.ctReview ps) := by
  refine Rod.each_invariant ρ.besideFr _ (fun e p hp => ?_) _ _ h
  refine iteInduction (motive := ρ.besideFr) (fun _ => ?_) fun _ => hp
  split
  · exact Rod.besideFr_breakEntry ps _ _ hp
  · exact hp

end

/-! ### Losses -/

/-- What the review leaves of the controller, once the records are written. -/
theorem Rod.ctReview_flush (ρ : Rod) (ps : RodId → Rod) :
    let τ := (ρ.ctReview ps).flush
    τ.gw Rg.FR_STAT = ρ.gw Rg.FR_STAT ∧ τ.fr = ρ.fr ∧ (∀ i, ρ.raised 0x030 i → τ.raised 0x030 i) ∧
    ∀ {c sv pg : Nat}, ρ.noted c sv pg → τ.recorded c sv pg := by
  obtain ⟨hcarry, hfr⟩ := Rod.besideFr_ctReview ps (Rod.besideFr_refl ρ)
  have hflush := Rod.carries_flush rfl hcarry
  exact ⟨hflush.gw _ rfl (by decide), (Rod.flush_fr _).trans hfr, fun i => hflush.raised 0x030 i rfl,
    fun hn => hcarry.recorded hn rfl⟩

/-- The silence of a channel in the fields of the controller. -/
def Rod.silent (ρ : Rod) (c : Chan) : Bool := if c = .a then ρ.fr.silA else ρ.fr.silB

theorem Rod.channelSilent_notes (ρ : Rod) (c : Chan) (hc : ρ.chanOn c = true) (hp : ρ.poc = Poc.active ∨ ρ.poc = Poc.passive)
    (hq : ρ.g Fl.FR_LOSS_LOSS_CYC ≤ (if c = .a then ρ.fr.quietA else ρ.fr.quietB)) (hs : ρ.silent c = false) :
    (ρ.channelSilent c).silent c = true ∧ (ρ.channelSilent c).noted 0x0612 sevWarn 0x030 := by
  have e : ρ.channelSilent c = (ρ.modFr fun f => if c = .a then { f with silA := true } else { f with silB := true }).flt 0x0612 sevWarn
      0x030 [(0, 1, if c = .a then 0 else 1)] := by
    refine if_pos ?_
    have hs' : (if c = .a then ρ.fr.silA else ρ.fr.silB) = false := hs
    have hp' : (ρ.poc == Poc.active || ρ.poc == Poc.passive) = true := by simpa using hp
    rw [hc, hs', hp', decide_eq_true hq]
    rfl
  rw [e]
  exact ⟨by cases c <;> rfl, Rod.noted_fltAP _ _ _ _ _ _ _⟩

theorem Rod.clusterLost_shows (ρ : Rod) (cause : Nat) (hl : ρ.b Fl.FR_STAT_LOST = false)
    (h : (cause = 1 ∧ ρ.poc ≠ Poc.active) ∨ (cause = 2 ∧ ρ.poc = Poc.active ∧ ρ.g Fl.FR_LOSS_LOSS_CYC ≤ ρ.fr.quietA ∧
      ρ.g Fl.FR_LOSS_LOSS_CYC ≤ ρ.fr.quietB)) :
    let q := ρ.clusterLost cause
    q.b Fl.FR_STAT_LOST = true ∧ q.poc = ρ.poc ∧ q.raised 0x030 1 ∧ q.noted 0x0610 sevDegrade 0x030 := by
  have e : ρ.clusterLost cause = (((ρ.p Fl.FR_STAT_LOST 1).irq 0x030 1).modFr fun f => { f with lostFt := ρ.ft, good := 0 }).flt 0x0610
      sevDegrade 0x030 [(0, 1, cause)] := by
    refine if_pos ?_
    rcases h with ⟨rfl, hp⟩ | ⟨rfl, hp, hA, hB⟩
    · simp [hl, hp]
    · simp [hl, hp, hA, hB]
  dsimp only
  rw [e]
  refine ⟨?_, ?_, Rod.irq_sets (ρ.p Fl.FR_STAT_LOST 1) 0x030 1 (by decide), Rod.noted_fltAP _ _ _ _ _ _ _⟩
  · exact (Rod.b_irq_ne (ρ.p Fl.FR_STAT_LOST 1) 0x030 1 _ (by decide)).trans (Rod.b_p ρ Fl.FR_STAT_LOST true (by decide) rfl)
  · exact (Rod.g_irq_ne (ρ.p Fl.FR_STAT_LOST 1) 0x030 1 _ (by decide)).trans (Rod.poc_p_ne ρ _ _ (by decide) (.inr (by decide)))

/-- The cluster is back, with event 2 and its record (R179). -/
theorem Rod.clusterBack_flush (ρ : Rod) (hl : ρ.b Fl.FR_STAT_LOST = true) (hp : ρ.poc = Poc.active)
    (hg : ρ.g Fl.FR_LOSS_LOSS_CYC ≤ ρ.fr.good) :
    let τ := ρ.clusterBack.flush
    τ.b Fl.FR_STAT_LOST = false ∧ τ.poc = Poc.active ∧ τ.raised 0x030 2 ∧ τ.recorded 0x0611 sevInfo 0x030 ∧
    ρ.only τ [Rg.FR_STAT, Rg.IRQ_RAW 0x030] ρ := by
  have e : ρ.clusterBack = ((ρ.p Fl.FR_STAT_LOST 0).irq 0x030 2).fltAP 0x0611 sevInfo 0x030 0xFF 0xFF
      [(4, 4, (ρ.ft - ρ.fr.lostFt) / 1000000)] := if_pos (by simp [hl, hp, hg])
  have honly : ρ.only ((ρ.p Fl.FR_STAT_LOST 0).irq 0x030 2) [Rg.FR_STAT, Rg.IRQ_RAW 0x030] ρ :=
    Rod.only_irq 0x030 2 (.tail _ (.head _)) (Rod.only_p Fl.FR_STAT_LOST 0 (.head _) (Rod.only_refl _ _))
  dsimp only
  rw [e, Rod.poc_flush, Rod.flush_b _ _ (by decide), ← hp]
  refine ⟨?_, ?_, Rod.raised_flush _ _ _ (Rod.irq_sets (ρ.p Fl.FR_STAT_LOST 0) 0x030 2 (by decide)), Rod.recorded_fltAP _ _ _ _ _ _ _,
    Rod.only_flush (Rod.only_fltAP honly)⟩
  · exact (Rod.b_irq_ne (ρ.p Fl.FR_STAT_LOST 0) 0x030 2 _ (by decide)).trans (Rod.b_p ρ Fl.FR_STAT_LOST false (by decide) rfl)
  · exact (Rod.g_irq_ne (ρ.p Fl.FR_STAT_LOST 0) 0x030 2 _ (by decide)).trans (Rod.poc_p_ne ρ _ _ (by decide) (.inr (by decide)))

end Sys2Proof.Machine
end

section
/-! The clock correction (R169, R172, R173), and the settling theorem of the frames and the clock. -/

namespace Sys2Proof.Machine

/-- The corrections and the counts of a double cycle, as the controller shows them (R172). -/
def Rod.corrShown (ρ : Rod) (r o : Int) (rBad oBad : Bool) (n : Nat) : Rod :=
  ((((ρ.p Fl.FR_CORR_RATE (natOfInt 16 r)).p Fl.FR_CORR_OFFSET (natOfInt 16 o)).p Fl.FR_SYNC_RATE_LIM (b2n rBad)).p
    Fl.FR_SYNC_OFFS_LIM (b2n oBad)).p Fl.FR_SYNC_SYNC_N n

theorem clampI_within (l : Nat) (x : Int) (h : x.natAbs ≤ l) : clampI (-l) l x = x := by
  unfold clampI
  rw [if_neg (by omega), if_neg (by omega)]

/-- A correction within its limits is applied as it is (R172). -/
theorem Rod.clockCorrection_good (ρ : Rod) (rate offset : Int) (pairs nodes : Nat) (hr : ρ.frRuns = true)
    (h : rate.natAbs ≤ ρ.g Fl.FR_CSYNC_0_RATE_OUT ∧ offset.natAbs ≤ ρ.g Fl.FR_CSYNC_0_OFFS_OUT ∧ 2 ≤ pairs) :
    ρ.clockCorrection rate offset pairs nodes =
      (ρ.corrShown rate offset false false (min nodes (ρ.g Fl.FR_CSYNC_1_SYNC_MAX))).corrGood := by
  obtain ⟨hrate, hoff, hpairs⟩ := h
  have hr1 : decide ((ρ.g Fl.FR_CSYNC_0_RATE_OUT : Int) < rate.natAbs) = false := decide_eq_false (by omega)
  have ho1 : decide ((ρ.g Fl.FR_CSYNC_0_OFFS_OUT : Int) < offset.natAbs) = false := decide_eq_false (by omega)
  unfold Rod.clockCorrection
  rw [if_pos hr]
  dsimp only
  rw [hr1, ho1, clampI_within _ _ hrate, clampI_within _ _ hoff, if_neg (by decide), if_neg (by decide), if_neg (by omega)]
  rfl

/-- A correction past a limit, or without two pairs, has failed (R172, R173). -/
theorem Rod.clockCorrection_bad (ρ : Rod) (rate offset : Int) (pairs nodes : Nat) (hr : ρ.frRuns = true)
    (h : ¬(rate.natAbs ≤ ρ.g Fl.FR_CSYNC_0_RATE_OUT ∧ offset.natAbs ≤ ρ.g Fl.FR_CSYNC_0_OFFS_OUT ∧ 2 ≤ pairs)) :
    ∃ r o rBad oBad n cause last, ρ.clockCorrection rate offset pairs nodes = (ρ.corrShown r o rBad oBad n).corrFail cause last := by
  unfold Rod.clockCorrection
  rw [if_pos hr]
  dsimp only
  split
  · exact ⟨_, _, _, _, _, _, _, rfl⟩
  · next hrate =>
    split
    · exact ⟨_, _, _, _, _, _, _, rfl⟩
    · next hoff =>
      simp only [decide_eq_true_eq] at hrate hoff
      rw [if_pos (by omega)]
      exact ⟨_, _, _, _, _, _, _, rfl⟩

theorem Rod.corrShown_fields (ρ : Rod) (r o : Int) (rBad oBad : Bool) (n : Nat) :
    let q := ρ.corrShown r o rBad oBad n
    q.g Fl.FR_CORR_RATE = natOfInt 16 r % 65536 ∧ q.g Fl.FR_CORR_OFFSET = natOfInt 16 o % 65536 ∧
    q.g Fl.FR_SYNC_NOCORR = ρ.g Fl.FR_SYNC_NOCORR := by
  refine ⟨?_, ?_, ?_⟩
  all_goals
    simp [Rod.corrShown, Rod.g_p, Rod.g_p_ne, Fld.addr, Fl.FR_CORR_RATE, Fl.FR_CORR_OFFSET, Fl.FR_SYNC_RATE_LIM, Fl.FR_SYNC_OFFS_LIM,
      Fl.FR_SYNC_SYNC_N, Fl.FR_SYNC_NOCORR]

/-- The registers that a clock correction writes. -/
def corrRegs : List Nat := [Rg.FR_SYNC, Rg.FR_CORR, Rg.FR_STAT, Rg.IRQ_RAW 0x030]

theorem Rod.only_corrShown (ρ : Rod) (r o : Int) (rBad oBad : Bool) (n : Nat) : ρ.only (ρ.corrShown r o rBad oBad n) corrRegs ρ := by
  refine Rod.only_p Fl.FR_SYNC_SYNC_N _ (by decide) (Rod.only_p Fl.FR_SYNC_OFFS_LIM _ (by decide) ?_)
  refine Rod.only_p Fl.FR_SYNC_RATE_LIM _ (by decide) (Rod.only_p Fl.FR_CORR_OFFSET _ (by decide) ?_)
  exact Rod.only_p Fl.FR_CORR_RATE _ (by decide) (Rod.only_refl _ _)

theorem Rod.corrShown_gw (ρ : Rod) (r o : Int) (rBad oBad : Bool) (n a : Nat) (h : a ≠ Rg.FR_CORR ∧ a ≠ Rg.FR_SYNC) :
    (ρ.corrShown r o rBad oBad n).gw a = ρ.gw a := by
  obtain ⟨hc, hs⟩ := h
  unfold Rod.corrShown
  rw [Rod.gw_p_ne _ Fl.FR_SYNC_SYNC_N _ _ hs, Rod.gw_p_ne _ Fl.FR_SYNC_OFFS_LIM _ _ hs, Rod.gw_p_ne _ Fl.FR_SYNC_RATE_LIM _ _ hs,
    Rod.gw_p_ne _ Fl.FR_CORR_OFFSET _ _ hc, Rod.gw_p_ne _ Fl.FR_CORR_RATE _ _ hc]

theorem Rod.corrShown_poc (ρ : Rod) (r o : Int) (rBad oBad : Bool) (n : Nat) : (ρ.corrShown r o rBad oBad n).poc = ρ.poc :=
  Rod.g_of_gw _ _ Fl.FR_STAT_POC (Rod.corrShown_gw ρ r o rBad oBad n _ (by decide))

theorem Rod.corrShown_fr (ρ : Rod) (r o : Int) (rBad oBad : Bool) (n : Nat) : (ρ.corrShown r o rBad oBad n).fr = ρ.fr := by
  simp only [Rod.corrShown, Rod.p_fr]

/-! ### A correction that succeeds -/

/-- NOCORR is cleared. -/
def Rod.corrCleared (ρ : Rod) : Rod := ρ.p Fl.FR_SYNC_NOCORR 0

theorem Rod.corrCleared_poc (ρ : Rod) : ρ.corrCleared.poc = ρ.poc := Rod.poc_p_ne _ _ _ (by decide) (by decide)

/-- Startup ends (R169). -/
theorem Rod.corrGood_startup (ρ : Rod) (h : ρ.poc = Poc.startup) : ρ.corrGood =
    ((ρ.corrCleared.p Fl.FR_STAT_LEADER (b2n ρ.fr.trying)).modFr fun f => { f with trying := false, join := none }).setPoc Poc.active :=
  if_pos (ρ.corrCleared_poc.trans h)

/-- Normal passive ends after P2A corrections in a row (R173). -/
theorem Rod.corrGood_passive (ρ : Rod) (h : ρ.poc = Poc.passive) : ρ.corrGood =
    if ρ.g Fl.FR_CSYNC_1_P2A ≤ ρ.fr.p2a + 1 then
      ((ρ.corrCleared.modFr fun f => { f with p2a := ρ.fr.p2a + 1 }).modFr fun f => { f with p2a := 0 }).setPoc Poc.active
    else ρ.corrCleared.modFr fun f => { f with p2a := ρ.fr.p2a + 1 } := by
  have hp := ρ.corrCleared_poc.trans h
  have hg : ρ.corrCleared.g Fl.FR_CSYNC_1_P2A = ρ.g Fl.FR_CSYNC_1_P2A := Rod.g_p_addr _ _ _ _ (by decide)
  rw [← hg]
  exact (if_neg (by rw [show (ρ.p Fl.FR_SYNC_NOCORR 0).poc = _ from hp]; decide)).trans (if_pos hp)

theorem Rod.corrGood_active (ρ : Rod) (h : ρ.poc ≠ Poc.startup) (h' : ρ.poc ≠ Poc.passive) : ρ.corrGood = ρ.corrCleared :=
  (if_neg fun k => h (ρ.corrCleared_poc.symm.trans k)).trans (if_neg fun k => h' (ρ.corrCleared_poc.symm.trans k))

/-- What a successful correction leaves, whichever state it finds. -/
theorem Rod.corrGood_cases (I : Rod → Prop) (ρ : Rod) (hclear : I ρ.corrCleared) (hp : ∀ q v, I q → I (q.p Fl.FR_STAT_LEADER v))
    (hf : ∀ q f, I q → I (q.modFr f)) (hs : ∀ q, I q → I (q.setPoc Poc.active)) : I ρ.corrGood := by
  by_cases h : ρ.poc = Poc.startup
  · rw [Rod.corrGood_startup ρ h]
    exact hs _ (hf _ _ (hp _ _ hclear))
  · by_cases h' : ρ.poc = Poc.passive
    · rw [Rod.corrGood_passive ρ h']
      exact iteInduction (fun _ => hs _ (hf _ _ (hf _ _ hclear))) fun _ => hf _ _ hclear
    · rwa [Rod.corrGood_active ρ h h']

theorem Rod.corrGood_spec (ρ : Rod) :
    ρ.corrGood.g Fl.FR_SYNC_NOCORR = 0 ∧ ρ.corrGood.gw Rg.FR_CORR = ρ.gw Rg.FR_CORR ∧
    (ρ.poc = Poc.startup → ρ.corrGood.poc = Poc.active ∧ ρ.corrGood.b Fl.FR_STAT_LEADER = ρ.fr.trying) ∧
    (ρ.poc = Poc.active → ρ.corrGood.poc = Poc.active) ∧
    (ρ.poc = Poc.passive → ρ.corrGood.poc = if ρ.g Fl.FR_CSYNC_1_P2A ≤ ρ.fr.p2a + 1 then Poc.active else Poc.passive) := by
  refine ⟨?_, ?_, fun h => ?_, fun h => ?_, fun h => ?_⟩
  · refine Rod.corrGood_cases (·.g Fl.FR_SYNC_NOCORR = 0) ρ (Rod.g_p ρ Fl.FR_SYNC_NOCORR 0 (by decide)) ?_ (fun q f hq => hq) ?_
    · exact fun q v hq => (Rod.g_p_addr q Fl.FR_STAT_LEADER _ v (by decide)).trans hq
    · exact fun q hq => (Rod.g_setPoc_ne q Poc.active _ (by decide) (by decide)).trans hq
  · refine Rod.corrGood_cases (·.gw Rg.FR_CORR = ρ.gw Rg.FR_CORR) ρ (Rod.gw_p_ne ρ Fl.FR_SYNC_NOCORR _ 0 (by decide)) ?_ (fun q f hq => hq) ?_
    · exact fun q v hq => (Rod.gw_p_ne q Fl.FR_STAT_LEADER _ v (by decide)).trans hq
    · exact fun q hq => (Rod.gw_setPoc_ne q Poc.active _ (by decide) (by decide)).trans hq
  · rw [Rod.corrGood_startup ρ h]
    refine ⟨Rod.poc_setPoc _ Poc.active (by decide), ?_⟩
    rw [Rod.b_setPoc_ne _ _ _ (by decide) (by decide), Rod.b_modFr]
    exact Rod.b_p ρ.corrCleared Fl.FR_STAT_LEADER ρ.fr.trying (by decide) rfl
  · rw [Rod.corrGood_active ρ (by rw [h]; decide) (by rw [h]; decide), ρ.corrCleared_poc, h]
  · rw [Rod.corrGood_passive ρ h]
    split
    · exact Rod.poc_setPoc _ Poc.active (by decide)
    · rw [Rod.poc_modFr, ρ.corrCleared_poc, h]

theorem Rod.only_corrGood {ρ q σ : Rod} (h : ρ.only q corrRegs σ) : ρ.only q.corrGood corrRegs { σ with fr := q.corrGood.fr } := by
  have hclear : ρ.only q.corrCleared corrRegs σ := Rod.only_p Fl.FR_SYNC_NOCORR 0 (by decide) h
  have hany : ∃ f, ρ.only q.corrGood corrRegs { σ with fr := f } := by
    refine Rod.corrGood_cases (fun p => ∃ f, ρ.only p corrRegs { σ with fr := f }) q ?_ ?_ ?_ ?_
    · exact ⟨_, Rod.only_ownFr (σ := σ) (f := σ.fr) hclear⟩
    · exact fun p v ⟨f, hf⟩ => ⟨f, Rod.only_p Fl.FR_STAT_LEADER v (by decide) hf⟩
    · exact fun p g ⟨f, hf⟩ => ⟨g f, Rod.only_modFr g hf⟩
    · exact fun p ⟨f, hf⟩ => ⟨f, Rod.only_setPoc Poc.active (by decide) (by decide) hf⟩
  obtain ⟨f, hf⟩ := hany
  exact Rod.only_ownFr (σ := σ) hf

/-! ### A correction that fails -/

/-- A failed correction counted, with its event (R173). -/
def Rod.corrCounted (ρ : Rod) : Rod := ((ρ.inc Fl.FR_SYNC_NOCORR).irq 0x030 6).modFr fun f => { f with p2a := 0 }

theorem Rod.corrCounted_spec (ρ : Rod) :
    ρ.corrCounted.g Fl.FR_SYNC_NOCORR = min 15 (ρ.g Fl.FR_SYNC_NOCORR + 1) ∧ ρ.corrCounted.raised 0x030 6 ∧ ρ.corrCounted.fr.p2a = 0 ∧
    ρ.corrCounted.poc = ρ.poc ∧ ρ.corrCounted.gw Rg.FR_CSYNC_1 = ρ.gw Rg.FR_CSYNC_1 := by
  refine ⟨?_, Rod.irq_sets (ρ.inc Fl.FR_SYNC_NOCORR) 0x030 6 (by decide), rfl, ?_, ?_⟩
  · exact (Rod.g_irq_ne (ρ.inc Fl.FR_SYNC_NOCORR) 0x030 6 _ (by decide)).trans (Rod.g_inc ρ Fl.FR_SYNC_NOCORR (by decide))
  · exact (Rod.g_irq_ne (ρ.inc Fl.FR_SYNC_NOCORR) 0x030 6 _ (by decide)).trans (Rod.poc_p_ne ρ Fl.FR_SYNC_NOCORR _ (by decide) (by decide))
  · exact (Rod.gw_irq_ne (ρ.inc Fl.FR_SYNC_NOCORR) 0x030 _ 6 (by decide)).trans (Rod.gw_p_ne ρ Fl.FR_SYNC_NOCORR _ _ (by decide))

/-- Active falls to passive with its record (R173). -/
def Rod.corrPassive (ρ : Rod) (cause : Nat) (last : Int) : Rod :=
  (ρ.setPoc Poc.passive).flt 0x0602 sevDegrade 0x030 [(0, 1, cause), (4, 4, natOfInt 32 last)]

/-- A failed correction, where a halt of the clock is not asked for. -/
theorem Rod.corrFail_eq (ρ : Rod) (cause : Nat) (last : Int) (hh : ρ.b Fl.FR_CSYNC_1_HALT_CLK = false) : ρ.corrFail cause last =
    if ρ.poc = Poc.active ∧ ρ.g Fl.FR_CSYNC_1_PASSIVE ≤ min 15 (ρ.g Fl.FR_SYNC_NOCORR + 1) then ρ.corrCounted.corrPassive cause last
    else ρ.corrCounted := by
  obtain ⟨hno, -, -, hpoc, hcsync⟩ := ρ.corrCounted_spec
  have hpas : ρ.corrCounted.g Fl.FR_CSYNC_1_PASSIVE = ρ.g Fl.FR_CSYNC_1_PASSIVE := Rod.g_of_gw _ _ _ hcsync
  have hhalt : ρ.corrCounted.b Fl.FR_CSYNC_1_HALT_CLK = false := (Rod.b_congr _ _ _ hcsync).trans hh
  have hpassive : (ρ.corrCounted.corrPassive cause last).b Fl.FR_CSYNC_1_HALT_CLK = false :=
    (Rod.b_setPoc_ne _ _ _ (by decide) (by decide)).trans hhalt
  rw [← hno, ← hpas, ← hpoc]
  have e : ρ.corrFail cause last =
      let n := ρ.corrCounted.g Fl.FR_SYNC_NOCORR
      let q := if ρ.corrCounted.poc = Poc.active ∧ ρ.corrCounted.g Fl.FR_CSYNC_1_PASSIVE ≤ n then ρ.corrCounted.corrPassive cause last
        else ρ.corrCounted
      if q.b Fl.FR_CSYNC_1_HALT_CLK = true ∧ q.g Fl.FR_CSYNC_1_FATAL ≤ n ∧ (q.poc = Poc.active ∨ q.poc = Poc.passive) then
        (q.setPoc Poc.halt).flt 0x0603 sevDegrade 0x030 [(0, 1, 1)]
      else q := rfl
  rw [e]
  refine if_neg fun k => ?_
  have hq : (if ρ.corrCounted.poc = Poc.active ∧ ρ.corrCounted.g Fl.FR_CSYNC_1_PASSIVE ≤ ρ.corrCounted.g Fl.FR_SYNC_NOCORR then
      ρ.corrCounted.corrPassive cause last else ρ.corrCounted).b Fl.FR_CSYNC_1_HALT_CLK = false :=
    iteInduction (motive := fun q : Rod => q.b Fl.FR_CSYNC_1_HALT_CLK = false) (fun _ => hpassive) fun _ => hhalt
  exact absurd (hq.symm.trans k.1) (by decide)

theorem Rod.only_corrCounted {ρ q σ : Rod} (h : ρ.only q corrRegs σ) : ρ.only q.corrCounted corrRegs { σ with fr := q.corrCounted.fr } := by
  have hcounted := Rod.only_modFr (fun f => { f with p2a := 0 })
    (Rod.only_irq 0x030 6 (by decide) (Rod.only_inc Fl.FR_SYNC_NOCORR (by decide) h))
  exact Rod.only_ownFr (σ := σ) hcounted

/-- NOCORR counts a failed correction, and active falls to passive at its limit (R173). -/
theorem Rod.corrFail_flush {σ ρ : Rod} (cause : Nat) (last : Int) (hh : ρ.b Fl.FR_CSYNC_1_HALT_CLK = false) (h : σ.only ρ corrRegs σ) :
    let τ := (ρ.corrFail cause last).flush
    let n := min 15 (ρ.g Fl.FR_SYNC_NOCORR + 1)
    τ.g Fl.FR_SYNC_NOCORR = n ∧ τ.raised 0x030 6 ∧ τ.fr.p2a = 0 ∧
    (ρ.poc = Poc.active → ρ.g Fl.FR_CSYNC_1_PASSIVE ≤ n → τ.poc = Poc.passive ∧ τ.recorded 0x0602 sevDegrade 0x030) ∧
    (ρ.poc ≠ Poc.active ∨ n < ρ.g Fl.FR_CSYNC_1_PASSIVE → τ.poc = ρ.poc) ∧ σ.only τ corrRegs { σ with fr := τ.fr } := by
  obtain ⟨hno, hraised, hp2a, hpoc, -⟩ := ρ.corrCounted_spec
  have honly := Rod.only_corrCounted h
  dsimp only
  rw [Rod.corrFail_eq ρ cause last hh, Rod.flush_g _ _ (by decide), Rod.poc_flush, Rod.flush_fr]
  split
  · next hfall =>
    have hcarry : ρ.corrCounted.carries id (fun a => a == Rg.IRQ_RAW 0x030) (ρ.corrCounted.corrPassive cause last) :=
      Rod.carries_fltAP (Rod.setPoc_carries _ _)
    have hfr : (ρ.corrCounted.corrPassive cause last).fr = ρ.corrCounted.fr := Rod.setPoc_fr _ _
    rw [hfr]
    refine ⟨(Rod.g_setPoc_ne _ Poc.passive _ (by decide) (by decide)).trans hno, Rod.raised_flush _ _ _ (hcarry.raised _ _ rfl hraised), hp2a,
      fun _ _ => ⟨Rod.poc_setPoc _ Poc.passive (by decide), Rod.recorded_fltAP _ _ _ _ _ _ _⟩, fun k => ?_, ?_⟩
    · exact absurd hfall (by omega)
    · exact Rod.only_flush (Rod.only_fltAP (Rod.only_setPoc Poc.passive (by decide) (by decide) honly))
  · next hstay =>
    exact ⟨hno, Rod.raised_flush _ _ _ hraised, hp2a, fun hp hn => absurd ⟨hp, hn⟩ hstay, fun _ => hpoc, Rod.only_flush honly⟩

/-! ### The correction of a double cycle -/

theorem Rod.clockCorrection_flush_good (ρ : Rod) (rate offset : Int) (pairs nodes : Nat) (hr : ρ.frRuns = true)
    (h : rate.natAbs ≤ ρ.g Fl.FR_CSYNC_0_RATE_OUT ∧ offset.natAbs ≤ ρ.g Fl.FR_CSYNC_0_OFFS_OUT ∧ 2 ≤ pairs) :
    let τ := (ρ.clockCorrection rate offset pairs nodes).flush
    τ.g Fl.FR_SYNC_NOCORR = 0 ∧ τ.g Fl.FR_CORR_RATE = natOfInt 16 rate % 65536 ∧ τ.g Fl.FR_CORR_OFFSET = natOfInt 16 offset % 65536 ∧
    (ρ.poc = Poc.startup → τ.poc = Poc.active ∧ τ.b Fl.FR_STAT_LEADER = ρ.fr.trying) ∧ (ρ.poc = Poc.active → τ.poc = Poc.active) ∧
    (ρ.poc = Poc.passive → τ.poc = if ρ.g Fl.FR_CSYNC_1_P2A ≤ ρ.fr.p2a + 1 then Poc.active else Poc.passive) ∧
    ρ.only τ corrRegs { ρ with fr := τ.fr } := by
  have honly := Rod.only_corrShown ρ rate offset false false (min nodes (ρ.g Fl.FR_CSYNC_1_SYNC_MAX))
  obtain ⟨hrate, hoff, -⟩ := Rod.corrShown_fields ρ rate offset false false (min nodes (ρ.g Fl.FR_CSYNC_1_SYNC_MAX))
  have hpoc := Rod.corrShown_poc ρ rate offset false false (min nodes (ρ.g Fl.FR_CSYNC_1_SYNC_MAX))
  have hfr := Rod.corrShown_fr ρ rate offset false false (min nodes (ρ.g Fl.FR_CSYNC_1_SYNC_MAX))
  have hp2a := Rod.g_of_gw _ _ Fl.FR_CSYNC_1_P2A
    (Rod.corrShown_gw ρ rate offset false false (min nodes (ρ.g Fl.FR_CSYNC_1_SYNC_MAX)) _ (by decide))
  dsimp only
  rw [Rod.clockCorrection_good ρ rate offset pairs nodes hr h]
  generalize ρ.corrShown rate offset false false (min nodes (ρ.g Fl.FR_CSYNC_1_SYNC_MAX)) = q at *
  obtain ⟨hno, hcorr, hstartup, hactive, hpassive⟩ := q.corrGood_spec
  rw [hpoc] at hstartup hactive hpassive
  rw [hfr] at hstartup hpassive
  rw [hp2a] at hpassive
  rw [Rod.poc_flush, Rod.flush_b _ _ (by decide), Rod.flush_g _ _ (by decide), Rod.flush_g _ _ (by decide), Rod.flush_g _ _ (by decide),
    Rod.flush_fr]
  exact ⟨hno, (Rod.g_of_gw _ _ Fl.FR_CORR_RATE hcorr).trans hrate, (Rod.g_of_gw _ _ Fl.FR_CORR_OFFSET hcorr).trans hoff, hstartup, hactive,
    hpassive, Rod.only_flush (Rod.only_corrGood honly)⟩

theorem Rod.clockCorrection_flush_bad (ρ : Rod) (rate offset : Int) (pairs nodes : Nat) (hr : ρ.frRuns = true)
    (h : ¬(rate.natAbs ≤ ρ.g Fl.FR_CSYNC_0_RATE_OUT ∧ offset.natAbs ≤ ρ.g Fl.FR_CSYNC_0_OFFS_OUT ∧ 2 ≤ pairs))
    (hh : ρ.b Fl.FR_CSYNC_1_HALT_CLK = false) :
    let τ := (ρ.clockCorrection rate offset pairs nodes).flush
    let n := min 15 (ρ.g Fl.FR_SYNC_NOCORR + 1)
    τ.g Fl.FR_SYNC_NOCORR = n ∧ τ.raised 0x030 6 ∧ τ.fr.p2a = 0 ∧
    (ρ.poc = Poc.active → ρ.g Fl.FR_CSYNC_1_PASSIVE ≤ n → τ.poc = Poc.passive ∧ τ.recorded 0x0602 sevDegrade 0x030) ∧
    (ρ.poc ≠ Poc.active ∨ n < ρ.g Fl.FR_CSYNC_1_PASSIVE → τ.poc = ρ.poc) ∧ ρ.only τ corrRegs { ρ with fr := τ.fr } := by
  obtain ⟨r, o, rBad, oBad, n, cause, last, e⟩ := Rod.clockCorrection_bad ρ rate offset pairs nodes hr h
  have honly := Rod.only_corrShown ρ r o rBad oBad n
  have hcsync := Rod.corrShown_gw ρ r o rBad oBad n Rg.FR_CSYNC_1 (by decide)
  obtain ⟨-, -, hno⟩ := Rod.corrShown_fields ρ r o rBad oBad n
  have hfail := Rod.corrFail_flush cause last ((Rod.b_congr _ _ Fl.FR_CSYNC_1_HALT_CLK hcsync).trans hh) honly
  dsimp only at hfail ⊢
  rw [e]
  rwa [hno, Rod.corrShown_poc, Rod.g_of_gw _ _ Fl.FR_CSYNC_1_PASSIVE hcsync] at hfail

/-! ### The statement -/

/-- A command that reviews the contracts, by what it does to the rod with its partners in view. -/
theorem completes_onRodV_of {i : Instr} {s : State} {r : RodId} {f : (RodId → Rod) → Rod → Rod} {P : State → Prop}
    (he : exec i s = onRodV s r f) (h : ∀ t : State, t.rod r = (f s.rod ((s.rod r).view s.rod)).flush → P t) : completes i s P :=
  completes_onRod_of (f := fun ρ => f s.rod (ρ.view s.rod)) he h

/-- Settles O51: a slot by the judgement of its frames and the one buffer that takes one, a cycle by the configuration that it takes into
force and the one buffer that is due, a clock correction by whether it succeeds, and the losses by what the review of the contracts leaves
of the controller. -/
theorem flexRayFramesAndClockAct : Obligations.FlexRayFramesAndClockAct := by
  unfold Obligations.FlexRayFramesAndClockAct
  intro s r
  dsimp only
  refine ⟨fun sl f c ho hc hf => ⟨fun hno => ⟨fun he => ?_, fun he hw => ?_⟩,
      fun he hw ha hb hp hl hlen b w hb128 hcfg hen htx hu hslot hdue => ?_⟩,
    fun cycle ho => ?_, fun rate offset pairs nodes ho => ⟨fun hgood => ?_, fun hbad hh => ?_⟩, fun c hc hp hq hs => ?_,
    fun cause hl h => ?_, fun hl hp hg => ?_⟩
  · refine completes_onRod_of (f := fun ρ => ρ.frFrame sl) rfl fun t e => ?_
    rw [e]
    exact Rod.frErr_flush (s.rod r) sl c f (Rod.frRuns_of ho) hc hf hno he
  · refine completes_onRod_of (f := fun ρ => ρ.frFrame sl) rfl fun t e => ?_
    rw [e]
    exact Rod.frOutside_flush (s.rod r) sl c f (Rod.frRuns_of ho) hc hf hno he hw
  · have htakes : (s.rod r).mbTakes sl c f b w := by
      refine ⟨Rod.frRuns_of ho, hp, hf, ha, fun k hk => ?_, fun k hk => ?_, hl, hcfg, hb128, hu, hen, htx, hslot, hdue⟩
      · cases c with
        | a =>
          have hkf : k = f := Option.some.inj (hk.symm.trans hf)
          exact hkf ▸ ⟨hc, he, hw⟩
        | b => exact nomatch (ha rfl).symm.trans hk
      · obtain ⟨hke, hkw, hkc⟩ := hb k hk
        exact ⟨hkc, hke, hkw⟩
    refine ⟨fun hh => ?_, fun hh => ?_⟩
    · refine completes_onRod_of (f := fun ρ => ρ.frFrame sl) rfl fun t e => ?_
      rw [e]
      exact htakes.stored hh hlen
    · refine completes_onRod_of (f := fun ρ => ρ.frFrame sl) rfl fun t e => ?_
      rw [e]
      exact htakes.lost hh
  · refine completes_onRod_of (f := fun ρ => ρ.cycleStart cycle) rfl fun t e => ?_
    have hr := Rod.frRuns_of ho
    rw [e]
    obtain ⟨hcyc, hmt, hpoc, hA, hB, hwork⟩ := Rod.cycleStart_shows (cycle := cycle) hr
    refine ⟨hcyc, hmt, hpoc, hA, hB, hwork, Rod.cycleStart_silent hr, fun b hb hgo hen htx hdue hready hno => ?_⟩
    obtain ⟨hclear, hsent⟩ := Rod.cycleStart_sends hr b hb hgo ⟨hen, htx, hdue⟩ hready hno
    refine ⟨hclear, fun c hu hc => ?_⟩
    obtain ⟨hnew, hframe⟩ := hsent c hu hc
    exact ⟨hnew, fun hd => ⟨_, rfl, rfl, rfl, rfl, hframe hd⟩⟩
  · refine completes_onRod_of (f := fun ρ => ρ.clockCorrection rate offset pairs nodes) rfl fun t e => ?_
    rw [e]
    exact Rod.clockCorrection_flush_good _ rate offset pairs nodes (Rod.frRuns_of ho) hgood
  · refine completes_onRod_of (f := fun ρ => ρ.clockCorrection rate offset pairs nodes) rfl fun t e => ?_
    rw [e]
    exact Rod.clockCorrection_flush_bad _ rate offset pairs nodes (Rod.frRuns_of ho) hbad hh
  · refine completes_onRodV_of (f := fun ps ρ => (ρ.channelSilent c).ctReview ps) rfl fun t e => ?_
    obtain ⟨hsil, hnoted⟩ := Rod.channelSilent_notes _ c hc hp hq hs
    obtain ⟨-, hfr, -, hrec⟩ := Rod.ctReview_flush (((s.rod r).view s.rod).channelSilent c) s.rod
    rw [e, hfr]
    exact ⟨hsil, hrec hnoted⟩
  · refine completes_onRodV_of (f := fun ps ρ => (ρ.clusterLost cause).ctReview ps) rfl fun t e => ?_
    obtain ⟨hlost, hpoc, hraised, hnoted⟩ := Rod.clusterLost_shows _ cause hl h
    obtain ⟨hstat, -, hirq, hrec⟩ := Rod.ctReview_flush (((s.rod r).view s.rod).clusterLost cause) s.rod
    rw [e]
    exact ⟨(Rod.b_congr _ _ _ hstat).trans hlost, (Rod.g_of_gw _ _ _ hstat).trans hpoc, hirq 1 hraised, hrec hnoted⟩
  · refine completes_onRod_of (f := fun ρ => ρ.clusterBack) rfl fun t e => ?_
    rw [e]
    exact Rod.clusterBack_flush _ hl hp hg

end Sys2Proof.Machine
end

section
/-! A command whose transfer has all its data, with data still out. -/

namespace Sys2Proof.Machine

/-- An IMAGE_STAGE with CID 7 that stages nothing (LEN 0), due, with data asked of the host at 0x2000. -/
def doneCmd : Cmd :=
  { desc := { opc := 6#8, fence := false, irq := false, atFt := false, rod := 3#2, rsv := 0#32, cid := 7#16, ft := 0#64, addr := 0x2000#64
              len := 0#32, devOff := 0#32, arg := [] }
    run := true, due := true, done := 0, asked := 8, got := [], buf := [], ranks := 0, need := 0, from_ := 0, ended := false, at_ := 0 }

/-- Rod X with its link up and the command alone in queue 3 and first on DMA channel 0. -/
def doneRod : Rod :=
  let regs := [(Fl.CLK_STAT_RUN, 0x7F), (Fl.PWR_STAT_PWR_OK, 3), (Fl.ROD_STATE_ROD_X, RS.ready), (Fl.LINK_STAT_UP, 1), (Fl.QP_CTRL_EN 3, 1),
    (Fl.QP_SIZE_SQ_LEN 3, 16), (Fl.QP_SIZE_CQ_LEN 3, 32)]
  let ρ := regs.foldl (fun (ρ : Rod) e => ρ.p e.1 e.2) (Rod.init .x)
  { ρ with hp := { ρ.hp with qs := [(3, { Qp.init with cmds := [doneCmd] })], chans := [(0, [(3, 7)])] } }

/-- The module with that rod and its partners at reset. -/
def doneState : State := { State.reset with x := doneRod }

/-- Four bytes of data, four bytes ahead of the command's turn. -/
def aheadData : Instr := .dmaReadCompletion .x 0 (.data 0x2004#64 [0#8, 0#8, 0#8, 0#8])

/-- The command is due in its running queue, alone, and its transfer is first on the channel. -/
theorem doneRod_due : doneRod.qpOn 3 = true ∧ (doneRod.qp 3).cmds = [doneCmd] ∧ (doneRod.qp 3).held = [] ∧ 16 < doneRod.cqFree 3 ∧
    doneRod.addr64 (Fl.CQ_BASE_LO_ADDR 3) (Fl.CQ_BASE_HI_ADDR 3) % 16 = 0 ∧ doneCmd.desc.cid = 7#16 ∧ doneCmd.due = true := by
  and_intros <;> decide +kernel

theorem doneRod_transfer : (doneRod.chan (0 : Fin 2)).head? = some ((3 : Fin 16).val, (7#16).toNat) ∧
    doneRod.target doneCmd.desc = doneRod.me := by
  and_intros <;> decide +kernel

/-- The step that takes the data completes the command, which leaves its queue. -/
theorem aheadData_completes (t : State) (h : exec aheadData doneState = .next t) : ((t.rod .x).qp 3).cmds = [] := by
  have e : (match exec aheadData doneState with | .next t => ((t.rod .x).qp 3).cmds | _ => []) = [] := by decide +kernel
  rwa [h] at e

/-- Refutes O59: the clause of data that comes ahead of its turn does not ask that the transfer still misses data (`c.done < LEN`).
Of a command that has all of its LEN bytes, here none, such data ends the transfer (R211), so the command completes and does not
stay in its queue with the data kept. -/
theorem not_transfersAndForwardingAct : ¬ Obligations.TransfersAndForwardingAct := by
  unfold Obligations.TransfersAndForwardingAct
  intro h
  obtain ⟨-, -, -, htransfer, -⟩ := h doneState .x 3 7#16 doneCmd
  obtain ⟨hhead, htarget⟩ := doneRod_transfer
  obtain ⟨hahead, -, -⟩ := (htransfer 0 0x2004#64 [0#8, 0#8, 0#8, 0#8]).2 doneRod_due hhead htarget
  obtain ⟨t, ht, ⟨k, hk, -⟩, -⟩ := hahead rfl rfl rfl rfl
  exact List.cons_ne_nil k [] (hk.symm.trans (aheadData_completes t ht))

end Sys2Proof.Machine
end

section
/-! The commands of a queue (spec/06_host_port.md): what the operations of Queues leave of a rod that is in the midst of a command,
and what the end of a command shows (R197, R198, R200). -/

namespace Sys2Proof.Machine

/-! ### Queue pairs -/

@[simp] theorem Rod.qp_putQp (ρ : Rod) (q : Nat) (k : Qp) : (ρ.putQp q k).qp q = k := by
  unfold Rod.qp Rod.putQp
  rw [Sparse.get_set _ _ _ _ _ _ fun _ => rfl, if_pos rfl]

theorem Rod.qp_congr {ρ ρ' : Rod} (h : ρ'.hp.qs = ρ.hp.qs) (q : Nat) : ρ'.qp q = ρ.qp q := by
  unfold Rod.qp
  rw [h]

theorem Rod.cmd_alone {ρ : Rod} {q cid : Nat} {c : Cmd} (h : (ρ.qp q).cmds = [c]) (hc : c.desc.cid.toNat = cid) :
    ρ.cmd q cid = some c := by
  unfold Rod.cmd
  rw [h, List.find?_cons_of_pos (by simpa using hc)]

theorem modFirst_alone (c : Cmd) (f : Cmd → Cmd) : modFirst c.desc.cid.toNat f [c] = [f c] := by
  rw [modFirst, if_pos rfl]

theorem dropFirst_alone (c : Cmd) : dropFirst c.desc.cid.toNat [c] = [] := by
  rw [dropFirst, if_pos rfl]

/-- What is left but for the host port's state beyond the pages, whatever that is. -/
theorem Rod.only_ownHp {ρ q σ : Rod} {ex : List Nat} {k : HpS} (h : ρ.only q ex { σ with hp := k }) :
    ρ.only q ex { σ with hp := q.hp } := by
  have e : q.hp = k := by
    have h2 := h.2
    unfold Rod.agrees at h2
    rw [h2]
  rw [e]
  exact h

theorem Rod.only_hp {ρ q σ : Rod} {ex : List Nat} {m : HpS} (k : HpS) (h : ρ.only q ex { σ with hp := m }) :
    ρ.only { q with hp := k } ex { σ with hp := k } := by
  obtain ⟨hk, ha⟩ := h
  refine ⟨Rod.keepsRegs_regs _ q _ _ rfl hk, ?_⟩
  unfold Rod.agrees at *
  rw [ha]

/-- What one change after another leaves. -/
theorem Rod.only_chain {σ ρ τ Q : Rod} {ex : List Nat} (h : σ.only ρ ex { Q with hp := ρ.hp })
    (k : ρ.only τ ex { ρ with hp := τ.hp }) : σ.only τ ex { Q with hp := τ.hp } := by
  obtain ⟨hk, ha⟩ := h
  obtain ⟨kk, ka⟩ := k
  refine ⟨Rod.keepsRegs_trans hk kk, ?_⟩
  unfold Rod.agrees at *
  rw [ha] at ka
  rw [ka]

/-! ### A rod in the midst of a command -/

/-- The registers that a completion reads: whether the queue runs, and its rings (R192, R197). -/
def ringRegs (q : Fin 16) : List Nat :=
  [Rg.QP_CTRL q, Rg.QP_SIZE q, Rg.CQ_BASE_LO q, Rg.CQ_BASE_HI q, Rg.SQ_HEAD q, Rg.CQ_HEAD q, Rg.CQ_TAIL q]

/-- The registers of a queue's rings lie on its page, at offsets 0x40 to 0x68. -/
theorem mem_ringRegs {q : Fin 16} {a : Nat} (h : a ∈ ringRegs q) :
    a / 0x1000 = 0x10 + q.val ∧ 0x40 ≤ a % 0x1000 ∧ a % 0x1000 ≤ 0x68 := by
  simp only [ringRegs, List.mem_cons, List.not_mem_nil, or_false, Rg.QP_CTRL, Rg.QP_SIZE, Rg.CQ_BASE_LO, Rg.CQ_BASE_HI, Rg.SQ_HEAD,
    Rg.CQ_HEAD, Rg.CQ_TAIL] at h
  omega

/-- A register on another page, or beyond those offsets, is none of the rings'. -/
theorem not_ringRegs {q : Fin 16} {a : Nat} (h : a / 0x1000 ≠ 0x10 + q.val ∨ a % 0x1000 < 0x40 ∨ 0x68 < a % 0x1000) :
    a ∉ ringRegs q := fun hm => by
  have := mem_ringRegs hm
  omega

theorem irqRaw_not_ring (q : Fin 16) (p : Nat) : Rg.IRQ_RAW p ∉ ringRegs q :=
  not_ringRegs (.inr (.inl (by unfold Rg.IRQ_RAW; omega)))

/-- `ρ` is `σ` in the midst of a command of queue `q`, in which the commands `l` stand: no completion is written yet, all that was
sent and detected is kept, and of the rest only the registers `ex`, the host port's state and what `Q` has are changed. -/
structure Rod.serving (σ ρ : Rod) (q : Fin 16) (l : List Cmd) (ex : List Nat) (Q : Rod) : Prop where
  only : σ.only ρ ex { Q with hp := ρ.hp }
  rings : ∀ a ∈ ringRegs q, ρ.gw a = σ.gw a
  qp : ρ.qp q = { σ.qp q with cmds := l }
  idle : (σ.qp q).held = []
  carry : σ.carries (fun _ => ()) (fun _ => false) ρ

section
variable {σ ρ Q : Rod} {q : Fin 16} {l : List Cmd} {ex : List Nat}

theorem Rod.serving.phase (h : σ.serving ρ q l ex Q) : (ρ.qp q).phase = (σ.qp q).phase := by rw [h.qp]

theorem Rod.serving.cmds (h : σ.serving ρ q l ex Q) : (ρ.qp q).cmds = l := by rw [h.qp]

theorem Rod.serving.held (h : σ.serving ρ q l ex Q) : (ρ.qp q).held = [] := by rw [h.qp]; exact h.idle

theorem Rod.serving.ring (h : σ.serving ρ q l ex Q) : (ρ.qp q).ring = (σ.qp q).ring := by rw [h.qp]

theorem Rod.serving_refl (σ : Rod) (q : Fin 16) (ex : List Nat) (h : (σ.qp q).held = []) :
    σ.serving σ q (σ.qp q).cmds ex σ :=
  ⟨Rod.only_refl _ _, fun _ _ => rfl, rfl, h, Rod.carries_refl _ _ _⟩

theorem Rod.serving_pw (a : Nat) (v : Word) (ha : a ∈ ex) (hr : a ∉ ringRegs q) (h : σ.serving ρ q l ex Q) :
    σ.serving (ρ.pw a v) q l ex Q where
  only := Rod.only_pw a v ha h.only
  rings i hi := (Rod.gw_pw_ne ρ a i v fun e => hr (e ▸ hi)).trans (h.rings i hi)
  qp := h.qp
  idle := h.idle
  carry := Rod.carries_pw a v rfl h.carry

theorem Rod.serving_p (f : Fld) (v : Nat) (ha : f.addr ∈ ex) (hr : f.addr ∉ ringRegs q) (h : σ.serving ρ q l ex Q) :
    σ.serving (ρ.p f v) q l ex Q := Rod.serving_pw f.addr _ ha hr h

theorem Rod.qp_irq (ρ : Rod) (p i q : Nat) : (ρ.irq p i).qp q = ρ.qp q := by
  unfold Rod.qp Rod.irq
  rw [Rod.irqMask_hp]

theorem Rod.serving_irq (p i : Nat) (hp : Rg.IRQ_RAW p ∈ ex) (h : σ.serving ρ q l ex Q) : σ.serving (ρ.irq p i) q l ex Q where
  only := Rod.only_ownHp (Rod.only_irq p i hp h.only)
  rings a ha := (Rod.gw_irq_ne ρ p a i fun e => irqRaw_not_ring q p (e ▸ ha)).trans (h.rings a ha)
  qp := (Rod.qp_irq ρ p i q).trans h.qp
  idle := h.idle
  carry := Rod.carries_irq p i h.carry

theorem Rod.serving_flt (c sv pg : Nat) (d : List (Nat × Nat × Nat)) (h : σ.serving ρ q l ex Q) :
    σ.serving (ρ.flt c sv pg d) q l ex Q :=
  ⟨Rod.only_fltAP h.only, h.rings, h.qp, h.idle, Rod.carries_fltAP h.carry⟩

theorem Rod.serving_send (o : Out) (h : σ.serving ρ q l ex Q) : σ.serving (ρ.send o) q l ex Q :=
  ⟨⟨Rod.keepsRegs_regs _ ρ _ _ rfl h.only.1, Rod.agrees_trans _ _ _ (Rod.agrees_send _ _) h.only.2⟩, h.rings, h.qp, h.idle,
    Rod.carries_send o h.carry⟩

/-- A change of the host port's state beside the queues. -/
theorem Rod.serving_hp (k : HpS) (hk : k.qs = ρ.hp.qs) (h : σ.serving ρ q l ex Q) : σ.serving { ρ with hp := k } q l ex Q where
  only := Rod.only_hp k h.only
  rings := h.rings
  qp := (Rod.qp_congr (ρ := ρ) hk q).trans h.qp
  idle := h.idle
  carry := Rod.carries_hp k h.carry

/-- The commands of the queue change. -/
theorem Rod.serving_cmds (m : List Cmd) (h : σ.serving ρ q l ex Q) : σ.serving (ρ.putQp q { ρ.qp q with cmds := m }) q m ex Q where
  only := Rod.only_hp _ h.only
  rings := h.rings
  qp := by rw [Rod.qp_putQp, h.qp]
  idle := h.idle
  carry := Rod.carries_hp _ h.carry

theorem Rod.serving_modCmd {k : Cmd} {cid : Nat} (f : Cmd → Cmd) (hc : k.desc.cid.toNat = cid) (h : σ.serving ρ q [k] ex Q) :
    σ.serving (ρ.modCmd q cid f) q [f k] ex Q := by
  subst hc
  unfold Rod.modCmd
  rw [h.cmds, modFirst_alone]
  exact Rod.serving_cmds _ h

theorem Rod.serving_when (c : Bool) (f : Rod → Rod) (hf : ∀ p, σ.serving p q l ex Q → σ.serving (f p) q l ex Q)
    (h : σ.serving ρ q l ex Q) : σ.serving (ρ.when c f) q l ex Q :=
  Rod.when_invariant (σ.serving · q l ex Q) c f hf ρ h

theorem Rod.serving_each {α : Type} (x : List α) (f : α → Rod → Rod) (hf : ∀ i p, σ.serving p q l ex Q → σ.serving (f i p) q l ex Q)
    (h : σ.serving ρ q l ex Q) : σ.serving (ρ.each x f) q l ex Q :=
  Rod.each_invariant (σ.serving · q l ex Q) f hf x ρ h

theorem rankF_addr (r : Nat) : (rankF r).addr = Rg.RES_HOLD := by
  simp only [rankF, Fld.addr, Rg.RES_HOLD]

theorem resHold_not_ring (q : Fin 16) : Rg.RES_HOLD ∉ ringRegs q := not_ringRegs (by unfold Rg.RES_HOLD; omega)

theorem Rod.serving_holder (r v : Nat) (hx : Rg.RES_HOLD ∈ ex) (h : σ.serving ρ q l ex Q) : σ.serving (ρ.p (rankF r) v) q l ex Q :=
  Rod.serving_p (rankF r) v (by rwa [rankF_addr]) (by rw [rankF_addr]; exact resHold_not_ring q) h

theorem Rod.serving_takeRank (r n : Nat) (hx : Rg.RES_HOLD ∈ ex) (h : σ.serving ρ q l ex Q) :
    σ.serving (ρ.takeRank r n) q l ex Q :=
  Rod.serving_holder r n hx (Rod.serving_hp { ρ.hp with since := Sparse.put ρ.hp.since r ρ.ft } rfl h)

theorem Rod.serving_dropRanks (n m : Nat) (hx : Rg.RES_HOLD ∈ ex) (h : σ.serving ρ q l ex Q) :
    σ.serving (ρ.dropRanks n m) q l ex Q :=
  Rod.serving_each _ _ (fun r _ hp => iteInduction (motive := (σ.serving · q l ex Q)) (fun _ => Rod.serving_holder r _ hx hp) fun _ => hp) h

theorem Rod.serving_syncChan (ch : Nat) (hx : Rg.DMA_STAT ch ∈ ex) (hch : ch < 4) (h : σ.serving ρ q l ex Q) :
    σ.serving (ρ.syncChan ch) q l ex Q := by
  have hr : Rg.DMA_STAT ch ∉ ringRegs q := not_ringRegs (by unfold Rg.DMA_STAT; omega)
  have hw {p : Rod} (v lo w : Nat) (hp : σ.serving p q l ex Q) : σ.serving (p.p ⟨0x20, 0x44 + 0x10 * ch, lo, w⟩ v) q l ex Q :=
    Rod.serving_p ⟨0x20, 0x44 + 0x10 * ch, lo, w⟩ v hx hr hp
  unfold Rod.syncChan
  split
  · exact hw _ _ _ (hw _ _ _ (hw _ _ _ h))
  · exact hw _ _ _ (hw _ _ _ (hw _ _ _ h))

theorem Rod.serving_joinChan (ch n cid : Nat) (hx : Rg.DMA_STAT ch ∈ ex) (hch : ch < 4) (h : σ.serving ρ q l ex Q) :
    σ.serving (ρ.joinChan ch n cid) q l ex Q := Rod.serving_syncChan ch hx hch (Rod.serving_hp _ (by rfl) h)

theorem Rod.serving_leaveChans (f : Nat × Nat → Bool) (hx : ∀ ch, ch < 4 → Rg.DMA_STAT ch ∈ ex) (h : σ.serving ρ q l ex Q) :
    σ.serving (ρ.leaveChans f) q l ex Q := by
  have hsync (ch : Nat) (hch : ch < 4) {p : Rod} (hp : σ.serving p q l ex Q) : σ.serving (p.syncChan ch) q l ex Q :=
    Rod.serving_syncChan ch (hx ch hch) hch hp
  exact hsync 3 (by decide) (hsync 2 (by decide) (hsync 1 (by decide) (hsync 0 (by decide) (Rod.serving_hp _ (by rfl) h))))

theorem Rod.serving_hostWr (n a : Nat) (bs : List Byte) (h : σ.serving ρ q l ex Q) : σ.serving (Rod.hostWr n ρ a bs) q l ex Q := by
  induction n generalizing ρ a bs with
  | zero => exact h
  | succ n ih =>
    unfold Rod.hostWr
    exact iteInduction (motive := (σ.serving · q l ex Q)) (fun _ => h) fun _ => ih _ _ (Rod.serving_send _ h)

/-- A completion is written to the ring at CQ_TAIL (R197). -/
theorem Rod.toHost_one (ρ : Rod) (a : Nat) (bs : List Byte) (h0 : bs ≠ []) (hl : bs.length ≤ 128) (ha : a % 4096 + bs.length ≤ 4096) :
    ρ.toHost a bs = ρ.send (.hostWrite a bs) := by
  have hpay : 128 ≤ ρ.maxPayload := Nat.le_min.2 ⟨by decide, Nat.le_mul_of_pos_right _ (Nat.two_pow_pos _)⟩
  have hn : bs.length ≤ min ρ.maxPayload (4096 - a % 4096) := by omega
  obtain ⟨b, t, rfl⟩ := List.exists_cons_of_ne_nil h0
  unfold Rod.toHost Rod.hostWr
  rw [if_neg (by simp)]
  dsimp only
  rw [List.take_of_length_le hn, List.drop_of_length_le hn]
  unfold Rod.hostWr
  simp

end

/-! ### The completion (R197, R198, R200) -/

theorem cqTail_mem (q : Fin 16) : Rg.CQ_TAIL q ∈ ringRegs q := by simp [ringRegs]
theorem cqTail_addr (q : Fin 16) : (Fl.CQ_TAIL_TAIL q).addr = Rg.CQ_TAIL q := rfl

/-- What `posts` says depends on the rod before through its rings alone. -/
theorem Rod.posts_of_rings {σ ρ τ : Rod} {q : Fin 16} {cid : BitVec 16} {status result : Nat} {irq : Bool}
    (hr : ∀ a ∈ ringRegs q, ρ.gw a = σ.gw a) (hp : (ρ.qp q).phase = (σ.qp q).phase) (h : ρ.posts τ q cid status result irq) :
    σ.posts τ q cid status result irq := by
  have hg (f : Fld) (hf : f.addr ∈ ringRegs q) : ρ.g f = σ.g f := Rod.g_of_gw _ _ _ (hr _ hf)
  have hsize := hg (Fl.QP_SIZE_CQ_LEN q) (by simp [ringRegs, Fl.QP_SIZE_CQ_LEN, Rg.QP_SIZE, Fld.addr])
  have htail := hg (Fl.CQ_TAIL_TAIL q) (cqTail_mem q)
  have hlo := hg (Fl.CQ_BASE_LO_ADDR q) (by simp [ringRegs, Fl.CQ_BASE_LO_ADDR, Rg.CQ_BASE_LO, Fld.addr])
  have hhi := hg (Fl.CQ_BASE_HI_ADDR q) (by simp [ringRegs, Fl.CQ_BASE_HI_ADDR, Rg.CQ_BASE_HI, Fld.addr])
  have hhead := hg (Fl.SQ_HEAD_HEAD q) (by simp [ringRegs, Fl.SQ_HEAD_HEAD, Rg.SQ_HEAD, Fld.addr])
  unfold Rod.posts Rod.addr64 at *
  rwa [hsize, htail, hlo, hhi, hhead, hp] at h

/-- The entry of a completion of a command (Table 6.4). -/
def Rod.cplBytes (ρ : Rod) (q : Nat) (c : Cpl) : List Byte :=
  leBytes 2 c.cid ++ leBytes 2 (ρ.g (Fl.SQ_HEAD_HEAD q)) ++ leBytes 4 (c.status + 2 ^ 31 * b2n (ρ.qp q).phase) ++ leBytes 8 c.result

/-- The rod with the entry of a completion written, and CQ_TAIL and the phase moved on. -/
def Rod.ringMoved (ρ : Rod) (q : Nat) (c : Cpl) : Rod :=
  let n := max 1 (ρ.g (Fl.QP_SIZE_CQ_LEN q))
  let tail := ρ.g (Fl.CQ_TAIL_TAIL q)
  let ρ1 := (ρ.send (.hostWrite (ρ.addr64 (Fl.CQ_BASE_LO_ADDR q) (Fl.CQ_BASE_HI_ADDR q) + 16 * tail) (ρ.cplBytes q c))).p
    (Fl.CQ_TAIL_TAIL q) ((tail + 1) % n)
  if tail + 1 = n then ρ1.putQp q { ρ.qp q with phase := !(ρ.qp q).phase } else ρ1

theorem leBytes_length (n x : Nat) : (leBytes n x).length = n := by
  induction n generalizing x with
  | zero => rfl
  | succ n ih => rw [leBytes, List.length_cons, ih]

/-- A completion of a command is one write of 16 bytes, where the ring is aligned to its entries. -/
theorem Rod.postRaw_eq (ρ : Rod) (q : Nat) (c : Cpl) (hk : c.kind = 0) (hs : c.status < 256)
    (hb : ρ.addr64 (Fl.CQ_BASE_LO_ADDR q) (Fl.CQ_BASE_HI_ADDR q) % 16 = 0) :
    ρ.postRaw q c = (ρ.ringMoved q c).when c.irq (·.irq (qpPage q) 0) := by
  have hlen : (ρ.cplBytes q c).length = 16 := by simp [Rod.cplBytes, leBytes_length]
  have hone := Rod.toHost_one ρ (ρ.addr64 (Fl.CQ_BASE_LO_ADDR q) (Fl.CQ_BASE_HI_ADDR q) + 16 * ρ.g (Fl.CQ_TAIL_TAIL q)) (ρ.cplBytes q c)
    (fun e => by rw [e] at hlen; cases hlen) (by omega) (by omega)
  have hword : c.status % 256 + 256 * (c.kind % 16) + 2 ^ 31 * b2n (ρ.qp q).phase = c.status + 2 ^ 31 * b2n (ρ.qp q).phase := by
    rw [hk]; omega
  unfold Rod.postRaw Rod.ringMoved
  simp only [hword]
  rw [hk, bne_self_eq_false, Bool.or_false]
  unfold Rod.cplBytes at hone
  simp only [hone]
  rfl

/-- The phase of the entries after the next one (R197). -/
def Rod.phaseNext (ρ : Rod) (q : Nat) : Bool :=
  if ρ.g (Fl.CQ_TAIL_TAIL q) + 1 = max 1 (ρ.g (Fl.QP_SIZE_CQ_LEN q)) then !(ρ.qp q).phase else (ρ.qp q).phase

theorem Rod.ringMoved_qp (ρ : Rod) (q : Nat) (c : Cpl) : (ρ.ringMoved q c).qp q = { ρ.qp q with phase := ρ.phaseNext q } := by
  unfold Rod.ringMoved Rod.phaseNext
  dsimp only
  split
  · rw [Rod.qp_putQp]
  · rfl

theorem Rod.ringMoved_tail (ρ : Rod) (q : Nat) (c : Cpl) : (ρ.ringMoved q c).g (Fl.CQ_TAIL_TAIL q) =
    (ρ.g (Fl.CQ_TAIL_TAIL q) + 1) % max 1 (ρ.g (Fl.QP_SIZE_CQ_LEN q)) % 4096 := by
  have hg (r : Rod) (v : Nat) : (r.p (Fl.CQ_TAIL_TAIL q) v).g (Fl.CQ_TAIL_TAIL q) = v % 4096 :=
    Rod.g_p r (Fl.CQ_TAIL_TAIL q) v (by simp [Fl.CQ_TAIL_TAIL])
  unfold Rod.ringMoved
  dsimp only
  split <;> exact hg _ _

theorem Rod.ringMoved_out (ρ : Rod) (q : Nat) (c : Cpl) : (ρ.ringMoved q c).out = ρ.out ++ [.hostWrite
    (ρ.addr64 (Fl.CQ_BASE_LO_ADDR q) (Fl.CQ_BASE_HI_ADDR q) + 16 * ρ.g (Fl.CQ_TAIL_TAIL q)) (ρ.cplBytes q c)] := by
  unfold Rod.ringMoved
  dsimp only
  split <;> rfl

/-- A completion written to the ring of a queue without commands is what `posts` says (R197, R200). -/
theorem Rod.postRaw_posts (ρ : Rod) (q : Fin 16) (cid : BitVec 16) (status result : Nat) (irq : Bool) (hs : status < 256)
    (hb : ρ.addr64 (Fl.CQ_BASE_LO_ADDR q) (Fl.CQ_BASE_HI_ADDR q) % 16 = 0) (hc : (ρ.qp q).cmds = []) (hh : (ρ.qp q).held = []) :
    ρ.posts (ρ.postRaw q ⟨cid.toNat, status, 0, result, irq⟩) q cid status result irq := by
  rw [Rod.postRaw_eq ρ q _ rfl hs hb]
  have hpage : (Fl.CQ_TAIL_TAIL q).addr ≠ Rg.IRQ_RAW (qpPage q) := fun e =>
    irqRaw_not_ring q (qpPage q) (e ▸ cqTail_mem q)
  have hmem : Out.hostWrite (ρ.addr64 (Fl.CQ_BASE_LO_ADDR q) (Fl.CQ_BASE_HI_ADDR q) + 16 * ρ.g (Fl.CQ_TAIL_TAIL q))
      (ρ.cplBytes q ⟨cid.toNat, status, 0, result, irq⟩) ∈ (ρ.ringMoved q ⟨cid.toNat, status, 0, result, irq⟩).out := by
    rw [Rod.ringMoved_out]
    exact List.mem_append_right _ (List.mem_singleton_self _)
  have hqp := Rod.ringMoved_qp ρ q ⟨cid.toNat, status, 0, result, irq⟩
  have htail := Rod.ringMoved_tail ρ q ⟨cid.toNat, status, 0, result, irq⟩
  cases irq with
  | false => exact ⟨hmem, htail, by rw [Rod.when_false, hqp]; rfl, by rw [Rod.when_false, hqp]; exact hc, by rw [Rod.when_false, hqp]; exact hh,
      fun e => absurd e Bool.false_ne_true⟩
  | true =>
    obtain ⟨m, hm⟩ := Rod.irq_out (ρ.ringMoved q ⟨cid.toNat, status, 0, result, true⟩) (qpPage q) 0
    refine ⟨?_, (Rod.g_irq_ne _ _ _ _ hpage).trans htail, ?_, ?_, ?_, fun _ => Rod.irq_sets _ _ 0 (by decide)⟩
    · rw [Rod.when_true, hm]
      exact List.mem_append_left _ hmem
    · rw [Rod.when_true, Rod.qp_irq, hqp]; rfl
    · rw [Rod.when_true, Rod.qp_irq, hqp]; exact hc
    · rw [Rod.when_true, Rod.qp_irq, hqp]; exact hh

theorem Rod.qp_flush (ρ : Rod) (q : Nat) : ρ.flush.qp q = ρ.qp q := Rod.qp_congr (by rw [Rod.flush_hp]) q

/-- What the records of the command change of a completion: nothing. -/
theorem Rod.posts_flush {σ ρ : Rod} {q : Fin 16} {cid : BitVec 16} {status result : Nat} {irq : Bool}
    (h : σ.posts ρ q cid status result irq) : σ.posts ρ.flush q cid status result irq := by
  obtain ⟨hout, htail, hphase, hcmds, hheld, hraised⟩ := h
  obtain ⟨m, hm, -⟩ := Rod.flush_out ρ
  have hlog : (Fl.CQ_TAIL_TAIL q).addr ∉ logRegs := by
    have := mem_ringRegs (cqTail_mem q)
    rw [cqTail_addr]
    intro hl
    have : Rg.CQ_TAIL q / 0x1000 = 0xD0 := by
      simp only [logRegs, List.mem_cons, List.not_mem_nil, or_false] at hl
      rcases hl with e | e <;> rw [e] <;> decide
    omega
  refine ⟨by rw [hm]; exact List.mem_append_left _ hout, (Rod.flush_g _ _ hlog).trans htail, ?_, ?_, ?_, fun hi => ?_⟩
  · rw [Rod.qp_flush]; exact hphase
  · rw [Rod.qp_flush]; exact hcmds
  · rw [Rod.qp_flush]; exact hheld
  · exact Rod.raised_flush ρ _ _ (hraised hi)

/-! ### The end of a command (R198, R208, R222) -/

/-- The completion of a command of the queue can be written at once: the queue runs, with room, and its ring is aligned to its entries
(R200, R202). -/
def Rod.posting (ρ : Rod) (q : Fin 16) : Prop :=
  ρ.qpOn q = true ∧ 16 < ρ.cqFree q ∧ ρ.addr64 (Fl.CQ_BASE_LO_ADDR q) (Fl.CQ_BASE_HI_ADDR q) % 16 = 0

theorem Rod.posting_of_rings {σ ρ : Rod} {q : Fin 16} (hr : ∀ a ∈ ringRegs q, ρ.gw a = σ.gw a) (h : σ.posting q) : ρ.posting q := by
  have hg (f : Fld) (hf : f.addr ∈ ringRegs q) : ρ.g f = σ.g f := Rod.g_of_gw _ _ _ (hr _ hf)
  have hen := Rod.b_congr σ ρ (Fl.QP_CTRL_EN q) (hr _ (by simp [ringRegs, Fl.QP_CTRL_EN, Rg.QP_CTRL, Fld.addr]))
  have hsize := hg (Fl.QP_SIZE_CQ_LEN q) (by simp [ringRegs, Fl.QP_SIZE_CQ_LEN, Rg.QP_SIZE, Fld.addr])
  have htail := hg (Fl.CQ_TAIL_TAIL q) (cqTail_mem q)
  have hhead := hg (Fl.CQ_HEAD_HEAD q) (by simp [ringRegs, Fl.CQ_HEAD_HEAD, Rg.CQ_HEAD, Fld.addr])
  have hlo := hg (Fl.CQ_BASE_LO_ADDR q) (by simp [ringRegs, Fl.CQ_BASE_LO_ADDR, Rg.CQ_BASE_LO, Fld.addr])
  have hhi := hg (Fl.CQ_BASE_HI_ADDR q) (by simp [ringRegs, Fl.CQ_BASE_HI_ADDR, Rg.CQ_BASE_HI, Fld.addr])
  unfold Rod.posting Rod.qpOn Rod.cqFree Rod.addr64 at *
  rwa [hen, hsize, htail, hhead, hlo, hhi]

section
variable {σ ρ Q : Rod} {q : Fin 16} {k : Cmd} {ex : List Nat}

theorem Rod.only_ringMoved (c : Cpl) (hx : Rg.CQ_TAIL q ∈ ex) (h : σ.only ρ ex { Q with hp := ρ.hp }) :
    σ.only (ρ.ringMoved q c) ex { Q with hp := (ρ.ringMoved q c).hp } := by
  have hsend (o : Out) : σ.only (ρ.send o) ex { Q with hp := ρ.hp } :=
    ⟨Rod.keepsRegs_regs _ ρ _ _ rfl h.1, Rod.agrees_trans _ _ _ (Rod.agrees_send _ _) h.2⟩
  unfold Rod.ringMoved
  dsimp only
  split
  · exact Rod.only_hp _ (Rod.only_p (Fl.CQ_TAIL_TAIL q) _ hx (hsend _))
  · exact Rod.only_p (Fl.CQ_TAIL_TAIL q) _ hx (hsend _)

theorem Rod.carries_ringMoved (c : Cpl) (h : σ.carries (fun _ => ()) (fun _ => false) ρ) :
    σ.carries (fun _ => ()) (fun _ => false) (ρ.ringMoved q c) := by
  unfold Rod.ringMoved
  dsimp only
  split
  · exact Rod.carries_hp _ (Rod.carries_p _ _ rfl (Rod.carries_send _ h))
  · exact Rod.carries_p _ _ rfl (Rod.carries_send _ h)

/-- The registers that the end of a command writes are among those listed; RES_HOLD need not be where the command holds no rank. -/
def endsIn (q : Fin 16) (k : Cmd) (ex : List Nat) : Prop := ∀ a ∈ endRegs q, a ∈ ex ∨ (a = Rg.RES_HOLD ∧ k.ranks = 0)

theorem endsIn_of_subset (k : Cmd) (h : endRegs q ⊆ ex) : endsIn q k ex := fun _ ha => .inl (h ha)

theorem endsIn.mem (h : endsIn q k ex) {a : Nat} (ha : a ∈ endRegs q) (hne : a ≠ Rg.RES_HOLD) : a ∈ ex :=
  (h a ha).resolve_right fun e => hne e.1

theorem Rod.dropRanks_zero (ρ : Rod) (n : Nat) : ρ.dropRanks n 0 = ρ := rfl

/-- The rod with a command gone from its queue: its ranks, its requests for ranks and its channel free (R208, R222). -/
theorem Rod.serving_ended (hx : endsIn q k ex) (h : σ.serving ρ q [k] ex Q) :
    let ρ1 := (ρ.putQp q { ρ.qp q with cmds := dropFirst k.desc.cid.toNat (ρ.qp q).cmds }).dropRanks q k.ranks
    σ.serving (({ ρ1 with hp := { ρ1.hp with ranks := ρ1.hp.ranks.filter fun e => !(e.2 == q.val && k.need.testBit (e.1 - 1)) } } :
      Rod).leaveChans fun e => e == (q.val, k.desc.cid.toNat)) q [] ex Q := by
  have hchans (ch : Nat) (hch : ch < 4) : Rg.DMA_STAT ch ∈ ex := by
    refine hx.mem ?_ ?_
    · interval_cases ch <;> simp [endRegs]
    · simp only [Rg.DMA_STAT, Rg.RES_HOLD]; omega
  have hput := Rod.serving_cmds [] h
  have hdrop : σ.serving ((ρ.putQp q { ρ.qp q with cmds := [] }).dropRanks q k.ranks) q [] ex Q := by
    rcases hx Rg.RES_HOLD (by simp [endRegs]) with hr | ⟨-, hr⟩
    · exact Rod.serving_dropRanks q k.ranks hr hput
    · rw [hr, Rod.dropRanks_zero]
      exact hput
  rw [h.cmds, dropFirst_alone]
  exact Rod.serving_leaveChans _ hchans (Rod.serving_hp _ (by rfl) hdrop)

/-- The command alone in its queue completes (R198): its completion is written, and nothing else changes but what a command's end
writes. -/
theorem Rod.serving_finish (h : σ.serving ρ q [k] ex Q) (hx : endsIn q k ex) (hp : σ.posting q) (status result : Nat)
    (hs : status < 256) :
    let τ := ρ.finish q k.desc.cid.toNat status result
    σ.posts τ q k.desc.cid status result k.desc.irq ∧ σ.only τ ex { Q with hp := τ.hp } ∧
      σ.carries (fun _ => ()) (fun _ => false) τ ∧ (τ.qp q).ring = (σ.qp q).ring := by
  have hended := Rod.serving_ended hx h
  have hnote (c : Bool) (p : Rod) (code sv pg : Nat) (d : List (Nat × Nat × Nat)) (hp : σ.serving p q [] ex Q) :
      σ.serving (p.when c (·.flt code sv pg d)) q [] ex Q := Rod.serving_when c _ (fun _ => Rod.serving_flt _ _ _ _) hp
  unfold Rod.finish
  rw [Rod.cmd_alone h.cmds rfl]
  dsimp only at hended ⊢
  generalize hρ3 : Rod.when _ _ _ = ρ3
  have h3 : σ.serving ρ3 q [] ex Q := hρ3 ▸ hnote _ _ _ _ _ _ hended
  obtain ⟨hon, hfree, hbase⟩ := Rod.posting_of_rings h3.rings hp
  have hpost : ρ3.postCmd q ⟨k.desc.cid.toNat, status, 0, result, k.desc.irq⟩ =
      ρ3.postRaw q ⟨k.desc.cid.toNat, status, 0, result, k.desc.irq⟩ := by
    unfold Rod.postCmd
    rw [if_pos hon]
    exact if_pos ⟨by rw [h3.held]; rfl, hfree⟩
  have hirq : Rg.IRQ_RAW (qpPage q) ∈ ex := hx.mem (by simp [endRegs, qpPage]) (by simp only [Rg.IRQ_RAW, Rg.RES_HOLD]; omega)
  have htail : Rg.CQ_TAIL q ∈ ex := hx.mem (by simp [endRegs]) (by simp only [Rg.CQ_TAIL, Rg.RES_HOLD]; omega)
  rw [hpost]
  refine ⟨Rod.posts_of_rings h3.rings h3.phase (Rod.postRaw_posts ρ3 q _ _ _ _ hs hbase h3.cmds h3.held), ?_⟩
  rw [Rod.postRaw_eq _ _ _ rfl hs hbase]
  refine ⟨?_, Rod.carries_when _ _ (fun _ => Rod.carries_irq _ _) (Rod.carries_ringMoved _ h3.carry), ?_⟩
  · exact Rod.when_invariant (fun p => σ.only p ex { Q with hp := p.hp }) _ _ (fun p hp => Rod.only_ownHp (Rod.only_irq _ _ hirq hp)) _
      (Rod.only_ringMoved _ htail h3.only)
  · rw [Rod.when_keeps (fun p => (p.qp q).ring) _ _ _ fun p => by rw [Rod.qp_irq], Rod.ringMoved_qp]
    exact h3.ring

end

end Sys2Proof.Machine
end

section
/-! How a command that waits alone in its queue starts (R199, R202, R209, R222): it takes its ranks and its channel, and acts. -/

namespace Sys2Proof.Machine

/-! ### Ranks (R220 to R222) -/

theorem Rod.holder_p (ρ : Rod) (r i v : Nat) (hr : 1 ≤ r ∧ r ≤ 4) (hi : 1 ≤ i ∧ i ≤ 4) :
    (ρ.p (rankF r) v).holder i = if i = r then v % 256 else ρ.holder i := by
  have hw : (rankF r).lo + (rankF r).w ≤ 32 := by simp only [rankF]; omega
  split
  · next e => rw [e]; exact Rod.g_p ρ (rankF r) v hw
  · next e => exact Rod.g_p_ne ρ (rankF r) (rankF i) v hw (.inr (by simp only [rankF]; omega))

/-- The ranks of the mask `m` are held by queue `q`, and no other rank by anyone. -/
def Rod.ranksHeld (ρ : Rod) (q : Fin 16) (m : Nat) : Prop :=
  ∀ r, 1 ≤ r → r ≤ 4 → ρ.holder r = if m.testBit (r - 1) then q.val else 0xFF

theorem Rod.ranksHeld_zero {ρ : Rod} {q : Fin 16} (h : ∀ k : Fin 4, ρ.holder (k.val + 1) = 0xFF) : ρ.ranksHeld q 0 := by
  intro r h1 h4
  have := h ⟨r - 1, by omega⟩
  rw [Nat.zero_testBit, if_neg Bool.false_ne_true]
  simpa [Nat.sub_add_cancel h1] using this

theorem maskSum (m : Nat) (h : m < 16) : (([1, 2, 3, 4].filter fun r => m.testBit (r - 1)).map fun r => 2 ^ (r - 1)).sum = m := by
  interval_cases m <;> decide

theorem Rod.held_of_ranksHeld {ρ : Rod} {q : Fin 16} {m : Nat} (h : ρ.ranksHeld q m) (hm : m < 16) : ρ.held q = m := by
  have hq : (0xFF : Nat) ≠ q.val := by omega
  have hbit : ∀ r ∈ [1, 2, 3, 4], (ρ.holder r == q.val) = m.testBit (r - 1) := by
    intro r hr
    rw [h r (by simp at hr; omega) (by simp at hr; omega)]
    cases m.testBit (r - 1) <;> simp [hq]
  unfold Rod.held
  rw [List.filter_congr hbit, maskSum m hm]

theorem topRank_or (m r : Nat) (hm : m < 16) (h1 : 1 ≤ r) (h4 : r ≤ 4) (ht : topRank m < r) : topRank (m ||| 2 ^ (r - 1)) = r := by
  interval_cases r <;> interval_cases m <;> revert ht <;> decide

theorem or_bit_lt (m r : Nat) (hm : m < 16) (h4 : r ≤ 4) (h1 : 1 ≤ r) : m ||| 2 ^ (r - 1) < 16 :=
  Nat.or_lt_two_pow (n := 4) hm (Nat.pow_lt_pow_right (by decide) (by omega))

/-- A rank that is taken. -/
theorem Rod.ranksHeld_take {ρ : Rod} {q : Fin 16} {m : Nat} (h : ρ.ranksHeld q m) (r : Nat) (h1 : 1 ≤ r) (h4 : r ≤ 4) :
    (ρ.takeRank r q).ranksHeld q (m ||| 2 ^ (r - 1)) := by
  intro i hi1 hi4
  have hheld : (ρ.takeRank r q).holder i = if i = r then q.val % 256 else ρ.holder i := Rod.holder_p _ r i _ ⟨h1, h4⟩ ⟨hi1, hi4⟩
  rw [hheld, Nat.testBit_or, Nat.testBit_two_pow]
  by_cases e : i = r
  · subst e
    rw [if_pos rfl, if_pos (by simp)]
    omega
  · rw [if_neg e, h i hi1 hi4, decide_eq_false (by omega), Bool.or_false]

theorem Rod.serving_mono {σ ρ Q : Rod} {q : Fin 16} {l : List Cmd} {ex ex' : List Nat} (hex : ex ⊆ ex') (h : σ.serving ρ q l ex Q) :
    σ.serving ρ q l ex' Q := ⟨Rod.only_mono hex h.only, h.rings, h.qp, h.idle, h.carry⟩

/-- The mask of a list of ranks, with those of `m`. -/
def maskWith (m : Nat) (l : List Nat) : Nat := l.foldl (fun m r => m ||| 2 ^ (r - 1)) m

theorem maskWith_ranksOf (m : Nat) (h : m < 16) : maskWith 0 (ranksOf m) = m := by
  interval_cases m <;> decide

theorem ranksOf_sorted (m : Nat) : (ranksOf m).Pairwise (· < ·) := List.Pairwise.filter _ (by decide)

theorem ranksOf_mem {m r : Nat} (h : r ∈ ranksOf m) : 1 ≤ r ∧ r ≤ 4 := by
  have := (List.mem_filter.1 h).1
  simp at this
  omega

/-- A command that has taken a rank it asked for. -/
def Cmd.tookRank (c : Cmd) (r : Nat) : Cmd :=
  { c with need := c.need - (c.need &&& 2 ^ (r - 1)), ranks := c.ranks ||| 2 ^ (r - 1) }

/-- A command takes free ranks in ascending order, all that it asks for (R221, R222). -/
theorem Rod.getRanks_free {σ : Rod} {q : Fin 16} (hl : σ.g (Fl.QP_LOCKS_HELD q) = 0) (lock : Bool) (cid : Nat) (l : List Nat) {ρ : Rod}
    {k : Cmd} {m : Nat} (hcid : k.desc.cid.toNat = cid) (hs : l.Pairwise (· < ·)) (hlist : ∀ r ∈ l, 1 ≤ r ∧ r ≤ 4)
    (ht : ∀ r ∈ l, topRank m < r)
    (hm : m < 16) (h : σ.serving ρ q [k] [Rg.RES_HOLD] σ) (hheld : ρ.ranksHeld q m) (hr : ρ.hp.ranks = []) :
    let x := Rod.getRanks q cid lock l ρ
    x.2 = .go ∧ (∃ k', k'.desc = k.desc ∧ σ.serving x.1 q [k'] [Rg.RES_HOLD] σ) ∧ x.1.ranksHeld q (maskWith m l) ∧
      x.1.hp.chans = ρ.hp.chans := by
  induction l generalizing ρ k m with
  | nil => exact ⟨rfl, ⟨k, rfl, h⟩, hheld, rfl⟩
  | cons r t ih =>
    obtain ⟨h1, h4⟩ := hlist r (by simp)
    have htop := ht r (by simp)
    have hlocks : ρ.bitOf (Fl.QP_LOCKS_HELD q) (r - 1) = false := by
      have hg : ρ.g (Fl.QP_LOCKS_HELD q) = σ.g (Fl.QP_LOCKS_HELD q) := Rod.g_of_gw _ _ _ <| by
        have ha : (Fl.QP_LOCKS_HELD q).addr = Rg.QP_LOCKS q := rfl
        refine h.only.1 _ ?_ ?_ ?_ <;> rw [ha] <;> simp only [List.mem_singleton, Rg.QP_LOCKS, Rg.RES_HOLD, Rg.FL_SEQ, Rg.IRQ_RAW] <;> omega
      unfold Rod.bitOf
      rw [hg, hl, Nat.zero_testBit]
    have hfree : ρ.holder r = 0xFF := by
      rw [hheld r h1 h4, if_neg]
      intro hb
      have : topRank m ≥ r := by
        revert hb htop
        interval_cases r <;> interval_cases m <;> decide
      omega
    have hstep : Rod.getRanks q cid lock (r :: t) ρ = Rod.getRanks q cid lock t ((ρ.takeRank r q).modCmd q cid (·.tookRank r)) := by
      rw [Rod.getRanks]
      rw [if_neg (by rw [hlocks]; simp), Rod.held_of_ranksHeld hheld hm, if_neg (by omega), if_pos ⟨hfree, by rw [hr]; rfl⟩]
      rfl
    subst hcid
    have hnext := Rod.serving_modCmd (·.tookRank r) rfl (Rod.serving_takeRank r q (by simp) h)
    have := ih (k := k.tookRank r) (m := m ||| 2 ^ (r - 1)) rfl (List.Pairwise.of_cons hs) (fun i hi => hlist i (List.mem_cons_of_mem _ hi))
      (fun i hi => by rw [topRank_or m r hm h1 h4 htop]; exact List.rel_of_pairwise_cons hs hi) (or_bit_lt m r hm h4 h1) hnext
      (Rod.ranksHeld_take hheld r h1 h4) hr
    rw [hstep]
    exact this

/-! ### The start -/

/-- A command that has started: it runs, and needs its ranks. -/
def Rod.started (ρ : Rod) (q : Nat) (c : Cmd) : Rod :=
  ρ.modCmd q c.desc.cid.toNat fun k => { k with run := true, need := rankNeed c.desc }

section
variable {σ : Rod} {q : Fin 16} {cid : BitVec 16} {c : Cmd}

theorem Rod.canStart_of_waitsAlone (hw : σ.waitsAlone q cid c) (hft : c.desc.atFt = false) : σ.canStart q c = true := by
  obtain ⟨hon, hcmds, hheld, -, -, -, hrun, -⟩ := hw
  unfold Rod.canStart Rod.timed
  simp [hon, hcmds, hheld, hrun, hft]

theorem Rod.serving_started (hw : σ.waitsAlone q cid c) (ex : List Nat) :
    σ.serving (σ.started q c) q [{ c with run := true, need := rankNeed c.desc }] ex σ := by
  obtain ⟨-, hcmds, hheld, -⟩ := hw
  have h := Rod.serving_refl σ q ex hheld
  rw [hcmds] at h
  exact Rod.serving_modCmd _ rfl h

/-- A command that waits alone starts, and goes on where it gets the ranks it asks for. -/
theorem Rod.runCmd_starts (hw : σ.waitsAlone q cid c) (hft : c.desc.atFt = false) (ps : RodId → Rod) (v : Verdict)
    (hgo : (Rod.getRanks q cid.toNat (c.desc.opc == 0x0D#8) (ranksOf (rankNeed c.desc)) (σ.started q c)).2 = .go) :
    σ.runCmd ps q cid.toNat v =
      (Rod.getRanks q cid.toNat (c.desc.opc == 0x0D#8) (ranksOf (rankNeed c.desc)) (σ.started q c)).1.proceed ps q cid.toNat c v := by
  have hcan := Rod.canStart_of_waitsAlone hw hft
  obtain ⟨-, hcmds, -, -, -, rfl, hrun, hdue, -, htarget, harg, hstate, -⟩ := hw
  unfold Rod.started at hgo
  unfold Rod.runCmd Rod.started
  rw [Rod.cmd_alone hcmds rfl]
  simp [hdue, hrun, hcan, htarget, harg, hstate, hgo]

/-- Without ranks to take it goes on at once. -/
theorem Rod.runCmd_unranked (hw : σ.waitsAlone q cid c) (hft : c.desc.atFt = false) (hn : rankNeed c.desc = 0) (ps : RodId → Rod)
    (v : Verdict) : σ.runCmd ps q cid.toNat v = (σ.started q c).proceed ps q cid.toNat c v := by
  have hnone : ranksOf (rankNeed c.desc) = [] := by rw [hn]; rfl
  rw [Rod.runCmd_starts hw hft _ _ (by rw [hnone]; rfl), hnone]
  rfl

theorem rankNeed_lt (d : Desc) : rankNeed d < 16 := by
  unfold rankNeed
  split
  all_goals (try split) <;> omega

end

/-! ### The channel (R209), and the effect -/

section
variable {σ ρ Q : Rod} {q : Fin 16} {l : List Cmd} {ex : List Nat} {c : Cmd}

theorem Rod.chanOf_of_serving (h : σ.serving ρ q l ex Q) (d : Desc) : ρ.chanOf q d = σ.chanOf q d := by
  have hctrl : ρ.gw (Rg.QP_CTRL q) = σ.gw (Rg.QP_CTRL q) := h.rings _ (by simp [ringRegs])
  have hr : ρ.g (Fl.QP_CTRL_RD_CH q) = σ.g (Fl.QP_CTRL_RD_CH q) := Rod.g_of_gw _ _ _ hctrl
  have hw : ρ.g (Fl.QP_CTRL_WR_CH q) = σ.g (Fl.QP_CTRL_WR_CH q) := Rod.g_of_gw _ _ _ hctrl
  unfold Rod.chanOf
  rw [hr, hw]

theorem Rod.target_of_me (d : Desc) (h : ρ.me = σ.me) : ρ.target d = σ.target d := by
  unfold Rod.target
  rw [h]

/-- A command of the rod itself that uses no channel acts. -/
theorem Rod.proceed_own (h : σ.serving ρ q l ex Q) (ht : σ.target c.desc = σ.me) (hc : σ.chanOf q c.desc = none) (ps : RodId → Rod)
    (cid : Nat) (v : Verdict) : ρ.proceed ps q cid c v = ρ.act ps q cid c v := by
  unfold Rod.proceed
  rw [Rod.chanOf_of_serving h, hc]
  exact if_pos (by rw [Rod.target_of_me _ h.carry.me, ht, h.carry.me])

theorem Rod.joinChan_chan (ρ : Rod) (ch n cid : Nat) : (ρ.joinChan ch n cid).chan ch = ρ.chan ch ++ [(n, cid)] := by
  have hsync (r : Rod) : (r.syncChan ch).hp = r.hp := by
    unfold Rod.syncChan
    split <;> rfl
  unfold Rod.chan Rod.joinChan
  rw [hsync, Sparse.get_put, if_pos rfl]

/-- One that uses a free channel takes it, and acts. -/
theorem Rod.proceed_chan (h : σ.serving ρ q l ex Q) (ht : σ.target c.desc = σ.me) {ch : Nat} (hc : σ.chanOf q c.desc = some ch)
    (hch : ch < 4) (hx : Rg.DMA_STAT ch ∈ ex) (hfree : ρ.chan ch = []) (ps : RodId → Rod) (cid : Nat) (v : Verdict) :
    ρ.proceed ps q cid c v = (ρ.joinChan ch q cid).act ps q cid c v := by
  have hme := (Rod.serving_joinChan ch q cid hx hch h).carry.me
  unfold Rod.proceed
  rw [Rod.chanOf_of_serving h, hc]
  dsimp only
  rw [if_neg (by rw [hfree]; simp : ¬ (ρ.chan ch).contains (q.val, cid) = true), if_pos (by rw [Rod.joinChan_chan, hfree]; rfl)]
  exact if_pos (by rw [Rod.target_of_me _ hme, ht, hme])

end

/-! ### Before the effect

Until its effect a command changes the host port's state, RES_HOLD and DMA_STAT alone, and detects nothing. -/

/-- The registers that show who holds a rank and what a channel serves. -/
def portRegs : List Nat := [Rg.RES_HOLD, Rg.DMA_STAT 0, Rg.DMA_STAT 1, Rg.DMA_STAT 2, Rg.DMA_STAT 3]

theorem dmaStat_mem_portRegs {ch : Nat} (h : ch < 4) : Rg.DMA_STAT ch ∈ portRegs := by
  interval_cases ch <;> simp [portRegs]

/-- Only the host port's state and those registers have changed. -/
structure Rod.portOnly (σ ρ : Rod) : Prop where
  rest : ρ = { σ with regs := ρ.regs, hp := ρ.hp }
  regs : ∀ a, a ∉ portRegs → ρ.gw a = σ.gw a
  d3 : ρ.hp.d3 = σ.hp.d3

section
variable {σ ρ : Rod}

theorem Rod.portOnly_refl (σ : Rod) : σ.portOnly σ := ⟨rfl, fun _ _ => rfl, rfl⟩

theorem Rod.portOnly_hp (k : HpS) (hk : k.d3 = ρ.hp.d3) (h : σ.portOnly ρ) : σ.portOnly { ρ with hp := k } := by
  obtain ⟨hrest, hregs, hd3⟩ := h
  exact ⟨by rw [hrest], hregs, hk.trans hd3⟩

theorem Rod.portOnly_p (f : Fld) (v : Nat) (hf : f.addr ∈ portRegs) (h : σ.portOnly ρ) : σ.portOnly (ρ.p f v) := by
  obtain ⟨hrest, hregs, hd3⟩ := h
  refine ⟨?_, fun a ha => (Rod.gw_p_ne ρ f a v fun e => ha (e ▸ hf)).trans (hregs a ha), hd3⟩
  unfold Rod.p Rod.pw
  rw [hrest]

theorem Rod.portOnly_modCmd (q cid : Nat) (f : Cmd → Cmd) (h : σ.portOnly ρ) : σ.portOnly (ρ.modCmd q cid f) :=
  Rod.portOnly_hp _ rfl h

theorem Rod.portOnly_takeRank (r n : Nat) (h : σ.portOnly ρ) : σ.portOnly (ρ.takeRank r n) :=
  Rod.portOnly_p (rankF r) n (by rw [rankF_addr]; simp [portRegs]) (Rod.portOnly_hp _ rfl h)

theorem Rod.portOnly_joinChan (ch n cid : Nat) (hch : ch < 4) (h : σ.portOnly ρ) : σ.portOnly (ρ.joinChan ch n cid) := by
  have hw {p : Rod} (v lo w : Nat) (hp : σ.portOnly p) : σ.portOnly (p.p ⟨0x20, 0x44 + 0x10 * ch, lo, w⟩ v) :=
    Rod.portOnly_p ⟨0x20, 0x44 + 0x10 * ch, lo, w⟩ v (dmaStat_mem_portRegs hch) hp
  have hjoin : σ.portOnly { ρ with hp := { ρ.hp with chans := Sparse.put ρ.hp.chans ch (Sparse.get [] ρ.hp.chans ch ++ [(n, cid)]) } } :=
    Rod.portOnly_hp _ rfl h
  unfold Rod.joinChan Rod.syncChan
  split
  · exact hw _ _ _ (hw _ _ _ (hw _ _ _ hjoin))
  · exact hw _ _ _ (hw _ _ _ (hw _ _ _ hjoin))

theorem Rod.portOnly_getRanks (q cid : Nat) (lock : Bool) (l : List Nat) (h : σ.portOnly ρ) :
    σ.portOnly (Rod.getRanks q cid lock l ρ).1 := by
  induction l generalizing ρ with
  | nil => exact h
  | cons r t ih =>
    rw [Rod.getRanks]
    refine iteInduction (motive := fun x : Rod × RankReply => σ.portOnly x.1) (fun _ => ih (Rod.portOnly_modCmd _ _ _ h)) fun _ => ?_
    refine iteInduction (motive := fun x : Rod × RankReply => σ.portOnly x.1) (fun _ => h) fun _ => ?_
    refine iteInduction (motive := fun x : Rod × RankReply => σ.portOnly x.1) (fun _ => ?_) fun _ => Rod.portOnly_hp _ rfl h
    exact ih (Rod.portOnly_modCmd _ _ _ (Rod.portOnly_takeRank r q h))

end

/-! ### A command that waits alone acts -/

section
variable {σ : Rod} {q : Fin 16} {cid : BitVec 16} {c : Cmd}

theorem Rod.posting_of_waitsAlone (hw : σ.waitsAlone q cid c) : σ.posting q := by
  obtain ⟨hon, -, -, hfree, hbase, -⟩ := hw
  exact ⟨hon, hfree, hbase⟩

theorem Rod.chanOf_lt {ρ : Rod} {q ch : Nat} {d : Desc} (h : ρ.chanOf q d = some ch) : ch < 4 := by
  have hr : ρ.g (Fl.QP_CTRL_RD_CH q) < 2 := wBits_lt _ _ _
  have hw : ρ.g (Fl.QP_CTRL_WR_CH q) < 2 := wBits_lt _ _ _
  unfold Rod.chanOf at h
  split at h <;> simp only [Option.some.injEq, reduceCtorEq] at h <;> omega

/-- With its ranks free it takes them all, and goes on. -/
theorem Rod.runCmd_ranked (hw : σ.waitsAlone q cid c) (hft : c.desc.atFt = false) (hu : σ.unranked q) (ps : RodId → Rod) (v : Verdict) :
    ∃ ρ k, σ.runCmd ps q cid.toNat v = ρ.proceed ps q cid.toNat c v ∧ k.desc = c.desc ∧ σ.serving ρ q [k] [Rg.RES_HOLD] σ ∧
      σ.portOnly ρ ∧ ρ.ranksHeld q (rankNeed c.desc) ∧ ρ.hp.chans = σ.hp.chans := by
  obtain ⟨hfree, hnone, hlocks⟩ := hu
  obtain ⟨hgo, ⟨k, hk, hs⟩, hheld, hchans⟩ := Rod.getRanks_free hlocks (c.desc.opc == 0x0D#8) cid.toNat (ranksOf (rankNeed c.desc))
    (by obtain ⟨-, -, -, -, -, rfl, -⟩ := hw; rfl) (ranksOf_sorted _) (fun r hr => ranksOf_mem hr) (fun r hr => (ranksOf_mem hr).1)
    (by decide) (Rod.serving_started hw _) (m := 0) (Rod.ranksHeld_zero hfree) hnone
  rw [maskWith_ranksOf _ (rankNeed_lt _)] at hheld
  exact ⟨_, k, Rod.runCmd_starts hw hft _ _ hgo, hk, hs,
    Rod.portOnly_getRanks _ _ _ _ (Rod.portOnly_modCmd _ _ _ (Rod.portOnly_refl σ)), hheld, hchans⟩

/-- A command that waits alone with its ranks free goes on with them. -/
theorem Rod.runCmd_proceeds (hw : σ.waitsAlone q cid c) (hft : c.desc.atFt = false) (hr : rankNeed c.desc = 0 ∨ σ.unranked q)
    (ps : RodId → Rod) (v : Verdict) : ∃ ρ k, σ.runCmd ps q cid.toNat v = ρ.proceed ps q cid.toNat c v ∧ k.desc = c.desc ∧
      σ.serving ρ q [k] [Rg.RES_HOLD] σ ∧ σ.portOnly ρ ∧ (σ.unranked q → ρ.ranksHeld q (rankNeed c.desc)) ∧
      (rankNeed c.desc = 0 → k.ranks = 0 ∧ ρ.gw Rg.RES_HOLD = σ.gw Rg.RES_HOLD) ∧ ρ.hp.chans = σ.hp.chans := by
  by_cases hn : rankNeed c.desc = 0
  · have hranks : c.ranks = 0 := by obtain ⟨-, -, -, -, -, -, -, -, h, -⟩ := hw; exact h
    refine ⟨σ.started q c, { c with run := true, need := rankNeed c.desc }, Rod.runCmd_unranked hw hft hn ps v, rfl,
      Rod.serving_started hw _, Rod.portOnly_modCmd _ _ _ (Rod.portOnly_refl σ), fun hu => ?_, fun _ => ⟨hranks, rfl⟩, rfl⟩
    rw [hn]
    exact Rod.ranksHeld_zero hu.1
  · obtain ⟨ρ, k, hrun, hk, hs, hport, hheld, hchans⟩ := Rod.runCmd_ranked hw hft (hr.resolve_left hn) ps v
    exact ⟨ρ, k, hrun, hk, hs, hport, fun _ => hheld, fun e => absurd e hn, hchans⟩

theorem Rod.syncChan_gw (ρ : Rod) (ch a : Nat) (h : a ≠ Rg.DMA_STAT ch) : (ρ.syncChan ch).gw a = ρ.gw a := by
  have hp (p : Rod) (lo w v : Nat) : (p.p ⟨0x20, 0x44 + 0x10 * ch, lo, w⟩ v).gw a = p.gw a := Rod.gw_p_ne p _ a v h
  unfold Rod.syncChan
  split <;> exact (hp _ _ _ _).trans ((hp _ _ _ _).trans (hp _ _ _ _))

theorem Rod.joinChan_gw (ρ : Rod) (ch n cid a : Nat) (h : a ≠ Rg.DMA_STAT ch) : (ρ.joinChan ch n cid).gw a = ρ.gw a := by
  unfold Rod.joinChan
  exact Rod.syncChan_gw _ ch a h

theorem Rod.joinChan_holder (ρ : Rod) (ch n cid : Nat) (h : ch < 4) : (ρ.joinChan ch n cid).gw Rg.RES_HOLD = ρ.gw Rg.RES_HOLD :=
  Rod.joinChan_gw ρ ch n cid Rg.RES_HOLD (by unfold Rg.RES_HOLD Rg.DMA_STAT; omega)

theorem Rod.ranksHeld_of_gw {ρ ρ' : Rod} {m : Nat} (e : ρ'.gw Rg.RES_HOLD = ρ.gw Rg.RES_HOLD) (h : ρ.ranksHeld q m) :
    ρ'.ranksHeld q m := fun r h1 h4 => (Rod.g_of_gw ρ ρ' (rankF r) (by rw [rankF_addr]; exact e)).trans (h r h1 h4)

/-- A command that waits alone, with its ranks and its channel free, takes them and acts. -/
theorem Rod.runCmd_acts (hw : σ.waitsAlone q cid c) (hft : c.desc.atFt = false) (hr : rankNeed c.desc = 0 ∨ σ.unranked q)
    (ps : RodId → Rod) (v : Verdict) : ∃ ρ k, σ.runCmd ps q cid.toNat v = ρ.act ps q cid.toNat c v ∧ k.desc = c.desc ∧
      σ.serving ρ q [k] (endRegs q) σ ∧ σ.portOnly ρ ∧ (σ.unranked q → ρ.ranksHeld q (rankNeed c.desc)) ∧
      (rankNeed c.desc = 0 → k.ranks = 0 ∧ ρ.gw Rg.RES_HOLD = σ.gw Rg.RES_HOLD) := by
  have hme : σ.target c.desc = σ.me := by obtain ⟨-, -, -, -, -, -, -, -, -, h, -⟩ := hw; exact h
  have hidle : ∀ ch : Fin 4, σ.chan ch = [] := by obtain ⟨-, -, -, -, -, -, -, -, -, -, -, -, h⟩ := hw; exact h
  obtain ⟨ρ, k, hrun, hk, hs, hport, hheld, hnone, hchans⟩ := Rod.runCmd_proceeds hw hft hr ps v
  have hserve : σ.serving ρ q [k] (endRegs q) σ := Rod.serving_mono (by simp [endRegs]) hs
  cases hch : σ.chanOf q c.desc with
  | none => exact ⟨ρ, k, hrun.trans (Rod.proceed_own hserve hme hch ps _ v), hk, hserve, hport, hheld, hnone⟩
  | some ch =>
    have hlt := Rod.chanOf_lt hch
    have hmem : Rg.DMA_STAT ch ∈ endRegs q := by interval_cases ch <;> simp [endRegs]
    have hfree : ρ.chan ch = [] := by
      unfold Rod.chan
      rw [hchans]
      exact hidle ⟨ch, hlt⟩
    exact ⟨_, k, hrun.trans (Rod.proceed_chan hserve hme hch hlt hmem hfree ps _ v), hk, Rod.serving_joinChan ch _ _ hmem hlt hserve,
      Rod.portOnly_joinChan ch _ _ hlt hport, fun hu => Rod.ranksHeld_of_gw (Rod.joinChan_holder _ _ _ _ hlt) (hheld hu),
      fun e => ⟨(hnone e).1, (Rod.joinChan_holder _ _ _ _ hlt).trans (hnone e).2⟩⟩

end

end Sys2Proof.Machine
end

section
/-! What a rod shows and serves above the host port's pages does not depend on what a command of a queue changes before its effect. -/

namespace Sys2Proof.Machine

/-- A rod with other stored words, and another host port's state. -/
def Rod.withPort (σ : Rod) (R : Sparse Word) (H : HpS) : Rod := { σ with regs := R, hp := H }

/-- The registers of the header of a page are none of the host port's. -/
theorem not_portRegs_header (p o : Nat) (ho : o < 0x40) : p * 0x1000 + o ∉ portRegs := by
  simp only [portRegs, Rg.RES_HOLD, Rg.DMA_STAT, List.mem_cons, List.not_mem_nil, or_false]
  omega

section
variable {σ : Rod} {R : Sparse Word} {H : HpS} (h : ∀ a, a ∉ portRegs → (σ.withPort R H).gw a = σ.gw a)
include h

theorem Rod.g_withPort (f : Fld) (hf : f.addr ∉ portRegs) : (σ.withPort R H).g f = σ.g f := Rod.g_of_gw _ _ _ (h _ hf)
theorem Rod.b_withPort (f : Fld) (hf : f.addr ∉ portRegs) : (σ.withPort R H).b f = σ.b f := Rod.b_congr _ _ _ (h _ hf)
theorem Rod.bitOf_withPort (f : Fld) (i : Nat) (hf : f.addr ∉ portRegs) : (σ.withPort R H).bitOf f i = σ.bitOf f i := by
  unfold Rod.bitOf
  rw [Rod.g_withPort h f hf]
theorem Rod.state_withPort : (σ.withPort R H).state = σ.state := by
  exact Rod.g_withPort h _ (by rw [rodStateF_addr]; decide)
theorem Rod.frCnt_withPort : (σ.withPort R H).frCnt = σ.frCnt := by
  simp (disch := decide) only [Rod.frCnt, Rod.frRuns, Rod.clkOn, Rod.poc, Rod.macroNs, Rod.g_withPort h, Rod.bitOf_withPort h, h]
  rfl
theorem Rod.ctEnt_withPort (i : Nat) : (σ.withPort R H).ctEnt i = σ.ctEnt i := by
  simp (disch := decide) only [Rod.ctEnt, Rod.shownBound, Rod.g_withPort h, Rod.b_withPort h]
  rfl

theorem Rod.rkStat_withPort : (σ.withPort R H).rkStat = σ.rkStat := by
  simp (disch := decide) only [Rod.rkStat, Rod.runsBlocks, Rod.sendsDq, Rod.dblNow, Rod.state_withPort h, Rod.b_withPort h, h]
  rfl

theorem Rod.rkPt_withPort : (σ.withPort R H).rkPt = σ.rkPt := by
  simp (disch := decide) only [Rod.rkPt, Rod.pcNow, Rod.perNow, Rod.dblNow, Rod.b_withPort h, Rod.g_withPort h]
  rfl

/-- The lines of an axis depend on the configuration of its set, on no register of the host port. -/
theorem Rod.axis_withPort (n : Axis) : (σ.withPort R H).role n = σ.role n ∧ (σ.withPort R H).pumpPhase n = σ.pumpPhase n ∧
    (∀ r, (σ.withPort R H).connected r n = σ.connected r n) ∧ (σ.withPort R H).axisArmed n = σ.axisArmed n ∧
    (σ.withPort R H).waits n = σ.waits n ∧ (σ.withPort R H).mode = σ.mode := by
  have hax : ∀ n : Axis, (Fl.AX_CFG_ROLE n.val).addr ∉ portRegs ∧ (Fl.PMP_STAT_PHASE n.val).addr ∉ portRegs ∧
    (Fl.AX_CFG_SETS n.val).addr ∉ portRegs := by decide
  obtain ⟨hrole, hphase, hsets⟩ := hax n
  exact ⟨Rod.g_withPort h _ hrole, Rod.g_withPort h _ hphase, fun r => Rod.bitOf_withPort h _ _ hsets, Rod.bitOf_withPort h _ _ (by decide),
    Rod.bitOf_withPort h _ _ (by decide), Rod.g_withPort h _ (by decide)⟩

theorem Rod.drvStat_withPort (n : Axis) : (σ.withPort R H).drvStat n = σ.drvStat n := by
  obtain ⟨hrole, hphase, hsets, harmed, hwaits, hmode⟩ := Rod.axis_withPort h n
  have hstate := Rod.state_withPort h
  have hstep : (σ.withPort R H).g Fl.ARM_STAT_STEP = σ.g Fl.ARM_STAT_STEP := Rod.g_withPort h _ (by decide)
  have hasc : (σ.withPort R H).ascLine n = σ.ascLine n := by
    unfold Rod.ascLine
    rw [hrole, harmed, hmode, hstate]
    rfl
  have hgates : (σ.withPort R H).gatesDriven n = σ.gatesDriven n := by
    unfold Rod.gatesDriven
    rw [hrole, harmed, hmode, hstate, hstep]
    rfl
  have hen (p : Phase) : (σ.withPort R H).enable n p = σ.enable n p := by
    unfold Rod.enable Rod.enableBut Rod.steerBrake
    rw [hrole, hphase, hsets, hwaits, hstate, hgates]
    rfl
  unfold Rod.drvStat
  simp only [hasc, hen]
  rfl

theorem Rod.supStat_withPort : (σ.withPort R H).supStat = σ.supStat := by
  simp (disch := decide) only [Rod.supStat, h]
  rfl

theorem Rod.crStat_withPort : (σ.withPort R H).crStat = σ.crStat := by
  have hlive (r : RodId) : (σ.withPort R H).live r = σ.live r := by
    have hseen : (σ.withPort R H).seen r = σ.seen r := Rod.g_withPort h _ (by rw [rodStateF_addr]; decide)
    simp (disch := decide) only [Rod.live, Rod.reach, hseen, Rod.b_withPort h]
    rfl
  have hrods : (σ.withPort R H).liveRods = σ.liveRods := List.filter_congr fun r _ => hlive r
  simp (disch := decide) only [Rod.crStat, hrods, h]

theorem Rod.fenceStat_withPort : (σ.withPort R H).fenceStat = σ.fenceStat := by
  have hclosed (r : RodId) : (σ.withPort R H).closedFor r = σ.closedFor r := by
    unfold Rod.closedFor
    rw [Rod.state_withPort h]
    rfl
  have hrods : allRods.filter (σ.withPort R H).closedFor = allRods.filter σ.closedFor := List.filter_congr fun r _ => hclosed r
  simp (disch := decide) only [Rod.fenceStat, hrods, h]

theorem Rod.lsTally_withPort : (σ.withPort R H).lsTally = σ.lsTally := by
  simp (disch := decide) only [Rod.lsTally, Rod.g_withPort h]
  rfl

theorem Rod.lsWin_withPort : (σ.withPort R H).lsWin = σ.lsWin := by
  simp (disch := decide) only [Rod.lsWin, Rod.g_withPort h]
  rfl

theorem Rod.flUnack_withPort : (σ.withPort R H).flUnack = σ.flUnack := by
  have hun : (σ.withPort R H).unacked = σ.unacked := by
    simp (disch := decide) only [Rod.unacked, Rod.outstanding, Rod.g_withPort h]
    rfl
  unfold Rod.flUnack Rod.flAny Rod.flMaxSev Rod.flCount
  rw [hun]
  rfl

/-- A register above the host port's pages shows what the host port's registers do not touch. -/
theorem Rod.shown_withPort (p o : Nat) (hp : 0x22 ≤ p) (ho : o < 0x1000) : (σ.withPort R H).shown p o = σ.shown p o := by
  have hw : (σ.withPort R H).gw (p * 0x1000 + o) = σ.gw (p * 0x1000 + o) := h _ <| by
    simp only [portRegs, Rg.RES_HOLD, Rg.DMA_STAT, List.mem_cons, List.not_mem_nil, or_false]
    omega
  have hpwm : (σ.withPort R H).gw (Rg.DRV_PWM 0) = σ.gw (Rg.DRV_PWM 0) := h _ (by decide)
  have hlow : p ≠ 0 ∧ p ≠ 4 ∧ ¬ p ≤ 0x1F := by omega
  unfold Rod.shown
  simp only [hw, hpwm, hlow, and_false, if_false, Rod.frCnt_withPort h, Rod.ctEnt_withPort h, Rod.rkStat_withPort h, Rod.rkPt_withPort h,
    Rod.drvStat_withPort h, Rod.supStat_withPort h, Rod.crStat_withPort h, Rod.fenceStat_withPort h, Rod.lsTally_withPort h,
    Rod.lsWin_withPort h, Rod.flUnack_withPort h]
  rfl

theorem Rod.pageOn_withPort (p : Nat) : (σ.withPort R H).pageOn p = σ.pageOn p := by
  unfold Rod.pageOn Rod.pageClk Rod.pagePwr Rod.clkOn
  simp (disch := decide) only [Rod.bitOf_withPort h]

theorem Rod.pagePwr_withPort (p : Nat) : (σ.withPort R H).pagePwr p = σ.pagePwr p := by
  unfold Rod.pagePwr
  simp (disch := decide) only [Rod.bitOf_withPort h]

theorem Rod.headView_withPort (p o : Nat) (i : PageInfo) (ho : o < 0x40) :
    (σ.withPort R H).headView p o i = σ.headView p o i := by
  have hgw (o : Nat) (ho : o < 0x40) : (σ.withPort R H).gw (p * 0x1000 + o) = σ.gw (p * 0x1000 + o) :=
    h _ (not_portRegs_header p o ho)
  have hraw : (σ.withPort R H).gw (Rg.IRQ_RAW p) = σ.gw (Rg.IRQ_RAW p) := hgw 0x10 (by decide)
  have hen : (σ.withPort R H).gw (Rg.IRQ_EN p) = σ.gw (Rg.IRQ_EN p) := hgw 0x14 (by decide)
  have hstg : (σ.withPort R H).gw (Rg.STG_STAT p) = σ.gw (Rg.STG_STAT p) := hgw 0x24 (by decide)
  have hlock : (σ.withPort R H).g (Fl.LOCK_HELD p) = σ.g (Fl.LOCK_HELD p) := Rod.g_of_gw _ _ _ (hgw 0x30 (by decide))
  have herr : (σ.withPort R H).g (Fl.ERRCAP_0_VALID p) = σ.g (Fl.ERRCAP_0_VALID p) := Rod.g_of_gw _ _ _ (hgw 0x34 (by decide))
  unfold Rod.headView Rod.pgStat Rod.irqOn
  rw [hraw, hen, hstg, hlock, herr, hgw o ho, Rod.pageOn_withPort h, Rod.pagePwr_withPort h]
  rfl

/-- What a read of a register above the host port's pages returns. -/
theorem Rod.regView_withPort (a : Nat) (ha : 0x22000 ≤ a) : (σ.withPort R H).regView a = σ.regView a := by
  have hp : 0x22 ≤ a / 0x1000 := by omega
  have hview : (σ.withPort R H).b (Fl.STG_CTRL_VIEW (a / 0x1000)) = σ.b (Fl.STG_CTRL_VIEW (a / 0x1000)) :=
    Rod.b_congr _ _ _ (h _ (not_portRegs_header _ 0x20 (by decide)))
  have hshadow : (σ.withPort R H).shadowW a = σ.shadowW a := by
    have ha' : a ∉ portRegs := by
      simp only [portRegs, Rg.RES_HOLD, Rg.DMA_STAT, List.mem_cons, List.not_mem_nil, or_false]
      omega
    unfold Rod.shadowW
    rw [h a ha']
    rfl
  unfold Rod.regView
  dsimp only
  split
  · next i row _ _ =>
    refine ite_congr rfl (fun ho => ?_) fun _ => ?_
    · rw [Rod.headView_withPort h _ _ i ho]
    · rw [hview, hshadow, Rod.shown_withPort h _ _ hp (Nat.mod_lt _ (by decide))]
      rfl
  · rfl

end
section
variable {σ ρ : Rod} (h : σ.portOnly ρ)
include h

theorem Rod.portOnly_eq : ρ = σ.withPort ρ.regs ρ.hp ∧ ∀ a, a ∉ portRegs → (σ.withPort ρ.regs ρ.hp).gw a = σ.gw a := by
  have e : ρ = σ.withPort ρ.regs ρ.hp := h.rest
  exact ⟨e, fun a ha => by rw [← e]; exact h.regs a ha⟩

theorem Rod.regView_of_portOnly (a : Nat) (ha : 0x22000 ≤ a) : ρ.regView a = σ.regView a := by
  obtain ⟨e, hgw⟩ := Rod.portOnly_eq h
  rw [e]
  exact Rod.regView_withPort hgw a ha

theorem Rod.pageOn_of_portOnly (p : Nat) : ρ.pageOn p = σ.pageOn p := by
  obtain ⟨e, hgw⟩ := Rod.portOnly_eq h
  rw [e]
  exact Rod.pageOn_withPort hgw p

theorem Rod.winOn_of_portOnly (w : Win) : ρ.winOn w = σ.winOn w := by
  obtain ⟨e, hgw⟩ := Rod.portOnly_eq h
  rw [e]
  unfold Rod.winOn Rod.clkOn
  simp (disch := decide) only [Rod.bitOf_withPort hgw]

theorem Rod.winWord_of_portOnly (a : Nat) : ρ.winWord a = σ.winWord a := by
  rw [h.rest]
  rfl

/-- A write that is accepted is accepted still (R42, R45, R54). -/
theorem Rod.accepts_of_portOnly (path : Path) (a : Nat) (ha : σ.accepts path a) : ρ.accepts path a := by
  obtain ⟨hans, hlt, h4, hpage, herr⟩ := ha
  have hd3 := h.d3
  have hlock : ρ.lockedOut path.code (a / 0x1000) = σ.lockedOut path.code (a / 0x1000) := by
    have hgw : ρ.gw (Rg.LOCK (a / 0x1000)) = σ.gw (Rg.LOCK (a / 0x1000)) := h.regs _ (not_portRegs_header _ 0x30 (by decide))
    unfold Rod.lockedOut
    rw [Rod.b_congr σ ρ (Fl.LOCK_HELD _) hgw, Rod.g_of_gw σ ρ (Fl.LOCK_PATH _) hgw]
  have hsame : ρ.writeError path.code a = σ.writeError path.code a := by
    unfold Rod.writeError
    simp only [Rod.pageOn_of_portOnly h, hlock]
  refine ⟨?_, hlt, h4, hpage, hsame.trans herr⟩
  have hclk : ρ.g Fl.CLK_STAT_RUN = σ.g Fl.CLK_STAT_RUN := Rod.g_of_gw σ ρ Fl.CLK_STAT_RUN (h.regs _ (by decide))
  have hme : ρ.me = σ.me := by rw [h.rest]
  unfold Rod.answers Rod.clkOn Rod.bitOf at *
  rwa [hclk, hd3, hme]

end

end Sys2Proof.Machine
end

section
/-! The commands of Table 6.5 that end at once in their own rod: their effects, and what their end leaves (R197 to R201, R222). -/

namespace Sys2Proof.Machine

/-! ### What the end of a command leaves -/

/-- `τ` comes of `ρ` by the end of a command of the queue: all that was sent before, the registers that the end does not write, and the
records of what was detected. -/
structure Rod.outlasts (ρ τ : Rod) (q : Fin 16) : Prop where
  sent : ∀ o ∈ ρ.out, o ∈ τ.out
  regs : ∀ a, a ∉ endRegs q → a ∉ logRegs → τ.gw a = ρ.gw a
  records : ∀ {c sv pg : Nat}, ρ.noted c sv pg → τ.recorded c sv pg

section
variable {σ ρ Q : Rod} {q : Fin 16} {k : Cmd} {ex : List Nat} {cid : BitVec 16} {d : Desc}

/-- The end of a command, once the records are written. -/
theorem Rod.serving_ends (h : σ.serving ρ q [k] ex Q) (hx : endsIn q k ex) (hp : σ.posting q) (hd : k.desc = d) (hc : d.cid = cid)
    (status result : Nat) (hs : status < 256) :
    let τ := (ρ.finish q cid.toNat status result).flush
    σ.posts τ q cid status result d.irq ∧ σ.only τ ex { Q with hp := τ.hp } ∧ (τ.qp q).ring = (σ.qp q).ring := by
  subst hd hc
  obtain ⟨hposts, honly, -, hring⟩ := Rod.serving_finish h hx hp status result hs
  refine ⟨Rod.posts_flush hposts, Rod.only_ownHp (Rod.only_flush honly), ?_⟩
  rw [Rod.qp_flush]
  exact hring

theorem Rod.serving_self (h : σ.serving ρ q [k] ex Q) (ex' : List Nat) : ρ.serving ρ q [k] ex' ρ := by
  have := Rod.serving_refl ρ q ex' h.held
  rwa [h.cmds] at this

theorem Rod.finish_outlasts (h : σ.serving ρ q [k] ex Q) (hp : σ.posting q) (hd : k.desc = d) (hc : d.cid = cid) (status result : Nat)
    (hs : status < 256) : ρ.outlasts (ρ.finish q cid.toNat status result).flush q := by
  subst hd hc
  obtain ⟨-, honly, hcarry, -⟩ := Rod.serving_finish (Rod.serving_self h (endRegs q)) (endsIn_of_subset k fun _ ha => ha)
    (Rod.posting_of_rings h.rings hp) status result hs
  refine ⟨(Rod.carries_flush rfl hcarry).sent, fun a ha hl => ?_, fun hn => hcarry.recorded hn rfl⟩
  simp only [logRegs, List.mem_cons, List.not_mem_nil, or_false, not_or] at hl
  exact (Rod.only_flush honly).1 a ha hl.1 hl.2

/-- A command that holds no rank leaves RES_HOLD. -/
theorem Rod.finish_resHold (h : σ.serving ρ q [k] ex Q) (hp : σ.posting q) (hd : k.desc = d) (hc : d.cid = cid) (hk : k.ranks = 0)
    (status result : Nat) (hs : status < 256) :
    (ρ.finish q cid.toNat status result).flush.gw Rg.RES_HOLD = ρ.gw Rg.RES_HOLD := by
  subst hd hc
  obtain ⟨-, honly, -⟩ := Rod.serving_finish (Rod.serving_self h ((endRegs q).filter (· ≠ Rg.RES_HOLD)))
    (fun a ha => by by_cases e : a = Rg.RES_HOLD
                    · exact .inr ⟨e, hk⟩
                    · exact .inl (List.mem_filter.2 ⟨ha, by simpa using e⟩))
    (Rod.posting_of_rings h.rings hp) status result hs
  exact (Rod.only_flush honly).1 _ (by simp) (by decide) (by decide)

end

/-- A register on a page of none of the end's registers, or at another offset of its page, is left. -/
theorem not_endRegs {q : Fin 16} {a : Nat} (h : (a / 0x1000 < 0x10 ∨ 0x21 < a / 0x1000) ∨
    (a / 0x1000 = 0x20 ∧ a % 0x10 ≠ 4) ∨ (a / 0x1000 = 0x21 ∧ a % 0x1000 ≠ 0x44) ∨
    (a / 0x1000 < 0x20 ∧ a % 0x1000 ≠ 0x68 ∧ a % 0x1000 ≠ 0x10)) : a ∉ endRegs q := by
  simp only [endRegs, List.mem_cons, List.not_mem_nil, or_false, Rg.CQ_TAIL, Rg.IRQ_RAW, Rg.RES_HOLD, Rg.DMA_STAT]
  omega

theorem not_logRegs {a : Nat} (h : a / 0x1000 ≠ 0xD0) : a ∉ logRegs := by
  simp only [logRegs, List.mem_cons, List.not_mem_nil, or_false, Rg.FL_SEQ, Rg.IRQ_RAW]
  omega

/-! ### The effects, opcode by opcode (Table 6.5) -/

section
variable (ρ : Rod) (ps : RodId → Rod) (q cid : Nat) (c : Cmd) (v : Verdict)

theorem Rod.act_nop (h : c.desc.opc.toNat = 0x00) : ρ.act ps q cid c v = (ρ.finish q cid 0 ρ.ft, []) := by
  simp [Rod.act, Rod.perform, h, Rod.reply, ansOk]

theorem Rod.act_regWrite (h : c.desc.opc.toNat = 0x02) : ρ.act ps q cid c v =
    let r := Rod.regWrites ps (ρ.me.code + 1) (regPairs c.desc) ρ
    (r.1.finish q cid r.2.1 0, r.2.2) := by
  simp [Rod.act, Rod.perform, h, Rod.reply]

theorem Rod.act_regRead (h : c.desc.opc.toNat = 0x03) : ρ.act ps q cid c v =
    let r := Rod.readBytes (ρ.me.code + 1) c.desc.devOff.toNat (c.desc.len.toNat / 4) ρ
    (r.1.reply q cid c.desc ⟨0, 0, r.2⟩, []) := by
  simp [Rod.act, Rod.perform, h]

theorem Rod.act_memRead (h : c.desc.opc.toNat = 0x05) : ρ.act ps q cid c v =
    let r := Rod.readBytes (ρ.me.code + 1) c.desc.devOff.toNat (c.desc.len.toNat / 4) ρ
    (r.1.reply q cid c.desc ⟨0, c.desc.len.toNat, r.2⟩, []) := by
  simp [Rod.act, Rod.perform, h]

theorem Rod.act_faultExport (h : c.desc.opc.toNat = 0x09) : ρ.act ps q cid c v =
    (ρ.reply q cid c.desc (ρ.exportBytes c.desc), []) := by
  simp [Rod.act, Rod.perform, h]

theorem Rod.act_imageVerify (h : c.desc.opc.toNat = 0x07) : ρ.act ps q cid c v =
    ((ρ.verifyStaged v).2.finish q cid 0 (ρ.verifyStaged v).1, []) := by
  simp [Rod.act, h]

theorem Rod.act_attest_some (h : c.desc.opc.toNat = 0x0C) {bs : List Byte} {ρ1 : Rod}
    (ha : ρ.attest (padTo 32 c.desc.arg) = (some bs, ρ1)) :
    ρ.act ps q cid c v = (ρ1.reply q cid c.desc ⟨0, ρ.otp.hss, bs⟩, []) := by
  simp [Rod.act, h, ha]

theorem Rod.act_attest_none (h : c.desc.opc.toNat = 0x0C) {ρ1 : Rod} (ha : ρ.attest (padTo 32 c.desc.arg) = (none, ρ1)) :
    ρ.act ps q cid c v = (ρ1.finish q cid 9 0x0431, []) := by
  simp [Rod.act, h, ha]

theorem Rod.act_lockAcq (h : c.desc.opc.toNat = 0x0D) : ρ.act ps q cid c v =
    let m := ρ.g (Fl.QP_LOCKS_HELD q) ||| (argAt c.desc 0x20 1 % 16)
    (((ρ.p (Fl.QP_LOCKS_HELD q) m).modCmd q cid fun c => { c with ranks := 0 }).finish q cid 0 m, []) := by
  simp [Rod.act, h]

theorem Rod.act_lockRel (h : c.desc.opc.toNat = 0x0E) : ρ.act ps q cid c v =
    let held := ρ.g (Fl.QP_LOCKS_HELD q)
    let rel := held &&& argAt c.desc 0x20 1
    (((ρ.dropRanks q rel).p (Fl.QP_LOCKS_HELD q) (held - rel)).finish q cid 0 (held - rel), []) := by
  simp [Rod.act, h]

theorem Rod.act_reportRing (h : c.desc.opc.toNat = 0x0F) : ρ.act ps q cid c v =
    let n := c.desc.len.toNat / 64
    ((ρ.putQp q { ρ.qp q with ring := if n = 0 then none else some (c.desc.addr.toNat, n, 0) }).finish q cid 0 n, []) := by
  simp [Rod.act, h]

end

/-! ### Answers with data -/

section
variable {σ ρ Q : Rod} {q : Fin 16} {k : Cmd} {l : List Cmd} {ex : List Nat} {cid : BitVec 16} {d : Desc} {ch : Nat}

/-- A change of the OTP memory. -/
theorem Rod.serving_modOtp (f : Otp → Otp) (h : σ.serving ρ q l ex Q) : σ.serving (ρ.modOtp f) q l ex { Q with otp := f Q.otp } := by
  obtain ⟨⟨hk, ha⟩, hrings, hqp, hidle, hcarry⟩ := h
  refine ⟨⟨Rod.keepsRegs_regs _ ρ _ _ rfl hk, ?_⟩, hrings, hqp, hidle, Rod.carries_same hcarry⟩
  unfold Rod.agrees Rod.modOtp at *
  rw [ha]

/-- The upper halves held for reads change. -/
theorem Rod.serving_hiCap (m : Sparse Word) (h : σ.serving ρ q l ex Q) : σ.serving { ρ with hiCap := m } q l ex { Q with hiCap := m } := by
  obtain ⟨⟨hk, ha⟩, hrings, hqp, hidle, hcarry⟩ := h
  refine ⟨⟨Rod.keepsRegs_regs _ ρ _ _ rfl hk, ?_⟩, hrings, hqp, hidle, Rod.carries_same hcarry⟩
  unfold Rod.agrees at *
  rw [ha]

theorem Rod.serving_toHost (a : Nat) (bs : List Byte) (h : σ.serving ρ q l ex Q) : σ.serving (ρ.toHost a bs) q l ex Q :=
  Rod.serving_hostWr _ _ _ h

theorem dmaBytes_addr (ch : Nat) : (Fl.DMA_BYTES_BYTES ch).addr = Rg.DMA_BYTES ch := rfl

theorem Rod.serving_moved (n : Nat) (hch : ch < 4) (hx : Rg.DMA_BYTES ch ∈ ex) (h : σ.serving ρ q l ex Q) :
    σ.serving (ρ.moved ch n) q l ex Q :=
  Rod.serving_p (Fl.DMA_BYTES_BYTES ch) _ hx (not_ringRegs (by rw [dmaBytes_addr]; unfold Rg.DMA_BYTES; omega)) h

theorem Rod.moved_gw (ρ : Rod) (n a : Nat) (h : a ≠ Rg.DMA_BYTES ch) : (ρ.moved ch n).gw a = ρ.gw a :=
  Rod.gw_p_ne ρ (Fl.DMA_BYTES_BYTES ch) a _ h

theorem Rod.moved_counts (ρ : Rod) (ch n : Nat) :
    (ρ.moved ch n).g (Fl.DMA_BYTES_BYTES ch) = min 0xFFFFFFFF (ρ.g (Fl.DMA_BYTES_BYTES ch) + n) := by
  have hle : satN 0xFFFFFFFF (ρ.g (Fl.DMA_BYTES_BYTES ch) + n) < 2 ^ 32 := by rw [satN_eq_min]; omega
  unfold Rod.moved
  rw [Rod.g_p ρ (Fl.DMA_BYTES_BYTES ch) _ (by simp [Fl.DMA_BYTES_BYTES])]
  exact (Nat.mod_eq_of_lt hle).trans (satN_eq_min _ _)

theorem Rod.hostWr_gw (n : Nat) (ρ : Rod) (a : Nat) (bs : List Byte) (i : Nat) : (Rod.hostWr n ρ a bs).gw i = ρ.gw i := by
  induction n generalizing ρ a bs with
  | zero => rfl
  | succ n ih =>
    unfold Rod.hostWr
    split
    · rfl
    · exact ih _ _ _

theorem Rod.toHost_gw (ρ : Rod) (a : Nat) (bs : List Byte) (i : Nat) : (ρ.toHost a bs).gw i = ρ.gw i := Rod.hostWr_gw _ _ _ _ _

theorem Rod.reply_data (h : σ.serving ρ q l ex Q) (hch : σ.chanOf q d = some ch) {bs : List Byte} (hb : bs ≠ []) (cid status result : Nat) :
    ρ.reply q cid d ⟨status, result, bs⟩ = ((ρ.toHost d.addr.toNat bs).moved ch bs.length).finish q cid status result := by
  have he : bs.isEmpty = false := by simpa using hb
  unfold Rod.reply
  simp only [he, Rod.chanOf_of_serving h, hch]
  rfl

/-- The end of a command that gives data: they go to the host first, and DMA_BYTES counts them (R200). -/
theorem Rod.serving_replies (h : σ.serving ρ q [k] ex Q) (hx : endsIn q k ex) (hb : Rg.DMA_BYTES ch ∈ ex) (hp : σ.posting q)
    (hd : k.desc = d) (hc : d.cid = cid) (hch : σ.chanOf q d = some ch) {bs : List Byte} (hne : bs ≠ []) (result : Nat) :
    let τ := (ρ.reply q cid.toNat d ⟨0, result, bs⟩).flush
    (σ.posts τ q cid 0 result d.irq ∧ σ.only τ ex { Q with hp := τ.hp }) ∧ (∀ o ∈ (ρ.toHost d.addr.toNat bs).out, o ∈ τ.out) ∧
      τ.g (Fl.DMA_BYTES_BYTES ch) = min 0xFFFFFFFF (ρ.g (Fl.DMA_BYTES_BYTES ch) + bs.length) ∧
      (∀ {c sv pg : Nat}, ρ.noted c sv pg → τ.recorded c sv pg) ∧ (∀ p i, p < 0x10 → ρ.raised p i → τ.raised p i) := by
  have hlt := Rod.chanOf_lt hch
  rw [Rod.reply_data h hch hne]
  have hmoved : σ.serving ((ρ.toHost d.addr.toNat bs).moved ch bs.length) q [k] ex Q :=
    Rod.serving_moved _ hlt hb (Rod.serving_toHost _ _ h)
  obtain ⟨hposts, honly, -⟩ := Rod.serving_ends hmoved hx hp hd hc 0 result (by decide)
  obtain ⟨hsent, hregs, hrecs⟩ := Rod.finish_outlasts hmoved hp hd hc 0 result (by decide)
  have hbytes : Rg.DMA_BYTES ch ∉ endRegs q ∧ Rg.DMA_BYTES ch ∉ logRegs := by
    unfold Rg.DMA_BYTES
    exact ⟨not_endRegs (by omega), not_logRegs (by omega)⟩
  have hcarry : ρ.carries (fun _ => ()) (fun _ => false) ((ρ.toHost d.addr.toNat bs).moved ch bs.length) :=
    (Rod.serving_moved (ex := [Rg.DMA_BYTES ch]) _ hlt (by simp) (Rod.serving_toHost _ _ (Rod.serving_self h _))).carry
  refine ⟨⟨hposts, honly⟩, fun o ho => hsent o ho, ?_, fun hn => hrecs (hcarry.noted hn), fun p i hp' hr => ?_⟩
  · rw [Rod.g_of_gw _ _ _ (hregs (Fl.DMA_BYTES_BYTES ch).addr hbytes.1 hbytes.2), Rod.moved_counts,
      Rod.g_of_gw ρ (ρ.toHost _ _) _ (Rod.toHost_gw ρ _ _ _)]
  · have hirq : Rg.IRQ_RAW p ∉ endRegs q ∧ Rg.IRQ_RAW p ∉ logRegs ∧ Rg.IRQ_RAW p ≠ Rg.DMA_BYTES ch := by
      unfold Rg.IRQ_RAW Rg.DMA_BYTES
      exact ⟨not_endRegs (by omega), not_logRegs (by omega), by omega⟩
    unfold Rod.raised
    rw [hregs _ hirq.1 hirq.2.1]
    exact (congrArg (wBit · i) ((Rod.moved_gw _ _ _ hirq.2.2).trans (Rod.toHost_gw ρ _ _ _))).trans hr

theorem Rod.toHost_mem (ρ : Rod) (a : Nat) (bs : List Byte) (h0 : bs ≠ []) (hl : bs.length ≤ 128) (ha : a % 4096 + bs.length ≤ 4096) :
    Out.hostWrite a bs ∈ (ρ.toHost a bs).out := by
  rw [Rod.toHost_one ρ a bs h0 hl ha]
  exact List.mem_append_right _ (List.mem_singleton_self _)

end

/-! ### A command seen from the module -/

theorem completes_onCmd {i : Instr} {opc : Nat} {s : State} {r : RodId} {q : Fin 16} {cid : BitVec 16} {v : Verdict} {c : Cmd}
    {P : State → Prop} {x : Rod} {l : List Side} (he : exec i s = onCmd opc s r q cid v) (hc : (s.rod r).cmd q cid.toNat = some c)
    (ho : c.desc.opc.toNat = opc) (hx : (s.rod r).runCmd s.rod q cid.toNat v = (x, l))
    (hl : l.foldl (fun t e => s.side r t e) (s.putRod r x.flush) = s.putRod r x.flush) (h : ∀ t : State, t.rod r = x.flush → P t) :
    completes i s P := by
  refine ⟨s.putRod r x.flush, ?_, h _ (State.rod_putRod _ _ _)⟩
  rw [he]
  unfold onCmd onQueue
  simp only [hc, ho, if_true, hx, hl]

end Sys2Proof.Machine
end

section
/-! Each command of Table 6.5 that ends at once, from its start to its completion. -/

namespace Sys2Proof.Machine

/-- An effect that the partners do not see: a register write that is no pump retry (R385). -/
def Side.silent : Side → Prop
  | .wrote _ a data => retryAxis a (data.setWidth 64) = none
  | _ => False

theorem State.side_silent (s : State) (r : RodId) (t : State) (e : Side) (h : e.silent) : s.side r t e = t := by
  cases e with
  | wrote path a data =>
    unfold Side.silent at h
    unfold State.side State.passRetry
    simp only [h]
  | gone => exact h.elim
  | held => exact h.elim

theorem State.sides_silent (s : State) (r : RodId) (l : List Side) (h : ∀ e ∈ l, e.silent) (t : State) :
    l.foldl (fun t e => s.side r t e) t = t := by
  induction l with
  | nil => rfl
  | cons e l ih =>
    rw [List.foldl_cons, State.side_silent s r t e (h e (by simp))]
    exact ih fun e he => h e (List.mem_cons_of_mem _ he)

/-- The command that waits alone in queue `q` runs in its rod and ends there, unseen by the partners, with this status and result;
but for what its end and the registers `ex` show the rod is as `Q` says, and `P` holds of it. -/
def Rod.endsAs (σ : Rod) (ps : RodId → Rod) (q : Fin 16) (cid : BitVec 16) (c : Cmd) (v : Verdict) (status result : Nat) (ex : List Nat)
    (Q : Rod → Rod) (P : Rod → Prop) : Prop :=
  ∃ x l, σ.runCmd ps q cid.toNat v = (x, l) ∧ (∀ e ∈ l, e.silent) ∧ σ.posts x.flush q cid status result c.desc.irq ∧
    σ.only x.flush (endRegs q ++ ex) { Q x.flush with hp := x.flush.hp } ∧ P x.flush

theorem completes_endsAs {i : Instr} {opc : Nat} {s : State} {r : RodId} {q : Fin 16} {cid : BitVec 16} {v : Verdict} {c : Cmd}
    {status result : Nat} {ex : List Nat} {Q : Rod → Rod} {P : Rod → Prop} (he : exec i s = onCmd opc s r q cid v)
    (hw : (s.rod r).waitsAlone q cid c) (ho : c.desc.opc.toNat = opc) (h : (s.rod r).endsAs s.rod q cid c v status result ex Q P) :
    completes i s fun t => (s.rod r).posts (t.rod r) q cid status result c.desc.irq ∧
      (s.rod r).only (t.rod r) (endRegs q ++ ex) { Q (t.rod r) with hp := (t.rod r).hp } ∧ P (t.rod r) := by
  obtain ⟨-, hcmds, -, -, -, hcid, -⟩ := hw
  obtain ⟨x, l, hx, hl, hend⟩ := h
  exact completes_onCmd he (Rod.cmd_alone hcmds (by rw [hcid])) ho hx (State.sides_silent s r l hl _) fun t ht => by rw [ht]; exact hend

section
variable {σ : Rod} {q : Fin 16} {cid : BitVec 16} {c : Cmd} (ps : RodId → Rod) (v : Verdict)

theorem endsIn_append (q : Fin 16) (k : Cmd) (ex : List Nat) : endsIn q k (endRegs q ++ ex) :=
  endsIn_of_subset k (List.subset_append_left _ _)

/-- A command that ends by `finish` alone. -/
theorem Rod.endsAs_finish {ps : RodId → Rod} {v : Verdict} {ρ Q : Rod} {k : Cmd} {status result : Nat} {ex : List Nat} {P : Rod → Prop}
    (hw : σ.waitsAlone q cid c)
    {l : List Side} (hrun : σ.runCmd ps q cid.toNat v = (ρ.finish q cid.toNat status result, l)) (hk : k.desc = c.desc)
    (h : σ.serving ρ q [k] (endRegs q ++ ex) Q) (hs : status < 256) (hP : P (ρ.finish q cid.toNat status result).flush)
    (hl : ∀ e ∈ l, e.silent := by simp) : σ.endsAs ps q cid c v status result ex (fun _ => Q) P := by
  have hcid : c.desc.cid = cid := by obtain ⟨-, -, -, -, -, h, -⟩ := hw; exact h
  obtain ⟨hposts, honly, -⟩ := Rod.serving_ends h (endsIn_append q k ex) (Rod.posting_of_waitsAlone hw) hk hcid status result hs
  exact ⟨_, _, hrun, hl, hposts, honly, hP⟩

theorem Rod.portOnly_ft {ρ : Rod} (h : σ.portOnly ρ) : ρ.ft = σ.ft := by
  unfold Rod.ft
  rw [h.rest]

theorem Rod.serving_append {ρ Q : Rod} {l : List Cmd} (ex : List Nat) (h : σ.serving ρ q l (endRegs q) Q) :
    σ.serving ρ q l (endRegs q ++ ex) Q := Rod.serving_mono (List.subset_append_left _ _) h

theorem Rod.nop_ends (hw : σ.waitsAlone q cid c) (hft : c.desc.atFt = false) (ho : c.desc.opc.toNat = 0x00) :
    σ.endsAs ps q cid c v 0 σ.ft [] (fun _ => σ) fun _ => True := by
  obtain ⟨ρ, k, hrun, hk, hs, hport, -⟩ := Rod.runCmd_acts hw hft (.inl (by simp [rankNeed, ho])) ps v
  rw [Rod.act_nop _ _ _ _ _ _ ho, Rod.portOnly_ft hport] at hrun
  exact Rod.endsAs_finish hw hrun hk (Rod.serving_append [] hs) (by decide) trivial

/-! ### LOCK_ACQ and LOCK_REL (R222) -/

theorem qpLocks_addr (q : Fin 16) : (Fl.QP_LOCKS_HELD q).addr = Rg.QP_LOCKS q := rfl

theorem qpLocks_off (q : Fin 16) :
    Rg.QP_LOCKS q ∉ ringRegs q ∧ Rg.QP_LOCKS q ∉ endRegs q ∧ Rg.QP_LOCKS q ∉ logRegs ∧ Rg.QP_LOCKS q ∉ portRegs ∧
      Rg.RES_HOLD ≠ Rg.QP_LOCKS q := by
  refine ⟨not_ringRegs ?_, not_endRegs ?_, not_logRegs ?_, ?_, ?_⟩ <;> simp only [Rg.QP_LOCKS, portRegs, Rg.RES_HOLD, Rg.DMA_STAT,
    List.mem_cons, List.not_mem_nil, or_false] <;> omega

theorem Rod.qpLocks_p (ρ : Rod) (m : Nat) (hm : m < 16) : (ρ.p (Fl.QP_LOCKS_HELD q) m).g (Fl.QP_LOCKS_HELD q) = m :=
  (Rod.g_p ρ (Fl.QP_LOCKS_HELD q) m (by simp [Fl.QP_LOCKS_HELD])).trans (Nat.mod_eq_of_lt hm)

theorem Rod.qpLocks_p_gw (ρ : Rod) (m a : Nat) (h : a ≠ Rg.QP_LOCKS q) : (ρ.p (Fl.QP_LOCKS_HELD q) m).gw a = ρ.gw a :=
  Rod.gw_p_ne ρ (Fl.QP_LOCKS_HELD q) a m h

theorem Rod.holder_of_ranksHeld {ρ : Rod} {m : Nat} (h : ρ.ranksHeld q m) (k : Fin 4) :
    ρ.holder (k.val + 1) = if m.testBit k.val then q.val else 0xFF := h (k.val + 1) (by omega) (by omega)

theorem Rod.holder_of_gw {ρ ρ' : Rod} (e : ρ'.gw Rg.RES_HOLD = ρ.gw Rg.RES_HOLD) (r : Nat) : ρ'.holder r = ρ.holder r :=
  Rod.g_of_gw ρ ρ' (rankF r) (by rw [rankF_addr]; exact e)

theorem Rod.lockAcq_ends (hw : σ.waitsAlone q cid c) (hft : c.desc.atFt = false) (hu : σ.unranked q) (ho : c.desc.opc.toNat = 0x0D) :
    let m := argAt c.desc 0x20 1
    σ.endsAs ps q cid c v 0 m [Rg.QP_LOCKS q] (fun _ => σ) fun τ => τ.g (Fl.QP_LOCKS_HELD q) = m ∧
      ∀ k : Fin 4, τ.holder (k.val + 1) = if m.testBit k.val then q.val else 0xFF := by
  have hm : argAt c.desc 0x20 1 < 16 := by
    have harg : argStatus c.desc = 0 := by obtain ⟨-, -, -, -, -, -, -, -, -, -, h, -⟩ := hw; exact h
    by_contra hge
    simp [argStatus, ho, show ¬ argAt c.desc 0x20 1 ≤ 15 by omega] at harg
  have hcid : c.desc.cid = cid := by obtain ⟨-, -, -, -, -, h, -⟩ := hw; exact h
  obtain ⟨hring, hend, hlog, hprt, hres⟩ := qpLocks_off q
  obtain ⟨ρ, k, hrun, hk, hs, hport, hheld, -⟩ := Rod.runCmd_acts hw hft (.inr hu) ps v
  have hneed : rankNeed c.desc = argAt c.desc 0x20 1 := by simp [rankNeed, ho, Nat.mod_eq_of_lt hm]
  have hnone : ρ.g (Fl.QP_LOCKS_HELD q) = 0 := (Rod.g_of_gw σ ρ (Fl.QP_LOCKS_HELD q) (hport.regs _ hprt)).trans hu.2.2
  rw [Rod.act_lockAcq _ _ _ _ _ _ ho, hnone, Nat.zero_or, Nat.mod_eq_of_lt hm] at hrun
  have hserve := Rod.serving_modCmd (cid := cid.toNat) (fun k => { k with ranks := 0 }) (by rw [hk, hcid])
    (Rod.serving_p (Fl.QP_LOCKS_HELD q) (argAt c.desc 0x20 1)
    (ex := endRegs q ++ [Rg.QP_LOCKS q]) (by simp [qpLocks_addr]) hring (Rod.serving_append _ hs))
  refine Rod.endsAs_finish (k := { k with ranks := 0 }) hw hrun hk hserve (by decide) ⟨?_, fun i => ?_⟩
  · exact (Rod.g_of_gw _ _ (Fl.QP_LOCKS_HELD q) ((Rod.finish_outlasts hserve (Rod.posting_of_waitsAlone hw) hk hcid 0 _ (by decide)).regs _
      hend hlog)).trans (Rod.qpLocks_p ρ _ hm)
  · have hgw := Rod.qpLocks_p_gw ρ (argAt c.desc 0x20 1) _ hres
    rw [Rod.holder_of_gw (Rod.finish_resHold hserve (Rod.posting_of_waitsAlone hw) hk hcid rfl 0 _ (by decide))]
    rw [hneed] at hheld
    exact (Rod.holder_of_gw hgw _).trans (Rod.holder_of_ranksHeld (hheld hu) i)

/-- The ranks of a list that `n` holds are free after it gives them up, and no other changes. -/
theorem Rod.each_drop_holder (n i : Nat) (hi : 1 ≤ i ∧ i ≤ 4) (l : List Nat) (hl : ∀ r ∈ l, 1 ≤ r ∧ r ≤ 4) (ρ : Rod) :
    (ρ.each l fun r q => if q.holder r = n then q.p (rankF r) 0xFF else q).holder i =
      if i ∈ l ∧ ρ.holder i = n then 0xFF else ρ.holder i := by
  unfold Rod.each
  induction l generalizing ρ with
  | nil => simp
  | cons r t ih =>
    rw [List.foldl_cons, ih (fun k hk => hl k (List.mem_cons_of_mem _ hk))]
    have hstep : Rod.holder (if ρ.holder r = n then ρ.p (rankF r) 0xFF else ρ) i =
        if i = r ∧ ρ.holder i = n then 0xFF else ρ.holder i := by
      by_cases he : i = r
      · subst he
        by_cases hn : ρ.holder i = n
        · simp [hn, Rod.holder_p ρ i i 0xFF hi hi]
        · simp [hn]
      · by_cases hn : ρ.holder r = n
        · simp [hn, he, Rod.holder_p ρ r i 0xFF (hl r (by simp)) hi]
        · simp [hn, he]
    simp only [hstep, List.mem_cons]
    by_cases he : i = r
    · subst he
      by_cases hn : ρ.holder i = n <;> simp [hn]
    · simp [he]

theorem Rod.dropRanks_holder (ρ : Rod) (n m : Nat) (k : Fin 4) : (ρ.dropRanks n m).holder (k.val + 1) =
    if m.testBit k.val = true ∧ ρ.holder (k.val + 1) = n then 0xFF else ρ.holder (k.val + 1) := by
  have hmem : k.val + 1 ∈ ranksOf m ↔ m.testBit k.val = true := by
    rw [ranksOf, List.mem_filter, Nat.add_sub_cancel]
    exact and_iff_right (by have := k.isLt; simp; omega)
  unfold Rod.dropRanks
  rw [Rod.each_drop_holder n _ (by omega) _ (fun r => ranksOf_mem)]
  simp only [hmem]

theorem Rod.dropRanks_gw (ρ : Rod) (n m a : Nat) (h : a ≠ Rg.RES_HOLD) : (ρ.dropRanks n m).gw a = ρ.gw a := by
  refine Rod.each_keeps (fun p => p.gw a) _ (fun r p => ?_) _ ρ
  split
  · exact Rod.gw_p_ne p (rankF r) a _ (by rwa [rankF_addr])
  · rfl

theorem Rod.lockRel_ends (hw : σ.waitsAlone q cid c) (hft : c.desc.atFt = false) (ho : c.desc.opc.toNat = 0x0E) :
    let was := σ.g (Fl.QP_LOCKS_HELD q)
    let gone := was &&& argAt c.desc 0x20 1
    σ.endsAs ps q cid c v 0 (was - gone) [Rg.QP_LOCKS q] (fun _ => σ) fun τ => τ.g (Fl.QP_LOCKS_HELD q) = was - gone ∧
      ∀ k : Fin 4, τ.holder (k.val + 1) =
        if gone.testBit k.val = true ∧ σ.holder (k.val + 1) = q.val then 0xFF else σ.holder (k.val + 1) := by
  dsimp only
  have hcid : c.desc.cid = cid := by obtain ⟨-, -, -, -, -, h, -⟩ := hw; exact h
  obtain ⟨hring, hend, hlog, hprt, hres⟩ := qpLocks_off q
  have hneed : rankNeed c.desc = 0 := by simp [rankNeed, ho]
  obtain ⟨ρ, k, hrun, hk, hs, hport, -, hfree⟩ := Rod.runCmd_acts hw hft (.inl hneed) ps v
  obtain ⟨hranks, hsame⟩ := hfree hneed
  have hwas : ρ.g (Fl.QP_LOCKS_HELD q) = σ.g (Fl.QP_LOCKS_HELD q) := Rod.g_of_gw σ ρ (Fl.QP_LOCKS_HELD q) (hport.regs _ hprt)
  rw [Rod.act_lockRel _ _ _ _ _ _ ho, hwas] at hrun
  dsimp only at hrun
  have hlt : σ.g (Fl.QP_LOCKS_HELD q) < 16 := wBits_lt (σ.gw (Fl.QP_LOCKS_HELD q).addr) 0 4
  generalize σ.g (Fl.QP_LOCKS_HELD q) = was at hrun hlt ⊢
  generalize was &&& argAt c.desc 0x20 1 = gone at hrun ⊢
  have hserve := Rod.serving_p (Fl.QP_LOCKS_HELD q) (was - gone) (ex := endRegs q ++ [Rg.QP_LOCKS q]) (by simp [qpLocks_addr]) hring
    (Rod.serving_dropRanks q gone (by simp [endRegs]) (Rod.serving_append _ hs))
  refine Rod.endsAs_finish hw hrun hk hserve (by decide) ⟨?_, fun i => ?_⟩
  · exact (Rod.g_of_gw _ _ (Fl.QP_LOCKS_HELD q) ((Rod.finish_outlasts hserve (Rod.posting_of_waitsAlone hw) hk hcid 0 _ (by decide)).regs _
      hend hlog)).trans (Rod.qpLocks_p _ _ (by omega))
  · have hgw := Rod.qpLocks_p_gw (ρ.dropRanks q gone) (was - gone) _ hres
    rw [Rod.holder_of_gw (Rod.finish_resHold hserve (Rod.posting_of_waitsAlone hw) hk hcid hranks 0 _ (by decide)), Rod.holder_of_gw hgw,
      Rod.dropRanks_holder, Rod.holder_of_gw hsame]

/-! ### REPORT_RING -/

/-- The report ring of a queue is set. -/
def Rod.setRing (ρ : Rod) (q : Nat) (ring : Option (Nat × Nat × Nat)) : Rod := ρ.putQp q { ρ.qp q with ring := ring }

theorem Rod.qp_setRing (ρ : Rod) (q : Nat) (ring : Option (Nat × Nat × Nat)) : (ρ.setRing q ring).qp q = { ρ.qp q with ring := ring } :=
  Rod.qp_putQp _ _ _


theorem Rod.reportRing_ends (hw : σ.waitsAlone q cid c) (hft : c.desc.atFt = false) (ho : c.desc.opc.toNat = 0x0F) :
    let n := c.desc.len.toNat / 64
    σ.endsAs ps q cid c v 0 n [] (fun _ => σ) fun τ => (τ.qp q).ring = if n = 0 then none else some (c.desc.addr.toNat, n, 0) := by
  have hcid : c.desc.cid = cid := by obtain ⟨-, -, -, -, -, h, -⟩ := hw; exact h
  obtain ⟨ρ, k, hrun, hk, hs, -⟩ := Rod.runCmd_acts hw hft (.inl (by simp [rankNeed, ho])) ps v
  rw [Rod.act_reportRing _ _ _ _ _ _ ho] at hrun
  dsimp only at hrun ⊢
  generalize (if c.desc.len.toNat / 64 = 0 then none else some (c.desc.addr.toNat, c.desc.len.toNat / 64, 0)) = ring at hrun ⊢
  change σ.runCmd ps q cid.toNat v = ((ρ.setRing q ring).finish q cid.toNat 0 (c.desc.len.toNat / 64), []) at hrun
  have hqp := Rod.qp_setRing ρ q ring
  have hrings : ∀ a ∈ ringRegs q, (ρ.setRing q ring).gw a = σ.gw a := hs.rings
  have honly : σ.only (ρ.setRing q ring) (endRegs q ++ []) { σ with hp := (ρ.setRing q ring).hp } :=
    Rod.only_hp _ (Rod.serving_append [] hs).only
  generalize ρ.setRing q ring = ρ' at hrun hqp hrings honly
  have hself := Rod.serving_refl ρ' q (endRegs q ++ []) (by rw [hqp]; exact hs.held)
  rw [show (ρ'.qp q).cmds = [k] by rw [hqp]; exact hs.cmds] at hself
  obtain ⟨hposts, hleft, hring⟩ := Rod.serving_ends hself (endsIn_append q k []) (Rod.posting_of_rings hrings (Rod.posting_of_waitsAlone hw))
    hk hcid 0 (c.desc.len.toNat / 64) (by decide)
  refine ⟨_, _, hrun, by simp, Rod.posts_of_rings hrings ?_ hposts, Rod.only_chain honly hleft, ?_⟩
  · rw [hqp]; exact hs.phase
  · exact hring.trans (by rw [hqp])

/-! ### IMAGE_VERIFY (R615) -/

/-- The failed step of the verification of what is staged (Table 19.3). -/
def Rod.stagedFault (ρ : Rod) (v : Verdict) : Option VerFault :=
  if ρ.sec.staged.isEmpty then some (0x0405, 0x004, [(0, 1, ρ.g Fl.SEC_STAT_STAGED_TYPE)])
  else ρ.verifyImage (ρ.g Fl.SEC_STAT_STAGED_TYPE) ρ.sec.staged v

theorem Rod.verifyStaged_some (ρ : Rod) (v : Verdict) (e : VerFault) (h : ρ.stagedFault v = some e) :
    ρ.verifyStaged v = (e.1, (((ρ.irq 0x004 5).flt e.1 sevWarn e.2.1 e.2.2).p Fl.SEC_STAT_STAGED_OK 0)) := by
  unfold Rod.verifyStaged
  unfold Rod.stagedFault at h
  simp only [h]
  rfl

theorem Rod.verifyStaged_none (ρ : Rod) (v : Verdict) (h : ρ.stagedFault v = none) :
    ρ.verifyStaged v = (0, (ρ.irq 0x004 5).p Fl.SEC_STAT_STAGED_OK 1) := by
  unfold Rod.verifyStaged
  unfold Rod.stagedFault at h
  simp only [h]

theorem Rod.stagedFault_of_portOnly {ρ : Rod} (h : σ.portOnly ρ) (v : Verdict) : ρ.stagedFault v = σ.stagedFault v := by
  have hsec : ρ.gw Rg.SEC_STAT = σ.gw Rg.SEC_STAT := h.regs _ (by decide)
  have hfw : ρ.gw Rg.IMG_FW = σ.gw Rg.IMG_FW := h.regs _ (by decide)
  have htype : ρ.g Fl.SEC_STAT_STAGED_TYPE = σ.g Fl.SEC_STAT_STAGED_TYPE := Rod.g_of_gw _ _ _ hsec
  have hver : ρ.g Fl.IMG_FW_VERSION = σ.g Fl.IMG_FW_VERSION := Rod.g_of_gw _ _ _ hfw
  have hotp : ρ.otp = σ.otp := by rw [h.rest]
  have hstaged : ρ.sec = σ.sec := by rw [h.rest]
  unfold Rod.stagedFault Rod.verifyImage Rod.slotFault
  rw [htype, hver, hotp, hstaged]

theorem secStat_off (q : Fin 16) : Rg.SEC_STAT ∉ ringRegs q ∧ Rg.SEC_STAT ∉ endRegs q ∧ Rg.SEC_STAT ∉ logRegs :=
  ⟨not_ringRegs (by unfold Rg.SEC_STAT; omega), not_endRegs (by unfold Rg.SEC_STAT; omega), not_logRegs (by unfold Rg.SEC_STAT; omega)⟩

theorem secIrq_off (q : Fin 16) : Rg.IRQ_RAW 0x004 ∉ endRegs q ∧ Rg.IRQ_RAW 0x004 ∉ logRegs :=
  ⟨not_endRegs (by unfold Rg.IRQ_RAW; omega), not_logRegs (by unfold Rg.IRQ_RAW; omega)⟩

/-- IMAGE_VERIFY answers the failed step, with its record, or 0; STAGED_OK says whether there was none. -/
theorem Rod.imageVerify_ends (hw : σ.waitsAlone q cid c) (hft : c.desc.atFt = false) (hu : σ.unranked q) (ho : c.desc.opc.toNat = 0x07) :
    σ.endsAs ps q cid c v 0 ((σ.stagedFault v).elim 0 (·.1)) [Rg.SEC_STAT, Rg.IRQ_RAW 0x004] (fun _ => σ) fun τ =>
      τ.b Fl.SEC_STAT_STAGED_OK = (σ.stagedFault v).isNone ∧ τ.raised 0x004 5 ∧
        ∀ e, σ.stagedFault v = some e → τ.recorded e.1 sevWarn e.2.1 := by
  have hcid : c.desc.cid = cid := by obtain ⟨-, -, -, -, -, h, -⟩ := hw; exact h
  have hp := Rod.posting_of_waitsAlone hw
  obtain ⟨hring, hend, hlog⟩ := secStat_off q
  obtain ⟨hiend, hilog⟩ := secIrq_off q
  obtain ⟨ρ, k, hrun, hk, hs, hport, -⟩ := Rod.runCmd_acts hw hft (.inr hu) ps v
  have hirq : σ.serving (ρ.irq 0x004 5) q [k] (endRegs q ++ [Rg.SEC_STAT, Rg.IRQ_RAW 0x004]) σ :=
    Rod.serving_irq 0x004 5 (by simp) (Rod.serving_append _ hs)
  have hset := Rod.irq_sets ρ 0x004 5 (by decide)
  rw [Rod.act_imageVerify _ _ _ _ _ _ ho] at hrun
  rw [← Rod.stagedFault_of_portOnly hport]
  cases hf : ρ.stagedFault v with
  | none =>
    rw [Rod.verifyStaged_none _ _ hf] at hrun
    have hserve := Rod.serving_p Fl.SEC_STAT_STAGED_OK 1 (by simp [Fl.SEC_STAT_STAGED_OK, Rg.SEC_STAT, Fld.addr]) hring hirq
    have hkeep := (Rod.finish_outlasts hserve hp hk hcid 0 0 (by decide)).regs
    refine Rod.endsAs_finish hw hrun hk hserve (by decide) ⟨?_, ?_, fun e he => nomatch he⟩
    · exact (Rod.b_congr _ _ Fl.SEC_STAT_STAGED_OK (hkeep _ hend hlog)).trans (Rod.b_p _ Fl.SEC_STAT_STAGED_OK true (by decide) rfl)
    · exact (congrArg (wBit · 5) ((hkeep _ hiend hilog).trans (Rod.gw_p_ne _ Fl.SEC_STAT_STAGED_OK _ _ (by decide)))).trans hset
  | some e =>
    rw [Rod.verifyStaged_some _ _ _ hf] at hrun
    have hserve := Rod.serving_p Fl.SEC_STAT_STAGED_OK 0 (by simp [Fl.SEC_STAT_STAGED_OK, Rg.SEC_STAT, Fld.addr]) hring
      (Rod.serving_flt e.1 sevWarn e.2.1 e.2.2 hirq)
    obtain ⟨-, hkeep, hrec⟩ := Rod.finish_outlasts hserve hp hk hcid 0 e.1 (by decide)
    refine Rod.endsAs_finish hw hrun hk hserve (by decide) ⟨?_, ?_, fun e' he => ?_⟩
    · exact (Rod.b_congr _ _ Fl.SEC_STAT_STAGED_OK (hkeep _ hend hlog)).trans (Rod.b_p _ Fl.SEC_STAT_STAGED_OK false (by decide) rfl)
    · exact (congrArg (wBit · 5) ((hkeep _ hiend hilog).trans (Rod.gw_p_ne _ Fl.SEC_STAT_STAGED_OK _ _ (by decide)))).trans hset
    · cases he
      exact hrec ((Rod.carries_p (V := fun _ => ()) (K := fun _ => false) _ _ rfl (Rod.carries_refl _ _ _)).noted (Rod.noted_fltAP _ _ _ _ _ _ _))

/-! ### ATTEST (R626 to R628) -/

theorem padTo_ne_nil (n : Nat) (l : List Byte) (h : n ≠ 0) : padTo n l ≠ [] := by
  unfold padTo
  rw [ne_eq, List.map_eq_nil_iff, List.range_eq_nil]
  exact h

theorem Rod.attest_none (ρ : Rod) (nonce : List Byte) (h : 1048576 ≤ ρ.otp.hss) : ρ.attest nonce =
    (none, if ρ.otp.empty then ρ else (ρ.modOtp fun o => { o with empty := true }).flt 0x0431 sevDegrade 0x004 []) := by
  unfold Rod.attest
  rw [if_pos h]

/-- The rod with the next index taken; the one that leaves a tenth of them shows and records it (R628). -/
def Rod.indexTaken (ρ : Rod) : Rod :=
  let ρ1 := ρ.modOtp fun o => { o with hss := ρ.otp.hss + 1 }
  if ρ.otp.hss + 1 = 943719 then (ρ1.irq 0x004 4).flt 0x0430 sevWarn 0x004 [(4, 4, ρ.otp.hss + 1)] else ρ1

theorem Rod.attest_some (ρ : Rod) (nonce : List Byte) (h : ρ.otp.hss < 1048576) :
    ∃ bs, bs ≠ [] ∧ ρ.attest nonce = (some bs, ρ.indexTaken) := by
  refine ⟨ρ.attestBody nonce ++ padTo 3060 (Config.attestSign ρ.me ρ.otp.hss (ρ.attestBody nonce)),
    List.append_ne_nil_of_right_ne_nil _ (padTo_ne_nil _ _ (by decide)), ?_⟩
  unfold Rod.attest
  rw [if_neg (Nat.not_le.2 h)]
  rfl

theorem dmaBytes_off (ch : Nat) (h : ch < 4) : Rg.DMA_BYTES ch ∉ portRegs := by
  simp only [portRegs, Rg.RES_HOLD, Rg.DMA_STAT, Rg.DMA_BYTES, List.mem_cons, List.not_mem_nil, or_false]
  omega

/-- The write channel of a queue. -/
theorem Rod.wrChan_lt (ρ : Rod) (q : Nat) : 2 + ρ.g (Fl.QP_CTRL_WR_CH q) < 4 := by
  have : ρ.g (Fl.QP_CTRL_WR_CH q) < 2 := wBits_lt _ _ _
  omega

/-- With an index left, ATTEST answers it, and its report goes to the host. -/
theorem Rod.attest_ends (hw : σ.waitsAlone q cid c) (hft : c.desc.atFt = false) (hu : σ.unranked q) (ho : c.desc.opc.toNat = 0x0C)
    (hidx : σ.otp.hss < 1048576) :
    σ.endsAs ps q cid c v 0 σ.otp.hss [Rg.DMA_BYTES (2 + σ.g (Fl.QP_CTRL_WR_CH q)), Rg.IRQ_RAW 0x004]
      (fun _ => { σ with otp := { σ.otp with hss := σ.otp.hss + 1 } })
      fun τ => σ.otp.hss + 1 = 943719 → τ.raised 0x004 4 ∧ τ.recorded 0x0430 sevWarn 0x004 := by
  have hcid : c.desc.cid = cid := by obtain ⟨-, -, -, -, -, h, -⟩ := hw; exact h
  have hch : σ.chanOf q c.desc = some (2 + σ.g (Fl.QP_CTRL_WR_CH q)) := by simp [Rod.chanOf, ho]
  obtain ⟨ρ, k, hrun, hk, hs, hport, -⟩ := Rod.runCmd_acts hw hft (.inr hu) ps v
  have hotp : ρ.otp = σ.otp := by rw [hport.rest]
  obtain ⟨bs, hne, hatt⟩ := Rod.attest_some ρ (padTo 32 c.desc.arg) (by rw [hotp]; exact hidx)
  rw [Rod.act_attest_some _ _ _ _ _ _ ho hatt, hotp] at hrun
  have htaken : σ.serving ρ.indexTaken q [k] (endRegs q ++ [Rg.DMA_BYTES (2 + σ.g (Fl.QP_CTRL_WR_CH q)), Rg.IRQ_RAW 0x004])
      { σ with otp := { σ.otp with hss := σ.otp.hss + 1 } } := by
    have hmod := Rod.serving_modOtp (fun o => { o with hss := ρ.otp.hss + 1 }) (Rod.serving_append
      [Rg.DMA_BYTES (2 + σ.g (Fl.QP_CTRL_WR_CH q)), Rg.IRQ_RAW 0x004] hs)
    unfold Rod.indexTaken
    rw [hotp] at hmod ⊢
    dsimp only
    split
    · exact Rod.serving_flt _ _ _ _ (Rod.serving_irq _ _ (by simp) hmod)
    · exact hmod
  obtain ⟨hend, -, -, hrecs, hirqs⟩ := Rod.serving_replies htaken (endsIn_append q k _) (by simp) (Rod.posting_of_waitsAlone hw) hk hcid hch
    hne σ.otp.hss
  refine ⟨_, _, hrun, by simp, hend.1, hend.2, fun hlast => ?_⟩
  have hwarned : ρ.indexTaken = ((ρ.modOtp fun o => { o with hss := ρ.otp.hss + 1 }).irq 0x004 4).flt 0x0430 sevWarn 0x004
      [(4, 4, ρ.otp.hss + 1)] := if_pos (by rw [hotp]; exact hlast)
  refine ⟨hirqs 0x004 4 (by decide) ?_, hrecs ?_⟩
  · rw [hwarned]
    exact Rod.irq_sets _ 0x004 4 (by decide)
  · rw [hwarned]
    exact Rod.noted_fltAP _ _ _ _ _ _ _

/-- Without an index left it is REFUSED, and the first time recorded. -/
theorem Rod.attest_refused (hw : σ.waitsAlone q cid c) (hft : c.desc.atFt = false) (hu : σ.unranked q) (ho : c.desc.opc.toNat = 0x0C)
    (hidx : 1048576 ≤ σ.otp.hss) :
    σ.endsAs ps q cid c v 9 0x0431 [] (fun _ => { σ with otp := { σ.otp with empty := true } })
      fun τ => σ.otp.empty = false → τ.recorded 0x0431 sevDegrade 0x004 := by
  have hcid : c.desc.cid = cid := by obtain ⟨-, -, -, -, -, h, -⟩ := hw; exact h
  obtain ⟨ρ, k, hrun, hk, hs, hport, -⟩ := Rod.runCmd_acts hw hft (.inr hu) ps v
  have hotp : ρ.otp = σ.otp := by rw [hport.rest]
  rw [Rod.act_attest_none _ _ _ _ _ _ ho (Rod.attest_none _ _ (by rw [hotp]; exact hidx)), hotp] at hrun
  have hmod := Rod.serving_append [] (Rod.serving_modOtp (fun o => { o with empty := true }) hs)
  cases he : σ.otp.empty with
  | true =>
    have hsame : ρ.modOtp (fun o => { o with empty := true }) = ρ := by
      have : { ρ.otp with empty := true } = ρ.otp := by rw [hotp, ← he]
      exact congrArg (fun o => { ρ with otp := o }) this
    rw [hsame] at hmod
    rw [he, if_pos rfl] at hrun
    exact Rod.endsAs_finish hw hrun hk hmod (by decide) fun e => absurd e (by simp)
  | false =>
    rw [he, if_neg (by simp)] at hrun
    have hserve := Rod.serving_flt 0x0431 sevDegrade 0x004 [] hmod
    exact Rod.endsAs_finish hw hrun hk hserve (by decide) fun _ =>
      (Rod.finish_outlasts hserve (Rod.posting_of_waitsAlone hw) hk hcid 9 _ (by decide)).records (Rod.noted_fltAP _ _ _ _ _ _ _)

/-! ### FAULT_EXPORT (R204) -/

theorem recBytes_length (e : FaultRec) : (recBytes e).length = 32 := by
  simp [recBytes, leBytes_length]

theorem Rod.logRecords_of_portOnly {ρ : Rod} (h : σ.portOnly ρ) (flash : Bool) : ρ.logRecords flash = σ.logRecords flash := by
  have hseq : ρ.g Fl.FL_SEQ_SEQ = σ.g Fl.FL_SEQ_SEQ := Rod.g_of_gw σ ρ Fl.FL_SEQ_SEQ (h.regs _ (by decide))
  have hlog : ρ.log = σ.log := by rw [h.rest]
  have hflash : ρ.flash = σ.flash := by rw [h.rest]
  unfold Rod.logRecords
  rw [hseq, hlog, hflash]

/-- What DMA_BYTES counts for a command that answers `n` bytes. -/
def Rod.counts (σ τ : Rod) (q : Fin 16) (n : Nat) : Prop :=
  τ.g (Fl.DMA_BYTES_BYTES (2 + σ.g (Fl.QP_CTRL_WR_CH q))) = min 0xFFFFFFFF (σ.g (Fl.DMA_BYTES_BYTES (2 + σ.g (Fl.QP_CTRL_WR_CH q))) + n)

/-- A command that ends with data for the host, of at most 128 bytes that cross no 4 KiB boundary. -/
theorem Rod.endsAs_reply {ps : RodId → Rod} {v : Verdict} {ρ Q : Rod} {k : Cmd} {result : Nat} {bs : List Byte} (hw : σ.waitsAlone q cid c)
    (hrun : σ.runCmd ps q cid.toNat v = (ρ.reply q cid.toNat c.desc ⟨0, result, bs⟩, [])) (hk : k.desc = c.desc)
    (h : σ.serving ρ q [k] (endRegs q) Q) (hch : σ.chanOf q c.desc = some (2 + σ.g (Fl.QP_CTRL_WR_CH q)))
    (hcount : ρ.gw (Rg.DMA_BYTES (2 + σ.g (Fl.QP_CTRL_WR_CH q))) = σ.gw (Rg.DMA_BYTES (2 + σ.g (Fl.QP_CTRL_WR_CH q)))) (h0 : bs ≠ [])
    (hl : bs.length ≤ 128) (ha : c.desc.addr.toNat % 4096 + bs.length ≤ 4096) :
    σ.endsAs ps q cid c v 0 result [Rg.DMA_BYTES (2 + σ.g (Fl.QP_CTRL_WR_CH q))] (fun _ => Q) fun τ =>
      Out.hostWrite c.desc.addr.toNat bs ∈ τ.out ∧ σ.counts τ q bs.length := by
  have hcid : c.desc.cid = cid := by obtain ⟨-, -, -, -, -, h, -⟩ := hw; exact h
  obtain ⟨hend, hsent, hbytes, -⟩ := Rod.serving_replies (Rod.serving_append [Rg.DMA_BYTES (2 + σ.g (Fl.QP_CTRL_WR_CH q))] h)
    (endsIn_append q k _) (by simp) (Rod.posting_of_waitsAlone hw) hk hcid hch h0 result
  refine ⟨_, _, hrun, by simp, hend.1, hend.2, hsent _ (Rod.toHost_mem _ _ _ h0 hl ha), hbytes.trans ?_⟩
  rw [Rod.g_of_gw σ ρ (Fl.DMA_BYTES_BYTES _) hcount]

theorem Rod.faultExport_ends (hw : σ.waitsAlone q cid c) (hft : c.desc.atFt = false) (hu : σ.unranked q) (ho : c.desc.opc.toNat = 0x09)
    (hlen : c.desc.len = 32#32) (ha : c.desc.addr.toNat % 32 = 0) :
    let l := σ.logRecords (argAt c.desc 0x20 1 == 1)
    (l = [] → σ.endsAs ps q cid c v 0 0 [] (fun _ => σ) fun _ => True) ∧
    (∀ e, l.head? = some e → σ.endsAs ps q cid c v 0 1 [Rg.DMA_BYTES (2 + σ.g (Fl.QP_CTRL_WR_CH q))] (fun _ => σ) fun τ =>
      Out.hostWrite c.desc.addr.toNat (recBytes e) ∈ τ.out ∧ σ.counts τ q 32) := by
  obtain ⟨ρ, k, hrun, hk, hs, hport, -⟩ := Rod.runCmd_acts hw hft (.inr hu) ps v
  have hone : c.desc.len.toNat / 32 = 1 := by rw [hlen]; rfl
  rw [Rod.act_faultExport _ _ _ _ _ _ ho, Rod.exportBytes, hone, Rod.logRecords_of_portOnly hport] at hrun
  generalize σ.logRecords (argAt c.desc 0x20 1 == 1) = l at hrun ⊢
  refine ⟨fun hl => ?_, fun e he => ?_⟩
  · subst hl
    exact Rod.endsAs_finish hw hrun hk (Rod.serving_append [] hs) (by decide) trivial
  · obtain ⟨t, rfl⟩ : ∃ t, l = e :: t := by
      cases l with
      | nil => cases he
      | cons x t => cases he; exact ⟨t, rfl⟩
    have hlen32 := recBytes_length e
    have hends := Rod.endsAs_reply (bs := recBytes e) hw (by simpa using hrun) hk hs (by simp [Rod.chanOf, ho])
      (hport.regs _ (dmaBytes_off _ (Rod.wrChan_lt σ q))) (fun e => by rw [e] at hlen32; cases hlen32) (by omega) (by omega)
    rwa [hlen32] at hends

/-! ### MEM_READ (R204) -/

/-- One word read by a command. -/
theorem Rod.readBytes_one (path a : Nat) (ρ : Rod) : Rod.readBytes path a 1 ρ =
    let r := if 0x100000 ≤ a then ρ.readWin path a else ρ.readWord path a 0#32
    (r.2, leBytes 4 r.1.toNat) := by
  simp [Rod.readBytes]

theorem winAt_le {a : Nat} (h : winAt a ≠ .none) : 0x100000 ≤ a := by
  by_contra hlt
  exact h (by unfold winAt; rw [if_pos (by omega)])

theorem leBytes_ne_nil {n : Nat} (x : Nat) (h : n ≠ 0) : leBytes n x ≠ [] := fun e => by
  have := leBytes_length n x
  rw [e] at this
  exact h this.symm

theorem Rod.memRead_ends (hw : σ.waitsAlone q cid c) (hft : c.desc.atFt = false) (ho : c.desc.opc.toNat = 0x05) (hlen : c.desc.len = 4#32)
    (ha : c.desc.addr.toNat % 4 = 0) (hwin : winAt c.desc.devOff.toNat ≠ .none) (hon : σ.winOn (winAt c.desc.devOff.toNat) = true) :
    σ.endsAs ps q cid c v 0 4 [Rg.DMA_BYTES (2 + σ.g (Fl.QP_CTRL_WR_CH q))] (fun _ => σ) fun τ =>
      Out.hostWrite c.desc.addr.toNat (leBytes 4 (σ.winWord c.desc.devOff.toNat).toNat) ∈ τ.out ∧ σ.counts τ q 4 := by
  obtain ⟨ρ, k, hrun, hk, hs, hport, -⟩ := Rod.runCmd_acts hw hft (.inl (by simp [rankNeed, ho])) ps v
  have hone : c.desc.len.toNat = 4 := by rw [hlen]; rfl
  have hread : ρ.readWin (ρ.me.code + 1) c.desc.devOff.toNat = (σ.winWord c.desc.devOff.toNat, ρ) := by
    unfold Rod.readWin
    rw [if_neg hwin, if_neg (by rw [Rod.winOn_of_portOnly hport, hon]; simp), Rod.winWord_of_portOnly hport]
  have hbytes := leBytes_length 4 (σ.winWord c.desc.devOff.toNat).toNat
  rw [Rod.act_memRead _ _ _ _ _ _ ho, hone, Rod.readBytes_one, if_pos (winAt_le hwin), hread] at hrun
  have hends := Rod.endsAs_reply hw hrun hk hs (by simp [Rod.chanOf, ho]) (hport.regs _ (dmaBytes_off _ (Rod.wrChan_lt σ q)))
    (leBytes_ne_nil _ (by decide)) (by rw [hbytes]; decide) (by rw [hbytes]; omega)
  rwa [hbytes] at hends

/-! ### REG_READ (R204) -/

/-- What is left but for the upper halves held, whatever they are. -/
theorem Rod.only_ownHiCap {ρ τ σ : Rod} {ex : List Nat} {m : Sparse Word} (h : ρ.only τ ex { σ with hiCap := m, hp := τ.hp }) :
    ρ.only τ ex { σ with hiCap := τ.hiCap, hp := τ.hp } := by
  have e : τ.hiCap = m := by
    have h2 := h.2
    unfold Rod.agrees at h2
    rw [h2]
  rw [e]
  exact h

theorem Rod.regRead_ends (hw : σ.waitsAlone q cid c) (hft : c.desc.atFt = false) (ho : c.desc.opc.toNat = 0x03) (hlen : c.desc.len = 4#32)
    (ha : c.desc.addr.toNat % 4 = 0) (hlow : 0x22000 ≤ c.desc.devOff.toNat) (hhigh : c.desc.devOff.toNat < 0x100000)
    (hon : sysServed (c.desc.devOff.toNat % 0x1000) = true ∨ σ.pageOn (c.desc.devOff.toNat / 0x1000) = true)
    (hnone : σ.hiCap.find? (fun e => e.1 == c.desc.devOff.toNat) = none) (hrc : rcMask c.desc.devOff.toNat = 0#32) :
    σ.endsAs ps q cid c v 0 0 [Rg.DMA_BYTES (2 + σ.g (Fl.QP_CTRL_WR_CH q))] (fun τ => { σ with hiCap := τ.hiCap }) fun τ =>
      Out.hostWrite c.desc.addr.toNat (leBytes 4 (σ.regView c.desc.devOff.toNat).toNat) ∈ τ.out ∧ σ.counts τ q 4 := by
  have harg : argStatus c.desc = 0 := by obtain ⟨-, -, -, -, -, -, -, -, -, -, h, -⟩ := hw; exact h
  have hpage : (pageInfo (c.desc.devOff.toNat / 0x1000)).isSome = true := by
    by_contra hp
    simp [argStatus, ho, hlen, inPages, hp] at harg
  obtain ⟨ρ, k, hrun, hk, hs, hport, -⟩ := Rod.runCmd_acts hw hft (.inl (by simp [rankNeed, ho])) ps v
  have hone : c.desc.len.toNat = 4 := by rw [hlen]; rfl
  have hserves : ρ.serves32 c.desc.devOff.toNat := ⟨hpage, by rw [Rod.pageOn_of_portOnly hport]; exact hon⟩
  have hcap : ρ.hiCap = σ.hiCap := by rw [hport.rest]
  have hread := Rod.readWord_plain ρ (ρ.me.code + 1) c.desc.devOff.toNat 0#32 hserves hrc
  rw [Rod.wordRead_of_none ρ _ (by rw [hcap]; exact hnone), Rod.regView_of_portOnly hport _ hlow] at hread
  have hbytes := leBytes_length 4 (σ.regView c.desc.devOff.toNat).toNat
  rw [Rod.act_regRead _ _ _ _ _ _ ho, hone, Rod.readBytes_one, if_neg (Nat.not_le.2 hhigh), hread] at hrun
  obtain ⟨x, l, hx, hl, hposts, honly, hP⟩ := Rod.endsAs_reply hw hrun hk (Rod.serving_hiCap _ hs) (by simp [Rod.chanOf, ho])
    (hport.regs _ (dmaBytes_off _ (Rod.wrChan_lt σ q))) (leBytes_ne_nil _ (by decide)) (by rw [hbytes]; decide) (by rw [hbytes]; omega)
  rw [hbytes] at hP
  exact ⟨x, l, hx, hl, hposts, Rod.only_ownHiCap honly, hP⟩

/-! ### REG_WRITE (R201) -/

/-- A 32-bit host write that is accepted at FAULT_IRQ sets its RW bits. -/
theorem Rod.hostWrite_FAULT_IRQ (ρ : Rod) (path : Path) (w : Word) (ha : ρ.accepts path Rg.FAULT_IRQ) :
    ρ.hostWrite ps path.code Rg.FAULT_IRQ 4 (w.setWidth 64) =
      ρ.pw Rg.FAULT_IRQ ((ρ.gw Rg.FAULT_IRQ &&& ~~~0x1F1F#32) ||| (w &&& 0x1F1F#32)) := by
  have hw : (w.setWidth 64).setWidth 32 = w := by ext i hi; simp
  obtain ⟨row, hrow, hrw, hrws, hw1c, hrwl⟩ := regRow_FAULT_IRQ
  have hlocked : ((regRow Rg.FAULT_IRQ).any fun k => k.rwl != 0#32) = false := by simp [hrow, hrwl]
  have hwrite := Rod.writeWord_accepts ρ ps path Rg.FAULT_IRQ w ha hlocked
  rw [Rod.writeReg_FAULT_IRQ, Rod.writePlain_rw ρ _ w row hrow (by rw [hrw]; decide) hrws hw1c (by decide), hrw] at hwrite
  obtain ⟨hans, -, -, hpage, -⟩ := ha
  unfold Rod.hostWrite
  rw [if_neg (by decide), if_neg (by rw [hans]; simp), if_neg (by decide),
    if_neg (by rw [Option.isNone_iff_eq_none]; exact Option.isSome_iff_ne_none.1 hpage),
    if_neg (by decide), hw, hwrite]
  rfl

theorem Rod.inner_of_d0 (ρ : Rod) (f : Rod → Rod) (hd : ρ.hp.d3 = false) (hf : (f ρ).hp = ρ.hp) : ρ.inner f = f ρ := by
  have e : ({ ρ with hp := { ρ.hp with d3 := false } } : Rod) = ρ := by rw [← hd]
  unfold Rod.inner
  dsimp only
  rw [e, ← hf]

/-- The one write of a REG_WRITE. -/
theorem Rod.regWrites_FAULT_IRQ (ρ : Rod) (path : Path) (w : Word) (ha : ρ.accepts path Rg.FAULT_IRQ) (hd : ρ.hp.d3 = false) :
    Rod.regWrites ps path.code [(Rg.FAULT_IRQ, w)] ρ =
      (ρ.pw Rg.FAULT_IRQ ((ρ.gw Rg.FAULT_IRQ &&& ~~~0x1F1F#32) ||| (w &&& 0x1F1F#32)), 0, [.wrote path.code Rg.FAULT_IRQ w]) := by
  have hwrite := Rod.hostWrite_FAULT_IRQ ps ρ path w ha
  have hinner : ρ.inner (fun r => r.hostWrite ps path.code Rg.FAULT_IRQ 4 (w.setWidth 64)) =
      ρ.pw Rg.FAULT_IRQ ((ρ.gw Rg.FAULT_IRQ &&& ~~~0x1F1F#32) ||| (w &&& 0x1F1F#32)) :=
    (Rod.inner_of_d0 ρ _ hd (by rw [hwrite]; rfl)).trans hwrite
  have hfree : ρ.noAccess path.code Rg.FAULT_IRQ = false := by
    obtain ⟨row, hrow, -, -, -, hrwl⟩ := regRow_FAULT_IRQ
    obtain ⟨-, -, -, -, herr⟩ := ha
    unfold Rod.noAccess
    simp [herr, hrow, hrwl]
  unfold Rod.regWrites
  rw [hinner, hfree]
  simp [Rod.regWrites]

theorem Rod.regWrite_ends (hw : σ.waitsAlone q cid c) (hft : c.desc.atFt = false) (ho : c.desc.opc.toNat = 0x02) (path : Path) (w : Word)
    (hpairs : regPairs c.desc = [(Rg.FAULT_IRQ, w)]) (hd : σ.hp.d3 = false) (hpath : path.code = σ.me.code + 1)
    (ha : σ.accepts path Rg.FAULT_IRQ) : σ.endsAs ps q cid c v 0 0 [Rg.FAULT_IRQ] (fun _ => σ) fun τ =>
      τ.gw Rg.FAULT_IRQ = (σ.gw Rg.FAULT_IRQ &&& ~~~0x1F1F#32) ||| (w &&& 0x1F1F#32) := by
  have hcid : c.desc.cid = cid := by obtain ⟨-, -, -, -, -, h, -⟩ := hw; exact h
  obtain ⟨ρ, k, hrun, hk, hs, hport, -⟩ := Rod.runCmd_acts hw hft (.inl (by simp [rankNeed, ho])) ps v
  have hme : ρ.me = σ.me := by rw [hport.rest]
  rw [Rod.act_regWrite _ _ _ _ _ _ ho, hpairs, hme, ← hpath, Rod.regWrites_FAULT_IRQ ps ρ path w (Rod.accepts_of_portOnly hport path _ ha)
    (hport.d3.trans hd), hport.regs Rg.FAULT_IRQ (by decide)] at hrun
  have hoff : Rg.FAULT_IRQ ∉ ringRegs q ∧ Rg.FAULT_IRQ ∉ endRegs q ∧ Rg.FAULT_IRQ ∉ logRegs := by
    unfold Rg.FAULT_IRQ
    exact ⟨not_ringRegs (by omega), not_endRegs (by omega), not_logRegs (by omega)⟩
  have hserve := Rod.serving_pw Rg.FAULT_IRQ ((σ.gw Rg.FAULT_IRQ &&& ~~~0x1F1F#32) ||| (w &&& 0x1F1F#32)) (by simp) hoff.1
    (Rod.serving_append [Rg.FAULT_IRQ] hs)
  refine Rod.endsAs_finish hw hrun hk hserve (by decide) ?_ (by simp [Side.silent, retryAxis, Rg.FAULT_IRQ, Rg.PMP_CMD])
  rw [(Rod.finish_outlasts hserve (Rod.posting_of_waitsAlone hw) hk hcid 0 0 (by decide)).regs _ hoff.2.1 hoff.2.2]
  exact Rod.gw_pw_same _ _ _

end

end Sys2Proof.Machine
end

section
/-! The commands of a queue that end at once. -/

namespace Sys2Proof.Machine

/-- Settles O58: each command starts, takes its ranks and its channel, has its effect and ends, by the theorem on its opcode. -/
theorem queueCommandsComplete : Obligations.QueueCommandsComplete := by
  unfold Obligations.QueueCommandsComplete
  intro s r q cid c σ d opc addr wr ends same counts hw hft
  refine ⟨fun ho => ?_, fun path w ho hp hd hpath ha => ?_, fun a ho hlen ha hlow hhigh hal hon hnone hrc => ?_,
    fun a ho hlen ha hal hwin hon => ?_, fun ho hlen hal hu => ?_, fun ho hu => ?_, fun ho => ?_, fun ho => ?_, fun v ho hu => ?_, fun ho hu => ?_⟩
  · exact completes_endsAs rfl hw ho (Rod.nop_ends s.rod _ hw hft ho)
  · exact completes_endsAs rfl hw ho (Rod.regWrite_ends s.rod _ hw hft ho path w hp hd hpath ha)
  · subst ha
    exact completes_endsAs rfl hw ho (Rod.regRead_ends s.rod _ hw hft ho hlen hal hlow hhigh hon hnone hrc)
  · subst ha
    exact completes_endsAs rfl hw ho (Rod.memRead_ends s.rod _ hw hft ho hlen hal hwin hon)
  · obtain ⟨hnil, hcons⟩ := Rod.faultExport_ends s.rod noVerdict hw hft hu ho hlen hal
    exact ⟨fun hl => completes_endsAs rfl hw ho (hnil hl), fun e he => completes_endsAs rfl hw ho (hcons e he)⟩
  · exact completes_endsAs rfl hw ho (Rod.lockAcq_ends s.rod _ hw hft hu ho)
  · exact completes_endsAs rfl hw ho (Rod.lockRel_ends s.rod _ hw hft ho)
  · exact completes_endsAs rfl hw ho (Rod.reportRing_ends s.rod _ hw hft ho)
  · intro t upd regs
    have hverify := completes_endsAs (i := .imageVerify r q cid v) rfl hw ho (Rod.imageVerify_ends s.rod v hw hft hu ho)
    refine ⟨fun hnil => ?_, fun hne hok => ?_, fun e hne hbad => ?_⟩
    · have hf : σ.stagedFault v = some (0x0405, 0x004, _) := if_pos (by rw [hnil]; rfl)
      rw [hf] at hverify
      exact completes_imp hverify fun _ ⟨hpost, honly, hupd, hraised, hrec⟩ => ⟨hpost, honly, ⟨hupd, hraised⟩, hrec _ rfl⟩
    · have hf : σ.stagedFault v = none := by rw [Rod.stagedFault, if_neg (by simpa using hne)]; exact hok
      rw [hf] at hverify
      exact completes_imp hverify fun _ ⟨hpost, honly, hupd, hraised, _⟩ => ⟨hpost, honly, hupd, hraised⟩
    · have hf : σ.stagedFault v = some e := by rw [Rod.stagedFault, if_neg (by simpa using hne)]; exact hbad
      rw [hf] at hverify
      exact completes_imp hverify fun _ ⟨hpost, honly, hupd, hraised, hrec⟩ => ⟨hpost, honly, ⟨hupd, hraised⟩, hrec _ rfl⟩
  · refine ⟨fun hidx => completes_endsAs rfl hw ho (Rod.attest_ends s.rod _ hw hft hu ho hidx), fun hidx => ?_⟩
    have hrefused := completes_endsAs (i := .attest r q cid) rfl hw ho (Rod.attest_refused s.rod noVerdict hw hft hu ho hidx)
    rw [List.append_nil] at hrefused
    exact completes_imp hrefused fun _ ⟨hpost, honly, hrec⟩ => ⟨hpost, hrec, honly⟩

end Sys2Proof.Machine
end

section
/-! The endpoint goes down (R187, R188): what the stop of every queue and the reset of the endpoint leave of the rod. -/

namespace Sys2Proof.Machine

/-! ### The stop of a queue -/

/-- The registers outside the queue pages that the stop of a queue writes: the ranks held, and what the channels serve. -/
def stopRegs : List Nat := [Rg.RES_HOLD, Rg.DMA_STAT 0, Rg.DMA_STAT 1, Rg.DMA_STAT 2, Rg.DMA_STAT 3]

theorem Rod.syncChan_hp (ρ : Rod) (ch : Nat) : (ρ.syncChan ch).hp = ρ.hp := by
  unfold Rod.syncChan
  split <;> rfl

theorem Rod.leaveChans_gw (ρ : Rod) (f : Nat × Nat → Bool) (a : Nat) (h : ∀ ch ∈ [0, 1, 2, 3], a ≠ Rg.DMA_STAT ch) :
    (ρ.leaveChans f).gw a = ρ.gw a :=
  Rod.each_keeps_of_mem (·.gw a) _ _ (fun ch hch p => Rod.syncChan_gw p ch a (h ch hch)) _

theorem Rod.leaveChans_hp (ρ : Rod) (f : Nat × Nat → Bool) : ∃ k, (ρ.leaveChans f).hp = { ρ.hp with chans := k } :=
  ⟨_, Rod.each_keeps (·.hp) (fun ch p => p.syncChan ch) (fun ch p => Rod.syncChan_hp p ch) [0, 1, 2, 3] _⟩

theorem Rod.dropRanks_hp (ρ : Rod) (n m : Nat) : (ρ.dropRanks n m).hp = ρ.hp := by
  refine Rod.each_keeps (·.hp) _ (fun r p => ?_) _ ρ
  split <;> rfl

/-- The rod with the ranks, the channels, the requests and the entry of a queue gone. -/
def Rod.unlisted (ρ : Rod) (n : Nat) : Rod :=
  let p := (ρ.dropRanks n 15).leaveChans fun e => e.1 == n
  { p with hp := { p.hp with qs := Sparse.del p.hp.qs n, ranks := p.hp.ranks.filter fun e => e.2 != n } }

theorem Rod.stopQp_eq (ρ : Rod) (n : Nat) : ρ.stopQp n false = ((ρ.unlisted n).p (Fl.QP_LOCKS_HELD n) 0).orphan n := by
  unfold Rod.stopQp Rod.unlisted
  simp only [Bool.false_eq_true, if_false]

theorem Rod.unlisted_gw (ρ : Rod) (n a : Nat) : (ρ.unlisted n).gw a = ((ρ.dropRanks n 15).leaveChans fun e => e.1 == n).gw a := by
  unfold Rod.unlisted
  generalize (ρ.dropRanks n 15).leaveChans _ = p
  rfl

theorem Rod.stopQp_gw_unlisted (ρ : Rod) (n a : Nat) (hq : a ≠ Rg.QP_LOCKS n) : (ρ.stopQp n false).gw a = (ρ.unlisted n).gw a := by
  rw [Rod.stopQp_eq]
  generalize ρ.unlisted n = q
  exact (Rod.gw_congr (q.p (Fl.QP_LOCKS_HELD n) 0) _ rfl a).trans (Rod.gw_p_ne q (Fl.QP_LOCKS_HELD n) a 0 hq)

theorem Rod.stopQp_gw (ρ : Rod) (n a : Nat) (hs : a ∉ stopRegs) (hq : a ≠ Rg.QP_LOCKS n) : (ρ.stopQp n false).gw a = ρ.gw a := by
  simp only [stopRegs, List.mem_cons, List.not_mem_nil, or_false, not_or] at hs
  obtain ⟨hr, h0, h1, h2, h3⟩ := hs
  rw [Rod.stopQp_gw_unlisted _ _ _ hq, Rod.unlisted_gw, Rod.leaveChans_gw _ _ a (by simp [h0, h1, h2, h3]), Rod.dropRanks_gw ρ n 15 a hr]

theorem Rod.stopQp_holder (ρ : Rod) (n : Nat) (k : Fin 4) :
    (ρ.stopQp n false).holder (k.val + 1) = if ρ.holder (k.val + 1) = n then 0xFF else ρ.holder (k.val + 1) := by
  have hbit : (15 : Nat).testBit k.val = true := by decide +revert
  have hgw : (ρ.stopQp n false).gw Rg.RES_HOLD = (ρ.dropRanks n 15).gw Rg.RES_HOLD := by
    rw [Rod.stopQp_gw_unlisted _ _ _ (by simp only [Rg.QP_LOCKS, Rg.RES_HOLD]; omega), Rod.unlisted_gw, Rod.leaveChans_gw _ _ _ (by decide)]
  rw [Rod.holder_of_gw hgw, Rod.dropRanks_holder, hbit]
  simp

/-- What the stop of a queue leaves of the host port's state: its entry, its requests for ranks and its place in the channels go. -/
theorem Rod.stopQp_hp (ρ : Rod) (n : Nat) : ∃ qs chans, (ρ.stopQp n false).hp =
    { ρ.hp with qs := qs, chans := chans, ranks := ρ.hp.ranks.filter fun e => e.2 != n } := by
  obtain ⟨k, hk⟩ := Rod.leaveChans_hp (ρ.dropRanks n 15) fun e => e.1 == n
  rw [Rod.dropRanks_hp] at hk
  have hun : (ρ.stopQp n false).hp = (ρ.unlisted n).hp := by
    rw [Rod.stopQp_eq]
    generalize ρ.unlisted n = q
    rfl
  refine ⟨Sparse.del ρ.hp.qs n, k, ?_⟩
  rw [hun]
  unfold Rod.unlisted
  dsimp only
  rw [hk]

/-- `ρ` is `σ` with the queues below `n` stopped. -/
structure Rod.halted (σ ρ : Rod) (n : Nat) : Prop where
  hp : ∃ qs chans ranks, ρ.hp = { σ.hp with qs := qs, chans := chans, ranks := ranks } ∧
    ranks.filter (fun e => decide (16 ≤ e.2)) = σ.hp.ranks.filter fun e => decide (16 ≤ e.2)
  holder : ∀ k : Fin 4, ρ.holder (k.val + 1) = if σ.holder (k.val + 1) < n then 0xFF else σ.holder (k.val + 1)
  regs : ∀ a, a < 0x10000 ∨ 0x20000 ≤ a → a ∉ stopRegs → ρ.gw a = σ.gw a

theorem Rod.halted_stopQp {σ ρ : Rod} {n : Nat} (hn : n < 16) (h : σ.halted ρ n) : σ.halted (ρ.stopQp n false) (n + 1) where
  hp := by
    obtain ⟨qs, chans, ranks, he, hranks⟩ := h.hp
    obtain ⟨qs', chans', he'⟩ := Rod.stopQp_hp ρ n
    refine ⟨qs', chans', ranks.filter fun e => e.2 != n, by rw [he', he], ?_⟩
    rw [List.filter_filter, ← hranks]
    refine List.filter_congr fun e _ => ?_
    by_cases hge : 16 ≤ e.2
    · have hne : e.2 ≠ n := by omega
      simp [hge, hne]
    · simp [hge]
  holder k := by
    rw [Rod.stopQp_holder, h.holder k]
    split <;> split <;> split <;> omega
  regs a ha hs := by
    refine (Rod.stopQp_gw ρ n a hs ?_).trans (h.regs a ha hs)
    simp only [Rg.QP_LOCKS]
    omega

theorem Rod.halted_stops (σ : Rod) (n : Nat) (hn : n ≤ 16) : σ.halted (σ.each (List.range n) fun q r => r.stopQp q false) n := by
  induction n with
  | zero => exact ⟨⟨_, _, _, rfl, rfl⟩, fun k => (if_neg (Nat.not_lt_zero _)).symm, fun _ _ _ => rfl⟩
  | succ n ih =>
    have hlast : (σ.each (List.range (n + 1)) fun q r => r.stopQp q false) =
        (σ.each (List.range n) fun q r => r.stopQp q false).stopQp n false := by
      simp [Rod.each, List.range_succ]
    rw [hlast]
    exact Rod.halted_stopQp (by omega) (ih (by omega))

/-! ### The reset -/

theorem Rod.gw_clearPages_in (ρ : Rod) (f : Nat → Bool) (a : Nat) (h : f (a / 0x1000) = true) : (ρ.clearPages f).gw a = regReset a := by
  have hfree (m : Sparse Word) : Sparse.get (regReset a) (m.filter fun e => !f (e.1 / 0x1000)) a = regReset a := by
    induction m with
    | nil => rfl
    | cons e t ih =>
      by_cases hj : f (e.1 / 0x1000) = true
      · rw [List.filter_cons_of_neg (by simp [hj]), ih]
      · have hne : a ≠ e.1 := by rintro rfl; exact hj h
        rw [List.filter_cons_of_pos (by simp [hj]), Sparse.get, if_neg hne, ih]
  exact hfree ρ.regs

/-- Without MSI-X no message is held as a pending bit (R186). -/
theorem Rod.pba_irq_off (ρ : Rod) (p i : Nat) (h : ρ.msixOn = false) : (ρ.irq p i).pba = ρ.pba := by
  have hmsg (q : Rod) (hq : q.msixOn = false) (hp : q.pba = ρ.pba) : (q.pageMsg p).pba = ρ.pba := by
    unfold Rod.pageMsg Rod.msix
    rw [if_pos hq, ite_self, hp]
  unfold Rod.irq Rod.irqMask
  dsimp only
  split
  · exact hmsg _ h rfl
  · rfl

/-- A rod without MSI-X that holds the pending bits `b`. -/
def Rod.quiet (b : DWord) (ρ : Rod) : Prop := ρ.msixOn = false ∧ ρ.pba = b

theorem Rod.quiet_irq {b : DWord} {ρ : Rod} (p i : Nat) (h : ρ.quiet b) : (ρ.irq p i).quiet b := by
  have hhp : (ρ.irq p i).hp = ρ.hp := Rod.irqMask_hp ρ p _
  obtain ⟨hoff, hb⟩ := h
  refine ⟨?_, (Rod.pba_irq_off ρ p i hoff).trans hb⟩
  unfold Rod.msixOn Rod.cfg at *
  rwa [hhp]

theorem Rod.quiet_writeRec {b : DWord} {ρ : Rod} (r : FaultRec) (own : Bool) (h : ρ.quiet b) : (ρ.writeRec r own).quiet b := by
  have hmsix (n : Nat) (q : Rod) (hq : q.quiet b) : (q.msix n).quiet b := by
    unfold Rod.msix
    rwa [if_pos hq.1]
  have hput (q : Rod) (f : Fld) (v : Nat) (hq : q.quiet b) : (q.p f v).quiet b := hq
  have hlog (l : Sparse FaultRec) (o : Bool) (n : Nat) (p : List FaultRec) :
      ({ ρ with log := l, lost := o, lostSev := n, flPend := p } : Rod).quiet b := h
  have hstore : (ρ.logStore r own).quiet b := hput _ Fl.FL_SEQ_SEQ _ (hlog _ _ _ _)
  have hlost := Rod.when_invariant (·.quiet b) (ρ.logLoses && !ρ.lost) _ (fun q => Rod.quiet_irq 0x0D0 1) _ hstore
  have hnew := Rod.when_invariant (·.quiet b) own _ (fun q => Rod.quiet_irq 0x0D0 0) _ hlost
  exact Rod.when_invariant (·.quiet b) own (·.send (.record r)) (fun _ hq => hq) _ (Rod.when_invariant (·.quiet b) _ _ (hmsix _) _ hnew)

theorem Rod.quiet_flush {b : DWord} {ρ : Rod} (h : ρ.quiet b) : ρ.flush.quiet b :=
  Rod.each_invariant (·.quiet b) _ (fun r _ => Rod.quiet_writeRec r true) _ _ h

/-! ### The endpoint -/

/-- The pages of the queues, which the reset of the endpoint clears. -/
def queuePages (p : Nat) : Bool := decide (0x010 ≤ p ∧ p ≤ 0x01F)

/-- The rod with every queue stopped and, where the link goes down too, UP at 0. -/
def Rod.queuesStopped (σ : Rod) (cause : Nat) : Rod :=
  (σ.each (List.range 16) fun q r => r.stopQp q false).when (cause != 4) (·.p Fl.LINK_STAT_UP 0)

/-- The rod with the endpoint reset. -/
def Rod.endpointOff (σ : Rod) (cause : Nat) : Rod := ((σ.queuesStopped cause).clearPages queuePages).endpointReset

theorem Rod.endpointDown_eq (σ : Rod) (cause : Nat) :
    σ.endpointDown cause = (σ.endpointOff cause).flt 0x0501 sevWarn 0x021 [(0, 1, cause)] := by
  unfold Rod.endpointDown Rod.endpointOff queuePages Rod.queuesStopped
  rfl

theorem Rod.queuesStopped_gw (σ : Rod) (cause a : Nat) (h : a ≠ Rg.LINK_STAT) :
    (σ.queuesStopped cause).gw a = (σ.each (List.range 16) fun q r => r.stopQp q false).gw a :=
  Rod.when_keeps (·.gw a) _ _ _ fun p => Rod.gw_p_ne p Fl.LINK_STAT_UP a 0 h

theorem Rod.endpointOff_gw (σ : Rod) (cause a : Nat) (h : queuePages (a / 0x1000) = false) :
    (σ.endpointOff cause).gw a = (σ.queuesStopped cause).gw a := by
  rw [← Rod.gw_clearPages (σ.queuesStopped cause) queuePages a h]
  exact Rod.gw_congr _ _ rfl a

theorem Rod.endpointOff_queuePage (σ : Rod) (cause a : Nat) (h : queuePages (a / 0x1000) = true) :
    (σ.endpointOff cause).gw a = regReset a := by
  rw [← Rod.gw_clearPages_in (σ.queuesStopped cause) queuePages a h]
  exact Rod.gw_congr _ _ rfl a

theorem queuePages_iff (a : Nat) : queuePages (a / 0x1000) = true ↔ 0x10000 ≤ a ∧ a < 0x20000 := by
  simp only [queuePages, decide_eq_true_eq]
  omega

/-- What is left of the host port's state is of the SYS domain (R187). -/
theorem Rod.endpointOff_hp (σ : Rod) (cause : Nat) : ∃ pend urgent grant, (σ.endpointOff cause).hp = { HpS.init with
    fwd := σ.hp.fwd, owed := σ.hp.owed, sup := σ.hp.sup, ranks := σ.hp.ranks.filter fun e => decide (16 ≤ e.2)
    pend := pend, urgent := urgent, lastU := σ.hp.lastU, lastN := σ.hp.lastN, grant := grant } := by
  obtain ⟨⟨qs, chans, ranks, hhp, hranks⟩, -, -⟩ := Rod.halted_stops σ 16 (Nat.le_refl _)
  have hk : (σ.queuesStopped cause).hp = { σ.hp with qs := qs, chans := chans, ranks := ranks } :=
    (Rod.when_keeps (·.hp) _ _ _ fun p => Rod.p_hp p Fl.LINK_STAT_UP 0).trans hhp
  refine ⟨σ.hp.pend / 2 ^ 20 * 2 ^ 20, σ.hp.urgent / 2 ^ 20 * 2 ^ 20, σ.hp.grant.filter fun g => decide (20 ≤ g.1), ?_⟩
  unfold Rod.endpointOff Rod.endpointReset Rod.clearPages
  dsimp only
  rw [hk]
  dsimp only
  rw [hranks]

/-- The registers beside the queue pages keep what they hold, but those that the stop of the queues and of the link writes. -/
theorem Rod.endpointOff_other (σ : Rod) (cause a : Nat) (h : a < 0x10000 ∨ 0x20000 ≤ a) (hs : a ∉ stopRegs) (hl : a ≠ Rg.LINK_STAT) :
    (σ.endpointOff cause).gw a = σ.gw a := by
  have hpage : queuePages (a / 0x1000) = false := by
    rw [Bool.eq_false_iff, Ne, queuePages_iff]
    omega
  rw [Rod.endpointOff_gw σ cause a hpage, Rod.queuesStopped_gw σ cause a hl]
  exact (Rod.halted_stops σ 16 (Nat.le_refl _)).regs a h hs

theorem Rod.endpointOff_holder (σ : Rod) (cause : Nat) (k : Fin 4) : (σ.endpointOff cause).holder (k.val + 1) =
    if σ.holder (k.val + 1) < 16 then 0xFF else σ.holder (k.val + 1) := by
  have hgw := (Rod.endpointOff_gw σ cause Rg.RES_HOLD (by decide)).trans (Rod.queuesStopped_gw σ cause Rg.RES_HOLD (by decide))
  rw [Rod.holder_of_gw hgw]
  exact (Rod.halted_stops σ 16 (Nat.le_refl _)).holder k

/-- The link goes down with the endpoint, but for an FLR (R187). -/
theorem Rod.endpointOff_up (σ : Rod) (cause : Nat) :
    (σ.endpointOff cause).b Fl.LINK_STAT_UP = (decide (cause = 4) && σ.b Fl.LINK_STAT_UP) := by
  rw [Rod.b_congr _ _ Fl.LINK_STAT_UP (Rod.endpointOff_gw σ cause Rg.LINK_STAT (by decide))]
  have hstops : (σ.each (List.range 16) fun q r => r.stopQp q false).b Fl.LINK_STAT_UP = σ.b Fl.LINK_STAT_UP :=
    Rod.b_congr _ _ Fl.LINK_STAT_UP ((Rod.halted_stops σ 16 (Nat.le_refl _)).regs Rg.LINK_STAT (by decide) (by decide))
  unfold Rod.queuesStopped
  by_cases hc : cause = 4
  · subst hc
    simpa using hstops
  · rw [show (cause != 4) = true by simpa using hc, Rod.when_true, decide_eq_false hc, Bool.false_and]
    exact Rod.b_p _ Fl.LINK_STAT_UP false (by decide) rfl

/-- No queue runs with the registers of its page at their reset values (R188). -/
theorem Rod.qpOn_off {ρ : Rod} (h : ∀ a, 0x10000 ≤ a → a < 0x20000 → ρ.gw a = regReset a) (q : Nat) : ρ.qpOn q = false := by
  unfold Rod.qpOn
  by_cases hq : q < 16
  · have hen : ρ.b (Fl.QP_CTRL_EN q) = Rod.b (Rod.init .x) (Fl.QP_CTRL_EN q) :=
      Rod.b_congr (Rod.init .x) ρ _ ((h _ (by simp only [Fl.QP_CTRL_EN, Fld.addr]; omega) (by simp only [Fl.QP_CTRL_EN, Fld.addr]; omega)).trans rfl)
    rw [hen]
    interval_cases q <;> decide
  · rw [decide_eq_false hq, Bool.false_and]

/-- MSI-X is off after reset. -/
theorem cfgReset_msixOff : wBit (cfgRow 0x90).reset 31 = false := by decide

/-- What PERST, the loss of the link, a hot reset and an FLR leave of the rod (R187, R188). -/
theorem Rod.endpointDown_flush (σ : Rod) (cause : Nat) :
    let τ := (σ.endpointDown cause).flush
    τ.b Fl.LINK_STAT_UP = (decide (cause = 4) && σ.b Fl.LINK_STAT_UP) ∧ (∀ q, τ.qpOn q = false) ∧ τ.recorded 0x0501 sevWarn 0x021 ∧
    τ.hp.qs = [] ∧ τ.hp.chans = [] ∧ τ.hp.d3 = false ∧ τ.hp.cfg = [] ∧ τ.hp.bar2 = [] ∧ τ.pba = 0#64 ∧ τ.hp.fwd = σ.hp.fwd ∧
    τ.hp.sup = σ.hp.sup ∧ τ.hp.ranks = σ.hp.ranks.filter (fun e => decide (16 ≤ e.2)) ∧
    τ.hp.lastU = σ.hp.lastU ∧ τ.hp.lastN = σ.hp.lastN ∧
    (∀ k : Fin 4, τ.holder (k.val + 1) = if σ.holder (k.val + 1) < 16 then 0xFF else σ.holder (k.val + 1)) ∧
    ∀ a, a ≠ Rg.FL_SEQ → a ≠ Rg.IRQ_RAW 0x0D0 →
      (0x10000 ≤ a → a < 0x20000 → τ.gw a = regReset a) ∧
      (a < 0x10000 ∨ 0x20000 ≤ a → a ∉ Rg.LINK_STAT :: stopRegs → τ.gw a = σ.gw a) := by
  dsimp only
  rw [Rod.endpointDown_eq]
  have hhp : ((σ.endpointOff cause).flt 0x0501 sevWarn 0x021 [(0, 1, cause)]).flush.hp = (σ.endpointOff cause).hp := Rod.flush_hp _
  have hgw (a : Nat) (ha : a ∉ logRegs) :
      ((σ.endpointOff cause).flt 0x0501 sevWarn 0x021 [(0, 1, cause)]).flush.gw a = (σ.endpointOff cause).gw a := Rod.flush_gw _ a ha
  have hrec : ((σ.endpointOff cause).flt 0x0501 sevWarn 0x021 [(0, 1, cause)]).flush.recorded 0x0501 sevWarn 0x021 :=
    (Rod.carries_refl (fun _ => ()) (fun _ => false) _).recorded (Rod.noted_fltAP _ _ _ _ _ _ _) rfl
  obtain ⟨pend, urgent, grant, hoff⟩ := Rod.endpointOff_hp σ cause
  have hpba : (((σ.endpointOff cause).flt 0x0501 sevWarn 0x021 [(0, 1, cause)]).flush).quiet 0#64 :=
    Rod.quiet_flush ⟨by
      unfold Rod.msixOn Rod.cfg
      rw [show (Rod.flt _ _ _ _ _).hp = (σ.endpointOff cause).hp from rfl, hoff]
      exact cfgReset_msixOff, rfl⟩
  generalize ((σ.endpointOff cause).flt 0x0501 sevWarn 0x021 [(0, 1, cause)]).flush = τ at *
  rw [hoff] at hhp
  have hreset (a : Nat) (h0 : 0x10000 ≤ a) (h1 : a < 0x20000) : τ.gw a = regReset a := by
    have hlog : a ∉ logRegs := by
      simp only [logRegs, List.mem_cons, List.not_mem_nil, or_false, Rg.FL_SEQ, Rg.IRQ_RAW]
      omega
    rw [hgw a hlog]
    exact Rod.endpointOff_queuePage σ cause a ((queuePages_iff a).2 ⟨h0, h1⟩)
  refine ⟨?_, Rod.qpOn_off hreset, hrec, by rw [hhp]; rfl, by rw [hhp]; rfl, by rw [hhp]; rfl, by rw [hhp]; rfl, by rw [hhp]; rfl, hpba.2,
    by rw [hhp], by rw [hhp], by rw [hhp], by rw [hhp], by rw [hhp], fun k => ?_, fun a hs hi => ⟨hreset a, fun h hl => ?_⟩⟩
  · rw [Rod.b_congr _ _ Fl.LINK_STAT_UP (hgw _ (by decide))]
    exact Rod.endpointOff_up σ cause
  · rw [Rod.holder_of_gw (hgw _ (by decide))]
    exact Rod.endpointOff_holder σ cause k
  · rw [List.mem_cons, not_or] at hl
    rw [hgw a (by simp [logRegs, hs, hi])]
    exact Rod.endpointOff_other σ cause a h hl.2 hl.1

end Sys2Proof.Machine
end

section
/-! The link comes up (R227), the power states of the endpoint (R189), a request that starves (R218), a rank held too long (R223), and
the records of the partners (R191). -/

namespace Sys2Proof.Machine

/-! ### The link comes up -/

/-- The rod with LINK_STAT of a link at a speed. -/
def Rod.linkShown (ρ : Rod) (speed : Nat) : Rod := ((ρ.p Fl.LINK_STAT_UP 1).p Fl.LINK_STAT_SPEED speed).inc Fl.LINK_STAT_UP_CNT

/-- The rod that has announced its link. -/
def Rod.linkAnnounced (ρ : Rod) (speed : Nat) : Rod :=
  (((ρ.linkShown speed).irq 0x021 3).flt 0x0502 sevInfo 0x021 [(0, 1, speed)]).when (decide (speed < 3))
    (·.flt 0x0503 sevWarn 0x021 [(0, 1, speed)])

/-- The rod with REF_OK at 1, as the link brings its reference clock, unless PCI runs on its fall-back (Table 6.15). -/
def Rod.refSeen (ρ : Rod) : Rod :=
  ρ.when (!ρ.b Fl.CLK_SRC_PCI_LOCAL && !ρ.b Fl.CLK_STAT_REF_OK) fun q => (q.p Fl.CLK_STAT_REF_OK 1).irq 0x002 3

/-- The wake by PCI is no longer asked for. -/
def Rod.pewakeOff (ρ : Rod) : Rod := { ρ with aon := { ρ.aon with pewake := false } }

theorem Rod.carries_pewakeOff {β : Type} {V : ModeS → β} {K : Nat → Bool} {ρ q : Rod} (h : ρ.carries V K q) :
    ρ.carries V K q.pewakeOff := Rod.carries_same h

theorem Rod.b_pewakeOff (ρ : Rod) (f : Fld) : ρ.pewakeOff.b f = ρ.b f := rfl

theorem Rod.only_pewakeOff {ρ q σ : Rod} {ex : List Nat} (h : ρ.only q ex σ) :
    ρ.only q.pewakeOff ex { σ with aon := { σ.aon with pewake := false } } := by
  obtain ⟨hk, ha⟩ := h
  refine ⟨Rod.keepsRegs_regs _ q _ _ rfl hk, ?_⟩
  unfold Rod.agrees at *
  rw [ha]
  rfl

theorem Rod.b_clkRun (ρ : Rod) (f : Fld) (h : f.addr ≠ Rg.CLK_STAT ∨ 13 ≤ f.lo) : ρ.clkRun.b f = ρ.b f :=
  Rod.b_p_ne ρ Fl.CLK_STAT_RUN f _ (by decide) (h.imp_right fun k => .inr k)

theorem Rod.linkUpIn_up (ρ : Rod) (speed : Nat) (h : speed ≠ 0) (hup : ρ.b Fl.LINK_STAT_UP = false) :
    ρ.linkUpIn speed = (ρ.linkAnnounced speed).refSeen.clkRun.pewakeOff := by
  unfold Rod.linkUpIn
  rw [if_neg (by simp [h, hup])]
  rfl

theorem Rod.linkShown_fields (ρ : Rod) (speed : Fin 4) : (ρ.linkShown speed).b Fl.LINK_STAT_UP = true ∧
    (ρ.linkShown speed).g Fl.LINK_STAT_SPEED = speed.val ∧
    (ρ.linkShown speed).g Fl.LINK_STAT_UP_CNT = min 0xFFFF (ρ.g Fl.LINK_STAT_UP_CNT + 1) := by
  refine ⟨?_, ?_, ?_⟩
  · exact (Rod.b_p_ne _ Fl.LINK_STAT_UP_CNT Fl.LINK_STAT_UP _ (by decide) (by decide)).trans
      ((Rod.b_p_ne _ Fl.LINK_STAT_SPEED Fl.LINK_STAT_UP _ (by decide) (by decide)).trans (Rod.b_p ρ Fl.LINK_STAT_UP true (by decide) rfl))
  · refine (Rod.g_p_ne _ Fl.LINK_STAT_UP_CNT Fl.LINK_STAT_SPEED _ (by decide) (by decide)).trans ?_
    refine (Rod.g_p _ Fl.LINK_STAT_SPEED speed.val (by decide)).trans (Nat.mod_eq_of_lt ?_)
    have := speed.isLt
    simp only [Fl.LINK_STAT_SPEED]
    omega
  · refine (Rod.g_inc _ Fl.LINK_STAT_UP_CNT (by decide)).trans ?_
    rw [Rod.g_p_ne _ Fl.LINK_STAT_SPEED Fl.LINK_STAT_UP_CNT _ (by decide) (by decide),
      Rod.g_p_ne _ Fl.LINK_STAT_UP Fl.LINK_STAT_UP_CNT _ (by decide) (by decide)]
    rfl

/-- The registers that LINK_UP writes. -/
def linkRegs : List Nat := [Rg.LINK_STAT, Rg.IRQ_RAW 0x021, Rg.CLK_STAT, Rg.IRQ_RAW 0x002]

theorem Rod.only_linkUp (σ : Rod) (speed : Nat) :
    σ.only (σ.linkAnnounced speed).refSeen.clkRun linkRegs σ := by
  have hshown : σ.only (σ.linkShown speed) linkRegs σ :=
    Rod.only_inc Fl.LINK_STAT_UP_CNT (by decide) (Rod.only_p Fl.LINK_STAT_SPEED _ (by decide)
      (Rod.only_p Fl.LINK_STAT_UP _ (by decide) (Rod.only_refl _ _)))
  have hann : σ.only (σ.linkAnnounced speed) linkRegs σ :=
    Rod.only_when _ _ (fun _ => Rod.only_fltAP) (Rod.only_fltAP (Rod.only_irq 0x021 3 (by decide) hshown))
  have href : σ.only (σ.linkAnnounced speed).refSeen linkRegs σ :=
    Rod.only_when _ _ (fun _ hq => Rod.only_irq 0x002 3 (by decide) (Rod.only_p Fl.CLK_STAT_REF_OK _ (by decide) hq)) hann
  exact Rod.only_p Fl.CLK_STAT_RUN _ (by decide) href

/-- What the clocks and the wake leave of the link. -/
theorem Rod.carries_linkClocks (ρ : Rod) :
    ρ.carries (fun _ => ()) (fun a => a == Rg.LINK_STAT || a == Rg.IRQ_RAW 0x021) ρ.refSeen.clkRun.pewakeOff := by
  refine Rod.carries_pewakeOff (Rod.carries_p Fl.CLK_STAT_RUN _ (by decide) (Rod.carries_when _ _ (fun q hq => ?_) (Rod.carries_refl _ _ _)))
  exact Rod.carries_irq 0x002 3 (Rod.carries_p Fl.CLK_STAT_REF_OK _ (by decide) hq)

theorem Rod.linkAnnounced_gw (ρ : Rod) (speed a : Nat) (h : a ≠ Rg.IRQ_RAW 0x021) :
    (ρ.linkAnnounced speed).gw a = (ρ.linkShown speed).gw a :=
  (Rod.when_keeps (·.gw a) (·.flt 0x0503 sevWarn 0x021 [(0, 1, speed)]) (decide (speed < 3))
    (((ρ.linkShown speed).irq 0x021 3).flt 0x0502 sevInfo 0x021 [(0, 1, speed)]) fun _ => rfl).trans (Rod.gw_irq_ne _ 0x021 a 3 h)

theorem Rod.linkAnnounced_notes (ρ : Rod) (speed : Nat) : (ρ.linkAnnounced speed).raised 0x021 3 ∧
    (ρ.linkAnnounced speed).noted 0x0502 sevInfo 0x021 ∧ (speed < 3 → (ρ.linkAnnounced speed).noted 0x0503 sevWarn 0x021) := by
  have hc := Rod.carries_when (ρ := ((ρ.linkShown speed).irq 0x021 3).flt 0x0502 sevInfo 0x021 [(0, 1, speed)]) (V := fun _ => ())
    (K := fun _ => true) (decide (speed < 3)) (·.flt 0x0503 sevWarn 0x021 [(0, 1, speed)]) (fun _ => Rod.carries_fltAP) (Rod.carries_refl _ _ _)
  refine ⟨hc.raised 0x021 3 rfl (Rod.irq_sets _ 0x021 3 (by decide)), hc.noted (Rod.noted_fltAP _ _ _ _ _ _ _), fun h => ?_⟩
  unfold Rod.linkAnnounced
  rw [decide_eq_true h, Rod.when_true]
  exact Rod.noted_fltAP _ _ _ _ _ _ _

/-- REF_OK reads 1 with the link up, unless PCI runs on its fall-back. -/
theorem Rod.refSeen_ok (ρ : Rod) (h : ρ.b Fl.CLK_SRC_PCI_LOCAL = false) : ρ.refSeen.b Fl.CLK_STAT_REF_OK = true := by
  unfold Rod.refSeen
  rw [h]
  cases hok : ρ.b Fl.CLK_STAT_REF_OK with
  | true => exact hok
  | false =>
    refine (Rod.b_congr _ _ Fl.CLK_STAT_REF_OK (Rod.gw_irq_ne _ 0x002 _ 3 (by decide))).trans ?_
    exact Rod.b_p ρ Fl.CLK_STAT_REF_OK true (by decide) rfl

theorem Rod.linkUpIn_flush (σ : Rod) (speed : Fin 4) (h : speed ≠ 0) (hup : σ.b Fl.LINK_STAT_UP = false) :
    let τ := (σ.linkUpIn speed).flush
    τ.b Fl.LINK_STAT_UP = true ∧ τ.g Fl.LINK_STAT_SPEED = speed.val ∧ τ.g Fl.LINK_STAT_UP_CNT = min 0xFFFF (σ.g Fl.LINK_STAT_UP_CNT + 1) ∧
    τ.raised 0x021 3 ∧ τ.recorded 0x0502 sevInfo 0x021 ∧ (speed.val < 3 → τ.recorded 0x0503 sevWarn 0x021) ∧
    (σ.b Fl.CLK_SRC_PCI_LOCAL = false → τ.b Fl.CLK_STAT_REF_OK = true) ∧
    σ.only τ linkRegs { σ with aon := { σ.aon with pewake := false } } := by
  dsimp only
  rw [Rod.linkUpIn_up σ speed (by rwa [Ne, Fin.val_eq_zero_iff]) hup]
  have hc := Rod.carries_linkClocks (σ.linkAnnounced speed)
  have hf := Rod.carries_flush rfl hc
  obtain ⟨hraised, h502, h503⟩ := Rod.linkAnnounced_notes σ speed
  obtain ⟨hbit, hspeed, hcnt⟩ := Rod.linkShown_fields σ speed
  have hgw := Rod.linkAnnounced_gw σ speed Rg.LINK_STAT (by decide)
  refine ⟨?_, ?_, ?_, hf.raised 0x021 3 (by decide) hraised, hc.recorded h502 rfl, fun hs => hc.recorded (h503 hs) rfl, fun hl => ?_, ?_⟩
  · exact (hf.b Fl.LINK_STAT_UP (by decide) (by decide)).trans ((Rod.b_congr _ _ Fl.LINK_STAT_UP hgw).trans hbit)
  · exact (hf.g Fl.LINK_STAT_SPEED (by decide) (by decide)).trans ((Rod.g_of_gw _ _ Fl.LINK_STAT_SPEED hgw).trans hspeed)
  · exact (hf.g Fl.LINK_STAT_UP_CNT (by decide) (by decide)).trans ((Rod.g_of_gw _ _ Fl.LINK_STAT_UP_CNT hgw).trans hcnt)
  · rw [Rod.flush_b _ Fl.CLK_STAT_REF_OK (by decide)]
    refine ((Rod.b_pewakeOff _ _).trans (Rod.b_clkRun _ Fl.CLK_STAT_REF_OK (by decide))).trans (Rod.refSeen_ok _ ?_)
    have hsrc : (σ.linkAnnounced speed).gw Rg.CLK_SRC = σ.gw Rg.CLK_SRC :=
      (Rod.linkAnnounced_gw σ speed _ (by decide)).trans ((Rod.gw_p_ne _ Fl.LINK_STAT_UP_CNT _ _ (by decide)).trans
        ((Rod.gw_p_ne _ Fl.LINK_STAT_SPEED _ _ (by decide)).trans (Rod.gw_p_ne _ Fl.LINK_STAT_UP _ _ (by decide))))
    exact (Rod.b_congr _ _ Fl.CLK_SRC_PCI_LOCAL hsrc).trans hl
  · exact Rod.only_flush (Rod.only_pewakeOff (Rod.only_linkUp σ speed))

end Sys2Proof.Machine
end

section
/-! The end of any command of a queue, whatever the queue holds (R198, R208, R222): what it leaves of the rod. The fabric and the
timeout of a rank end commands that are not alone. -/

namespace Sys2Proof.Machine

/-- The registers that no end of a command writes: IRQ_RAW, but for bits that are set, and QP_LOCKS. -/
def windKept (a : Nat) : Bool := decide (a % 0x1000 = 0x10 ∨ a % 0x1000 = 0x70)

theorem windKept_false {a : Nat} (h : a % 0x1000 ≠ 0x10) (h' : a % 0x1000 ≠ 0x70) : windKept a = false := decide_eq_false (by omega)

/-- `q` comes of `ρ` by the end of commands: interrupts and QP_LOCKS stay, as do what was detected, what the arbiter holds, and every
free rank. -/
structure Rod.winds (ρ q : Rod) : Prop where
  carry : ρ.carries (fun _ => ()) windKept q
  fabric : (q.hp.grant, q.hp.pend, q.hp.lastU, q.hp.lastN) = (ρ.hp.grant, ρ.hp.pend, ρ.hp.lastU, ρ.hp.lastN)
  free : ∀ k : Fin 4, ρ.holder (k.val + 1) = 0xFF → q.holder (k.val + 1) = 0xFF

section
variable {ρ q : Rod}

theorem Rod.winds_refl (ρ : Rod) : ρ.winds ρ := ⟨Rod.carries_refl _ _ _, rfl, fun _ h => h⟩

theorem Rod.winds_hp (k : HpS) (hk : (k.grant, k.pend, k.lastU, k.lastN) = (q.hp.grant, q.hp.pend, q.hp.lastU, q.hp.lastN) := by rfl)
    (h : ρ.winds q) : ρ.winds { q with hp := k } :=
  ⟨Rod.carries_hp k h.carry, hk.trans h.fabric, h.free⟩

theorem Rod.winds_p (f : Fld) (v : Nat) (hf : windKept f.addr = false) (hr : Rg.RES_HOLD ≠ f.addr) (h : ρ.winds q) : ρ.winds (q.p f v) :=
  ⟨Rod.carries_p f v hf h.carry, h.fabric, fun k hk => (Rod.holder_of_gw (Rod.gw_p_ne q f Rg.RES_HOLD v hr) _).trans (h.free k hk)⟩

theorem Rod.winds_send (o : Out) (h : ρ.winds q) : ρ.winds (q.send o) := ⟨Rod.carries_send o h.carry, h.fabric, h.free⟩

theorem Rod.winds_irq (p i : Nat) (h : ρ.winds q) : ρ.winds (q.irq p i) where
  carry := Rod.carries_irq p i h.carry
  fabric := by
    rw [show (q.irq p i).hp = q.hp from Rod.irqMask_hp q p _]
    exact h.fabric
  free k hk := (Rod.holder_of_gw (Rod.gw_irq_ne q p Rg.RES_HOLD i (by simp only [Rg.RES_HOLD, Rg.IRQ_RAW]; omega)) _).trans (h.free k hk)

theorem Rod.winds_flt (c sv pg : Nat) (d : List (Nat × Nat × Nat)) (h : ρ.winds q) : ρ.winds (q.flt c sv pg d) :=
  ⟨Rod.carries_fltAP h.carry, h.fabric, h.free⟩

theorem Rod.winds_freed (r : Nat) (hr : 1 ≤ r ∧ r ≤ 4) (h : ρ.winds q) : ρ.winds (q.p (rankF r) 0xFF) where
  carry := Rod.carries_p (rankF r) 0xFF (by rw [rankF_addr]; decide) h.carry
  fabric := h.fabric
  free k hk := by
    rw [Rod.holder_p q r (k.val + 1) 0xFF hr (by omega)]
    split
    · rfl
    · exact h.free k hk

theorem Rod.winds_when (c : Bool) (f : Rod → Rod) (hf : ∀ p, ρ.winds p → ρ.winds (f p)) (h : ρ.winds q) : ρ.winds (q.when c f) :=
  Rod.when_invariant ρ.winds c f hf q h

/-- A change made for each element of a list. -/
theorem Rod.winds_each {α : Type} (l : List α) (f : α → Rod → Rod) (hf : ∀ x ∈ l, ∀ p, ρ.winds p → ρ.winds (f x p)) (h : ρ.winds q) :
    ρ.winds (q.each l f) := by
  unfold Rod.each
  induction l generalizing q with
  | nil => exact h
  | cons x t ih => exact ih (fun y hy => hf y (List.mem_cons_of_mem _ hy)) (hf x List.mem_cons_self q h)

theorem Rod.winds_dropRanks (n m : Nat) (h : ρ.winds q) : ρ.winds (q.dropRanks n m) :=
  Rod.winds_each _ _ (fun r hr _ hp => iteInduction (motive := ρ.winds) (fun _ => Rod.winds_freed r (ranksOf_mem hr) hp) fun _ => hp) h

theorem Rod.winds_syncChan (ch : Nat) (hch : ch < 4) (h : ρ.winds q) : ρ.winds (q.syncChan ch) := by
  have hw {p : Rod} (v lo w : Nat) (hp : ρ.winds p) : ρ.winds (p.p ⟨0x20, 0x44 + 0x10 * ch, lo, w⟩ v) :=
    Rod.winds_p _ v (windKept_false (by simp only [Fld.addr]; omega) (by simp only [Fld.addr]; omega)) (by simp only [Rg.RES_HOLD, Fld.addr]; omega) hp
  unfold Rod.syncChan
  split <;> exact hw _ _ _ (hw _ _ _ (hw _ _ _ h))

theorem Rod.winds_leaveChans (f : Nat × Nat → Bool) (h : ρ.winds q) : ρ.winds (q.leaveChans f) :=
  Rod.winds_each _ _ (fun ch hch _ hp => Rod.winds_syncChan ch (by fin_cases hch <;> decide) hp) (Rod.winds_hp _ (by rfl) h)

theorem Rod.winds_hostWr (n a : Nat) (bs : List Byte) (h : ρ.winds q) : ρ.winds (Rod.hostWr n q a bs) := by
  induction n generalizing q a bs with
  | zero => exact h
  | succ n ih =>
    unfold Rod.hostWr
    exact iteInduction (motive := ρ.winds) (fun _ => h) fun _ => ih _ _ (Rod.winds_send _ h)

theorem Rod.winds_putQp (n : Nat) (k : Qp) (h : ρ.winds q) : ρ.winds (q.putQp n k) := Rod.winds_hp _ (by rfl) h

theorem Rod.winds_postRaw (n : Nat) (c : Cpl) (h : ρ.winds q) : ρ.winds (q.postRaw n c) := by
  have htail (p : Rod) (v : Nat) (hp : ρ.winds p) : ρ.winds (p.p (Fl.CQ_TAIL_TAIL n) v) :=
    Rod.winds_p _ v (windKept_false (by simp only [Fl.CQ_TAIL_TAIL, Fld.addr]; omega) (by simp only [Fl.CQ_TAIL_TAIL, Fld.addr]; omega))
      (by simp only [Rg.RES_HOLD, Fl.CQ_TAIL_TAIL, Fld.addr]; omega) hp
  unfold Rod.postRaw
  refine Rod.winds_when _ _ (fun _ => Rod.winds_irq _ _) ?_
  exact iteInduction (motive := ρ.winds) (fun _ => Rod.winds_putQp _ _ (htail _ _ (Rod.winds_hostWr _ _ _ h)))
    fun _ => htail _ _ (Rod.winds_hostWr _ _ _ h)

theorem Rod.winds_postCmd (n : Nat) (c : Cpl) (h : ρ.winds q) : ρ.winds (q.postCmd n c) := by
  unfold Rod.postCmd
  split
  · exact iteInduction (motive := ρ.winds) (fun _ => Rod.winds_postRaw _ _ h) fun _ => Rod.winds_putQp _ _ h
  · exact h

theorem Rod.winds_finish (n cid status result : Nat) (h : ρ.winds q) : ρ.winds (q.finish n cid status result) := by
  unfold Rod.finish
  split
  · exact h
  · refine Rod.winds_postCmd _ _ (Rod.winds_when _ _ (fun _ => Rod.winds_flt _ _ _ _) (Rod.winds_leaveChans _ ?_))
    exact Rod.winds_hp _ (by rfl) (Rod.winds_dropRanks _ _ (Rod.winds_putQp _ _ h))

end

/-! ### A rank held too long (R223) -/

/-- The rod with a rank taken from its holder. -/
def Rod.lockFreed (ρ : Rod) (rank : Nat) : Rod :=
  (((ρ.p (rankF rank) 0xFF).irq 0x021 1).flt 0x0522 sevWarn 0x021 [(0, 1, rank), (1, 1, ρ.holder rank)])

/-- The commands of a queue that need a rank, or hold it. -/
def Rod.dependents (ρ : Rod) (rank : Nat) : List Cmd :=
  (ρ.qp (ρ.holder rank)).cmds.filter fun c =>
    c.run && (c.ranks.testBit (rank - 1) || (ρ.bitOf (Fl.QP_LOCKS_HELD (ρ.holder rank)) (rank - 1) && c.desc.opc != 0x0D#8 &&
      ρ.target c.desc == ρ.me && (rankNeed c.desc).testBit (rank - 1) && !(c.due && rankNeed c.desc == 2)))

/-- A rank is held beyond LOCK_TMO. -/
def Rod.lockLate (ρ : Rod) (rank : Nat) : Bool :=
  ρ.passed (Sparse.get 0 ρ.hp.since rank) (ρ.g Fl.RES_CFG_LOCK_TMO * 1000000)

theorem Rod.lockTimeout_idle (ρ : Rod) (rank : Nat) (h : ρ.holder rank = 0xFF ∨ ρ.lockLate rank = false) : ρ.lockTimeout rank = ρ :=
  if_pos h

theorem Rod.lockTimeout_due (ρ : Rod) (rank : Nat) (h : ρ.holder rank ≠ 0xFF) (hd : ρ.lockLate rank = true) : ρ.lockTimeout rank =
    if 16 ≤ ρ.holder rank then ρ.lockFreed rank
    else ((ρ.lockFreed rank).clrBit (Fl.QP_LOCKS_HELD (ρ.holder rank)) (rank - 1)).each (ρ.dependents rank) fun c r =>
      r.finish (ρ.holder rank) c.desc.cid.toNat 0x0A 0 := if_neg (by unfold Rod.lockLate at hd; simp [h, hd])

theorem Rod.lockFreed_spec (ρ : Rod) (k : Fin 4) : (ρ.lockFreed (k.val + 1)).holder (k.val + 1) = 0xFF ∧
    (ρ.lockFreed (k.val + 1)).raised 0x021 1 ∧ (ρ.lockFreed (k.val + 1)).noted 0x0522 sevWarn 0x021 ∧
    ρ.only (ρ.lockFreed (k.val + 1)) [Rg.RES_HOLD, Rg.IRQ_RAW 0x021] ρ := by
  have hk : 1 ≤ k.val + 1 ∧ k.val + 1 ≤ 4 := by omega
  refine ⟨?_, Rod.irq_sets _ 0x021 1 (by decide), Rod.noted_fltAP _ _ _ _ _ _ _, ?_⟩
  · refine (Rod.holder_of_gw (Rod.gw_irq_ne (ρ.p (rankF (k.val + 1)) 0xFF) 0x021 Rg.RES_HOLD 1 (by decide)) _).trans ?_
    rw [Rod.holder_p ρ _ _ _ hk hk, if_pos rfl]
  · exact Rod.only_fltAP (Rod.only_irq 0x021 1 (by simp) (Rod.only_p (rankF (k.val + 1)) _ (by rw [rankF_addr]; simp) (Rod.only_refl _ _)))

/-- What LOCK_TIMEOUT leaves. -/
theorem Rod.lockTimeout_flush (σ : Rod) (k : Fin 4) (h : σ.holder (k.val + 1) ≠ 0xFF) (hd : σ.lockLate (k.val + 1) = true) :
    let τ := (σ.lockTimeout (k.val + 1)).flush
    τ.holder (k.val + 1) = 0xFF ∧ τ.raised 0x021 1 ∧ τ.recorded 0x0522 sevWarn 0x021 ∧
    (σ.holder (k.val + 1) < 16 → (τ.g (Fl.QP_LOCKS_HELD (σ.holder (k.val + 1)))).testBit k.val = false) ∧
    (16 ≤ σ.holder (k.val + 1) → σ.only τ [Rg.RES_HOLD, Rg.IRQ_RAW 0x021] σ) := by
  dsimp only
  rw [Rod.lockTimeout_due σ _ h hd]
  obtain ⟨hfree, hraised, hnoted, honly⟩ := Rod.lockFreed_spec σ k
  generalize σ.holder (k.val + 1) = n at *
  generalize σ.lockFreed (k.val + 1) = ρ at *
  have hend {p q : Rod} (hh : p.holder (k.val + 1) = 0xFF) (hr : p.raised 0x021 1) (hn : p.noted 0x0522 sevWarn 0x021) (hw : p.winds q) :
      q.flush.holder (k.val + 1) = 0xFF ∧ q.flush.raised 0x021 1 ∧ q.flush.recorded 0x0522 sevWarn 0x021 :=
    ⟨(Rod.holder_of_gw (Rod.flush_gw q _ (by decide)) _).trans (hw.free k hh), Rod.raised_flush q _ _ (hw.carry.raised 0x021 1 (by decide) hr),
      hw.carry.recorded hn (by decide)⟩
  by_cases hn : 16 ≤ n
  · rw [if_pos hn]
    obtain ⟨hh, hr, hrec⟩ := hend hfree hraised hnoted (Rod.winds_refl ρ)
    exact ⟨hh, hr, hrec, fun hlt => absurd hn (by omega), fun _ => Rod.only_flush honly⟩
  · rw [if_neg hn, Nat.add_sub_cancel]
    have haddr : (Fl.QP_LOCKS_HELD n).addr = Rg.QP_LOCKS n := rfl
    have hlog : Rg.QP_LOCKS n ∉ logRegs := by
      simp only [logRegs, List.mem_cons, List.not_mem_nil, or_false, Rg.FL_SEQ, Rg.IRQ_RAW, Rg.QP_LOCKS]
      omega
    have hne (a : Nat) (ha : 0x20000 ≤ a) : a ≠ (Fl.QP_LOCKS_HELD n).addr := by
      rw [haddr, Rg.QP_LOCKS]
      omega
    have hkept : windKept (Fl.QP_LOCKS_HELD n).addr = true := by
      rw [haddr, Rg.QP_LOCKS]
      exact decide_eq_true (by omega)
    generalize hρ' : ρ.clrBit (Fl.QP_LOCKS_HELD n) k.val = ρ'
    have hgw (a : Nat) (ha : 0x20000 ≤ a) : ρ'.gw a = ρ.gw a := hρ' ▸ Rod.gw_p_ne ρ (Fl.QP_LOCKS_HELD n) a _ (hne a ha)
    have hbit : ρ'.bitOf (Fl.QP_LOCKS_HELD n) k.val = false :=
      hρ' ▸ Rod.bitOf_clrBit ρ (Fl.QP_LOCKS_HELD n) (by simp only [Fl.QP_LOCKS_HELD]; omega) k.val
    have hnoted' : ρ'.noted 0x0522 sevWarn 0x021 := hρ' ▸ hnoted
    have hraised' : ρ'.raised 0x021 1 := by
      unfold Rod.raised
      rw [hgw _ (by decide)]
      exact hraised
    have hw : ρ'.winds (ρ'.each (σ.dependents (k.val + 1)) fun c r => r.finish n c.desc.cid.toNat 0x0A 0) :=
      Rod.winds_each _ _ (fun c _ _ hp => Rod.winds_finish _ _ _ _ hp) (Rod.winds_refl ρ')
    obtain ⟨hh, hr, hrec⟩ := hend ((Rod.holder_of_gw (hgw _ (by decide)) _).trans hfree) hraised' hnoted' hw
    refine ⟨hh, hr, hrec, fun _ => ?_, fun h16 => absurd h16 hn⟩
    rw [Rod.flush_g _ (Fl.QP_LOCKS_HELD n) hlog, hw.carry.g (Fl.QP_LOCKS_HELD n) hkept (by rw [haddr, Rg.QP_LOCKS]; omega)]
    exact hbit

end Sys2Proof.Machine
end

section
/-! The fabric's arbiter (R215, R216, R219). -/

namespace Sys2Proof.Machine

/-! ### Sets of requesters as masks -/

theorem testBit_sub_and (a b i : Nat) : (a - (a &&& b)).testBit i = (a.testBit i && !b.testBit i) := by
  induction i generalizing a b with
  | zero =>
    have hbit := Nat.testBit_and a b 0
    have hle : a &&& b ≤ a := Nat.and_le_left
    simp only [Nat.testBit_zero] at hbit ⊢
    rcases Nat.mod_two_eq_zero_or_one a with ha | ha <;> rcases Nat.mod_two_eq_zero_or_one b with hb | hb <;>
      simp only [ha, hb, Nat.zero_ne_one, decide_true, decide_false, Bool.and_true, Bool.and_false, Bool.not_true, Bool.not_false,
        decide_eq_true_eq, decide_eq_false_iff_not] at hbit ⊢ <;> omega
  | succ i ih =>
    have hbit := Nat.testBit_and a b 0
    have hle : a &&& b ≤ a := Nat.and_le_left
    have hhalf : (a &&& b) / 2 = a / 2 &&& b / 2 := Nat.and_div_two
    have hsub : (a - (a &&& b)) / 2 = a / 2 - (a / 2 &&& b / 2) := by
      have hodd : (a &&& b) % 2 = 1 → a % 2 = 1 := fun h => by
        simp only [Nat.testBit_zero, h, decide_true] at hbit
        by_contra hne
        simp [hne] at hbit
      omega
    rw [Nat.testBit_add_one, hsub, ih, ← Nat.testBit_add_one, ← Nat.testBit_add_one]

/-- The mask of those of the first `n` that satisfy `p`. -/
def maskOf (n : Nat) (p : Nat → Bool) : Nat := ((List.range n).filter p).foldl (fun m i => m + 2 ^ i) 0

theorem maskOf_succ (n : Nat) (p : Nat → Bool) : maskOf (n + 1) p = maskOf n p + if p n then 2 ^ n else 0 := by
  unfold maskOf
  rw [List.range_succ, List.filter_append, List.foldl_append]
  cases h : p n <;> simp [h]

theorem maskOf_lt (n : Nat) (p : Nat → Bool) : maskOf n p < 2 ^ n := by
  induction n with
  | zero => exact Nat.one_pos
  | succ n ih =>
    rw [maskOf_succ, Nat.pow_succ]
    split <;> omega

theorem testBit_maskOf (n : Nat) (p : Nat → Bool) (j : Nat) : (maskOf n p).testBit j = (decide (j < n) && p j) := by
  induction n with
  | zero => simp [maskOf]
  | succ n ih =>
    have hlast : (if p n then 2 ^ n else 0).testBit j = (decide (j = n) && p j) := by
      by_cases hj : j = n
      · subst hj
        cases p j <;> simp
      · cases p n <;> simp [hj, Ne.symm hj]
    have hor : maskOf n p + (if p n then 2 ^ n else 0) = maskOf n p ||| (if p n then 2 ^ n else 0) := by
      cases p n
      · simp
      · exact (Nat.or_two_pow_eq_add_of_lt (maskOf_lt n p)).symm
    rw [maskOf_succ, hor, Nat.testBit_or, ih, hlast, ← Bool.and_or_distrib_right]
    congr 1
    rw [← Bool.decide_or]
    exact decide_eq_decide.2 (by omega)

/-! ### The turn of a requester -/

/-- How many requesters come before `i` in the turn after `last`. -/
def turnOf (last i : Nat) : Nat := (i + 27 - last % 28) % 28

theorem nextAfter_eq (last pend : Nat) : nextAfter last pend =
    ((List.range 28).find? fun k => pend.testBit ((last + 1 + k) % 28)).map fun k => (last + 1 + k) % 28 := by
  unfold nextAfter
  rw [List.find?_map]
  rfl

/-- The turn of `i` brings `i`. -/
theorem turnOf_next (last i : Nat) (h : i < 28) : turnOf last i < 28 ∧ (last + 1 + turnOf last i) % 28 = i := by
  unfold turnOf
  omega

theorem nextAfter_some {last pend i : Nat} (h : nextAfter last pend = some i) :
    i < 28 ∧ pend.testBit i = true ∧ ∀ j, j < 28 → pend.testBit j = true → turnOf last i ≤ turnOf last j := by
  rw [nextAfter_eq, Option.map_eq_some_iff] at h
  obtain ⟨k, hk, rfl⟩ := h
  obtain ⟨hbit, hlt, hfirst⟩ := List.find?_range_eq_some.1 hk
  refine ⟨Nat.mod_lt _ (by decide), hbit, fun j hj hp => ?_⟩
  obtain ⟨-, hnext⟩ := turnOf_next last j hj
  have hturn : turnOf last ((last + 1 + k) % 28) = k := by
    have := List.mem_range.1 hlt
    unfold turnOf
    omega
  rw [hturn]
  by_contra hlate
  have := hfirst (turnOf last j) (by omega)
  rw [hnext, hp] at this
  exact absurd this (by decide)

theorem nextAfter_none {last pend : Nat} (h : nextAfter last pend = none) (j : Nat) (hj : j < 28) : pend.testBit j = false := by
  rw [nextAfter_eq, Option.map_eq_none_iff, List.find?_eq_none] at h
  obtain ⟨hlt, hnext⟩ := turnOf_next last j hj
  have := h (turnOf last j) (List.mem_range.2 hlt)
  rw [hnext] at this
  simpa using this

/-! ### The grant -/

/-- The class of a requester: as it was when it began to request, or as it is now (R219). -/
def Rod.urgentOf (ρ : Rod) (bulk i : Nat) : Bool :=
  if ρ.hp.pend.testBit i then ρ.hp.urgent.testBit i else ρ.urgentNow bulk i

/-- The urgent among the requesters. -/
def Rod.urgentMask (ρ : Rod) (requests bulk : Nat) : Nat := maskOf 28 fun i => requests.testBit i && ρ.urgentOf bulk i

/-- The rod with the next grant given, `urgent` being the urgent requesters. -/
def Rod.granted (ρ : Rod) (requests urgent beats : Nat) : Rod :=
  match nextAfter ρ.hp.lastU urgent, nextAfter ρ.hp.lastN (requests - (requests &&& urgent)) with
  | some i, _ =>
    { ρ with hp := { ρ.hp with pend := requests - 2 ^ i, urgent := urgent - 2 ^ i, lastU := i, grant := some (i, ρ.burst i beats) } }
  | none, some i =>
    { ρ with hp := { ρ.hp with pend := requests - 2 ^ i, urgent := urgent, lastN := i, grant := some (i, ρ.burst i beats) } }
  | none, none => { ρ with hp := { ρ.hp with pend := 0, urgent := 0, grant := none } }

theorem Rod.fabricGrant_eq (ρ : Rod) (requests bulk beats : Nat) :
    ρ.fabricGrant requests bulk beats = ρ.granted requests (ρ.urgentMask requests bulk) beats := by
  have hmask : (((List.range 28).filter fun i => requests.testBit i &&
      (if ((List.range 28).filter fun i => requests.testBit i && !ρ.hp.pend.testBit i).contains i then ρ.urgentNow bulk i
        else ρ.hp.urgent.testBit i)).foldl (fun m i => m + 2 ^ i) 0) = ρ.urgentMask requests bulk := by
    unfold Rod.urgentMask maskOf
    congr 1
    refine List.filter_congr fun i hi => ?_
    have hnew : ((List.range 28).filter fun i => requests.testBit i && !ρ.hp.pend.testBit i).contains i =
        (requests.testBit i && !ρ.hp.pend.testBit i) := by
      rw [Bool.eq_iff_iff, List.contains_iff_mem, List.mem_filter, and_iff_right hi]
    rw [hnew]
    unfold Rod.urgentOf
    cases requests.testBit i <;> cases ρ.hp.pend.testBit i <;> rfl
  unfold Rod.granted
  rw [← hmask]
  rfl

theorem Rod.granted_frame (ρ : Rod) (requests urgent beats : Nat) :
    ρ.granted requests urgent beats = { ρ with hp := (ρ.granted requests urgent beats).hp } ∧
    (ρ.granted requests urgent beats).hp.chans = ρ.hp.chans := by
  unfold Rod.granted
  split <;> exact ⟨rfl, rfl⟩

/-- What a grant says: the requester, its beats, and the first of the urgent in turn before the first of the normal. -/
def Rod.grants (ρ : Rod) (requests bulk beats : Nat) (k : HpS) : Prop :=
  ∃ i, i < 28 ∧ requests.testBit i = true ∧ k.grant = some (i, ρ.burst i beats) ∧ k.pend = requests - 2 ^ i ∧
    (ρ.urgentOf bulk i = true → k.lastU = i ∧ k.lastN = ρ.hp.lastN) ∧
    (ρ.urgentOf bulk i = false → k.lastN = i ∧ k.lastU = ρ.hp.lastU) ∧
    ∀ j, j < 28 → requests.testBit j = true →
      (ρ.urgentOf bulk j = true → ρ.urgentOf bulk i = true ∧ turnOf ρ.hp.lastU i ≤ turnOf ρ.hp.lastU j) ∧
      (ρ.urgentOf bulk j = false → ρ.urgentOf bulk i = false → turnOf ρ.hp.lastN i ≤ turnOf ρ.hp.lastN j)

theorem Rod.testBit_urgentMask (ρ : Rod) (requests bulk : Nat) {i : Nat} (h : i < 28) :
    (ρ.urgentMask requests bulk).testBit i = (requests.testBit i && ρ.urgentOf bulk i) := by
  rw [Rod.urgentMask, testBit_maskOf, decide_eq_true h, Bool.true_and]

theorem Rod.fabricGrant_none (ρ : Rod) (bulk beats : Nat) : (ρ.fabricGrant 0 bulk beats).hp.grant = none := by
  rw [Rod.fabricGrant_eq]
  unfold Rod.granted
  split
  next i hi =>
    obtain ⟨hlt, hbit, -⟩ := nextAfter_some hi
    rw [Rod.testBit_urgentMask ρ 0 bulk hlt, Nat.zero_testBit] at hbit
    cases hbit
  next i hi =>
    obtain ⟨-, hbit, -⟩ := nextAfter_some hi
    rw [Nat.zero_sub, Nat.zero_testBit] at hbit
    cases hbit
  next => rfl

theorem Rod.fabricGrant_some (ρ : Rod) (requests bulk beats : Nat) (h : requests ≠ 0) (hlt : requests < 2 ^ 28) :
    ρ.grants requests bulk beats (ρ.fabricGrant requests bulk beats).hp := by
  rw [Rod.fabricGrant_eq]
  have hnormal (i : Nat) (hi : i < 28) : (requests - (requests &&& ρ.urgentMask requests bulk)).testBit i =
      (requests.testBit i && !ρ.urgentOf bulk i) := by
    rw [testBit_sub_and, Rod.testBit_urgentMask ρ requests bulk hi]
    cases requests.testBit i <;> rfl
  unfold Rod.granted
  split
  next i hi =>
    obtain ⟨hi28, hbit, hfirst⟩ := nextAfter_some hi
    rw [Rod.testBit_urgentMask ρ requests bulk hi28, Bool.and_eq_true] at hbit
    obtain ⟨hreq, hurg⟩ := hbit
    refine ⟨i, hi28, hreq, rfl, rfl, fun _ => ⟨rfl, rfl⟩, fun hn => absurd (hurg.symm.trans hn) (by decide), fun j hj hjr =>
      ⟨fun hju => ⟨hurg, ?_⟩, fun _ hn => absurd (hurg.symm.trans hn) (by decide)⟩⟩
    exact hfirst j hj (by rw [Rod.testBit_urgentMask ρ requests bulk hj, hjr, hju]; rfl)
  next i hu hi =>
    obtain ⟨hi28, hbit, hfirst⟩ := nextAfter_some hi
    rw [hnormal i hi28, Bool.and_eq_true, Bool.not_eq_true'] at hbit
    obtain ⟨hreq, hnorm⟩ := hbit
    refine ⟨i, hi28, hreq, rfl, rfl, fun hn => absurd (hnorm.symm.trans hn) (by decide), fun _ => ⟨rfl, rfl⟩, fun j hj hjr => ⟨fun hju => ?_,
      fun hjn _ => hfirst j hj (by rw [hnormal j hj, hjr, hjn]; rfl)⟩⟩
    have := nextAfter_none hu j hj
    rw [Rod.testBit_urgentMask ρ requests bulk hj, hjr, hju] at this
    cases this
  next hu hn =>
    obtain ⟨j, hj⟩ := Nat.exists_testBit_of_ne_zero h
    have hj28 : j < 28 := by
      by_contra hge
      rw [Nat.testBit_lt_two_pow (Nat.lt_of_lt_of_le hlt (Nat.pow_le_pow_right (by decide) (by omega)))] at hj
      cases hj
    have hu' := nextAfter_none hu j hj28
    have hn' := nextAfter_none hn j hj28
    rw [Rod.testBit_urgentMask ρ requests bulk hj28, hj, Bool.true_and] at hu'
    rw [hnormal j hj28, hj, hu'] at hn'
    cases hn'

/-! ### The burst -/

theorem Rod.winds_captureDrain {ρ q : Rod} (ch n : Nat) (hch : ch = 2 ∨ ch = 3) (h : ρ.winds q) : ρ.winds (q.captureDrain ch n) := by
  have hmoved (p : Rod) (m : Nat) (hp : ρ.winds p) : ρ.winds (p.moved ch m) := by
    rcases hch with rfl | rfl <;> exact Rod.winds_p _ _ (by decide) (by decide) hp
  unfold Rod.captureDrain
  split
  · exact h
  · split
    · exact h
    · refine iteInduction (motive := ρ.winds) (fun _ => h) fun _ => ?_
      refine iteInduction (motive := ρ.winds) (fun _ => Rod.winds_finish _ _ _ _ (Rod.winds_putQp _ _ ?_)) fun _ => Rod.winds_putQp _ _ ?_
      · exact iteInduction (motive := ρ.winds) (fun _ => h) fun _ => hmoved _ _ (Rod.winds_hostWr _ _ _ h)
      · exact iteInduction (motive := ρ.winds) (fun _ => h) fun _ => hmoved _ _ (Rod.winds_hostWr _ _ _ h)

theorem Rod.winds_burstMoves (ρ : Rod) : ρ.winds ρ.burstMoves := by
  unfold Rod.burstMoves
  split
  · exact iteInduction (motive := ρ.winds) (fun hi => Rod.winds_captureDrain _ _ (by omega) (Rod.winds_refl ρ)) fun _ => Rod.winds_refl ρ
  · exact Rod.winds_refl ρ

/-- Without a command on a write channel a burst moves nothing. -/
theorem Rod.burstMoves_idle (ρ : Rod) (h2 : ρ.chan 2 = []) (h3 : ρ.chan 3 = []) : ρ.burstMoves = ρ := by
  have hdrain (ch n : Nat) (hc : ρ.chan ch = []) : ρ.captureDrain ch n = ρ := by
    unfold Rod.captureDrain
    rw [hc]
    rfl
  unfold Rod.burstMoves
  split
  next i k _ =>
    split
    next hi =>
      rcases hi with rfl | rfl
      · exact hdrain _ _ h2
      · exact hdrain _ _ h3
    next => rfl
  next => rfl

theorem Rod.fabricGrant_flush (σ : Rod) (req bulk : BitVec 28) (beats : Fin 17) :
    let τ := (σ.fabricGrant req.toNat bulk.toNat beats.val).burstMoves.flush
    (σ.chan 2 = [] → σ.chan 3 = [] → σ.only τ [] { σ with hp := τ.hp }) ∧ (req = 0#28 → τ.hp.grant = none) ∧
    (req ≠ 0#28 → σ.grants req.toNat bulk.toNat beats.val τ.hp) := by
  dsimp only
  have hw := (Rod.winds_burstMoves (σ.fabricGrant req.toNat bulk.toNat beats.val)).fabric
  rw [Rod.flush_hp]
  simp only [Prod.mk.injEq] at hw
  obtain ⟨hgrant, hpend, hU, hN⟩ := hw
  refine ⟨fun h2 h3 => ?_, fun h0 => ?_, fun hne => ?_⟩
  · obtain ⟨heq, hchans⟩ := Rod.granted_frame σ req.toNat (σ.urgentMask req.toNat bulk.toNat) beats.val
    rw [Rod.fabricGrant_eq]
    have hchan (ch : Nat) (hc : σ.chan ch = []) : (σ.granted req.toNat (σ.urgentMask req.toNat bulk.toNat) beats.val).chan ch = [] := by
      unfold Rod.chan at *
      rw [hchans, hc]
    rw [Rod.burstMoves_idle _ (hchan 2 h2) (hchan 3 h3)]
    generalize σ.granted req.toNat (σ.urgentMask req.toNat bulk.toNat) beats.val = q at heq ⊢
    refine Rod.only_flush ?_
    rw [heq]
    exact Rod.only_parts []
  · rw [hgrant, h0]
    exact Rod.fabricGrant_none σ bulk.toNat beats.val
  · obtain ⟨i, hi⟩ := Rod.fabricGrant_some σ req.toNat bulk.toNat beats.val (by simpa using mt BitVec.eq_of_toNat_eq hne) req.isLt
    refine ⟨i, ?_⟩
    rwa [hgrant, hpend, hU, hN]

end Sys2Proof.Machine
end

section
/-! A request that starves (R218), and the records of the partners (R191). -/

namespace Sys2Proof.Machine

/-! ### Starvation -/

theorem Rod.starvation_idle (ρ : Rod) (i : Nat) (h : ρ.bitOf Fl.STARVE_REQ i = true) : ρ.starvation i = ρ := if_pos h

/-- What the first STARVATION of a requester leaves. -/
theorem Rod.starvation_flush (σ : Rod) (i : Fin 28) (h : σ.bitOf Fl.STARVE_REQ i = false) :
    let τ := (σ.starvation i).flush
    τ.bitOf Fl.STARVE_REQ i = true ∧ τ.raised 0x021 0 ∧ τ.recorded 0x0520 sevWarn 0x021 ∧ σ.only τ [Rg.STARVE, Rg.IRQ_RAW 0x021] σ := by
  dsimp only
  have hset : ((σ.setBit Fl.STARVE_REQ i).irq 0x021 0).bitOf Fl.STARVE_REQ i = true := by
    rw [Rod.bitOf_congr _ _ Fl.STARVE_REQ (Rod.gw_irq_ne (σ.setBit Fl.STARVE_REQ i) 0x021 Rg.STARVE 0 (by decide)),
      Rod.bitOf_setBit σ Fl.STARVE_REQ (by decide) _ _ i.isLt]
    simp
  have hraised : ((σ.setBit Fl.STARVE_REQ i).irq 0x021 0).raised 0x021 0 := Rod.irq_sets _ 0x021 0 (by decide)
  have honly : σ.only ((σ.setBit Fl.STARVE_REQ i).irq 0x021 0) [Rg.STARVE, Rg.IRQ_RAW 0x021] σ :=
    Rod.only_irq 0x021 0 (by simp) (Rod.only_p Fl.STARVE_REQ _ (by decide) (Rod.only_refl _ _))
  unfold Rod.starvation
  rw [if_neg (by simp [h])]
  dsimp only
  generalize (σ.setBit Fl.STARVE_REQ i).irq 0x021 0 = ρ at *
  refine ⟨?_, Rod.raised_flush _ _ _ hraised, ?_, Rod.only_flush (Rod.only_fltAP honly)⟩
  · exact (Rod.bitOf_congr _ _ Fl.STARVE_REQ (Rod.flush_gw _ _ (by decide)) _).trans hset
  · exact (Rod.carries_refl (fun _ => ()) (fun _ => false) _).recorded (Rod.noted_fltAP _ _ _ _ _ _ _) rfl

/-! ### Relayed records -/

/-- What neither a message nor an interrupt changes is after a record as its place in the log leaves it. -/
theorem Rod.writeRec_of_logStore {β : Type} (P : Rod → β) (hm : ∀ (q : Rod) b l, P { q with pba := b, out := l } = P q)
    (hi : ∀ (q : Rod) j, P (q.irq 0x0D0 j) = P q) (ρ : Rod) (e : FaultRec) (own : Bool) : P (ρ.writeRec e own) = P (ρ.logStore e own) := by
  have hsev (q : Rod) (n : Nat) : P (q.sevMsg n own) = P q := by
    obtain ⟨b, l, h⟩ := Rod.sevMsg_cases q n own
    rw [h]
    exact hm _ _ _
  unfold Rod.writeRec
  rw [Rod.when_keeps P _ _ _ (by exact fun q => hm q q.pba _), hsev, Rod.when_keeps P _ _ _ (by exact fun q => hi q 0),
    Rod.when_keeps P _ _ _ (by exact fun q => hi q 1)]

theorem Rod.agrees_writeRec (ρ : Rod) (e : FaultRec) (own : Bool) : (ρ.writeRec e own).agrees ρ := by
  simp [Rod.agrees_iff]

theorem Rod.only_writeRec (ρ : Rod) (e : FaultRec) (own : Bool) : ρ.only (ρ.writeRec e own) [] ρ :=
  ⟨fun a _ hs hi => Rod.writeRec_gw ρ e own a (by simp [logRegs, hs, hi]), Rod.agrees_writeRec ρ e own⟩

/-- A partner's record takes the next place of the log. -/
theorem Rod.writeRec_relayed (ρ : Rod) (e : FaultRec) :
    (ρ.writeRec e false).g Fl.FL_SEQ_SEQ = (ρ.g Fl.FL_SEQ_SEQ + 1) % 2 ^ 32 ∧
    ((ρ.writeRec e false).log.find? fun x => x.1 == ρ.g Fl.FL_SEQ_SEQ % 1024) = some (ρ.g Fl.FL_SEQ_SEQ % 1024, e) := by
  refine ⟨?_, ?_⟩
  · rw [Rod.writeRec_of_logStore (·.g Fl.FL_SEQ_SEQ) (fun _ _ _ => rfl) (fun q j => Rod.g_irq_ne q 0x0D0 j _ (by decide)) ρ e false]
    exact Rod.g_p _ Fl.FL_SEQ_SEQ _ (by decide)
  · rw [Rod.writeRec_of_logStore (·.log) (fun _ _ _ => rfl) (fun q j => Rod.irq_log q _ _) ρ e false]
    exact Sparse.find?_put _ _ _

/-- Whether a rod relays a record: one of a partner whose records it takes (R191). -/
def Rod.relays (ρ : Rod) (e : FaultRec) : Prop :=
  e.rod.toNat < 3 ∧ e.rod.toNat ≠ ρ.me.code ∧ ρ.bitOf Fl.FWD_CFG_RELAY e.rod.toNat = true

theorem Rod.relayIn_flush (σ : Rod) (e : FaultRec) (h : σ.recBuf = []) :
    let τ := (σ.relayIn e).flush
    (σ.relays e → τ.g Fl.FL_SEQ_SEQ = (σ.g Fl.FL_SEQ_SEQ + 1) % 2 ^ 32 ∧
      (τ.log.find? fun x => x.1 == σ.g Fl.FL_SEQ_SEQ % 1024) = some (σ.g Fl.FL_SEQ_SEQ % 1024, e) ∧ σ.only τ [] σ) ∧
    (¬σ.relays e → σ.noRecord τ ∧ σ.only τ [] σ) := by
  dsimp only
  refine ⟨fun hr => ?_, fun hr => ?_⟩
  · rw [show σ.relayIn e = σ.writeRec e false from if_pos hr, Rod.flush_nil _ (by rw [Rod.writeRec_recBuf, h])]
    obtain ⟨hseq, hlog⟩ := Rod.writeRec_relayed σ e
    exact ⟨hseq, hlog, Rod.only_writeRec σ e false⟩
  · rw [show σ.relayIn e = σ from if_neg hr, Rod.flush_nil _ h]
    exact ⟨⟨rfl, rfl, rfl⟩, Rod.only_refl _ _⟩

end Sys2Proof.Machine
end

section
/-! Doorbells (R192, R193). -/

namespace Sys2Proof.Machine

/-- What an accepted write of a plain register's address leaves of its rod. -/
theorem completes_write32 {i : Instr} {s : State} {r : RodId} {path : Path} {a : Nat} {data : Word} {P : Rod → Prop}
    (he : exec i s = write32 s r path a data) (ha : (s.rod r).accepts path a) (ho : a % 0x1000 ≠ 0xD8)
    (hl : ((regRow a).any fun k => k.rwl != 0#32) = false) (h : P ((s.rod r).writeReg s.rod path.code a data).flush) :
    completes i s fun t => P (t.rod r) := by
  obtain ⟨t, ht, hr⟩ := exec_registerWrite_accepts s r path a data ha ho hl
  exact ⟨t, he.trans ht, by dsimp only; rw [hr]; exact h⟩

section
variable (ρ : Rod) (ps : RodId → Rod) (path : Nat) (q : Fin 16) (data : Word)

theorem Rod.writeReg_SQ_TAIL : ρ.writeReg ps path (Rg.SQ_TAIL q) data = ρ.writeSqTail path q data := by
  have hp : Rg.SQ_TAIL q.val / 0x1000 = 0x10 + q.val := by unfold Rg.SQ_TAIL; omega
  have ho : Rg.SQ_TAIL q.val % 0x1000 = 0x5C := by unfold Rg.SQ_TAIL; omega
  unfold Rod.writeReg
  simp [hp, ho, queuePage_ne q, queuePage_le q]

theorem Rod.writeReg_CQ_HEAD : ρ.writeReg ps path (Rg.CQ_HEAD q) data = ρ.writeCqHead path q data := by
  have hp : Rg.CQ_HEAD q.val / 0x1000 = 0x10 + q.val := by unfold Rg.CQ_HEAD; omega
  have ho : Rg.CQ_HEAD q.val % 0x1000 = 0x64 := by unfold Rg.CQ_HEAD; omega
  unfold Rod.writeReg
  simp [hp, ho, queuePage_ne q, queuePage_le q]

theorem Rod.writeReg_QP_CLASS : ρ.writeReg ps path (Rg.QP_CLASS q) data = ρ.writeQpClass ps q data := by
  have hp : Rg.QP_CLASS q.val / 0x1000 = 0x10 + q.val := by unfold Rg.QP_CLASS; omega
  have ho : Rg.QP_CLASS q.val % 0x1000 = 0x44 := by unfold Rg.QP_CLASS; omega
  unfold Rod.writeReg
  simp [hp, ho, queuePage_ne q, queuePage_le q]

end

theorem queueRegs_plain (q : Fin 16) : ∀ a ∈ [Rg.SQ_TAIL q, Rg.CQ_HEAD q, Rg.QP_CLASS q], a % 0x1000 ≠ 0xD8 := by
  simp only [List.mem_cons, List.not_mem_nil, or_false, Rg.SQ_TAIL, Rg.CQ_HEAD, Rg.QP_CLASS]
  omega

/-- None of the doorbells and QP_CLASS has a field that maintenance access guards (R633). -/
theorem queueRegs_no_rwl (q : Fin 16) : ∀ a ∈ [Rg.SQ_TAIL q, Rg.CQ_HEAD q, Rg.QP_CLASS q], ((regRow a).any fun k => k.rwl != 0#32) = false := by
  decide +revert

/-! ### Doorbells out of range -/

/-- The registers that an invalid doorbell writes. -/
def bellRegs (q : Fin 16) : List Nat := [Rg.QP_STAT q, Rg.ERRCAP_0 (0x010 + q.val), Rg.ERRCAP_1 (0x010 + q.val), Rg.IRQ_RAW (0x010 + q.val)]

theorem bellRegs_off (q : Fin 16) : ∀ a ∈ bellRegs q, a ∉ logRegs := by
  intro a ha hl
  simp only [bellRegs, logRegs, List.mem_cons, List.not_mem_nil, or_false, Rg.QP_STAT, Rg.ERRCAP_0, Rg.ERRCAP_1, Rg.IRQ_RAW, Rg.FL_SEQ] at ha hl
  omega

/-- A captured error leaves the interrupts that are set. -/
theorem Rod.carries_errCap (ρ : Rod) (p type path off : Nat) (data : Word) :
    ρ.carries (fun _ => ()) (fun a => decide (a ≠ Rg.ERRCAP_0 p ∧ a ≠ Rg.ERRCAP_1 p)) (ρ.errCap p type path off data) := by
  have h0 {q : Rod} (lo w v : Nat) (hq : ρ.carries (fun _ => ()) (fun a => decide (a ≠ Rg.ERRCAP_0 p ∧ a ≠ Rg.ERRCAP_1 p)) q) :
      ρ.carries (fun _ => ()) (fun a => decide (a ≠ Rg.ERRCAP_0 p ∧ a ≠ Rg.ERRCAP_1 p)) (q.p ⟨p, 0x34, lo, w⟩ v) :=
    Rod.carries_p _ v (by simp [Fld.addr, Rg.ERRCAP_0]) hq
  cases h : ρ.b (Fl.ERRCAP_0_VALID p) with
  | true =>
    rw [Rod.errCap_again _ _ _ _ _ _ h]
    exact h0 _ _ _ (Rod.carries_refl _ _ _)
  | false =>
    rw [Rod.errCap_first _ _ _ _ _ _ h]
    refine Rod.carries_when _ _ (fun _ => Rod.carries_fltAP) (Rod.carries_irq _ _ (Rod.carries_p (Fl.ERRCAP_1_DATA p) _ ?_ ?_))
    · simp [Fld.addr, Fl.ERRCAP_1_DATA, Rg.ERRCAP_1]
    · exact h0 _ _ _ (h0 _ _ _ (h0 _ _ _ (h0 _ _ _ (h0 _ _ _ (Rod.carries_refl _ _ _)))))

/-- What an invalid doorbell leaves (R193). -/
theorem Rod.badBell_flush (σ : Rod) (path : Path) (q : Fin 16) (o : Nat) (data : Word) (ho : o < 4096) :
    let page := 0x010 + q.val
    let τ := (σ.badBell path.code q o data).flush
    τ.b (Fl.QP_STAT_SQ_ERR q) = true ∧ τ.raised page 2 ∧ τ.b (Fl.ERRCAP_0_VALID page) = true ∧
    (σ.b (Fl.ERRCAP_0_VALID page) = false → τ.g (Fl.ERRCAP_0_TYPE page) = 6) ∧ σ.only τ (bellRegs q) σ := by
  dsimp only
  have hshown : ((σ.p (Fl.QP_STAT_SQ_ERR q) 1).irq (0x010 + q.val) 2).b (Fl.QP_STAT_SQ_ERR q) = true :=
    (Rod.b_congr _ _ (Fl.QP_STAT_SQ_ERR q) (Rod.gw_irq_ne _ _ _ 2 (by simp only [Fl.QP_STAT_SQ_ERR, Fld.addr, Rg.IRQ_RAW]; omega))).trans
      (Rod.b_p σ (Fl.QP_STAT_SQ_ERR q) true (by simp [Fl.QP_STAT_SQ_ERR]) rfl)
  have hraised : ((σ.p (Fl.QP_STAT_SQ_ERR q) 1).irq (0x010 + q.val) 2).raised (0x010 + q.val) 2 := Rod.irq_sets _ _ 2 (by decide)
  have hvalid : ((σ.p (Fl.QP_STAT_SQ_ERR q) 1).irq (0x010 + q.val) 2).b (Fl.ERRCAP_0_VALID (0x010 + q.val)) =
      σ.b (Fl.ERRCAP_0_VALID (0x010 + q.val)) := by
    refine Rod.b_congr _ _ (Fl.ERRCAP_0_VALID (0x010 + q.val)) ((Rod.gw_irq_ne _ _ _ 2 ?_).trans (Rod.gw_p_ne _ (Fl.QP_STAT_SQ_ERR q) _ _ ?_))
    · simp only [Fl.ERRCAP_0_VALID, Fld.addr, Rg.IRQ_RAW]; omega
    · simp only [Fl.ERRCAP_0_VALID, Fl.QP_STAT_SQ_ERR, Fld.addr]; omega
  have honly : σ.only ((σ.p (Fl.QP_STAT_SQ_ERR q) 1).irq (0x010 + q.val) 2) (bellRegs q) σ :=
    Rod.only_irq _ 2 (by simp [bellRegs]) (Rod.only_p (Fl.QP_STAT_SQ_ERR q) _ (by simp [bellRegs, Fl.QP_STAT_SQ_ERR, Fld.addr, Rg.QP_STAT])
      (Rod.only_refl _ _))
  have hbell : σ.badBell path.code q o data = ((σ.p (Fl.QP_STAT_SQ_ERR q) 1).irq (0x010 + q.val) 2).errCap (0x010 + q.val) 6 path.code o data := rfl
  rw [hbell]
  generalize (σ.p (Fl.QP_STAT_SQ_ERR q) 1).irq (0x010 + q.val) 2 = ρ at *
  have hc := Rod.carries_errCap ρ (0x010 + q.val) 6 path.code o data
  refine ⟨?_, ?_, ?_, fun hv => ?_, ?_⟩
  · rw [Rod.flush_b _ (Fl.QP_STAT_SQ_ERR q) (bellRegs_off q _ (by simp [bellRegs, Fl.QP_STAT_SQ_ERR, Fld.addr, Rg.QP_STAT]))]
    refine (hc.b (Fl.QP_STAT_SQ_ERR q) ?_ ?_).trans hshown
    · exact decide_eq_true (by simp only [Fl.QP_STAT_SQ_ERR, Fld.addr, Rg.ERRCAP_0, Rg.ERRCAP_1]; omega)
    · simp only [Fl.QP_STAT_SQ_ERR, Fld.addr]; omega
  · refine Rod.raised_flush _ _ _ (hc.raised _ 2 ?_ hraised)
    exact decide_eq_true (by simp only [Rg.IRQ_RAW, Rg.ERRCAP_0, Rg.ERRCAP_1]; omega)
  · rw [Rod.flush_b _ (Fl.ERRCAP_0_VALID (0x010 + q.val)) (bellRegs_off q _ (by simp [bellRegs, Fl.ERRCAP_0_VALID, Fld.addr, Rg.ERRCAP_0]))]
    exact Rod.errCap_valid ρ _ 6 path.code o data
  · obtain ⟨-, -, htype, -⟩ := Rod.errCap_captures ρ (0x010 + q.val) 6 path.code o data (hvalid.trans hv) (by decide) (path_code_lt path) ho
    exact htype
  · obtain ⟨hk, ha⟩ := Rod.only_mono (ex' := bellRegs q) (by simp [errRegs, bellRegs]) (Rod.only_errCap ρ (0x010 + q.val) 6 path.code o data)
    exact Rod.only_flush ⟨Rod.keepsRegs_trans honly.1 hk, Rod.agrees_trans _ _ _ ha honly.2⟩

/-! ### What a doorbell does -/

/-- A doorbell in range sets the index of its ring. -/
theorem Rod.bellSet_flush (σ : Rod) (f : Fld) (data : Word) (hlo : f.lo = 0) (hw : f.w = 12) (hf : f.addr ∉ logRegs) :
    (σ.p f (wBits data 0 12)).flush.g f = wBits data 0 12 ∧ σ.only (σ.p f (wBits data 0 12)).flush [f.addr] σ := by
  refine ⟨?_, Rod.only_flush (Rod.only_p f _ (by simp) (Rod.only_refl _ _))⟩
  rw [Rod.flush_g _ f hf, Rod.g_p _ f _ (by omega), hw]
  exact Nat.mod_eq_of_lt (wBits_lt data 0 12)

theorem Rod.writeSqTail_in (ρ : Rod) (path q : Nat) (data : Word) (hon : ρ.qpOn q = true)
    (hv : wBits data 0 12 < ρ.g (Fl.QP_SIZE_SQ_LEN q)) : ρ.writeSqTail path q data = ρ.p (Fl.SQ_TAIL_TAIL q) (wBits data 0 12) :=
  if_neg (by simp [hon, hv])

theorem Rod.writeSqTail_out (ρ : Rod) (path q : Nat) (data : Word)
    (h : ρ.qpOn q = false ∨ ρ.g (Fl.QP_SIZE_SQ_LEN q) ≤ wBits data 0 12) : ρ.writeSqTail path q data = ρ.badBell path q 0x5C data := if_pos h

/-- How far an index of the completion ring lies beyond its head. -/
def Rod.beyondHead (ρ : Rod) (q x : Nat) : Nat :=
  (x + ρ.g (Fl.QP_SIZE_CQ_LEN q) - ρ.g (Fl.CQ_HEAD_HEAD q)) % ρ.g (Fl.QP_SIZE_CQ_LEN q)

theorem Rod.writeCqHead_in (ρ : Rod) (path q : Nat) (data : Word) (hon : ρ.qpOn q = true)
    (hv : wBits data 0 12 < ρ.g (Fl.QP_SIZE_CQ_LEN q))
    (ht : ρ.beyondHead q (wBits data 0 12) ≤ ρ.beyondHead q (ρ.g (Fl.CQ_TAIL_TAIL q))) :
    ρ.writeCqHead path q data = ρ.p (Fl.CQ_HEAD_HEAD q) (wBits data 0 12) :=
  if_neg fun h => h.elim (fun e => Bool.false_ne_true (e.symm.trans hon)) fun e => e.elim (Nat.not_le.2 hv) (Nat.not_lt.2 ht)

theorem Rod.writeCqHead_out (ρ : Rod) (path q : Nat) (data : Word) (h : ρ.qpOn q = false ∨ ρ.g (Fl.QP_SIZE_CQ_LEN q) ≤ wBits data 0 12 ∨
    ρ.beyondHead q (ρ.g (Fl.CQ_TAIL_TAIL q)) < ρ.beyondHead q (wBits data 0 12)) :
    ρ.writeCqHead path q data = ρ.badBell path q 0x64 data := if_pos h

end Sys2Proof.Machine
end

section
/-! A queue loses the urgent class (R219, R244): the contracts of which it is the source are broken (R252). -/

namespace Sys2Proof.Machine

theorem Sparse.find?_put_ne {α : Type} (m : Sparse α) (k i : Nat) (v : α) (h : i ≠ k) :
    (Sparse.put m k v).find? (fun e => e.1 == i) = m.find? fun e => e.1 == i := by
  induction m with
  | nil => simp [Sparse.put, Ne.symm h]
  | cons e t ih =>
    obtain ⟨j, u⟩ := e
    unfold Sparse.put
    split
    next hj => simp [← hj, Ne.symm h]
    next =>
      split
      · simp [Ne.symm h]
      · rw [List.find?_cons, List.find?_cons, ih]

theorem Rod.entry_putEntry (ρ : Rod) (k i : Nat) (e : LedgerEntry) :
    (ρ.putEntry k e).entry i = if i = k then some e else ρ.entry i := by
  unfold Rod.entry Rod.putEntry Rod.modCt
  dsimp only
  split
  next h => rw [h, Sparse.find?_put]; rfl
  next h => rw [Sparse.find?_put_ne _ _ _ _ h]

/-- An entry is listed under its index. -/
theorem Rod.entry_mem {ρ : Rod} {i : Nat} {e : LedgerEntry} (h : ρ.entry i = some e) : (i, e) ∈ ρ.ct.ledger := by
  unfold Rod.entry at h
  rw [Option.map_eq_some_iff] at h
  obtain ⟨⟨j, x⟩, hx, rfl⟩ := h
  have hj : j = i := by simpa using List.find?_some hx
  exact hj ▸ List.mem_of_find?_eq_some hx

/-! ### What a broken contract leaves beside the ledger -/

/-- `q` comes of `ρ` by changes beside the ledger and the register `a`, with every message and record kept. -/
structure Rod.besideCt (a : Nat) (ρ q : Rod) : Prop where
  carry : ρ.carries (fun _ => ()) (· == a) q
  ledger : q.ct.ledger = ρ.ct.ledger

section
variable {a : Nat} {ρ q : Rod}

theorem Rod.besideCt_refl (a : Nat) (ρ : Rod) : Rod.besideCt a ρ ρ := ⟨Rod.carries_refl _ _ _, rfl⟩

theorem Rod.besideCt_pw (i : Nat) (v : Word) (hi : i ≠ a) (h : Rod.besideCt a ρ q) : Rod.besideCt a ρ (q.pw i v) :=
  ⟨Rod.carries_pw i v (by simpa using hi) h.carry, h.ledger⟩

theorem Rod.besideCt_p (f : Fld) (v : Nat) (hf : f.addr ≠ a) (h : Rod.besideCt a ρ q) : Rod.besideCt a ρ (q.p f v) :=
  Rod.besideCt_pw f.addr _ hf h

theorem Rod.besideCt_irq (p i : Nat) (h : Rod.besideCt a ρ q) : Rod.besideCt a ρ (q.irq p i) :=
  ⟨Rod.carries_irq p i h.carry, by rw [show (q.irq p i).ct = q.ct from Rod.irqMask_ct q p _]; exact h.ledger⟩

theorem Rod.besideCt_flt (c sv pg : Nat) (d : List (Nat × Nat × Nat)) (h : Rod.besideCt a ρ q) : Rod.besideCt a ρ (q.flt c sv pg d) :=
  ⟨Rod.carries_fltAP h.carry, h.ledger⟩

theorem Rod.besideCt_putQp (i : Nat) (k : Qp) (h : Rod.besideCt a ρ q) : Rod.besideCt a ρ (q.putQp i k) :=
  ⟨Rod.carries_same h.carry, h.ledger⟩

theorem Rod.besideCt_hostWr (n i : Nat) (bs : List Byte) (h : Rod.besideCt a ρ q) : Rod.besideCt a ρ (Rod.hostWr n q i bs) := by
  induction n generalizing q i bs with
  | zero => exact h
  | succ n ih =>
    unfold Rod.hostWr
    exact iteInduction (motive := Rod.besideCt a ρ) (fun _ => h) fun _ => ih _ _ ⟨Rod.carries_send _ h.carry, h.ledger⟩

theorem Rod.besideCt_postEvt (i kind handle result : Nat) (ho : a % 0x1000 = 0x44) (h : Rod.besideCt a ρ q) :
    Rod.besideCt a ρ (q.postEvt i kind handle result) := by
  have htail (p : Rod) (v : Nat) (hp : Rod.besideCt a ρ p) : Rod.besideCt a ρ (p.p (Fl.CQ_TAIL_TAIL i) v) :=
    Rod.besideCt_p _ v (by simp only [Fl.CQ_TAIL_TAIL, Fld.addr]; omega) hp
  have hovf : (Fl.QP_STAT_CQ_OVF i).addr ≠ a := by simp only [Fl.QP_STAT_CQ_OVF, Fld.addr]; omega
  unfold Rod.postEvt
  split
  · refine iteInduction (motive := Rod.besideCt a ρ) (fun _ => ?_) fun _ =>
      Rod.besideCt_flt _ _ _ _ (Rod.besideCt_irq _ _ (Rod.besideCt_p _ 1 hovf h))
    refine Rod.when_invariant (Rod.besideCt a ρ) _ _ (fun _ => Rod.besideCt_irq _ _) _ ?_
    exact iteInduction (motive := Rod.besideCt a ρ) (fun _ => Rod.besideCt_putQp _ _ (htail _ _ (Rod.besideCt_hostWr _ _ _ h)))
      fun _ => htail _ _ (Rod.besideCt_hostWr _ _ _ h)
  · exact h

variable (hp : a < 0x50000)
include hp

theorem Rod.besideCt_ctEvent (kind reason handle result : Nat) (h : Rod.besideCt a ρ q) :
    Rod.besideCt a ρ (q.ctEvent kind reason handle result) := by
  refine Rod.besideCt_p Fl.CT_EVT_IDX_NEXT _ ?_ (Rod.besideCt_pw _ _ ?_ (Rod.besideCt_pw _ _ ?_ h))
  · simp only [Fl.CT_EVT_IDX_NEXT, Fld.addr]; omega
  · unfold Rg.CT_EVT_FT; omega
  · unfold Rg.CT_EVT; omega

theorem Rod.besideCt_showCt (h : Rod.besideCt a ρ q) : Rod.besideCt a ρ q.showCt := by
  have hpage {p : Rod} (o lo w v : Nat) (hq : Rod.besideCt a ρ p) : Rod.besideCt a ρ (p.p ⟨0x50, o, lo, w⟩ v) :=
    Rod.besideCt_p _ v (by simp only [Fld.addr]; omega) hq
  have hshown := hpage 0x48 (Fl.CT_STAT_NOTICE).lo (Fl.CT_STAT_NOTICE).w (b2n (!q.ct.notices.isEmpty)) (hpage 0x48 (Fl.CT_STAT_LOAD).lo
    (Fl.CT_STAT_LOAD).w (min 63 q.load) (hpage 0x48 (Fl.CT_STAT_USED).lo (Fl.CT_STAT_USED).w q.ct.ledger.length h))
  exact iteInduction (motive := Rod.besideCt a ρ) (fun _ => hpage _ _ _ _ (hpage _ _ _ _ (hpage _ _ _ _ hshown))) fun _ => hshown

/-- A contract that breaks is BROKEN with its reason, and recorded; nothing else of the ledger changes. -/
theorem Rod.breakEntry_spec (ps : RodId → Rod) (k reason : Nat) (e : LedgerEntry) (ho : a % 0x1000 = 0x44) (he : q.entry k = some e) :
    Rod.besideCt a (q.putEntry k { e with state := leBroken, reason := reason }) (q.breakEntry ps k reason) ∧
    (q.breakEntry ps k reason).noted 0x0711 sevDegrade 0x050 := by
  have hput := Rod.besideCt_irq 0x050 2 (Rod.besideCt_ctEvent hp 3 reason e.handle.toNat q.ft
    (Rod.besideCt_refl a (q.putEntry k { e with state := leBroken, reason := reason })))
  unfold Rod.breakEntry
  rw [he]
  dsimp only
  generalize Rod.irq _ 0x050 2 = p at hput ⊢
  have htell {x : Rod} (hx : Rod.besideCt a x (p.flt 0x0711 sevDegrade 0x050 [(0, 2, e.handle.toNat), (2, 1, reason), (8, 8, q.ft)]))
      (post : Prop) [Decidable post] : Rod.besideCt a x (if post then
        (p.flt 0x0711 sevDegrade 0x050 [(0, 2, e.handle.toNat), (2, 1, reason), (8, 8, q.ft)]).postEvt e.queue 3 e.handle.toNat q.ft
        else p.flt 0x0711 sevDegrade 0x050 [(0, 2, e.handle.toNat), (2, 1, reason), (8, 8, q.ft)]).showCt :=
    Rod.besideCt_showCt hp (iteInduction (motive := Rod.besideCt a x) (fun _ => Rod.besideCt_postEvt _ _ _ _ ho hx) fun _ => hx)
  exact ⟨htell (Rod.besideCt_flt _ _ _ _ hput) _, (htell (Rod.besideCt_refl a _) _).carry.noted (Rod.noted_fltAP _ _ _ _ _ _ _)⟩

end

/-! ### The loss of the urgent class -/

theorem qpClass_place (n : Fin 16) : Rg.QP_CLASS n % 0x1000 = 0x44 ∧ Rg.QP_CLASS n < 0x50000 := by
  unfold Rg.QP_CLASS
  omega

/-- A contract of the urgent class whose source is a queue of this rod (R244). -/
def Rod.queueSources (ρ : Rod) (n : Nat) (e : LedgerEntry) : Prop :=
  (e.state = leActive ∨ e.state = leNotice) ∧ e.args.cls ≠ 0 ∧ epType (e.args.src.get ρ.me.idx) = 2 ∧
    epQueue (e.args.src.get ρ.me.idx) = n

/-- In `q` the entry `i` has the arguments of `e`, QP_CLASS is as in `ρ`, and what was detected is kept. -/
def Rod.contracted (ρ : Rod) (n i : Nat) (e : LedgerEntry) (q : Rod) : Prop :=
  ρ.carries (fun _ => ()) (· == Rg.QP_CLASS n) q ∧ ∃ e', q.entry i = some e' ∧ e'.args = e.args

/-- In `q` the entry `i` is BROKEN as its queue has left the urgent class, and that is recorded. -/
def Rod.declassed (ρ : Rod) (n i : Nat) (e : LedgerEntry) (q : Rod) : Prop :=
  ρ.carries (fun _ => ()) (· == Rg.QP_CLASS n) q ∧ q.noted 0x0711 sevDegrade 0x050 ∧
    ∃ e', q.entry i = some e' ∧ e'.state = leBroken ∧ e'.reason = 7 ∧ e'.args = e.args

section
variable {ρ q : Rod} {n : Fin 16} {i : Nat} {e : LedgerEntry} (ps : RodId → Rod)

theorem Rod.breakEntry_carries (k : Nat) : q.carries (fun _ => ()) (· == Rg.QP_CLASS n) (q.breakEntry ps k 7) := by
  cases hx : q.entry k with
  | none =>
    unfold Rod.breakEntry
    rw [hx]
    exact Rod.carries_refl _ _ _
  | some x =>
    obtain ⟨hb, -⟩ := Rod.breakEntry_spec (qpClass_place n).2 ps k 7 x (qpClass_place n).1 hx
    exact Rod.carries_trans (Rod.carries_same (Rod.carries_refl _ _ _)) hb.carry

/-- The entries after one contract is broken: that one BROKEN, the others as before. -/
theorem Rod.entry_breakEntry (k j : Nat) {x : LedgerEntry} (hx : q.entry j = some x) : (q.breakEntry ps k 7).entry j =
    some (if j = k then { x with state := leBroken, reason := 7 } else x) := by
  cases hk : q.entry k with
  | none =>
    have hne : j ≠ k := fun h => by rw [h, hk] at hx; cases hx
    unfold Rod.breakEntry
    rw [hk, if_neg hne]
    exact hx
  | some y =>
    obtain ⟨hb, -⟩ := Rod.breakEntry_spec (qpClass_place 0).2 ps k 7 y (qpClass_place 0).1 hk
    have hentry : (q.breakEntry ps k 7).entry j = (q.putEntry k { y with state := leBroken, reason := 7 }).entry j := by
      unfold Rod.entry
      rw [hb.ledger]
    rw [hentry, Rod.entry_putEntry]
    split
    next h => rw [h, hk] at hx; rw [Option.some.inj hx]
    next => exact hx

theorem Rod.contracted_breakEntry (k : Nat) (h : ρ.contracted n i e q) : ρ.contracted n i e (q.breakEntry ps k 7) := by
  obtain ⟨hc, x, hx, hargs⟩ := h
  refine ⟨Rod.carries_trans hc (Rod.breakEntry_carries ps k), _, Rod.entry_breakEntry ps k i hx, ?_⟩
  split <;> exact hargs

theorem Rod.declassed_breakEntry (k : Nat) (h : ρ.declassed n i e q) : ρ.declassed n i e (q.breakEntry ps k 7) := by
  obtain ⟨hc, hn, x, hx, hstate, hreason, hargs⟩ := h
  have hb := Rod.breakEntry_carries (q := q) (n := n) ps k
  refine ⟨Rod.carries_trans hc hb, hb.noted hn, _, Rod.entry_breakEntry ps k i hx, ?_⟩
  split
  · exact ⟨rfl, rfl, hargs⟩
  · exact ⟨hstate, hreason, hargs⟩

theorem Rod.contracted_breaks (h : ρ.contracted n i e q) : ρ.declassed n i e (q.breakEntry ps i 7) := by
  obtain ⟨hc, x, hx, hargs⟩ := h
  obtain ⟨-, hn⟩ := Rod.breakEntry_spec (qpClass_place n).2 ps i 7 x (qpClass_place n).1 hx
  refine ⟨Rod.carries_trans hc (Rod.breakEntry_carries ps i), hn, _, Rod.entry_breakEntry ps i i hx, ?_⟩
  rw [if_pos rfl]
  exact ⟨rfl, rfl, hargs⟩

/-- Every contract that the queue sources breaks with the urgent class (R244). -/
theorem Rod.classBroken_declassed (he : ρ.entry i = some e) (hs : ρ.queueSources n e) : ρ.declassed n i e (ρ.classBroken ps n) := by
  refine Rod.each_establishes (ρ.contracted n i e) (ρ.declassed n i e) _ (i, e) _ (Rod.entry_mem he) (fun x q hq => ?_) (fun q hq => ?_)
    (fun x q hq => ?_) ρ ⟨Rod.carries_refl _ _ _, e, he, rfl⟩
  · exact iteInduction (motive := ρ.contracted n i e) (fun _ => Rod.contracted_breakEntry ps x.1 hq) fun _ => hq
  · dsimp only
    rw [if_pos (by exact hs)]
    exact Rod.contracted_breaks ps hq
  · exact iteInduction (motive := ρ.declassed n i e) (fun _ => Rod.declassed_breakEntry ps x.1 hq) fun _ => hq

theorem Rod.classBroken_carries : ρ.carries (fun _ => ()) (· == Rg.QP_CLASS n) (ρ.classBroken ps n) := by
  refine Rod.carries_each _ _ (fun x q hq => ?_) (Rod.carries_refl _ _ _)
  exact iteInduction (motive := ρ.carries (fun _ => ()) (· == Rg.QP_CLASS n)) (fun _ => Rod.carries_trans hq (Rod.breakEntry_carries ps x.1))
    fun _ => hq

end

/-! ### What a write of QP_CLASS does -/

/-- The rod with the class of a queue set. -/
def Rod.classSet (ρ : Rod) (n : Nat) (data : Word) : Rod := ρ.p (Fl.QP_CLASS_URGENT n) (wBits data 0 1)

theorem wBits_bit (w : Word) : wBits w 0 1 = b2n (wBit w 0) := by
  have hlt := wBits_lt w 0 1
  have hbit : (wBits w 0 1).testBit 0 = wBit w 0 := by rw [wBits_testBit]; rfl
  rw [← hbit, Nat.testBit_zero]
  rcases Nat.mod_two_eq_zero_or_one (wBits w 0 1) with h | h
  · simp [h, b2n]
    omega
  · simp [h, b2n]
    omega

theorem Rod.classSet_urgent (ρ : Rod) (n : Nat) (data : Word) : (ρ.classSet n data).b (Fl.QP_CLASS_URGENT n) = wBit data 0 := by
  unfold Rod.classSet
  rw [wBits_bit]
  exact Rod.b_p ρ (Fl.QP_CLASS_URGENT n) (wBit data 0) (by simp [Fl.QP_CLASS_URGENT]) rfl

theorem qpClass_not_log (n : Fin 16) : Rg.QP_CLASS n ∉ logRegs := by
  decide +revert

theorem Rod.writeQpClass_kept (ρ : Rod) (ps : RodId → Rod) (n : Fin 16) (data : Word)
    (h : ρ.b (Fl.QP_CLASS_URGENT n) = false ∨ wBit data 0 = true) :
    let τ := (ρ.writeQpClass ps n data).flush
    τ.b (Fl.QP_CLASS_URGENT n) = wBit data 0 ∧ ρ.only τ [Rg.QP_CLASS n] ρ := by
  have hw : ρ.writeQpClass ps n data = ρ.classSet n data := if_neg (by rcases h with h | h <;> simp [h])
  dsimp only
  rw [hw]
  exact ⟨(Rod.flush_b _ (Fl.QP_CLASS_URGENT n) (qpClass_not_log n)).trans (Rod.classSet_urgent ρ n data),
    Rod.only_flush (Rod.only_p (Fl.QP_CLASS_URGENT n) _ (by simp [Fl.QP_CLASS_URGENT, Fld.addr, Rg.QP_CLASS]) (Rod.only_refl _ _))⟩

theorem Rod.writeQpClass_lost (ρ : Rod) (ps : RodId → Rod) (n : Fin 16) (data : Word) (h : ρ.b (Fl.QP_CLASS_URGENT n) = true)
    (hd : wBit data 0 = false) :
    let τ := (ρ.writeQpClass ps n data).flush
    τ.b (Fl.QP_CLASS_URGENT n) = false ∧ ∀ i e, ρ.entry i = some e → ρ.queueSources n e →
      τ.recorded 0x0711 sevDegrade 0x050 ∧ ∃ e', τ.entry i = some e' ∧ e'.state = leBroken ∧ e'.reason = 7 ∧ e'.args = e.args := by
  have hw : ρ.writeQpClass ps n data = (ρ.classSet n data).classBroken ps n := if_pos (by simp [h, hd])
  dsimp only
  rw [hw]
  have hc := Rod.classBroken_carries (ρ := ρ.classSet n data) (n := n) ps
  refine ⟨?_, fun i e he hs => ?_⟩
  · rw [Rod.flush_b _ (Fl.QP_CLASS_URGENT n) (qpClass_not_log n), hc.b (Fl.QP_CLASS_URGENT n) (by simp [Fl.QP_CLASS_URGENT, Fld.addr, Rg.QP_CLASS])
      (by simp only [Fl.QP_CLASS_URGENT, Fld.addr]; omega)]
    exact (Rod.classSet_urgent ρ n data).trans hd
  · obtain ⟨-, hn, x, hx, hstate, hreason, hargs⟩ := Rod.classBroken_declassed (ρ := ρ.classSet n data) ps he hs
    refine ⟨(Rod.carries_refl (fun _ => ()) (fun _ => false) _).recorded hn rfl, x, ?_, hstate, hreason, hargs⟩
    unfold Rod.entry at hx ⊢
    rwa [Rod.flush_ct]

end Sys2Proof.Machine
end

section
/-! The endpoint and the fabric (spec/06_host_port.md). -/

namespace Sys2Proof.Machine

/-- Settles O57: each command does on its rod what the theorem on its operation says, and the records are written. -/
theorem endpointAndFabricAct : Obligations.EndpointAndFabricAct := by
  unfold Obligations.EndpointAndFabricAct
  intro s r σ leaves idle
  have hrod {i : Instr} {f : Rod → Rod} {P : Rod → Prop} (he : exec i s = onRod s r f) (h : P (f σ).flush) : leaves i P :=
    completes_onRod (P := P) he h
  have hidle {i : Instr} {f : Rod → Rod} (he : exec i s = onRod s r f) (h : f σ = σ) : idle i :=
    hrod (P := fun τ => σ.only τ [] σ) he (by rw [h]; exact Rod.only_flush (Rod.only_refl σ []))
  have hbell {i : Instr} {path : Path} {q : Fin 16} {a : Nat} {data : Word} {P : Rod → Prop} (he : exec i s = write32 s r path a data)
      (hacc : σ.accepts path a) (ha : a ∈ [Rg.SQ_TAIL q, Rg.CQ_HEAD q, Rg.QP_CLASS q])
      (h : P (σ.writeReg s.rod path.code a data).flush) : leaves i P :=
    completes_write32 (P := P) he hacc (queueRegs_plain q a ha) (queueRegs_no_rwl q a ha) h
  clear_value idle leaves
  refine ⟨fun i hi => ?_, fun speed => ⟨fun h => ?_, fun h hup => ?_⟩, ?_, ?_,
    fun path q data => ⟨fun ha => ⟨fun h => ?_, fun h => ?_⟩, fun ha => ⟨fun h => ?_, fun h => ?_⟩, fun ha => ⟨fun h => ?_, fun h hd => ?_⟩⟩,
    fun req bulk beats => ?_, fun i => ⟨fun h => ?_, fun h => ?_⟩, fun k => ⟨fun h => ?_, fun h hd => ?_⟩,
    fun e hr => ⟨fun hmay => ?_, fun hmay => ?_⟩⟩
  · obtain ⟨cause, he, hflr⟩ : ∃ cause, exec i s = onRod s r (fun ρ => ρ.endpointDown cause) ∧
        decide (i = .flr r) = decide (cause = 4) := by
      simp only [List.mem_cons, List.not_mem_nil, or_false] at hi
      rcases hi with rfl | rfl | rfl | rfl
      · exact ⟨1, rfl, by simp⟩
      · exact ⟨2, rfl, by simp⟩
      · exact ⟨3, rfl, by simp⟩
      · exact ⟨4, rfl, by simp⟩
    refine hrod he ?_
    rw [hflr]
    exact Rod.endpointDown_flush σ cause
  · refine hidle (f := fun ρ => ρ.linkUpIn speed) rfl ?_
    exact if_pos (h.imp_left (congrArg Fin.val))
  · refine hrod (f := fun ρ => ρ.linkUpIn speed) rfl ?_
    exact Rod.linkUpIn_flush σ speed h hup
  · refine hrod (f := fun ρ => { ρ with hp := { ρ.hp with d3 := true } }) rfl ?_
    exact Rod.only_flush (Rod.only_parts [])
  · refine hrod (f := fun ρ => { ρ with hp := { ρ.hp with d3 := false } }) rfl ?_
    exact Rod.only_flush (Rod.only_parts [])
  · refine hbell (q := q) rfl ha (by simp) ?_
    obtain ⟨hon, hv⟩ := h
    rw [Rod.writeReg_SQ_TAIL, Rod.writeSqTail_in _ _ _ _ hon hv]
    exact Rod.bellSet_flush σ (Fl.SQ_TAIL_TAIL q) data rfl rfl (not_logRegs (by simp only [Fl.SQ_TAIL_TAIL, Fld.addr]; omega))
  · refine hbell (q := q) rfl ha (by simp) ?_
    rw [Rod.writeReg_SQ_TAIL, Rod.writeSqTail_out _ _ _ _ h]
    exact Rod.badBell_flush σ path q 0x5C data (by decide)
  · refine hbell (q := q) rfl ha (by simp) ?_
    obtain ⟨hon, hv, hreach⟩ := h
    rw [Rod.writeReg_CQ_HEAD, Rod.writeCqHead_in _ _ _ _ hon hv hreach]
    exact Rod.bellSet_flush σ (Fl.CQ_HEAD_HEAD q) data rfl rfl (not_logRegs (by simp only [Fl.CQ_HEAD_HEAD, Fld.addr]; omega))
  · refine hbell (q := q) rfl ha (by simp) ?_
    rw [Rod.writeReg_CQ_HEAD, Rod.writeCqHead_out _ _ _ _ h]
    exact Rod.badBell_flush σ path q 0x64 data (by decide)
  · refine hbell (q := q) rfl ha (by simp) ?_
    rw [Rod.writeReg_QP_CLASS]
    exact Rod.writeQpClass_kept σ s.rod q data h
  · refine hbell (q := q) rfl ha (by simp) ?_
    rw [Rod.writeReg_QP_CLASS]
    obtain ⟨hbit, hbroken⟩ := Rod.writeQpClass_lost σ s.rod q data h hd
    exact ⟨hbit, fun i e he hs hc ht hq => hbroken i e he ⟨hs, hc, ht, hq⟩⟩
  · refine hrod (f := fun ρ => (ρ.fabricGrant req.toNat bulk.toNat beats).burstMoves) rfl ?_
    exact Rod.fabricGrant_flush σ req bulk beats
  · refine hidle (f := fun ρ => ρ.starvation i) rfl ?_
    exact Rod.starvation_idle σ i h
  · refine hrod (f := fun ρ => ρ.starvation i) rfl ?_
    exact Rod.starvation_flush σ i h
  · refine hidle (f := fun ρ => ρ.lockTimeout (k.val + 1)) rfl ?_
    exact Rod.lockTimeout_idle σ _ h
  · refine hrod (f := fun ρ => ρ.lockTimeout (k.val + 1)) rfl ?_
    exact Rod.lockTimeout_flush σ k h hd
  · refine hrod (f := fun ρ => ρ.relayIn e) rfl ?_
    exact (Rod.relayIn_flush σ e hr).1 hmay
  · refine hrod (f := fun ρ => ρ.relayIn e) rfl ?_
    exact (Rod.relayIn_flush σ e hr).2 hmay

end Sys2Proof.Machine
end
